-- ==== Sys2Proof/Word.lean ====
section
/-! DEFINITION. The byte that messages, images and memories are made of. -/

-- One task at a time: the package as one text has thousands of short theorems.
set_option Elab.async false

namespace Sys2Proof

/-- One byte of a message, an image or an OCTETS value. -/
abbrev Byte := BitVec 8

end Sys2Proof
end

