-- ==== Sys2Proof/Types.lean ====
section
/-! DEFINITION. The operand types of the commands that are more than a number: who asks for an access, what comes with a
request (R453 to R468), a ring frame (R365), and what a roll call found and fixed (R362). -/

namespace Sys2Proof

/-- The access paths into the object dictionary (R463 to R467). -/
inductive Path where
  | eth | can | spi | ring
  deriving DecidableEq, Repr

/-- Who sends a request, and the parts of its header that do not name the entry (R453, R454). -/
structure Req where
  /-- local time in ps at which the request reaches the host cluster; one that has passed means now -/
  t : Nat
  path : Path
  /-- sender address and port on Ethernet, identifier on CAN FD, forwarding node on the ring -/
  who : Nat
  tag : Nat
  /-- NODE[9:0] of the address -/
  node : Nat
  /-- NODE bit 15: the device that first receives the message -/
  isLocal : Bool
  proto : Nat
  deriving DecidableEq, Repr

/-- A request message by its fields (R454). `op` is the code of R456. -/
structure Msg where
  req : Req
  op : Nat
  idx : Nat
  sub : Nat
  first : Bool
  last : Bool
  snap : Bool
  offset : Nat
  len : Nat
  data : List Byte
  deriving DecidableEq, Repr

/-- A ring frame by its fields (R366, R367). The class follows from the type. -/
structure Frame where
  typ : Nat
  /-- TC0 frame number -/
  num : Nat
  src : Nat
  dst : Nat
  scope : Nat
  seq : Nat
  /-- rotation, 0 A and 1 B -/
  rot : Nat
  hops : Nat
  /-- the sender has no node ID -/
  unassigned : Bool
  payload : List Byte
  deriving DecidableEq, Repr

/-- Where a guard finds wrong parity: in its registers for a leg (R108), or in the command word that it gets for it (R94). -/
structure GuardWord where
  leg : Fin 192
  command : Bool
  deriving DecidableEq, Repr

/-- A 64-bit block payload as the line carries it, scrambled, and the 58 line bits before it (R341); bit 0 is the first. -/
structure LineBits where
  before : BitVec 58
  block : BitVec 64
  deriving DecidableEq, Repr

/-- An access over the interconnect: its master (R13), and whether it writes (R14). -/
structure BusUse where
  master : Fin 12
  write : Bool
  deriving DecidableEq, Repr

/-- A low of PORST_N (R504): its length, and for how long VDD_CORE lies below its range from its fall on (R495), in ps. -/
structure CoreLow where
  width : Nat
  core : Nat
  deriving DecidableEq, Repr

/-- A record of STR_MEMBERS (R208): node, slot, spare or active as configured, position. -/
structure Member where
  node : Nat
  slot : Nat
  spare : Bool
  pos : Nat
  deriving DecidableEq, Repr

/-- A TC0 window on a lane (R375): its frame, and when it opens and closes within the system cycle, in ns. -/
structure Window where
  lane : Nat
  src : Nat
  num : Nat
  opens : Nat
  close : Nat
  deriving DecidableEq, Repr

/-- A device that answered the discovery of a roll call (R362): serial number, role, serial number of the bridge of its
branch or 0 on the trunk, hops on rotation A from node 0 or from its bridge, and the ID it gets from another manager. -/
structure Found where
  serial : Nat
  role : Nat
  branch : Nat
  hops : Nat
  id : Nat
  deriving DecidableEq, Repr

/-- What a device tells the active manager at a roll call of one of its string entries (R208): STR_ID, the node ID it gets, its
members, the six values that have to be equal on all member devices, the staged periods of its members' DAB carriers, and
whether its members' legs and carriers are as R208 asks. -/
structure StrReport where
  id : Nat
  node : Nat
  members : List Member
  carP : Nat
  glideDiv : Nat
  ctrl : Nat
  lag : Nat
  cell : Nat
  tripMax : Nat
  pds : List Nat
  carsOk : Bool
  deriving DecidableEq, Repr

/-- What a roll call found and fixed (R362): delays in ns, the greatest TC0 time on a lane per system cycle in ns, the
hops of this device to its ring's time source on A and B, its TX offsets, the windows on its lanes, the members of its rings, its own ID
from another manager, the string entries of the other devices (R208), and whether it is the partial roll call of a join (R363): its
`found` and member lists then hold every device of before and the newcomers, its windows only those added, `tc0` the total. -/
structure Roll where
  part : Bool
  found : List Found
  dTrunk : Nat
  dBranch : Nat
  dBranchMax : Nat
  tc0 : Nat
  hopsA : Nat
  hopsB : Nat
  offsets : List Nat
  windows : List Window
  upper : List Nat
  lower : List Nat
  ownId : Nat
  strings : List StrReport
  deriving DecidableEq, Repr

end Sys2Proof
end

