-- ==== Sys2Proof/Syntax.lean ====
section
/-! DEFINITION. The commands that the block takes: one constructor per row of spec/opcode_table.json. A command names what
comes from outside: a request on an access path, the level or the edge of a pin, a frame or a block received, a report of
a unit, or the moment at which something in the device falls due (log entry 1). A time `t` is a local time in ps. -/

namespace Sys2Proof

/-- A command. -/
inductive Instr where
  /-- OD_READ: READ of an entry (R456); a LEN other than 0 asks for the first LEN bytes -/
  | odRead (q : Req) (idx : BitVec 16) (sub : BitVec 8) (len : BitVec 16)
  /-- OD_WRITE: WRITE of a whole value (R448, R462) -/
  | odWrite (q : Req) (idx : BitVec 16) (sub : BitVec 8) (data : List Byte)
  /-- DESCRIBE: the descriptor of an entry (R459) -/
  | describe (q : Req) (idx : BitVec 16) (sub : BitVec 8) (offset : BitVec 32) (len : BitVec 16)
  /-- READ_SEG: part of a value, from a snapshot where SNAP asks for one (R458) -/
  | readSeg (q : Req) (idx : BitVec 16) (sub : BitVec 8) (snap : Bool) (offset : BitVec 32) (len : BitVec 16)
  /-- WRITE_SEG: one segment of a segmented write (R457) -/
  | writeSeg (q : Req) (idx : BitVec 16) (sub : BitVec 8) (first : Bool) (last : Bool) (offset : BitVec 32) (data : List Byte)
  /-- ABORT_SEG: the requester ends its open transfer (R457) -/
  | abortSeg (q : Req) (idx : BitVec 16) (sub : BitVec 8)
  /-- HELLO: protocol, profile, versions and the data limit of the path (R460) -/
  | hello (q : Req) (len : BitVec 16)
  /-- SEGMENT_TIMEOUT: the open transfer of an entry has had no segment for 10 s (R457) -/
  | segmentTimeout (idx : BitVec 16) (sub : BitVec 8)
  /-- SNAPSHOT_RELEASE: a snapshot buffer, 1 s after its last use (R458) -/
  | snapshotRelease
  /-- OD_RESPONSE_RX: a TYPE 0x06 response of a node, by its payload (R467) -/
  | odResponseRx (t : Nat) (src : Fin 1024) (p : List Byte)
  /-- OD_REMOTE_TMO: the oldest forwarded request has waited OD_REMOTE_TMO (R467) -/
  | odRemoteTmo
  /-- WRITE_REQ: a host SPI WRITE_REQ: its bytes, and whether SPI_CS_N let it end (R465) -/
  | writeReq (t : Nat) (l : List Byte) (whole : Bool)
  /-- READ_RESP: a host SPI READ_RESP (R465) -/
  | readResp (t : Nat) (whole : Bool)
  /-- READ_STATUS: a host SPI READ_STATUS (R465) -/
  | readStatus (t : Nat)
  /-- SPI_IRQ_PEND_READ: a read of SPI_IRQ_PEND (R466) -/
  | spiIrqPendRead (q : Req)
  /-- CAN_BUS_OFF: the CAN FD controller goes bus-off (R464) -/
  | canBusOff (t : Nat)
  /-- ETH_LINK_DOWN: the Ethernet link goes down (R473) -/
  | ethLinkDown (t : Nat)
  /-- TR_PERIOD_COPY: a trace signal bound to an entry copies it (R470) -/
  | trPeriodCopy (sig : Fin 32768)
  /-- SLOT_TEMPLATE_WRITE: SLOT_TEMPLATE (R44) -/
  | slotTemplateWrite (q : Req) (c : Fin 32) (v : BitVec 8)
  /-- START: SLOT_CMD START on the units of a mask (R38) -/
  | start (q : Req) (c : Fin 32) (mask : BitVec 6)
  /-- STOP: SLOT_CMD STOP on the units of a mask (R33) -/
  | stop (q : Req) (c : Fin 32) (mask : BitVec 6)
  /-- BYPASS: SLOT_CMD BYPASS; the mask is ignored (R36) -/
  | bypass (q : Req) (c : Fin 32) (mask : BitVec 6)
  /-- INSERT: SLOT_CMD INSERT; the mask is ignored (R226) -/
  | insert (q : Req) (c : Fin 32) (mask : BitVec 6)
  /-- CLEAR: SLOT_CMD CLEAR on the units of a mask (R37) -/
  | clear (q : Req) (c : Fin 32) (mask : BitVec 6)
  /-- ALL_STOP: ALL_STOP (R46) -/
  | allStop (q : Req)
  /-- UNIT_LOOP_BIND: UNIT_LOOP of a unit (R43) -/
  | unitLoopBind (q : Req) (c : Fin 32) (u : Fin 6) (v : BitVec 8)
  /-- SAFEOFF_STEP: the next step of the sequence that runs on a unit (R31) -/
  | safeoffStep (c : Fin 32) (u : Fin 6)
  /-- CAR_RUN_START: CAR_RUN 0x01 (R52) -/
  | carRunStart (q : Req) (k : Fin 64)
  /-- CAR_RUN_STOP: CAR_RUN 0x02 (R53) -/
  | carRunStop (q : Req) (k : Fin 64)
  /-- CARRIER_START: an ARMED carrier starts (R52) -/
  | carrierStart (k : Fin 64)
  /-- CARRIER_VALLEY: a carrier reaches n = 0 (R51) -/
  | carrierValley (k : Fin 64)
  /-- CARRIER_PEAK: a carrier reaches n = P (R51) -/
  | carrierPeak (k : Fin 64)
  /-- CAR_COMMIT: CAR_COMMIT 0x01 (R61) -/
  | carCommit (q : Req) (k : Fin 64)
  /-- CAR_COMMIT_DISCARD: CAR_COMMIT 0x02 (R64) -/
  | carCommitDiscard (q : Req) (k : Fin 64)
  /-- LEG_OWN_PEAK: a leg reaches its own peak (R55) -/
  | legOwnPeak (l : Fin 192)
  /-- FORCE_NONE: LEG_FORCE mode NONE, with NOW or without (R73, R74) -/
  | forceNone (q : Req) (l : Fin 192) (imm : Bool)
  /-- FORCE_OFF: LEG_FORCE mode OFF, with NOW or without (R73, R74) -/
  | forceOff (q : Req) (l : Fin 192) (imm : Bool)
  /-- FORCE_UPPER: LEG_FORCE mode UPPER, with NOW or without (R73, R74) -/
  | forceUpper (q : Req) (l : Fin 192) (imm : Bool)
  /-- FORCE_LOWER: LEG_FORCE mode LOWER, with NOW or without (R73, R74) -/
  | forceLower (q : Req) (l : Fin 192) (imm : Bool)
  /-- FORCE_RAW: LEG_FORCE mode RAW (R73, R74) -/
  | forceRaw (q : Req) (l : Fin 192) (imm : Bool) (gh : Bool) (gl : Bool)
  /-- BOOT_REFRESH_END: a bootstrap refresh ends (R76) -/
  | bootRefreshEnd (l : Fin 192)
  /-- PKL_CUT: a peak-limit source asserts its line: the bits of a modulator input up to t, or the code v at a comparator (R78) -/
  | pklCut (src : BitVec 8) (stream : List Bool) (v : Int) (t : Nat)
  /-- PWM_PARITY_ERROR: a parity error on the registers of a leg, or of a carrier (R81) -/
  | pwmParityError (t : Nat) (carrier : Bool) (i : Fin 192)
  /-- CLK_PWM_MISSING: CLK_PWM is reported missing (R107) -/
  | clkPwmMissing (t : Nat)
  /-- GATE_RELEASE: the incoming gate of a leg rises at its t_rel (R87) -/
  | gateRelease (l : Fin 192) (gh : Bool)
  /-- SN_TRANSITION: a switching node shows another level (R86) -/
  | snTransition (l : Fin 192) (t : Nat) (high : Bool)
  /-- SN_CONFIRM_EXPIRY: SN has not shown the incoming level in time (R89) -/
  | snConfirmExpiry (l : Fin 192)
  /-- GG_DT_WRITE: a dead-time entry, sub 0x01 to 0x06 (R93) -/
  | ggDtWrite (q : Req) (l : Fin 192) (which : Fin 6) (v : BitVec 16)
  /-- FK_ASSERT: FK asserts (R95) -/
  | fkAssert (l : Fin 192) (t : Nat)
  /-- FK_RELEASE: FK releases (R96) -/
  | fkRelease (l : Fin 192) (t : Nat)
  /-- FK_DECISION: an assertion seen for 10 ns outside blanking (R97) -/
  | fkDecision (l : Fin 192)
  /-- FK_HARD: an assertion held for 150 ns inside blanking (R96) -/
  | fkHard (l : Fin 192)
  /-- BLANKING_END: blanking ends (R96) -/
  | blankingEnd (l : Fin 192)
  /-- SUPPLY_WAKE_EXPIRY: a charge-pump wait reaches SLOT_SUPPLY_WAKE (R103) -/
  | supplyWakeExpiry (l : Fin 192)
  /-- GG_PARITY_ERROR: a parity error on the guard registers of a leg (R108) -/
  | ggParityError (t : Nat) (w : GuardWord)
  /-- SAFEOFF_RECORD_RX: a safe-off record of a string member (R100) -/
  | safeoffRecordRx (t : Nat) (node : Fin 1024) (id : BitVec 16) (slot : Fin 32) (die : Bool) (t0 : BitVec 112)
  /-- SAFEOFF_RECORD_EXPIRY: safe-off records end 100 µs after their t0 (R100) -/
  | safeoffRecordExpiry
  /-- STRING_TRIP_RECORD_RX: a string-trip record (R101) -/
  | stringTripRecordRx (t : Nat) (node : Fin 1024) (id : BitVec 16)
  /-- STO_ASSERT: an STO input is low for `width` ns from t on (R311) -/
  | stoAssert (g : Fin 2) (t : Nat) (width : Nat)
  /-- STO_RELEASE: an STO input is high from t on (R311) -/
  | stoRelease (g : Fin 2) (t : Nat)
  /-- MD_CTRL_WRITE: MD_CTRL, an OSR or MD_TRIP_ACT (R123) -/
  | mdCtrlWrite (q : Req) (m : Fin 96) (which : Fin 4) (v : BitVec 16)
  /-- MD_TIMING_VIOLATION: a data transition within 4 ns of the capture edge (R116) -/
  | mdTimingViolation (m : Fin 96) (t : Nat)
  /-- MD_CLOCK_RECOVER: 1 ms after the last timing violation (R116) -/
  | mdClockRecover (m : Fin 96)
  /-- MD_RUN_LIMIT: a run of identical bits (R117) -/
  | mdRunLimit (m : Fin 96) (t : Nat) (run : Nat)
  /-- MD_FILTER_FILLED: a filter completes its fill time (R118) -/
  | mdFilterFilled (m : Fin 96) (t : Nat) (ctrl : Bool)
  /-- MD_TRIP: a trip asserts: the bits captured up to t (R121) -/
  | mdTrip (m : Fin 96) (t : Nat) (stream : List Bool)
  /-- MD_CTRL_OUTPUT: the control path delivers its next output, from the bits captured up to the end of its span (R119) -/
  | mdCtrlOutput (stream : List Bool)
  /-- TRG_SAMPLE: the next firing reaches its t_s (R133) -/
  | trgSample
  /-- SAR_CONVERSION_DONE: the next conversion completes with the codes of its holds (R124) -/
  | sarConversionDone (codes : List Int)
  /-- SLICE_STREAM_UPDATE: a pair of holds of a streaming pair, and the even hold that follows (R128) -/
  | sliceStreamUpdate (i : Fin 8) (e : Int) (o : Int) (e2 : Int)
  /-- SLICE_CONVERGED: 5τ or 20τ of streaming have passed (R129) -/
  | sliceConverged (i : Fin 8) (skew : Bool)
  /-- QUEUE_ENTRY: the next entry enters the result queue (R139) -/
  | queueEntry
  /-- Q_HOST_POP: a read of Q_HOST_POP (R141) -/
  | qHostPop (q : Req)
  /-- Q_HOST_AGE_EXPIRY: the oldest host entry becomes older than Q_HOST_AGE (R141) -/
  | qHostAgeExpiry
  /-- Q_CLR: Q_CLR (R146) -/
  | qClr (q : Req)
  /-- LOOP_QUEUE_INTAKE: the engine takes one queue entry (R160) -/
  | loopQueueIntake
  /-- LS_PROGRAM_WRITE: LS_PROGRAM (R156) -/
  | lsProgramWrite (q : Req) (n : Fin 128) (img : List Byte)
  /-- LS_RUN: LS_CMD RUN (R179) -/
  | lsRun (q : Req) (n : Fin 128)
  /-- LS_STOP: LS_CMD STOP (R179) -/
  | lsStop (q : Req) (n : Fin 128)
  /-- LS_HOLD: LS_CMD HOLD (R179) -/
  | lsHold (q : Req) (n : Fin 128)
  /-- LS_RESUME: LS_CMD RESUME (R179) -/
  | lsResume (q : Req) (n : Fin 128)
  /-- LS_UNLOAD: LS_CMD UNLOAD (R179) -/
  | lsUnload (q : Req) (n : Fin 128)
  /-- LS_RUN_READY: every WAIT input of a released run is new (R161) -/
  | lsRunReady (n : Fin 128)
  /-- LS_IN_TIMEOUT: a release has waited LS_IN_TIMEOUT (R161) -/
  | lsInTimeout (n : Fin 128)
  /-- LS_RUN_START: a pipe takes its next ready run (R170) -/
  | lsRunStart (p : Fin 4)
  /-- LS_RUN_END: the run of a slot ends (R151) -/
  | lsRunEnd (n : Fin 128)
  /-- LEG_DELIVERY: the earliest delivery completes in the leg timing shadows (R166) -/
  | legDelivery
  /-- LS_DEADLINE: D of the run of a slot passes (R173) -/
  | lsDeadline (n : Fin 128)
  /-- LS_BANK_SWAP: LS_BANK_SWAP (R175) -/
  | lsBankSwap (q : Req) (n : Fin 128)
  /-- LS_COEF_IMAGE_WRITE: LS_COEF_IMAGE (R174) -/
  | lsCoefImageWrite (q : Req) (n : Fin 128) (img : List Byte)
  /-- LS_COEF_WORD_WRITE: LS_COEF_WORD (R174) -/
  | lsCoefWordWrite (q : Req) (n : Fin 128) (v : BitVec 32)
  /-- LS_COEF_DIRECT: LS_COEF_DIRECT: word index and value (R176) -/
  | lsCoefDirect (q : Req) (n : Fin 128) (w : BitVec 16) (v : BitVec 32)
  /-- LS_IN_VAL_WRITE: LS_IN_VAL of an input (R160) -/
  | lsInValWrite (q : Req) (n : Fin 128) (i : Fin 16) (v : BitVec 32)
  /-- LOOP_ECC_ERROR: an ECC error in the LOOP SRAM of a slot (R182) -/
  | loopEccError (t : Nat) (n : Fin 128) (corrected : Bool)
  /-- RA_COMMIT_STAGE: the next ready commit stage of a pipe (R192) -/
  | raCommitStage (p : Fin 4)
  /-- RA_T_LATE: T_LATE of a parked run passes (R191) -/
  | raTLate (n : Fin 128)
  /-- CELL_CYCLE_BOUNDARY: the next cell-cycle boundary (R45) -/
  | cellCycleBoundary
  /-- PRECHARGE: STR_CMD PRECHARGE (R219) -/
  | precharge (q : Req) (i : Fin 32)
  /-- MAIN_CLOSED: STR_CMD MAIN_CLOSED (R219) -/
  | mainClosed (q : Req) (i : Fin 32)
  /-- STR_STOP: STR_CMD STOP (R210) -/
  | strStop (q : Req) (i : Fin 32)
  /-- STR_CLEAR: STR_CMD CLEAR (R210) -/
  | strClear (q : Req) (i : Fin 32)
  /-- STR_CMD_APPLY: a string command reaches its apply time (R209) -/
  | strCmdApply (i : Fin 32)
  /-- STRING_RECORD_RX: a TC1 string record: command, stop, block or release (R209) -/
  | stringRecordRx (t : Nat) (node : Fin 1024) (kind : Fin 4) (id : BitVec 16) (cmd : BitVec 8) (apply : BitVec 112)
  /-- STR_PC_TIMEOUT: STR_PC_TIMEOUT passes (R220) -/
  | strPcTimeout (i : Fin 32)
  /-- STR_BYP_CHECK: STR_BYP_TIME after a bypass (R227) -/
  | strBypCheck (i : Fin 32)
  /-- STR_HOME_LOST: three system cycles without a record of the home device (R218) -/
  | strHomeLost (i : Fin 32)
  /-- STR_RIDE_OUT: STR_RIDE_TIME passes, or the mean falls below STR_RIDE_VMIN (R232) -/
  | strRideOut (i : Fin 32)
  /-- LVC_TRIP: a comparator input has stood at a code beyond a threshold since t (R240) -/
  | lvcTrip (a : Fin 16) (v : Int) (t : Nat)
  /-- LVP_START: LVP_CMD START (R251) -/
  | lvpStart (q : Req) (e : Fin 64)
  /-- LVP_STOP: LVP_CMD STOP (R251) -/
  | lvpStop (q : Req) (e : Fin 64)
  /-- LVP_CLEAR: LVP_CMD CLEAR (R248) -/
  | lvpClear (q : Req) (e : Fin 64)
  /-- DRV_LISTEN_TIMEOUT: LISTEN has lasted 50 ms (R252) -/
  | drvListenTimeout (e : Fin 64)
  /-- FB_SC_QUADRANT_STEP: a sin/cos sample (R263) -/
  | fbScQuadrantStep (t : Nat) (sv : Int) (cv : Int)
  /-- SC_AMP_BAD: bad samples in a row, the last at t (R262) -/
  | scAmpBad (t : Nat) (samples : List (Int × Int))
  /-- HALL_CHANGE: the Hall pins stand at a code at t; what has held for FB_HALL_FILT is accepted (R264) -/
  | hallChange (t : Nat) (code : BitVec 3)
  /-- PLS_STEP: PLS_A and PLS_B stand at the levels a and b from t to t + hold at least; what has held for FB_PLS_FILT is
  accepted (R266) -/
  | plsStep (t : Nat) (a : Bool) (b : Bool) (hold : Nat)
  /-- FB_SPD_TIMEOUT: no step of a source for FB_SPD_TMO (R267) -/
  | fbSpdTimeout (i : Fin 3)
  /-- FB_SC_COUNT_WRITE: FB_SC_COUNT (R263) -/
  | fbScCountWrite (q : Req) (v : BitVec 64)
  /-- FB_PLS_COUNT_WRITE: FB_PLS_COUNT (R266) -/
  | fbPlsCountWrite (q : Req) (v : BitVec 64)
  /-- FB_IRQ_CLR: FB_IRQ_CLR (R268) -/
  | fbIrqClr (q : Req) (v : BitVec 8)
  /-- FB_CTRL_WRITE: FB_CTRL (R270) -/
  | fbCtrlWrite (q : Req) (v : BitVec 16)
  /-- TH_INTERVAL_TICK: a thermal interval; `ok`: a shutdown record can be written (R275) -/
  | thIntervalTick (ok : Bool)
  /-- TH_DIE_CONVERSION: the die sensors are converted, as binary32 codes in °C (R280) -/
  | thDieConversion (d0 : BitVec 32) (d1 : BitVec 32) (d2 : BitVec 32) (d3 : BitVec 32) (ok : Bool)
  /-- TH_REC_RETRY: an unwritten shutdown record is tried again (R282) -/
  | thRecRetry (ok : Bool)
  /-- TH_SHUT_CLR: TH_SHUT_CLR (R283) -/
  | thShutClr (q : Req) (v : BitVec 32)
  /-- TH_SENSOR_CLR: TH_SENSOR_CLR (R278) -/
  | thSensorClr (q : Req) (c : Fin 32)
  /-- FAULT_INTAKE: the collector takes in the events that have waited longest (R297) -/
  | faultIntake
  /-- FAULT_TRANSIENT_EXPIRY: W of a TRANSIENT instance has passed (R295) -/
  | faultTransientExpiry (code : BitVec 16) (i : BitVec 16)
  /-- ALM_COALESCE_END: the span of an open alarm record ends (R303) -/
  | almCoalesceEnd (code : BitVec 16) (i : BitVec 16)
  /-- FAULT_RESET: every sequence of a RESET reaction has ended (R293) -/
  | faultReset
  /-- FLT_CLR: FLT_CLR (R299) -/
  | fltClr (q : Req) (code : BitVec 16) (i : BitVec 16)
  /-- FLT_FIRST_CLR: FLT_FIRST_CLR (R302) -/
  | fltFirstClr (q : Req) (v : BitVec 8)
  /-- FLT_CFG_WRITE: FLT_CFG of a source (R307) -/
  | fltCfgWrite (q : Req) (code : BitVec 16) (v : BitVec 64)
  /-- SF_WD_EXPIRY: the safety watchdog expires (R308) -/
  | sfWdExpiry (t : Nat)
  /-- SF_STO_HW_MISMATCH: pin and channel readback of a group have disagreed for 1 ms (R309) -/
  | sfStoHwMismatch (t : Nat) (g : Fin 2)
  /-- SAFE_WRITE: a write of a SAFE entry (R310) -/
  | safeWrite (q : Req) (idx : BitVec 16) (sub : BitVec 8) (data : List Byte)
  /-- SF_STO_DISC: the demands of a pair have differed for SF_STO_DISC_TIME (R313) -/
  | sfStoDisc
  /-- STO_RELEASE_QUALIFIED: a pin has shown release for 10 ms (R315) -/
  | stoReleaseQualified (g : Fin 2)
  /-- SF_STO_ACK: SF_STO_ACK (R317) -/
  | sfStoAck (q : Req) (v : BitVec 32)
  /-- SF_PROOF_TEST: the safety core tests the channel of a group (R318) -/
  | sfProofTest (g : Fin 2) (pass : Bool)
  /-- SF_STO_TEST_DUE: the last passed test of a group is older than SF_STO_PROOF (R318) -/
  | sfStoTestDue (g : Fin 2)
  /-- SO_TEST_PULSE: a safe output is pulsed low; `low`: the readback followed (R320) -/
  | soTestPulse (n : Fin 4) (low : Bool)
  /-- SO_READBACK_FAULT: the readback of a safe output disagrees (R321) -/
  | soReadbackFault (t : Nat) (n : Fin 4) (rb : Bool)
  /-- SDP_SEND: a producer sends its next telegram (R323) -/
  | sdpSend (p : Fin 4)
  /-- SAFE_TELEGRAM_RX: a copy of a safe telegram arrives (R324) -/
  | safeTelegramRx (src : Fin 1024) (t : Nat) (tel : List Byte)
  /-- SDC_SKEW_EXPIRY: a skew window ends (R324) -/
  | sdcSkewExpiry (k : Fin 16)
  /-- SDC_WD_EXPIRY: a consumer has accepted no telegram for SDC_WD (R325) -/
  | sdcWdExpiry (k : Fin 16)
  /-- SF_OPEN: SF_SIGNOFF_CMD OPEN (R328) -/
  | sfOpen (q : Req)
  /-- SF_VERIFY: SF_SIGNOFF_CMD VERIFY (R328) -/
  | sfVerify (q : Req)
  /-- SF_ABORT: SF_SIGNOFF_CMD ABORT (R328) -/
  | sfAbort (q : Req)
  /-- SF_CONFIRM: SF_CONFIRM (R328) -/
  | sfConfirm (q : Req) (v : BitVec 32)
  /-- SF_IMAGE_WRITE: SF_IMAGE (R328) -/
  | sfImageWrite (q : Req) (img : List Byte)
  /-- SF_SIGNOFF_TIMEOUT: 10 min without a session command (R329) -/
  | sfSignoffTimeout
  /-- LANE_ENABLE: ENABLE of LANE_CTRL (R348) -/
  | laneEnable (q : Req) (n : Fin 4) (on : Bool)
  /-- LANE_HOLD: HOLD of LANE_CTRL (R348) -/
  | laneHold (q : Req) (n : Fin 4) (on : Bool)
  /-- LANE_TEST: TEST of LANE_CTRL (R353) -/
  | laneTest (q : Req) (n : Fin 4) (v : BitVec 3)
  /-- LANE_LOOP: LOOP of LANE_CTRL (R353) -/
  | laneLoop (q : Req) (n : Fin 4) (v : BitVec 3)
  /-- LANE_CNT_CLR: LANE_CNT_CLR (R356) -/
  | laneCntClr (q : Req) (n : Fin 4)
  /-- SFP_MODULE_DETECT: a module is shown present, with the bytes read from it (R338) -/
  | sfpModuleDetect (t : Nat) (n : Fin 4) (page : List Byte)
  /-- LANE_DDM_READ: the diagnostic bytes of a module (R338) -/
  | laneDdmRead (t : Nat) (n : Fin 4) (bytes : List Byte)
  /-- BLOCK_LOCK: 64 valid headers (R345) -/
  | blockLock (t : Nat) (n : Fin 4)
  /-- BLOCK_LOCK_LOSS: 16 invalid headers in 64 blocks (R345) -/
  | blockLockLoss (t : Nat) (n : Fin 4) (passing : BitVec 4)
  /-- HI_BER: the invalid headers of a span of 125 µs (R345) -/
  | hiBer (t : Nat) (n : Fin 4) (bad : Nat) (passing : BitVec 4)
  /-- ELASTIC_ERROR: the elastic buffer overflows or underflows (R346) -/
  | elasticError (t : Nat) (n : Fin 4) (passing : BitVec 4)
  /-- LANE_PPM_MEASURE: a second of rate matching (R346) -/
  | lanePpmMeasure (t : Nat) (n : Fin 4) (ins : Nat) (del : Nat) (blocks : Nat) (fill : BitVec 6)
  /-- TRAIN_BLOCK_RX: a TRAIN block (R349): the 58 line bits before its payload, header bits aside, and the 64 payload bits of
  the line, still scrambled (R341); bit 0 is the first of them -/
  | trainBlockRx (t : Nat) (n : Fin 4) (line : LineBits) (passing : BitVec 4)
  /-- HOLD_BLOCK_RX: a HOLD block (R350) -/
  | holdBlockRx (t : Nat) (n : Fin 4) (passing : BitVec 4)
  /-- ERR_BLOCK_RX: an ERR block, or in its place an invalid header (1) or a block that does not fit (2) (R342, R344) -/
  | errBlockRx (t : Nat) (n : Fin 4) (kind : Fin 3) (passing : BitVec 4)
  /-- SFP_LOS: SFPn_LOS changes (R350) -/
  | sfpLos (t : Nat) (n : Fin 4) (on : Bool) (passing : BitVec 4)
  /-- LANE_INPUT_LOST: the input of a lane stops (R350) -/
  | laneInputLost (t : Nat) (n : Fin 4) (passing : BitVec 4)
  /-- LANE_TRAIN_TIMEOUT: 100 ms after LOCKING began (R352) -/
  | laneTrainTimeout (n : Fin 4)
  /-- RING_FRAME_RX: the bytes of a frame arrive on a lane (R366, R369) -/
  | ringFrameRx (t : Nat) (n : Fin 4) (l : List Byte)
  /-- RING_TX_START: a free output lane starts its next frame (R374) -/
  | ringTxStart (n : Fin 4)
  /-- TC0_SEND: TC0 frame t at its offset (R375) -/
  | tc0Send (i : Fin 16)
  /-- SYSTEM_CYCLE: the next system cycle starts (R426) -/
  | systemCycle
  /-- ROLL_CALL: RING_CMD 0x01 (R362) -/
  | rollCall (q : Req)
  /-- ROLL_CALL_COMMIT: a roll call takes effect at its apply time (R362) -/
  | rollCallCommit (apply : BitVec 112) (roll : Roll)
  /-- ROLL_CALL_TIMEOUT: a roll call has not completed within 1 s (R362) -/
  | rollCallTimeout
  /-- TC3_WAIT_EXPIRY: TC3 data has waited RING_TC3_WAIT (R380) -/
  | tc3WaitExpiry
  /-- ALM_ACK: ALM_ACK (R386) -/
  | almAck (q : Req) (seq : BitVec 32)
  /-- ALM_READ: a read of ALM_READ (R388) -/
  | almRead (q : Req)
  /-- ALM_SUM_PERIOD: ALM_SUM_PERIOD passes (R387) -/
  | almSumPeriod
  /-- TIME_BLOCK_TX: the next TIME block of a lane (R399) -/
  | timeBlockTx (n : Fin 4)
  /-- TIME_BLOCK_RX: a TIME block arrives (R401), by its line bits as a TRAIN block -/
  | timeBlockRx (n : Fin 4) (line : LineBits) (t : Nat)
  /-- TM_SERVO_TICK: the next millisecond (R402) -/
  | tmServoTick
  /-- TM_REF_LOST: no STAMP for 1 ms (R403) -/
  | tmRefLost
  /-- PTP_SYNC_RX: a PTP Sync: offset in 2^-16 ns, mean path delay, logged interval (R406) -/
  | ptpSyncRx (t : Nat) (d : Fin 2) (o : Int) (delay : BitVec 32) (logSync : Int)
  /-- PTP_LOST: no Sync for PTP_TMO (R406) -/
  | ptpLost (d : Fin 2)
  /-- PPS_IN_EDGE: an edge on PPS_IN (R408) -/
  | ppsInEdge (t : Nat) (falling : Bool)
  /-- PPS_IN_LOST: no PPS_IN edge for 1.5 s (R408) -/
  | ppsInLost
  /-- TM_SET: TM_SET (R409) -/
  | tmSet (q : Req) (v : BitVec 112)
  /-- BELL_ARM: BELL_CMD 0x01 (R412) -/
  | bellArm (q : Req) (b : Fin 64)
  /-- BELL_STOP: BELL_CMD 0x02 (R412) -/
  | bellStop (q : Req) (b : Fin 64)
  /-- BELL_RING: the next grid point of a bell (R412) -/
  | bellRing (b : Fin 64)
  /-- TRIG_INPUT_EDGE: an edge on a TRIG pin, the level before it held for `held` ns (R414) -/
  | trigInputEdge (n : Fin 4) (t : Nat) (rising : Bool) (held : Nat)
  /-- MGR_HEARTBEAT_RX: a heartbeat by its payload (R427) -/
  | mgrHeartbeatRx (t : Nat) (src : Fin 1024) (p : List Byte)
  /-- MGR_LISTEN_EXPIRY: the end of MGR_LISTEN (R428) -/
  | mgrListenExpiry
  /-- MGR_TAKE_PASS: a standby has missed MGR_LOSS_CYCLES cycles (R429) -/
  | mgrTakePass
  /-- TRANSFER_REQ_RX: a TRANSFER_REQ of the other manager (R433) -/
  | transferReqRx (t : Nat)
  /-- STATE_RX: a STATE chunk: K_S, offset, total and bytes (R433) -/
  | stateRx (t : Nat) (ks : BitVec 64) (ofs : BitVec 32) (total : BitVec 32) (chunk : List Byte)
  /-- TRANSFER_TIMEOUT: a state transfer has not completed within 8 cycles (R433) -/
  | transferTimeout
  /-- MGR_TRANSFER: MGR_CMD TRANSFER (R444) -/
  | mgrTransfer (q : Req)
  /-- MGR_HANDBACK: MGR_CMD HANDBACK (R439) -/
  | mgrHandback (q : Req)
  /-- RECLAIM_HOLD_EXPIRY: MGR_RECLAIM_HOLD has passed (R439) -/
  | reclaimHoldExpiry
  /-- HANDBACK_REQ_RX: a HANDBACK_REQ of the other manager (R440) -/
  | handbackReqRx (t : Nat)
  /-- HANDBACK_ACCEPT_RX: a HANDBACK_ACCEPT with K_H (R440) -/
  | handbackAcceptRx (t : Nat) (kh : BitVec 64)
  /-- HANDBACK_ABORT_RX: a HANDBACK_ABORT (R440) -/
  | handbackAbortRx (t : Nat) (reason : BitVec 16)
  /-- HANDBACK_SWITCH: the start of K_H (R440) -/
  | handbackSwitch
  /-- OVERLAP_END: the last overlap cycle has passed (R440) -/
  | overlapEnd
  /-- WK_HOLD_EXPIRY: two system cycles without an accepted manager frame (R434) -/
  | wkHoldExpiry
  /-- WK_DROOP_EXPIRY: WK_T_HOLD without an accepted manager frame (R434) -/
  | wkDroopExpiry
  /-- RC_PERIOD_TICK: RC_PERIOD passes (R436), and which HOST slices, bits 0 to 50, and SAFE slices, from bit 64 on, their
  firmware holds idle: logic slices first (R543, R546) -/
  | rcPeriodTick (t : Nat) (idle : BitVec 69)
  /-- CLK_APPLY: CLK_APPLY 0x01 (R481) -/
  | clkApply (q : Req)
  /-- CLK_DISCARD: CLK_APPLY 0x02 (R481) -/
  | clkDiscard (q : Req)
  /-- PLL_SYS_LOCK: a lock window ends with a count (R479) -/
  | pllSysLock (t : Nat) (count : BitVec 16)
  /-- PLL_SYS_UNLOCK: a lock window ends with a count that is off by 3 or more (R482) -/
  | pllSysUnlock (t : Nat) (count : BitVec 16)
  /-- RELOCK_TIMEOUT: 1 ms of a relock without lock (R482) -/
  | relockTimeout
  /-- PLL_LINK_LOCK_CHANGE: PLL_LINK gains or loses lock, with its phase error (R480) -/
  | pllLinkLockChange (t : Nat) (on : Bool) (err : Int)
  /-- REFCLK_LOST: REFCLK is lost (R487) -/
  | refclkLost (t : Nat)
  /-- REFCLK_RETURN: REFCLK has been back for 1 ms (R487) -/
  | refclkReturn (t : Nat)
  /-- LINKCLK_LOST: LINKCLK is missing or off in frequency (R486) -/
  | linkclkLost (t : Nat)
  /-- CLK_FREQ_ERROR: the count of a clock over a lock window, in Hz (R486) -/
  | clkFreqError (t : Nat) (i : Fin 8) (hz : BitVec 32)
  /-- CLK_PERIOD_GUARD: the period guard removes an edge of CLK_PWM, CLK_CORE or CLK_LOOP (R485) -/
  | clkPeriodGuard (t : Nat) (i : Fin 3)
  /-- PWR_REQ_WRITE: PWR_REQ (R497) -/
  | pwrReqWrite (q : Req) (v : BitVec 16)
  /-- DOMAIN_WAKE_ACCESS: an access of a master to a domain (R498, R14) -/
  | domainWakeAccess (t : Nat) (d : Fin 10) (a : BusUse)
  /-- DOMAIN_READY: a waking domain is ready (R499) -/
  | domainReady (d : Fin 10) (t : Nat)
  /-- PWR_WAKE_TMO: a domain is not ready within four wake times (R498) -/
  | pwrWakeTmo (d : Fin 10)
  /-- PWR_BANK: a VDDIO_L bank leaves its range (R496) -/
  | pwrBank (t : Nat) (b : Fin 8)
  /-- PWR_ANALOG: VDDA_ADC leaves its range (R496) -/
  | pwrAnalog (t : Nat)
  /-- PWR_IO: a SERDES or VDDIO_1V8 supply leaves its range (R496) -/
  | pwrIo (t : Nat) (i : Fin 3)
  /-- SLEEP: PWR_CMD 0x01 (R502) -/
  | sleep (q : Req)
  /-- WAKE_N: WAKE_N is low for `width` ps from t on (R502) -/
  | wakeN (t : Nat) (width : Nat)
  /-- SLEEP_TIMER_EXPIRY: SLEEP_TIMER expires (R502) -/
  | sleepTimerExpiry
  /-- PORST_N: PORST_N is low from t on (R503), VDD_CORE below its range for a part of it (R495) -/
  | porstN (t : Nat) (low : CoreLow)
  /-- RST_N: RST_N is low for `width` ps from t on (R504) -/
  | rstN (t : Nat) (width : Nat)
  /-- RST_HELD: RST_N has been low since t for 10 s and stays low (R505) -/
  | rstHeld (t : Nat)
  /-- RST_CMD: RST_CMD 0xA5 (R503) -/
  | rstCmd (q : Req)
  /-- HOST_WD_SERVICE: HOST_WD_SERVICE (R503) -/
  | hostWdService (q : Req)
  /-- HOST_WD_EXPIRY: 100 ms without service (R503) -/
  | hostWdExpiry
  /-- BOOT_STAGE_DONE: the stage in progress ends; `bad`: retention words with wrong parity (R509) -/
  | bootStageDone (t : Nat) (bad : Nat)
  /-- CFG_COMMIT: CFG_CMD COMMIT (R517) -/
  | cfgCommit (q : Req)
  /-- CFG_DEFAULTS: CFG_CMD DEFAULTS (R539) -/
  | cfgDefaults (q : Req)
  /-- CFG_COMMIT_DONE: a bank write ends; `good`: readback and DIGEST agree (R517) -/
  | cfgCommitDone (t : Nat) (good : Bool)
  /-- CFG_IMAGE_WRITE: CFG_IMAGE (R520) -/
  | cfgImageWrite (q : Req) (img : List Byte)
  /-- FW_IMAGE_WRITE: FW_IMAGE (R525) -/
  | fwImageWrite (q : Req) (img : List Byte)
  /-- FW_ACTIVATE: FW_CMD ACTIVATE (R525) -/
  | fwActivate (q : Req)
  /-- FW_CONFIRM: FW_CMD CONFIRM (R525) -/
  | fwConfirm (q : Req)
  /-- OWNER_KEY: SEC_FUSE_CMD OWNER_KEY (R527) -/
  | ownerKey (q : Req)
  /-- REVOKE_KEY0: SEC_FUSE_CMD REVOKE_KEY0 (R527) -/
  | revokeKey0 (q : Req)
  /-- OWN_RB: SEC_FUSE_CMD OWN_RB (R527) -/
  | ownRb (q : Req)
  /-- DEBUG_KILL: SEC_FUSE_CMD DEBUG_KILL (R527) -/
  | debugKill (q : Req)
  /-- SEC_DEBUG_UNLOCK: SEC_DEBUG_UNLOCK (R528) -/
  | secDebugUnlock (q : Req) (img : List Byte)
  /-- SEC_NONCE: SEC_NONCE (R529) -/
  | secNonce (q : Req) (data : List Byte)
  /-- SEC_ATTEST: a read of SEC_ATTEST (R529) -/
  | secAttest (q : Req)
  /-- CEL_LOG_PAGE_WRITE: the open log page is written (R530) -/
  | celLogPageWrite
  /-- TRIGGER: CEL_CMD TRIGGER (R531) -/
  | trigger (q : Req)
  /-- PROTECT: CEL_CMD PROTECT (R533) -/
  | protect (q : Req)
  /-- UNPROTECT: CEL_CMD UNPROTECT (R533) -/
  | unprotect (q : Req)
  /-- UPLOAD: CEL_CMD UPLOAD (R535) -/
  | upload (q : Req)
  /-- CEL_READ: a read of CEL_READ, as READ_SEG (R535) -/
  | celRead (q : Req) (offset : BitVec 32) (len : BitVec 16)
  /-- CEL_DUMP_END: the post-window of a dump is over (R532) -/
  | celDumpEnd
  /-- BIST_RUN: BIST_CMD RUN (R546) -/
  | bistRun (q : Req)
  /-- BIST_ABORT: BIST_CMD ABORT (R549) -/
  | bistAbort (q : Req)
  /-- BIST_RUN_END: a run ends with its signature, and the first failing offset of a memory (R548) -/
  | bistRunEnd (sig : BitVec 64) (addr : BitVec 32)
  /-- LEG_COMMAND_EDGE: the compare command of a leg changes (R55) -/
  | legCommandEdge (l : Fin 192)
  /-- LEG_OWN_VALLEY: a leg reaches its own valley (R70) -/
  | legOwnValley (l : Fin 192)
  /-- MD_TRIP_RELEASE: v lies back between the trip thresholds: the bits captured up to t (R121) -/
  | mdTripRelease (m : Fin 96) (t : Nat) (stream : List Bool)
  /-- LVC_TRIP_RELEASE: a comparator input leaves its trip thresholds (R257) -/
  | lvcTripRelease (a : Fin 16) (t : Nat) (v : Int)
  /-- SUPPLY_IN_RANGE: a supply returns into its range (R496) -/
  | supplyInRange (t : Nat) (i : Fin 12)
  /-- PWM_PHASE_ERROR: the phase detector of CLK_PWM (R411) -/
  | pwmPhaseError (t : Nat) (e : Int) (steps : Int) (lasts : Bool)
  /-- PRBS_LOCK: the pattern checker holds its pattern; bits checked and bits in error since the last report (R353) -/
  | prbsLock (t : Nat) (n : Fin 4) (checked : Nat) (errs : Nat)
  /-- MODULE_ABSENT: SFPn_ABS shows the module removed (R338) -/
  | moduleAbsent (t : Nat) (n : Fin 4)
  /-- SC_AMP_GOOD: good samples in a row, the last at t (R262) -/
  | scAmpGood (t : Nat) (samples : List (Int × Int))
  /-- UPLOAD_DONE: an upload has sent its last byte (R535) -/
  | uploadDone
  /-- PRE_WINDOW_WRITTEN: the frozen trace RAM is in the dump (R531) -/
  | preWindowWritten
  /-- FUSE_CMD_DONE: a fuse command ends (R527) -/
  | fuseCmdDone (t : Nat) (good : Bool)
  /-- SRAM_ECC_ERROR: an ECC error in HOST or SAFE SRAM (R292) -/
  | sramEccError (t : Nat) (safe : Bool) (corrected : Bool)
  /-- PPS_OUT_SECOND: the next whole second (R415) -/
  | ppsOutSecond
  /-- PULSE_WIDTH_END: the output pulse that ends first (R414, R415) -/
  | pulseWidthEnd
  /-- ETH_LINK_UP: the Ethernet link comes up, at 1,000 Mbit/s or at 100 Mbit/s (R473) -/
  | ethLinkUp (t : Nat) (fast : Bool)
  /-- CAN_BUS_OFF_RECOVERY: the bus-off controller restarts (R464) -/
  | canBusOffRecovery (t : Nat)
  /-- SO_PULSE_END: the pulse ends; `high`: the readback followed (R320) -/
  | soPulseEnd (n : Fin 4) (high : Bool)
  /-- ARP_ICMP_REQUEST: an ARP or an ICMP echo request (R463) -/
  | arpIcmpRequest (t : Nat) (icmp : Bool) (ip : BitVec 32) (who : Nat)
  /-- PTP_ANNOUNCE_RX: a PTP Announce (R406) -/
  | ptpAnnounceRx (t : Nat) (d : Fin 2) (gm : BitVec 64) (arb : Bool) (steps : BitVec 16)
  deriving DecidableEq, Repr

end Sys2Proof
end

