-- ==== Sys2Proof/WellFormed.lean ====
section
/-! DEFINITION. When a command is well formed: what its operand types do not already say about it. -/

namespace Sys2Proof

/-- The header fields fit their widths, and the sender is one that the path has (R453, R454, R463 to R467). -/
def Req.wf (q : Req) : Bool :=
  decide (q.tag < 256) && decide (q.node < 1024) && decide (q.proto < 16) &&
    match q.path with
    | .eth => decide (q.who < 2 ^ 48)
    | .can => decide (q.who < 2 ^ 11)
    | .spi => decide (q.who = 0)
    | .ring => decide (q.who < 1024)

/-- A request can carry the data: LEN has 16 bits, and a CAN FD frame carries one message (R454, R464). -/
def Req.carries (q : Req) (d : List Byte) : Bool :=
  decide (d.length < 65536) && (decide (q.path ≠ .can) || decide (d.length ≤ 48))

/-- A whole value that segments carry; OFFSET has 32 bits (R454). -/
def imageOk (d : List Byte) : Bool := decide (d.length < 2 ^ 32)

/-- A frame payload (R365). -/
def payloadOk (p : List Byte) : Bool := decide (p.length ≤ 2048)

/-- A peak-limit source: modulator input or comparator (R77). -/
def pklOk (src : Nat) : Bool := (decide (1 ≤ src) && decide (src ≤ 0x60)) || (decide (0x80 ≤ src) && decide (src ≤ 0x8F))

def Found.wf (f : Found) : Bool := decide (f.serial < 2 ^ 64) && decide (f.role ≤ 2) && decide (f.branch < 2 ^ 64) && decide (f.hops < 128)
def Window.wf (w : Window) : Bool := decide (w.lane < 4) && decide (w.src < 1024) && decide (w.num < 16) && decide (w.opens < w.close)
def Member.wf (m : Member) : Bool := decide (m.node < 1024) && decide (m.slot < 32) && decide (m.pos < 48)

/-- A report of a string entry as its device can make it: values within the widths and ranges of their entries (R41, R236). -/
def StrReport.wf (r : StrReport) : Bool :=
  decide (r.id < 65536) && decide (r.node < 1024) && decide (r.members.length ≤ 32) && r.members.all Member.wf &&
    decide (r.carP < 2 ^ 32) && decide (r.glideDiv < 256) && decide (r.ctrl < 65536) && decide (r.lag < 256) &&
    decide (r.cell < 2 ^ 32) && decide (r.tripMax < 256) && decide (r.pds.length ≤ 32) && r.pds.all fun p => decide (p < 2 ^ 32)

/-- What a roll call fixed: 16 TX offsets at most, string reports of its devices, node IDs of 10 bits (R7, R208, R362). -/
def Roll.wf (r : Roll) : Bool :=
  r.found.all Found.wf && decide (r.offsets.length ≤ 16) && r.windows.all Window.wf &&
    (r.upper ++ r.lower).all (fun n => decide (n < 1024)) && (decide (r.ownId < 1024) || decide (r.ownId = 0xFFFF)) &&
    r.strings.all StrReport.wf

/-- The command is one that the outside can send. -/
def Instr.wf : Instr → Bool
  | .odRead q _ _ _ => q.wf
  | .odWrite q _ _ data => q.wf && q.carries data
  | .describe q _ _ _ _ => q.wf
  | .readSeg q _ _ _ _ _ => q.wf
  | .writeSeg q _ _ _ _ _ data => q.wf && q.carries data
  | .abortSeg q _ _ => q.wf
  | .hello q _ => q.wf
  | .segmentTimeout _ _ => true
  | .snapshotRelease => true
  | .odResponseRx _ _ p => payloadOk p
  | .odRemoteTmo => true
  | .writeReq _ l _ => decide (l.length ≤ 16 + 65535 + 2)
  | .readResp _ _ => true
  | .readStatus _ => true
  | .spiIrqPendRead q => q.wf
  | .canBusOff _ => true
  | .ethLinkDown _ => true
  | .trPeriodCopy _ => true
  | .slotTemplateWrite q _ _ => q.wf
  | .start q _ _ => q.wf
  | .stop q _ _ => q.wf
  | .bypass q _ _ => q.wf
  | .insert q _ _ => q.wf
  | .clear q _ _ => q.wf
  | .allStop q => q.wf
  | .unitLoopBind q _ _ _ => q.wf
  | .safeoffStep _ _ => true
  | .carRunStart q _ => q.wf
  | .carRunStop q _ => q.wf
  | .carrierStart _ => true
  | .carrierValley _ => true
  | .carrierPeak _ => true
  | .carCommit q _ => q.wf
  | .carCommitDiscard q _ => q.wf
  | .legOwnPeak _ => true
  | .forceNone q _ _ => q.wf
  | .forceOff q _ _ => q.wf
  | .forceUpper q _ _ => q.wf
  | .forceLower q _ _ => q.wf
  | .forceRaw q _ _ _ _ => q.wf
  | .bootRefreshEnd _ => true
  | .pklCut src _ _ _ => pklOk src.toNat
  | .pwmParityError _ carrier i => (!carrier || decide (i.val < 64))
  | .clkPwmMissing _ => true
  | .gateRelease _ _ => true
  | .snTransition _ _ _ => true
  | .snConfirmExpiry _ => true
  | .ggDtWrite q _ _ _ => q.wf
  | .fkAssert _ _ => true
  | .fkRelease _ _ => true
  | .fkDecision _ => true
  | .fkHard _ => true
  | .blankingEnd _ => true
  | .supplyWakeExpiry _ => true
  | .ggParityError _ _ => true
  | .safeoffRecordRx _ _ _ _ _ _ => true
  | .safeoffRecordExpiry => true
  | .stringTripRecordRx _ _ _ => true
  | .stoAssert _ _ _ => true
  | .stoRelease _ _ => true
  | .mdCtrlWrite q _ _ _ => q.wf
  | .mdTimingViolation _ _ => true
  | .mdClockRecover _ => true
  | .mdRunLimit _ _ _ => true
  | .mdFilterFilled _ _ _ => true
  | .mdTrip _ _ stream => stream != []
  | .mdCtrlOutput _ => true
  | .trgSample => true
  | .sarConversionDone codes => codes != []
  | .sliceStreamUpdate _ _ _ _ => true
  | .sliceConverged _ _ => true
  | .queueEntry => true
  | .qHostPop q => q.wf
  | .qHostAgeExpiry => true
  | .qClr q => q.wf
  | .loopQueueIntake => true
  | .lsProgramWrite q _ img => q.wf && imageOk img
  | .lsRun q _ => q.wf
  | .lsStop q _ => q.wf
  | .lsHold q _ => q.wf
  | .lsResume q _ => q.wf
  | .lsUnload q _ => q.wf
  | .lsRunReady _ => true
  | .lsInTimeout _ => true
  | .lsRunStart _ => true
  | .lsRunEnd _ => true
  | .legDelivery => true
  | .lsDeadline _ => true
  | .lsBankSwap q _ => q.wf
  | .lsCoefImageWrite q _ img => q.wf && imageOk img
  | .lsCoefWordWrite q _ _ => q.wf
  | .lsCoefDirect q _ _ _ => q.wf
  | .lsInValWrite q _ _ _ => q.wf
  | .loopEccError _ _ _ => true
  | .raCommitStage _ => true
  | .raTLate _ => true
  | .cellCycleBoundary => true
  | .precharge q _ => q.wf
  | .mainClosed q _ => q.wf
  | .strStop q _ => q.wf
  | .strClear q _ => q.wf
  | .strCmdApply _ => true
  | .stringRecordRx _ _ _ _ _ _ => true
  | .strPcTimeout _ => true
  | .strBypCheck _ => true
  | .strHomeLost _ => true
  | .strRideOut _ => true
  | .lvcTrip _ _ _ => true
  | .lvpStart q _ => q.wf
  | .lvpStop q _ => q.wf
  | .lvpClear q _ => q.wf
  | .drvListenTimeout _ => true
  | .fbScQuadrantStep _ _ _ => true
  | .scAmpBad _ samples => samples != []
  | .hallChange _ _ => true
  | .plsStep _ _ _ _ => true
  | .fbSpdTimeout _ => true
  | .fbScCountWrite q _ => q.wf
  | .fbPlsCountWrite q _ => q.wf
  | .fbIrqClr q _ => q.wf
  | .fbCtrlWrite q _ => q.wf
  | .thIntervalTick _ => true
  | .thDieConversion _ _ _ _ _ => true
  | .thRecRetry _ => true
  | .thShutClr q _ => q.wf
  | .thSensorClr q _ => q.wf
  | .faultIntake => true
  | .faultTransientExpiry _ _ => true
  | .almCoalesceEnd _ _ => true
  | .faultReset => true
  | .fltClr q _ _ => q.wf
  | .fltFirstClr q _ => q.wf
  | .fltCfgWrite q _ _ => q.wf
  | .sfWdExpiry _ => true
  | .sfStoHwMismatch _ _ => true
  | .safeWrite q idx _ data => q.wf && q.carries data && decide (0x3800 ≤ idx.toNat) && decide (idx.toNat < 0x3830)
  | .sfStoDisc => true
  | .stoReleaseQualified _ => true
  | .sfStoAck q _ => q.wf
  | .sfProofTest _ _ => true
  | .sfStoTestDue _ => true
  | .soTestPulse _ _ => true
  | .soReadbackFault _ _ _ => true
  | .sdpSend _ => true
  | .safeTelegramRx _ _ tel => decide (tel.length = 32)
  | .sdcSkewExpiry _ => true
  | .sdcWdExpiry _ => true
  | .sfOpen q => q.wf
  | .sfVerify q => q.wf
  | .sfAbort q => q.wf
  | .sfConfirm q _ => q.wf
  | .sfImageWrite q img => q.wf && imageOk img
  | .sfSignoffTimeout => true
  | .laneEnable q _ _ => q.wf
  | .laneHold q _ _ => q.wf
  | .laneTest q _ _ => q.wf
  | .laneLoop q _ _ => q.wf
  | .laneCntClr q _ => q.wf
  | .sfpModuleDetect _ _ page => decide (page.length = 64)
  | .laneDdmRead _ _ bytes => decide (bytes.length = 10)
  | .blockLock _ _ => true
  | .blockLockLoss _ _ _ => true
  | .hiBer _ _ _ _ => true
  | .elasticError _ _ _ => true
  | .lanePpmMeasure _ _ ins del blocks _ => decide (ins + del ≤ blocks)
  | .trainBlockRx _ _ _ _ => true
  | .holdBlockRx _ _ _ => true
  | .errBlockRx _ _ _ _ => true
  | .sfpLos _ _ _ _ => true
  | .laneInputLost _ _ _ => true
  | .laneTrainTimeout _ => true
  | .ringFrameRx _ _ _ => true
  | .ringTxStart _ => true
  | .tc0Send _ => true
  | .systemCycle => true
  | .rollCall q => q.wf
  | .rollCallCommit _ roll => roll.wf
  | .rollCallTimeout => true
  | .tc3WaitExpiry => true
  | .almAck q _ => q.wf
  | .almRead q => q.wf
  | .almSumPeriod => true
  | .timeBlockTx _ => true
  | .timeBlockRx _ _ _ => true
  | .tmServoTick => true
  | .tmRefLost => true
  | .ptpSyncRx _ _ _ _ logSync => decide (-128 ≤ logSync) && decide (logSync ≤ 127)
  | .ptpLost _ => true
  | .ppsInEdge _ _ => true
  | .ppsInLost => true
  | .tmSet q _ => q.wf
  | .bellArm q _ => q.wf
  | .bellStop q _ => q.wf
  | .bellRing _ => true
  | .trigInputEdge _ _ _ _ => true
  | .mgrHeartbeatRx _ _ p => payloadOk p
  | .mgrListenExpiry => true
  | .mgrTakePass => true
  | .transferReqRx _ => true
  | .stateRx _ _ _ _ chunk => payloadOk chunk
  | .transferTimeout => true
  | .mgrTransfer q => q.wf
  | .mgrHandback q => q.wf
  | .reclaimHoldExpiry => true
  | .handbackReqRx _ => true
  | .handbackAcceptRx _ _ => true
  | .handbackAbortRx _ _ => true
  | .handbackSwitch => true
  | .overlapEnd => true
  | .wkHoldExpiry => true
  | .wkDroopExpiry => true
  | .rcPeriodTick _ _ => true
  | .clkApply q => q.wf
  | .clkDiscard q => q.wf
  | .pllSysLock _ _ => true
  | .pllSysUnlock _ _ => true
  | .relockTimeout => true
  | .pllLinkLockChange _ _ _ => true
  | .refclkLost _ => true
  | .refclkReturn _ => true
  | .linkclkLost _ => true
  | .clkFreqError _ _ _ => true
  | .clkPeriodGuard _ _ => true
  | .pwrReqWrite q _ => q.wf
  | .domainWakeAccess _ _ _ => true
  | .domainReady _ _ => true
  | .pwrWakeTmo _ => true
  | .pwrBank _ _ => true
  | .pwrAnalog _ => true
  | .pwrIo _ _ => true
  | .sleep q => q.wf
  | .wakeN _ _ => true
  | .sleepTimerExpiry => true
  | .porstN _ low => decide (low.core = 0 ∨ low.core + 1000000000 ≤ low.width)
  | .rstN _ _ => true
  | .rstHeld _ => true
  | .rstCmd q => q.wf
  | .hostWdService q => q.wf
  | .hostWdExpiry => true
  | .bootStageDone _ _ => true
  | .cfgCommit q => q.wf
  | .cfgDefaults q => q.wf
  | .cfgCommitDone _ _ => true
  | .cfgImageWrite q img => q.wf && imageOk img
  | .fwImageWrite q img => q.wf && imageOk img
  | .fwActivate q => q.wf
  | .fwConfirm q => q.wf
  | .ownerKey q => q.wf
  | .revokeKey0 q => q.wf
  | .ownRb q => q.wf
  | .debugKill q => q.wf
  | .secDebugUnlock q img => q.wf && imageOk img
  | .secNonce q data => q.wf && q.carries data
  | .secAttest q => q.wf
  | .celLogPageWrite => true
  | .trigger q => q.wf
  | .protect q => q.wf
  | .unprotect q => q.wf
  | .upload q => q.wf
  | .celRead q _ _ => q.wf
  | .celDumpEnd => true
  | .bistRun q => q.wf
  | .bistAbort q => q.wf
  | .bistRunEnd _ _ => true
  | .legCommandEdge _ => true
  | .legOwnValley _ => true
  | .mdTripRelease _ _ _ => true
  | .lvcTripRelease _ _ _ => true
  | .supplyInRange _ _ => true
  | .pwmPhaseError _ _ _ _ => true
  | .prbsLock _ _ checked errs => decide (errs ≤ checked)
  | .moduleAbsent _ _ => true
  | .scAmpGood _ samples => samples != []
  | .uploadDone => true
  | .preWindowWritten => true
  | .fuseCmdDone _ _ => true
  | .sramEccError _ _ _ => true
  | .ppsOutSecond => true
  | .pulseWidthEnd => true
  | .ethLinkUp _ _ => true
  | .canBusOffRecovery _ => true
  | .soPulseEnd _ _ => true
  | .arpIcmpRequest _ _ _ _ => true
  | .ptpAnnounceRx _ _ _ _ _ => true

end Sys2Proof
end

