-- ==== Sys2Proof/Decode.lean ====
section
/-! DEFINITION. Commands that a word spells. No row of spec/opcode_table.json gives bits: the commands are requests,
pins and events, and none has an encoding of its own. The encodings of the access paths and of the ring are read where a
message or a frame arrives (R454, R365). -/

namespace Sys2Proof

/-- The command that a word spells by the table's bits: none, for no row has bits. -/
def decodeTableWord (_nbits _w : Nat) : Option Instr := none

end Sys2Proof
end

