-- ==== Sys2Proof/Machine/Float.lean ====
section
/-! DEFINITION. Binary32 arithmetic on its codes, as R152 asks for: computed exactly, then rounded once to the nearest,
ties to even, with subnormal numbers taken as zero. A code is a number below 2^32 (R447). -/

namespace Sys2Proof.Machine

namespace F32

/-- The code of a quiet NaN. R152 states no payload: every NaN result has this code. -/
def nan : Nat := 0x7FC00000
/-- Code of 1.0. -/
def one : Nat := 0x3F800000
/-- Code of 0.5. -/
def half : Nat := 0x3F000000
/-- Code of −1.0. -/
def negOne : Nat := 0xBF800000

/-- The sign bit. -/
def neg (a : Nat) : Bool := a.testBit 31
/-- The exponent field. -/
def ex (a : Nat) : Nat := a / 2 ^ 23 % 256
/-- The fraction field. -/
def fr (a : Nat) : Nat := a % 2 ^ 23
def isNaN (a : Nat) : Bool := ex a == 255 && fr a != 0
def isInf (a : Nat) : Bool := ex a == 255 && fr a == 0
/-- Neither NaN nor infinite. -/
def finite (a : Nat) : Bool := ex a != 255
/-- Zero, or a subnormal code, which counts as zero. -/
def isZero (a : Nat) : Bool := ex a == 0

/-- The significand of a finite code. -/
def mant (a : Nat) : Nat := if ex a = 0 then 0 else fr a + 2 ^ 23
/-- The number is mant × 2 ^ (ex − 150). A finite code as an integer count of 2^-149. -/
def fix (a : Nat) : Int :=
  let m : Int := (mant a * 2 ^ (ex a - 1) : Nat)
  if neg a then -m else m

/-- Code with a sign. -/
def withSign (n : Bool) (a : Nat) : Nat := if n then a + 2 ^ 31 else a

/-- The nearest code, ties to even, to (num / den) × 2 ^ e2, for num, den > 0. -/
def round (n : Bool) (num den : Nat) (e2 : Int) : Nat :=
  if num = 0 ∨ den = 0 then withSign n 0 else
  -- bring the quotient to 25 or 26 bits, and keep a sticky bit
  let l : Int := (Nat.log2 num : Int) - (Nat.log2 den : Int) - 25
  let num' := if l < 0 then num * 2 ^ (-l).toNat else num
  let den' := if l < 0 then den else den * 2 ^ l.toNat
  let q := num' / den'
  let st := if num' % den' = 0 then 0 else 1
  -- value is (q + sticky) × 2 ^ (e2 + l), with 2^24 ≤ q < 2^27
  let k : Nat := Nat.log2 q - 23
  let m := q / 2 ^ k
  let r := (q % 2 ^ k) * 2 + st
  let h := 2 ^ k
  let m' := if r > h ∨ (r = h ∧ m % 2 = 1) then m + 1 else m
  let e : Int := e2 + l + k
  let m'' := if m' = 2 ^ 24 then 2 ^ 23 else m'
  let e' : Int := if m' = 2 ^ 24 then e + 1 else e
  let bex : Int := e' + 150
  if bex ≥ 255 then withSign n 0x7F800000
  else if bex ≤ 0 then withSign n 0
  else withSign n (bex.toNat * 2 ^ 23 + (m'' - 2 ^ 23))

/-- The number of binary64 nearest to a rational, ties to even, within its normal range. -/
def round64 (x : Rat) : Rat :=
  let num := x.num.natAbs
  if num = 0 then 0 else
  let l : Int := (Nat.log2 num : Int) - (Nat.log2 x.den : Int) - 54
  let num' := if l < 0 then num * 2 ^ (-l).toNat else num
  let den' := if l < 0 then x.den else x.den * 2 ^ l.toNat
  let q := num' / den'
  let st := if num' % den' = 0 then 0 else 1
  let k : Nat := Nat.log2 q - 52
  let m := q / 2 ^ k
  let r := (q % 2 ^ k) * 2 + st
  let m' : Int := if r > 2 ^ k ∨ (r = 2 ^ k ∧ m % 2 = 1) then m + 1 else m
  let m' := if x.num < 0 then -m' else m'
  let e : Int := l + k
  if e < 0 then mkRat m' (2 ^ (-e).toNat) else mkRat (m' * 2 ^ e.toNat) 1

/-- The code nearest to an integer count of 2^-149 × 2^-s. -/
def ofFix (i : Int) (s : Nat) : Nat := round (i < 0) i.natAbs 1 (-149 - (s : Int))

def negate (a : Nat) : Nat := if neg a then a - 2 ^ 31 else a + 2 ^ 31
def abs (a : Nat) : Nat := a % 2 ^ 31

def add (a b : Nat) : Nat :=
  if isNaN a || isNaN b then nan
  else if isInf a then (if isInf b && (neg a != neg b) then nan else a)
  else if isInf b then b
  else
    let t := fix a + fix b
    if t = 0 then withSign (neg a && neg b) 0 else ofFix t 0

def sub (a b : Nat) : Nat := add a (negate b)

def mul (a b : Nat) : Nat :=
  let n := neg a != neg b
  if isNaN a || isNaN b then nan
  else if isInf a || isInf b then (if isZero a || isZero b then nan else withSign n 0x7F800000)
  else round n (mant a * mant b) 1 ((ex a : Int) + ex b - 300)

def div (a b : Nat) : Nat :=
  let n := neg a != neg b
  if isNaN a || isNaN b then nan
  else if isInf a then (if isInf b then nan else withSign n 0x7F800000)
  else if isInf b then withSign n 0
  else if isZero b then (if isZero a then nan else withSign n 0x7F800000)
  else round n (mant a) (mant b) ((ex a : Int) - ex b)

/-- a × b + c with one rounding. -/
def fma (a b c : Nat) : Nat :=
  let n := neg a != neg b
  if isNaN a || isNaN b || isNaN c then nan
  else if isInf a || isInf b then
    (if isZero a || isZero b then nan
     else if isInf c && (neg c != n) then nan else withSign n 0x7F800000)
  else if isInf c then c
  else
    let p := fix a * fix b
    let t := p + fix c * 2 ^ 149
    if t = 0 then withSign (n && neg c) 0 else round (t < 0) t.natAbs 1 (-298)

/-- Square root, rounded once. -/
def sqrt (a : Nat) : Nat :=
  if isNaN a then nan
  else if isZero a then withSign (neg a) 0
  else if neg a then nan
  else if isInf a then a
  else
    -- a = m × 2^e with e even; the root of m × 2^60 has more than 41 bits
    let e : Int := (ex a : Int) - 150
    let m := if e % 2 = 0 then mant a else mant a * 2
    let e' : Int := if e % 2 = 0 then e else e - 1
    let r := Nat.sqrt (m * 2 ^ 60)
    let st := if r * r = m * 2 ^ 60 then 0 else 1
    round false (r * 2 + st) 1 (e' / 2 - 31)

/-- a < b; false where either is NaN. -/
def lt (a b : Nat) : Bool :=
  if isNaN a || isNaN b then false
  else if isInf a then neg a && !(isInf b && neg b)
  else if isInf b then !neg b
  else decide (fix a < fix b)

def le (a b : Nat) : Bool :=
  if isNaN a || isNaN b then false
  else if isInf a then neg a || (isInf b && !neg b)
  else if isInf b then !neg b
  else decide (fix a ≤ fix b)

def ge (a b : Nat) : Bool := le b a
def gt (a b : Nat) : Bool := lt b a
def eq (a b : Nat) : Bool := le a b && le b a
/-- A subnormal code is zero, its sign kept (R152). -/
def flush (a : Nat) : Nat := if isZero a then withSign (neg a) 0 else a

/-- Minimum and maximum as the programs use them: the first where it is not beaten. -/
def min (a b : Nat) : Nat := flush (if lt b a then b else a)
def max (a b : Nat) : Nat := flush (if lt a b then b else a)

/-- The code nearest to an integer. -/
def ofInt (i : Int) : Nat := if i = 0 then 0 else round (i < 0) i.natAbs 1 0
/-- The code nearest to num / den. -/
def ofRat (i : Int) (d : Nat) : Nat := if i = 0 then 0 else round (i < 0) i.natAbs d 0

/-- The greatest integer not above a finite code's number. -/
def floor (a : Nat) : Int := fix a / 2 ^ 149
/-- The nearest integer, halves up. -/
def roundHalfUp (a : Nat) : Int := (fix a * 2 + 2 ^ 149) / 2 ^ 150
/-- The nearest integer, ties to even. -/
def roundEven (a : Nat) : Int :=
  let f := fix a / 2 ^ 149
  let r := fix a % 2 ^ 149
  if r * 2 > 2 ^ 149 ∨ (r * 2 = 2 ^ 149 ∧ f % 2 = 1) then f + 1 else f

/-- A finite code as an exact number. -/
def toRat (a : Nat) : Rat := mkRat (fix a) (2 ^ 149)
/-- The code nearest to an exact number. -/
def ofQ (r : Rat) : Nat := ofRat r.num r.den

/-- The part of a number above its floor, as the programs' frac does. -/
def frac (a : Nat) : Nat := if finite a then ofFix (fix a - floor a * 2 ^ 149) 0 else nan

end F32

end Sys2Proof.Machine
end

