-- ==== Sys2Proof/Config.lean ====
section
/-! DEFINITION. What the manual leaves to the single device or does not state: each is a constant without a body, so
that no proof can rest on a value of it. -/

namespace Sys2Proof

/-- A fresh value the manual leaves open; the argument is State.free, which counts the values drawn. -/
opaque Config.freeValue : Nat → Nat

/-- Whether the fixed operation sequence of a block type fuses products into the sums that follow (R152). -/
opaque Config.fused : Nat → Bool

/-- sin 2πθ, cos 2πθ and atan2(y, x) / 2π as the loop engine's fixed sequences give them, on binary32 codes (R152). -/
opaque Config.sinTurn : Nat → Nat
opaque Config.cosTurn : Nat → Nat
opaque Config.atan2Turn : Nat → Nat → Nat

/-- `0x1000:02 SERIAL`, set in production (R474). -/
opaque Config.serial : BitVec 64

/-- Silicon revision, bits [23:16] of `0x1000:01 DEVICE_ID` (R474). -/
opaque Config.siliconRevision : BitVec 8

/-- `0x1000:08 ROM_VERSION` (R474). -/
opaque Config.romVersion : BitVec 32

/-- `0x1000:0B OD_MAP_VERSION` of the firmware (R474). -/
opaque Config.odMapVersion : BitVec 32

/-- The MAC fuse, default of ETH_MAC (R475, R526). -/
opaque Config.macFuse : BitVec 48

/-- Pure Ed448 with SHAKE256 (R521): a trailer kind, which stands for its context, a public key, a message and a signature are a valid signature. -/
opaque Config.ed448 : Nat → List Byte → List Byte → List Byte → Bool

/-- `0x1310+n:04 TM_TX_LAT` and `:05 TM_RX_LAT` in ps, fixed by the device (R400, R419). -/
opaque Config.txLat : Nat → Nat
opaque Config.rxLat : Nat → Nat

/-- Default of ETH_MAC as a number (R475). -/
def Config.ethMac : Nat := Config.macFuse.toNat

/-- Whether the NAND fitted has two targets of 4 GiB rather than one (R514). -/
opaque Config.nandTwoTargets : Bool

/-- Full dumps the dump area keeps (R533). -/
def Config.dumpRoom : Nat := if Config.nandTwoTargets then 23 else 11

/-- Whether a usable NAND is fitted (R514). -/
opaque Config.nandFitted : Bool

/-- `0x1B00:18 NOR_SIZE` in bytes, as the NOR fitted reports it (R514). -/
opaque Config.norSize : Nat

/-- Free event pages of the NOR, given how many event records have been written; no rule gives their size (R515). -/
opaque Config.evtFree : Nat → Nat

/-- Fuse VENDOR_KEY_HASH (R526). -/
opaque Config.vendorKeyHash : List Byte

/-- The firmware that production leaves in slot 0: FW_VERSION, SAFE_FW_VERSION, and its digest from header to trailer. -/
opaque Config.fwVersion : BitVec 32
opaque Config.safeFwVersion : BitVec 32
opaque Config.fwDigest : List Byte

/-- The identity of the device (R529): its signature over a record, its public key and the vendor's certificate. -/
opaque Config.idSign : List Byte → List Byte
opaque Config.idPubkey : List Byte
opaque Config.idCert : List Byte

/-- Golden signature of a BIST target word on this silicon; none where the firmware carries none (R545, R550). -/
opaque Config.golden : Nat → Option (BitVec 64)

end Sys2Proof
end

