-- ==== Sys2Proof/Machine/FltMap.lean ====
section
/-! DEFINITION. The fault sources of the device by name and the catalogue of R292, R331, R355, R390, R417, R443, R473,
R491, R511, R538 and R551: code, class, scope and, for device scope, the instances. -/

namespace Sys2Proof.Machine

/-- The classes of R289. -/
inductive FltClass where
  | c | u | f
  deriving DecidableEq, Repr

/-- The scopes of R291. -/
inductive FltScope where
  | leg | slot | mdat | sar | ls | trigger | string | lv | feedback | device
  deriving DecidableEq, Repr

/-- A source of the catalogue; `lo` to `hi` are the instances of a source with device scope. -/
structure FltSrc where
  code : Nat
  cls : FltClass
  scope : FltScope
  lo : Nat
  hi : Nat
  deriving DecidableEq, Repr

end Sys2Proof.Machine

namespace Sys2Proof.Machine.Flt

/-- PWM_CLAMP, class C (12_faults.md). -/
def PWM_CLAMP : Nat := 0x0101
/-- PWM_MIXED, class C (12_faults.md). -/
def PWM_MIXED : Nat := 0x0102
/-- PWM_PARITY, class U (12_faults.md). -/
def PWM_PARITY : Nat := 0x0103
/-- GG_FK, class U (12_faults.md). -/
def GG_FK : Nat := 0x0201
/-- GG_FK_BLANKED, class C (12_faults.md). -/
def GG_FK_BLANKED : Nat := 0x0202
/-- GG_FK_IDLE, class C (12_faults.md). -/
def GG_FK_IDLE : Nat := 0x0203
/-- GG_XCMD, class U (12_faults.md). -/
def GG_XCMD : Nat := 0x0204
/-- GG_SN, class C (12_faults.md). -/
def GG_SN : Nat := 0x0205
/-- GG_STRING_TRIP, class U (12_faults.md). -/
def GG_STRING_TRIP : Nat := 0x0206
/-- GG_CLK, class F (12_faults.md). -/
def GG_CLK : Nat := 0x0207
/-- GG_PARITY, class U (12_faults.md). -/
def GG_PARITY : Nat := 0x0208
/-- MD_CLOCK, class U (12_faults.md). -/
def MD_CLOCK : Nat := 0x0301
/-- MD_STUCK, class U (12_faults.md). -/
def MD_STUCK : Nat := 0x0302
/-- MD_TRIP, class U (12_faults.md). -/
def MD_TRIP : Nat := 0x0303
/-- SAR_CORR, class C (12_faults.md). -/
def SAR_CORR : Nat := 0x0304
/-- MEAS_TRG_OVERRUN, class C (12_faults.md). -/
def MEAS_TRG_OVERRUN : Nat := 0x0305
/-- MEAS_SKIP_RUN, class C (12_faults.md). -/
def MEAS_SKIP_RUN : Nat := 0x0306
/-- MEAS_QFULL, class U (12_faults.md). -/
def MEAS_QFULL : Nat := 0x0307
/-- LOOP_MISS, class C (12_faults.md). -/
def LOOP_MISS : Nat := 0x0401
/-- LOOP_MISS_RUN, class U (12_faults.md). -/
def LOOP_MISS_RUN : Nat := 0x0402
/-- LOOP_NAN, class C (12_faults.md). -/
def LOOP_NAN : Nat := 0x0403
/-- LOOP_INPUT, class U (12_faults.md). -/
def LOOP_INPUT : Nat := 0x0404
/-- LOOP_PLAUS, class U (12_faults.md). -/
def LOOP_PLAUS : Nat := 0x0405
/-- LOOP_ECC_C, class C (12_faults.md). -/
def LOOP_ECC_C : Nat := 0x0406
/-- LOOP_ECC_U, class U (12_faults.md). -/
def LOOP_ECC_U : Nat := 0x0407
/-- LOOP_RA_SQUASH, class C (12_faults.md). -/
def LOOP_RA_SQUASH : Nat := 0x0408
/-- CAS_CONFIG, class U (12_faults.md). -/
def CAS_CONFIG : Nat := 0x0501
/-- CAS_PRECHARGE, class U (12_faults.md). -/
def CAS_PRECHARGE : Nat := 0x0502
/-- CAS_BALANCE, class U (12_faults.md). -/
def CAS_BALANCE : Nat := 0x0503
/-- CAS_BYPASS, class U (12_faults.md). -/
def CAS_BYPASS : Nat := 0x0504
/-- CAS_NOSPARE, class C (12_faults.md). -/
def CAS_NOSPARE : Nat := 0x0505
/-- CAS_STRING_SHORT, class U (12_faults.md). -/
def CAS_STRING_SHORT : Nat := 0x0506
/-- CAS_GRID_LOSS, class C (12_faults.md). -/
def CAS_GRID_LOSS : Nat := 0x0507
/-- CAS_GRID_JUMP, class C (12_faults.md). -/
def CAS_GRID_JUMP : Nat := 0x0508
/-- CAS_RIDE_OUT, class U (12_faults.md). -/
def CAS_RIDE_OUT : Nat := 0x0509
/-- CAS_HOME_LOST, class U (12_faults.md). -/
def CAS_HOME_LOST : Nat := 0x050A
/-- LV_OC_TRIP, class U (12_faults.md). -/
def LV_OC_TRIP : Nat := 0x0601
/-- LV_VIN, class U (12_faults.md). -/
def LV_VIN : Nat := 0x0602
/-- LV_OV2, class U (12_faults.md). -/
def LV_OV2 : Nat := 0x0603
/-- LV_UV2, class U (12_faults.md). -/
def LV_UV2 : Nat := 0x0604
/-- LV_UV1, class C (12_faults.md). -/
def LV_UV1 : Nat := 0x0605
/-- LV_BRAKE_LOST, class C (12_faults.md). -/
def LV_BRAKE_LOST : Nat := 0x0606
/-- LV_OV3, class U (12_faults.md). -/
def LV_OV3 : Nat := 0x0607
/-- LV_MV_ABSENT, class C (12_faults.md). -/
def LV_MV_ABSENT : Nat := 0x0608
/-- LV_CHOPPER, class U (12_faults.md). -/
def LV_CHOPPER : Nat := 0x0609
/-- LV_DRV_START, class U (12_faults.md). -/
def LV_DRV_START : Nat := 0x060A
/-- LV_DRV_LOST, class U (12_faults.md). -/
def LV_DRV_LOST : Nat := 0x060B
/-- FB_SC_AMP, class U (12_faults.md). -/
def FB_SC_AMP : Nat := 0x0701
/-- FB_SC_QUAD, class U (12_faults.md). -/
def FB_SC_QUAD : Nat := 0x0702
/-- FB_HALL_CODE, class C (12_faults.md). -/
def FB_HALL_CODE : Nat := 0x0703
/-- FB_HALL_SKIP, class C (12_faults.md). -/
def FB_HALL_SKIP : Nat := 0x0704
/-- TH_INPUT, class C (12_faults.md). -/
def TH_INPUT : Nat := 0x0801
/-- TH_NTC_BROKEN, class U (12_faults.md). -/
def TH_NTC_BROKEN : Nat := 0x0802
/-- TH_MODEL_DEV, class C (12_faults.md). -/
def TH_MODEL_DEV : Nat := 0x0803
/-- TH_THROTTLE, class C (12_faults.md). -/
def TH_THROTTLE : Nat := 0x0804
/-- TH_DIE_SENSOR, class C (12_faults.md). -/
def TH_DIE_SENSOR : Nat := 0x0805
/-- TH_SHUT, class U (12_faults.md). -/
def TH_SHUT : Nat := 0x0806
/-- TH_DIE_SHUT, class U (12_faults.md). -/
def TH_DIE_SHUT : Nat := 0x0807
/-- TH_REC_FAIL, class U (12_faults.md). -/
def TH_REC_FAIL : Nat := 0x0808
/-- BUS_ACCESS, class U (12_faults.md). -/
def BUS_ACCESS : Nat := 0x0901
/-- HOST_ECC_C, class C (12_faults.md). -/
def HOST_ECC_C : Nat := 0x0902
/-- HOST_ECC_U, class F (12_faults.md). -/
def HOST_ECC_U : Nat := 0x0903
/-- SF_STO_DISC, class U (13_safety.md). -/
def SF_STO_DISC : Nat := 0x0A01
/-- SF_STO_HW, class F (13_safety.md). -/
def SF_STO_HW : Nat := 0x0A02
/-- SF_CORE_WD, class F (13_safety.md). -/
def SF_CORE_WD : Nat := 0x0A03
/-- SF_SO_FAULT, class U (13_safety.md). -/
def SF_SO_FAULT : Nat := 0x0A04
/-- SF_SD_MISMATCH, class U (13_safety.md). -/
def SF_SD_MISMATCH : Nat := 0x0A05
/-- SF_SD_SINGLE, class C (13_safety.md). -/
def SF_SD_SINGLE : Nat := 0x0A06
/-- SF_SD_REJECT, class C (13_safety.md). -/
def SF_SD_REJECT : Nat := 0x0A07
/-- SF_SD_WD, class U (13_safety.md). -/
def SF_SD_WD : Nat := 0x0A08
/-- SF_CONFIG, class U (13_safety.md). -/
def SF_CONFIG : Nat := 0x0A09
/-- SF_STO_TEST_DUE, class C (13_safety.md). -/
def SF_STO_TEST_DUE : Nat := 0x0A0A
/-- SAFE_ECC_C, class C (13_safety.md). -/
def SAFE_ECC_C : Nat := 0x0A0B
/-- SAFE_ECC_U, class F (13_safety.md). -/
def SAFE_ECC_U : Nat := 0x0A0C
/-- LANE_DOWN, class C (14_lanes.md). -/
def LANE_DOWN : Nat := 0x0B01
/-- LANE_HI_BER, class C (14_lanes.md). -/
def LANE_HI_BER : Nat := 0x0B02
/-- LANE_ELASTIC, class C (14_lanes.md). -/
def LANE_ELASTIC : Nat := 0x0B03
/-- LANE_PPM, class C (14_lanes.md). -/
def LANE_PPM : Nat := 0x0B04
/-- LANE_VERSION, class C (14_lanes.md). -/
def LANE_VERSION : Nat := 0x0B05
/-- LANE_TRAIN, class C (14_lanes.md). -/
def LANE_TRAIN : Nat := 0x0B06
/-- LANE_MODULE, class C (14_lanes.md). -/
def LANE_MODULE : Nat := 0x0B07
/-- RING_BREAK, class C (15_ring.md). -/
def RING_BREAK : Nat := 0x0C01
/-- RING_PARTITION, class U (15_ring.md). -/
def RING_PARTITION : Nat := 0x0C02
/-- RING_HOPS, class C (15_ring.md). -/
def RING_HOPS : Nat := 0x0C03
/-- RING_TT_VIOL, class C (15_ring.md). -/
def RING_TT_VIOL : Nat := 0x0C04
/-- RING_TC1_DIFF, class U (15_ring.md). -/
def RING_TC1_DIFF : Nat := 0x0C05
/-- RING_ROLL, class U (15_ring.md). -/
def RING_ROLL : Nat := 0x0C06
/-- RING_ALM_LOST, class C (15_ring.md). -/
def RING_ALM_LOST : Nat := 0x0C07
/-- RING_NO_ID, class U (15_ring.md). -/
def RING_NO_ID : Nat := 0x0C08
/-- TIME_REF_LOST, class C (16_time.md). -/
def TIME_REF_LOST : Nat := 0x0D01
/-- TIME_PTP_LOST, class C (16_time.md). -/
def TIME_PTP_LOST : Nat := 0x0D02
/-- TIME_SLEW, class C (16_time.md). -/
def TIME_SLEW : Nat := 0x0D03
/-- TIME_OFFSET, class U (16_time.md). -/
def TIME_OFFSET : Nat := 0x0D04
/-- TIME_BELL_LATE, class C (16_time.md). -/
def TIME_BELL_LATE : Nat := 0x0D05
/-- TIME_PWM_ALIGN, class U (16_time.md). -/
def TIME_PWM_ALIGN : Nat := 0x0D06
/-- MGR_SWITCHOVER, class C (17_managers.md). -/
def MGR_SWITCHOVER : Nat := 0x0E01
/-- MGR_DIVERGE, class U (17_managers.md). -/
def MGR_DIVERGE : Nat := 0x0E02
/-- MGR_DUAL_ACTIVE, class U (17_managers.md). -/
def MGR_DUAL_ACTIVE : Nat := 0x0E03
/-- MGR_HANDBACK_ABORT, class C (17_managers.md). -/
def MGR_HANDBACK_ABORT : Nat := 0x0E04
/-- MGR_STANDBY_UNFIT, class U (17_managers.md). -/
def MGR_STANDBY_UNFIT : Nat := 0x0E05
/-- MGR_NO_STANDBY, class C (17_managers.md). -/
def MGR_NO_STANDBY : Nat := 0x0E06
/-- MGR_MODE_MISMATCH, class U (17_managers.md). -/
def MGR_MODE_MISMATCH : Nat := 0x0E07
/-- MGR_SNAP_TOO_BIG, class U (17_managers.md). -/
def MGR_SNAP_TOO_BIG : Nat := 0x0E08
/-- WK_HOLD, class C (17_managers.md). -/
def WK_HOLD : Nat := 0x0E09
/-- WK_DROOP, class U (17_managers.md). -/
def WK_DROOP : Nat := 0x0E0A
/-- OD_FRAME_BAD, class C (18_object_dictionary.md). -/
def OD_FRAME_BAD : Nat := 0x0F01
/-- OD_REMOTE_TMO, class C (18_object_dictionary.md). -/
def OD_REMOTE_TMO : Nat := 0x0F02
/-- CAN_BUS_OFF, class U (18_object_dictionary.md). -/
def CAN_BUS_OFF : Nat := 0x0F03
/-- ETH_LINK_DOWN, class C (18_object_dictionary.md). -/
def ETH_LINK_DOWN : Nat := 0x0F04
/-- CLK_SYS_UNLOCK, class U (19_clocks.md). -/
def CLK_SYS_UNLOCK : Nat := 0x1001
/-- CLK_LINK_UNLOCK, class C (19_clocks.md). -/
def CLK_LINK_UNLOCK : Nat := 0x1002
/-- CLK_REF_LOST, class F (19_clocks.md). -/
def CLK_REF_LOST : Nat := 0x1003
/-- CLK_LINKCLK_LOST, class U (19_clocks.md). -/
def CLK_LINKCLK_LOST : Nat := 0x1004
/-- CLK_FREQ, class U (19_clocks.md). -/
def CLK_FREQ : Nat := 0x1005
/-- CLK_PERIOD_GUARD, class F (19_clocks.md). -/
def CLK_PERIOD_GUARD : Nat := 0x1006
/-- CLK_RELOCK_TMO, class U (19_clocks.md). -/
def CLK_RELOCK_TMO : Nat := 0x1007
/-- PWR_BANK, class U (20_power_reset.md). -/
def PWR_BANK : Nat := 0x1101
/-- PWR_ANALOG, class U (20_power_reset.md). -/
def PWR_ANALOG : Nat := 0x1102
/-- PWR_IO, class C (20_power_reset.md). -/
def PWR_IO : Nat := 0x1103
/-- PWR_WAKE_TMO, class U (20_power_reset.md). -/
def PWR_WAKE_TMO : Nat := 0x1104
/-- RST_HELD, class C (20_power_reset.md). -/
def RST_HELD : Nat := 0x1105
/-- PWR_OP_INCOMPLETE, class C (20_power_reset.md). -/
def PWR_OP_INCOMPLETE : Nat := 0x1106
/-- STORE_NOR_ERR, class U (21_storage_security.md). -/
def STORE_NOR_ERR : Nat := 0x1201
/-- CFG_NONE, class U (21_storage_security.md). -/
def CFG_NONE : Nat := 0x1202
/-- CFG_BANK_BAD, class C (21_storage_security.md). -/
def CFG_BANK_BAD : Nat := 0x1203
/-- CFG_RECORD, class C (21_storage_security.md). -/
def CFG_RECORD : Nat := 0x1204
/-- FW_FALLBACK, class U (21_storage_security.md). -/
def FW_FALLBACK : Nat := 0x1205
/-- CEL_NAND_ERR, class U (21_storage_security.md). -/
def CEL_NAND_ERR : Nat := 0x1206
/-- CEL_LOG_DROP, class C (21_storage_security.md). -/
def CEL_LOG_DROP : Nat := 0x1207
/-- CEL_FULL, class C (21_storage_security.md). -/
def CEL_FULL : Nat := 0x1208
/-- CEL_WEAR, class C (21_storage_security.md). -/
def CEL_WEAR : Nat := 0x1209
/-- CEL_ABSENT, class C (21_storage_security.md). -/
def CEL_ABSENT : Nat := 0x120A
/-- BIST_FAIL, class U (22_test.md). -/
def BIST_FAIL : Nat := 0x1301
/-- BIST_ABORT, class C (22_test.md). -/
def BIST_ABORT : Nat := 0x1302

/-- Sources of subsystem 0x01. -/
def sources01 : List FltSrc := [
  ⟨PWM_CLAMP, .c, .leg, 0, 0⟩,
  ⟨PWM_MIXED, .c, .leg, 0, 0⟩,
  ⟨PWM_PARITY, .u, .leg, 0, 0⟩]

/-- Sources of subsystem 0x02. -/
def sources02 : List FltSrc := [
  ⟨GG_FK, .u, .leg, 0, 0⟩,
  ⟨GG_FK_BLANKED, .c, .leg, 0, 0⟩,
  ⟨GG_FK_IDLE, .c, .leg, 0, 0⟩,
  ⟨GG_XCMD, .u, .leg, 0, 0⟩,
  ⟨GG_SN, .c, .leg, 0, 0⟩,
  ⟨GG_STRING_TRIP, .u, .string, 0, 0⟩,
  ⟨GG_CLK, .f, .device, 0, 0⟩,
  ⟨GG_PARITY, .u, .leg, 0, 0⟩]

/-- Sources of subsystem 0x03. -/
def sources03 : List FltSrc := [
  ⟨MD_CLOCK, .u, .mdat, 0, 0⟩,
  ⟨MD_STUCK, .u, .mdat, 0, 0⟩,
  ⟨MD_TRIP, .u, .mdat, 0, 0⟩,
  ⟨SAR_CORR, .c, .device, 0, 6⟩,
  ⟨MEAS_TRG_OVERRUN, .c, .trigger, 0, 0⟩,
  ⟨MEAS_SKIP_RUN, .c, .trigger, 0, 0⟩,
  ⟨MEAS_QFULL, .u, .device, 0, 0⟩]

/-- Sources of subsystem 0x04. -/
def sources04 : List FltSrc := [
  ⟨LOOP_MISS, .c, .ls, 0, 0⟩,
  ⟨LOOP_MISS_RUN, .u, .ls, 0, 0⟩,
  ⟨LOOP_NAN, .c, .ls, 0, 0⟩,
  ⟨LOOP_INPUT, .u, .ls, 0, 0⟩,
  ⟨LOOP_PLAUS, .u, .ls, 0, 0⟩,
  ⟨LOOP_ECC_C, .c, .ls, 0, 0⟩,
  ⟨LOOP_ECC_U, .u, .ls, 0, 0⟩,
  ⟨LOOP_RA_SQUASH, .c, .ls, 0, 0⟩]

/-- Sources of subsystem 0x05. -/
def sources05 : List FltSrc := [
  ⟨CAS_CONFIG, .u, .string, 0, 0⟩,
  ⟨CAS_PRECHARGE, .u, .string, 0, 0⟩,
  ⟨CAS_BALANCE, .u, .slot, 0, 0⟩,
  ⟨CAS_BYPASS, .u, .slot, 0, 0⟩,
  ⟨CAS_NOSPARE, .c, .string, 0, 0⟩,
  ⟨CAS_STRING_SHORT, .u, .string, 0, 0⟩,
  ⟨CAS_GRID_LOSS, .c, .string, 0, 0⟩,
  ⟨CAS_GRID_JUMP, .c, .string, 0, 0⟩,
  ⟨CAS_RIDE_OUT, .u, .string, 0, 0⟩,
  ⟨CAS_HOME_LOST, .u, .string, 0, 0⟩]

/-- Sources of subsystem 0x06. -/
def sources06 : List FltSrc := [
  ⟨LV_OC_TRIP, .u, .sar, 0, 0⟩,
  ⟨LV_VIN, .u, .lv, 0, 0⟩,
  ⟨LV_OV2, .u, .lv, 0, 0⟩,
  ⟨LV_UV2, .u, .lv, 0, 0⟩,
  ⟨LV_UV1, .c, .lv, 0, 0⟩,
  ⟨LV_BRAKE_LOST, .c, .lv, 0, 0⟩,
  ⟨LV_OV3, .u, .lv, 0, 0⟩,
  ⟨LV_MV_ABSENT, .c, .lv, 0, 0⟩,
  ⟨LV_CHOPPER, .u, .lv, 0, 0⟩,
  ⟨LV_DRV_START, .u, .lv, 0, 0⟩,
  ⟨LV_DRV_LOST, .u, .lv, 0, 0⟩]

/-- Sources of subsystem 0x07. -/
def sources07 : List FltSrc := [
  ⟨FB_SC_AMP, .u, .feedback, 0, 0⟩,
  ⟨FB_SC_QUAD, .u, .feedback, 0, 0⟩,
  ⟨FB_HALL_CODE, .c, .feedback, 0, 0⟩,
  ⟨FB_HALL_SKIP, .c, .feedback, 0, 0⟩]

/-- Sources of subsystem 0x08. -/
def sources08 : List FltSrc := [
  ⟨TH_INPUT, .c, .slot, 0, 0⟩,
  ⟨TH_NTC_BROKEN, .u, .slot, 0, 0⟩,
  ⟨TH_MODEL_DEV, .c, .slot, 0, 0⟩,
  ⟨TH_THROTTLE, .c, .slot, 0, 0⟩,
  ⟨TH_DIE_SENSOR, .c, .device, 112, 115⟩,
  ⟨TH_SHUT, .u, .slot, 0, 0⟩,
  ⟨TH_DIE_SHUT, .u, .device, 0, 0⟩,
  ⟨TH_REC_FAIL, .u, .slot, 0, 0⟩]

/-- Sources of subsystem 0x09. -/
def sources09 : List FltSrc := [
  ⟨BUS_ACCESS, .u, .device, 0, 11⟩,
  ⟨HOST_ECC_C, .c, .device, 0, 0⟩,
  ⟨HOST_ECC_U, .f, .device, 0, 0⟩]

/-- Sources of subsystem 0x0A. -/
def sources0A : List FltSrc := [
  ⟨SF_STO_DISC, .u, .device, 0, 0⟩,
  ⟨SF_STO_HW, .f, .device, 0, 1⟩,
  ⟨SF_CORE_WD, .f, .device, 0, 0⟩,
  ⟨SF_SO_FAULT, .u, .device, 0, 3⟩,
  ⟨SF_SD_MISMATCH, .u, .device, 0, 15⟩,
  ⟨SF_SD_SINGLE, .c, .device, 0, 15⟩,
  ⟨SF_SD_REJECT, .c, .device, 0, 15⟩,
  ⟨SF_SD_WD, .u, .device, 0, 15⟩,
  ⟨SF_CONFIG, .u, .device, 0, 0⟩,
  ⟨SF_STO_TEST_DUE, .c, .device, 0, 1⟩,
  ⟨SAFE_ECC_C, .c, .device, 0, 0⟩,
  ⟨SAFE_ECC_U, .f, .device, 0, 0⟩]

/-- Sources of subsystem 0x0B. -/
def sources0B : List FltSrc := [
  ⟨LANE_DOWN, .c, .device, 0, 3⟩,
  ⟨LANE_HI_BER, .c, .device, 0, 3⟩,
  ⟨LANE_ELASTIC, .c, .device, 0, 3⟩,
  ⟨LANE_PPM, .c, .device, 0, 3⟩,
  ⟨LANE_VERSION, .c, .device, 0, 3⟩,
  ⟨LANE_TRAIN, .c, .device, 0, 3⟩,
  ⟨LANE_MODULE, .c, .device, 0, 3⟩]

/-- Sources of subsystem 0x0C. -/
def sources0C : List FltSrc := [
  ⟨RING_BREAK, .c, .device, 0, 1⟩,
  ⟨RING_PARTITION, .u, .device, 0, 1023⟩,
  ⟨RING_HOPS, .c, .device, 0, 0⟩,
  ⟨RING_TT_VIOL, .c, .device, 0, 3⟩,
  ⟨RING_TC1_DIFF, .u, .device, 0, 1023⟩,
  ⟨RING_ROLL, .u, .device, 0, 0⟩,
  ⟨RING_ALM_LOST, .c, .device, 0, 0⟩,
  ⟨RING_NO_ID, .u, .device, 0, 0⟩]

/-- Sources of subsystem 0x0D. -/
def sources0D : List FltSrc := [
  ⟨TIME_REF_LOST, .c, .device, 0, 0⟩,
  ⟨TIME_PTP_LOST, .c, .device, 0, 1⟩,
  ⟨TIME_SLEW, .c, .device, 0, 0⟩,
  ⟨TIME_OFFSET, .u, .device, 0, 0⟩,
  ⟨TIME_BELL_LATE, .c, .device, 0, 63⟩,
  ⟨TIME_PWM_ALIGN, .u, .device, 0, 0⟩]

/-- Sources of subsystem 0x0E. -/
def sources0E : List FltSrc := [
  ⟨MGR_SWITCHOVER, .c, .device, 0, 1023⟩,
  ⟨MGR_DIVERGE, .u, .device, 0, 0⟩,
  ⟨MGR_DUAL_ACTIVE, .u, .device, 0, 1023⟩,
  ⟨MGR_HANDBACK_ABORT, .c, .device, 0, 65534⟩,
  ⟨MGR_STANDBY_UNFIT, .u, .device, 0, 0⟩,
  ⟨MGR_NO_STANDBY, .c, .device, 0, 0⟩,
  ⟨MGR_MODE_MISMATCH, .u, .device, 0, 0⟩,
  ⟨MGR_SNAP_TOO_BIG, .u, .device, 0, 0⟩,
  ⟨WK_HOLD, .c, .device, 0, 0⟩,
  ⟨WK_DROOP, .u, .device, 0, 0⟩]

/-- Sources of subsystem 0x0F. -/
def sources0F : List FltSrc := [
  ⟨OD_FRAME_BAD, .c, .device, 0, 3⟩,
  ⟨OD_REMOTE_TMO, .c, .device, 0, 1023⟩,
  ⟨CAN_BUS_OFF, .u, .device, 0, 0⟩,
  ⟨ETH_LINK_DOWN, .c, .device, 0, 0⟩]

/-- Sources of subsystem 0x10. -/
def sources10 : List FltSrc := [
  ⟨CLK_SYS_UNLOCK, .u, .device, 0, 0⟩,
  ⟨CLK_LINK_UNLOCK, .c, .device, 0, 0⟩,
  ⟨CLK_REF_LOST, .f, .device, 0, 0⟩,
  ⟨CLK_LINKCLK_LOST, .u, .device, 0, 0⟩,
  ⟨CLK_FREQ, .u, .device, 0, 7⟩,
  ⟨CLK_PERIOD_GUARD, .f, .device, 0, 2⟩,
  ⟨CLK_RELOCK_TMO, .u, .device, 0, 0⟩]

/-- Sources of subsystem 0x11. -/
def sources11 : List FltSrc := [
  ⟨PWR_BANK, .u, .device, 0, 7⟩,
  ⟨PWR_ANALOG, .u, .device, 0, 0⟩,
  ⟨PWR_IO, .c, .device, 0, 15⟩,
  ⟨PWR_WAKE_TMO, .u, .device, 0, 9⟩,
  ⟨RST_HELD, .c, .device, 0, 0⟩,
  ⟨PWR_OP_INCOMPLETE, .c, .device, 0, 255⟩]

/-- Sources of subsystem 0x12. -/
def sources12 : List FltSrc := [
  ⟨STORE_NOR_ERR, .u, .device, 0, 0⟩,
  ⟨CFG_NONE, .u, .device, 0, 0⟩,
  ⟨CFG_BANK_BAD, .c, .device, 0, 1⟩,
  ⟨CFG_RECORD, .c, .device, 0, 0⟩,
  ⟨FW_FALLBACK, .u, .device, 0, 1⟩,
  ⟨CEL_NAND_ERR, .u, .device, 0, 1⟩,
  ⟨CEL_LOG_DROP, .c, .device, 0, 0⟩,
  ⟨CEL_FULL, .c, .device, 0, 0⟩,
  ⟨CEL_WEAR, .c, .device, 0, 0⟩,
  ⟨CEL_ABSENT, .c, .device, 0, 0⟩]

/-- Sources of subsystem 0x13. -/
def sources13 : List FltSrc := [
  ⟨BIST_FAIL, .u, .device, 0, 65534⟩,
  ⟨BIST_ABORT, .c, .device, 0, 65534⟩]

/-- The whole catalogue. -/
def sources : List FltSrc :=
  sources01 ++ sources02 ++ sources03 ++ sources04 ++ sources05 ++ sources06 ++ sources07 ++ sources08 ++ sources09 ++ sources0A ++ sources0B ++ sources0C ++ sources0D ++ sources0E ++ sources0F ++ sources10 ++ sources11 ++ sources12 ++ sources13

/-- The catalogue row of a code. -/
def source (code : Nat) : Option FltSrc := sources.find? fun r => r.code = code

end Sys2Proof.Machine.Flt
end

