-- ==== Sys2Proof/Machine/OdTypes.lean ====
section
/-! DEFINITION. How an entry of the object dictionary is described (R445 to R448): its type, its access code, its
range, and one row of the dictionary. -/

namespace Sys2Proof.Machine

/-- The entry types of R447. -/
inductive OdType where
  | bool | u8 | u16 | u32 | u64 | i8 | i16 | i32 | i64 | f32 | f64 | time | octets | string | domain
  deriving DecidableEq, Repr

/-- The access codes of R448. -/
inductive OdAccess where
  | ro | rw | wo | rws | const | safe
  deriving DecidableEq, Repr

/-- The Range column of a group table. -/
inductive Rng where
  /-- no bound but the type's, or a rule of the owning chapter decides -/
  | any
  /-- lo to hi in steps, and one value outside that span -/
  | int (lo hi : Int) (step : Nat) (extra : Option Nat)
  /-- the listed values only -/
  | oneOf (l : List Nat)
  /-- lo to hi, and the value divides n -/
  | div (lo hi n : Nat)
  /-- binary32 bounds by their codes; the lower bound is open where the flag is set -/
  | flt (lo hi : Nat) (loOpen : Bool)
  /-- the numeric bounds DESCRIBE gives; the owner's rule decides -/
  | owner (lo hi : Nat)
  deriving DecidableEq, Repr

/-- One row of the dictionary. -/
structure OdRow where
  base : Nat
  count : Nat
  sub : Nat
  nsub : Nat
  name : String
  ty : OdType
  acc : OdAccess
  dflt : Nat
  rng : Rng
  /-- bits the table marks reserved -/
  rsv : Nat
  /-- codes from this one on are reserved; 0 for none -/
  rsvFrom : Nat
  unit : Nat
  persist : Bool
  size : Nat
  /-- the size is a greatest length -/
  var : Bool
  deriving DecidableEq, Repr

/-- A writable entry: its key in the store and its value after reset. -/
structure Reg where
  key : Nat
  dflt : Nat
  deriving DecidableEq, Repr

/-- The key of `index:sub` (R6): 256 subs to an index. -/
def key (idx sub : Nat) : Nat := idx * 256 + sub

end Sys2Proof.Machine
end

