-- ==== Sys2Proof/Machine/OdReg.lean ====
section
/-! DEFINITION. The writable entries of the object dictionary by the names the manual gives them: each name is the
key of the entry in the store (R6) and the value the entry holds after reset. An entry not named here is a
status, a counter or a command, and its state stands in a field of State. -/

namespace Sys2Proof.Machine.Od

open Sys2Proof.Machine (Reg key)

/-- R46 of 0x2000 (02_cell_slots.md). -/
def CELL_CYCLE : Reg := ⟨key 0x2000 0x03, 0x4E20⟩
/-- R47 of 0x2100+C (02_cell_slots.md). -/
def SLOT_TEMPLATE (i : Nat) : Reg := ⟨key (0x2100 + i) 0x01, 0⟩
/-- R47 of 0x2100+C (02_cell_slots.md). -/
def SLOT_SO_STEP (i : Nat) : Reg := ⟨key (0x2100 + i) 0x06, 500⟩
/-- R47 of 0x2100+C (02_cell_slots.md). -/
def SLOT_STRING (i : Nat) : Reg := ⟨key (0x2100 + i) 0x08, 255⟩
/-- R47 of 0x2100+C (02_cell_slots.md). -/
def SLOT_STRING_POS (i : Nat) : Reg := ⟨key (0x2100 + i) 0x09, 0⟩
/-- R47 of 0x2100+C (02_cell_slots.md). -/
def SLOT_STRING_ROLE (i : Nat) : Reg := ⟨key (0x2100 + i) 0x0A, 0⟩
/-- R47 of 0x2100+C (02_cell_slots.md). -/
def UNIT_LOOP (i : Nat) (u : Nat) : Reg := ⟨key (0x2100 + i) (0x10 + u), 255⟩
/-- R47 of 0x2100+C (02_cell_slots.md). -/
def UNIT_LV (i : Nat) (u : Nat) : Reg := ⟨key (0x2100 + i) (0x18 + u), 255⟩
/-- R47 of 0x2100+C (02_cell_slots.md). -/
def UNIT_FN (i : Nat) (u : Nat) : Reg := ⟨key (0x2100 + i) (0x20 + u), 0⟩
/-- R83 of 0x2200+L (03_leg_timing.md). -/
def LEG_CARRIER (i : Nat) : Reg := ⟨key (0x2200 + i) 0x10, 2 * (i / 6)⟩
/-- R83 of 0x2200+L (03_leg_timing.md). -/
def LEG_DUTY (i : Nat) : Reg := ⟨key (0x2200 + i) 0x11, 0⟩
/-- R83 of 0x2200+L (03_leg_timing.md). -/
def LEG_PHASE (i : Nat) : Reg := ⟨key (0x2200 + i) 0x12, 0⟩
/-- R83 of 0x2200+L (03_leg_timing.md). -/
def LEG_CTRL (i : Nat) : Reg := ⟨key (0x2200 + i) 0x15, 2⟩
/-- R83 of 0x2200+L (03_leg_timing.md). -/
def LEG_FORCE (i : Nat) : Reg := ⟨key (0x2200 + i) 0x16, 0⟩
/-- R83 of 0x2200+L (03_leg_timing.md). -/
def LEG_BOOT_WIDTH (i : Nat) : Reg := ⟨key (0x2200 + i) 0x18, 0⟩
/-- R83 of 0x2200+L (03_leg_timing.md). -/
def LEG_BOOT_EVERY (i : Nat) : Reg := ⟨key (0x2200 + i) 0x19, 4⟩
/-- R83 of 0x2200+L (03_leg_timing.md). -/
def LEG_PKL_SRC (i : Nat) : Reg := ⟨key (0x2200 + i) 0x1A, 0⟩
/-- R84 of 0x2300+K (03_leg_timing.md). -/
def CAR_PERIOD (i : Nat) : Reg := ⟨key (0x2300 + i) 0x01, 5000⟩
/-- R84 of 0x2300+K (03_leg_timing.md). -/
def CAR_RELOAD (i : Nat) : Reg := ⟨key (0x2300 + i) 0x03, 1⟩
/-- R84 of 0x2300+K (03_leg_timing.md). -/
def CAR_COMMIT_MODE (i : Nat) : Reg := ⟨key (0x2300 + i) 0x04, 0⟩
/-- R84 of 0x2300+K (03_leg_timing.md). -/
def CAR_START_TIME (i : Nat) : Reg := ⟨key (0x2300 + i) 0x07, 0⟩
/-- R111 of 0x2200+L (04_gate_guard.md). -/
def LEG_DT_MIN (i : Nat) : Reg := ⟨key (0x2200 + i) 0x01, 20⟩
/-- R111 of 0x2200+L (04_gate_guard.md). -/
def LEG_DT_INIT (i : Nat) : Reg := ⟨key (0x2200 + i) 0x02, 100⟩
/-- R111 of 0x2200+L (04_gate_guard.md). -/
def LEG_DT_MAX (i : Nat) : Reg := ⟨key (0x2200 + i) 0x03, 300⟩
/-- R111 of 0x2200+L (04_gate_guard.md). -/
def LEG_DT_MARGIN (i : Nat) : Reg := ⟨key (0x2200 + i) 0x04, 20⟩
/-- R111 of 0x2200+L (04_gate_guard.md). -/
def LEG_DT_FILT (i : Nat) : Reg := ⟨key (0x2200 + i) 0x05, 3⟩
/-- R111 of 0x2200+L (04_gate_guard.md). -/
def LEG_GG_CTRL (i : Nat) : Reg := ⟨key (0x2200 + i) 0x06, 1⟩
/-- R111 of 0x2200+L (04_gate_guard.md). -/
def LEG_BLANK (i : Nat) : Reg := ⟨key (0x2200 + i) 0x07, 500⟩
/-- R112 of 0x2100+C (04_gate_guard.md). -/
def SLOT_BOOT_PRE (i : Nat) : Reg := ⟨key (0x2100 + i) 0x0C, 2000⟩
/-- R112 of 0x2100+C (04_gate_guard.md). -/
def SLOT_SUPPLY_WAKE (i : Nat) : Reg := ⟨key (0x2100 + i) 0x0D, 1000⟩
/-- R112 of 0x2100+C (04_gate_guard.md). -/
def SLOT_SN_CONFIRM (i : Nat) : Reg := ⟨key (0x2100 + i) 0x0E, 300⟩
/-- R113 of 0x2000 (04_gate_guard.md). -/
def GG_STRING_TRIP_MAX : Reg := ⟨key 0x2000 0x07, 2⟩
/-- R144 of 0x2800+M (05_measurement.md). -/
def MD_CTRL (i : Nat) : Reg := ⟨key (0x2800 + i) 0x01, 0⟩
/-- R144 of 0x2800+M (05_measurement.md). -/
def MD_FAST_OSR (i : Nat) : Reg := ⟨key (0x2800 + i) 0x02, 32⟩
/-- R144 of 0x2800+M (05_measurement.md). -/
def MD_CTRL_OSR (i : Nat) : Reg := ⟨key (0x2800 + i) 0x03, 128⟩
/-- R144 of 0x2800+M (05_measurement.md). -/
def MD_GAIN (i : Nat) : Reg := ⟨key (0x2800 + i) 0x04, 0x3F800000⟩
/-- R144 of 0x2800+M (05_measurement.md). -/
def MD_OFFSET (i : Nat) : Reg := ⟨key (0x2800 + i) 0x05, 0⟩
/-- R144 of 0x2800+M (05_measurement.md). -/
def MD_UNIT (i : Nat) : Reg := ⟨key (0x2800 + i) 0x06, 0⟩
/-- R144 of 0x2800+M (05_measurement.md). -/
def MD_PKL_HI (i : Nat) : Reg := ⟨key (0x2800 + i) 0x07, 0x7FFF⟩
/-- R144 of 0x2800+M (05_measurement.md). -/
def MD_PKL_LO (i : Nat) : Reg := ⟨key (0x2800 + i) 0x08, 0x8000⟩
/-- R144 of 0x2800+M (05_measurement.md). -/
def MD_PKL_HYST (i : Nat) : Reg := ⟨key (0x2800 + i) 0x09, 256⟩
/-- R144 of 0x2800+M (05_measurement.md). -/
def MD_TRIP_HI (i : Nat) : Reg := ⟨key (0x2800 + i) 0x0A, 0x7FFF⟩
/-- R144 of 0x2800+M (05_measurement.md). -/
def MD_TRIP_LO (i : Nat) : Reg := ⟨key (0x2800 + i) 0x0B, 0x8000⟩
/-- R144 of 0x2800+M (05_measurement.md). -/
def MD_TRIP_DGL (i : Nat) : Reg := ⟨key (0x2800 + i) 0x0C, 2⟩
/-- R144 of 0x2800+M (05_measurement.md). -/
def MD_TRIP_ACT (i : Nat) : Reg := ⟨key (0x2800 + i) 0x0D, 0⟩
/-- R144 of 0x2800+M (05_measurement.md). -/
def MD_RUN_MAX (i : Nat) : Reg := ⟨key (0x2800 + i) 0x0E, 64⟩
/-- R145 of 0x2900+A (05_measurement.md). -/
def SAR_GAIN (i : Nat) : Reg := ⟨key (0x2900 + i) 0x01, 0x3F800000⟩
/-- R145 of 0x2900+A (05_measurement.md). -/
def SAR_OFFSET (i : Nat) : Reg := ⟨key (0x2900 + i) 0x02, 0⟩
/-- R145 of 0x2900+A (05_measurement.md). -/
def SAR_UNIT (i : Nat) : Reg := ⟨key (0x2900 + i) 0x03, 0⟩
/-- R146 of 0x2A00 (05_measurement.md). -/
def Q_HOST_AGE : Reg := ⟨key 0x2A00 0x05, 1000⟩
/-- R146 of 0x2A00 (05_measurement.md). -/
def MEAS_MCLK_EN : Reg := ⟨key 0x2A00 0x08, 0⟩
/-- R147 of 0x2A20+S (05_measurement.md). -/
def SLICE_MODE (i : Nat) : Reg := ⟨key (0x2A20 + i) 0x01, 0⟩
/-- R147 of 0x2A20+S (05_measurement.md). -/
def SLICE_STREAM_IN (i : Nat) : Reg := ⟨key (0x2A20 + i) 0x02, 0⟩
/-- R147 of 0x2A20+S (05_measurement.md). -/
def SLICE_MU (i : Nat) : Reg := ⟨key (0x2A20 + i) 0x03, 14⟩
/-- R148 of 0x2A40+QG (05_measurement.md). -/
def QG_LEGS (i : Nat) : Reg := ⟨key (0x2A40 + i) 0x01, 0⟩
/-- R149 of 0x2A80+TE (05_measurement.md). -/
def TRG_SRC (i : Nat) : Reg := ⟨key (0x2A80 + i) 0x01, 0⟩
/-- R149 of 0x2A80+TE (05_measurement.md). -/
def TRG_DIV (i : Nat) : Reg := ⟨key (0x2A80 + i) 0x02, 1⟩
/-- R149 of 0x2A80+TE (05_measurement.md). -/
def TRG_DIV_PH (i : Nat) : Reg := ⟨key (0x2A80 + i) 0x03, 0⟩
/-- R149 of 0x2A80+TE (05_measurement.md). -/
def TRG_DELAY (i : Nat) : Reg := ⟨key (0x2A80 + i) 0x04, 0⟩
/-- R149 of 0x2A80+TE (05_measurement.md). -/
def TRG_CHAN (i : Nat) : Reg := ⟨key (0x2A80 + i) 0x05, 0⟩
/-- R149 of 0x2A80+TE (05_measurement.md). -/
def TRG_DST (i : Nat) : Reg := ⟨key (0x2A80 + i) 0x06, 255⟩
/-- R149 of 0x2A80+TE (05_measurement.md). -/
def TRG_SLICE (i : Nat) : Reg := ⟨key (0x2A80 + i) 0x07, 255⟩
/-- R149 of 0x2A80+TE (05_measurement.md). -/
def TRG_AVG (i : Nat) : Reg := ⟨key (0x2A80 + i) 0x08, 1⟩
/-- R149 of 0x2A80+TE (05_measurement.md). -/
def TRG_QUIET (i : Nat) : Reg := ⟨key (0x2A80 + i) 0x09, 0⟩
/-- R149 of 0x2A80+TE (05_measurement.md). -/
def TRG_QPRE (i : Nat) : Reg := ⟨key (0x2A80 + i) 0x0A, 300⟩
/-- R149 of 0x2A80+TE (05_measurement.md). -/
def TRG_QPOST (i : Nat) : Reg := ⟨key (0x2A80 + i) 0x0B, 100⟩
/-- R149 of 0x2A80+TE (05_measurement.md). -/
def TRG_PREDICT (i : Nat) : Reg := ⟨key (0x2A80 + i) 0x0C, 0⟩
/-- R149 of 0x2A80+TE (05_measurement.md). -/
def TRG_SKIP_MAX (i : Nat) : Reg := ⟨key (0x2A80 + i) 0x0D, 3⟩
/-- R184 of 0x3000+LS (06_loop_engine.md). -/
def LS_RELEASE (i : Nat) : Reg := ⟨key (0x3000 + i) 0x05, 0⟩
/-- R184 of 0x3000+LS (06_loop_engine.md). -/
def LS_REL_DIV (i : Nat) : Reg := ⟨key (0x3000 + i) 0x06, 1⟩
/-- R184 of 0x3000+LS (06_loop_engine.md). -/
def LS_DL_MODE (i : Nat) : Reg := ⟨key (0x3000 + i) 0x07, 0⟩
/-- R184 of 0x3000+LS (06_loop_engine.md). -/
def LS_DL_CAR (i : Nat) : Reg := ⟨key (0x3000 + i) 0x08, 0⟩
/-- R184 of 0x3000+LS (06_loop_engine.md). -/
def LS_DL_REL (i : Nat) : Reg := ⟨key (0x3000 + i) 0x09, 0x4E20⟩
/-- R184 of 0x3000+LS (06_loop_engine.md). -/
def LS_DL_MARGIN (i : Nat) : Reg := ⟨key (0x3000 + i) 0x0A, 100⟩
/-- R184 of 0x3000+LS (06_loop_engine.md). -/
def LS_IN_TIMEOUT (i : Nat) : Reg := ⟨key (0x3000 + i) 0x0B, 0x2710⟩
/-- R184 of 0x3000+LS (06_loop_engine.md). -/
def LS_PIPE (i : Nat) : Reg := ⟨key (0x3000 + i) 0x0C, 255⟩
/-- R184 of 0x3000+LS (06_loop_engine.md). -/
def LS_CTRL (i : Nat) : Reg := ⟨key (0x3000 + i) 0x0E, 0⟩
/-- R184 of 0x3000+LS (06_loop_engine.md). -/
def LS_MISS_MAX (i : Nat) : Reg := ⟨key (0x3000 + i) 0x0F, 3⟩
/-- R184 of 0x3000+LS (06_loop_engine.md). -/
def LS_ABSENT_MAX (i : Nat) : Reg := ⟨key (0x3000 + i) 0x10, 4⟩
/-- R184 of 0x3000+LS (06_loop_engine.md). -/
def LS_COEF_ADDR (i : Nat) : Reg := ⟨key (0x3000 + i) 0x24, 0⟩
/-- R184 of 0x3000+LS (06_loop_engine.md). -/
def LS_IN (i : Nat) (u : Nat) : Reg := ⟨key (0x3000 + i) (0x40 + u), 0⟩
/-- R184 of 0x3000+LS (06_loop_engine.md). -/
def LS_IN_VAL (i : Nat) (u : Nat) : Reg := ⟨key (0x3000 + i) (0x50 + u), 0⟩
/-- R206 of 0x3180+LS (07_run_ahead.md). -/
def RA_CTRL (i : Nat) : Reg := ⟨key (0x3180 + i) 0x01, 0⟩
/-- R206 of 0x3180+LS (07_run_ahead.md). -/
def RA_N_PRED (i : Nat) : Reg := ⟨key (0x3180 + i) 0x02, 0⟩
/-- R206 of 0x3180+LS (07_run_ahead.md). -/
def RA_GAIN_BASE (i : Nat) : Reg := ⟨key (0x3180 + i) 0x03, 0⟩
/-- R206 of 0x3180+LS (07_run_ahead.md). -/
def RA_SQUASH_MAX (i : Nat) : Reg := ⟨key (0x3180 + i) 0x04, 8⟩
/-- R206 of 0x3180+LS (07_run_ahead.md). -/
def RA_PRED (i : Nat) (u : Nat) : Reg := ⟨key (0x3180 + i) (0x10 + u), 0⟩
/-- R206 of 0x3180+LS (07_run_ahead.md). -/
def RA_WIN (i : Nat) (u : Nat) : Reg := ⟨key (0x3180 + i) (0x18 + u), 0x3F800000⟩
/-- R236 of 0x3220+ST (08_cascade.md). -/
def STR_ID (i : Nat) : Reg := ⟨key (0x3220 + i) 0x01, 0xFFFF⟩
/-- R236 of 0x3220+ST (08_cascade.md). -/
def STR_CTRL (i : Nat) : Reg := ⟨key (0x3220 + i) 0x05, 3⟩
/-- R236 of 0x3220+ST (08_cascade.md). -/
def STR_CAR_P (i : Nat) : Reg := ⟨key (0x3220 + i) 0x06, 0x30D4⟩
/-- R236 of 0x3220+ST (08_cascade.md). -/
def STR_GLIDE_DIV (i : Nat) : Reg := ⟨key (0x3220 + i) 0x07, 64⟩
/-- R236 of 0x3220+ST (08_cascade.md). -/
def STR_SLOT (i : Nat) : Reg := ⟨key (0x3220 + i) 0x08, 255⟩
/-- R236 of 0x3220+ST (08_cascade.md). -/
def STR_TRACK (i : Nat) : Reg := ⟨key (0x3220 + i) 0x09, 0xFFFF⟩
/-- R236 of 0x3220+ST (08_cascade.md). -/
def STR_NACT_IN (i : Nat) : Reg := ⟨key (0x3220 + i) 0x0A, 255⟩
/-- R236 of 0x3220+ST (08_cascade.md). -/
def STR_SET_IN (i : Nat) : Reg := ⟨key (0x3220 + i) 0x0B, 255⟩
/-- R236 of 0x3220+ST (08_cascade.md). -/
def STR_APPLY_LAG (i : Nat) : Reg := ⟨key (0x3220 + i) 0x0C, 1⟩
/-- R236 of 0x3220+ST (08_cascade.md). -/
def STR_N_MIN (i : Nat) : Reg := ⟨key (0x3220 + i) 0x0D, 1⟩
/-- R236 of 0x3220+ST (08_cascade.md). -/
def STR_PC_V1 (i : Nat) : Reg := ⟨key (0x3220 + i) 0x10, 0x44480000⟩
/-- R236 of 0x3220+ST (08_cascade.md). -/
def STR_PC_VSET (i : Nat) : Reg := ⟨key (0x3220 + i) 0x11, 0x44FA0000⟩
/-- R236 of 0x3220+ST (08_cascade.md). -/
def STR_PC_RAMP (i : Nat) : Reg := ⟨key (0x3220 + i) 0x12, 0x447A0000⟩
/-- R236 of 0x3220+ST (08_cascade.md). -/
def STR_PC_TOL (i : Nat) : Reg := ⟨key (0x3220 + i) 0x13, 0x41A00000⟩
/-- R236 of 0x3220+ST (08_cascade.md). -/
def STR_PC_TIMEOUT (i : Nat) : Reg := ⟨key (0x3220 + i) 0x14, 0x7530⟩
/-- R236 of 0x3220+ST (08_cascade.md). -/
def STR_BAL_DEV (i : Nat) : Reg := ⟨key (0x3220 + i) 0x15, 0x42C80000⟩
/-- R236 of 0x3220+ST (08_cascade.md). -/
def STR_BAL_TIME (i : Nat) : Reg := ⟨key (0x3220 + i) 0x16, 20⟩
/-- R236 of 0x3220+ST (08_cascade.md). -/
def STR_BYP_TIME (i : Nat) : Reg := ⟨key (0x3220 + i) 0x17, 2⟩
/-- R236 of 0x3220+ST (08_cascade.md). -/
def STR_BYP_DV (i : Nat) : Reg := ⟨key (0x3220 + i) 0x18, 0x42480000⟩
/-- R236 of 0x3220+ST (08_cascade.md). -/
def STR_RIDE_TIME (i : Nat) : Reg := ⟨key (0x3220 + i) 0x19, 500⟩
/-- R236 of 0x3220+ST (08_cascade.md). -/
def STR_RIDE_VMIN (i : Nat) : Reg := ⟨key (0x3220 + i) 0x1A, 0x44BB8000⟩
/-- R257 of 0x2900+A (09_lv_port_motor.md). -/
def LVC_CTRL (i : Nat) : Reg := ⟨key (0x2900 + i) 0x10, 0⟩
/-- R257 of 0x2900+A (09_lv_port_motor.md). -/
def LVC_HI (i : Nat) : Reg := ⟨key (0x2900 + i) 0x11, 0x7FFF⟩
/-- R257 of 0x2900+A (09_lv_port_motor.md). -/
def LVC_LO (i : Nat) : Reg := ⟨key (0x2900 + i) 0x12, 0x8000⟩
/-- R257 of 0x2900+A (09_lv_port_motor.md). -/
def LVC_HYST (i : Nat) : Reg := ⟨key (0x2900 + i) 0x13, 512⟩
/-- R257 of 0x2900+A (09_lv_port_motor.md). -/
def LVC_TRIP_HI (i : Nat) : Reg := ⟨key (0x2900 + i) 0x14, 0x7FFF⟩
/-- R257 of 0x2900+A (09_lv_port_motor.md). -/
def LVC_TRIP_LO (i : Nat) : Reg := ⟨key (0x2900 + i) 0x15, 0x8000⟩
/-- R257 of 0x2900+A (09_lv_port_motor.md). -/
def LVC_TRIP_DGL (i : Nat) : Reg := ⟨key (0x2900 + i) 0x16, 100⟩
/-- R259 of 0x3440+E (09_lv_port_motor.md). -/
def LVP_KIND (i : Nat) : Reg := ⟨key (0x3440 + i) 0x01, 0⟩
/-- R259 of 0x3440+E (09_lv_port_motor.md). -/
def LVP_BUS (i : Nat) : Reg := ⟨key (0x3440 + i) 0x02, 255⟩
/-- R259 of 0x3440+E (09_lv_port_motor.md). -/
def DRV_CM_BLOCK (i : Nat) : Reg := ⟨key (0x3440 + i) 0x10, 0xFFFF⟩
/-- R259 of 0x3440+E (09_lv_port_motor.md). -/
def DRV_FS_BLOCK (i : Nat) : Reg := ⟨key (0x3440 + i) 0x11, 0xFFFF⟩
/-- R259 of 0x3440+E (09_lv_port_motor.md). -/
def DRV_BUS_IN (i : Nat) : Reg := ⟨key (0x3440 + i) 0x12, 255⟩
/-- R259 of 0x3440+E (09_lv_port_motor.md). -/
def LVB_VIN (i : Nat) : Reg := ⟨key (0x3440 + i) 0x20, 255⟩
/-- R259 of 0x3440+E (09_lv_port_motor.md). -/
def LVB_FEED (i : Nat) : Reg := ⟨key (0x3440 + i) 0x21, 0⟩
/-- R259 of 0x3440+E (09_lv_port_motor.md). -/
def LVB_CH_BLOCK (i : Nat) : Reg := ⟨key (0x3440 + i) 0x22, 0xFFFF⟩
/-- R259 of 0x3440+E (09_lv_port_motor.md). -/
def LVB_OV1 (i : Nat) : Reg := ⟨key (0x3440 + i) 0x23, 0x445C0000⟩
/-- R259 of 0x3440+E (09_lv_port_motor.md). -/
def LVB_OV2 (i : Nat) : Reg := ⟨key (0x3440 + i) 0x24, 0x44688000⟩
/-- R259 of 0x3440+E (09_lv_port_motor.md). -/
def LVB_UV1 (i : Nat) : Reg := ⟨key (0x3440 + i) 0x25, 0x442F0000⟩
/-- R259 of 0x3440+E (09_lv_port_motor.md). -/
def LVB_UV2 (i : Nat) : Reg := ⟨key (0x3440 + i) 0x26, 0x441B0000⟩
/-- R259 of 0x3440+E (09_lv_port_motor.md). -/
def LVB_HYST (i : Nat) : Reg := ⟨key (0x3440 + i) 0x27, 0x41200000⟩
/-- R259 of 0x3440+E (09_lv_port_motor.md). -/
def ACB_FREQ (i : Nat) : Reg := ⟨key (0x3440 + i) 0x30, 0xC350⟩
/-- R259 of 0x3440+E (09_lv_port_motor.md). -/
def ACB_PHASE (i : Nat) : Reg := ⟨key (0x3440 + i) 0x31, 0⟩
/-- R259 of 0x3440+E (09_lv_port_motor.md). -/
def ACB_THETA_IN (i : Nat) : Reg := ⟨key (0x3440 + i) 0x32, 255⟩
/-- R273 of 0x3500 (10_feedback.md). -/
def FB_CTRL : Reg := ⟨key 0x3500 0x01, 0⟩
/-- R273 of 0x3500 (10_feedback.md). -/
def FB_SC_LINES : Reg := ⟨key 0x3500 0x02, 1024⟩
/-- R273 of 0x3500 (10_feedback.md). -/
def FB_POLE_PAIRS : Reg := ⟨key 0x3500 0x03, 1⟩
/-- R273 of 0x3500 (10_feedback.md). -/
def FB_SC_QMIN : Reg := ⟨key 0x3500 0x04, 0x3E800000⟩
/-- R273 of 0x3500 (10_feedback.md). -/
def FB_SC_QMAX : Reg := ⟨key 0x3500 0x05, 0x3FD851EC⟩
/-- R273 of 0x3500 (10_feedback.md). -/
def FB_SC_QN : Reg := ⟨key 0x3500 0x06, 4⟩
/-- R273 of 0x3500 (10_feedback.md). -/
def FB_HALL_FILT : Reg := ⟨key 0x3500 0x07, 1000⟩
/-- R273 of 0x3500 (10_feedback.md). -/
def FB_HALL_OFS : Reg := ⟨key 0x3500 0x08, 0⟩
/-- R273 of 0x3500 (10_feedback.md). -/
def FB_PLS_FILT : Reg := ⟨key 0x3500 0x09, 0⟩
/-- R273 of 0x3500 (10_feedback.md). -/
def FB_SPD_WIN : Reg := ⟨key 0x3500 0x0A, 1000⟩
/-- R273 of 0x3500 (10_feedback.md). -/
def FB_SPD_TMO : Reg := ⟨key 0x3500 0x0B, 0x186A0⟩
/-- R273 of 0x3500 (10_feedback.md). -/
def FB_IRQ_MASK : Reg := ⟨key 0x3500 0x0C, 0⟩
/-- R273 of 0x3500 (10_feedback.md). -/
def FB_SC_COUNT : Reg := ⟨key 0x3500 0x11, 0⟩
/-- R273 of 0x3500 (10_feedback.md). -/
def FB_PLS_COUNT : Reg := ⟨key 0x3500 0x18, 0⟩
/-- R286 of 0x3600 (11_thermal.md). -/
def TH_INTERVAL : Reg := ⟨key 0x3600 0x01, 1000⟩
/-- R286 of 0x3600 (11_thermal.md). -/
def TH_DIE_THR : Reg := ⟨key 0x3600 0x02, 0x42DC0000⟩
/-- R286 of 0x3600 (11_thermal.md). -/
def TH_DIE_SHUT : Reg := ⟨key 0x3600 0x03, 0x42FA0000⟩
/-- R287 of 0x3620+C (11_thermal.md). -/
def TH_CTRL (i : Nat) : Reg := ⟨key (0x3620 + i) 0x01, 0⟩
/-- R287 of 0x3620+C (11_thermal.md). -/
def TH_ISRC (i : Nat) : Reg := ⟨key (0x3620 + i) 0x02, 0xFFFFFFFFFFFF⟩
/-- R287 of 0x3620+C (11_thermal.md). -/
def TH_ISCALE (i : Nat) : Reg := ⟨key (0x3620 + i) 0x03, 0x3F8000003F8000003F8000003F8000003F8000003F800000⟩
/-- R287 of 0x3620+C (11_thermal.md). -/
def TH_VSRC (i : Nat) : Reg := ⟨key (0x3620 + i) 0x04, 0xFFFFFFFFFFFF⟩
/-- R287 of 0x3620+C (11_thermal.md). -/
def TH_NTC_SRC (i : Nat) : Reg := ⟨key (0x3620 + i) 0x05, 255⟩
/-- R287 of 0x3620+C (11_thermal.md). -/
def TH_V0 (i : Nat) : Reg := ⟨key (0x3620 + i) 0x06, 0⟩
/-- R287 of 0x3620+C (11_thermal.md). -/
def TH_R0 (i : Nat) : Reg := ⟨key (0x3620 + i) 0x07, 0⟩
/-- R287 of 0x3620+C (11_thermal.md). -/
def TH_R_TC (i : Nat) : Reg := ⟨key (0x3620 + i) 0x08, 0⟩
/-- R287 of 0x3620+C (11_thermal.md). -/
def TH_I_STEP (i : Nat) : Reg := ⟨key (0x3620 + i) 0x09, 0x41200000⟩
/-- R287 of 0x3620+C (11_thermal.md). -/
def TH_V_REF (i : Nat) : Reg := ⟨key (0x3620 + i) 0x0A, 0x447A0000⟩
/-- R287 of 0x3620+C (11_thermal.md). -/
def TH_ESW (i : Nat) : Reg := ⟨key (0x3620 + i) 0x0B, 0⟩
/-- R287 of 0x3620+C (11_thermal.md). -/
def TH_FOSTER (i : Nat) : Reg := ⟨key (0x3620 + i) 0x0C, 0⟩
/-- R287 of 0x3620+C (11_thermal.md). -/
def TH_T_AMB (i : Nat) : Reg := ⟨key (0x3620 + i) 0x0D, 0x42200000⟩
/-- R287 of 0x3620+C (11_thermal.md). -/
def TH_GROUP (i : Nat) : Reg := ⟨key (0x3620 + i) 0x0E, 255⟩
/-- R287 of 0x3620+C (11_thermal.md). -/
def TH_TJ_THR (i : Nat) : Reg := ⟨key (0x3620 + i) 0x0F, 0x430C0000⟩
/-- R287 of 0x3620+C (11_thermal.md). -/
def TH_TJ_SHUT (i : Nat) : Reg := ⟨key (0x3620 + i) 0x10, 0x43250000⟩
/-- R287 of 0x3620+C (11_thermal.md). -/
def TH_TJ_RESUME (i : Nat) : Reg := ⟨key (0x3620 + i) 0x11, 0x42F00000⟩
/-- R287 of 0x3620+C (11_thermal.md). -/
def TH_K_MIN (i : Nat) : Reg := ⟨key (0x3620 + i) 0x12, 0x3E4CCCCD⟩
/-- R287 of 0x3620+C (11_thermal.md). -/
def TH_XDEV (i : Nat) : Reg := ⟨key (0x3620 + i) 0x13, 0x41700000⟩
/-- R287 of 0x3620+C (11_thermal.md). -/
def TH_XTIME (i : Nat) : Reg := ⟨key (0x3620 + i) 0x14, 2000⟩
/-- R287 of 0x3620+C (11_thermal.md). -/
def TH_NTC_MIN (i : Nat) : Reg := ⟨key (0x3620 + i) 0x15, 0xC2340000⟩
/-- R287 of 0x3620+C (11_thermal.md). -/
def TH_NTC_MAX (i : Nat) : Reg := ⟨key (0x3620 + i) 0x16, 0x43160000⟩
/-- R306 of 0x1800 (12_faults.md). -/
def FLT_QUERY : Reg := ⟨key 0x1800 0x0A, 0⟩
/-- R306 of 0x1800 (12_faults.md). -/
def ALM_COALESCE : Reg := ⟨key 0x1800 0x0E, 10⟩
/-- R332 of 0x3800 (13_safety.md). -/
def SF_STO_GROUP : Reg := ⟨key 0x3800 0x10, 0xFFFFFFFFFFFFFFFF⟩
/-- R332 of 0x3800 (13_safety.md). -/
def SF_STO_PAIR : Reg := ⟨key 0x3800 0x11, 1⟩
/-- R332 of 0x3800 (13_safety.md). -/
def SF_STO_DISC_TIME : Reg := ⟨key 0x3800 0x12, 100⟩
/-- R332 of 0x3800 (13_safety.md). -/
def SF_RESTART : Reg := ⟨key 0x3800 0x13, 3⟩
/-- R332 of 0x3800 (13_safety.md). -/
def SF_STO_PROOF : Reg := ⟨key 0x3800 0x16, 168⟩
/-- R332 of 0x3800 (13_safety.md). -/
def SF_SO_SRC (u : Nat) : Reg := ⟨key 0x3800 (0x20 + u), 0⟩
/-- R332 of 0x3800 (13_safety.md). -/
def SF_SO_PULSE (u : Nat) : Reg := ⟨key 0x3800 (0x24 + u), 300⟩
/-- R332 of 0x3800 (13_safety.md). -/
def SF_SO_PERIOD (u : Nat) : Reg := ⟨key 0x3800 (0x28 + u), 10⟩
/-- R333 of 0x3810+c (13_safety.md). -/
def SDC_CONN (i : Nat) : Reg := ⟨key (0x3810 + i) 0x01, 0xFFFF⟩
/-- R333 of 0x3810+c (13_safety.md). -/
def SDC_PRODUCER (i : Nat) : Reg := ⟨key (0x3810 + i) 0x02, 0xFFFF⟩
/-- R333 of 0x3810+c (13_safety.md). -/
def SDC_SEED (i : Nat) : Reg := ⟨key (0x3810 + i) 0x03, 0⟩
/-- R333 of 0x3810+c (13_safety.md). -/
def SDC_WD (i : Nat) : Reg := ⟨key (0x3810 + i) 0x04, 20⟩
/-- R333 of 0x3810+c (13_safety.md). -/
def SDC_SKEW (i : Nat) : Reg := ⟨key (0x3810 + i) 0x05, 500⟩
/-- R333 of 0x3810+c (13_safety.md). -/
def SDC_BOTH (i : Nat) : Reg := ⟨key (0x3810 + i) 0x06, 0⟩
/-- R333 of 0x3810+c (13_safety.md). -/
def SDC_STO_BIT (i : Nat) : Reg := ⟨key (0x3810 + i) 0x07, 255⟩
/-- R333 of 0x3810+c (13_safety.md). -/
def SDC_STO_SLOTS (i : Nat) : Reg := ⟨key (0x3810 + i) 0x08, 0⟩
/-- R334 of 0x3820+p (13_safety.md). -/
def SDP_CONN (i : Nat) : Reg := ⟨key (0x3820 + i) 0x01, 0xFFFF⟩
/-- R334 of 0x3820+p (13_safety.md). -/
def SDP_SEED (i : Nat) : Reg := ⟨key (0x3820 + i) 0x02, 0⟩
/-- R334 of 0x3820+p (13_safety.md). -/
def SDP_CYCLE (i : Nat) : Reg := ⟨key (0x3820 + i) 0x03, 2000⟩
/-- R356 of 0x1280+n (14_lanes.md). -/
def LANE_CTRL (i : Nat) : Reg := ⟨key (0x1280 + i) 0x01, 1⟩
/-- R391 of 0x1200 (15_ring.md). -/
def RING_SYS_CYCLE_MIN : Reg := ⟨key 0x1200 0x05, 0xC350⟩
/-- R391 of 0x1200 (15_ring.md). -/
def RING_MGR_COMPUTE : Reg := ⟨key 0x1200 0x06, 0x7A120⟩
/-- R391 of 0x1200 (15_ring.md). -/
def RING_TC1_SKEW : Reg := ⟨key 0x1200 0x0E, 500⟩
/-- R391 of 0x1200 (15_ring.md). -/
def RING_TC2_RATE : Reg := ⟨key 0x1200 0x10, 0⟩
/-- R391 of 0x1200 (15_ring.md). -/
def RING_TC3_RATE : Reg := ⟨key 0x1200 0x11, 0⟩
/-- R391 of 0x1200 (15_ring.md). -/
def RING_TC2_DEPTH : Reg := ⟨key 0x1200 0x12, 0x4000⟩
/-- R391 of 0x1200 (15_ring.md). -/
def RING_TC3_DEPTH : Reg := ⟨key 0x1200 0x13, 0x40000⟩
/-- R391 of 0x1200 (15_ring.md). -/
def RING_TC3_WAIT : Reg := ⟨key 0x1200 0x15, 100⟩
/-- R391 of 0x1200 (15_ring.md). -/
def RING_ID_TABLE : Reg := ⟨key 0x1200 0x20, 0⟩
/-- R392 of 0x1210+t (15_ring.md). -/
def TX_DST (i : Nat) : Reg := ⟨key (0x1210 + i) 0x01, 0⟩
/-- R392 of 0x1210+t (15_ring.md). -/
def TX_N (i : Nat) : Reg := ⟨key (0x1210 + i) 0x02, 0⟩
/-- R392 of 0x1210+t (15_ring.md). -/
def TX_MAP (i : Nat) : Reg := ⟨key (0x1210 + i) 0x03, 2 ^ 4096 - 1⟩
/-- R392 of 0x1210+t (15_ring.md). -/
def TX_LAG (i : Nat) : Reg := ⟨key (0x1210 + i) 0x04, 1⟩
/-- R393 of 0x1220 (15_ring.md). -/
def RX_MAP : Reg := ⟨key 0x1220 0x01, 0⟩
/-- R394 of 0x1230 (15_ring.md). -/
def ALM_SUM_PERIOD : Reg := ⟨key 0x1230 0x06, 10⟩
/-- R394 of 0x1230 (15_ring.md). -/
def ALM_MODE : Reg := ⟨key 0x1230 0x07, 0⟩
/-- R394 of 0x1230 (15_ring.md). -/
def ALM_PULL_RATE : Reg := ⟨key 0x1230 0x09, 0x4E20⟩
/-- R418 of 0x1300 (16_time.md). -/
def TM_SRC : Reg := ⟨key 0x1300 0x03, 1⟩
/-- R418 of 0x1300 (16_time.md). -/
def TM_KP : Reg := ⟨key 0x1300 0x07, 0x3DCCCCCD⟩
/-- R418 of 0x1300 (16_time.md). -/
def TM_KI : Reg := ⟨key 0x1300 0x08, 0x3BA3D70A⟩
/-- R418 of 0x1300 (16_time.md). -/
def TM_STEP_THR : Reg := ⟨key 0x1300 0x09, 1000⟩
/-- R418 of 0x1300 (16_time.md). -/
def TM_LOCK_TOL : Reg := ⟨key 0x1300 0x0A, 1⟩
/-- R418 of 0x1300 (16_time.md). -/
def TM_PPS_WIDTH : Reg := ⟨key 0x1300 0x10, 0x186A0⟩
/-- R418 of 0x1300 (16_time.md). -/
def TM_PPS_IN_CTRL : Reg := ⟨key 0x1300 0x12, 0⟩
/-- R418 of 0x1300 (16_time.md). -/
def TM_ALARM : Reg := ⟨key 0x1300 0x19, 100⟩
/-- R419 of 0x1310+n (16_time.md). -/
def TM_ASYM (i : Nat) : Reg := ⟨key (0x1310 + i) 0x01, 0⟩
/-- R420 of 0x1320+d (16_time.md). -/
def PTP_CTRL (i : Nat) : Reg := ⟨key (0x1320 + i) 0x01, 0⟩
/-- R420 of 0x1320+d (16_time.md). -/
def PTP_DOMAIN (i : Nat) : Reg := ⟨key (0x1320 + i) 0x02, i⟩
/-- R420 of 0x1320+d (16_time.md). -/
def PTP_TMO (i : Nat) : Reg := ⟨key (0x1320 + i) 0x07, 3000⟩
/-- R420 of 0x1320+d (16_time.md). -/
def PTP_ASYM (i : Nat) : Reg := ⟨key (0x1320 + i) 0x0A, 0⟩
/-- R421 of 0x1340+b (16_time.md). -/
def BELL_START (i : Nat) : Reg := ⟨key (0x1340 + i) 0x01, 0⟩
/-- R421 of 0x1340+b (16_time.md). -/
def BELL_PERIOD (i : Nat) : Reg := ⟨key (0x1340 + i) 0x02, 0xF4240⟩
/-- R422 of 0x1380+n (16_time.md). -/
def TRIG_MODE (i : Nat) : Reg := ⟨key (0x1380 + i) 0x01, 0⟩
/-- R422 of 0x1380+n (16_time.md). -/
def TRIG_BELL (i : Nat) : Reg := ⟨key (0x1380 + i) 0x02, 0⟩
/-- R422 of 0x1380+n (16_time.md). -/
def TRIG_WIDTH (i : Nat) : Reg := ⟨key (0x1380 + i) 0x03, 1000⟩
/-- R444 of 0x1400 (17_managers.md). -/
def ROLE : Reg := ⟨key 0x1400 0x01, 2⟩
/-- R444 of 0x1400 (17_managers.md). -/
def MGR_NODE : Reg := ⟨key 0x1400 0x02, 0⟩
/-- R444 of 0x1400 (17_managers.md). -/
def MGR_MODE : Reg := ⟨key 0x1400 0x04, 0⟩
/-- R444 of 0x1400 (17_managers.md). -/
def MGR_LOSS_CYCLES : Reg := ⟨key 0x1400 0x07, 2⟩
/-- R444 of 0x1400 (17_managers.md). -/
def MGR_RECLAIM : Reg := ⟨key 0x1400 0x08, 1⟩
/-- R444 of 0x1400 (17_managers.md). -/
def MGR_RECLAIM_HOLD : Reg := ⟨key 0x1400 0x09, 0x7530⟩
/-- R444 of 0x1400 (17_managers.md). -/
def MGR_OVERLAP : Reg := ⟨key 0x1400 0x0A, 8⟩
/-- R444 of 0x1400 (17_managers.md). -/
def MGR_LISTEN : Reg := ⟨key 0x1400 0x0B, 200⟩
/-- R444 of 0x1400 (17_managers.md). -/
def MGR_SYS_SLOTS : Reg := ⟨key 0x1400 0x0C, 0⟩
/-- R444 of 0x1400 (17_managers.md). -/
def WK_T_HOLD : Reg := ⟨key 0x1400 0x18, 500⟩
/-- R444 of 0x1400 (17_managers.md). -/
def WK_STATE_INS : Reg := ⟨key 0x1400 0x1A, 2 ^ 1024 - 1⟩
/-- R444 of 0x1400 (17_managers.md). -/
def RC_PERIOD : Reg := ⟨key 0x1400 0x22, 10⟩
/-- R474 of 0x1000 (18_object_dictionary.md). -/
def DEVICE_NAME : Reg := ⟨key 0x1000 0x0E, 0⟩
/-- R475 of 0x1100 (18_object_dictionary.md). -/
def NET_CTRL : Reg := ⟨key 0x1100 0x01, 7⟩
/-- R475 of 0x1100 (18_object_dictionary.md). -/
def ETH_MAC : Reg := ⟨key 0x1100 0x02, Config.ethMac⟩
/-- R475 of 0x1100 (18_object_dictionary.md). -/
def ETH_IPV4 : Reg := ⟨key 0x1100 0x03, 0xC000A8C0⟩
/-- R475 of 0x1100 (18_object_dictionary.md). -/
def ETH_MASK : Reg := ⟨key 0x1100 0x04, 0xFFFFFF⟩
/-- R475 of 0x1100 (18_object_dictionary.md). -/
def ETH_GATEWAY : Reg := ⟨key 0x1100 0x05, 0⟩
/-- R475 of 0x1100 (18_object_dictionary.md). -/
def ETH_UDP_PORT : Reg := ⟨key 0x1100 0x06, 0xCAD0⟩
/-- R475 of 0x1100 (18_object_dictionary.md). -/
def ETH_TRACE_DST : Reg := ⟨key 0x1100 0x07, 0⟩
/-- R475 of 0x1100 (18_object_dictionary.md). -/
def CAN_NODE : Reg := ⟨key 0x1100 0x0A, 1⟩
/-- R475 of 0x1100 (18_object_dictionary.md). -/
def CAN_NOM_RATE : Reg := ⟨key 0x1100 0x0B, 0x7A120⟩
/-- R475 of 0x1100 (18_object_dictionary.md). -/
def CAN_DATA_RATE : Reg := ⟨key 0x1100 0x0C, 0x1E8480⟩
/-- R475 of 0x1100 (18_object_dictionary.md). -/
def SPI_IRQ_MASK : Reg := ⟨key 0x1100 0x0E, 1⟩
/-- R475 of 0x1100 (18_object_dictionary.md). -/
def OD_REMOTE_TMO : Reg := ⟨key 0x1100 0x10, 100⟩
/-- R475 of 0x1100 (18_object_dictionary.md). -/
def TR_UDP_RATE : Reg := ⟨key 0x1100 0x13, 0x186A0⟩
/-- R475 of 0x1100 (18_object_dictionary.md). -/
def TR_RING_DST : Reg := ⟨key 0x1100 0x14, 0⟩
/-- R476 of 0x8000+s (18_object_dictionary.md). -/
def TR_BIND (i : Nat) : Reg := ⟨key (0x8000 + i) 0x03, 0⟩
/-- R476 of 0x8000+s (18_object_dictionary.md). -/
def TR_PERIOD (i : Nat) : Reg := ⟨key (0x8000 + i) 0x04, 1000⟩
/-- R476 of 0x8000+s (18_object_dictionary.md). -/
def TR_STREAM (i : Nat) : Reg := ⟨key (0x8000 + i) 0x05, 0⟩
/-- R492 of 0x1A00 (19_clocks.md). -/
def SYS_N : Reg := ⟨key 0x1A00 0x03, 80⟩
/-- R492 of 0x1A00 (19_clocks.md). -/
def DIV_PWM : Reg := ⟨key 0x1A00 0x04, 4⟩
/-- R492 of 0x1A00 (19_clocks.md). -/
def DIV_CORE : Reg := ⟨key 0x1A00 0x05, 5⟩
/-- R492 of 0x1A00 (19_clocks.md). -/
def DIV_LOOP : Reg := ⟨key 0x1A00 0x06, 5⟩
/-- R492 of 0x1A00 (19_clocks.md). -/
def DIV_SAFE : Reg := ⟨key 0x1A00 0x07, 10⟩
/-- R492 of 0x1A00 (19_clocks.md). -/
def DIV_MEAS : Reg := ⟨key 0x1A00 0x08, 20⟩
/-- R512 of 0x1900 (20_power_reset.md). -/
def PWR_REQ : Reg := ⟨key 0x1900 0x02, 1023⟩
/-- R512 of 0x1900 (20_power_reset.md). -/
def SLEEP_WAKE : Reg := ⟨key 0x1900 0x0C, 1⟩
/-- R512 of 0x1900 (20_power_reset.md). -/
def SLEEP_TIMER : Reg := ⟨key 0x1900 0x0D, 0⟩
/-- R540 of 0x1B20 (21_storage_security.md). -/
def CEL_TRIG : Reg := ⟨key 0x1B20 0x04, 23⟩
/-- R540 of 0x1B20 (21_storage_security.md). -/
def CEL_PRE : Reg := ⟨key 0x1B20 0x05, 32⟩
/-- R540 of 0x1B20 (21_storage_security.md). -/
def CEL_POST : Reg := ⟨key 0x1B20 0x06, 2000⟩
/-- R540 of 0x1B20 (21_storage_security.md). -/
def CEL_SIGNALS : Reg := ⟨key 0x1B20 0x07, 0⟩
/-- R540 of 0x1B20 (21_storage_security.md). -/
def CEL_SEL : Reg := ⟨key 0x1B20 0x08, 0⟩
/-- R540 of 0x1B20 (21_storage_security.md). -/
def CEL_READ_OFS : Reg := ⟨key 0x1B20 0x0A, 0⟩
/-- R540 of 0x1B20 (21_storage_security.md). -/
def CEL_DST : Reg := ⟨key 0x1B20 0x0C, 0⟩
/-- R540 of 0x1B20 (21_storage_security.md). -/
def CEL_PE_RATED : Reg := ⟨key 0x1B20 0x0F, 0xEA60⟩
/-- R552 of 0x1C00 (22_test.md). -/
def BIST_TARGET : Reg := ⟨key 0x1C00 0x02, 0⟩

end Sys2Proof.Machine.Od
end

