-- ==== Sys2Proof/Machine/State.lean ====
section
/-! DEFINITION. The state of the block: plain data, one structure per unit of the device, and the queue of the
commands that wait. The default of every field is its value after a cold reset. -/

namespace Sys2Proof.Machine

/-- Why the machine stops with a fault. No meaning raises one: what the manual calls a fault is a record at the
fault collector (R289 to R307) and part of State. -/
inductive Fault where
  /-- raised by no meaning; safe -/
  | none
  deriving DecidableEq, Repr

/-- Why a command has no meaning. -/
inductive Refusal where
  /-- raised by an arm of exec whose command is not modelled yet; safe, the machine stops -/
  | notModelled (mnemonic : String)
  deriving DecidableEq, Repr

/-- The object-dictionary store: key and value of every writable entry that does not hold its default, keys
strictly rising. -/
abbrev OdStore := List (Nat × Nat)

/-- The codes of SLOT_CMD_STATUS (R47), which other command entries share. -/
inductive CmdSt where
  | idle | pending | done | refused
  deriving DecidableEq, Repr

/-! ### Leg timing unit (03) -/

/-- The leg command of R55 and R80. -/
inductive Cmd where
  | off | high | low
  | raw (gh gl : Bool)
  deriving DecidableEq, Repr

/-- A force entry (R73). -/
inductive Force where
  | none | off | upper | lower
  | raw (gh gl : Bool)
  deriving DecidableEq, Repr

/-- One leg channel of the leg timing unit. -/
structure Leg where
  enabled : Bool := false
  /-- last committed duty and phase, in sixteenths of a count (R56, R61) -/
  dutyCom : Nat := 0
  phaseCom : Nat := 0
  /-- duty and phase as last applied to the leg (R58, R70) -/
  dutyApp : Nat := 0
  phaseApp : Nat := 0
  /-- active duty after the clamp and active phase after the reduction (R68, R56) -/
  dutyAct : Nat := 0
  phaseAct : Nat := 0
  /-- integer counts in use after dithering (R57) -/
  cNow : Nat := 0
  phiNow : Nat := 0
  /-- own valleys since the carrier's start (R57) -/
  valleys : Nat := 0
  /-- p of the pulse in force (R57) -/
  pSel : Nat := 0
  /-- local time of the last own peak and own valley (R55) -/
  lastPeak : Option Nat := .none
  lastValley : Option Nat := .none
  /-- the compare command is HIGH (R55) -/
  cmp : Bool := false
  /-- committed values wait for the leg's own reload point (R70) -/
  pending : Bool := false
  /-- auto mode: duty, phase written since the last commit point (R62) -/
  wrDuty : Bool := false
  wrPhase : Bool := false
  /-- force entry in effect; the one that waits, and the PWM clock of its write (R74) -/
  force : Force := .none
  wait : Option Force := .none
  waitClk : Nat := 0
  /-- peak-limit cuts in progress (R78) -/
  cutHi : Bool := false
  cutLo : Bool := false
  /-- end of the bootstrap refresh in progress (R76) -/
  boot : Option Nat := .none
  /-- whole HIGH periods so far, and HIGH in every clock since the last own peak (R76) -/
  highRun : Nat := 0
  highAll : Bool := false
  /-- the command of R80 -/
  cmd : Cmd := .off
  /-- loop slot bound in effect (R43) -/
  bound : Option Nat := .none
  /-- OFF after a parity error until the next apply (R81) -/
  parityOff : Bool := false
  bootSeen : Bool := false
  clamped : Bool := false
  mixed : Bool := false
  clampSeen : Bool := false
  parity : Bool := false
  pklCount : Nat := 0
  bootCount : Nat := 0
  clampCount : Nat := 0
  deriving DecidableEq, Repr

/-- CAR_STATE (R84). -/
inductive CarState where
  | stopped | armed | running | stopping
  deriving DecidableEq, Repr

/-- One carrier. -/
structure Carrier where
  st : CarState := .stopped
  /-- active and last committed period (R58) -/
  p : Nat := 5000
  pCom : Nat := 5000
  /-- the carrier position was refN at local time refT (R49, R69) -/
  refT : Nat := 0
  refN : Nat := 0
  /-- commit request pending (R61); period written in auto mode (R62) -/
  pend : Bool := false
  wrPeriod : Bool := false
  /-- PWM clock of the last commit point, and the last clock counted in CAR_LATE (R66) -/
  cpClk : Option Nat := .none
  lateClk : Option Nat := .none
  /-- writes in the clock of a commit point still to come (R66): that clock, the pending request as it stood before
  it, each staged value as it stood before it with its written flag, and whether a request came in it -/
  lateAt : Option Nat := .none
  latePend : Bool := false
  lateOld : List (Nat × Nat × Bool) := []
  lateReq : Bool := false
  lateDiscard : Bool := false
  /-- PWM clock in which a stop was accepted (R53) -/
  stopClk : Nat := 0
  parityOff : Bool := false
  paritySeen : Bool := false
  /-- valleys and peaks since the start (R130, R169) -/
  evV : Nat := 0
  evP : Nat := 0
  valleys : Nat := 0
  commits : Nat := 0
  late : Nat := 0
  deriving DecidableEq, Repr

/-- What takes effect in a PWM clock still to come: an immediate force entry (R74), or a cut for which the lines HI and
LO have reached the leg timing unit (R79). -/
inductive Soon where
  | force (l : Nat) (f : Force)
  | cut (l : Nat) (hi lo : Bool)
  deriving DecidableEq, Repr

/-! ### Gate guard (04) -/

/-- An FK assertion as the guard holds it (R95, R96, R98). -/
inductive FkSt where
  | none
  /-- outside blanking, seen since the time given (R95) -/
  | deglitch (since : Nat)
  /-- inside blanking, held since the time given (R96) -/
  | held (since : Nat)
  /-- decided, or handled under R98 and still asserted -/
  | decided | idle
  deriving DecidableEq, Repr

/-- The gate guard of one leg. -/
structure Guard where
  /-- requests of R85 and the local time at which each began (R86) -/
  ghReq : Bool := false
  glReq : Bool := false
  ghReqAt : Nat := 0
  glReqAt : Nat := 0
  /-- gate levels and the local time at which each last went low (t_off of R87) and last rose -/
  gh : Bool := false
  gl : Bool := false
  ghOff : Nat := 0
  glOff : Nat := 0
  glRise : Nat := 0
  /-- t_x of R87 for the falling node (GL incoming) and for the rising node -/
  txF : Option Nat := .none
  txR : Option Nat := .none
  /-- first capture since the gate itself went low that shows its level: GH, GL (R90) -/
  selfH : Option Nat := .none
  selfL : Option Nat := .none
  /-- the request standing began again before the other gate had risen: GH, GL (R90) -/
  againH : Bool := false
  againL : Bool := false
  /-- SN after SN_INV: high -/
  sn : Bool := false
  /-- D_F and D_R in 1/128 ns (R91), and the last t_x - t_off in 500 ps (R111) -/
  dF : Nat := 12800
  dR : Nat := 12800
  tswF : Nat := 0xFFFF
  tswR : Nat := 0xFFFF
  latched : Bool := false
  /-- both gates held low until the next own peak (R94) -/
  xhold : Bool := false
  /-- local time at which that hold began -/
  xholdAt : Nat := 0
  /-- last gate change, from which blanking runs, and the one before it (R96); a gate that goes low in the next clock
  counts from there -/
  blank : Option Nat := .none
  blankWas : Option Nat := .none
  /-- GH, GL: the request standing began with a commit, a force entry or a bind during a safe-off sequence of the
  unit (R32) -/
  barH : Bool := false
  barL : Bool := false
  fk : FkSt := .none
  fkPin : Bool := false
  /-- GL on-time so far, needed before GH (R102), and charge-pump wait begun (R103) -/
  bootAcc : Nat := 0
  pumpWait : Option Nat := .none
  /-- held low by STO or a processor hold, until an own peak after the restart (R106, R314) -/
  stoLow : Bool := true
  stoMet : Option Nat := .none
  /-- deadline of the SN confirm, and the level expected (R89) -/
  confirm : Option (Nat × Bool) := .none
  xcmdSeen : Bool := false
  fkSeen : Bool := false
  blankedSeen : Bool := false
  snMiss : Bool := false
  backstop : Bool := false
  clkClamp : Bool := false
  fkCount : Nat := 0
  blankedCount : Nat := 0
  xcmdCount : Nat := 0
  backstops : Nat := 0
  snMisses : Nat := 0
  /-- turn-on and turn-off edges counted for the thermal unit (R276) -/
  onH : Nat := 0
  onL : Nat := 0
  offH : Nat := 0
  offL : Nat := 0
  deriving DecidableEq, Repr

/-- A record of a safe-off sequence on a string member (R100). -/
structure SoRecord where
  str : Nat
  node : Nat
  slot : Nat
  /-- system time of t0 -/
  t0 : Nat
  die : Bool
  deriving DecidableEq, Repr

/-! ### Cell slots (02) -/

/-- The states of R34 that a unit can be in. -/
inductive UState where
  | stopped | precharge | active | spare | bypassed | faulted
  deriving DecidableEq, Repr

/-- What a running sequence is: a safe-off (R31), a STOP (R33), or the stop of a string trip (R101). -/
inductive SeqKind where
  | safeOff | stop
  deriving DecidableEq, Repr

/-- A running sequence of a unit: its kind, the local time of t0, the next step, and the reason to record. -/
structure Seq where
  kind : SeqKind
  t0 : Nat
  next : Nat
  reason : Nat
  deriving DecidableEq, Repr

/-- One unit of a slot (R26, R35). -/
structure UnitSt where
  st : UState := .stopped
  seq : Option Seq := .none
  /-- a stop under R33 that waits for its t0, with the PWM clock in which it was asked for -/
  stopAsk : Option Nat := .none
  /-- t0 of the last safe-off sequence: a decision in that clock is step 0 of it (R99) -/
  soAt : Option Nat := .none
  deriving DecidableEq, Repr

/-- The commands of SLOT_CMD (R38). -/
inductive SlotOp where
  | start | stop | bypass | insert | clear
  deriving DecidableEq, Repr

/-- A command that waits for a commit point (R38), with the PWM clock of its write. -/
structure SlotCmd where
  op : SlotOp
  mask : Nat
  clk : Nat
  deriving DecidableEq, Repr

/-- One cell slot. -/
structure Slot where
  units : List UnitSt := List.replicate 6 {}
  cmd : Option SlotCmd := .none
  cmdSt : CmdSt := .idle
  reason : Nat := 0
  soCount : Nat := 0
  deriving DecidableEq, Repr

/-! ### Fault collector (12) -/

/-- The states of an instance (R295). -/
inductive FltSt where
  | clear | transient | lasting
  deriving DecidableEq, Repr

/-- The access a fault belongs to (R301). -/
structure FltAccess where
  master : Nat := 0xFF
  access : Nat := 0
  node : Nat := 0x3FF
  addr : Nat := 0
  deriving DecidableEq, Repr

/-- Events of one instance that wait at their source (R297); times are system times. -/
structure Raised where
  code : Nat
  inst : Nat
  count : Nat
  first : Nat
  last : Nat
  detail : Nat
  acc : FltAccess
  deriving DecidableEq, Repr

/-- One instance that has been raised since reset (R295). -/
structure FltInst where
  code : Nat
  inst : Nat
  n : Nat := 0
  tw : Nat := 0
  st : FltSt := .clear
  events : Nat := 0
  deriving DecidableEq, Repr

/-- A capture record (R301). -/
structure Capture where
  code : Nat
  inst : Nat
  acc : FltAccess
  detail : Nat
  time : Nat
  deriving DecidableEq, Repr

/-- An alarm record (R304); times are system times. -/
structure Alarm where
  code : Nat
  detail : Nat
  inst : Nat
  flags : Nat
  count : Nat
  first : Nat
  lastDelta : Nat
  seq : Nat
  deriving DecidableEq, Repr

/-- An open coalescing record (R303) and the local time of its opening. -/
structure Coalesce where
  code : Nat
  inst : Nat
  opened : Nat
  count : Nat
  detail : Nat
  first : Nat
  last : Nat
  deriving DecidableEq, Repr

/-- The fault collector. -/
structure Faults where
  raised : List Raised := []
  insts : List FltInst := []
  capC : Option Capture := .none
  capU : Option Capture := .none
  coal : List Coalesce := []
  countC : Nat := 0
  countU : Nat := 0
  countF : Nat := 0
  clrSt : CmdSt := .idle
  almSeq : Nat := 0
  reacts : Nat := 0
  /-- a RESET reaction waits for the end of every sequence (R293) -/
  resetPend : Bool := false
  deriving DecidableEq, Repr
/-- A shutdown record (R282): slot, switch, T_max, T_ref, judgement, die cause, system time. -/
structure ShutRec where
  slot : Nat
  sw : Nat
  tmax : Nat
  tref : Nat
  sensor : Nat
  die : Bool
  time : Nat
  deriving DecidableEq, Repr


/-! ### Safety functions (13) -/

/-- SF_STATE (R332). -/
inductive SfState where
  | noConfig | run | failsafe
  deriving DecidableEq, Repr

/-- SF_SIGNOFF_STATE (R328). -/
inductive SfSession where
  | closed | opened | verified
  deriving DecidableEq, Repr

/-- An STO pin: its level, the local time of its last change, the demand as the safety core qualifies it, and the
cause of R315 that lasts until release has been shown for 10 ms (R311, R315). -/
structure StoPin where
  low : Bool := true
  since : Nat := 0
  demand : Bool := true
  cause : Bool := true
  /-- the hard-wired channel holds the group: by the pin, by the internal demand -/
  hw : Bool := true
  internal : Bool := false
  deriving DecidableEq, Repr

/-- A safe output (R319 to R321). -/
structure SafeOut where
  drv : Bool := false
  rb : Bool := false
  latched : Bool := false
  /-- local time of its rise or last test -/
  since : Nat := 0
  /-- start of the off-pulse in progress -/
  pulse : Option Nat := .none
  deriving DecidableEq, Repr

/-- SDC_STATE (R333). -/
inductive SdcState where
  | unused | valid | failsafe
  deriving DecidableEq, Repr

/-- A consumer connection (R324, R325). -/
structure Consumer where
  st : SdcState := .unused
  seq : Option Nat := .none
  /-- open skew window: the first copy and the local time of its arrival -/
  win : Option (List Byte × Nat) := .none
  acceptedAt : Nat := 0
  data : List Byte := List.replicate 16 0
  single : Nat := 0
  mismatch : Nat := 0
  reject : Nat := 0
  failsafes : Nat := 0
  skewMax : Nat := 0
  deriving DecidableEq, Repr

/-- A producer connection (R323). -/
structure Producer where
  seq : Nat := 0
  sent : Nat := 0
  lastAt : Nat := 0
  deriving DecidableEq, Repr

/-- The safety core and the hard-wired STO channel. -/
structure Safety where
  st : SfState := .noConfig
  session : SfSession := .closed
  sessionAt : Nat := 0
  /-- the pending set of an open session (R328) -/
  pendSet : OdStore := []
  pendCrc : Nat := 0
  activeCrc : Nat := 0
  signoffs : Nat := 0
  signoffTime : Nat := 0
  pinA : StoPin := {}
  pinB : StoPin := {}
  /-- the two demands have differed since (R313); the cause of SF_STO_DISC stands -/
  discSince : Option Nat := .none
  disc : Bool := false
  /-- STO_REQ causes: code, instance and slots of each (R315) -/
  stoReq : List (Nat × Nat × Nat) := []
  /-- SF_PHOLD: bit n, slot Cn under the processor hold (R314) -/
  phold : Nat := 0xFFFFFFFF
  /-- an acknowledgement for the group has been accepted since its causes ended (R316) -/
  ackA : Bool := false
  ackB : Bool := false
  /-- one acknowledgement has named both groups (R316) -/
  ackAB : Bool := false
  ackSeq : Nat := 0
  /-- group of the latest proof test (R318), 0 A or 1 B, and local time of its end -/
  test : Option (Nat × Nat) := .none
  testLastA : Nat := 0
  testLastB : Nat := 0
  dueA : Bool := false
  dueB : Bool := false
  outs : List SafeOut := List.replicate 4 {}
  cons : List Consumer := List.replicate 16 {}
  prods : List Producer := List.replicate 4 {}
  wdExpired : Bool := false
  deriving DecidableEq, Repr

/-! ### Access paths (18) -/

/-- An open segmented write (R457). -/
structure SegXfer where
  path : Path
  who : Nat
  idx : Nat
  sub : Nat
  data : List Byte
  at_ : Nat
  deriving DecidableEq, Repr

/-- A snapshot buffer in use (R458). -/
structure Snapshot where
  path : Path
  who : Nat
  idx : Nat
  sub : Nat
  data : List Byte
  at_ : Nat
  deriving DecidableEq, Repr

/-- A forwarded request that waits for its response (R467). -/
structure Forward where
  ownTag : Nat
  msg : Msg
  sentAt : Nat
  deriving DecidableEq, Repr

/-- A bound trace signal: its number, value and the time of the value (R470). -/
structure Trace where
  sig : Nat
  value : Nat
  time : Nat
  deriving DecidableEq, Repr

/-- The access paths. -/
structure Access where
  segs : List SegXfer := []
  /-- requesters whose transfer timed out, answered at their next request (R457) -/
  timedOut : List (Path × Nat) := []
  snaps : List Snapshot := []
  fwd : List Forward := []
  /-- requests that wait for domain D to wake (R498) -/
  stalled : List (Nat × Msg) := []
  /-- ready responses of the host SPI port (R465) -/
  spiReady : List (List Byte) := []
  /-- SPI_IRQ_PEND bit 2 (R466) -/
  irqAlarm : Bool := false
  /-- OD_COUNTS: per path, requests served and aborts returned -/
  counts : List (Nat × Nat) := List.replicate 4 (0, 0)
  drops : Nat := 0
  /-- CAN_STATUS (R464), and ETH_LINK with its bit 0 (R463) -/
  canSt : Nat := 0
  ethUp : Bool := false
  ethLink : Nat := 0
  traces : List Trace := []
  trDrops : Nat := 0
  /-- UDP bits streamed in the second of local time given (R471) -/
  udpSec : Nat := 0
  udpBits : Nat := 0
  nextTag : Nat := 0
  deriving DecidableEq, Repr

/-! ### Clocks (19) -/

/-- What the PLL_SYS domains run from (R482, R487). -/
inductive ClkSrc where
  | pll | refclk | checkOsc
  deriving DecidableEq, Repr

/-- SYS_N and the five dividers (R481). -/
structure ClkSet where
  n : Nat := 80
  pwm : Nat := 4
  core : Nat := 5
  loop : Nat := 5
  safe : Nat := 10
  meas : Nat := 20
  deriving DecidableEq, Repr

/-- A relock in progress: local time of step 1 and of the last step 2 (R482). -/
structure Relock where
  start : Nat
  load : Nat
  deriving DecidableEq, Repr

/-- Clock generation. -/
structure Clocks where
  active : ClkSet := {}
  sysLock : Bool := false
  linkLock : Bool := false
  src : ClkSrc := .refclk
  refOk : Bool := true
  linkclkOk : Bool := true
  pwmGated : Bool := true
  pwmMissing : Bool := false
  /-- consecutive lock windows in tolerance (R479) -/
  windows : Nat := 0
  relock : Option Relock := .none
  /-- slots under a processor hold that only the relock placed (R483) -/
  relockHold : Nat := 0
  applySt : CmdSt := .idle
  guardSeen : Bool := false
  unlockSeen : Bool := false
  relocks : Nat := 0
  relockLast : Nat := 0
  freq : List Nat := List.replicate 8 0
  freqBad : List Nat := []
  guardCount : Nat := 0
  phaseErr : Int := 0
  unlocksSys : Nat := 0
  unlocksLink : Nat := 0
  pwmSteps : Int := 0
  deriving DecidableEq, Repr

/-! ### Power, reset and start-up (20) -/

/-- A power domain (R497, R547): off, waking since a time for a source and a master, on, under a whole-domain test. -/
inductive DomSt where
  | off
  | waking (since : Nat) (source : Nat) (master : Nat)
  | on
  | test
  deriving DecidableEq, Repr

/-- The stages of R509. -/
inductive Stage where
  | caretaker | clocks | rom | firmware | config | domains | ready | failed
  deriving DecidableEq, Repr

/-- PWR_WAKE_LAST (R500). -/
structure WakeRec where
  dom : Nat := 0
  source : Nat := 0
  master : Nat := 0
  sec : Nat := 0
  ns : Nat := 0
  deriving DecidableEq, Repr

/-- The caretaker. -/
structure Power where
  doms : List DomSt := [.on, .off, .off, .off, .off, .off, .off, .off, .off, .off]
  stage : Stage := .caretaker
  bootTime : Nat := 0
  /-- local time of the release of the last reset, and of the last cold reset -/
  resetAt : Nat := 0
  coldAt : Nat := 0
  /-- a reset is held -/
  held : Bool := false
  /-- the last reset by a pin: local times of its beginning and of its end, 100 µs after the pin has risen, and of the return
  of VDD_CORE into its range (R495, R501, R504) -/
  lowFrom : Nat := 0
  heldTo : Nat := 0
  coreTo : Nat := 0
  rstLow : Option Nat := .none
  sleep : Bool := false
  sleepAt : Nat := 0
  alert : Bool := false
  /-- RST_CMD waits for the end of every stop (R503) -/
  rstPend : Bool := false
  /-- domains whose switch-off waits for the accesses that woke them (R510) -/
  offAfter : List Nat := []
  reqRefused : Nat := 0
  wakes : Nat := 0
  hostWdAt : Nat := 0
  /-- PWR_SUPPLY: bit set while the supply is in range -/
  supply : Nat := 0xFFF
  incomplete : Nat := 0
  deriving DecidableEq, Repr

/-- The retention registers (R504): kept through a warm reset. -/
structure Retention where
  capF : Option Capture := .none
  /-- thermal shutdown mask, and the slots shut by the die cause (R282) -/
  shut : Nat := 0
  shutDie : Nat := 0
  rstCause : Nat := 1
  rstCounts : List Nat := [0, 0, 0, 0, 0, 0]
  rstHeld : Bool := false
  retLost : Bool := false
  wakeLast : WakeRec := {}
  deriving DecidableEq, Repr

/-! ### Stores and security (21) -/

/-- A configuration bank (R516): the header fields SEQ and MAP, the body, DIGEST and whether COMMIT reads 0. -/
structure Bank where
  seq : Nat
  map : Nat
  body : List Byte
  digest : List Byte
  committed : Bool
  deriving DecidableEq, Repr

/-- A bank write in progress: target bank (0 A, 1 B), what it writes, and the local time of its start (R517). -/
structure Commit where
  target : Nat
  bank : Bank
  since : Nat
  deriving DecidableEq, Repr

/-- A firmware slot (R523). -/
structure FwSlot where
  seq : Nat := 0
  version : Nat := 0
  safeVersion : Nat := 0
  rollback : Nat := 0
  written : Bool := false
  tried : Bool := false
  confirmed : Bool := false
  revoked : Bool := false
  /-- key hash and signature check out (R524) -/
  sound : Bool := false
  /-- the slot as production left it, and otherwise the bytes from header to trailer -/
  made : Bool := false
  image : List Byte := []
  deriving DecidableEq, Repr

/-- The fuse shadow (R526). -/
structure Fuses where
  ownerKey0 : List Byte := List.replicate 57 0
  ownerKey1 : List Byte := List.replicate 57 0
  ownerCtrl : Nat := 0
  fwRb : Nat := 0
  ownRb : Nat := 0
  /-- bits [2:0] of DEBUG_KILL -/
  debugKill : Nat := 0
  deriving DecidableEq, Repr

/-- An incident dump (R531, R532). -/
structure Dump where
  number : Nat
  /-- 0x01 complete, 0x02 truncated, 0x03 running -/
  state : Nat
  isProtected : Bool := false
  uploading : Bool := false
  code : Nat := 0
  time : Nat := 0
  triggers : Nat := 0
  preUs : Nat := 0
  data : List Byte := []
  dropped : Nat := 0
  /-- the pre-window that the frozen trace RAM still owes it, in local time (R531) -/
  preWin : Option (Nat × Nat) := .none
  /-- a dump without trigger, of spilled trace data -/
  spilled : Bool := false
  deriving DecidableEq, Repr

/-- The stores and the cellar. -/
structure Stores where
  bankA : Option Bank := .none
  bankB : Option Bank := .none
  /-- CFG_STATE: 0 defaults, 1 bank A, 2 bank B -/
  active : Nat := 0
  commit : Option Commit := .none
  /-- bank writes that follow the running one (R537): true for an SF_CONFIRM -/
  queue : List Bool := []
  cfgSt : CmdSt := .idle
  commits : Nat := 0
  skipped : Nat := 0
  norErrors : Nat := 0
  slots : List FwSlot := [{ seq := 1, written := true, tried := true, confirmed := true, sound := true, made := true }, {}]
  running : Nat := 0
  fallbacks : Nat := 0
  fwSt : CmdSt := .idle
  fuses : Fuses := {}
  fuseArg : List Byte := []
  fuseSt : CmdSt := .idle
  /-- fuse command that runs, with its argument and the local time of its start -/
  fuseRun : Option (Nat × List Byte × Nat) := .none
  nonce : Option (List Byte) := .none
  debugOpen : Bool := false
  sigFails : Nat := 0
  /-- event records of thermal shutdowns written to NOR, oldest first; true for a clearance (R282, R283) -/
  events : List (Bool × ShutRec) := []
  /-- entries of the fuse and update journal (R515) -/
  journal : Nat := 0
  /-- a usable NAND has been found -/
  nand : Bool := false
  celSt : CmdSt := .idle
  dumps : List Dump := []
  nextDump : Nat := 0
  /-- start of the dump in progress; the local time at which the trace RAM froze, while it is frozen -/
  dumpAt : Option Nat := .none
  frozen : Option Nat := .none
  /-- trace RAM content, newest first: local time and record (R531) -/
  traceRam : List (Nat × List Byte) := []
  upDone : Nat := 0
  /-- open log page: records and the local time of the first (R530); written pages, newest first -/
  page : List (List Byte) := []
  pageAt : Nat := 0
  pages : List (List (List Byte)) := []
  logDrops : Nat := 0
  /-- second of local time and bytes logged in it; millisecond and bytes of a post-window stored in it (R530, R531) -/
  logSec : Nat := 0
  logBytes : Nat := 0
  postMs : Nat := 0
  postBytes : Nat := 0
  /-- bytes programmed into the NAND since manufacture -/
  written : Nat := 0
  badBlocks : Nat := 0
  full : Bool := false
  deriving DecidableEq, Repr

/-! ### Built-in self-test (22) -/

/-- BIST_STATE (R552). -/
inductive BistSt where
  | idle | running | pass | fail | aborted
  deriving DecidableEq, Repr

/-- One record of BIST_LOG. -/
structure BistRec where
  target : Nat
  st : BistSt
  sec : Nat
  sig : Nat
  dur : Nat
  deriving DecidableEq, Repr

/-- The BIST controller. -/
structure Bist where
  st : BistSt := .idle
  /-- target and local start time of the run in progress -/
  run : Option (Nat × Nat) := .none
  sig : Nat := 0
  failAddr : Nat := 0xFFFFFFFF
  time : Nat := 0
  /-- slices of the domain named that the firmware marks idle (R546) -/
  idle : Nat := 0
  runs : Nat := 0
  fails : Nat := 0
  log : List BistRec := []
  held : Nat := 0
  deriving DecidableEq, Repr

/-! ### Strings (08) -/

/-- STR_STATE (R210). -/
inductive StrState where
  | stopped | pcPassive | pcActive | running | blocked | tripped
  deriving DecidableEq, Repr

/-- A check of R227 that is due: slot, link at the entry to BYPASSED, local time. -/
structure BypCheck where
  slot : Nat
  v : Nat
  due : Nat
  deriving DecidableEq, Repr

/-- A link as the passive phase watches it (R219): position, and its values with their local times, the newest first, back
to one that is 100 ms old. -/
structure LinkRef where
  pos : Nat
  samples : List (Nat × Nat)
  deriving DecidableEq, Repr

/-- A loss as a member device keeps it to order it (R225): system time t0, node, slot, position. -/
structure Loss where
  t0 : Nat
  node : Nat
  slot : Nat
  pos : Nat
  deriving DecidableEq, Repr

/-- The string table of R225: position and index of each active cell, positions of the available spares, positions of the
active cells lost, and the counts of losses and re-spreads. -/
structure StrTable where
  active : List (Nat × Nat) := []
  spares : List Nat := []
  lost : List Nat := []
  losses : Nat := 0
  respreads : Nat := 0
  deriving DecidableEq, Repr

/-- An episode of R223: slot, local time of its begin, raised already. -/
structure BalEp where
  slot : Nat
  since : Nat
  raised : Bool
  deriving DecidableEq, Repr

/-- A glide of R215: member slot, offset it moves to, clocks of delay still to stage, step in force. -/
structure Glide where
  slot : Nat
  target : Nat
  left : Nat
  step : Nat
  deriving DecidableEq, Repr

/-- One string entry. -/
structure StringSt where
  st : StrState := .stopped
  members : List Member := []
  /-- the string table; and the table before the losses kept in `lossLog`, which are in the order of R225 -/
  tbl : StrTable := {}
  base : StrTable := {}
  lossLog : List Loss := []
  cmdSt : CmdSt := .idle
  /-- command accepted, with its apply time as a system time (R209) -/
  cmd : Option (Nat × Nat) := .none
  /-- local time of the PRECHARGE apply time (R220), and v_0 and start of PC_ACTIVE (R219) -/
  pcAt : Nat := 0
  pcV0 : Nat := 0
  pcActAt : Nat := 0
  links : List LinkRef := []
  /-- every link within tolerance since (R219) -/
  tolSince : Option Nat := .none
  readyMain : Bool := false
  bal : List BalEp := []
  /-- ride-through begun (R232) -/
  riding : Option Nat := .none
  configOk : Bool := false
  bypReq : Nat := 0
  bypChecks : List BypCheck := []
  /-- present offsets of the members on this device, by slot, in ns (R212) -/
  offsets : List (Nat × Nat) := []
  glides : List Glide := []
  trackMode : Nat := 0
  jumpLast : Nat := 0
  blocks : Nat := 0
  /-- string mean of R218 as a binary32 code -/
  mean : Nat := 0
  /-- sums and counts of active links reported by the other member devices -/
  others : List (Nat × Nat × Nat) := []
  /-- ready flags reported by other member devices: node, links passively charged, links within STR_PC_TOL (R218, R219) -/
  readies : List (Nat × Bool × Bool) := []
  /-- system cycles without a string record from the home device, and from each other node (R218, R508) -/
  homeMiss : Nat := 0
  nodeMiss : List (Nat × Nat) := []
  homeLost : Bool := false
  /-- states of the members of other devices as their string records gave them: node, slot, code (R210, R218) -/
  remote : List (Nat × Nat × Nat) := []
  /-- PC_ACTIVE with the CHB legs forced OFF, the tracker not yet in LOCKED (R219) -/
  pcHold : Bool := false
  deriving DecidableEq, Repr
/-! ### Measurement (05) -/

/-- One MDAT input. -/
structure Mdat where
  /-- the fast value last compared and the one last published (R118) -/
  v : Int := 0
  fast : Int := 0
  hi : Bool := false
  lo : Bool := false
  trip : Bool := false
  /-- local times of the violations of the last millisecond, newest first (R116) -/
  viol : List Nat := []
  /-- results are INVALID after MD_CLOCK; after a run beyond the limit until the filters refill; after a relock likewise
  (R116, R117, R142) -/
  clkBad : Bool := false
  runBad : Bool := false
  relBad : Bool := false
  /-- a run beyond the limit has not ended (R117) -/
  runOn : Bool := false
  /-- the filters fill since, and each is still to fill (R118, R123) -/
  fillFrom : Nat := 0
  fillFast : Bool := false
  fillCtrl : Bool := false
  /-- thresholds written in this MCLK clock: sub, value before, clock (R123) -/
  old : List (Nat × Int × Nat) := []
  /-- an input disabled by a write releases its lines in the next MCLK clock: lines as they stood, and the clock of
  the write (R123) -/
  offAt : Option Nat := .none
  stuckSeen : Bool := false
  clockSeen : Bool := false
  tripSeen : Bool := false
  overSeen : Bool := false
  trips : Nat := 0
  tv : Nat := 0
  deriving DecidableEq, Repr

/-- A firing with what it keeps of its entry (R130, R142). -/
structure Firing where
  seq : Nat
  /-- local time of t_s -/
  ts : Nat
  chan : Nat
  dst : Nat
  slice : Nat
  avg : Nat
  quiet : Nat
  qpre : Nat
  qpost : Nat
  predict : Nat
  skipMax : Nat
  deriving DecidableEq, Repr

/-- A converted sample under a quiet check: its entry and SEQ, the group's legs at the check (a bit each), and the interval
of R134 in local time. -/
structure Watch where
  trig : Nat
  seq : Nat
  legs : Nat
  lo : Nat
  hi : Nat
  deriving DecidableEq, Repr

/-- One trigger entry. -/
structure Trg where
  seq : Nat := 0
  fired : Nat := 0
  skipped : Nat := 0
  overruns : Nat := 0
  /-- the firing that has not reached its t_s -/
  pend : Option Firing := .none
  /-- the last valid value; the values of the last two firings, none for one that was not VALID (R135) -/
  last : Option Nat := .none
  v1 : Option Nat := .none
  v2 : Option Nat := .none
  /-- consecutive skips, and the run of R136 has raised its fault -/
  skips : Nat := 0
  run : Bool := false
  deriving DecidableEq, Repr

/-- A firing of an MDAT input that waits for the end of its span (R119). -/
structure MdFiring where
  te : Nat
  f : Firing
  /-- t_c, and the end of the span -/
  tc : Nat
  endAt : Nat
  /-- enabled at t_s and not disabled since -/
  ok : Bool
  deriving DecidableEq, Repr

/-- A conversion in progress (R124, R125, R127). -/
structure Conv where
  te : Nat
  f : Firing
  slice : Nat
  /-- first hold, and the index of that hold in the stream for a streamed input -/
  first : Nat
  hold : Option Nat
  /-- the result is due in the queue by this time -/
  due : Nat
  deriving DecidableEq, Repr

/-- An entry of the result queue (R137); the tag time is a system time. -/
structure QEntry where
  value : Nat
  raw : Nat
  chan : Nat
  src : Nat
  st : Nat
  time : Nat
  trig : Nat
  seq : Nat
  count : Nat
  dst : Nat
  deriving DecidableEq, Repr

/-- One converter slice; the estimates are exact numbers (R128). -/
structure Slice where
  busyUntil : Nat := 0
  busy : Nat := 0
  convs : Nat := 0
  ofs : Rat := 0
  gn : Rat := 0
  sk : Rat := 0
  /-- the pair streams since; pairs that passed the slope gate -/
  streamFrom : Option Nat := .none
  gated : Nat := 0
  convOG : Bool := false
  convSk : Bool := false
  sat : Bool := false
  deriving DecidableEq, Repr

/-- An input An. -/
structure SarIn where
  ovr : Bool := false
  overs : Nat := 0
  deriving DecidableEq, Repr

/-- The trigger unit, the slices and the result queue. -/
structure Meas where
  trgs : List Trg := List.replicate 128 {}
  mdFir : List MdFiring := []
  convs : List Conv := []
  slices : List Slice := List.replicate 8 {}
  sars : List SarIn := List.replicate 16 {}
  qgSkips : List Nat := List.replicate 16 0
  /-- entries on their way into the queue, with the time at which each is due -/
  flight : List (Nat × QEntry) := []
  /-- the queue, oldest first, with the local time of entry -/
  queue : List (Nat × QEntry) := []
  high : Nat := 0
  drops : Nat := 0
  aged : Nat := 0
  dstOff : Nat := 0
  fullEp : Bool := false
  /-- changes of leg commands in the last 40 µs, newest first: leg, local time (R133) -/
  edges : List (Nat × Nat) := []
  /-- converted samples whose quiet group is watched until their entry enters the queue (R134) -/
  watch : List Watch := []
  deriving DecidableEq, Repr

/-! ### Loop engine (06, 07) -/

/-- A block record (R155). -/
structure LBlock where
  typ : Nat
  arg : Nat
  cb : Nat
  sb : Nat
  srcs : List Nat
  deriving DecidableEq, Repr

/-- A loop program (R154). -/
structure LProg where
  nIn : Nat
  nOut : Nat
  blocks : List LBlock
  coef : List Nat
  state : List Nat
  image : List Byte
  deriving DecidableEq, Repr

/-- What reaches a slot input: value and status of R162, and the LOOP clock of arrival. -/
structure InVal where
  v : Nat
  st : Nat
  clk : Nat
  deriving DecidableEq, Repr

/-- One slot input (R160, R162). -/
structure LoopIn where
  /-- the pending value since the last run start; the one it replaced in the same LOOP clock -/
  cur : Option InVal := .none
  was : Option InVal := .none
  /-- the last value used, and value and status as the last run used them (LS_IN_NOW) -/
  used : Nat := 0
  nowV : Nat := 0
  nowSt : Nat := 0
  /-- system cycles since a ring field reached it (R162) -/
  age : Nat := 0
  /-- VALUE of the last entry whose status is VALID, DISTURBED, OVERRANGE or UNSETTLED (R189) -/
  fallback : Nat := 0
  /-- the real sample of the parked run (R190) -/
  real : Option InVal := .none
  deriving DecidableEq, Repr

/-- LS_STATE (R179). -/
inductive LsState where
  | empty | loaded | running | holding
  deriving DecidableEq, Repr

/-- What a run is doing: a conventional or speculative run, a parked result, its commit stage, a recompute (R186). -/
inductive RunKind where
  | plain | spec | parked | stage | recompute
  deriving DecidableEq, Repr

/-- A run in progress (R151, R161, R170). -/
structure LRun where
  kind : RunKind
  release : Nat
  deadline : Nat
  ready : Bool := false
  /-- it has started; start time; on its pipe since -/
  start : Option Nat := .none
  onPipe : Option Nat := .none
  /-- pipe cycles executed before onPipe -/
  done : Nat := 0
  ins : List (Nat × Nat) := []
  /-- state copy, outputs of the blocks executed, active periods at the start by carrier -/
  st : List Nat := []
  outs : List (List Nat) := []
  periods : List Nat := []
  resync : Bool := false
  /-- predictions of the predicted inputs, the corrected input of each output port, the time the stage became ready -/
  yhat : List Nat := []
  readyAt : Nat := 0
  deriving DecidableEq, Repr

/-- One loop slot. -/
structure LoopSlot where
  st : LsState := .empty
  prog : Option LProg := .none
  bankA : List Nat := []
  bankB : List Nat := []
  act : Nat := 0
  swap : Bool := false
  words : List Nat := []
  /-- no run completed since RUN (R158) -/
  first : Bool := true
  /-- block outputs at the end of the last completed run -/
  prev : List (List Nat) := []
  inputs : List LoopIn := List.replicate 16 {}
  outs : List Nat := List.replicate 8 0
  pipe : Option Nat := .none
  run : Option LRun := .none
  /-- a STOP, a HOLD waits for the end of the run in progress (R179) -/
  pendStop : Bool := false
  pendHold : Bool := false
  /-- a RESUME waits for the next release (R179) -/
  pendResume : Bool := false
  resync : Bool := false
  /-- named drive blocks are reloaded at the first run after the commit point (R251) -/
  reload : List Nat := []
  reloadAt : Nat := 0
  runs : Nat := 0
  misses : Nat := 0
  missRun : Nat := 0
  execLast : Nat := 0
  execMax : Nat := 0
  slackMin : Int := 0x7FFFFFFF
  unbound : Nat := 0
  nans : Nat := 0
  unsched : Nat := 0
  stray : Nat := 0
  plausCount : Nat := 0
  absentRun : Nat := 0
  directs : Nat := 0
  missSeen : Bool := false
  absentSeen : Bool := false
  nanSeen : Bool := false
  plausSeen : Bool := false
  directSeen : Bool := false
  unboundSeen : Bool := false
  eccSeen : Bool := false
  -- run-ahead
  fallbackNext : Bool := true
  raCost : Nat := 0
  commits : Nat := 0
  squashes : Nat := 0
  recomputes : Nat := 0
  holds : Nat := 0
  fallbacks : Nat := 0
  unmatched : Nat := 0
  squashRun : Nat := 0
  resLast : List Nat := List.replicate 4 0
  resPeak : List Nat := List.replicate 4 0
  squashedSeen : Bool := false
  squashRunSeen : Bool := false
  heldSeen : Bool := false
  deriving DecidableEq, Repr

/-- A delivery on its way to the leg timing shadows (R166): slot, carrier, local time due, values (leg, phase, value). -/
structure Delivery where
  ls : Nat
  car : Nat
  due : Nat
  vals : List (Nat × Bool × Nat)
  deriving DecidableEq, Repr

/-- The loop engine as a whole. -/
structure LoopEng where
  slots : List LoopSlot := List.replicate 128 {}
  deliveries : List Delivery := []
  intake : Nat := 0
  /-- LOOP clock of the last intake (R160) -/
  intakeClk : Option Nat := .none
  preempts : Nat := 0
  eccC : Nat := 0
  raStageMax : Nat := 0
  /-- squashes and holds of all slots (R205) -/
  squashesAll : Nat := 0
  holdsAll : Nat := 0
  /-- local time until which a commit stage has each pipe (R200) -/
  stageTill : List Nat := List.replicate 4 0
  deriving DecidableEq, Repr

/-! ### Position and speed feedback (10) -/

/-- One source of steps: sin/cos, Hall, pulse (R267, R268). -/
structure FbSource where
  /-- the estimate set, newest first: step number and local time -/
  steps : List (Int × Nat) := []
  /-- steps so far, and direction and time of the last one -/
  n : Int := 0
  dir : Int := 0
  last : Nat := 0
  dirchg : Bool := false
  changes : Nat := 0
  deriving DecidableEq, Repr

/-- The level of an input pin, and the local time since which it has held (R264, R266). -/
structure Pin where
  level : Bool := false
  since : Nat := 0
  deriving DecidableEq, Repr

/-- A source as it stood before its last step: number of the step's sample, the source, FB_IRQ_PEND (R271). -/
structure FbUndo where
  sample : Nat
  src : FbSource
  pend : Nat
  deriving DecidableEq, Repr

/-- The feedback inputs. -/
structure Feedback where
  src : List FbSource := List.replicate 3 {}
  /-- for each source: what its last step changed, and the number of the sample in which its count was last written -/
  undo : List (Option FbUndo) := List.replicate 3 .none
  wrote : List (Option Nat) := List.replicate 3 .none
  count : Int := 0
  /-- local hold time of the last sample, its φ in 2^-64 turn, its Q as a binary32 code; quadrant of the last good one -/
  scAt : Option Nat := .none
  phi : Nat := 0
  q : Nat := 0
  quad : Option Nat := .none
  ampBad : Bool := false
  posLost : Bool := false
  ampCount : Nat := 0
  /-- levels of HALL_W, HALL_V and HALL_U, and the last accepted code -/
  hallPins : List Pin := List.replicate 3 {}
  hallCode : Nat := 0
  sector : Nat := 0xFF
  hallBad : Bool := false
  hallBadCount : Nat := 0
  /-- levels of PLS_A and PLS_B, and the accepted levels in bits 0 and 1 -/
  plsPins : List Pin := List.replicate 2 {}
  plsCode : Nat := 0
  pulses : Int := 0
  irqPend : Nat := 0
  /-- for each source: the 10 ns clock of the last direction change that asks for its bit of FB_IRQ_PEND (R271) -/
  irqAt : List (Option Nat) := List.replicate 3 .none
  deriving DecidableEq, Repr

/-! ### Thermal unit (11) -/

/-- The thermal state of one slot; temperatures are binary32 codes. -/
structure ThSlot where
  /-- T_1, T_2 and T_3 of the twelve switches, T_4 -/
  nodes : List (Nat × Nat × Nat) := List.replicate 12 (0, 0, 0)
  t4 : Nat := 0
  tj : List Nat := List.replicate 12 0
  loss : List Nat := List.replicate 12 0
  /-- no interval since reset or since ENABLE was set, and the local time of that -/
  fresh : Bool := true
  since : Nat := 0
  /-- local time of the last write of TH_NTC_SRC -/
  ntcAt : Nat := 0
  /-- edges counted by the guard up to the last interval: per leg, off upper, off lower, hard on upper, hard on lower -/
  seen : List (List Nat) := List.replicate 6 [0, 0, 0, 0]
  /-- |r| above TH_XDEV since -/
  devSince : Option Nat := .none
  /-- last |r| -/
  res : Nat := 0
  sensor : Nat := 0
  tref : Nat := 0
  hsModel : Nat := 0
  tmax : Nat := 0
  k : Nat := 0x3F800000
  throttling : Bool := false
  noInput : Bool := false
  modelDev : Bool := false
  ntcBroken : Bool := false
  /-- the model starts from TH_TJ_SHUT at its first interval after a reset (R277) -/
  fromShut : Bool := false
  deriving DecidableEq, Repr

/-- The thermal unit. -/
structure Thermal where
  slots : List ThSlot := List.replicate 32 {}
  /-- latest usable value of each trigger entry, with the local time it came -/
  latest : List (Option (Nat × Nat)) := List.replicate 128 .none
  die : List Nat := List.replicate 4 0
  ignored : List Bool := List.replicate 4 false
  dieTemp : Nat := 0
  kDie : Nat := 0x3F800000
  /-- the last conversion of the die sensors, the last attempt, and T_die at or above TH_DIE_SHUT then -/
  dieAt : Nat := 0
  dieTry : Nat := 0
  dieHot : Bool := false
  noConv : Bool := false
  dieSensor : Bool := false
  recFail : Bool := false
  shuts : Nat := 0
  /-- TH_SHUT_SLOTS, and those of the die cause -/
  shut : Nat := 0
  shutDie : Nat := 0
  /-- local time of the last interval on the grid of system time -/
  cell : Nat := 0
  /-- records that wait to be written, and the local time of the last failure -/
  unwritten : List ShutRec := []
  failAt : Nat := 0
  deriving DecidableEq, Repr

/-! ### LV port (09) -/

/-- A comparator on input An. -/
structure LvComp where
  hi : Bool := false
  lo : Bool := false
  trip : Bool := false
  tripSeen : Bool := false
  trips : Nat := 0
  /-- thresholds written less than 1 µs ago: sub, value before, local time from which the new one decides (R239) -/
  old : List (Nat × Nat × Nat) := []
  deriving DecidableEq, Repr

/-- State of a drive (LVP_STATE). -/
inductive DrvSt where
  | stopped | starting | running | faulted
  deriving DecidableEq, Repr

/-- An LV port entry. -/
structure LvEntry where
  /-- a drive: its state, and it has read RUNNING since the START (R252) -/
  drv : DrvSt := .stopped
  ran : Bool := false
  /-- LVP_CMD_STATUS, or the last command went to the unit's slot, whose status it shows -/
  cmdSt : CmdSt := .idle
  viaSlot : Bool := false
  phase : Nat := 0xFF
  mode : Nat := 0xFF
  speed : Nat := 0
  dir : Int := 0
  /-- system time at which LISTEN began -/
  listen : Option Nat := .none
  starts : Nat := 0
  catches : Nat := 0
  reversals : Nat := 0
  fails : Nat := 0
  /-- a DC bus: its state code of R243, its voltage, its fast overvoltage line -/
  bus : Nat := 0
  v : Nat := 0
  ov3 : Bool := false
  chopFault : Bool := false
  mvAbsent : Bool := false
  vinBad : Bool := false
  ov3Seen : Bool := false
  ov2Seen : Bool := false
  uv2Seen : Bool := false
  lostSeen : Bool := false
  ov2s : Nat := 0
  uv2s : Nat := 0
  deriving DecidableEq, Repr

/-- The LV port. -/
structure LvPort where
  comps : List LvComp := List.replicate 16 {}
  entries : List LvEntry := List.replicate 64 {}
  ov3Cuts : Nat := 0
  brakeLost : Nat := 0
  decisions : Nat := 0
  deriving DecidableEq, Repr


/-! ### Lanes (14) -/

/-- LANE_STATE (R348). -/
inductive LaneState where
  | off | hold | locking | training | up
  deriving DecidableEq, Repr

/-- One lane. -/
structure Lane where
  st : LaneState := .off
  rxLock : Bool := false
  blockLock : Bool := false
  hiBer : Bool := false
  los : Bool := false
  modAbs : Bool := false
  peerOk : Bool := false
  peerRxOk : Bool := false
  verMismatch : Bool := false
  prbsLock : Bool := false
  modUnsup : Bool := false
  ppmHigh : Bool := false
  elastic : Bool := false
  ver : Nat := 0
  peer : Nat := 0
  ppm : Int := 0
  fill : Nat := 0
  badHdr : Nat := 0
  badType : Nat := 0
  lockLoss : Nat := 0
  hiBers : Nat := 0
  ins : Nat := 0
  del : Nat := 0
  elasticErr : Nat := 0
  errRx : Nat := 0
  errTx : Nat := 0
  trains : Nat := 0
  upCount : Nat := 0
  /-- system time of the last entry into UP -/
  upSince : Nat := 0
  prbsErr : Nat := 0
  prbsBits : Nat := 0
  module : List Byte := List.replicate 64 0
  ddm : List Byte := List.replicate 10 0
  /-- local times of the entries into LOCKING and UP; LANE_TRAIN raised since the lane was last UP (R352) -/
  lockingAt : Nat := 0
  upAt : Nat := 0
  trainEp : Bool := false
  /-- the last 58 line bits that the transmitter's scrambler and the receiver's descrambler hold, the latest in bit 0 (R341) -/
  scr : Nat := 0
  descr : Nat := 0
  /-- consecutive valid TRAIN blocks, and those of them with PEER_OK and the own VER_SEL (R349) -/
  trainRun : Nat := 0
  upRun : Nat := 0
  -- time blocks (R399 to R401)
  /-- TIME blocks sent so far, own STAMP count, and the last own STAMP: SEQ and departure as a system time -/
  timeTx : Nat := 0
  stampSeq : Nat := 0
  stampDep : Option (Nat × Nat) := .none
  /-- the latest STAMP received that no ECHO has answered: SEQ and arrival -/
  stampRx : Option (Nat × Nat) := .none
  /-- the last SECONDS received and its local time -/
  secRx : Option (Nat × Nat) := .none
  /-- local time of the last STAMP received -/
  stampAt : Option Nat := .none
  /-- one-way delay in 2^-16 ns as last formed, and the sums of d and of o in this millisecond -/
  d : Option Int := .none
  dSum : Int := 0
  dN : Nat := 0
  oSum : Int := 0
  oN : Nat := 0
  /-- TM_LINK_DELAY and TM_LANE_OFFSET in ps -/
  linkDelay : Nat := 0
  offset : Int := 0
  deriving DecidableEq, Repr

/-! ### Time base (16) -/

/-- TM_STATE (R403). -/
inductive TmState where
  | freerun | acquiring | locked | holdover | slewing
  deriving DecidableEq, Repr

/-- A PTP instance (R405, R406); offsets in 2^-16 ns. -/
structure Ptp where
  lost : Bool := false
  /-- a Sync or an Announce has come since it was enabled -/
  heard : Bool := false
  usable : Bool := false
  offset : Int := 0
  /-- consecutive offsets that agree, with the least and the greatest of them -/
  agree : Nat := 0
  lo : Int := 0
  hi : Int := 0
  gm : List Byte := List.replicate 8 0
  delay : Nat := 0
  logSync : Int := 0
  steps : Nat := 0
  /-- local time of the last Sync, and whether the time transmitter announces ARB -/
  lastSync : Nat := 0
  arb : Bool := false
  deriving DecidableEq, Repr

/-- Where the time base takes its time from (TM_SRC_ACT). -/
inductive TmRef where
  | none
  | lane (n : Nat)
  | ptp (d : Nat)
  | pps
  deriving DecidableEq, Repr

/-- BELL_STATE (R421). -/
inductive BellSt where
  | idle | armed | ringing
  deriving DecidableEq, Repr

/-- A bell (R412, R413). -/
structure Bell where
  st : BellSt := .idle
  rings : Nat := 0
  /-- number of the next grid point -/
  next : Nat := 0
  deriving DecidableEq, Repr

/-- A TRIG pin (R414). -/
structure Trig where
  last : Nat := 0
  count : Nat := 0
  /-- local time at which the running output pulse ends -/
  pulse : Option Nat := .none
  deriving DecidableEq, Repr

/-- A stretch of the time base that has ended: system time was sys0 at local time base, and ran at its rate until local
time till. -/
structure TimeSeg where
  sys0 : Nat
  base : Nat
  rho : Int
  running : Bool
  till : Nat
  deriving DecidableEq, Repr

/-- The time base. System times are counted in units of 2^-16 ns (R10). -/
structure TimeBase where
  /-- system time was sys0 at local time base -/
  sys0 : Nat := 0
  base : Nat := 0
  /-- the stretches that ended in the last millisecond, newest first: an event is tagged with the system time at which it
  happened (R119, R125) -/
  past : List TimeSeg := []
  /-- rate correction in ppb (R396) -/
  rho : Int := 0
  running : Bool := true
  st : TmState := .freerun
  ref : TmRef := .none
  /-- integrator of R402 in ppb, ρ_hold, and ρ of the last 1,000 ms with the offset within TM_LOCK_TOL, newest first -/
  integ : Rat := 0
  rhoHold : Int := 0
  rhos : List Int := []
  /-- last millisecond's mean offset in 2^-16 ns; milliseconds in a row within TM_LOCK_TOL -/
  o : Int := 0
  okMs : Nat := 0
  alarm : Bool := false
  holdSince : Nat := 0
  steps : Nat := 0
  slews : Nat := 0
  slewed : Bool := false
  ppsLast : Nat := 0
  /-- PPS_IN: local time of the last accepted edge, and its offset -/
  ppsAt : Option Nat := .none
  ppsOff : Int := 0
  ppsUsable : Bool := false
  upstream : Nat := 0xFF
  /-- the upstream that roll call chose (R398) -/
  chosen : Nat := 0xFF
  pwmErr : Int := 0
  pwmAligned : Bool := false
  pwmBad : Bool := false
  bellSkips : Nat := 0
  /-- PPS_OUT is high until; the next whole second it rises at -/
  ppsOut : Option Nat := .none
  tick : Nat := 0
  ptps : List Ptp := List.replicate 2 {}
  bells : List Bell := List.replicate 64 {}
  trigs : List Trig := List.replicate 4 {}
  deriving DecidableEq, Repr

/-! ### Ring switch (15) -/

/-- A frame that waits for an output lane: its item in R374, and the local time it came. -/
structure Waiting where
  lane : Nat
  item : Nat
  frame : Frame
  since : Nat
  /-- its other copy has started, and the bucket has paid for both -/
  paid : Bool := false
  deriving DecidableEq, Repr

/-- The duplicate map of R371 for one source and class: highest SEQ taken, and bit i set where SEQ high − 1 − i was taken. -/
structure DupMap where
  src : Nat
  cls : Nat
  high : Nat
  map : Nat
  deriving DecidableEq, Repr

/-- The first copy of a TC1 frame that waits for its second (R372). -/
structure Tc1First where
  src : Nat
  seq : Nat
  rot : Nat
  payload : List Byte
  at_ : Nat
  deriving DecidableEq, Repr

/-- TC0 fields received that wait for their apply time (R376, R377). -/
structure Fields where
  apply : Nat
  src : Nat
  num : Nat
  vals : List Nat
  deriving DecidableEq, Repr

/-- A queued alarm record (R383): it holds a reserved entry, and it has been sent. -/
structure AlmEntry where
  alarm : Alarm
  res : Bool
  sent : Bool
  deriving DecidableEq, Repr

/-- An alarm summary that a bridge keeps open (R387). -/
structure AlmSum where
  code : Nat
  srcs : List Nat
  cls : Nat
  lasting : Bool
  count : Nat
  first : Nat
  last : Nat
  seq : Nat
  changed : Bool
  deriving DecidableEq, Repr

/-- RING_STATE (R391). -/
inductive RingSt where
  | alone | joining | run
  deriving DecidableEq, Repr

/-- The ring switch. -/
structure Ring where
  st : RingSt := .alone
  nodeId : Nat := 0xFFFF
  seqs : List Nat := [0, 0, 0, 0]
  /-- RING_SYS_CYCLE in ns, and the number of the last system cycle handled -/
  sysCycle : Nat := 0
  cycle : Nat := 0
  dTrunk : Nat := 0
  dBranch : Nat := 0
  waiting : List Waiting := []
  /-- end of the frame in passage on each output lane, as a local time -/
  busy : List Nat := [0, 0, 0, 0]
  maps : List DupMap := []
  firsts : List Tc1First := []
  windows : List Window := []
  offsets : List Nat := List.replicate 16 0
  sent : List Nat := List.replicate 16 0
  /-- members of the upper and of the lower ring as roll call recorded them -/
  upper : List Nat := []
  /-- every node ID recorded at the last roll call (R467) -/
  nodes : List Nat := []
  lower : List Nat := []
  /-- local time of the last TC0 frame of a node on a port and rotation: node, bit of RING_HEALTH, time -/
  heard : List (Nat × Nat × Nat) := []
  health : Nat := 0
  silent : List Nat := []
  /-- fields that wait for their apply time; fields as last applied; system cycles since
  (R162, R393) -/
  fields : List Fields := []
  values : List Nat := List.replicate 1024 0
  ages : List Nat := List.replicate 1024 3
  /-- TC1 blocks in the system cycle so far by lane, and the highest share in ‰ -/
  tc1Blocks : List Nat := [0, 0, 0, 0]
  tc1Load : Nat := 0
  /-- buckets of R379 in 10^-12 bytes, the local time they stand for, the roll-call rates -/
  bucket2 : Nat := 16384000000000000
  bucket3 : Nat := 262144000000000000
  bucketAt : Nat := 0
  rate2 : Nat := 0
  rate3 : Nat := 0
  late : Nat := 0
  crc : Nat := 0
  hcrc : Nat := 0
  dups : Nat := 0
  hopsExp : Nat := 0
  tc1Diff : Nat := 0
  spill : Nat := 0
  txBytes : List Nat := [0, 0, 0, 0]
  rollCalls : Nat := 0
  branchIds : List Nat := List.replicate 32 0xFFFF
  ttVersion : Nat := 0
  noId : Nat := 0
  edgeDrops : Nat := 0
  ttViol : Nat := 0
  /-- a roll call in progress since; one that waits for its apply time: system time and contents -/
  rolling : Option Nat := .none
  committed : Bool := false
  /-- serial numbers that roll call has recorded; DEV_TAG of the newcomers reported to this active manager (R363) -/
  serials : List Nat := []
  joins : List Nat := []
  /-- HOPS of the last roll-call request on rotation A and on B, 0xFF where none has come (R362) -/
  reqHops : List Nat := [0xFF, 0xFF]
  commitCycle : Nat := 0
  /-- ports whose RING_BREAK stands raised -/
  broken : List Nat := []
  /-- slot outputs at the last cell-cycle boundary (R376) -/
  outsAt : List (List Nat) := []
  /-- the role in force (R18): 0 manager, 1 bridge, 2 worker -/
  role : Nat := 2
  /-- alarm queue, oldest first; the lost-count record (R385); drops: C, U, F and SAFETY -/
  alms : List AlmEntry := []
  lost : Option Alarm := .none
  almDrops : List Nat := [0, 0, 0]
  sums : List AlmSum := []
  sumAt : Nat := 0
  almRxOvf : Nat := 0
  /-- records the active manager took in this second, and the highest SEQ taken from each sender -/
  almSec : Nat := 0
  almTaken : Nat := 0
  almAcks : List (Nat × Nat) := []
  deriving DecidableEq, Repr

/-! ### Managers (17) -/

/-- MGR_STATE (R444). -/
inductive MgrState where
  | none | listening | standby | active | alone
  deriving DecidableEq, Repr

/-- WK_STATE (R434). -/
inductive WkState where
  | following | holding | droop
  deriving DecidableEq, Repr

/-- A handback as the holder and the receiving standby see it (R440): the receiver, K_H, and the cycle k_a. -/
structure Handback where
  receiver : Bool
  kh : Nat
  ka : Nat
  deriving DecidableEq, Repr

/-- A state transfer at the standby (R433): cycle of the request, K_S once known, bytes received, total. -/
structure Transfer where
  start : Nat
  ks : Option Nat
  data : List (Nat × List Byte)
  total : Nat
  deriving DecidableEq, Repr

/-- A snapshot that the holder sends (R433): receiver, K_S, image, bytes sent. -/
structure Snap where
  ks : Nat
  image : List Byte
  sent : Nat
  deriving DecidableEq, Repr

/-- The manager functions. -/
structure Mgr where
  st : MgrState := .none
  epoch : Nat := 0
  holder : Nat := 0xFFFF
  /-- highest epoch heard -/
  top : Nat := 0
  listenAt : Nat := 0
  cmdSt : CmdSt := .idle
  synced : Bool := false
  sending : Bool := false
  handback : Option Handback := .none
  /-- H keeps sending to this cycle after a handback -/
  overlapTo : Option Nat := .none
  requested : Bool := false
  transfer : Option Transfer := .none
  /-- the holder has a request for a snapshot at the next cycle boundary; one being sent -/
  snapReq : Bool := false
  snap : Option Snap := .none
  tooBig : Bool := false
  /-- CYCLE of the peer's last heartbeat, consecutive cycles missed, what the peer shows of itself -/
  peerCycle : Option Nat := .none
  missed : Nat := 0
  peerSynced : Bool := false
  peerSeen : Bool := false
  /-- node 0 or 1 whose last heartbeat shows SYNCED (R430); MGR_NO_STANDBY stands -/
  syncedNodes : List Nat := []
  noStandby : Bool := false
  mismatch : Bool := false
  diverged : Bool := false
  /-- a transfer has completed and no digest pair has been compared since -/
  loaded : Bool := false
  /-- own digests of the last cycle, payloads of TC0 frames formed in this cycle, inputs of system runs by cycle -/
  inDigest : Nat := 0
  outDigest : Nat := 0
  outs : List (Nat × List Byte) := []
  log : List (Nat × List (Nat × List (Nat × Nat))) := []
  switchovers : Nat := 0
  handbacks : Nat := 0
  digestMiss : Nat := 0
  snapBytes : Nat := 0
  /-- report card: causes of UNFIT, local times of the last corrected error, digest mismatch and SYNCED clear, of the
  transfers followed by a mismatch, FIT and SYNCED without a break since -/
  unfit : Nat := 0
  corrAt : Option Nat := .none
  missAt : Option Nat := .none
  badTransfers : List Nat := []
  fitSince : Option Nat := .none
  readySince : Option Nat := .none
  bistRun : Nat := 0
  bistFail : Nat := 0
  /-- self-tests of a standby (R436): domains that the present round has yet to test, next slice of HOST, SAFE, LOOP and
  LINK, and whether the run in progress is one of the round's -/
  rcLeft : List Nat := []
  rcNext : List Nat := [0, 0, 0, 0]
  rcRun : Bool := false
  scrubC : Nat := 0
  scrubU : Nat := 0
  scrubLast : Nat := 0
  /-- local time of the end of the last full scrub (R436) -/
  scrubAt : Nat := 0
  peerCard : List Byte := List.replicate 32 0
  wk : WkState := .following
  /-- local time of the last accepted manager TC0 frame, cycles without one, the longest run of them -/
  wkAt : Nat := 0
  gap : Nat := 0
  gapMax : Nat := 0
  droops : Nat := 0
  deriving DecidableEq, Repr

/-! ### The block -/

/-- What the block has sent to the outside. -/
inductive Out where
  /-- a response message on a path: header fields of R455 and data -/
  | response (req : Req) (op idx sub typ total abort : Nat) (data : List Byte)
  /-- a frame started on a lane -/
  | frame (lane : Nat) (f : Frame)
  /-- a trace payload by UDP (R471) -/
  | trace (payload : List Byte)
  /-- a TIME block on a lane, by its payload and by the scrambled bits of it on the line (R341, R399) -/
  | timeBlock (lane payload line : Nat)
  /-- an ERR block in place of the rest of a frame, with its cause (R342) -/
  | errBlock (lane cause : Nat)
  /-- a ring frame handed to host firmware: alarm records and summaries at the active manager, traces, uploads -/
  | host (f : Frame)
  /-- bytes the device returns in a transaction of the host SPI port (R465) -/
  | spi (l : List Byte)
  /-- the answer to an ARP request, or to an ICMP echo request, of a station (R463) -/
  | net (icmp : Bool) (who : Nat)
  deriving DecidableEq, Repr

/-- The state of the block. Local times are in ps since the cold reset. -/
structure State where
  now : Nat := 0
  od : OdStore := []
  legs : List Leg := List.replicate 192 {}
  gates : List Guard := List.replicate 192 {}
  cars : List Carrier := List.replicate 64 {}
  /-- what the leg timing unit does in a clock still to come, with the local time of that clock, soonest first -/
  soon : List (Nat × Soon) := []
  slots : List Slot := List.replicate 32 {}
  records : List SoRecord := []
  stringTrips : Nat := 0
  strings : List StringSt := List.replicate 32 {}
  glideSteps : Nat := 0
  strRecords : Nat := 0
  mdats : List Mdat := List.replicate 96 {}
  meas : Meas := {}
  le : LoopEng := {}
  fb : Feedback := {}
  th : Thermal := {}
  lv : LvPort := {}
  flt : Faults := {}
  sf : Safety := {}
  acc : Access := {}
  clk : Clocks := {}
  pwr : Power := {}
  ret : Retention := {}
  nor : Stores := {}
  bist : Bist := {}
  lanes : List Lane := List.replicate 4 {}
  tb : TimeBase := {}
  ring : Ring := {}
  mgr : Mgr := {}
  /-- sent to the outside, newest first -/
  out : List Out := []
  /-- values drawn so far from Config.freeValue -/
  free : Nat := 0
  /-- local time of the last cell-cycle boundary handled -/
  cellAt : Nat := 0
  /-- the commands that wait, first in first out -/
  pending : List Instr := []
  deriving DecidableEq, Repr

/-- The block right after a cold reset: every field at its default. -/
def State.reset : State := {}

end Sys2Proof.Machine
end

