-- ==== Sys2Proof/Machine/Ops.lean ====
section
/-! DEFINITION. The named operations every meaning uses: the object-dictionary store, the instances, local and
system time, raising a fault, sending a frame. -/

namespace Sys2Proof.Machine


/-- What a meaning answers. -/
abbrev Res := Host.Outcome State Fault Refusal

/-- What an entry's owner does with an admitted write: the state after it, or an abort code of R461. -/
abbrev Own := Except Nat State

/-- The abort codes of R461. -/
def abNoIndex : Nat := 0x0101
def abNoSub : Nat := 0x0102
def abAccess : Nat := 0x0103
def abRange : Nat := 0x0104
def abReserved : Nat := 0x0105
def abLegs : Nat := 0x0106
def abSafety : Nat := 0x0107
def abOp : Nat := 0x0108
def abLength : Nat := 0x0109
def abState : Nat := 0x010A
def abBusy : Nat := 0x010B
def abOrder : Nat := 0x010C
def abTimeout : Nat := 0x010D
def abSignature : Nat := 0x010E
def abImage : Nat := 0x010F
def abDomain : Nat := 0x0110
def abNode : Nat := 0x0111
def abRemote : Nat := 0x0112
def abProto : Nat := 0x0113
def abQueue : Nat := 0x0114
def abSpace : Nat := 0x0115

/-! ### The object-dictionary store -/

/-- The value listed under a key. -/
def OdStore.find (m : OdStore) (k : Nat) : Option Nat :=
  match m with
  | [] => none
  | (k', v) :: m' => if k' = k then some v else if k < k' then none else OdStore.find m' k

/-- The store without a key. -/
def OdStore.erase (m : OdStore) (k : Nat) : OdStore :=
  match m with
  | [] => []
  | (k', v) :: m' => if k' = k then m' else if k < k' then (k', v) :: m' else (k', v) :: OdStore.erase m' k

/-- The store with a key set, in rising order. -/
def OdStore.insert (m : OdStore) (k v : Nat) : OdStore :=
  match m with
  | [] => [(k, v)]
  | (k', v') :: m' =>
    if k' = k then (k, v) :: m' else if k < k' then (k, v) :: (k', v') :: m' else (k', v') :: OdStore.insert m' k v

/-- The value of a writable entry: its default while it is not listed. -/
def OdStore.get (m : OdStore) (r : Reg) : Nat := (m.find r.key).getD r.dflt

/-- The store after a write of an entry; an entry that holds its default is not listed. -/
def OdStore.put (m : OdStore) (r : Reg) (v : Nat) : OdStore :=
  if v = r.dflt then m.erase r.key else m.insert r.key v

/-- The canonical form: keys strictly rising. -/
def OdStore.wf : OdStore → Bool
  | [] => true
  | [_] => true
  | a :: b :: m => decide (a.1 < b.1) && OdStore.wf (b :: m)

/-- The value of a writable entry. -/
def State.rd (s : State) (r : Reg) : Nat := s.od.get r

/-- A writable entry set to a value. -/
def State.wr (s : State) (r : Reg) (v : Nat) : State := { s with od := s.od.put r v }

/-! ### Instances -/

/-- Leg Ll. -/
def State.leg (s : State) (l : Nat) : Leg := s.legs.getD l {}
/-- The gate guard of leg Ll. -/
def State.gg (s : State) (l : Nat) : Guard := s.gates.getD l {}
/-- Carrier Kk. -/
def State.car (s : State) (k : Nat) : Carrier := s.cars.getD k {}
/-- Slot Cc. -/
def State.slot (s : State) (c : Nat) : Slot := s.slots.getD c {}
/-- Unit u of a slot. -/
def Slot.unit (t : Slot) (u : Nat) : UnitSt := t.units.getD u {}

/-- Leg Ll changed. -/
def State.updLeg (s : State) (l : Nat) (f : Leg → Leg) : State := { s with legs := s.legs.modify l f }
/-- The gate guard of leg Ll changed. -/
def State.updGg (s : State) (l : Nat) (f : Guard → Guard) : State := { s with gates := s.gates.modify l f }
/-- Carrier Kk changed. -/
def State.updCar (s : State) (k : Nat) (f : Carrier → Carrier) : State := { s with cars := s.cars.modify k f }
/-- Slot Cc changed. -/
def State.updSlot (s : State) (c : Nat) (f : Slot → Slot) : State := { s with slots := s.slots.modify c f }
/-- Unit u of slot Cc changed. -/
def State.updUnit (s : State) (c u : Nat) (f : UnitSt → UnitSt) : State :=
  s.updSlot c fun t => { t with units := t.units.modify u f }

/-- MDAT input M. -/
def State.md (s : State) (m : Nat) : Mdat := s.mdats.getD m {}
/-- MDAT input M changed. -/
def State.updMd (s : State) (m : Nat) (f : Mdat → Mdat) : State := { s with mdats := s.mdats.modify m f }
/-- Trigger entry TE. -/
def State.trg (s : State) (te : Nat) : Trg := s.meas.trgs.getD te {}
/-- Trigger entry TE changed. -/
def State.updTrg (s : State) (te : Nat) (f : Trg → Trg) : State :=
  { s with meas := { s.meas with trgs := s.meas.trgs.modify te f } }
/-- Slice S. -/
def State.slice (s : State) (i : Nat) : Slice := s.meas.slices.getD i {}
/-- Slice S changed. -/
def State.updSlice (s : State) (i : Nat) (f : Slice → Slice) : State :=
  { s with meas := { s.meas with slices := s.meas.slices.modify i f } }
/-- Loop slot LS. -/
def State.ls (s : State) (n : Nat) : LoopSlot := s.le.slots.getD n {}
/-- Loop slot LS changed. -/
def State.updLs (s : State) (n : Nat) (f : LoopSlot → LoopSlot) : State :=
  { s with le := { s.le with slots := s.le.slots.modify n f } }
/-- Slot input i of LS. -/
def LoopSlot.inp (t : LoopSlot) (i : Nat) : LoopIn := t.inputs.getD i {}
/-- Slot input i of LS changed. -/
def State.updIn (s : State) (n i : Nat) (f : LoopIn → LoopIn) : State :=
  s.updLs n fun t => { t with inputs := t.inputs.modify i f }

/-! ### Power domains -/

/-- The power domains of R23 by number. -/
def domLoop : Nat := 3
def domLegs : Nat := 4
def domMeas : Nat := 5
def domLink : Nat := 6
def domNet : Nat := 7
def domStore : Nat := 8
def domFeed : Nat := 9

/-! ### Time -/

/-- A timed event: the local time goes to the moment it falls due, and never back. -/
def State.at_ (s : State) (t : Nat) : State := { s with now := max s.now t }

/-- One PWM clock in ps (R478): 2,000 ps at the nominal set. -/
def State.tclk (s : State) : Nat := 40000 * s.clk.active.pwm / s.clk.active.n

/-- One clock of CLK_LOOP and of CLK_MEAS in ps. -/
def State.tloop (s : State) : Nat := 40000 * s.clk.active.loop / s.clk.active.n
def State.tmeas (s : State) : Nat := 40000 * s.clk.active.meas / s.clk.active.n

/-- One period of MCLK in ps: five clocks of CLK_MEAS (R115, R478). -/
def State.tmclk (s : State) : Nat := 200000 * s.clk.active.meas / s.clk.active.n

/-- The numbers of the LOOP and of the MCLK clock the local time lies in. -/
def State.loopClk (s : State) : Nat := s.now / s.tloop
def State.mclk (s : State) : Nat := s.now / s.tmclk

/-- The number of the PWM clock the local time lies in. -/
def State.pwmClk (s : State) : Nat := s.now / s.tclk

/-- The first PWM clock edge at or after a local time. -/
def State.edge (s : State) (t : Nat) : Nat := (t + s.tclk - 1) / s.tclk * s.tclk

/-- What happens in the PWM clock after the present one, seen from now: later commands of this clock still find it. -/
def State.inNextClk (s : State) (f : State → State) : State :=
  { f { s with now := s.edge s.now + s.tclk } with now := s.now }

/-- A number of ns in ps. -/
def ns (n : Nat) : Nat := n * 1000
/-- A number of µs in ps. -/
def us (n : Nat) : Nat := n * 1000000
/-- A number of ms in ps. -/
def ms (n : Nat) : Nat := n * 1000000000
/-- A number of seconds in ps. -/
def secs (n : Nat) : Nat := n * 1000000000000

/-- One second of system time in its unit of 2^-16 ns (R10). -/
def sysSec : Nat := 65536000000000

/-- System time at local time t on a stretch of the time base (R396). -/
def TimeSeg.at_ (g : TimeSeg) (t : Nat) : Nat :=
  if g.running then g.sys0 + ((t - g.base : Nat) * 65536 * (1000000000 + g.rho).toNat) / 1000000000000 else g.sys0

/-- The stretch of the time base that runs, as it would end at local time t. -/
def TimeBase.seg (b : TimeBase) (t : Nat) : TimeSeg := ⟨b.sys0, b.base, b.rho, b.running, t⟩

/-- System time at a local time, in units of 2^-16 ns (R10, R396): on the present stretch of the time base, or on the past
one that holds the time. -/
def State.sysAt (s : State) (t : Nat) : Nat :=
  let now := s.tb.seg t
  let seg := if s.tb.base ≤ t then now else (s.tb.past.find? fun g => decide (g.base ≤ t)).getD now
  seg.at_ t

/-- The present stretch of the time base ends at local time t. -/
def TimeBase.cutAt (b : TimeBase) (t : Nat) : TimeBase :=
  { b with past := b.seg t :: b.past.filter fun g => decide (t < g.till + 1000000000) }

/-- System time now. -/
def State.sysNow (s : State) : Nat := s.sysAt s.now

/-- The first local time at which system time has reached a value. -/
def State.localOf (s : State) (T : Nat) : Nat :=
  let d := 65536 * (1000000000 + s.tb.rho).toNat
  s.tb.base + ((T - s.tb.sys0) * 1000000000000 + d - 1) / d

/-- The point of the grid of system time with spacing `len` that comes next, as a system time: the latest one where it has
not been handled, the last one handled being at local time `last`. -/
def State.gridNext (s : State) (last len : Nat) : Nat :=
  let T := s.sysNow / len * len
  if s.tb.sys0 ≤ T && last < s.localOf T then T else T + len

/-- µs of system time in its unit. -/
def sysUs (n : Nat) : Nat := n * 65536000
/-- ns of system time in its unit. -/
def sysNsU (n : Nat) : Nat := n * 65536

/-- The TIME value of a system time as the number its 14 bytes spell: 64 bits of seconds (R10, R447). -/
def timeCode (T : Nat) : Nat :=
  T / sysSec % 2 ^ 64 + (T % sysSec / 65536) * 2 ^ 64 + (T % 65536) * 2 ^ 96

/-- The system time a TIME value spells. -/
def timeOf (v : Nat) : Nat :=
  (v % 2 ^ 64) * sysSec + (v / 2 ^ 64 % 2 ^ 30) * 65536 + v / 2 ^ 96 % 65536

/-- The seconds of a system time. -/
def sysS (T : Nat) : Nat := T / sysSec % 2 ^ 64
/-- The nanoseconds field of a system time. -/
def sysNs (T : Nat) : Nat := T % sysSec / 65536

/-! ### Outside and faults -/

/-- Something sent to the outside. -/
def State.emit (s : State) (o : Out) : State := { s with out := o :: s.out }

/-- A value the manual leaves open, and the state with the counter advanced. -/
def State.draw (s : State) : Nat × State := (Config.freeValue s.free, { s with free := s.free + 1 })

/-- Adds an event to those that wait at their source (R297). -/
def raiseIn (l : List Raised) (code inst detail t : Nat) (a : FltAccess) : List Raised :=
  match l with
  | [] => [⟨code, inst, 1, t, t, detail, a⟩]
  | r :: l' =>
    if r.code = code ∧ r.inst = inst then { r with count := r.count + 1, last := t } :: l'
    else r :: raiseIn l' code inst detail t a

/-- A fault event of a source: it waits there until the collector takes it in (R297). -/
def State.raiseBy (s : State) (code inst detail : Nat) (a : FltAccess) : State :=
  { s with flt := { s.flt with raised := raiseIn s.flt.raised code inst detail s.sysNow a } }

/-- A fault event without detail or access. -/
def State.raise (s : State) (code inst : Nat) : State := s.raiseBy code inst 0 {}

/-! ### Ring frames -/

/-- The class a TYPE travels in (R367). -/
def typeClass (t : Nat) : Nat :=
  if t = 1 then 0 else if t ≤ 4 then 1 else if t ≤ 9 then 2 else 3

/-- Lane n, and lane n changed. -/
def State.lane (s : State) (n : Nat) : Lane := s.lanes.getD n {}
def State.updLane (s : State) (n : Nat) (f : Lane → Lane) : State := { s with lanes := s.lanes.modify n f }
/-- The ring switch changed. -/
def State.updRing (s : State) (f : Ring → Ring) : State := { s with ring := f s.ring }

/-- A bridge (R19). -/
def State.isBridge (s : State) : Bool := s.ring.role = 1

/-- The lanes of R339 that the role leaves in use: a bridge has both ports, any other device the upper one. -/
def State.usesLane (s : State) (n : Nat) : Bool := decide (n < 2) || (s.isBridge && decide (n < 4))

/-- A frame waits for an output lane, or is discarded where the lane is not UP (R359). -/
def State.toLane (s : State) (lane item : Nat) (f : Frame) : State :=
  if (s.lane lane).st = .up then s.updRing fun r => { r with waiting := r.waiting ++ [{ lane := lane, item := item, frame := f, since := s.now }] }
  else s.updRing fun r => { r with edgeDrops := (r.edgeDrops + 1) % 2 ^ 32 }

/-- The ports a frame of this device leaves on: a bridge reaches its branch through the lower one (R368, R370). -/
def State.portsFor (s : State) (scope dst : Nat) : List Nat :=
  if !s.isBridge then [0]
  else if scope = 0 then (if s.ring.branchIds.contains dst then [1] else [0])
  else if scope = 3 then [0] else [0, 1]

/-- Item of R374 of an own frame by its class. -/
def ownItem (c : Nat) : Nat := match c with
  | 0 => 1 | 1 => 2 | 2 => 4 | _ => 5

/-- Both copies of a frame the device originates wait for the lanes of its ring: rotation A on lane 0 or 2, B on 1 or 3. -/
def State.bothWays (s : State) (f : Frame) : State :=
  (s.portsFor f.scope f.dst).foldl (fun s p =>
    (s.toLane (2 * p) (ownItem (typeClass f.typ)) f).toLane (2 * p + 1) (ownItem (typeClass f.typ)) { f with rot := 1 }) s

/-- A frame the device originates, with the class's next SEQ (R368). A device without an ID sends none of these (R360). -/
def State.send (s : State) (typ num scope dst : Nat) (payload : List Byte) : State :=
  if s.ring.nodeId ≥ 1024 then s
  else
    let c := typeClass typ
    let f : Frame := ⟨typ, num, s.ring.nodeId, if scope = 0 then dst else 0, scope, s.ring.seqs.getD c 0, 0, 0, false, payload⟩
    (s.updRing fun r => { r with seqs := r.seqs.modify c fun q => (q + 1) % 65536 }).bothWays f

/-! ### Values that reach a loop slot (R160) -/

/-- KIND, SEL, WAIT and DIST_USE of slot input i (R159). -/
def State.inKind (s : State) (n i : Nat) : Nat := bits (s.rd (Od.LS_IN n i)) 3 0
def State.inSel (s : State) (n i : Nat) : Nat := bits (s.rd (Od.LS_IN n i)) 31 16
def State.inWait (s : State) (n i : Nat) : Bool := (s.rd (Od.LS_IN n i)).testBit 4
def State.inDist (s : State) (n i : Nat) : Bool := (s.rd (Od.LS_IN n i)).testBit 5

/-- A value with a status reaches slot input i now; a value of the same LOOP clock stays behind it for a run that
starts in that clock. -/
def State.arrive (s : State) (n i v st : Nat) : State :=
  let c := s.loopClk
  s.updIn n i fun x => { x with
    cur := some ⟨v, st, c⟩
    was := match x.cur with
      | some o => if o.clk = c then x.was else some o
      | none => none
    age := 0 }

/-- The slot inputs of the device that a test selects: slot and input. -/
def State.inputsWhere (s : State) (f : Nat → Nat → Bool) : List (Nat × Nat) :=
  (List.range 128).flatMap fun n =>
    if (s.ls n).st = .empty then [] else ((List.range 16).filter fun i => f n i).map fun i => (n, i)

/-- A host value: stored, and new for an input of KIND 0x4. -/
def State.hostIn (s : State) (n i v : Nat) : State :=
  let s := s.wr (Od.LS_IN_VAL n i) v
  if s.inKind n i = 4 then s.arrive n i v 0 else s

/-! ### Trace signals (R470, R471) -/

/-- The signals bound to a source of a kind: listed entries TR_BIND with that kind and selector. -/
def State.boundTraces (s : State) (kind sel : Nat) : List Nat :=
  s.od.filterMap fun e =>
    if e.1 / 256 ≥ 0x8000 && e.1 % 256 = 3 && bits e.2 31 28 = kind && e.2 % 2 ^ 28 = sel then some (e.1 / 256 - 0x8000) else none

/-- A record of the trace payload (R471), after 8 bytes of seconds. -/
def tracePayload (sig typ value T : Nat) : List Byte :=
  leBytes 8 (sysS T) ++ leBytes 2 sig ++ leBytes 1 typ ++ leBytes 1 0 ++ leBytes 4 (sysNs T) ++ leBytes 8 value

/-- A record of a signal marked in CEL_SIGNALS goes to the trace RAM, which holds 65,536 of them, and in a post-window
to the dump, up to 32,000 bytes in a millisecond (R531). -/
def State.traceRecord (s : State) (sig : Nat) (rec : List Byte) : State :=
  if !(s.rd Od.CEL_SIGNALS).testBit sig then s
  else
    let n := s.nor
    let n := if n.frozen.isNone then { n with traceRam := ((s.now, rec) :: n.traceRam).take 65536 } else n
    let post := match n.dumpAt with
      | some t => decide (s.now ≤ t + ms (s.rd Od.CEL_POST))
      | none => false
    if !post then { s with nor := n }
    else
      let used := if n.postMs = s.now / ms 1 then n.postBytes else 0
      let fits := decide (used + 16 ≤ 32000)
      { s with nor := { n with
          postMs := s.now / ms 1, postBytes := if fits then used + 16 else used
          written := if fits then n.written + 16 else n.written
          dumps := n.dumps.map fun d =>
            if d.state ≠ 3 then d
            else if fits then { d with data := d.data ++ rec } else { d with dropped := (d.dropped + 1) % 2 ^ 32 } } }

/-- Trace updates go out by UDP: NET runs, ETH_EN is set, and ETH_TRACE_DST is not all zeros (R471, R475). -/
def State.udpOpen (s : State) : Bool :=
  decide (s.pwr.doms.getD domNet .off = .on) && (s.rd Od.NET_CTRL).testBit 0 && decide (s.rd Od.ETH_TRACE_DST ≠ 0)

/-- Trace signal `sig` takes a value with the system time of the update, and streams it where TR_STREAM asks. -/
def State.traceSet (s : State) (sig typ value T : Nat) : State :=
  let a := s.acc
  let s : State := { s with acc := { a with traces := ⟨sig, value, T⟩ :: a.traces.filter fun t => t.sig ≠ sig } }
  let st := s.rd (Od.TR_STREAM sig)
  let p := tracePayload sig typ value T
  let s := s.traceRecord sig (p.drop 8)
  let s := if st.testBit 0 && s.rd Od.TR_RING_DST < 1024 then s.send 0x0A 0 0 (s.rd Od.TR_RING_DST) p else s
  if st.testBit 1 && s.udpOpen then
    -- UDP up to TR_UDP_RATE kbit in a second of local time (DESIGN CHOICE, log entry 210); the rest is dropped
    let sec := s.now / secs 1
    let used := if s.acc.udpSec = sec then s.acc.udpBits else 0
    if used + 8 * p.length ≤ 1000 * s.rd Od.TR_UDP_RATE then
      { (s.emit (.trace p)) with acc := { s.acc with udpSec := sec, udpBits := used + 8 * p.length } }
    else { s with acc := { s.acc with trDrops := (s.acc.trDrops + 1) % 2 ^ 32 } }
  else s

/-- Every signal bound to a source takes its value. -/
def State.traceAll (s : State) (kind sel typ value T : Nat) : State :=
  (s.boundTraces kind sel).foldl (fun s sig => s.traceSet sig typ value T) s

end Sys2Proof.Machine
end

