-- ==== Sys2Proof/Machine/Operands.lean ====
section
/-! DEFINITION. The operand forms: which legs a unit has, which carrier and unit a leg belongs to, which safe-off
order a template gives (02). -/

namespace Sys2Proof.Machine

/-- SLOT_TEMPLATE of Cc (R25). -/
def State.tmpl (s : State) (c : Nat) : Nat := s.rd (Od.SLOT_TEMPLATE c)

/-- Units of a template (R25). -/
def tmplUnits (t : Nat) : Nat :=
  match t with
  | 1 => 1 | 2 => 1 | 3 => 2 | 4 => 3 | 5 => 6 | _ => 0

/-- The unit of local leg j under a template; none for an unused leg (R26). -/
def unitOf (t j : Nat) : Option Nat :=
  match t with
  | 1 => some 0
  | 2 => if j < 4 then some 0 else none
  | 3 => some (j / 3)
  | 4 => some (j / 2)
  | 5 => some j
  | _ => none

/-- The local legs of unit u under a template (R26). -/
def unitLegs (t u : Nat) : List Nat := (List.range 6).filter fun j => unitOf t j = some u

/-- The carrier that template t loads into local leg j of slot Cc; none where R26 loads none. -/
def tmplCarrier (t c j : Nat) : Option Nat :=
  match t with
  | 0 => some (2 * c)
  | 1 => some (if j < 2 then 2 * c else 2 * c + 1)
  | 2 => if j < 4 then some (2 * c + 1) else none
  | 3 => some (if j < 3 then 2 * c else 2 * c + 1)
  | 4 => some (if j < 4 then 2 * c else 2 * c + 1)
  | _ => some (2 * c)

/-- Steps 1, 2, … of a safe-off sequence, as local legs (R30). -/
def soSteps (t u : Nat) : List (List Nat) :=
  match t with
  | 1 => [[2, 3], [4, 5], [0, 1]]
  | 2 => [[0, 1], [2, 3]]
  | 3 => [unitLegs 3 u]
  | 4 => [unitLegs 4 u]
  | _ => []

/-- The steps of a STOP, from t0 on: those of R30 for T6 and T4, every leg of the unit at once otherwise (R33). -/
def stopSteps (t u : Nat) : List (List Nat) :=
  match t with
  | 1 => [[2, 3], [4, 5], [0, 1]]
  | 2 => [[0, 1], [2, 3]]
  | _ => [unitLegs t u]

/-- Slot and local number of leg Ll (R5). -/
def legSlot (l : Nat) : Nat := l / 6
def legJ (l : Nat) : Nat := l % 6

/-- The unit leg Ll belongs to (R26). -/
def State.legUnit (s : State) (l : Nat) : Option Nat := unitOf (s.tmpl (legSlot l)) (legJ l)

/-- State of unit u of Cc. -/
def State.ust (s : State) (c u : Nat) : UState := ((s.slot c).unit u).st

/-- The leg numbers of unit u of Cc. -/
def State.unitLegIds (s : State) (c u : Nat) : List Nat := (unitLegs (s.tmpl c) u).map (6 * c + ·)

/-- The unit numbers of Cc. -/
def State.units (s : State) (c : Nat) : List Nat := List.range (tmplUnits (s.tmpl c))

/-- The units of Cc that a mask names; mask 0 names every unit (SLOT_CMD). -/
def State.named (s : State) (c mask : Nat) : List Nat :=
  (s.units c).filter fun u => mask = 0 || mask.testBit u

/-- ACTIVE, SPARE or PRECHARGE: the states a sequence, a reaction and an FK decision act on (R97, R293). -/
def UState.live (u : UState) : Bool :=
  match u with
  | .active | .spare | .precharge => true
  | _ => false

/-- LEG_CARRIER of Ll. -/
def State.carOf (s : State) (l : Nat) : Nat := s.rd (Od.LEG_CARRIER l)

/-- The legs that select carrier Kk. -/
def State.legsOn (s : State) (k : Nat) : List Nat := (List.range 192).filter fun l => s.carOf l = k

/-- LEGS_ENABLED (R46). -/
def State.legsEnabled (s : State) : Nat := s.legs.countP (·.enabled)

/-- Every (slot, unit) of the device. -/
def State.allUnits (s : State) : List (Nat × Nat) :=
  (List.range 32).flatMap fun c => (s.units c).map fun u => (c, u)

/-- Every unit is STOPPED in slot Cc. -/
def State.slotStopped (s : State) (c : Nat) : Bool := (s.units c).all fun u => s.ust c u = .stopped

/-- The local string entry of Cc (R41); none for 0xFF. -/
def State.strOf (s : State) (c : Nat) : Option Nat :=
  let st := s.rd (Od.SLOT_STRING c)
  if st < 32 then some st else none

/-- String entry ST. -/
def State.str (s : State) (i : Nat) : StringSt := s.strings.getD i {}
/-- String entry ST changed. -/
def State.updStr (s : State) (i : Nat) (f : StringSt → StringSt) : State := { s with strings := s.strings.modify i f }

/-- The slots of this device that are members of string entry ST (R41). -/
def State.membersHere (s : State) (i : Nat) : List Nat := (List.range 32).filter fun c => s.strOf c = some i

/-- The order of a mapped function over a list of instances. -/
def State.each {α : Type} (s : State) (l : List α) (f : State → α → State) : State := l.foldl f s

/-- The link voltage of Cc on the fast path of M(3n), as a binary32 code: MD_GAIN × MD_FAST_VALUE / 32,768 + MD_OFFSET
(08, Pre-charge). The fast value is the number given. -/
def linkV (gain offset : Nat) (fast : Int) : Nat :=
  F32.add (F32.div (F32.mul gain (F32.ofInt fast)) (F32.ofInt 32768)) offset

/-! ### Incident dumps (R531) -/

/-- A dump that a reset would truncate: it runs, or its pre-window is not written yet (R532, R536). -/
def Dump.unfinished (d : Dump) : Bool := d.state = 3 || d.preWin.isSome

/-- The oldest dump that is neither PROTECTED nor UPLOADING (R533). -/
def oldestFree (l : List Dump) : Option Nat := ((l.filter fun d => !d.isProtected && !d.uploading).head?).map (·.number)

/-- Full dumps the dump area keeps: 11 on 4 GiB, 23 on 8 GiB (R533). -/
def dumpRoom : Nat := Config.dumpRoom

/-- An incident dump starts, or counts as a trigger that fell during the one that runs (R531, R533, R537). -/
def State.startDump (s : State) (code : Nat) : State :=
  let n := s.nor
  if !n.nand then s
  else if n.dumpAt.isSome then
    { s with nor := { n with dumps := n.dumps.map fun d => if d.state = 3 then { d with triggers := d.triggers + 1 } else d } }
  else
    let room := decide (n.dumps.length < dumpRoom)
    if !room && (oldestFree n.dumps).isNone then { s.raise Flt.CEL_FULL 0 with nor := { n with full := true } }
    else
      let old := if room then none else oldestFree n.dumps
      -- the trace RAM holds nothing from after it froze: the pre-window of a later dump is shorter by that
      let last := n.frozen.getD s.now
      let first := min last (s.now - s.rd Od.CEL_PRE * 1000000000)
      let kept := n.dumps.filter fun d => some d.number ≠ old
      { s with nor := { n with
          full := false
          dumps := kept ++ [{ number := n.nextDump, state := 3, code := code, time := s.sysNow, preUs := (last - first) / 1000000, preWin := some (first, last) }]
          nextDump := n.nextDump + 1, dumpAt := some s.now, frozen := some last } }

/-- Trace data that R380 spills is written as a dump without trigger, whenever no dump runs: it joins the newest dump
where that is one (R531). -/
def State.spillDump (s : State) (p : List Byte) : State :=
  let n := s.nor
  if !n.nand || n.dumpAt.isSome then s
  else
    let open_ := match n.dumps.getLast? with
      | some d => if d.spilled then some d.number else none
      | none => none
    let put (l : List Dump) (k : Nat) := l.map fun d => if d.number = k then { d with data := d.data ++ p } else d
    match open_ with
    | some k => { s with nor := { n with dumps := put n.dumps k, written := n.written + p.length } }
    | none =>
      let room := decide (n.dumps.length < dumpRoom)
      if !room && (oldestFree n.dumps).isNone then { s.raise Flt.CEL_FULL 0 with nor := { n with full := true } }
      else
        let old := if room then none else oldestFree n.dumps
        let kept := n.dumps.filter fun d => some d.number ≠ old
        { s with nor := { n with
            full := false, nextDump := n.nextDump + 1, written := n.written + p.length
            dumps := kept ++ [{ number := n.nextDump, state := 1, time := s.sysNow, data := p, spilled := true }] } }

/-- An event that bit b of CEL_TRIG selects (R531). -/
def State.dumpTrigger (s : State) (b code : Nat) : State :=
  if (s.rd Od.CEL_TRIG).testBit b then s.startDump code else s

end Sys2Proof.Machine
end

