-- ==== Sys2Proof/Machine/Flags.lean ====
section
/-! DEFINITION. Every status word the manual lays out, computed from State: one function for each. -/

namespace Sys2Proof.Machine

/-- The number whose bit i is the i-th flag of the list. -/
def packBits : List Bool → Nat
  | [] => 0
  | b :: bs => b2n b + 2 * packBits bs

/-- The code of a CmdSt (R47). -/
def CmdSt.code : CmdSt → Nat
  | .idle => 0 | .pending => 1 | .done => 2 | .refused => 3

/-- The state code of a unit (R34). -/
def UState.code : UState → Nat
  | .stopped => 1 | .precharge => 2 | .active => 3 | .spare => 4 | .bypassed => 5 | .faulted => 6

/-- SLOT_STATE (R34, R35). -/
def State.slotState (s : State) (c : Nat) : Nat :=
  match s.tmpl c with
  | 0 => 0
  | 1 | 2 => (s.ust c 0).code
  | _ =>
    if (s.units c).any fun u => s.ust c u = .active then 3
    else if (s.units c).any fun u => s.ust c u = .faulted then 6 else 1

/-- SLOT_LATCHED (R47). -/
def State.slotLatched (s : State) (c : Nat) : Nat :=
  packBits ((List.range 6).map fun j => (s.gg (6 * c + j)).latched)

/-- CAR_STATE (R84). -/
def CarState.code : CarState → Nat
  | .stopped => 0 | .armed => 1 | .running => 2 | .stopping => 3

/-- A force entry is in effect. -/
def Force.on : Force → Bool
  | .none => false
  | _ => true

/-- LEG_STATUS (R83). -/
def Leg.status (g : Leg) : Nat :=
  packBits [g.enabled, g.force.on, g.cutHi || g.cutLo, g.bootSeen, g.clamped, g.mixed, g.clampSeen, g.parity, g.pending]

/-- LEG_GG_STATUS (R111), given whether blanking runs, the hard-wired channel holds the leg and a supply wait holds
a gate. -/
def Guard.status (g : Guard) (blanking sto supply : Bool) : Nat :=
  packBits [g.latched, g.fkPin, g.sn, blanking, sto, supply, g.xcmdSeen, g.fkSeen, g.blankedSeen, g.snMiss, g.backstop,
    g.clkClamp]

/-- CAR_STATUS (R84). -/
def State.carStatus (s : State) (k : Nat) : Nat :=
  packBits [(s.legsOn k).any fun l => (s.leg l).mixed, (s.legsOn k).any fun l => (s.leg l).clamped, (s.car k).paritySeen]

/-- CAR_LEGS (R84). -/
def State.carLegs (s : State) (k : Nat) : Nat := packBits ((List.range 192).map fun l => decide (s.carOf l = k))

/-- STR_STATE (R210). -/
def StrState.code : StrState → Nat
  | .stopped => 0 | .pcPassive => 1 | .pcActive => 2 | .running => 3 | .blocked => 4 | .tripped => 5

/-- STR_STATUS (R236), given whether this device is the home device. -/
def StringSt.status (t : StringSt) (home : Bool) : Nat :=
  packBits [t.readyMain, t.bal.any (·.raised), t.riding.isSome, t.glides != [], t.configOk, home]

end Sys2Proof.Machine
end

