-- ==== Sys2Proof/Machine/GuardOps.lean ====
section
/-! DEFINITION. What the gate guard does with one leg (04): gates going low, requests followed, the handshake times, the
supply waits and the holds. The meanings of the guard's events call these. -/

namespace Sys2Proof.Machine

/-! ### Settings of a leg -/

def State.dtMin (s : State) (l : Nat) : Nat := s.rd (Od.LEG_DT_MIN l)
def State.dtMax (s : State) (l : Nat) : Nat := s.rd (Od.LEG_DT_MAX l)
def State.ggCtrl (s : State) (l : Nat) : Nat := s.rd (Od.LEG_GG_CTRL l)
/-- SUPPLY of LEG_GG_CTRL: 0 isolated, 1 bootstrap, 2 charge pump (R111). -/
def State.supplyKind (s : State) (l : Nat) : Nat := bits (s.ggCtrl l) 4 3

/-! ### What holds a leg -/

/-- The hard-wired channel holds group A or B (R105, R308). -/
def Safety.hwA (f : Safety) : Bool := f.pinA.hw || f.pinA.internal
def Safety.hwB (f : Safety) : Bool := f.pinB.hw || f.pinB.internal

/-- Slot Cc belongs to group A, to group B (R312). -/
def State.inA (s : State) (c : Nat) : Bool := (s.rd Od.SF_STO_GROUP).testBit (2 * c)
def State.inB (s : State) (c : Nat) : Bool := (s.rd Od.SF_STO_GROUP).testBit (2 * c + 1)

/-- The hard-wired channel holds the legs of Cc: STO_HELD (R105). -/
def State.stoHeld (s : State) (c : Nat) : Bool := (s.inA c && s.sf.hwA) || (s.inB c && s.sf.hwB)

/-- Cc is under the processor hold (R314). -/
def State.pheld (s : State) (c : Nat) : Bool := s.sf.phold.testBit c

/-- The STO channel or a processor hold holds the legs of Cc (R98, R314). -/
def State.safeHeld (s : State) (c : Nat) : Bool := s.stoHeld c || s.pheld c

/-- Nothing above the leg command keeps the gates of Ll low (R15, R87): reset, LEGS isolated or off, STO, latch,
interlock, charge-pump wait. -/
def State.gateFree (s : State) (l : Nat) : Bool :=
  let g := s.gg l
  !s.pwr.held && s.pwr.doms.getD 4 .off = .on && !s.clk.pwmMissing &&
    !s.clk.pwmGated && !s.safeHeld (legSlot l) && !g.stoLow && !g.latched && !g.xhold && g.pumpWait.isNone

/-! ### A gate goes low -/

/-- First SN capture at or after a gate went low that shows the level wanted, as the node stands (R87). -/
def txStart (shows : Bool) (t : Nat) : Option Nat := if shows then some t else none

/-- The same after a transition at t of the node, which `shows` the level wanted from then on: a gate that goes low at
`off` finds the node as it stands then; later the first capture counts, while the incoming gate has `waited`. -/
def txNext (tx : Option Nat) (off t : Nat) (waited shows : Bool) : Option Nat :=
  if t ≤ off then txStart shows off else if waited && tx.isNone && shows then some t else tx

/-- The confirm of R89 once a gate goes low at t: ended where it is the gate's own and its deadline lies after t. -/
def confirmAfter (c : Option (Nat × Bool)) (gh : Bool) (t : Nat) : Option (Nat × Bool) :=
  c.filter fun c => c.2 != gh || decide (c.1 ≤ t)

/-- GH goes low at t. -/
def Guard.dropH (g : Guard) (t : Nat) : Guard :=
  if g.gh then
    { g with gh := false, ghOff := t, blankWas := g.blank, blank := some t, offH := g.offH + 1, txF := txStart (!g.sn) t,
             selfH := txStart g.sn t, confirm := confirmAfter g.confirm true t }
  else g

/-- GL goes low at t; its on-time counts toward the bootstrap wait (R102). -/
def Guard.dropL (g : Guard) (t : Nat) : Guard :=
  if g.gl then
    { g with gl := false, glOff := t, blankWas := g.blank, blank := some t, offL := g.offL + 1, selfL := txStart (!g.sn) t,
             txR := txStart g.sn t, confirm := confirmAfter g.confirm false t, bootAcc := g.bootAcc + (t - g.glRise) }
  else g

/-- Both gates low at t. -/
def Guard.drop (g : Guard) (t : Nat) : Guard := (g.dropH t).dropL t

/-- An edge of Ll's command now, for the quiet windows (R133, R134); edges of the last 40 µs are kept. -/
def State.noteEdge (s : State) (l : Nat) : State :=
  { s with meas := { s.meas with edges := (l, s.now) :: s.meas.edges.filter fun e => s.now < e.2 + us 40 } }

/-- Both gates of Ll low now; a latch or STO that ends a pulse counts as an edge (R134). -/
def State.lowerLeg (s : State) (l : Nat) : State :=
  let s := if (s.gg l).gh || (s.gg l).gl then s.noteEdge l else s
  s.updGg l fun g => g.drop s.now

/-! ### Requests -/

/-- The gates a command asks for (R85): GH, GL. -/
def Cmd.requests : Cmd → Bool × Bool
  | .off => (false, false)
  | .high => (true, false)
  | .low => (false, true)
  | .raw gh gl => (gh, gl)

/-- The guard takes in the requests of a command formed in clock t (R86, R90): a gate whose request ended goes low one
clock later; both requested is held low (R94). -/
def Guard.follow (g : Guard) (cmd : Cmd) (t next : Nat) : Guard :=
  let (h, l) := cmd.requests
  let g := { g with
    ghReqAt := if h && !g.ghReq then t else g.ghReqAt
    glReqAt := if l && !g.glReq then t else g.glReqAt
    againH := if h && !g.ghReq then decide (g.glOff < g.ghOff) && !g.gl else g.againH
    againL := if l && !g.glReq then decide (g.ghOff < g.glOff) && !g.gh else g.againL
    barH := g.barH && h
    barL := g.barL && l
    ghReq := h
    glReq := l }
  if h && l then g.drop t
  else
    let g := if h then g else g.dropH next
    if l then g else g.dropL next

/-- Both gates are requested and no hold of R94 runs yet. -/
def Guard.xcmd (g : Guard) : Bool := g.ghReq && g.glReq && !g.xhold

/-- The hold of R94 begins on Ll: both gates low, sticky bit, count, fault GG_XCMD. -/
def State.xcmd (s : State) (l : Nat) : State :=
  (s.updGg l fun g => { g.drop s.now with xhold := true, xholdAt := s.now, xcmdSeen := true, xcmdCount := g.xcmdCount + 1 }).raise Flt.GG_XCMD l

/-- A hold of R94 on Ll without a running carrier ends once both are no longer requested. -/
def State.xholdEnd (s : State) (l : Nat) : State :=
  if (s.gg l).xhold && !((s.gg l).ghReq && (s.gg l).glReq) && (s.car (s.carOf l)).st ≠ .running
    then s.updGg l fun g => { g with xhold := false } else s

/-- The guard of Ll takes in the leg's command. -/
def State.followCmd (s : State) (l : Nat) : State :=
  let next := s.edge s.now + s.tclk
  let s := (s.updGg l fun g => g.follow (s.leg l).cmd (s.edge s.now) next).xholdEnd l
  if (s.gg l).xcmd then s.xcmd l else s

/-! ### The handshake (R87, R91) -/

/-- DT_ADAPT of a learned value in 1/128 ns: the nearest multiple of 2 ns, ties up, in ns (R91). -/
def dtAdapt (d : Nat) : Nat := (d + 128) / 256 * 2

/-- t_off of GH or GL incoming: when the other gate last went low, or this one in the case of R90. -/
def Guard.tOff (g : Guard) (gh : Bool) : Nat :=
  if gh then (if g.againH then g.ghOff else g.glOff) else (if g.againL then g.glOff else g.ghOff)

/-- t_x of GH or GL incoming (R87). -/
def Guard.tX (g : Guard) (gh : Bool) : Option Nat :=
  if gh then (if g.againH then g.selfH else g.txR) else (if g.againL then g.selfL else g.txF)

/-- t_rel in ps, for GH incoming or GL incoming (R87). -/
def State.tRel (s : State) (l : Nat) (gh : Bool) : Nat :=
  let g := s.gg l
  let back := g.tOff gh + ns (s.dtMax l)
  match g.tX gh with
  | none => back
  | some tx => min back (max (g.tOff gh + ns (dtAdapt (if gh then g.dR else g.dF))) (tx + ns (s.rd (Od.LEG_DT_MARGIN l))))

/-- D after a release (R91): d, t_x − t_off and the margin in 1/128 ns, weight 2^-k, clamped to [lo, hi] ns. -/
def learn (d dx margin k lo hi : Nat) : Nat :=
  let e : Int := (d : Int) + ((dx : Int) + margin - d) / (2 ^ k : Nat)
  (max (128 * (lo : Int)) (min e (128 * (hi : Int)))).toNat

/-- A time in ps in units of 1/128 ns. -/
def in128 (t : Nat) : Nat := t * 128 / 1000

/-- Blanking of Ll runs (R96): since the last gate change that has come, for LEG_BLANK. -/
def State.blanking (s : State) (l : Nat) : Bool :=
  let g := s.gg l
  (if g.blank.any fun t => decide (s.now < t) then g.blankWas else g.blank).any fun t =>
    decide (s.now < t + ns (s.rd (Od.LEG_BLANK l)))

/-- End of the blanking of Ll. -/
def State.blankEnd (s : State) (l : Nat) : Nat := ((s.gg l).blank.getD 0) + ns (s.rd (Od.LEG_BLANK l))

/-! ### Supply waits (R102, R103) -/

/-- GL on-time of Ll up to now. -/
def State.bootOn (s : State) (l : Nat) : Nat :=
  let g := s.gg l
  g.bootAcc + (if g.gl then s.now - g.glRise else 0)

/-- GH of Ll waits for the bootstrap supply (R102). -/
def State.bootHold (s : State) (l : Nat) : Bool :=
  s.supplyKind l = 1 && decide (s.bootOn l < ns (s.rd (Od.SLOT_BOOT_PRE (legSlot l))))

/-- SUPPLY_WAIT: a wait of R102 or R103 holds a gate of Ll. -/
def State.supplyWait (s : State) (l : Nat) : Bool :=
  ((s.gg l).pumpWait.isSome) || (s.bootHold l && (s.gg l).ghReq)

/-- The supply waits of Ll start afresh: the leg was enabled, or the STO channel released it (R102, R103). A leg that is
not enabled waits for no supply until it is. -/
def State.startSupply (s : State) (l : Nat) : State :=
  s.updGg l fun g => { g with
    bootAcc := 0
    glRise := s.now
    pumpWait := if s.supplyKind l = 2 && g.fkPin && (s.leg l).enabled then some s.now else none }

/-! ### Latching -/

/-- D_F and D_R at LEG_DT_INIT (R92). -/
def State.resetDt (s : State) (l : Nat) : State :=
  s.updGg l fun g => { g with dF := 128 * s.rd (Od.LEG_DT_INIT l), dR := 128 * s.rd (Od.LEG_DT_INIT l) }

/-- The latch of Ll released (R92, R102, R104). -/
def State.unlatch (s : State) (l : Nat) : State :=
  if (s.gg l).latched then (s.updGg l fun g => { g with latched := false, bootAcc := 0 }).resetDt l
  else s

/-- FK of Ll asserted, on a leg that is not unused (R98). -/
def State.fkOn (s : State) (l : Nat) : Bool := (s.gg l).fkPin && (s.legUnit l).isSome

/-- FK of Ll as the guard sees it once the leg's unit or the LEGS domain is new: an assertion that stands on a used leg
begins its deglitch now, one on an unused leg is ignored (R98). -/
def State.fkFresh (s : State) (l : Nat) : State :=
  s.updGg l fun g => { g with fk := if !s.fkOn l then .none else if g.fk = .none then .deglitch s.now else g.fk }

/-- A safe-off sequence runs on the unit of Ll (R32). -/
def State.inSafeOff (s : State) (l : Nat) : Bool := match s.legUnit l with
  | some u => ((s.slot (legSlot l)).unit u).seq.any fun q => q.kind = .safeOff
  | none => false

end Sys2Proof.Machine
end

