-- ==== Sys2Proof/Machine/LegOps.lean ====
section
/-! DEFINITION. The leg timing unit's operations (03): positions, the leg command, staging, the commit, the apply of a
leg, force entries, enabling and disabling. -/

namespace Sys2Proof.Machine

/-! ### Positions (R49, R55) -/

/-- Carrier position n at local time t. -/
def State.posN (s : State) (k t : Nat) : Nat := (s.car k).refN + (t - (s.car k).refT) / s.tclk

/-- Local time of the carrier's next peak and of its next valley. -/
def State.peakAt (s : State) (k : Nat) : Nat := (s.car k).refT + ((s.car k).p - (s.car k).refN) * s.tclk
def State.valleyAt (s : State) (k : Nat) : Nat := (s.car k).refT + (2 * (s.car k).p - (s.car k).refN) * s.tclk

/-- The counter runs. -/
def Carrier.counts (c : Carrier) : Bool := c.st = .running || c.st = .stopping

/-- n_L of a leg with phase phi on period p, at carrier position n (R55). -/
def legPos (n phi p : Nat) : Nat := (n + 2 * p - phi % (2 * p)) % (2 * p)

/-- n_L of Ll at local time t. -/
def State.posL (s : State) (l t : Nat) : Nat :=
  legPos (s.posN (s.carOf l) t) (s.leg l).phiNow (s.car (s.carOf l)).p

/-- The compare command at leg position nL is HIGH (R55). -/
def cmpHigh (nL c p : Nat) : Bool := decide (nL < c) || decide (nL ≥ 2 * p - c)

/-- bitrev4 of R57. -/
def bitrev4 (p : Nat) : Nat := b2n (p.testBit 0) * 8 + b2n (p.testBit 1) * 4 + b2n (p.testBit 2) * 2 + b2n (p.testBit 3)

/-- Integer part of a value in sixteenths, raised by 1 as R57 dithers it for pulse p; an integer part equal to the period
is never raised. -/
def dither (v p period : Nat) (on : Bool) : Nat :=
  v / 16 + b2n (on && decide (v / 16 ≠ period) && decide (bitrev4 (p % 16) < v % 16))

/-! ### The leg command (R80) -/

/-- The command of R80, from the first row that applies; carParity: a parity error on the carrier stands (R81). -/
def Leg.command (g : Leg) (carParity : Bool) : Cmd :=
  if !g.enabled then .off
  else if g.parityOff || carParity then .off
  else if g.force = .off then .off
  else if g.cutHi && g.cutLo then .off
  else if g.cutHi then (match g.force with | .raw _ l => .raw false l | _ => .low)
  else if g.cutLo then (match g.force with | .raw h _ => .raw h false | _ => .high)
  else if g.boot.isSome then .low
  else match g.force with
    | .upper => .high
    | .lower => .low
    | .raw h l => .raw h l
    | _ => if g.cmp then .high else .low

/-- The command of Ll formed afresh and handed to the guard. -/
def State.settleLeg (s : State) (l : Nat) : State :=
  let cmd := (s.leg l).command (s.car (s.carOf l)).parityOff
  let s := if cmd = (s.leg l).cmd then s else s.noteEdge l
  (s.updLeg l fun g => { g with cmd := cmd, highAll := g.highAll && cmd = .high }).followCmd l

/-- The same where a commit, a force entry or a bind has changed the command: while a safe-off sequence runs on the unit, a
request that begins so raises no gate (R32). -/
def State.settleBarred (s : State) (l : Nat) : State :=
  let g := s.gg l
  let s := s.settleLeg l
  if s.inSafeOff l then
    s.updGg l fun x => { x with barH := x.barH || (x.ghReq && !g.ghReq), barL := x.barL || (x.glReq && !g.glReq) }
  else s

/-! ### Settings of a leg -/

def State.applyLocal (s : State) (l : Nat) : Bool := (s.rd (Od.LEG_CTRL l)).testBit 0
def State.dithers (s : State) (l : Nat) : Bool := (s.rd (Od.LEG_CTRL l)).testBit 1
def State.pklLo (s : State) (l : Nat) : Bool := (s.rd (Od.LEG_CTRL l)).testBit 2

/-! ### Applying values (R56, R57, R68, R70) -/

/-- Duty and phase become the leg's applied values on period p: clamp, reduction, dither choice, parity renewed. -/
def Leg.take (g : Leg) (duty phase p : Nat) (dith : Bool) : Leg :=
  let d := min duty (16 * p)
  let ph := (phase / 16) % (2 * p) * 16 + phase % 16
  { g with
    dutyApp := duty, phaseApp := phase, dutyAct := d, phaseAct := ph
    cNow := dither d g.pSel p dith
    phiNow := dither ph g.pSel p dith
    pending := false, parityOff := false }

/-- The dither choice for the pulse p, from the active values (R57). -/
def Leg.choose (g : Leg) (p per : Nat) (dith : Bool) : Leg :=
  { g with pSel := p, cNow := dither g.dutyAct p per dith, phiNow := dither g.phaseAct p per dith }

/-- The compare command of Ll afresh at the present clock. -/
def State.compareLeg (s : State) (l : Nat) : State :=
  let c := s.car (s.carOf l)
  if c.counts then
    s.updLeg l fun g => { g with cmp := cmpHigh (legPos (s.posN (s.carOf l) s.now) g.phiNow c.p) g.cNow c.p }
  else s

/-! ### Staging (R58, R62, R66) -/

/-- CAR_COMMIT_MODE = 0x01. -/
def State.autoMode (s : State) (k : Nat) : Bool := s.rd (Od.CAR_COMMIT_MODE k) = 1

/-- A valley, a peak is a commit point (R60). -/
def State.valleyCommits (s : State) (k : Nat) : Bool := s.rd (Od.CAR_RELOAD k) ≠ 1
def State.peakCommits (s : State) (k : Nat) : Bool := s.rd (Od.CAR_RELOAD k) ≠ 0

/-- The start clock of an ARMED carrier, in local time (R52). DESIGN CHOICE: CAR_START_TIME is read at the start, so that a
write while the carrier is ARMED moves the start (log entry 163). -/
def State.startAt (s : State) (k : Nat) : Nat := s.edge (s.localOf (timeOf (s.rd (Od.CAR_START_TIME k))))

/-- Clock of the carrier's next commit point, where it is the carrier's next event. -/
def State.nextCommitClk (s : State) (k : Nat) : Option Nat :=
  let c := s.car k
  if c.st = .armed then some (s.startAt k / s.tclk)
  else if !c.counts then none
  else if c.refN < c.p then (if s.peakCommits k then some (s.peakAt k / s.tclk) else none)
  else
    let v := s.valleyAt k / s.tclk
    -- the valley in whose clock a stop completed does not halt the counter (R53)
    if s.valleyCommits k && (c.st = .running || c.stopClk = v) then some v else none

/-- A write or request on carrier Kk completes now: where this is the clock of a commit point, it is late (R66), and
the values before it are kept for a commit still to come in the clock. -/
def State.noteLate (s : State) (k : Nat) : State :=
  let c := s.car k
  let clk := s.pwmClk
  let before := s.nextCommitClk k = some clk
  if before || (c.counts && c.cpClk = some clk) then
    s.updCar k fun c => { c with
      late := if c.lateClk = some clk then c.late else (c.late + 1) % 2 ^ 32
      lateClk := some clk
      lateOld := if before && c.lateAt ≠ some clk then [] else c.lateOld
      latePend := if before && c.lateAt ≠ some clk then c.pend else c.latePend
      lateReq := if before && c.lateAt ≠ some clk then false else c.lateReq
      lateDiscard := if before && c.lateAt ≠ some clk then false else c.lateDiscard
      lateAt := if before then some clk else c.lateAt }
  else s

/-- A staged value on carrier Kk is about to change: its old value is kept when the write is late (R66). -/
def State.keepOld (s : State) (k : Nat) (r : Reg) (flag : Bool) : State :=
  let old := s.rd r
  if (s.car k).lateAt = some s.pwmClk then
    s.updCar k fun c => if c.lateOld.any fun o => o.1 = r.key then c
      else { c with lateOld := (r.key, old, flag) :: c.lateOld }
  else s

/-- A staging write of a period (R58, R62). -/
def State.stagePeriod (s : State) (k v : Nat) : State :=
  let s := (s.noteLate k).keepOld k (Od.CAR_PERIOD k) (s.car k).wrPeriod
  let s := s.wr (Od.CAR_PERIOD k) v
  if s.autoMode k then s.updCar k fun c => { c with wrPeriod := true } else s

/-- A staging write of a duty. -/
def State.stageDuty (s : State) (l v : Nat) : State :=
  let k := s.carOf l
  let s := (s.noteLate k).keepOld k (Od.LEG_DUTY l) (s.leg l).wrDuty
  let s := s.wr (Od.LEG_DUTY l) v
  if s.autoMode k then s.updLeg l fun g => { g with wrDuty := true } else s

/-- A staging write of a phase. -/
def State.stagePhase (s : State) (l v : Nat) : State :=
  let k := s.carOf l
  let s := (s.noteLate k).keepOld k (Od.LEG_PHASE l) (s.leg l).wrPhase
  let s := s.wr (Od.LEG_PHASE l) v
  if s.autoMode k then s.updLeg l fun g => { g with wrPhase := true } else s

/-- A commit request (R61); without effect in auto mode (R62). -/
def State.requestCommit (s : State) (k : Nat) : State :=
  if s.autoMode k then s
  else
    let s := s.noteLate k
    s.updCar k fun c => { c with pend := true, lateReq := c.lateReq || c.lateAt = some s.pwmClk }

/-! ### The commit (R61, R62, R68) -/

/-- Writes of this very clock are held back from the commit of Kk. -/
def State.heldBack (s : State) (k : Nat) : Bool := (s.car k).lateAt = some s.pwmClk

/-- The staged value a commit of Kk takes, and its written flag (R66). -/
def State.commitVal (s : State) (k : Nat) (r : Reg) (flag : Bool) : Nat × Bool :=
  if s.heldBack k then
    match (s.car k).lateOld.find? fun o => o.1 = r.key with
    | some o => (o.2.1, o.2.2)
    | none => (s.rd r, flag)
  else (s.rd r, flag)

/-- The request a commit point of Kk finds pending. -/
def State.commitPend (s : State) (k : Nat) : Bool :=
  if s.heldBack k then (s.car k).latePend else (s.car k).pend

/-- A value of the carrier or its legs waits for the next commit point in auto mode. -/
def State.autoPend (s : State) (k : Nat) : Bool :=
  (s.commitVal k (Od.CAR_PERIOD k) (s.car k).wrPeriod).2 ||
    (s.legsOn k).any fun l => (s.commitVal k (Od.LEG_DUTY l) (s.leg l).wrDuty).2 ||
      (s.commitVal k (Od.LEG_PHASE l) (s.leg l).wrPhase).2

/-- A commit takes place at a commit point of Kk (R68). -/
def State.commits (s : State) (k : Nat) : Bool := if s.autoMode k then s.autoPend k else s.commitPend k

/-- CAR_COMMIT_PEND (R84). -/
def State.commitPending (s : State) (k : Nat) : Bool :=
  if s.autoMode k then (s.car k).wrPeriod || (s.legsOn k).any fun l => (s.leg l).wrDuty || (s.leg l).wrPhase
  else (s.car k).pend

/-- An own peak or valley can fall in this clock: the last one was in this very clock, or lies at least P clocks back
(R55). -/
def State.ownDue (s : State) (k : Nat) (last : Option Nat) : Bool :=
  last.all fun t => decide (t / s.tclk = s.pwmClk) || decide (t / s.tclk + (s.car k).p ≤ s.pwmClk)

/-- A leg with APPLY_LOCAL reaches its own reload point in the commit clock itself (R55, R70), the carrier at position n. -/
def State.ownNow (s : State) (k l n : Nat) : Bool :=
  let nL := legPos n (s.leg l).phiNow (s.car k).p
  (s.peakCommits k && nL = (s.car k).p && s.ownDue k (s.leg l).lastPeak) ||
    (s.valleyCommits k && nL = 0 && s.ownDue k (s.leg l).lastValley)

/-- What a commit on new period p does to one leg: its last committed values, the apply or the pending register, the
clamp of R68. `quiet` is the case of R68 that raises no fault. -/
def Leg.commit (g : Leg) (duty phase p : Nat) (now dith auto quiet : Bool) : Leg :=
  let g := { g with dutyCom := duty, phaseCom := phase }
  let g := if now then g.take duty phase p dith
    else { g.take g.dutyApp g.phaseApp p dith with pending := true, parityOff := g.parityOff }
  let clamp := decide (duty > 16 * p)
  { g with
    clamped := clamp
    clampCount := if clamp then (g.clampCount + 1) % 2 ^ 32 else g.clampCount
    mixed := g.mixed || (clamp && auto && !quiet)
    clampSeen := g.clampSeen || (clamp && !auto && !quiet) }

/-- The carrier belongs to a glide whose period shortens, and the clamp takes off no more than the shortening (R68). -/
def State.glideQuiet (s : State) (k l newP : Nat) : Bool :=
  let c := s.car k
  let duty := (s.commitVal k (Od.LEG_DUTY l) true).1
  s.strings.any (fun t => t.glides.any fun g => 2 * g.slot = k) && decide (newP < c.p) &&
    decide (duty ≤ 16 * newP + 16 * (c.p - newP))

/-- A commit of Kk at position n (0 or the period): staged values become active together (R61, R62), the clamp is judged
(R68), the request clears. `start` is the start clock, in which every leg applies (R52). -/
def State.commit (s : State) (k n : Nat) (start : Bool) : State :=
  let auto := s.autoMode k && !start
  let c := s.car k
  let per := s.commitVal k (Od.CAR_PERIOD k) c.wrPeriod
  let p := if auto && !per.2 then c.pCom else per.1
  let legs := s.legs.mapIdx fun l g =>
    if s.carOf l = k then
      let d := s.commitVal k (Od.LEG_DUTY l) g.wrDuty
      let f := s.commitVal k (Od.LEG_PHASE l) g.wrPhase
      g.commit (if auto && !d.2 then g.dutyCom else d.1) (if auto && !f.2 then g.phaseCom else f.1) p
        (start || !s.applyLocal l || s.ownNow k l n) (s.dithers l) (s.autoMode k) (s.glideQuiet k l p)
    else g
  let faults := (s.legsOn k).filter fun l => (legs.getD l {}).clamped && !s.glideQuiet k l p
  let late := s.heldBack k
  let legs := legs.mapIdx fun l g =>
    if s.carOf l = k then { g with
      wrDuty := late && g.wrDuty && c.lateOld.any fun o => o.1 = (Od.LEG_DUTY l).key
      wrPhase := late && g.wrPhase && c.lateOld.any fun o => o.1 = (Od.LEG_PHASE l).key }
    else g
  let s : State := { s with legs := legs }
  let s := s.updCar k fun c => { c with
    p := p, pCom := p, parityOff := false
    commits := (c.commits + 1) % 2 ^ 32
    pend := late && c.lateReq
    wrPeriod := late && c.wrPeriod && c.lateOld.any fun o => o.1 = (Od.CAR_PERIOD k).key }
  s.each faults fun s l => s.raise (if s.autoMode k then Flt.PWM_MIXED else Flt.PWM_CLAMP) l

/-- The last committed values of Kk and its legs copied back into staging; a pending request clears (R64). -/
def State.discardStaged (s : State) (k : Nat) : State :=
  let s := (s.wr (Od.CAR_PERIOD k) (s.car k).pCom).updCar k fun c => { c with pend := false, wrPeriod := false }
  s.each (s.legsOn k) fun s l =>
    ((s.wr (Od.LEG_DUTY l) (s.leg l).dutyCom).wr (Od.LEG_PHASE l) (s.leg l).phaseCom).updLeg l
      fun g => { g with wrDuty := false, wrPhase := false }

/-- The late writes of the clock are over; a discard among them copies now (R64, R66). -/
def State.endLate (s : State) (k : Nat) : State :=
  let c := s.car k
  let s := if s.heldBack k && c.lateDiscard then s.discardStaged k else s
  s.updCar k fun c => { c with lateAt := none, lateOld := [], lateReq := false, lateDiscard := false }

/-! ### Forces (R73 to R75) -/

/-- The force of a LEG_FORCE value (R73). -/
def forceOf (v : Nat) : Force :=
  match v % 8 with
  | 1 => .off
  | 2 => .upper
  | 3 => .lower
  | 4 => .raw (v.testBit 4) (v.testBit 5)
  | _ => .none

/-- A waiting synchronous force of Ll takes effect, unless it was written in this clock (R74). -/
def State.takeForce (s : State) (l : Nat) : State :=
  s.updLeg l fun g => match g.wait with
    | some f => if g.waitClk = s.pwmClk then g else { g with force := f, wait := .none }
    | none => g

/-- A synchronous force write that completes in the clock of the leg's reload point is late (R66, R74). -/
def State.lateForce (s : State) (l : Nat) : State :=
  let k := s.carOf l
  if s.applyLocal l then
    let clk := s.pwmClk
    if (s.car k).counts && s.ownNow k l (s.posN k s.now) then
      s.updCar k fun c => { c with late := if c.lateClk = some clk then c.late else (c.late + 1) % 2 ^ 32, lateClk := some clk }
    else s
  else s.noteLate k

/-- The force entries of Ll that have not taken effect are dropped: a later one supersedes them (R74). -/
def State.dropForces (s : State) (l : Nat) : State :=
  { s.updLeg l (fun g => { g with wait := .none }) with
    soon := s.soon.filter fun x => match x.2 with
      | .force m _ => decide (m ≠ l)
      | _ => true }

/-- Something takes effect in the clock after the present one. -/
def State.inNext (s : State) (x : Soon) : State :=
  { s with soon := s.soon ++ [((s.pwmClk + 1) * s.tclk, x)] }

/-- A force entry on Ll: in effect in the next clock, or waiting for the reload point (R74). A leg that is not enabled,
or whose carrier does not run, has no reload point to come: the entry is then kept waiting. -/
def State.forceLeg (s : State) (l : Nat) (f : Force) (nowBit : Bool) : State :=
  if nowBit then (s.dropForces l).inNext (.force l f)
  else ((s.lateForce l).dropForces l).updLeg l fun g => { g with wait := some f, waitClk := s.pwmClk }

/-- A force takes effect on Ll in this clock. -/
def State.forceNow (s : State) (l : Nat) (f : Force) : State :=
  ((s.dropForces l).updLeg l fun g => { g with force := f }).settleBarred l

/-! ### Peak-limit cuts (R77 to R79) -/

/-- The cuts start on Ll for which a line has been asserted (R78): HI, and LO with PKL_LO. A line asserted again while its
cut runs neither extends it nor counts. -/
def State.startCuts (s : State) (l : Nat) (hi lo : Bool) : State :=
  let g := s.leg l
  let nh := g.enabled && hi && !g.cutHi
  let nl := g.enabled && lo && s.pklLo l && !g.cutLo
  if nh || nl then
    (s.updLeg l fun g => { g with
      cutHi := g.cutHi || nh, cutLo := g.cutLo || nl
      pklCount := (g.pklCount + b2n nh + b2n nl) % 2 ^ 32 }).settleLeg l
  else s

/-! ### The clocks to come -/

/-- What waited for its clock takes effect. -/
def State.doSoon (s : State) (x : Soon) : State :=
  match x with
  | .force l f => s.forceNow l f
  | .cut l hi lo => s.startCuts l hi lo

/-- The local time goes to t, and what was to take effect in a clock up to then has done so in it. -/
def State.upTo (s : State) (t : Nat) : State :=
  let due := s.soon.filter fun x => x.1 ≤ t
  let s : State := { s with soon := s.soon.filter fun x => !decide (x.1 ≤ t) }
  (due.foldl (fun s x => (s.at_ x.1).doSoon x.2) s).at_ t

/-! ### Enabling and disabling (R65) -/

/-- Ll enabled: at a commit point, with the values active there. A latched leg stays disabled (R104). -/
def State.enableLeg (s : State) (l : Nat) : State :=
  if (s.gg l).latched then s else
  let s := (s.updLeg l fun g => { g with enabled := true, highAll := decide (g.lastPeak = some s.now), highRun := 0 }).startSupply l
  (s.compareLeg l).settleLeg l

/-- Ll disabled: command OFF, force NONE, cuts and supply wait ended; active values are kept. -/
def State.disableLeg (s : State) (l : Nat) : State :=
  let s := (s.wr (Od.LEG_FORCE l) 0).dropForces l
  let s := s.updGg l fun g => { g with pumpWait := none }
  (s.updLeg l fun g => { g with enabled := false, force := .none, cutHi := false, cutLo := false, boot := none }).settleLeg l

/-- Ll latched: gates low, disabled (R104). -/
def State.latchLeg (s : State) (l : Nat) : State :=
  (((s.lowerLeg l).updGg l fun g => { g.drop s.now with latched := true }).disableLeg l).lowerLeg l

end Sys2Proof.Machine
end

