-- ==== Sys2Proof/Machine/SlotOps.lean ====
section
/-! DEFINITION. Sequences, the string table and what ties them (02, 04, 08): the ordered safe-off, the STOP, the string
trip, the loss of a member with its spare or re-spread, the glide, and how a pending slot command acts. -/

namespace Sys2Proof.Machine

/-! ### Records sent in TC1 -/

/-- Kinds of the TC1 string record, in its first byte; 08 gives the contents and no byte layout (log entry 30). -/
def recSafeOff : Nat := 1
def recTrip : Nat := 2
def recCommand : Nat := 3
def recStop : Nat := 4
def recBlock : Nat := 5
def recRelease : Nat := 6

/-- A TC1 string record: kind, STR_ID, slot, flags or command, and a system time. -/
def strPayload (kind strId slot flag T : Nat) : List Byte :=
  leBytes 1 kind ++ leBytes 2 strId ++ leBytes 1 slot ++ leBytes 1 flag ++ leBytes 14 (timeCode T)

/-- A TC1 string record goes out, where the string has an identity and a ring carries it. -/
def State.sendString (s : State) (i kind slot flag T : Nat) : State :=
  s.send 3 0 2 0 (strPayload kind (s.rd (Od.STR_ID i)) slot flag T)

/-! ### Drives of the LV port -/

/-- LV port entry E, and entry E changed. -/
def State.lvE (s : State) (e : Nat) : LvEntry := s.lv.entries.getD e {}
def State.updLv (s : State) (e : Nat) (f : LvEntry → LvEntry) : State :=
  { s with lv := { s.lv with entries := s.lv.entries.modify e f } }

/-- The drive entry a unit serves (R238). -/
def State.driveOf (s : State) (c u : Nat) : Option Nat :=
  let e := s.rd (Od.UNIT_LV c u)
  if e < 64 && s.rd (Od.LVP_KIND e) = 1 then some e else none

/-- The unit of a drive leaves operation: FAULTED when a safe-off sequence starts on it, STOPPED when its stop ends
(R251, R255). -/
def State.drvLeft (s : State) (c u : Nat) (fault : Bool) : State :=
  match s.driveOf c u with
  | none => s
  | some e => s.updLv e fun x =>
    if fault then { x with drv := .faulted, listen := none }
    else { x with drv := if x.drv = .faulted then .faulted else .stopped, listen := none }

/-- A START that was still pending is over (R40, R255): the drive is STOPPED, and the forces OFF that its acceptance placed
return to NONE (R75). -/
def State.drvUndo (s : State) (c u : Nat) : State :=
  match s.driveOf c u with
  | none => s
  | some e =>
    if (s.lvE e).drv = .starting && s.ust c u = .stopped then
      let s := s.updLv e fun x => { x with drv := .stopped, listen := none }
      s.each (s.unitLegIds c u) fun s l => ((s.wr (Od.LEG_FORCE l) 0).dropForces l).updLeg l fun g => { g with force := .none }
    else s

/-! ### Pending slot commands -/

/-- The pending command of Cc is discarded when it names one of the units (R40). -/
def State.discardCmd (s : State) (c : Nat) (us : List Nat) : State :=
  match (s.slot c).cmd with
  | none => s
  | some m =>
    if us.any fun u => m.mask = 0 || m.mask.testBit u then
      let s := s.updSlot c fun t => { t with cmd := none, cmdSt := .refused }
      if m.op = .start then s.each (s.named c m.mask) fun s u => s.drvUndo c u else s
    else s

/-- Whatever is pending on Cc is discarded. -/
def State.discardAll (s : State) (c : Nat) : State := s.discardCmd c (List.range 6)

/-- A pending START that names unit u of Cc is discarded. -/
def State.discardStart (s : State) (c u : Nat) : State :=
  if (s.slot c).cmd.any fun m => m.op = .start then s.discardCmd c [u] else s

/-! ### Sequences (R31, R33) -/

/-- Spacing of the steps in ps. -/
def State.soSpacing (s : State) (c : Nat) : Nat := ns (s.rd (Od.SLOT_SO_STEP c))

/-- The steps a sequence has still to do, the next first: local legs. -/
def State.seqSteps (s : State) (c u : Nat) (q : Seq) : List (List Nat) :=
  match q.kind with
  | .safeOff => (soSteps (s.tmpl c) u).drop (q.next - 1)
  | .stop => (stopSteps (s.tmpl c) u).drop q.next

/-- Local time of a sequence's next step: step i of a safe-off at t0 + i × spacing, of a STOP counted from 0. -/
def State.stepAt (s : State) (c : Nat) (q : Seq) : Nat := q.t0 + q.next * s.soSpacing c

/-- The entry of Ll's position in the string, by slot. -/
def State.posOf (s : State) (c : Nat) : Nat := s.rd (Od.SLOT_STRING_POS c)

/-- Fast value of M(3c). -/
def State.fastOf (s : State) (c : Nat) : Int := (s.mdats.getD (3 * c) {}).fast

/-- The link voltage of Cc (08, Pre-charge). -/
def State.link (s : State) (c : Nat) : Nat :=
  linkV (s.rd (Od.MD_GAIN (3 * c))) (s.rd (Od.MD_OFFSET (3 * c))) (s.fastOf c)

/-- The cell of Cc enters BYPASSED: its bit is set, and its link is looked at again after STR_BYP_TIME (R227, R237). -/
def State.enterBypass (s : State) (c i : Nat) : State :=
  (s.updUnit c 0 fun x => { x with st := .bypassed }).updStr i fun t => { t with
    bypReq := t.bypReq ||| 2 ^ s.posOf c
    bypChecks := t.bypChecks ++ [⟨c, s.link c, s.now + ms (s.rd (Od.STR_BYP_TIME i))⟩] }

/-- A lost active cell goes from FAULTED to BYPASSED once its sequence has ended (R227). -/
def State.autoBypass (s : State) (c : Nat) : State :=
  match s.strOf c with
  | none => s
  | some i =>
    let t := s.str i
    if (t.st = .running || t.st = .blocked) && (s.rd (Od.STR_CTRL i)).testBit 1 && t.tbl.lost.contains (s.posOf c)
      && s.ust c 0 = .faulted then s.enterBypass c i
    else s

/-- The last step of a sequence has fallen: FAULTED with its reason, or STOPPED (R31, R33). -/
def State.endSeq (s : State) (c u : Nat) (q : Seq) : State :=
  match q.kind with
  | .stop =>
    (s.updUnit c u fun x => { x with seq := none, st := if x.st = .faulted || x.st = .bypassed then x.st else .stopped }).drvLeft
      c u false
  | .safeOff =>
    let s := (s.updUnit c u fun x => { x with seq := none, st := .faulted }).updSlot c fun t => { t with reason := q.reason }
    s.autoBypass c

/-- The next step of the sequence of unit u acts, and the sequence ends with its last one. -/
def State.seqStep (s : State) (c u : Nat) : State :=
  match ((s.slot c).unit u).seq with
  | none => s
  | some q =>
    match s.seqSteps c u q with
    | [] => s.endSeq c u q
    | legs :: rest =>
      let s := s.each (legs.map (6 * c + ·)) fun s l =>
        match q.kind with
        | .safeOff => s.latchLeg l
        | .stop => (s.lowerLeg l).disableLeg l
      let q := { q with next := q.next + 1 }
      let s := s.updUnit c u fun x => { x with seq := some q }
      if rest = [] then s.endSeq c u q else s

/-- The next step of the sequence of unit u, in the clock of R31. -/
def State.seqStepDue (s : State) (c u : Nat) : State :=
  match ((s.slot c).unit u).seq with
  | none => s
  | some q => (s.upTo (s.stepAt c q)).seqStep c u

/-- Every step due at t0 itself: all of them with SLOT_SO_STEP = 0, the first of a STOP otherwise. -/
def State.seqStart (s : State) (c u : Nat) : State :=
  if s.soSpacing c = 0 then (((s.seqStep c u).seqStep c u).seqStep c u).seqStep c u
  else match ((s.slot c).unit u).seq with
    | some q => if q.kind = .stop then s.seqStep c u else if soSteps (s.tmpl c) u = [] then s.seqStep c u else s
    | none => s

/-- The stop sequence of R33 starts on a unit with t0 now; a sequence that runs goes on (R32). -/
def State.stopUnitNow (s : State) (c u : Nat) : State :=
  let s := s.updUnit c u fun x => { x with stopAsk := none }
  let x := (s.slot c).unit u
  if x.seq.isSome || !x.st.live then s
  else (s.updUnit c u fun x => { x with seq := some ⟨.stop, s.now, 0, 0⟩ }).seqStart c u

/-- A unit stops under R33: t0 is the first commit point, after the clock `clk` of the command, of any carrier that its legs
select, or now where none of these carriers is RUNNING (R38). -/
def State.stopUnitFrom (s : State) (c u clk : Nat) : State :=
  let x := (s.slot c).unit u
  if x.seq.isSome || !x.st.live || x.stopAsk.isSome then s
  else if (s.unitLegIds c u).all fun l => decide ((s.car (s.carOf l)).st ≠ .running) then s.stopUnitNow c u
  else s.updUnit c u fun x => { x with stopAsk := some clk }

/-- The same, asked for now. -/
def State.stopUnit (s : State) (c u : Nat) : State := s.stopUnitFrom c u s.pwmClk

/-! ### Gliding a carrier (R212, R215) -/

/-- T_C in ns. -/
def State.strTc (s : State) (i : Nat) : Nat := 4 * s.rd (Od.STR_CAR_P i)

/-- O of R212 for x = num / 2, over N active cells, in ns: 4 ns × round, ties up. -/
def offsetOf (tc n num : Nat) : Nat := if n = 0 then 0 else 4 * ((num * tc + 8 * n) / (16 * n))

/-- The next step of a glide is staged with a commit request: P + s, or P once the delay is covered. -/
def State.stageGlide (s : State) (i : Nat) (g : Glide) : State × Glide :=
  let k := 2 * g.slot
  let p := s.rd (Od.STR_CAR_P i)
  let st := min (p / s.rd (Od.STR_GLIDE_DIV i)) (g.left / 2)
  let s := (s.wr (Od.CAR_PERIOD k) (p + st)).updCar k fun c => { c with pend := true }
  (if st = 0 then s else { s with glideSteps := (s.glideSteps + 1) % 2 ^ 32 }, { g with left := g.left - 2 * st, step := st })

/-- A member on this device glides to a new offset from now on; a glide that runs is retargeted (R215, R228). -/
def State.glideTo (s : State) (i c target : Nat) : State :=
  let t := s.str i
  let tc := s.strTc i
  let cur := ((t.offsets.find? fun o => o.1 = c).map (·.2)).getD 0
  let run := t.glides.find? fun g => g.slot = c
  -- a step already staged will still delay the valleys by 4 ns a clock of it
  let cur' := cur + 4 * ((run.map (·.step)).getD 0)
  let left := ((target + tc - cur' % tc) % tc) / 2
  match run with
  | some _ => s.updStr i fun t => { t with glides := t.glides.map fun g => if g.slot = c then { g with target := target, left := left } else g }
  | none =>
    let k := s.car (2 * c)
    if left = 0 then s
    else if k.counts && k.refN = 0 && decide (s.peakAt (2 * c) < s.now + us 1) then
      -- within 1 µs of a peak: the glide starts at the following one
      s.updStr i fun t => { t with glides := t.glides ++ [⟨c, target, left, 0⟩] }
    else
      let (s, g) := s.stageGlide i ⟨c, target, left, 0⟩
      s.updStr i fun t => { t with glides := t.glides ++ [g] }

/-- At a peak of the member's CHB carrier the staged step is in force: the offset moves, and the next step is staged, or
the glide ends (R215). -/
def State.glideStep (s : State) (i c : Nat) : State :=
  match (s.str i).glides.find? fun g => g.slot = c with
  | none => s
  | some g =>
    let tc := s.strTc i
    let s := s.updStr i fun t => { t with offsets := t.offsets.map fun o => if o.1 = c then (c, (o.2 + 4 * g.step) % tc) else o }
    if g.step = 0 && g.left = 0 then s.updStr i fun t => { t with glides := t.glides.filter fun g => g.slot ≠ c }
    else
      let (s, g') := s.stageGlide i g
      s.updStr i fun t => { t with glides := t.glides.map fun x => if x.slot = c then g' else x }

/-! ### Strings: force on the CHB legs, stop, trip -/

/-- This device holds a member: its node ID is the own one; before a roll call the device is a system of one (R22). -/
def State.isOwn (s : State) (node : Nat) : Bool := node = s.ring.nodeId

/-- The home device of a string is the one that holds the lowest position (R209). -/
def State.isHome (s : State) (i : Nat) : Bool :=
  match (s.str i).members with
  | [] => false
  | m :: ms => s.isOwn (ms.foldl (fun a b => if b.pos < a.pos then b else a) m).node

/-- A synchronous force of the string on the CHB legs of Cc (R219, R231). -/
def State.chbForce (s : State) (c v : Nat) : State :=
  s.each [6 * c, 6 * c + 1] fun s l =>
    if (s.leg l).enabled || v ≤ 1 then (s.wr (Od.LEG_FORCE l) v).forceLeg l (forceOf v) false else s

/-- What a string's state becomes when the string stops: only CLEAR takes it out of TRIPPED (R210). -/
def StrState.halted : StrState → StrState
  | .tripped => .tripped
  | _ => .stopped

/-- Every member slot of a string on this device stops under R33; pending commands are discarded (R40); a glide ends at its
current step (R233); the string reads the state given. Where that is STOPPED, a faulted cell that is not bypassed goes to
STOPPED (R36), with its latches, which only CLEAR releases (R104). -/
def State.stopMembers (s : State) (i : Nat) (st : StrState) : State :=
  let s := s.each (s.membersHere i) fun s c =>
    let s := s.discardAll c
    if s.ust c 0 = .faulted && ((s.slot c).unit 0).seq.isNone then
      if st = .stopped then s.updUnit c 0 fun x => { x with st := .stopped } else s
    else s.stopUnitNow c 0
  s.updStr i fun t => { t with
    st := st, riding := none, readyMain := false, tolSince := none, links := [], cmd := none, bal := [], pcHold := false
    glides := t.glides.map fun g => { g with left := 0 }
    cmdSt := if t.cmd.isSome then .refused else t.cmdSt }

/-- The string stops, with a TC1 record of kind stop for its other member devices (R211, R229, R232). -/
def State.stopString (s : State) (i : Nat) : State :=
  (s.stopMembers i (s.str i).st.halted).sendString i recStop 0 0 s.sysNow

/-- The string trips on this device (R101): every other live slot goes through the order of R30 without a latch, slots
with a sequence of their own go on to FAULTED; pending commands are discarded. `tell` sends the string-trip record. -/
def State.tripString (s : State) (i : Nat) (tell : Bool) : State :=
  let s := s.each (s.membersHere i) fun s c => (s.discardAll c).stopUnitNow c 0
  let s := s.updStr i fun t => { t with
    st := if t.st = .stopped then .stopped else .tripped
    riding := none, readyMain := false, tolSince := none, links := [], cmd := none, bal := [], pcHold := false
    cmdSt := if t.cmd.isSome then .refused else t.cmdSt }
  let s := if tell then s.sendString i recTrip 0 0 s.sysNow else s
  let s := s.dumpTrigger 2 Flt.GG_STRING_TRIP
  { s.raise Flt.GG_STRING_TRIP i with stringTrips := (s.stringTrips + 1) % 2 ^ 32 }

/-- The trip condition of R100: the t0 of more than GG_STRING_TRIP_MAX distinct slots lie within one span of 10 µs;
records of a die shutdown do not count. -/
def tripMet (rs : List SoRecord) (i most : Nat) : Bool :=
  let rs := rs.filter fun r => r.str = i && !r.die
  rs.any fun a =>
    let near := rs.filter fun b => a.t0 ≤ b.t0 && b.t0 ≤ a.t0 + 10000 * 65536
    decide ((near.map fun b => (b.node, b.slot)).eraseDups.length > most)

/-! ### Losing a member (R225 to R229) -/

/-- The new N goes to the string slot of the home device (R229). -/
def State.tellN (s : State) (i : Nat) : State :=
  let ls := s.rd (Od.STR_SLOT i)
  let x := s.rd (Od.STR_NACT_IN i)
  if s.isHome i && ls < 128 && x < 16 then s.hostIn ls x (F32.ofInt (s.str i).tbl.active.length) else s

/-- The slot of this device at a position of the string. -/
def State.slotAt (s : State) (i pos : Nat) : Option Nat := (s.membersHere i).find? fun c => s.posOf c = pos

/-- INSERT for the spare in Cc, issued by the cascade functions (R226). -/
def State.issueInsert (s : State) (c : Nat) : State :=
  (s.discardAll c).updSlot c fun t => { t with cmd := some ⟨.insert, 0, s.pwmClk⟩, cmdSt := .pending }

/-- Position insertion in rising order. -/
def insertPos (l : List (Nat × Nat)) (x : Nat × Nat) : List (Nat × Nat) :=
  match l with
  | [] => [x]
  | a :: l' => if x.1 < a.1 then x :: a :: l' else a :: insertPos l' x

/-- The indices 0, 1, … by position (R212). -/
def reindex (l : List (Nat × Nat)) : List (Nat × Nat) := l.mapIdx fun n a => (a.1, n)

/-- The loss of the cell at a position, in the table alone (R225): a spare leaves its list; an active cell is replaced by the
spare with the lowest position where `auto` allows it, or its index is released for a re-spread. -/
def StrTable.lose (auto : Bool) (t : StrTable) (pos : Nat) : StrTable :=
  if t.spares.contains pos then { t with spares := t.spares.erase pos }
  else
    match t.active.find? fun a => a.1 = pos with
    | none => t
    | some (_, idx) =>
      let rest := t.active.filter fun a => a.1 ≠ pos
      let t := { t with losses := (t.losses + 1) % 256, lost := pos :: t.lost }
      match (if auto then t.spares.head? else none) with
      | some sp => { t with active := insertPos rest (sp, idx), spares := t.spares.erase sp }
      | none => { t with active := reindex rest, respreads := (t.respreads + 1) % 2 ^ 32 }

/-- A loss comes before another: by t0, then node, then slot (R225). -/
def Loss.before (a b : Loss) : Bool :=
  decide (a.t0 < b.t0) || (a.t0 = b.t0 && (decide (a.node < b.node) || (a.node = b.node && decide (a.slot < b.slot))))

/-- The losses in their order with one more; an earlier word of the same position is replaced. -/
def insertLoss (l : List Loss) (x : Loss) : List Loss :=
  let l := l.filter fun y => y.pos ≠ x.pos
  (l.filter fun y => y.before x) ++ x :: l.filter fun y => !y.before x

/-- A member loss is applied to the string table in the order of R225, so that one that comes late is applied as if it had
come in time; what has changed follows: INSERT for a spare of this device, glides to new offsets, the new N. -/
def State.applyLoss (s : State) (i : Nat) (x : Loss) : State :=
  let t := s.str i
  let auto := (s.rd (Od.STR_CTRL i)).testBit 0
  let log := insertLoss t.lossLog x
  let new := (log.map (·.pos)).foldl (StrTable.lose auto) t.base
  let old := t.tbl
  let s := s.updStr i fun t => { t with tbl := new, lossLog := log }
  let n := new.active.length
  let s := if new.respreads = old.respreads then s else s.raise Flt.CAS_NOSPARE i
  let s := s.each new.active fun s a =>
    match s.slotAt i a.1 with
    | none => s
    | some c =>
      let s := if old.active.any fun b => b.1 = a.1 then s else s.issueInsert c
      if old.active.contains a && old.active.length = n then s else s.glideTo i c (offsetOf (s.strTc i) n (2 * a.2))
  if old.active.length = n then s
  else
    let s := s.tellN i
    if n < s.rd (Od.STR_N_MIN i) then (s.raise Flt.CAS_STRING_SHORT i).stopString i else s

/-- The table of the string lacks the loss of a position. -/
def StringSt.lacks (t : StringSt) (pos : Nat) : Bool :=
  t.st ≠ .stopped && (t.tbl.active.any (fun a => a.1 = pos) || t.tbl.spares.contains pos) && !t.tbl.lost.contains pos

/-- A safe-off record is added (R100): the loss is applied, and the trip condition is judged. -/
def State.addRecord (s : State) (r : SoRecord) (pos : Nat) : State :=
  let s : State := { s with records := s.records ++ [r] }
  let trip := tripMet s.records r.str (s.rd Od.GG_STRING_TRIP_MAX)
  let s := if (s.str r.str).st = .stopped then s else s.applyLoss r.str ⟨r.t0, r.node, r.slot, pos⟩
  if trip && (s.str r.str).st ≠ .tripped then s.tripString r.str true else s

/-! ### The ordered safe-off (R30 to R32, R99) -/

/-- The t0 of the last safe-off sequence of unit u of Cc falls in this clock. -/
def State.soNow (s : State) (c u : Nat) : Bool := ((s.slot c).unit u).soAt.any fun t => decide (t / s.tclk = s.pwmClk)

/-- A safe-off sequence starts on unit u of Cc with `trig` in step 0; on a unit whose sequence already runs, or started in
this clock, those legs only go low and latch (R32, R99). `code` is the reason, `die` the die-shutdown flag of R100. -/
def State.safeOff (s : State) (c u : Nat) (trig : List Nat) (code : Nat) (die : Bool) : State :=
  let x := (s.slot c).unit u
  let low (s : State) : State := s.each (trig.map (6 * c + ·)) fun s l => s.latchLeg l
  if (x.seq.any fun q => q.kind = .safeOff) || s.soNow c u then low s
  else
    let s := (s.discardCmd c [u]).updSlot c fun t => { t with soCount := (t.soCount + 1) % 2 ^ 32 }
    let s := s.updUnit c u fun x => { x with seq := some ⟨.safeOff, s.now, 1, code⟩, soAt := some s.now }
    let s := s.drvLeft c u true
    let s := (low s).seqStart c u
    let s := s.dumpTrigger 1 code
    match s.strOf c with
    | none => s
    | some i =>
      let s := s.sendString i recSafeOff c (b2n die) s.sysNow
      -- with SLOT_SO_STEP = 0 the sequence has ended before its loss was known
      (s.addRecord ⟨i, s.ring.nodeId, c, s.sysNow, die⟩ (s.posOf c)).autoBypass c

/-- A decision on a whole unit, as R121 lays down for action 0x01: step 0 is empty for T6 and T4 and holds every leg of
the unit for the other templates. Only live units take it (R293). -/
def State.safeOffUnit (s : State) (c u code : Nat) (die : Bool) : State :=
  if (s.ust c u).live then
    s.safeOff c u (if s.tmpl c = 1 || s.tmpl c = 2 then [] else unitLegs (s.tmpl c) u) code die
  else s

/-- ALL_STOP (R46, R211): every unit stops, each string with a member here stops, pending commands are discarded. -/
def State.allStop (s : State) : State :=
  let s := s.each (List.range 32) fun s c => s.discardAll c
  let s := s.each (List.range 32) fun s i => if s.membersHere i = [] then s else s.stopString i
  s.each s.allUnits fun s cu => s.stopUnit cu.1 cu.2
/-- Every sequence has ended, and no stop waits for its t0. -/
def State.allStopped (s : State) : Bool := s.slots.all fun t => t.units.all fun x => x.seq.isNone && !(x.stopAsk.isSome && x.st.live)

end Sys2Proof.Machine
end

