-- ==== Sys2Proof/Machine/MeasOps.lean ====
section
/-! DEFINITION. The measurement subsystem's operations (05): thresholds and lines of a modulator input, firings, quiet
windows, the choice of a slice, skips, the formation of results and the result queue. -/

namespace Sys2Proof.Machine

/-- Domain D is on. -/
def State.domOn (s : State) (d : Nat) : Bool := s.pwr.doms.getD d .off = .on

/-- The MEAS clocks run on the fallback of a relock (R142). -/
def State.measFallback (s : State) : Bool := s.clk.src ≠ .pll || s.clk.relock.isSome

/-! ### Modulator inputs -/

/-- ENABLE of MD_CTRL. -/
def State.mdOn (s : State) (m : Nat) : Bool := (s.rd (Od.MD_CTRL m)).testBit 0 && s.domOn domMeas

/-! ### The two filters (R118) -/

/-- Sums of every `n` consecutive values. -/
def boxcar (n : Nat) (l : List Int) : List Int :=
  (List.range (l.length + 1 - n)).map fun i => ((l.drop i).take n).foldl (· + ·) 0

/-- The output of a sinc filter of order K and OSR N at the last of the bits given, times N^K: K moving sums over N. A
filter that has not filled since its restart holds nothing of the bits before it (log entry 113). -/
def sinc (K N : Nat) (stream : List Bool) : Int :=
  let w := K * (N - 1) + 1
  let l : List Int := stream.map fun b => if b then 1 else -1
  let l := List.replicate (w - l.length) 0 ++ l.drop (l.length - w)
  (iter (boxcar N) K l).headD 0

/-- `a / b` to the nearest integer, halves away from zero. -/
def roundAway (a : Int) (b : Nat) : Int := (2 * a + (if a < 0 then -(b : Int) else b)).tdiv (2 * b)

/-- v of the fast path: 32,768 x, limited to 16 bits. -/
def fastValue (N : Nat) (stream : List Bool) : Int :=
  max (-32768) (min 32767 (roundAway (32768 * sinc 3 N stream) (N ^ 3)))

/-- x of the control path with 24 significant bits, in units of 2^-23 (log entry 113). -/
def ctrlValue (K N : Nat) (stream : List Bool) : Int :=
  max (-8388608) (min 8388607 (roundAway (8388608 * sinc K N stream) (N ^ K)))


/-- Order of the control-path filter (R118). -/
def State.mdOrder (s : State) (m : Nat) : Nat := if (s.rd (Od.MD_CTRL m)).testBit 2 then 5 else 3

/-- Fill times of the fast and of the control filter (R118). -/
def State.mdFillFast (s : State) (m : Nat) : Nat := 3 * s.rd (Od.MD_FAST_OSR m) * s.tmclk
def State.mdFillCtrl (s : State) (m : Nat) : Nat := s.mdOrder m * s.rd (Od.MD_CTRL_OSR m) * s.tmclk

/-- A threshold as this MCLK clock uses it: a write that completes in the clock leaves it at its old value (R123). -/
def State.mdThr (s : State) (m : Nat) (r : Reg) (signed : Bool) : Int :=
  let v : Int := if signed then toSigned 16 (s.rd r) else s.rd r
  match (s.md m).old.find? fun o => o.1 = r.key % 256 && o.2.2 = s.mclk with
  | some o => o.2.1
  | none => v

/-- A threshold, hysteresis or deglitch is written: its old value stays in use in this MCLK clock (R123). -/
def State.keepThr (s : State) (m : Nat) (r : Reg) (signed : Bool) : State :=
  let v := s.mdThr m r signed
  s.updMd m fun x => { x with old := (r.key % 256, v, s.mclk) :: x.old.filter fun o => o.2.2 = s.mclk && o.1 ≠ r.key % 256 }

/-- HI and LO as they reach the leg timing unit: of an enabled input, or of one disabled in this MCLK clock (R120, R123). -/
def State.mdHi (s : State) (m : Nat) : Bool := (s.md m).hi && (s.mdOn m || (s.md m).offAt = some s.mclk)
def State.mdLo (s : State) (m : Nat) : Bool := (s.md m).lo && (s.mdOn m || (s.md m).offAt = some s.mclk)

/-- The lines after a comparison with the value v (R120). -/
def State.compareMd (s : State) (m : Nat) (v : Int) : State :=
  if s.mdOn m then
    let hi := s.mdThr m (Od.MD_PKL_HI m) true
    let lo := s.mdThr m (Od.MD_PKL_LO m) true
    let hy := s.mdThr m (Od.MD_PKL_HYST m) false
    s.updMd m fun x => { x with
      v := v
      hi := if x.hi then decide (v ≥ hi - hy) else decide (v ≥ hi)
      lo := if x.lo then decide (v ≤ lo + hy) else decide (v ≤ lo) }
  else s

/-- v lies beyond a trip threshold (R121). -/
def State.mdBeyond (s : State) (m : Nat) (v : Int) : Bool :=
  decide (v ≥ s.mdThr m (Od.MD_TRIP_HI m) true) || decide (v ≤ s.mdThr m (Od.MD_TRIP_LO m) true)

/-- Both filters of an input restart (R123); a firing in progress keeps what it is. -/
def State.mdRestart (s : State) (m : Nat) : State :=
  s.updMd m fun x => { x with fillFrom := s.now, fillFast := true, fillCtrl := true }

/-- The DC bus entries whose LVB_VIN names M. -/
def State.busesOn (s : State) (m : Nat) : List Nat :=
  (List.range 64).filter fun e => s.rd (Od.LVP_KIND e) = 2 && s.rd (Od.LVB_VIN e) = m

/-- The trip of input M ends, and with it the fast overvoltage line of its buses (R121, R123). -/
def State.endTrip (s : State) (m : Nat) : State :=
  let s := s.updMd m fun x => { x with trip := false }
  s.each (s.busesOn m) fun s b => s.updLv b fun x => { x with ov3 := false }

/-- The input is disabled by a write: its lines release in the next MCLK clock, its trip ends, no run goes on, and
firings whose span has not ended become INVALID (R119, R123). -/
def State.mdDisable (s : State) (m : Nat) : State :=
  let s := (s.updMd m fun x => { x with offAt := some s.mclk, runOn := false }).endTrip m
  { s with meas := { s.meas with mdFir := s.meas.mdFir.map fun f => if f.f.chan = m then { f with ok := false } else f } }

/-- v of the fast path of M after the bits given. -/
def State.mdFast (s : State) (m : Nat) (stream : List Bool) : Int := fastValue (s.rd (Od.MD_FAST_OSR m)) stream

/-- MD_FAST_VALUE after the bits captured up to now: the value of the last clock that is a multiple of N_f after the
filter's restart (R118; log entry 113). -/
def State.mdPublish (s : State) (m : Nat) (stream : List Bool) : State :=
  let n := s.rd (Od.MD_FAST_OSR m)
  let since := s.mclk - (s.md m).fillFrom / s.tmclk
  s.updMd m fun x => { x with fast := fastValue n (stream.take (stream.length - since % n)) }

/-- VDDA_ADC is in range (R496). -/
def State.adcOn (s : State) : Bool := s.pwr.supply.testBit 8

/-- Results of the input are INVALID by its own bits (R116, R117), and these or a relock (R142). -/
def State.mdFault (s : State) (m : Nat) : Bool := (s.md m).clkBad || (s.md m).runBad
def State.mdBad (s : State) (m : Nat) : Bool := s.mdFault m || (s.md m).relBad

/-! ### Results -/

/-- gain × x + offset (R137). DESIGN CHOICE: product and sum are rounded to binary32 each (log entry 171). -/
def scaled (gain offset x : Nat) : Nat := F32.add (F32.mul gain x) offset

/-- Slope and zero of a channel. DESIGN CHOICE: a die channel has no entries for them and takes 1.0 and 0.0 (log entry
173). -/
def State.chanGain (s : State) (ch : Nat) : Nat × Nat :=
  if ch < 0x60 then (s.rd (Od.MD_GAIN ch), s.rd (Od.MD_OFFSET ch))
  else if ch < 0x70 then (s.rd (Od.SAR_GAIN (ch - 0x60)), s.rd (Od.SAR_OFFSET (ch - 0x60)))
  else (0x3F800000, 0)

/-- The quiet NaN of an INVALID entry (R137). -/
def qNaN : Nat := 0x7FC00000

/-- An entry is on its way into the queue. -/
def State.launch (s : State) (due : Nat) (e : QEntry) : State :=
  { s with meas := { s.meas with flight := s.meas.flight ++ [(due, e)] } }

/-- A converted result takes its place in the entry's history: the values of UNSETTLED, OVERRANGE and DISTURBED results
count as VALID (R135), and a run of skips ends (R136). -/
def State.noteConverted (s : State) (te v : Nat) : State :=
  s.updTrg te fun t => { t with last := some v, v2 := t.v1, v1 := some v, skips := 0, run := false }

/-- An INVALID entry of a firing. RAW is not stated for it: a free value. -/
def State.launchInvalid (s : State) (te : Nat) (f : Firing) (due tag : Nat) : State :=
  let s := s.updTrg te fun t => { t with v2 := t.v1, v1 := none }
  let (raw, s) := s.draw
  s.launch due ⟨qNaN, raw % 2 ^ 16, f.chan, 0xE, 4, s.sysAt tag, te, f.seq, 0, f.dst⟩

/-- A skipped firing (R135, R136): a PREDICTED entry, or an INVALID one. `due` is the time its result would have
entered. -/
def State.skip (s : State) (te : Nat) (f : Firing) (due : Nat) : State :=
  let t := s.trg te
  let ovr := decide (t.skips ≥ f.skipMax)
  let s := s.updTrg te fun t => { t with skipped := (t.skipped + 1) % 2 ^ 32, skips := t.skips + 1 }
  let s := if ovr && !t.run then (s.updTrg te fun t => { t with run := true }).raise Flt.MEAS_SKIP_RUN te else s
  let tag := f.ts + ns 50 * (f.avg - 1)
  match t.last, ovr with
  | some v, false =>
    let val := match f.predict, t.v1, t.v2 with
      | 1, some a, some b => F32.sub (F32.mul 0x40000000 a) b
      | _, _, _ => v
    let s := s.updTrg te fun t => { t with v2 := t.v1, v1 := none }
    let (raw, s) := s.draw
    s.launch due ⟨val, raw % 2 ^ 16, f.chan, 0xE, 1, s.sysAt tag, te, f.seq, 0, f.dst⟩
  | _, _ => s.launchInvalid te f due tag

/-! ### Firing (R130, R131) -/

/-- A firing of entry TE on an event at local time t. -/
def State.fireTrg (s : State) (te t : Nat) : State :=
  let g := s.trg te
  let late := match g.pend with
    | some f => decide (t < f.ts)
    | none => false
  let s := s.updTrg te fun g => { g with seq := (g.seq + 1) % 256, fired := (g.fired + 1) % 2 ^ 32 }
  if late then (s.updTrg te fun g => { g with overruns := (g.overruns + 1) % 2 ^ 32 }).raise Flt.MEAS_TRG_OVERRUN te
  else
    let f : Firing := {
      seq := g.seq, ts := t + ns (s.rd (Od.TRG_DELAY te)), chan := s.rd (Od.TRG_CHAN te), dst := s.rd (Od.TRG_DST te)
      slice := s.rd (Od.TRG_SLICE te), avg := s.rd (Od.TRG_AVG te), quiet := s.rd (Od.TRG_QUIET te)
      qpre := s.rd (Od.TRG_QPRE te), qpost := s.rd (Od.TRG_QPOST te), predict := s.rd (Od.TRG_PREDICT te)
      skipMax := s.rd (Od.TRG_SKIP_MAX te) }
    s.updTrg te fun g => { g with pend := some f }

/-- The entry selects this carrier event, whose number since the start is one of `iv`, `ip` by kind and of both
together (R130). -/
def eventHits (src k : Nat) (peak : Bool) (iOne iBoth div ph : Nat) : Bool :=
  let ev := bits src 9 8
  bits src 1 0 = 1 && bits src 7 2 = k && (if peak then ev.testBit 1 else ev.testBit 0) &&
    (if ev = 3 then iBoth else iOne) % div = ph

/-- The trigger entries that fire on an event of carrier Kk. The trigger unit is in MEAS (R23, R24). -/
def State.carrierTriggers (s : State) (k : Nat) (peak : Bool) : State :=
  let c := s.car k
  let one := if peak then c.evP else c.evV
  if s.domOn domMeas then
    s.each ((List.range 128).filter fun te => eventHits (s.rd (Od.TRG_SRC te)) k peak one (c.evV + c.evP)
      (s.rd (Od.TRG_DIV te)) (s.rd (Od.TRG_DIV_PH te))) fun s te => s.fireTrg te s.now
  else s

/-- The trigger entries that fire on a ring of bell b at local time t. -/
def State.bellTriggers (s : State) (b t : Nat) : State :=
  if s.domOn domMeas then
    s.each ((List.range 128).filter fun te => bits (s.rd (Od.TRG_SRC te)) 1 0 = 2 && bits (s.rd (Od.TRG_SRC te)) 15 10 = b)
      fun s te => s.fireTrg te t
  else s

/-! ### Quiet windows (R133, R134) -/

/-- The legs of quiet group QG. -/
def State.groupLegs (s : State) (g : Nat) : List Nat := (List.range 192).filter fun l => (s.rd (Od.QG_LEGS g)).testBit l

/-- The command of a leg whose compare stands as given for position n of its carrier. -/
def Leg.cmdAt (g : Leg) (c : Carrier) (n : Nat) : Cmd :=
  { g with cmp := cmpHigh (legPos n g.phiNow c.p) g.cNow c.p }.command c.parityOff

/-- Clocks from carrier position n to the leg's position x, no fewer than w. -/
def Leg.clocksTo (g : Leg) (c : Carrier) (n x w : Nat) : Nat := w + (x + 2 * c.p - legPos (n + w) g.phiNow c.p) % (2 * c.p)

/-- The command of a leg changes within `room` clocks from carrier position n on, with the active values, the force and the
cuts as they stand (R133): looked at pulse by pulse, `fuel` of them. `cmd` is the command up to now; the own peak comes no
earlier than `wait` clocks from now; there the cuts end and the next choice of R57 is made, for pulse `pulse`. -/
def foresees (c : Carrier) (dith : Bool) : Nat → Leg → Cmd → Nat → Nat → Nat → Nat → Bool
  | 0, _, _, _, _, _, _ => false
  | fuel + 1, g, cmd, n, room, wait, pulse =>
    let peak := g.clocksTo c n c.p wait
    let differs (d : Nat) : Bool := decide (d ≤ room) && decide (d < peak) && g.cmdAt c (n + d) ≠ cmd
    differs 0 || differs (g.clocksTo c n g.cNow 0) || differs (g.clocksTo c n (2 * c.p - g.cNow) 0) ||
      (decide (peak ≤ room) &&
        let h := { (g.choose (pulse % 16) c.p dith) with cutHi := false, cutLo := false }
        let now := h.cmdAt c (n + peak)
        now ≠ cmd || foresees c dith fuel h now (n + peak) (room - peak) c.p (pulse + 1))

/-- The command of Ll will change at a clock in [now, hi] by what stands now. -/
def State.foreseen (s : State) (l hi : Nat) : Bool :=
  let c := s.car (s.carOf l)
  let g := s.leg l
  let clk := s.pwmClk
  let n := s.posN (s.carOf l) s.now
  let wait (last : Option Nat) : Nat := match last with
    | some t => t / s.tclk + c.p - clk
    | none => 0
  -- an own valley before the next own peak makes it the next pulse
  let pulse := g.valleys + b2n (decide (g.clocksTo c n 0 (wait g.lastValley) ≤ g.clocksTo c n c.p (wait g.lastPeak)))
  c.counts && g.enabled &&
    foresees c (s.dithers l) ((hi / s.tclk - clk) / c.p + 2) g g.cmd n (hi / s.tclk - clk) (wait g.lastPeak) pulse

/-- The end of the interval in which a group leg's edge disturbs a firing (R133, R134). -/
def Firing.quietEnd (f : Firing) : Nat := f.ts + ns f.qpost + ns 100 * (f.avg - 1)

/-- An occupied interval of a group leg overlaps the quiet window of a firing (R133). -/
def State.disturbs (s : State) (f : Firing) : Bool :=
  let lo := f.ts - ns f.qpre
  (s.groupLegs (f.quiet % 16)).any fun l =>
    (s.meas.edges.any fun e => e.1 = l && decide (e.2 + ns (s.rd (Od.LEG_DT_MAX l)) ≥ lo)) || s.foreseen l f.quietEnd

/-- A sample converted under a quiet check is watched from its t_s on (R134). -/
def State.watchFor (s : State) (te : Nat) (f : Firing) : State :=
  if f.quiet.testBit 7 then
    { s with meas := { s.meas with watch := s.meas.watch ++ [⟨te, f.seq, s.rd (Od.QG_LEGS (f.quiet % 16)), f.ts, f.quietEnd⟩] } }
  else s

/-- The command of a leg of a watched sample changed within its interval: no edge that R133 foresaw lies there. -/
def State.disturbed (s : State) (w : Watch) : Bool :=
  s.meas.edges.any fun e => w.legs.testBit e.1 && decide (w.lo ≤ e.2) && decide (e.2 ≤ w.hi)

/-- The entry of a watched sample as it enters the queue: DISTURBED before UNSETTLED and VALID (R134, R138). -/
def State.judgeWatch (s : State) (e : QEntry) : QEntry :=
  if (e.st = 0 || e.st = 5) && s.meas.watch.any fun w => w.trig = e.trig && w.seq = e.seq && s.disturbed w
    then { e with st := 2 } else e

/-! ### Slices (R126, R127, R132) -/

/-- The pair of slice i streams. -/
def State.streaming (s : State) (i : Nat) : Bool := (s.slice (i / 2 * 2)).streamFrom.isSome

/-- The even slice that streams input An. -/
def State.streamOf (s : State) (a : Nat) : Option Nat :=
  [0, 2, 4, 6].find? fun i => s.streaming i && s.rd (Od.SLICE_STREAM_IN i) = a

/-- The slice that takes an on-demand firing at its t_s. -/
def State.chooseSlice (s : State) (f : Firing) : Option Nat :=
  let free (i : Nat) : Bool := !s.streaming i && decide ((s.slice i).busyUntil ≤ f.ts)
  if f.slice = 0xFF then (List.range 8).find? free
  else if free f.slice then some f.slice else none

/-- Index and time of the first stream hold at or after t: the even slice holds every 100 ns, the odd one 50 ns later. -/
def streamHold (start t : Nat) : Nat × Nat :=
  let i := (t - start + ns 50 - 1) / ns 50
  (i, start + ns 50 * i)

/-! ### The queue (R139 to R141) -/

/-- The engine takes an entry for this slot: RUNNING, with its domain on (R24, R141, R160). -/
def State.scheduled (s : State) (n : Nat) : Bool := (s.ls n).st = .running && s.domOn domLoop

/-- The episode of a full queue ends below 768 entries (R140). -/
def Meas.settle (m : Meas) : Meas := { m with fullEp := m.fullEp && decide (m.queue.length ≥ 768) }

/-- The thermal unit sees an entry enter the queue: it keeps the latest usable value per trigger entry (R275). -/
def State.thSee (s : State) (e : QEntry) : State :=
  if (e.st = 0 || e.st = 2 || e.st = 3 || e.st = 5) && s.domOn domLoop then
    { s with th := { s.th with latest := s.th.latest.set e.trig (some (e.value, s.now)) } }
  else s

/-- An entry enters the queue, or is discarded (R140, R141). The thermal unit observes it whatever its DST (R275), unless the
queue is full. An entry for a slot that is not scheduled is counted as such, also where the queue is full (DESIGN CHOICE, log
entry 174). -/
def State.enqueue (s : State) (e : QEntry) : State :=
  let s := s.traceAll 3 e.trig 9 e.value e.time
  let s := if s.meas.queue.length < 1024 then s.thSee e else s
  if e.dst < 128 && !s.scheduled e.dst then
    { s with meas := { s.meas with dstOff := (s.meas.dstOff + 1) % 2 ^ 32 } }
  else if s.meas.queue.length ≥ 1024 then
    let first := !s.meas.fullEp
    let s : State := { s with meas := { s.meas with drops := (s.meas.drops + 1) % 2 ^ 32, fullEp := true } }
    if first then s.raise Flt.MEAS_QFULL 0 else s
  else
    let q := s.meas.queue ++ [(s.now, e)]
    { s with meas := { s.meas with queue := q, high := max s.meas.high q.length } }

/-- The 16 bytes of an entry (R137). -/
def QEntry.bytes (e : QEntry) : List Byte :=
  leBytes 16 (e.value + 2 ^ 32 * e.raw + 2 ^ 48 * e.chan + 2 ^ 56 * e.src + 2 ^ 60 * e.st + 2 ^ 64 * sysNs e.time +
    2 ^ 94 * (sysS e.time % 4) + 2 ^ 96 * e.trig + 2 ^ 104 * e.seq + 2 ^ 112 * e.count + 2 ^ 120 * e.dst)

/-- The first entry of the queue that a test selects, taken out. -/
def takeFirst (f : QEntry → Bool) : List (Nat × QEntry) → Option ((Nat × QEntry) × List (Nat × QEntry))
  | [] => none
  | x :: xs => if f x.2 then some (x, xs) else (takeFirst f xs).map fun r => (r.1, x :: r.2)

/-- MD_STATUS (R144). -/
def State.mdStatus (s : State) (m : Nat) : Nat :=
  let x := s.md m
  packBits [s.mdOn m && (x.fillFast || x.fillCtrl), s.mdOn m && x.hi, s.mdOn m && x.lo, s.mdOn m && x.trip, x.stuckSeen,
    x.clockSeen, x.tripSeen, x.overSeen]

end Sys2Proof.Machine
end

