-- ==== Sys2Proof/Machine/MeasEvents.lean ====
section
/-! DEFINITION. What the measurement subsystem does at each of its events, and what its entries do when they are
written (05). -/

namespace Sys2Proof.Machine

/-! ### Modulator inputs -/

/-- A timing violation of an input at local time t (R116). -/
def State.mdViolation (s : State) (m t : Nat) : State :=
  if !s.mdOn m then s
  else
    let s := s.at_ t
    let s := s.updMd m fun x => { x with
      viol := s.now :: x.viol.filter fun v => s.now < v + ms 1
      tv := (x.tv + 1) % 2 ^ 32 }
    if (s.md m).viol.length > 16 && !(s.md m).clkBad then
      (s.updMd m fun x => { x with clkBad := true, clockSeen := true }).raise Flt.MD_CLOCK m
    else s

/-- 1 ms after the last violation results count again (R116). -/
def State.mdRecover (s : State) (m : Nat) : State :=
  match (s.md m).viol with
  | [] => s
  | v :: _ => if (s.md m).clkBad then (s.at_ (v + ms 1)).updMd m fun x => { x with clkBad := false } else s

/-- The last `run` bits captured up to t are identical (R117). A run that exceeds MD_RUN_MAX is the same run until fewer
are: its first bit then ended it, and both filters refill from there. -/
def State.mdRun (s : State) (m t run : Nat) : State :=
  if s.mdOn m then
    let s := s.at_ t
    let x := s.md m
    let beyond := decide (run > s.rd (Od.MD_RUN_MAX m))
    if beyond && !x.runOn then
      (s.updMd m fun x => { x with runOn := true, runBad := true, stuckSeen := true }).raise Flt.MD_STUCK m
    else if !beyond && x.runOn then
      s.updMd m fun x => { x with runOn := false, fillFrom := s.now - run * s.tmclk, fillFast := true, fillCtrl := true }
    else s
  else s

/-- A filter of the input completes its fill time, no earlier than t (R118); results count again once both have after a run
has ended or the MEAS clocks are back. -/
def State.mdFilled (s : State) (m t : Nat) (ctrl : Bool) : State :=
  let x := s.md m
  if s.mdOn m && !s.measFallback && (if ctrl then x.fillCtrl else x.fillFast) then
    let s := s.at_ (max t (x.fillFrom + (if ctrl then s.mdFillCtrl m else s.mdFillFast m)))
    let s := s.updMd m fun x => if ctrl then { x with fillCtrl := false } else { x with fillFast := false }
    s.updMd m fun x => { x with
      runBad := x.runBad && (x.runOn || x.fillFast || x.fillCtrl), relBad := x.relBad && (x.fillFast || x.fillCtrl) }
  else s

/-- The MEAS clocks fall back or come to rest: MCLK is low, no run goes on, and results are INVALID until the filters
refill (R142). -/
def State.measStop (s : State) : State :=
  { s with mdats := s.mdats.map fun x => { x with
      relBad := true, runOn := false, fillFrom := s.now, fillFast := true, fillCtrl := true } }

/-- The next firing that waits for its span (R119): the one that ends first. -/
def State.nextMd (s : State) : Option MdFiring :=
  s.meas.mdFir.foldl (fun a f => match a with
    | none => some f
    | some b => if f.endAt < b.endAt then some f else some b) none

/-- The control path delivers its output for the next firing (R119, R137, R138), formed from the bits captured up to the
end of its span, oldest first; x is q / 2^23. COUNT is 1 (DESIGN CHOICE, log entry 172). -/
def State.mdOutput (s : State) (stream : List Bool) : State :=
  match s.nextMd with
  | none => s
  | some d =>
    let m := d.f.chan
    let q := ctrlValue (s.mdOrder m) (s.rd (Od.MD_CTRL_OSR m)) stream
    let s : State := { s.at_ d.endAt with meas := { s.meas with mdFir := s.meas.mdFir.erase d } }
    let s := if s.mdOn m && !s.measFallback then s.mdPublish m stream else s
    let due := d.endAt + ns 150
    if !d.ok || s.mdBad m || s.measFallback then s.launchInvalid d.te d.f due d.tc
    else
      let ovr := decide (q.natAbs ≥ 7864320)
      let st : Nat := if ovr then 3 else if s.now < (s.md m).fillFrom + s.mdFillCtrl m then 5 else 0
      let s := if ovr then s.updMd m fun x => { x with overSeen := true } else s
      let g := s.chanGain m
      let v := scaled g.1 g.2 (F32.ofRat q (2 ^ 23))
      let s := s.noteConverted d.te v
      s.launch due ⟨v, ofSigned 24 q / 256, m, 0xF, st, s.sysAt d.tc, d.te, d.f.seq, 1, d.f.dst⟩

/-! ### Sampling -/

/-- The pending firing that reaches its t_s next; entries of one PWM clock in ascending number (R132). -/
def State.nextFiring (s : State) : Option (Nat × Firing) :=
  (List.range 128).foldl (fun a te => match (s.trg te).pend, a with
    | none, a => a
    | some f, none => some (te, f)
    | some f, some b => if f.ts / s.tclk < b.2.ts / s.tclk then some (te, f) else some b) none

/-- Span and t_c of the control path for a firing (R119): t_c and the end of the span. -/
def State.mdSpan (s : State) (m ts : Nat) : Nat × Nat :=
  let t := s.tmclk
  let off := if (s.rd (Od.MD_CTRL m)).testBit 1 then t / 2 else 0
  let gd := s.mdOrder m * (s.rd (Od.MD_CTRL_OSR m) - 1) * t / 2
  let e := (ts + gd - off + t - 1) / t
  (e * t + off - gd, e * t + off)

/-- A firing on a modulator input at its t_s. -/
def State.sampleMd (s : State) (te : Nat) (f : Firing) : State :=
  let (tc, e) := s.mdSpan f.chan f.ts
  if s.mdOn f.chan then { s with meas := { s.meas with mdFir := s.meas.mdFir ++ [⟨te, f, tc, e, true⟩] } }
  else s.launchInvalid te f (e + ns 150) tc

/-- A firing on a converter channel at its t_s (R124 to R127, R132, R133, R142). -/
def State.sampleSar (s : State) (te : Nat) (f : Firing) : State :=
  let due := f.ts + ns 100 * (f.avg - 1) + ns 200
  let put (s : State) (c : Conv) : State := { s with meas := { s.meas with convs := s.meas.convs ++ [c] } }
  if s.measFallback || !s.adcOn then s.launchInvalid te f due (f.ts + ns 50 * (f.avg - 1))
  else
    match (if f.chan < 0x70 then s.streamOf (f.chan - 0x60) else none) with
    | some i =>
      let (h, t) := streamHold ((s.slice i).streamFrom.getD 0) f.ts
      put s ⟨te, f, i + h % 2, t, some h, t + ns 50 * (f.avg - 1) + ns 200⟩
    | none =>
      if f.quiet.testBit 7 && s.disturbs f then
        let g := f.quiet % 16
        { s with meas := { s.meas with qgSkips := s.meas.qgSkips.modify g fun n => (n + 1) % 2 ^ 32 } }.skip te f due
      else
        match s.chooseSlice f with
        | none =>
          (s.updSlice (if f.slice = 0xFF then 0 else f.slice) fun x => { x with busy := (x.busy + 1) % 2 ^ 32 }).skip te f due
        | some i =>
          put ((s.updSlice i fun x => { x with busyUntil := f.ts + ns 100 * f.avg, convs := (x.convs + f.avg) % 2 ^ 64 }).watchFor te f)
            ⟨te, f, i, f.ts, none, due⟩

/-- The next firing reaches its t_s: the sample is converted or skipped. -/
def State.trgSample (s : State) : State :=
  match s.nextFiring with
  | none => s
  | some (te, f) =>
    let s := (s.at_ f.ts).updTrg te fun t => { t with pend := none }
    if f.chan < 0x60 then s.sampleMd te f else s.sampleSar te f

/-- A 16-bit converter code. -/
def sarCode (c : Int) : Int := max (-32768) (min c 32767)

/-- Code i of a conversion as delivered: the odd slice's stream samples are corrected (R128). -/
def State.delivered (s : State) (c : Conv) (codes : List Int) (i : Nat) : Rat :=
  let o : Rat := sarCode (codes.getD i 0)
  match c.hold with
  | none => o
  | some h =>
    let p := s.slice (c.slice / 2 * 2)
    if (h + i) % 2 = 1 then (o - p.ofs) * (1 + p.gn) else o

/-- The next conversion completes with the codes given, and its result is formed (R124, R125, R127, R137, R138). -/
def State.sarDone (s : State) (codes : List Int) : State :=
  match s.meas.convs.foldl (fun a c => match a with
      | none => some c
      | some b => if c.due < b.due then some c else some b) none with
  | none => s
  | some c =>
    let n := c.f.avg
    let s : State := { s.at_ (c.due - ns 100) with meas := { s.meas with convs := s.meas.convs.erase c } }
    let raws := (List.range n).map fun i => sarCode (codes.getD i 0)
    let mean : Rat := ((List.range n).foldl (fun a i => a + s.delivered c codes i) 0) / n
    let ovr := raws.any fun x => x = 32767 || x = -32768
    let a := c.f.chan - 0x60
    let s := if ovr && a < 16 then { s with meas := { s.meas with
      sars := s.meas.sars.modify a fun x => { ovr := true, overs := (x.overs + 1) % 2 ^ 32 } } } else s
    let unset := match c.hold with
      | some _ => !(s.slice (c.slice / 2 * 2)).convOG
      | none => false
    -- DISTURBED is judged as the entry enters the queue
    let st : Nat := if ovr then 3 else if unset then 5 else 0
    let x := mean / 32768
    let g := s.chanGain c.f.chan
    let v := scaled g.1 g.2 (F32.ofRat x.num x.den)
    let s := s.noteConverted c.te v
    -- RAW of a mean or of a corrected sample is not stated: a free value
    let (free, s) := s.draw
    let raw := if n = 1 && c.hold.all (fun h => h % 2 = 0) then ofSigned 16 (raws.getD 0 0) else free % 2 ^ 16
    let step := if c.hold = none then 50 else 25
    s.launch c.due ⟨v, raw, c.f.chan, c.slice, st, s.sysAt (c.first + ns step * (n - 1)), c.te, c.f.seq, n, c.f.dst⟩

/-! ### Streaming pairs (R128, R129) -/

/-- A limited estimate. -/
def rclamp (x lo hi : Rat) : Rat := max lo (min x hi)

/-- One pair of holds: even code e, odd code o, the next even code e2. -/
def State.streamUpdate (s : State) (i : Nat) (e o e2 : Int) : State :=
  let i := i / 2 * 2
  let p := s.slice i
  if p.streamFrom.isNone || s.measFallback then s
  else
    let e := sarCode e; let o := sarCode o; let e2 := sarCode e2
    let k : Rat := 1 / (2 ^ s.rd (Od.SLICE_MU i) : Nat)
    let oc : Rat := (o - p.ofs) * (1 + p.gn)
    let ofs := rclamp (p.ofs + k * ((o - p.ofs) - e)) (-256) 256
    let gn := rclamp (p.gn + k * ((e.natAbs : Rat) - (if oc < 0 then -oc else oc)) / 32768) (-1 / 50) (1 / 50)
    let gate := decide ((e2 - e).natAbs ≥ 512)
    let sk := if gate then rclamp (p.sk + k * (oc - ((e : Rat) + e2) / 2) / ((e2 - e : Int) : Rat) * 100000) (-64) 64 else p.sk
    let lim (v lo : Rat) : Bool := v = lo || v = -lo
    let sat := lim ofs 256 || lim gn (1 / 50) || lim sk 64
    let new := (lim ofs 256 && !lim p.ofs 256) || (lim gn (1 / 50) && !lim p.gn (1 / 50)) || (lim sk 64 && !lim p.sk 64)
    let s := s.updSlice i fun x => { x with
      ofs := ofs, gn := gn, sk := sk, gated := x.gated + b2n gate, sat := x.sat || sat, convs := (x.convs + 1) % 2 ^ 64 }
    let s := s.updSlice (i + 1) fun x => { x with convs := (x.convs + 1) % 2 ^ 64 }
    if new then s.raise Flt.SAR_CORR i else s

/-- Offset and gain, or skew, are declared converged. -/
def State.streamConverged (s : State) (i : Nat) (skew : Bool) : State :=
  let i := i / 2 * 2
  let p := s.slice i
  let tau := 2 ^ s.rd (Od.SLICE_MU i)
  match p.streamFrom with
  | none => s
  | some t =>
    if skew then
      if p.gated ≥ 20 * tau then s.updSlice i fun x => { x with convSk := true } else s
    else (s.at_ (t + 5 * tau * ns 100)).updSlice i fun x => { x with convOG := true }

/-! ### The queue -/

/-- The next entry enters the queue: the earliest, and of one MEAS clock the lowest trigger number (R139). Its quiet interval
is watched no longer (R134). -/
def State.queueEntry (s : State) : State :=
  match s.meas.flight.foldl (fun a x => match a with
      | none => some x
      | some b =>
        if x.1 / s.tmeas < b.1 / s.tmeas || (x.1 / s.tmeas = b.1 / s.tmeas && x.2.trig < b.2.trig) then some x else some b)
      none with
  | none => s
  | some x =>
    let s := s.at_ x.1
    let e := s.judgeWatch x.2
    let s : State := { s with meas := { s.meas with
      flight := s.meas.flight.erase x, watch := s.meas.watch.filter fun w => !(w.trig = x.2.trig && w.seq = x.2.seq) } }
    s.enqueue e

/-- The oldest host entry leaves the queue; 16 zero bytes where there is none (R141, R146). -/
def State.popHost (s : State) : List Byte × State :=
  match takeFirst (fun e => e.dst = 0xFF) s.meas.queue with
  | none => (List.replicate 16 0, s)
  | some (x, rest) => (x.2.bytes, { s with meas := { s.meas with queue := rest }.settle })

/-- The oldest host entry becomes older than Q_HOST_AGE. -/
def State.ageHost (s : State) : State :=
  match takeFirst (fun e => e.dst = 0xFF) s.meas.queue with
  | none => s
  | some (x, rest) =>
    let s := s.at_ (x.1 + us (s.rd Od.Q_HOST_AGE) + 1)
    { s with meas := { s.meas with queue := rest, aged := (s.meas.aged + 1) % 2 ^ 32 }.settle }

/-- Q_CLR: Q_HIGH restarts from the present fill. -/
def State.qClr (s : State) : State :=
  { s with meas := { s.meas with high := s.meas.queue.length, drops := 0, aged := 0, dstOff := 0 } }

/-! ### Written entries -/

/-- MD_CTRL, an OSR or MD_TRIP_ACT (R115, R123). -/
def State.ownMd (s : State) (m : Nat) (r : Reg) (v : Nat) : Own :=
  if !s.slotStopped (m / 3) then .error abState
  else if r.key = (Od.MD_CTRL m).key then
    if v.testBit 0 && !(s.rd Od.MEAS_MCLK_EN).testBit (m / 16) then .error abState
    else
      let was := (s.rd (Od.MD_CTRL m)).testBit 0
      let s := s.wr r v
      let s := if v.testBit 0 && !was then s.updMd m fun x => { x with hi := false, lo := false, trip := false, offAt := none }
        else if !v.testBit 0 && was then s.mdDisable m else s
      .ok (s.mdRestart m)
  else .ok ((s.wr r v).mdRestart m)

/-- MEAS_MCLK_EN: an MCLK that clocks an enabled input is not switched off (R115). -/
def State.ownMclk (s : State) (v : Nat) : Own :=
  let off := s.rd Od.MEAS_MCLK_EN
  if (List.range 96).any fun m => off.testBit (m / 16) && !v.testBit (m / 16) && (s.rd (Od.MD_CTRL m)).testBit 0 then
    .error abState
  else .ok (s.wr Od.MEAS_MCLK_EN v)

/-- A threshold, the hysteresis or the deglitch (R123). -/
def State.ownThr (s : State) (m : Nat) (r : Reg) (signed : Bool) (v : Nat) : Own := .ok ((s.keepThr m r signed).wr r v)

/-- MD_STATUS_CLR. -/
def State.ownMdClr (s : State) (m v : Nat) : Own :=
  .ok (s.updMd m fun x => { x with
    stuckSeen := x.stuckSeen && !v.testBit 4, clockSeen := x.clockSeen && !v.testBit 5
    tripSeen := x.tripSeen && !v.testBit 6, overSeen := x.overSeen && !v.testBit 7 })

/-- SAR_STATUS_CLR. -/
def State.ownSarClr (s : State) (a v : Nat) : Own :=
  .ok { s with meas := { s.meas with sars := s.meas.sars.modify a fun x => { x with ovr := x.ovr && !v.testBit 0 } } }

/-- The pair of even slice i streams or not, as SLICE_MODE says, with its estimates at 0: it enters or leaves stream mode, or
MEAS wakes (R126, R128). -/
def State.streamStart (s : State) (i : Nat) : State :=
  s.updSlice i fun x => { x with
    ofs := 0, gn := 0, sk := 0, gated := 0, convOG := false, convSk := false
    streamFrom := if s.rd (Od.SLICE_MODE i) = 1 then some ((s.now + s.tmeas - 1) / s.tmeas * s.tmeas) else none }

/-- SLICE_MODE (R126): refused on an odd slice for stream mode. -/
def State.ownSliceMode (s : State) (i v : Nat) : Own :=
  if v = 1 && i % 2 = 1 then .error abState
  else
    let s := s.wr (Od.SLICE_MODE i) v
    .ok (if i % 2 = 1 then s else s.streamStart i)

/-- SLICE_STREAM_IN and SLICE_MU: live on even slices only (R147). -/
def State.ownSliceEven (s : State) (i : Nat) (r : Reg) (v : Nat) : Own :=
  if i % 2 = 1 then .error abState else .ok (s.wr r v)

/-- SLICE_CONV_CLR. -/
def State.ownSliceClr (s : State) (i : Nat) : Own := .ok (s.updSlice i fun x => { x with sat := false })

/-- TRG_SRC (R149): reserved kinds and events are refused. -/
def State.ownTrgSrc (s : State) (te v : Nat) : Own :=
  .ok (s.wr (Od.TRG_SRC te) v)

/-- TRG_DIV to TRG_SKIP_MAX (R149): refused while KIND is not off; TRG_CHAN by R137, TRG_DIV_PH below TRG_DIV. -/
def State.ownTrg (s : State) (te : Nat) (r : Reg) (v : Nat) : Own :=
  if r.key = (Od.TRG_DIV_PH te).key && v ≥ s.rd (Od.TRG_DIV te) then .error abRange
  else if bits (s.rd (Od.TRG_SRC te)) 1 0 ≠ 0 then .error abState
  else .ok (s.wr r v)

end Sys2Proof.Machine
end

