-- ==== Sys2Proof/Machine/OdMap.lean ====
section
/-! DEFINITION. The object dictionary as the group tables of spec/ set it out (R445, R452): one row per entry or
per run of entries, with the columns of those tables. A group whose index carries an instance has one row for all
its instances (R6). Below index 0x8000 sub 0x00 is not a row: R446 computes it. -/

namespace Sys2Proof.Machine

open OdType OdAccess Rng

/-- The 0x2000 group as R46 of 02_cell_slots.md sets it out. -/
def Od.rows02_2000 : List OdRow := [
  ⟨0x2000, 1, 0x01, 1, "SLOT_TEMPLATES", .octets, .ro, 0, .any, 0, 0, 0, false, 32, false⟩,
  ⟨0x2000, 1, 0x02, 1, "SLOT_STATES", .octets, .ro, 0, .any, 0, 0, 0, false, 32, false⟩,
  ⟨0x2000, 1, 0x03, 1, "CELL_CYCLE", .u32, .rws, 0x4E20, .div 10000 1000000 1000000000, 0, 0, 11, true, 4, false⟩,
  ⟨0x2000, 1, 0x04, 1, "ALL_STOP", .u8, .wo, 0, .int 1 1 1 none, 0, 0, 0, false, 1, false⟩,
  ⟨0x2000, 1, 0x05, 1, "LEGS_ENABLED", .u8, .ro, 0, .int 0 192 1 none, 0, 0, 0, false, 1, false⟩,
  ⟨0x2000, 1, 0x06, 1, "SLOTS_LATCHED", .u32, .ro, 0, .any, 0, 0, 0, false, 4, false⟩]

/-- The 0x2100+C group as R47 of 02_cell_slots.md sets it out. -/
def Od.rows02_2100_C : List OdRow := [
  ⟨0x2100, 32, 0x01, 1, "SLOT_TEMPLATE", .u8, .rw, 0, .int 0 5 1 none, 0, 6, 0, true, 1, false⟩,
  ⟨0x2100, 32, 0x02, 1, "SLOT_STATE", .u8, .ro, 0, .int 0 6 1 none, 0, 0, 0, false, 1, false⟩,
  ⟨0x2100, 32, 0x03, 1, "SLOT_CMD", .u16, .wo, 0, .any, 0xC000, 0, 0, false, 2, false⟩,
  ⟨0x2100, 32, 0x04, 1, "SLOT_CMD_STATUS", .u8, .ro, 0, .int 0 3 1 none, 0, 0, 0, false, 1, false⟩,
  ⟨0x2100, 32, 0x05, 1, "SLOT_REASON", .u16, .ro, 0, .any, 0, 0, 0, false, 2, false⟩,
  ⟨0x2100, 32, 0x06, 1, "SLOT_SO_STEP", .u16, .rw, 500, .int 0 10000 2 none, 0, 0, 11, true, 2, false⟩,
  ⟨0x2100, 32, 0x07, 1, "SLOT_LATCHED", .u8, .ro, 0, .any, 0, 0, 0, false, 1, false⟩,
  ⟨0x2100, 32, 0x08, 1, "SLOT_STRING", .u8, .rw, 255, .int 0 31 1 (some 0xFF), 0, 0, 0, true, 1, false⟩,
  ⟨0x2100, 32, 0x09, 1, "SLOT_STRING_POS", .u8, .rw, 0, .int 0 47 1 none, 0, 0, 0, true, 1, false⟩,
  ⟨0x2100, 32, 0x0A, 1, "SLOT_STRING_ROLE", .u8, .rw, 0, .int 0 1 1 none, 0, 0, 0, true, 1, false⟩,
  ⟨0x2100, 32, 0x0B, 1, "SLOT_SO_COUNT", .u32, .ro, 0, .any, 0, 0, 0, false, 4, false⟩,
  ⟨0x2100, 32, 0x10, 6, "UNIT_LOOP", .u8, .rw, 255, .int 0 127 1 (some 0xFF), 0, 0, 0, true, 1, false⟩,
  ⟨0x2100, 32, 0x18, 6, "UNIT_LV", .u8, .rw, 255, .int 0 63 1 (some 0xFF), 0, 0, 0, true, 1, false⟩,
  ⟨0x2100, 32, 0x20, 6, "UNIT_FN", .u8, .rw, 0, .int 0 2 1 none, 0, 0, 0, true, 1, false⟩,
  ⟨0x2100, 32, 0x28, 6, "UNIT_STATE", .u8, .ro, 0, .oneOf [1, 3, 6], 0, 0, 0, false, 1, false⟩]

/-- The 0x2200+L group as R83 of 03_leg_timing.md sets it out. -/
def Od.rows03_2200_L : List OdRow := [
  ⟨0x2200, 192, 0x10, 1, "LEG_CARRIER", .u8, .rw, 0, .int 0 63 1 none, 0, 0, 0, true, 1, false⟩,
  ⟨0x2200, 192, 0x11, 1, "LEG_DUTY", .u32, .rw, 0, .any, 0xFF000000, 0, 0, true, 4, false⟩,
  ⟨0x2200, 192, 0x12, 1, "LEG_PHASE", .u32, .rw, 0, .any, 0xFE000000, 0, 0, true, 4, false⟩,
  ⟨0x2200, 192, 0x13, 1, "LEG_DUTY_ACT", .u32, .ro, 0, .any, 0, 0, 0, false, 4, false⟩,
  ⟨0x2200, 192, 0x14, 1, "LEG_PHASE_ACT", .u32, .ro, 0, .any, 0, 0, 0, false, 4, false⟩,
  ⟨0x2200, 192, 0x15, 1, "LEG_CTRL", .u16, .rw, 2, .any, 0xFFF8, 0, 0, true, 2, false⟩,
  ⟨0x2200, 192, 0x16, 1, "LEG_FORCE", .u8, .rw, 0, .any, 192, 0, 0, true, 1, false⟩,
  ⟨0x2200, 192, 0x17, 1, "LEG_STATUS", .u16, .ro, 0, .any, 0, 0, 0, false, 2, false⟩,
  ⟨0x2200, 192, 0x18, 1, "LEG_BOOT_WIDTH", .u16, .rw, 0, .int 100 4000 2 (some 0), 0, 0, 11, true, 2, false⟩,
  ⟨0x2200, 192, 0x19, 1, "LEG_BOOT_EVERY", .u8, .rw, 4, .int 1 255 1 none, 0, 0, 0, true, 1, false⟩,
  ⟨0x2200, 192, 0x1A, 1, "LEG_PKL_SRC", .u8, .rw, 0, .any, 0, 0, 0, true, 1, false⟩,
  ⟨0x2200, 192, 0x1B, 1, "LEG_PKL_COUNT", .u32, .ro, 0, .any, 0, 0, 0, false, 4, false⟩,
  ⟨0x2200, 192, 0x1C, 1, "LEG_BOOT_COUNT", .u32, .ro, 0, .any, 0, 0, 0, false, 4, false⟩,
  ⟨0x2200, 192, 0x1D, 1, "LEG_CLAMP_COUNT", .u32, .ro, 0, .any, 0, 0, 0, false, 4, false⟩,
  ⟨0x2200, 192, 0x1E, 1, "LEG_STATUS_CLR", .u16, .wo, 0, .any, 0xFE00, 0, 0, false, 2, false⟩]

/-- The 0x2300+K group as R84 of 03_leg_timing.md sets it out. -/
def Od.rows03_2300_K : List OdRow := [
  ⟨0x2300, 64, 0x01, 1, "CAR_PERIOD", .u32, .rw, 5000, .int 500 1048575 1 none, 0xFFF00000, 0, 24, true, 4, false⟩,
  ⟨0x2300, 64, 0x02, 1, "CAR_PERIOD_ACT", .u32, .ro, 5000, .any, 0, 0, 24, false, 4, false⟩,
  ⟨0x2300, 64, 0x03, 1, "CAR_RELOAD", .u8, .rw, 1, .int 0 2 1 none, 0, 0, 0, true, 1, false⟩,
  ⟨0x2300, 64, 0x04, 1, "CAR_COMMIT_MODE", .u8, .rw, 0, .int 0 1 1 none, 0, 0, 0, true, 1, false⟩,
  ⟨0x2300, 64, 0x05, 1, "CAR_COMMIT", .u8, .wo, 0, .int 1 2 1 none, 0, 0, 0, false, 1, false⟩,
  ⟨0x2300, 64, 0x06, 1, "CAR_COMMIT_PEND", .u8, .ro, 0, .int 0 1 1 none, 0, 0, 0, false, 1, false⟩,
  ⟨0x2300, 64, 0x07, 1, "CAR_START_TIME", .time, .rw, 0, .any, 0, 0, 0, true, 14, false⟩,
  ⟨0x2300, 64, 0x08, 1, "CAR_RUN", .u8, .wo, 0, .int 1 2 1 none, 0, 0, 0, false, 1, false⟩,
  ⟨0x2300, 64, 0x09, 1, "CAR_STATE", .u8, .ro, 0, .int 0 3 1 none, 0, 0, 0, false, 1, false⟩,
  ⟨0x2300, 64, 0x0A, 1, "CAR_VALLEYS", .u64, .ro, 0, .any, 0, 0, 0, false, 8, false⟩,
  ⟨0x2300, 64, 0x0B, 1, "CAR_COMMITS", .u32, .ro, 0, .any, 0, 0, 0, false, 4, false⟩,
  ⟨0x2300, 64, 0x0C, 1, "CAR_LATE", .u32, .ro, 0, .any, 0, 0, 0, false, 4, false⟩,
  ⟨0x2300, 64, 0x0D, 1, "CAR_LEGS", .octets, .ro, 0, .any, 0, 0, 0, false, 24, false⟩,
  ⟨0x2300, 64, 0x0E, 1, "CAR_STATUS", .u8, .ro, 0, .any, 0, 0, 0, false, 1, false⟩]

/-- The 0x2200+L group as R111 of 04_gate_guard.md sets it out. -/
def Od.rows04_2200_L : List OdRow := [
  ⟨0x2200, 192, 0x01, 1, "LEG_DT_MIN", .u16, .rw, 20, .int 10 4094 2 none, 0, 0, 11, true, 2, false⟩,
  ⟨0x2200, 192, 0x02, 1, "LEG_DT_INIT", .u16, .rw, 100, .int 10 4094 2 none, 0, 0, 11, true, 2, false⟩,
  ⟨0x2200, 192, 0x03, 1, "LEG_DT_MAX", .u16, .rw, 300, .int 10 4094 2 none, 0, 0, 11, true, 2, false⟩,
  ⟨0x2200, 192, 0x04, 1, "LEG_DT_MARGIN", .u16, .rw, 20, .int 0 200 2 none, 0, 0, 11, true, 2, false⟩,
  ⟨0x2200, 192, 0x05, 1, "LEG_DT_FILT", .u8, .rw, 3, .int 0 7 1 none, 0, 0, 0, true, 1, false⟩,
  ⟨0x2200, 192, 0x06, 1, "LEG_GG_CTRL", .u16, .rw, 1, .any, 0xFFE0, 0, 0, true, 2, false⟩,
  ⟨0x2200, 192, 0x07, 1, "LEG_BLANK", .u16, .rw, 500, .int 0 2000 2 none, 0, 0, 11, true, 2, false⟩,
  ⟨0x2200, 192, 0x08, 1, "LEG_DT_ADAPT", .u32, .ro, 0x640064, .any, 0, 0, 11, false, 4, false⟩,
  ⟨0x2200, 192, 0x09, 1, "LEG_TSW_LAST", .u32, .ro, 0xFFFFFFFF, .any, 0, 0, 0, false, 4, false⟩,
  ⟨0x2200, 192, 0x0A, 1, "LEG_GG_STATUS", .u16, .ro, 0, .any, 0, 0, 0, false, 2, false⟩,
  ⟨0x2200, 192, 0x0B, 1, "LEG_GG_STATUS_CLR", .u16, .wo, 0, .any, 0xF000, 0, 0, false, 2, false⟩,
  ⟨0x2200, 192, 0x0C, 1, "LEG_FK_COUNT", .u32, .ro, 0, .any, 0, 0, 0, false, 4, false⟩,
  ⟨0x2200, 192, 0x0D, 1, "LEG_BLANKED_COUNT", .u32, .ro, 0, .any, 0, 0, 0, false, 4, false⟩,
  ⟨0x2200, 192, 0x0E, 1, "LEG_XCMD_COUNT", .u32, .ro, 0, .any, 0, 0, 0, false, 4, false⟩,
  ⟨0x2200, 192, 0x0F, 1, "LEG_SN_COUNTS", .u32, .ro, 0, .any, 0, 0, 0, false, 4, false⟩]

/-- The 0x2100+C group as R112 of 04_gate_guard.md sets it out. -/
def Od.rows04_2100_C : List OdRow := [
  ⟨0x2100, 32, 0x0C, 1, "SLOT_BOOT_PRE", .u16, .rw, 2000, .int 0 60000 2 none, 0, 0, 11, true, 2, false⟩,
  ⟨0x2100, 32, 0x0D, 1, "SLOT_SUPPLY_WAKE", .u16, .rw, 1000, .int 0 10000 1 none, 0, 0, 10, true, 2, false⟩,
  ⟨0x2100, 32, 0x0E, 1, "SLOT_SN_CONFIRM", .u16, .rw, 300, .int 50 2000 2 none, 0, 0, 11, true, 2, false⟩]

/-- The 0x2000 group as R113 of 04_gate_guard.md sets it out. -/
def Od.rows04_2000 : List OdRow := [
  ⟨0x2000, 1, 0x07, 1, "GG_STRING_TRIP_MAX", .u8, .rws, 2, .int 1 47 1 none, 0, 0, 0, true, 1, false⟩,
  ⟨0x2000, 1, 0x08, 1, "GG_STRING_TRIPS", .u32, .ro, 0, .any, 0, 0, 0, false, 4, false⟩]

/-- The 0x2800+M group as R144 of 05_measurement.md sets it out. -/
def Od.rows05_2800_M : List OdRow := [
  ⟨0x2800, 96, 0x01, 1, "MD_CTRL", .u16, .rw, 0, .any, 0xFFF8, 0, 0, true, 2, false⟩,
  ⟨0x2800, 96, 0x02, 1, "MD_FAST_OSR", .u16, .rw, 32, .int 16 64 1 none, 0, 0, 0, true, 2, false⟩,
  ⟨0x2800, 96, 0x03, 1, "MD_CTRL_OSR", .u16, .rw, 128, .int 64 256 1 none, 0, 0, 0, true, 2, false⟩,
  ⟨0x2800, 96, 0x04, 1, "MD_GAIN", .f32, .rw, 0x3F800000, .any, 0, 0, 0, true, 4, false⟩,
  ⟨0x2800, 96, 0x05, 1, "MD_OFFSET", .f32, .rw, 0, .any, 0, 0, 0, true, 4, false⟩,
  ⟨0x2800, 96, 0x06, 1, "MD_UNIT", .u16, .rw, 0, .any, 0, 29, 0, true, 2, false⟩,
  ⟨0x2800, 96, 0x07, 1, "MD_PKL_HI", .i16, .rw, 0x7FFF, .any, 0, 0, 0, true, 2, false⟩,
  ⟨0x2800, 96, 0x08, 1, "MD_PKL_LO", .i16, .rw, 0x8000, .any, 0, 0, 0, true, 2, false⟩,
  ⟨0x2800, 96, 0x09, 1, "MD_PKL_HYST", .u16, .rw, 256, .int 0 8192 1 none, 0, 0, 0, true, 2, false⟩,
  ⟨0x2800, 96, 0x0A, 1, "MD_TRIP_HI", .i16, .rw, 0x7FFF, .any, 0, 0, 0, true, 2, false⟩,
  ⟨0x2800, 96, 0x0B, 1, "MD_TRIP_LO", .i16, .rw, 0x8000, .any, 0, 0, 0, true, 2, false⟩,
  ⟨0x2800, 96, 0x0C, 1, "MD_TRIP_DGL", .u8, .rw, 2, .int 1 255 1 none, 0, 0, 0, true, 1, false⟩,
  ⟨0x2800, 96, 0x0D, 1, "MD_TRIP_ACT", .u8, .rw, 0, .int 0 2 1 none, 0, 0, 0, true, 1, false⟩,
  ⟨0x2800, 96, 0x0E, 1, "MD_RUN_MAX", .u8, .rw, 64, .int 16 255 1 none, 0, 0, 0, true, 1, false⟩,
  ⟨0x2800, 96, 0x0F, 1, "MD_STATUS", .u16, .ro, 0, .any, 0, 0, 0, false, 2, false⟩,
  ⟨0x2800, 96, 0x10, 1, "MD_STATUS_CLR", .u16, .wo, 0, .any, 0xFF00, 0, 0, false, 2, false⟩,
  ⟨0x2800, 96, 0x11, 1, "MD_FAST_VALUE", .i16, .ro, 0, .any, 0, 0, 0, false, 2, false⟩,
  ⟨0x2800, 96, 0x12, 1, "MD_TRIP_COUNT", .u32, .ro, 0, .any, 0, 0, 0, false, 4, false⟩,
  ⟨0x2800, 96, 0x13, 1, "MD_TV_COUNT", .u32, .ro, 0, .any, 0, 0, 0, false, 4, false⟩]

/-- The 0x2900+A group as R145 of 05_measurement.md sets it out. -/
def Od.rows05_2900_A : List OdRow := [
  ⟨0x2900, 16, 0x01, 1, "SAR_GAIN", .f32, .rw, 0x3F800000, .any, 0, 0, 0, true, 4, false⟩,
  ⟨0x2900, 16, 0x02, 1, "SAR_OFFSET", .f32, .rw, 0, .any, 0, 0, 0, true, 4, false⟩,
  ⟨0x2900, 16, 0x03, 1, "SAR_UNIT", .u16, .rw, 0, .any, 0, 29, 0, true, 2, false⟩,
  ⟨0x2900, 16, 0x04, 1, "SAR_STATUS", .u8, .ro, 0, .any, 0, 0, 0, false, 1, false⟩,
  ⟨0x2900, 16, 0x05, 1, "SAR_STATUS_CLR", .u8, .wo, 0, .any, 0xFE, 0, 0, false, 1, false⟩,
  ⟨0x2900, 16, 0x06, 1, "SAR_OVR_COUNT", .u32, .ro, 0, .any, 0, 0, 0, false, 4, false⟩]

/-- The 0x2A00 group as R146 of 05_measurement.md sets it out. -/
def Od.rows05_2A00 : List OdRow := [
  ⟨0x2A00, 1, 0x01, 1, "Q_LEVEL", .u16, .ro, 0, .int 0 1024 1 none, 0, 0, 0, false, 2, false⟩,
  ⟨0x2A00, 1, 0x02, 1, "Q_HIGH", .u16, .ro, 0, .int 0 1024 1 none, 0, 0, 0, false, 2, false⟩,
  ⟨0x2A00, 1, 0x03, 1, "Q_DROPS", .u32, .ro, 0, .any, 0, 0, 0, false, 4, false⟩,
  ⟨0x2A00, 1, 0x04, 1, "Q_HOST_POP", .octets, .ro, 0, .any, 0, 0, 0, false, 16, false⟩,
  ⟨0x2A00, 1, 0x05, 1, "Q_HOST_AGE", .u16, .rw, 1000, .int 10 60000 1 none, 0, 0, 10, true, 2, false⟩,
  ⟨0x2A00, 1, 0x06, 1, "Q_AGED", .u32, .ro, 0, .any, 0, 0, 0, false, 4, false⟩,
  ⟨0x2A00, 1, 0x07, 1, "Q_DST_OFF", .u32, .ro, 0, .any, 0, 0, 0, false, 4, false⟩,
  ⟨0x2A00, 1, 0x08, 1, "MEAS_MCLK_EN", .u8, .rw, 0, .any, 192, 0, 0, true, 1, false⟩,
  ⟨0x2A00, 1, 0x09, 1, "Q_CLR", .u8, .wo, 0, .int 1 1 1 none, 0, 0, 0, false, 1, false⟩]

/-- The 0x2A20+S group as R147 of 05_measurement.md sets it out. -/
def Od.rows05_2A20_S : List OdRow := [
  ⟨0x2A20, 8, 0x01, 1, "SLICE_MODE", .u8, .rws, 0, .int 0 1 1 none, 0, 0, 0, true, 1, false⟩,
  ⟨0x2A20, 8, 0x02, 1, "SLICE_STREAM_IN", .u8, .rws, 0, .int 0 15 1 none, 0, 0, 0, true, 1, false⟩,
  ⟨0x2A20, 8, 0x03, 1, "SLICE_MU", .u8, .rw, 14, .int 10 18 1 none, 0, 0, 0, true, 1, false⟩,
  ⟨0x2A20, 8, 0x04, 1, "SLICE_OFS", .i32, .ro, 0, .any, 0, 0, 0, false, 4, false⟩,
  ⟨0x2A20, 8, 0x05, 1, "SLICE_GAIN", .i32, .ro, 0, .any, 0, 0, 0, false, 4, false⟩,
  ⟨0x2A20, 8, 0x06, 1, "SLICE_SKEW", .i16, .ro, 0, .any, 0, 0, 0, false, 2, false⟩,
  ⟨0x2A20, 8, 0x07, 1, "SLICE_CONV", .u8, .ro, 0, .any, 0, 0, 0, false, 1, false⟩,
  ⟨0x2A20, 8, 0x08, 1, "SLICE_BUSY", .u32, .ro, 0, .any, 0, 0, 0, false, 4, false⟩,
  ⟨0x2A20, 8, 0x09, 1, "SLICE_CONVS", .u64, .ro, 0, .any, 0, 0, 0, false, 8, false⟩,
  ⟨0x2A20, 8, 0x0A, 1, "SLICE_CONV_CLR", .u8, .wo, 0, .int 8 8 1 none, 0, 0, 0, false, 1, false⟩]

/-- The 0x2A40+QG group as R148 of 05_measurement.md sets it out. -/
def Od.rows05_2A40_QG : List OdRow := [
  ⟨0x2A40, 16, 0x01, 1, "QG_LEGS", .octets, .rw, 0, .any, 0, 0, 0, true, 24, false⟩,
  ⟨0x2A40, 16, 0x02, 1, "QG_SKIPS", .u32, .ro, 0, .any, 0, 0, 0, false, 4, false⟩]

/-- The 0x2A80+TE group as R149 of 05_measurement.md sets it out. -/
def Od.rows05_2A80_TE : List OdRow := [
  ⟨0x2A80, 128, 0x01, 1, "TRG_SRC", .u16, .rw, 0, .any, 0, 0, 0, true, 2, false⟩,
  ⟨0x2A80, 128, 0x02, 1, "TRG_DIV", .u8, .rw, 1, .int 1 255 1 none, 0, 0, 0, true, 1, false⟩,
  ⟨0x2A80, 128, 0x03, 1, "TRG_DIV_PH", .u8, .rw, 0, .int 0 254 1 none, 0, 0, 0, true, 1, false⟩,
  ⟨0x2A80, 128, 0x04, 1, "TRG_DELAY", .u32, .rw, 0, .int 0 4194300 2 none, 0, 0, 11, true, 4, false⟩,
  ⟨0x2A80, 128, 0x05, 1, "TRG_CHAN", .u8, .rw, 0, .any, 0, 0, 0, true, 1, false⟩,
  ⟨0x2A80, 128, 0x06, 1, "TRG_DST", .u8, .rw, 255, .int 0 127 1 (some 0xFF), 0, 0, 0, true, 1, false⟩,
  ⟨0x2A80, 128, 0x07, 1, "TRG_SLICE", .u8, .rw, 255, .int 0 7 1 (some 0xFF), 0, 0, 0, true, 1, false⟩,
  ⟨0x2A80, 128, 0x08, 1, "TRG_AVG", .u8, .rw, 1, .oneOf [1, 2, 4, 8, 16], 0, 0, 0, true, 1, false⟩,
  ⟨0x2A80, 128, 0x09, 1, "TRG_QUIET", .u8, .rw, 0, .any, 112, 0, 0, true, 1, false⟩,
  ⟨0x2A80, 128, 0x0A, 1, "TRG_QPRE", .u16, .rw, 300, .int 300 10000 1 none, 0, 0, 11, true, 2, false⟩,
  ⟨0x2A80, 128, 0x0B, 1, "TRG_QPOST", .u16, .rw, 100, .int 100 10000 1 none, 0, 0, 11, true, 2, false⟩,
  ⟨0x2A80, 128, 0x0C, 1, "TRG_PREDICT", .u8, .rw, 0, .int 0 2 1 none, 0, 0, 0, true, 1, false⟩,
  ⟨0x2A80, 128, 0x0D, 1, "TRG_SKIP_MAX", .u8, .rw, 3, .int 1 255 1 none, 0, 0, 0, true, 1, false⟩,
  ⟨0x2A80, 128, 0x0E, 1, "TRG_SEQ", .u8, .ro, 0, .any, 0, 0, 0, false, 1, false⟩,
  ⟨0x2A80, 128, 0x0F, 1, "TRG_FIRED", .u32, .ro, 0, .any, 0, 0, 0, false, 4, false⟩,
  ⟨0x2A80, 128, 0x10, 1, "TRG_SKIPPED", .u32, .ro, 0, .any, 0, 0, 0, false, 4, false⟩,
  ⟨0x2A80, 128, 0x11, 1, "TRG_OVERRUNS", .u32, .ro, 0, .any, 0, 0, 0, false, 4, false⟩]

/-- The 0x3000+LS group as R184 of 06_loop_engine.md sets it out. -/
def Od.rows06_3000_LS : List OdRow := [
  ⟨0x3000, 128, 0x01, 1, "LS_STATE", .u8, .ro, 0, .int 0 3 1 none, 0, 0, 0, false, 1, false⟩,
  ⟨0x3000, 128, 0x02, 1, "LS_CMD", .u8, .wo, 0, .int 1 5 1 none, 0, 0, 0, false, 1, false⟩,
  ⟨0x3000, 128, 0x03, 1, "LS_PROGRAM", .domain, .rw, 0, .any, 0, 0, 0, true, 33554432, true⟩,
  ⟨0x3000, 128, 0x04, 1, "LS_COST", .u32, .ro, 0, .any, 0, 0, 0, false, 4, false⟩,
  ⟨0x3000, 128, 0x05, 1, "LS_RELEASE", .u16, .rw, 0, .any, 0, 0, 0, true, 2, false⟩,
  ⟨0x3000, 128, 0x06, 1, "LS_REL_DIV", .u8, .rw, 1, .int 1 255 1 none, 0, 0, 0, true, 1, false⟩,
  ⟨0x3000, 128, 0x07, 1, "LS_DL_MODE", .u8, .rw, 0, .int 0 1 1 none, 0, 0, 0, true, 1, false⟩,
  ⟨0x3000, 128, 0x08, 1, "LS_DL_CAR", .u8, .rw, 0, .int 0 63 1 none, 0, 0, 0, true, 1, false⟩,
  ⟨0x3000, 128, 0x09, 1, "LS_DL_REL", .u32, .rw, 0x4E20, .int 1000 10000000 1 none, 0, 0, 11, true, 4, false⟩,
  ⟨0x3000, 128, 0x0A, 1, "LS_DL_MARGIN", .u16, .rw, 100, .int 40 2000 1 none, 0, 0, 11, true, 2, false⟩,
  ⟨0x3000, 128, 0x0B, 1, "LS_IN_TIMEOUT", .u32, .rw, 0x2710, .int 0 9999000 1 none, 0, 0, 11, true, 4, false⟩,
  ⟨0x3000, 128, 0x0C, 1, "LS_PIPE", .u8, .rw, 255, .int 0 3 1 (some 0xFF), 0, 0, 0, true, 1, false⟩,
  ⟨0x3000, 128, 0x0D, 1, "LS_PIPE_ACT", .u8, .ro, 255, .int 0 3 1 (some 0xFF), 0, 0, 0, false, 1, false⟩,
  ⟨0x3000, 128, 0x0E, 1, "LS_CTRL", .u16, .rw, 0, .any, 0xFFFE, 0, 0, true, 2, false⟩,
  ⟨0x3000, 128, 0x0F, 1, "LS_MISS_MAX", .u8, .rw, 3, .int 1 255 1 none, 0, 0, 0, true, 1, false⟩,
  ⟨0x3000, 128, 0x10, 1, "LS_ABSENT_MAX", .u8, .rw, 4, .int 1 255 1 none, 0, 0, 0, true, 1, false⟩,
  ⟨0x3000, 128, 0x11, 1, "LS_STATUS", .u16, .ro, 0, .any, 0, 0, 0, false, 2, false⟩,
  ⟨0x3000, 128, 0x12, 1, "LS_STATUS_CLR", .u16, .wo, 0, .any, 0xFE00, 0, 0, false, 2, false⟩,
  ⟨0x3000, 128, 0x13, 1, "LS_RUNS", .u64, .ro, 0, .any, 0, 0, 0, false, 8, false⟩,
  ⟨0x3000, 128, 0x14, 1, "LS_MISSES", .u32, .ro, 0, .any, 0, 0, 0, false, 4, false⟩,
  ⟨0x3000, 128, 0x15, 1, "LS_MISS_RUN", .u8, .ro, 0, .any, 0, 0, 0, false, 1, false⟩,
  ⟨0x3000, 128, 0x16, 1, "LS_EXEC_LAST", .u32, .ro, 0, .any, 0, 0, 11, false, 4, false⟩,
  ⟨0x3000, 128, 0x17, 1, "LS_EXEC_MAX", .u32, .ro, 0, .any, 0, 0, 11, false, 4, false⟩,
  ⟨0x3000, 128, 0x18, 1, "LS_SLACK_MIN", .i32, .ro, 0x7FFFFFFF, .any, 0, 0, 11, false, 4, false⟩,
  ⟨0x3000, 128, 0x19, 1, "LS_OUT_UNBOUND", .u32, .ro, 0, .any, 0, 0, 0, false, 4, false⟩,
  ⟨0x3000, 128, 0x1A, 1, "LS_NANS", .u32, .ro, 0, .any, 0, 0, 0, false, 4, false⟩,
  ⟨0x3000, 128, 0x1B, 1, "LS_UNSCHED", .u32, .ro, 0, .any, 0, 0, 0, false, 4, false⟩,
  ⟨0x3000, 128, 0x1C, 1, "LS_IN_STRAY", .u32, .ro, 0, .any, 0, 0, 0, false, 4, false⟩,
  ⟨0x3000, 128, 0x1D, 1, "LS_PLAUS_COUNT", .u32, .ro, 0, .any, 0, 0, 0, false, 4, false⟩,
  ⟨0x3000, 128, 0x1E, 1, "LS_ABSENT_RUN", .u8, .ro, 0, .any, 0, 0, 0, false, 1, false⟩,
  ⟨0x3000, 128, 0x20, 1, "LS_BANK_ACT", .u8, .ro, 0, .int 0 1 1 none, 0, 0, 0, false, 1, false⟩,
  ⟨0x3000, 128, 0x21, 1, "LS_BANK_SWAP", .u8, .wo, 0, .int 1 1 1 none, 0, 0, 0, false, 1, false⟩,
  ⟨0x3000, 128, 0x22, 1, "LS_BANK_STATE", .u8, .ro, 0, .int 0 1 1 none, 0, 0, 0, false, 1, false⟩,
  ⟨0x3000, 128, 0x23, 1, "LS_COEF_IMAGE", .domain, .rw, 0, .any, 0, 0, 0, false, 33554432, true⟩,
  ⟨0x3000, 128, 0x24, 1, "LS_COEF_ADDR", .u16, .rw, 0, .any, 0, 0, 0, false, 2, false⟩,
  ⟨0x3000, 128, 0x25, 1, "LS_COEF_WORD", .u32, .rw, 0, .any, 0, 0, 0, false, 4, false⟩,
  ⟨0x3000, 128, 0x26, 1, "LS_COEF_DIRECT", .u64, .wo, 0, .any, 0xFFFF0000, 0, 0, false, 8, false⟩,
  ⟨0x3000, 128, 0x27, 1, "LS_DIRECTS", .u32, .ro, 0, .any, 0, 0, 0, false, 4, false⟩,
  ⟨0x3000, 128, 0x28, 1, "LS_COEF_ACTIVE", .domain, .ro, 0, .any, 0, 0, 0, false, 33554432, true⟩,
  ⟨0x3000, 128, 0x40, 16, "LS_IN", .u32, .rw, 0, .any, 0xFFC0, 0, 0, true, 4, false⟩,
  ⟨0x3000, 128, 0x50, 16, "LS_IN_VAL", .f32, .rw, 0, .flt 0xFF7FFFFF 0x7F7FFFFF false, 0, 0, 0, false, 4, false⟩,
  ⟨0x3000, 128, 0x60, 16, "LS_IN_NOW", .u64, .ro, 0, .any, 0, 0, 0, false, 8, false⟩,
  ⟨0x3000, 128, 0x70, 8, "LS_OUT", .f32, .ro, 0, .any, 0, 0, 0, false, 4, false⟩]

/-- The 0x3080 group as R185 of 06_loop_engine.md sets it out. -/
def Od.rows06_3080 : List OdRow := [
  ⟨0x3080, 1, 0x01, 1, "LOOP_UTIL", .u16, .ro, 0, .int 0 1000 1 none, 0, 0, 27, false, 2, false⟩,
  ⟨0x3080, 1, 0x02, 1, "LOOP_PIPE_LOAD", .octets, .ro, 0, .any, 0, 0, 27, false, 8, false⟩,
  ⟨0x3080, 1, 0x03, 1, "LOOP_MEM_FREE", .u32, .ro, 0, .any, 0, 0, 22, false, 4, false⟩,
  ⟨0x3080, 1, 0x04, 1, "LOOP_ECC_C", .u32, .ro, 0, .any, 0, 0, 0, false, 4, false⟩,
  ⟨0x3080, 1, 0x05, 1, "LOOP_INTAKE", .u64, .ro, 0, .any, 0, 0, 0, false, 8, false⟩,
  ⟨0x3080, 1, 0x06, 1, "LOOP_PREEMPTS", .u64, .ro, 0, .any, 0, 0, 0, false, 8, false⟩]

/-- The 0x3100 group as R205 of 07_run_ahead.md sets it out. -/
def Od.rows07_3100 : List OdRow := [
  ⟨0x3100, 1, 0x01, 1, "RA_SLOTS", .u8, .ro, 0, .int 0 128 1 none, 0, 0, 0, false, 1, false⟩,
  ⟨0x3100, 1, 0x02, 1, "RA_COMMITS_ALL", .u64, .ro, 0, .any, 0, 0, 0, false, 8, false⟩,
  ⟨0x3100, 1, 0x03, 1, "RA_SQUASHES_ALL", .u64, .ro, 0, .any, 0, 0, 0, false, 8, false⟩,
  ⟨0x3100, 1, 0x04, 1, "RA_HOLDS_ALL", .u64, .ro, 0, .any, 0, 0, 0, false, 8, false⟩,
  ⟨0x3100, 1, 0x05, 1, "RA_STAGE_MAX", .u32, .ro, 0, .any, 0, 0, 11, false, 4, false⟩]

/-- The 0x3180+LS group as R206 of 07_run_ahead.md sets it out. -/
def Od.rows07_3180_LS : List OdRow := [
  ⟨0x3180, 128, 0x01, 1, "RA_CTRL", .u16, .rw, 0, .any, 0xFFFC, 0, 0, true, 2, false⟩,
  ⟨0x3180, 128, 0x02, 1, "RA_N_PRED", .u8, .rw, 0, .int 0 4 1 none, 0, 0, 0, true, 1, false⟩,
  ⟨0x3180, 128, 0x03, 1, "RA_GAIN_BASE", .u16, .rw, 0, .int 0 1023 1 none, 0, 0, 0, true, 2, false⟩,
  ⟨0x3180, 128, 0x04, 1, "RA_SQUASH_MAX", .u8, .rw, 8, .int 1 255 1 none, 0, 0, 0, true, 1, false⟩,
  ⟨0x3180, 128, 0x05, 1, "RA_COST", .u32, .ro, 0, .any, 0, 0, 0, false, 4, false⟩,
  ⟨0x3180, 128, 0x06, 1, "RA_STATUS", .u16, .ro, 0, .any, 0, 0, 0, false, 2, false⟩,
  ⟨0x3180, 128, 0x07, 1, "RA_STATUS_CLR", .u16, .wo, 0, .any, 0xFEF8, 0, 0, false, 2, false⟩,
  ⟨0x3180, 128, 0x08, 1, "RA_COMMITS", .u64, .ro, 0, .any, 0, 0, 0, false, 8, false⟩,
  ⟨0x3180, 128, 0x09, 1, "RA_SQUASHES", .u32, .ro, 0, .any, 0, 0, 0, false, 4, false⟩,
  ⟨0x3180, 128, 0x0A, 1, "RA_RECOMPUTES", .u32, .ro, 0, .any, 0, 0, 0, false, 4, false⟩,
  ⟨0x3180, 128, 0x0B, 1, "RA_HOLDS", .u32, .ro, 0, .any, 0, 0, 0, false, 4, false⟩,
  ⟨0x3180, 128, 0x0D, 1, "RA_FALLBACKS", .u32, .ro, 0, .any, 0, 0, 0, false, 4, false⟩,
  ⟨0x3180, 128, 0x0E, 1, "RA_UNMATCHED", .u32, .ro, 0, .any, 0, 0, 0, false, 4, false⟩,
  ⟨0x3180, 128, 0x0F, 1, "RA_SQUASH_RUN", .u8, .ro, 0, .any, 0, 0, 0, false, 1, false⟩,
  ⟨0x3180, 128, 0x10, 4, "RA_PRED", .u32, .rw, 0, .any, 0xFE00FFF0, 0, 0, true, 4, false⟩,
  ⟨0x3180, 128, 0x18, 4, "RA_WIN", .f32, .rw, 0x3F800000, .flt 0 2139095039 false, 0, 0, 0, true, 4, false⟩,
  ⟨0x3180, 128, 0x20, 4, "RA_RES_LAST", .f32, .ro, 0, .any, 0, 0, 0, false, 4, false⟩,
  ⟨0x3180, 128, 0x28, 4, "RA_RES_PEAK", .f32, .ro, 0, .any, 0, 0, 0, false, 4, false⟩]

/-- The 0x3200 group as R235 of 08_cascade.md sets it out. -/
def Od.rows08_3200 : List OdRow := [
  ⟨0x3200, 1, 0x01, 1, "STR_USED", .u32, .ro, 0, .any, 0, 0, 0, false, 4, false⟩,
  ⟨0x3200, 1, 0x02, 1, "CAS_GLIDE_STEPS", .u32, .ro, 0, .any, 0, 0, 0, false, 4, false⟩,
  ⟨0x3200, 1, 0x03, 1, "CAS_RECORDS", .u32, .ro, 0, .any, 0, 0, 0, false, 4, false⟩]

/-- The 0x3220+ST group as R236 of 08_cascade.md sets it out. -/
def Od.rows08_3220_ST : List OdRow := [
  ⟨0x3220, 32, 0x01, 1, "STR_ID", .u16, .rws, 0xFFFF, .int 0 1023 1 (some 0xFFFF), 0, 0, 0, true, 2, false⟩,
  ⟨0x3220, 32, 0x02, 1, "STR_STATE", .u8, .ro, 0, .int 0 5 1 none, 0, 0, 0, false, 1, false⟩,
  ⟨0x3220, 32, 0x03, 1, "STR_CMD", .u8, .wo, 0, .int 1 4 1 none, 0, 0, 0, false, 1, false⟩,
  ⟨0x3220, 32, 0x04, 1, "STR_CMD_STATUS", .u8, .ro, 0, .int 0 3 1 none, 0, 0, 0, false, 1, false⟩,
  ⟨0x3220, 32, 0x05, 1, "STR_CTRL", .u16, .rws, 3, .any, 0xFFFC, 0, 0, true, 2, false⟩,
  ⟨0x3220, 32, 0x06, 1, "STR_CAR_P", .u32, .rws, 0x30D4, .int 500 1048575 1 none, 0, 0, 24, true, 4, false⟩,
  ⟨0x3220, 32, 0x07, 1, "STR_GLIDE_DIV", .u8, .rws, 64, .int 8 255 1 none, 0, 0, 0, true, 1, false⟩,
  ⟨0x3220, 32, 0x08, 1, "STR_SLOT", .u8, .rws, 255, .int 0 127 1 (some 0xFF), 0, 0, 0, true, 1, false⟩,
  ⟨0x3220, 32, 0x09, 1, "STR_TRACK", .u16, .rws, 0xFFFF, .int 0 511 1 (some 0xFFFF), 0, 0, 0, true, 2, false⟩,
  ⟨0x3220, 32, 0x0A, 1, "STR_NACT_IN", .u8, .rws, 255, .int 0 15 1 (some 0xFF), 0, 0, 0, true, 1, false⟩,
  ⟨0x3220, 32, 0x0B, 1, "STR_SET_IN", .u8, .rws, 255, .int 0 15 1 (some 0xFF), 0, 0, 0, true, 1, false⟩,
  ⟨0x3220, 32, 0x0C, 1, "STR_APPLY_LAG", .u8, .rws, 1, .int 1 8 1 none, 0, 0, 0, true, 1, false⟩,
  ⟨0x3220, 32, 0x0D, 1, "STR_N_MIN", .u8, .rws, 1, .int 1 48 1 none, 0, 0, 0, true, 1, false⟩,
  ⟨0x3220, 32, 0x10, 1, "STR_PC_V1", .f32, .rws, 0x44480000, .flt 0 2139095040 true, 0, 0, 1, true, 4, false⟩,
  ⟨0x3220, 32, 0x11, 1, "STR_PC_VSET", .f32, .rws, 0x44FA0000, .flt 0 2139095040 true, 0, 0, 1, true, 4, false⟩,
  ⟨0x3220, 32, 0x12, 1, "STR_PC_RAMP", .f32, .rws, 0x447A0000, .flt 0 2139095040 true, 0, 0, 28, true, 4, false⟩,
  ⟨0x3220, 32, 0x13, 1, "STR_PC_TOL", .f32, .rws, 0x41A00000, .flt 0 2139095040 true, 0, 0, 1, true, 4, false⟩,
  ⟨0x3220, 32, 0x14, 1, "STR_PC_TIMEOUT", .u32, .rws, 0x7530, .int 1000 600000 1 none, 0, 0, 9, true, 4, false⟩,
  ⟨0x3220, 32, 0x15, 1, "STR_BAL_DEV", .f32, .rw, 0x42C80000, .flt 0 2139095040 true, 0, 0, 1, true, 4, false⟩,
  ⟨0x3220, 32, 0x16, 1, "STR_BAL_TIME", .u32, .rw, 20, .int 2 60000 1 none, 0, 0, 9, true, 4, false⟩,
  ⟨0x3220, 32, 0x17, 1, "STR_BYP_TIME", .u16, .rws, 2, .int 1 1000 1 none, 0, 0, 9, true, 2, false⟩,
  ⟨0x3220, 32, 0x18, 1, "STR_BYP_DV", .f32, .rws, 0x42480000, .flt 0 2139095040 true, 0, 0, 1, true, 4, false⟩,
  ⟨0x3220, 32, 0x19, 1, "STR_RIDE_TIME", .u32, .rws, 500, .int 0 60000 1 none, 0, 0, 9, true, 4, false⟩,
  ⟨0x3220, 32, 0x1A, 1, "STR_RIDE_VMIN", .f32, .rws, 0x44BB8000, .flt 0 0x7F800000 false, 0, 0, 1, true, 4, false⟩,
  ⟨0x3220, 32, 0x20, 1, "STR_MEMBERS", .octets, .ro, 0, .any, 0, 0, 0, false, 192, false⟩,
  ⟨0x3220, 32, 0x21, 1, "STR_INDEX", .octets, .ro, 0xFFFFFFFFFFFFFFFFFFFFFFFFFFFFFFFFFFFFFFFFFFFFFFFFFFFFFFFFFFFFFFFFFFFFFFFFFFFFFFFFFFFFFFFFFFFFFFFF, .any, 0, 0, 0, false, 48, false⟩,
  ⟨0x3220, 32, 0x22, 1, "STR_N_ACTIVE", .u8, .ro, 0, .int 0 48 1 none, 0, 0, 0, false, 1, false⟩,
  ⟨0x3220, 32, 0x23, 1, "STR_SPARES_LEFT", .u8, .ro, 0, .int 0 47 1 none, 0, 0, 0, false, 1, false⟩,
  ⟨0x3220, 32, 0x24, 1, "STR_LOSSES", .u8, .ro, 0, .any, 0, 0, 0, false, 1, false⟩,
  ⟨0x3220, 32, 0x25, 1, "STR_STATUS", .u16, .ro, 0, .any, 0, 0, 0, false, 2, false⟩,
  ⟨0x3220, 32, 0x26, 1, "STR_BYP_REQ", .u64, .ro, 0, .any, 0, 0, 0, false, 8, false⟩,
  ⟨0x3220, 32, 0x27, 1, "STR_TRACK_MODE", .u8, .ro, 0, .int 0 4 1 none, 0, 0, 0, false, 1, false⟩,
  ⟨0x3220, 32, 0x28, 1, "STR_JUMP_LAST", .f32, .ro, 0, .any, 0, 0, 13, false, 4, false⟩,
  ⟨0x3220, 32, 0x29, 1, "STR_RESPREADS", .u32, .ro, 0, .any, 0, 0, 0, false, 4, false⟩,
  ⟨0x3220, 32, 0x2A, 1, "STR_BLOCKS", .u32, .ro, 0, .any, 0, 0, 0, false, 4, false⟩,
  ⟨0x3220, 32, 0x2B, 1, "STR_MEAN_V", .f32, .ro, 0, .any, 0, 0, 1, false, 4, false⟩]

/-- The 0x2900+A group as R257 of 09_lv_port_motor.md sets it out. -/
def Od.rows09_2900_A : List OdRow := [
  ⟨0x2900, 16, 0x10, 1, "LVC_CTRL", .u8, .rw, 0, .any, 252, 0, 0, true, 1, false⟩,
  ⟨0x2900, 16, 0x11, 1, "LVC_HI", .i16, .rw, 0x7FFF, .any, 0, 0, 0, true, 2, false⟩,
  ⟨0x2900, 16, 0x12, 1, "LVC_LO", .i16, .rw, 0x8000, .any, 0, 0, 0, true, 2, false⟩,
  ⟨0x2900, 16, 0x13, 1, "LVC_HYST", .u16, .rw, 512, .int 0 8192 1 none, 0, 0, 0, true, 2, false⟩,
  ⟨0x2900, 16, 0x14, 1, "LVC_TRIP_HI", .i16, .rw, 0x7FFF, .any, 0, 0, 0, true, 2, false⟩,
  ⟨0x2900, 16, 0x15, 1, "LVC_TRIP_LO", .i16, .rw, 0x8000, .any, 0, 0, 0, true, 2, false⟩,
  ⟨0x2900, 16, 0x16, 1, "LVC_TRIP_DGL", .u16, .rw, 100, .int 20 2000 2 none, 0, 0, 11, true, 2, false⟩,
  ⟨0x2900, 16, 0x17, 1, "LVC_STATUS", .u8, .ro, 0, .any, 0, 0, 0, false, 1, false⟩,
  ⟨0x2900, 16, 0x18, 1, "LVC_STATUS_CLR", .u8, .wo, 0, .int 8 8 1 none, 0, 0, 0, false, 1, false⟩,
  ⟨0x2900, 16, 0x19, 1, "LVC_TRIP_COUNT", .u32, .ro, 0, .any, 0, 0, 0, false, 4, false⟩]

/-- The 0x3400 group as R258 of 09_lv_port_motor.md sets it out. -/
def Od.rows09_3400 : List OdRow := [
  ⟨0x3400, 1, 0x01, 1, "LVP_USED", .u64, .ro, 0, .any, 0, 0, 0, false, 8, false⟩,
  ⟨0x3400, 1, 0x02, 1, "LV_OV3_CUTS", .u32, .ro, 0, .any, 0, 0, 0, false, 4, false⟩,
  ⟨0x3400, 1, 0x03, 1, "LV_BRAKE_LOST", .u32, .ro, 0, .any, 0, 0, 0, false, 4, false⟩,
  ⟨0x3400, 1, 0x04, 1, "LV_FLY_DECISIONS", .u32, .ro, 0, .any, 0, 0, 0, false, 4, false⟩]

/-- The 0x3440+E group as R259 of 09_lv_port_motor.md sets it out. -/
def Od.rows09_3440_E : List OdRow := [
  ⟨0x3440, 64, 0x01, 1, "LVP_KIND", .u8, .rw, 0, .int 0 3 1 none, 0, 0, 0, true, 1, false⟩,
  ⟨0x3440, 64, 0x02, 1, "LVP_BUS", .u8, .rw, 255, .int 0 63 1 (some 0xFF), 0, 0, 0, true, 1, false⟩,
  ⟨0x3440, 64, 0x03, 1, "LVP_STATE", .u8, .ro, 0, .any, 0, 0, 0, false, 1, false⟩,
  ⟨0x3440, 64, 0x04, 1, "LVP_CMD", .u8, .wo, 0, .int 1 3 1 none, 0, 0, 0, false, 1, false⟩,
  ⟨0x3440, 64, 0x05, 1, "LVP_CMD_STATUS", .u8, .ro, 0, .int 0 3 1 none, 0, 0, 0, false, 1, false⟩,
  ⟨0x3440, 64, 0x06, 1, "LVP_STATUS", .u16, .ro, 0, .any, 0, 0, 0, false, 2, false⟩,
  ⟨0x3440, 64, 0x07, 1, "LVP_STATUS_CLR", .u16, .wo, 0, .any, 0xFE00, 0, 0, false, 2, false⟩,
  ⟨0x3440, 64, 0x10, 1, "DRV_CM_BLOCK", .u16, .rw, 0xFFFF, .int 0 511 1 none, 0, 0, 0, true, 2, false⟩,
  ⟨0x3440, 64, 0x11, 1, "DRV_FS_BLOCK", .u16, .rw, 0xFFFF, .int 0 511 1 (some 0xFFFF), 0, 0, 0, true, 2, false⟩,
  ⟨0x3440, 64, 0x12, 1, "DRV_BUS_IN", .u8, .rw, 255, .int 0 15 1 (some 0xFF), 0, 0, 0, true, 1, false⟩,
  ⟨0x3440, 64, 0x13, 1, "DRV_PHASE", .u8, .ro, 255, .int 0 7 1 (some 0xFF), 0, 0, 0, false, 1, false⟩,
  ⟨0x3440, 64, 0x14, 1, "DRV_MODE", .u8, .ro, 255, .int 0 5 1 (some 0xFF), 0, 0, 0, false, 1, false⟩,
  ⟨0x3440, 64, 0x15, 1, "DRV_SPEED", .f32, .ro, 0, .any, 0, 0, 7, false, 4, false⟩,
  ⟨0x3440, 64, 0x16, 1, "DRV_DIR_SEEN", .i8, .ro, 0, .int (-1) 1 1 none, 0, 0, 0, false, 1, false⟩,
  ⟨0x3440, 64, 0x17, 1, "DRV_STARTS", .u32, .ro, 0, .any, 0, 0, 0, false, 4, false⟩,
  ⟨0x3440, 64, 0x18, 1, "DRV_CATCHES", .u32, .ro, 0, .any, 0, 0, 0, false, 4, false⟩,
  ⟨0x3440, 64, 0x19, 1, "DRV_REVERSALS", .u32, .ro, 0, .any, 0, 0, 0, false, 4, false⟩,
  ⟨0x3440, 64, 0x1A, 1, "DRV_FAILS", .u32, .ro, 0, .any, 0, 0, 0, false, 4, false⟩,
  ⟨0x3440, 64, 0x20, 1, "LVB_VIN", .u8, .rw, 255, .int 0 95 1 (some 0xFF), 0, 0, 0, true, 1, false⟩,
  ⟨0x3440, 64, 0x21, 1, "LVB_FEED", .u32, .rw, 0, .any, 0, 0, 0, true, 4, false⟩,
  ⟨0x3440, 64, 0x22, 1, "LVB_CH_BLOCK", .u16, .rw, 0xFFFF, .int 0 511 1 (some 0xFFFF), 0, 0, 0, true, 2, false⟩,
  ⟨0x3440, 64, 0x23, 1, "LVB_OV1", .f32, .rw, 0x445C0000, .any, 0, 0, 1, true, 4, false⟩,
  ⟨0x3440, 64, 0x24, 1, "LVB_OV2", .f32, .rw, 0x44688000, .any, 0, 0, 1, true, 4, false⟩,
  ⟨0x3440, 64, 0x25, 1, "LVB_UV1", .f32, .rw, 0x442F0000, .any, 0, 0, 1, true, 4, false⟩,
  ⟨0x3440, 64, 0x26, 1, "LVB_UV2", .f32, .rw, 0x441B0000, .any, 0, 0, 1, true, 4, false⟩,
  ⟨0x3440, 64, 0x27, 1, "LVB_HYST", .f32, .rw, 0x41200000, .any, 0, 0, 1, true, 4, false⟩,
  ⟨0x3440, 64, 0x28, 1, "LVB_V", .f32, .ro, 0, .any, 0, 0, 1, false, 4, false⟩,
  ⟨0x3440, 64, 0x29, 1, "LVB_OV2_COUNT", .u32, .ro, 0, .any, 0, 0, 0, false, 4, false⟩,
  ⟨0x3440, 64, 0x2A, 1, "LVB_UV2_COUNT", .u32, .ro, 0, .any, 0, 0, 0, false, 4, false⟩,
  ⟨0x3440, 64, 0x30, 1, "ACB_FREQ", .u32, .rw, 0xC350, .int 40000 70000 1 none, 0, 0, 0, true, 4, false⟩,
  ⟨0x3440, 64, 0x31, 1, "ACB_PHASE", .f32, .rw, 0, .flt 0x0 0x3F800000 false, 0, 0, 13, true, 4, false⟩,
  ⟨0x3440, 64, 0x32, 1, "ACB_THETA_IN", .u8, .rw, 255, .int 0 15 1 (some 0xFF), 0, 0, 0, true, 1, false⟩]

/-- The 0x3500 group as R273 of 10_feedback.md sets it out. -/
def Od.rows10_3500 : List OdRow := [
  ⟨0x3500, 1, 0x01, 1, "FB_CTRL", .u16, .rw, 0, .any, 0xFF00, 0, 0, true, 2, false⟩,
  ⟨0x3500, 1, 0x02, 1, "FB_SC_LINES", .u16, .rw, 1024, .int 1 65535 1 none, 0, 0, 0, true, 2, false⟩,
  ⟨0x3500, 1, 0x03, 1, "FB_POLE_PAIRS", .u8, .rw, 1, .int 1 64 1 none, 0, 0, 0, true, 1, false⟩,
  ⟨0x3500, 1, 0x04, 1, "FB_SC_QMIN", .f32, .rw, 0x3E800000, .flt 0x3C23D70A 0x3F800000 false, 0, 0, 0, true, 4, false⟩,
  ⟨0x3500, 1, 0x05, 1, "FB_SC_QMAX", .f32, .rw, 0x3FD851EC, .flt 0x3F800000 0x40800000 false, 0, 0, 0, true, 4, false⟩,
  ⟨0x3500, 1, 0x06, 1, "FB_SC_QN", .u8, .rw, 4, .int 1 255 1 none, 0, 0, 0, true, 1, false⟩,
  ⟨0x3500, 1, 0x07, 1, "FB_HALL_FILT", .u16, .rw, 1000, .int 0 10000 10 none, 0, 0, 11, true, 2, false⟩,
  ⟨0x3500, 1, 0x08, 1, "FB_HALL_OFS", .f32, .rw, 0, .flt 0x0 0x3F800000 false, 0, 0, 13, true, 4, false⟩,
  ⟨0x3500, 1, 0x09, 1, "FB_PLS_FILT", .u16, .rw, 0, .int 0 200 10 none, 0, 0, 11, true, 2, false⟩,
  ⟨0x3500, 1, 0x0A, 1, "FB_SPD_WIN", .u32, .rw, 1000, .int 10 1000000 1 none, 0, 0, 10, true, 4, false⟩,
  ⟨0x3500, 1, 0x0B, 1, "FB_SPD_TMO", .u32, .rw, 0x186A0, .int 100 10000000 1 none, 0, 0, 10, true, 4, false⟩,
  ⟨0x3500, 1, 0x0C, 1, "FB_IRQ_MASK", .u8, .rw, 0, .any, 248, 0, 0, true, 1, false⟩,
  ⟨0x3500, 1, 0x0D, 1, "FB_IRQ_PEND", .u8, .ro, 0, .any, 0, 0, 0, false, 1, false⟩,
  ⟨0x3500, 1, 0x0E, 1, "FB_IRQ_CLR", .u8, .wo, 0, .any, 0xF8, 0, 0, false, 1, false⟩,
  ⟨0x3500, 1, 0x0F, 1, "FB_STATUS", .u16, .ro, 0, .any, 0, 0, 0, false, 2, false⟩,
  ⟨0x3500, 1, 0x10, 1, "FB_STATUS_CLR", .u16, .wo, 0, .any, 0xFE00, 0, 0, false, 2, false⟩,
  ⟨0x3500, 1, 0x11, 1, "FB_SC_COUNT", .i64, .rw, 0, .any, 0, 0, 0, false, 8, false⟩,
  ⟨0x3500, 1, 0x12, 1, "FB_SC_ANGLE", .f32, .ro, 0, .flt 0x0 0x3F800000 false, 0, 0, 13, false, 4, false⟩,
  ⟨0x3500, 1, 0x13, 1, "FB_SC_SPEED", .f32, .ro, 0, .any, 0, 0, 14, false, 4, false⟩,
  ⟨0x3500, 1, 0x14, 1, "FB_SC_Q", .f32, .ro, 0, .any, 0, 0, 0, false, 4, false⟩,
  ⟨0x3500, 1, 0x15, 1, "FB_HALL_CODE", .u8, .ro, 0, .int 0 7 1 none, 0, 0, 0, false, 1, false⟩,
  ⟨0x3500, 1, 0x16, 1, "FB_HALL_SECTOR", .u8, .ro, 255, .int 0 5 1 (some 0xFF), 0, 0, 0, false, 1, false⟩,
  ⟨0x3500, 1, 0x17, 1, "FB_HALL_SPEED", .f32, .ro, 0, .any, 0, 0, 14, false, 4, false⟩,
  ⟨0x3500, 1, 0x18, 1, "FB_PLS_COUNT", .i64, .rw, 0, .any, 0, 0, 24, false, 8, false⟩,
  ⟨0x3500, 1, 0x19, 1, "FB_PLS_RATE", .f32, .ro, 0, .any, 0, 0, 25, false, 4, false⟩,
  ⟨0x3500, 1, 0x1A, 1, "FB_SC_AMP_COUNT", .u32, .ro, 0, .any, 0, 0, 0, false, 4, false⟩,
  ⟨0x3500, 1, 0x1B, 1, "FB_HALL_BAD_COUNT", .u32, .ro, 0, .any, 0, 0, 0, false, 4, false⟩,
  ⟨0x3500, 1, 0x1C, 3, "FB_DIRCHG_COUNT", .u32, .ro, 0, .any, 0, 0, 0, false, 4, false⟩]

/-- The 0x3600 group as R286 of 11_thermal.md sets it out. -/
def Od.rows11_3600 : List OdRow := [
  ⟨0x3600, 1, 0x01, 1, "TH_INTERVAL", .u16, .rws, 1000, .div 100 10000 1000000, 0, 0, 10, true, 2, false⟩,
  ⟨0x3600, 1, 0x02, 1, "TH_DIE_THR", .f32, .rw, 0x42DC0000, .flt 0x42700000 0x42F00000 false, 0, 0, 5, true, 4, false⟩,
  ⟨0x3600, 1, 0x03, 1, "TH_DIE_SHUT", .f32, .rw, 0x42FA0000, .flt 0xFF800000 0x42FA0000 false, 0, 0, 5, true, 4, false⟩,
  ⟨0x3600, 1, 0x04, 1, "TH_DIE_TEMP", .f32, .ro, 0, .any, 0, 0, 5, false, 4, false⟩,
  ⟨0x3600, 1, 0x05, 1, "TH_DIE_EACH", .octets, .ro, 0, .any, 0, 0, 5, false, 16, false⟩,
  ⟨0x3600, 1, 0x06, 1, "TH_SHUT_SLOTS", .u32, .ro, 0, .any, 0, 0, 0, false, 4, false⟩,
  ⟨0x3600, 1, 0x07, 1, "TH_SHUT_CLR", .u32, .wo, 0, .any, 0, 0, 0, false, 4, false⟩,
  ⟨0x3600, 1, 0x08, 1, "TH_SHUT_COUNT", .u32, .ro, 0, .any, 0, 0, 0, false, 4, false⟩,
  ⟨0x3600, 1, 0x09, 1, "TH_STATUS", .u8, .ro, 0, .any, 0, 0, 0, false, 1, false⟩,
  ⟨0x3600, 1, 0x0A, 1, "TH_STATUS_CLR", .u8, .wo, 0, .any, 0xF0, 0, 0, false, 1, false⟩]

/-- The 0x3620+C group as R287 of 11_thermal.md sets it out. -/
def Od.rows11_3620_C : List OdRow := [
  ⟨0x3620, 32, 0x01, 1, "TH_CTRL", .u8, .rw, 0, .any, 254, 0, 0, true, 1, false⟩,
  ⟨0x3620, 32, 0x02, 1, "TH_ISRC", .octets, .rw, 0xFFFFFFFFFFFF, .any, 0, 0, 0, true, 6, false⟩,
  ⟨0x3620, 32, 0x03, 1, "TH_ISCALE", .octets, .rw, 0x3F8000003F8000003F8000003F8000003F8000003F800000, .any, 0, 0, 0, true, 24, false⟩,
  ⟨0x3620, 32, 0x04, 1, "TH_VSRC", .octets, .rw, 0xFFFFFFFFFFFF, .any, 0, 0, 0, true, 6, false⟩,
  ⟨0x3620, 32, 0x05, 1, "TH_NTC_SRC", .u8, .rw, 255, .int 0 127 1 (some 0xFF), 0, 0, 0, true, 1, false⟩,
  ⟨0x3620, 32, 0x06, 1, "TH_V0", .f32, .rw, 0, .flt 0 0x7F800000 false, 0, 0, 1, true, 4, false⟩,
  ⟨0x3620, 32, 0x07, 1, "TH_R0", .f32, .rw, 0, .flt 0 0x7F800000 false, 0, 0, 15, true, 4, false⟩,
  ⟨0x3620, 32, 0x08, 1, "TH_R_TC", .f32, .rw, 0, .flt 0x0 0x3CA3D70A false, 0, 0, 0, true, 4, false⟩,
  ⟨0x3620, 32, 0x09, 1, "TH_I_STEP", .f32, .rw, 0x41200000, .flt 0 2139095040 true, 0, 0, 2, true, 4, false⟩,
  ⟨0x3620, 32, 0x0A, 1, "TH_V_REF", .f32, .rw, 0x447A0000, .flt 0 2139095040 true, 0, 0, 1, true, 4, false⟩,
  ⟨0x3620, 32, 0x0B, 1, "TH_ESW", .octets, .rw, 0, .any, 0, 0, 18, true, 64, false⟩,
  ⟨0x3620, 32, 0x0C, 1, "TH_FOSTER", .octets, .rw, 0, .any, 0, 0, 0, true, 32, false⟩,
  ⟨0x3620, 32, 0x0D, 1, "TH_T_AMB", .f32, .rw, 0x42200000, .flt 0xC2200000 0x42D20000 false, 0, 0, 5, true, 4, false⟩,
  ⟨0x3620, 32, 0x0E, 1, "TH_GROUP", .u8, .rw, 255, .int 0 15 1 (some 0xFF), 0, 0, 0, true, 1, false⟩,
  ⟨0x3620, 32, 0x0F, 1, "TH_TJ_THR", .f32, .rw, 0x430C0000, .flt 0xFF800000 0x7F800000 false, 0, 0, 5, true, 4, false⟩,
  ⟨0x3620, 32, 0x10, 1, "TH_TJ_SHUT", .f32, .rw, 0x43250000, .flt 0xFF800000 0x43480000 false, 0, 0, 5, true, 4, false⟩,
  ⟨0x3620, 32, 0x11, 1, "TH_TJ_RESUME", .f32, .rw, 0x42F00000, .flt 0xFF800000 0x7F800000 false, 0, 0, 5, true, 4, false⟩,
  ⟨0x3620, 32, 0x12, 1, "TH_K_MIN", .f32, .rw, 0x3E4CCCCD, .flt 0x0 0x3F800000 false, 0, 0, 0, true, 4, false⟩,
  ⟨0x3620, 32, 0x13, 1, "TH_XDEV", .f32, .rw, 0x41700000, .flt 0 2139095040 true, 0, 0, 6, true, 4, false⟩,
  ⟨0x3620, 32, 0x14, 1, "TH_XTIME", .u32, .rw, 2000, .int 10 600000 1 none, 0, 0, 9, true, 4, false⟩,
  ⟨0x3620, 32, 0x15, 1, "TH_NTC_MIN", .f32, .rw, 0xC2340000, .any, 0, 0, 5, true, 4, false⟩,
  ⟨0x3620, 32, 0x16, 1, "TH_NTC_MAX", .f32, .rw, 0x43160000, .any, 0, 0, 5, true, 4, false⟩,
  ⟨0x3620, 32, 0x17, 1, "TH_TJ", .octets, .ro, 0, .any, 0, 0, 5, false, 48, false⟩,
  ⟨0x3620, 32, 0x18, 1, "TH_TJ_MAX", .f32, .ro, 0, .any, 0, 0, 5, false, 4, false⟩,
  ⟨0x3620, 32, 0x19, 1, "TH_REF", .f32, .ro, 0, .any, 0, 0, 5, false, 4, false⟩,
  ⟨0x3620, 32, 0x1A, 1, "TH_HS_MODEL", .f32, .ro, 0, .any, 0, 0, 5, false, 4, false⟩,
  ⟨0x3620, 32, 0x1B, 1, "TH_K", .f32, .ro, 0x3F800000, .flt 0x0 0x3F800000 false, 0, 0, 0, false, 4, false⟩,
  ⟨0x3620, 32, 0x1C, 1, "TH_SENSOR", .u8, .ro, 0, .int 0 2 1 none, 0, 0, 0, false, 1, false⟩,
  ⟨0x3620, 32, 0x1D, 1, "TH_SENSOR_CLR", .u8, .wo, 0, .int 1 1 1 none, 0, 0, 0, false, 1, false⟩,
  ⟨0x3620, 32, 0x1E, 1, "TH_SLOT_STATUS", .u8, .ro, 0, .any, 0, 0, 0, false, 1, false⟩]

/-- The 0x1800 group as R306 of 12_faults.md sets it out. -/
def Od.rows12_1800 : List OdRow := [
  ⟨0x1800, 1, 0x01, 1, "FLT_COUNT_C", .u32, .ro, 0, .any, 0, 0, 0, false, 4, false⟩,
  ⟨0x1800, 1, 0x02, 1, "FLT_COUNT_U", .u32, .ro, 0, .any, 0, 0, 0, false, 4, false⟩,
  ⟨0x1800, 1, 0x03, 1, "FLT_COUNT_F", .u32, .ro, 0, .any, 0, 0, 0, false, 4, false⟩,
  ⟨0x1800, 1, 0x04, 1, "FLT_FIRST_C", .octets, .ro, 0, .any, 0, 0, 0, false, 32, false⟩,
  ⟨0x1800, 1, 0x05, 1, "FLT_FIRST_U", .octets, .ro, 0, .any, 0, 0, 0, false, 32, false⟩,
  ⟨0x1800, 1, 0x06, 1, "FLT_FIRST_F", .octets, .ro, 0, .any, 0, 0, 0, false, 32, false⟩,
  ⟨0x1800, 1, 0x07, 1, "FLT_FIRST_CLR", .u8, .wo, 0, .any, 248, 0, 0, false, 1, false⟩,
  ⟨0x1800, 1, 0x08, 1, "FLT_CLR", .u32, .wo, 0, .any, 0, 0, 0, false, 4, false⟩,
  ⟨0x1800, 1, 0x09, 1, "FLT_CLR_STATUS", .u8, .ro, 0, .int 0 3 1 none, 0, 0, 0, false, 1, false⟩,
  ⟨0x1800, 1, 0x0A, 1, "FLT_QUERY", .u32, .rw, 0, .any, 0, 0, 0, false, 4, false⟩,
  ⟨0x1800, 1, 0x0B, 1, "FLT_STATE", .u64, .ro, 0, .any, 0, 0, 0, false, 8, false⟩,
  ⟨0x1800, 1, 0x0C, 1, "FLT_ACTIVE", .octets, .ro, 0, .any, 0, 0, 0, false, 512, true⟩,
  ⟨0x1800, 1, 0x0D, 1, "FLT_ACTIVE_N", .u16, .ro, 0, .any, 0, 0, 0, false, 2, false⟩,
  ⟨0x1800, 1, 0x0E, 1, "ALM_COALESCE", .u16, .rw, 10, .int 1 1000 1 none, 0, 0, 9, false, 2, false⟩,
  ⟨0x1800, 1, 0x0F, 1, "ALM_SEQ", .u32, .ro, 0, .any, 0, 0, 0, false, 4, false⟩,
  ⟨0x1800, 1, 0x10, 1, "FLT_REACTS", .u32, .ro, 0, .any, 0, 0, 0, false, 4, false⟩]

/-- The 0x3800 group as R332 of 13_safety.md sets it out. -/
def Od.rows13_3800 : List OdRow := [
  ⟨0x3800, 1, 0x01, 1, "SF_STATE", .u8, .ro, 0, .int 0 2 1 none, 0, 0, 0, false, 1, false⟩,
  ⟨0x3800, 1, 0x02, 1, "SF_SIGNOFF_CMD", .u8, .safe, 0, .int 1 3 1 none, 0, 0, 0, false, 1, false⟩,
  ⟨0x3800, 1, 0x03, 1, "SF_SIGNOFF_STATE", .u8, .ro, 0, .int 0 2 1 none, 0, 0, 0, false, 1, false⟩,
  ⟨0x3800, 1, 0x04, 1, "SF_PEND_CRC", .u32, .ro, 0, .any, 0, 0, 0, false, 4, false⟩,
  ⟨0x3800, 1, 0x05, 1, "SF_CONFIRM", .u32, .safe, 0, .any, 0, 0, 0, false, 4, false⟩,
  ⟨0x3800, 1, 0x06, 1, "SF_ACTIVE_CRC", .u32, .ro, 0, .any, 0, 0, 0, false, 4, false⟩,
  ⟨0x3800, 1, 0x07, 1, "SF_SIGNOFFS", .u32, .ro, 0, .any, 0, 0, 0, false, 4, false⟩,
  ⟨0x3800, 1, 0x08, 1, "SF_SIGNOFF_TIME", .time, .ro, 0, .any, 0, 0, 0, false, 14, false⟩,
  ⟨0x3800, 1, 0x09, 1, "SF_IMAGE", .domain, .safe, 0, .any, 0, 0, 0, false, 33554432, true⟩,
  ⟨0x3800, 1, 0x10, 1, "SF_STO_GROUP", .octets, .safe, 0xFFFFFFFFFFFFFFFF, .any, 0, 0, 0, true, 8, false⟩,
  ⟨0x3800, 1, 0x11, 1, "SF_STO_PAIR", .u8, .safe, 1, .int 0 1 1 none, 0, 0, 0, true, 1, false⟩,
  ⟨0x3800, 1, 0x12, 1, "SF_STO_DISC_TIME", .u16, .safe, 100, .int 10 1000 1 none, 0, 0, 9, true, 2, false⟩,
  ⟨0x3800, 1, 0x13, 1, "SF_RESTART", .u8, .safe, 3, .any, 252, 0, 0, true, 1, false⟩,
  ⟨0x3800, 1, 0x14, 1, "SF_STO_ACK", .u32, .safe, 0, .any, 0xFFFC, 0, 0, false, 4, false⟩,
  ⟨0x3800, 1, 0x15, 1, "SF_ACK_SEQ", .u16, .ro, 0, .any, 0, 0, 0, false, 2, false⟩,
  ⟨0x3800, 1, 0x16, 1, "SF_STO_PROOF", .u16, .safe, 168, .int 1 8760 1 none, 0, 0, 0, true, 2, false⟩,
  ⟨0x3800, 1, 0x17, 1, "SF_STO_STATE", .u16, .ro, 0, .any, 0, 0, 0, false, 2, false⟩,
  ⟨0x3800, 1, 0x18, 1, "SF_PHOLD", .u32, .ro, 0xFFFFFFFF, .any, 0, 0, 0, false, 4, false⟩,
  ⟨0x3800, 1, 0x19, 1, "SF_TEST_LAST", .octets, .ro, 0, .any, 0, 0, 8, false, 16, false⟩,
  ⟨0x3800, 1, 0x20, 4, "SF_SO_SRC", .u32, .safe, 0, .any, 0xFFFF0000, 0, 0, true, 4, false⟩,
  ⟨0x3800, 1, 0x24, 4, "SF_SO_PULSE", .u16, .safe, 300, .int 100 500 1 none, 0, 0, 10, true, 2, false⟩,
  ⟨0x3800, 1, 0x28, 4, "SF_SO_PERIOD", .u8, .safe, 10, .int 1 60 1 none, 0, 0, 8, true, 1, false⟩,
  ⟨0x3800, 1, 0x2C, 1, "SF_SO_STATE", .u16, .ro, 0, .any, 0, 0, 0, false, 2, false⟩]

/-- The 0x3810+c group as R333 of 13_safety.md sets it out. -/
def Od.rows13_3810_c : List OdRow := [
  ⟨0x3810, 16, 0x01, 1, "SDC_CONN", .u16, .safe, 0xFFFF, .int 0 65534 1 (some 0xFFFF), 0, 0, 0, true, 2, false⟩,
  ⟨0x3810, 16, 0x02, 1, "SDC_PRODUCER", .u16, .safe, 0xFFFF, .int 0 1023 1 (some 0xFFFF), 0, 0, 0, true, 2, false⟩,
  ⟨0x3810, 16, 0x03, 1, "SDC_SEED", .u32, .safe, 0, .any, 0, 0, 0, true, 4, false⟩,
  ⟨0x3810, 16, 0x04, 1, "SDC_WD", .u8, .safe, 20, .int 2 100 1 none, 0, 0, 9, true, 1, false⟩,
  ⟨0x3810, 16, 0x05, 1, "SDC_SKEW", .u16, .safe, 500, .int 10 500 1 none, 0, 0, 10, true, 2, false⟩,
  ⟨0x3810, 16, 0x06, 1, "SDC_BOTH", .u8, .safe, 0, .int 0 1 1 none, 0, 0, 0, true, 1, false⟩,
  ⟨0x3810, 16, 0x07, 1, "SDC_STO_BIT", .u8, .safe, 255, .int 0 15 1 (some 0xFF), 0, 0, 0, true, 1, false⟩,
  ⟨0x3810, 16, 0x08, 1, "SDC_STO_SLOTS", .u32, .safe, 0, .any, 0, 0, 0, true, 4, false⟩,
  ⟨0x3810, 16, 0x09, 1, "SDC_STATE", .u8, .ro, 0, .int 0 2 1 none, 0, 0, 0, false, 1, false⟩,
  ⟨0x3810, 16, 0x0A, 1, "SDC_DATA", .octets, .ro, 0, .any, 0, 0, 0, false, 16, false⟩,
  ⟨0x3810, 16, 0x0B, 1, "SDC_COUNTS", .u64, .ro, 0, .any, 0, 0, 0, false, 8, false⟩,
  ⟨0x3810, 16, 0x0C, 1, "SDC_SKEW_MAX", .u16, .ro, 0, .any, 0, 0, 10, false, 2, false⟩]

/-- The 0x3820+p group as R334 of 13_safety.md sets it out. -/
def Od.rows13_3820_p : List OdRow := [
  ⟨0x3820, 4, 0x01, 1, "SDP_CONN", .u16, .safe, 0xFFFF, .int 0 65534 1 (some 0xFFFF), 0, 0, 0, true, 2, false⟩,
  ⟨0x3820, 4, 0x02, 1, "SDP_SEED", .u32, .safe, 0, .any, 0, 0, 0, true, 4, false⟩,
  ⟨0x3820, 4, 0x03, 1, "SDP_CYCLE", .u16, .safe, 2000, .int 500 50000 1 none, 0, 0, 10, true, 2, false⟩,
  ⟨0x3820, 4, 0x04, 1, "SDP_SENT", .u32, .ro, 0, .any, 0, 0, 0, false, 4, false⟩]

/-- The 0x1280+n group as R356 of 14_lanes.md sets it out. -/
def Od.rows14_1280_n : List OdRow := [
  ⟨0x1280, 4, 0x01, 1, "LANE_CTRL", .u16, .rw, 1, .any, 0xF000, 0, 0, true, 2, false⟩,
  ⟨0x1280, 4, 0x02, 1, "LANE_STATE", .u8, .ro, 0, .int 0 4 1 none, 0, 0, 0, false, 1, false⟩,
  ⟨0x1280, 4, 0x03, 1, "LANE_STATUS", .u16, .ro, 0, .any, 0, 0, 0, false, 2, false⟩,
  ⟨0x1280, 4, 0x04, 1, "LANE_STATUS_CLR", .u16, .wo, 0, .any, 0xF000, 0, 0, false, 2, false⟩,
  ⟨0x1280, 4, 0x05, 1, "LANE_VER", .u8, .ro, 0, .int 0 255 1 none, 0, 0, 0, false, 1, false⟩,
  ⟨0x1280, 4, 0x06, 1, "LANE_VER_RANGE", .u16, .const, 257, .any, 0, 0, 0, false, 2, false⟩,
  ⟨0x1280, 4, 0x07, 1, "LANE_PEER", .u64, .ro, 0, .any, 0, 0, 0, false, 8, false⟩,
  ⟨0x1280, 4, 0x08, 1, "LANE_PPM", .i32, .ro, 0, .any, 0, 0, 0, false, 4, false⟩,
  ⟨0x1280, 4, 0x09, 1, "LANE_FILL", .u8, .ro, 0, .int 0 64 1 none, 0, 0, 0, false, 1, false⟩,
  ⟨0x1280, 4, 0x0A, 1, "LANE_BAD_HDR", .u32, .ro, 0, .any, 0, 0, 0, false, 4, false⟩,
  ⟨0x1280, 4, 0x0B, 1, "LANE_BAD_TYPE", .u32, .ro, 0, .any, 0, 0, 0, false, 4, false⟩,
  ⟨0x1280, 4, 0x0C, 1, "LANE_LOCK_LOSS", .u32, .ro, 0, .any, 0, 0, 0, false, 4, false⟩,
  ⟨0x1280, 4, 0x0D, 1, "LANE_HIBER_COUNT", .u32, .ro, 0, .any, 0, 0, 0, false, 4, false⟩,
  ⟨0x1280, 4, 0x0E, 1, "LANE_INS_DEL", .u64, .ro, 0, .any, 0, 0, 0, false, 8, false⟩,
  ⟨0x1280, 4, 0x0F, 1, "LANE_ELASTIC_ERR", .u32, .ro, 0, .any, 0, 0, 0, false, 4, false⟩,
  ⟨0x1280, 4, 0x10, 1, "LANE_ERR_RX", .u32, .ro, 0, .any, 0, 0, 0, false, 4, false⟩,
  ⟨0x1280, 4, 0x11, 1, "LANE_ERR_TX", .u32, .ro, 0, .any, 0, 0, 0, false, 4, false⟩,
  ⟨0x1280, 4, 0x12, 1, "LANE_TRAINS", .u32, .ro, 0, .any, 0, 0, 0, false, 4, false⟩,
  ⟨0x1280, 4, 0x13, 1, "LANE_UP_SINCE", .time, .ro, 0, .any, 0, 0, 0, false, 14, false⟩,
  ⟨0x1280, 4, 0x14, 1, "LANE_UP_COUNT", .u32, .ro, 0, .any, 0, 0, 0, false, 4, false⟩,
  ⟨0x1280, 4, 0x15, 1, "LANE_PRBS_ERR", .u64, .ro, 0, .any, 0, 0, 0, false, 8, false⟩,
  ⟨0x1280, 4, 0x16, 1, "LANE_PRBS_BITS", .u64, .ro, 0, .any, 0, 0, 0, false, 8, false⟩,
  ⟨0x1280, 4, 0x17, 1, "LANE_MODULE", .octets, .ro, 0, .any, 0, 0, 0, false, 64, false⟩,
  ⟨0x1280, 4, 0x18, 1, "LANE_DDM", .octets, .ro, 0, .any, 0, 0, 0, false, 10, false⟩,
  ⟨0x1280, 4, 0x19, 1, "LANE_CNT_CLR", .u8, .wo, 0, .int 1 1 1 none, 0, 0, 0, false, 1, false⟩]

/-- The 0x1200 group as R391 of 15_ring.md sets it out. -/
def Od.rows15_1200 : List OdRow := [
  ⟨0x1200, 1, 0x01, 1, "RING_STATE", .u8, .ro, 0, .int 0 2 1 none, 0, 0, 0, false, 1, false⟩,
  ⟨0x1200, 1, 0x02, 1, "RING_NODE_ID", .u16, .ro, 0xFFFF, .int 0 1023 1 (some 0xFFFF), 0, 0, 0, false, 2, false⟩,
  ⟨0x1200, 1, 0x03, 1, "RING_CMD", .u8, .wo, 0, .int 1 1 1 none, 0, 0, 0, false, 1, false⟩,
  ⟨0x1200, 1, 0x04, 1, "RING_SYS_CYCLE", .u32, .ro, 0, .owner 50000 10000000, 0, 0, 11, false, 4, false⟩,
  ⟨0x1200, 1, 0x05, 1, "RING_SYS_CYCLE_MIN", .u32, .rws, 0xC350, .int 50000 10000000 1 none, 0, 0, 11, true, 4, false⟩,
  ⟨0x1200, 1, 0x06, 1, "RING_MGR_COMPUTE", .u32, .rws, 0x7A120, .int 0 5000000 1 none, 0, 0, 11, true, 4, false⟩,
  ⟨0x1200, 1, 0x07, 1, "RING_DELAY", .octets, .ro, 0, .any, 0, 0, 11, false, 8, false⟩,
  ⟨0x1200, 1, 0x08, 1, "RING_HEALTH", .u8, .ro, 0, .any, 0, 0, 0, false, 1, false⟩,
  ⟨0x1200, 1, 0x09, 1, "RING_LATE", .u32, .ro, 0, .any, 0, 0, 0, false, 4, false⟩,
  ⟨0x1200, 1, 0x0A, 1, "RING_CRC", .u32, .ro, 0, .any, 0, 0, 0, false, 4, false⟩,
  ⟨0x1200, 1, 0x0B, 1, "RING_HCRC", .u32, .ro, 0, .any, 0, 0, 0, false, 4, false⟩,
  ⟨0x1200, 1, 0x0C, 1, "RING_DUPS", .u64, .ro, 0, .any, 0, 0, 0, false, 8, false⟩,
  ⟨0x1200, 1, 0x0D, 1, "RING_HOPS_EXP", .u32, .ro, 0, .any, 0, 0, 0, false, 4, false⟩,
  ⟨0x1200, 1, 0x0E, 1, "RING_TC1_SKEW", .u16, .rw, 500, .int 10 1000 1 none, 0, 0, 10, true, 2, false⟩,
  ⟨0x1200, 1, 0x0F, 1, "RING_TC1_DIFF", .u32, .ro, 0, .any, 0, 0, 0, false, 4, false⟩,
  ⟨0x1200, 1, 0x10, 1, "RING_TC2_RATE", .u32, .rw, 0, .owner 1 4294967295, 0, 0, 0, true, 4, false⟩,
  ⟨0x1200, 1, 0x11, 1, "RING_TC3_RATE", .u32, .rw, 0, .owner 1 4294967295, 0, 0, 0, true, 4, false⟩,
  ⟨0x1200, 1, 0x12, 1, "RING_TC2_DEPTH", .u32, .rw, 0x4000, .int 2064 1048576 1 none, 0, 0, 22, true, 4, false⟩,
  ⟨0x1200, 1, 0x13, 1, "RING_TC3_DEPTH", .u32, .rw, 0x40000, .int 2064 4194304 1 none, 0, 0, 22, true, 4, false⟩,
  ⟨0x1200, 1, 0x14, 1, "RING_TC3_SPILL", .u64, .ro, 0, .any, 0, 0, 22, false, 8, false⟩,
  ⟨0x1200, 1, 0x15, 1, "RING_TC3_WAIT", .u16, .rw, 100, .int 1 10000 1 none, 0, 0, 9, true, 2, false⟩,
  ⟨0x1200, 1, 0x16, 1, "RING_TX_BYTES", .octets, .ro, 0, .any, 0, 0, 22, false, 32, false⟩,
  ⟨0x1200, 1, 0x17, 1, "RING_ROLL_CALLS", .u32, .ro, 0, .any, 0, 0, 0, false, 4, false⟩,
  ⟨0x1200, 1, 0x18, 1, "RING_BRANCH_IDS", .octets, .ro, 0xFFFFFFFFFFFFFFFFFFFFFFFFFFFFFFFFFFFFFFFFFFFFFFFFFFFFFFFFFFFFFFFFFFFFFFFFFFFFFFFFFFFFFFFFFFFFFFFFFFFFFFFFFFFFFFFFFFFFFFFFFFFFFFFF, .any, 0, 0, 0, false, 64, false⟩,
  ⟨0x1200, 1, 0x19, 1, "RING_TT_SLOTS", .octets, .ro, 0, .any, 0, 0, 11, false, 64, false⟩,
  ⟨0x1200, 1, 0x1A, 1, "RING_TT_VERSION", .u32, .ro, 0, .any, 0, 0, 0, false, 4, false⟩,
  ⟨0x1200, 1, 0x1B, 1, "RING_NO_ID", .u32, .ro, 0, .any, 0, 0, 0, false, 4, false⟩,
  ⟨0x1200, 1, 0x1D, 1, "RING_EDGE_DROPS", .u32, .ro, 0, .any, 0, 0, 0, false, 4, false⟩,
  ⟨0x1200, 1, 0x1E, 1, "RING_TT_VIOL", .u32, .ro, 0, .any, 0, 0, 0, false, 4, false⟩,
  ⟨0x1200, 1, 0x1F, 1, "RING_TC1_LOAD", .u16, .ro, 0, .int 0 1000 1 none, 0, 0, 27, false, 2, false⟩,
  ⟨0x1200, 1, 0x20, 1, "RING_ID_TABLE", .octets, .rw, 0, .any, 0, 0, 0, true, 10220, true⟩]

/-- The 0x1210+t group as R392 of 15_ring.md sets it out. -/
def Od.rows15_1210_t : List OdRow := [
  ⟨0x1210, 16, 0x01, 1, "TX_DST", .u16, .rws, 0, .any, 0xF000, 0, 0, true, 2, false⟩,
  ⟨0x1210, 16, 0x02, 1, "TX_N", .u16, .rws, 0, .int 0 256 1 none, 0, 0, 0, true, 2, false⟩,
  ⟨0x1210, 16, 0x03, 1, "TX_MAP", .octets, .rws, 2 ^ 4096 - 1, .any, 0, 0, 0, true, 512, false⟩,
  ⟨0x1210, 16, 0x04, 1, "TX_LAG", .u8, .rws, 1, .int 1 8 1 none, 0, 0, 0, true, 1, false⟩,
  ⟨0x1210, 16, 0x05, 1, "TX_OFFSET", .u32, .ro, 0, .any, 0, 0, 11, false, 4, false⟩,
  ⟨0x1210, 16, 0x06, 1, "TX_SENT", .u64, .ro, 0, .any, 0, 0, 0, false, 8, false⟩]

/-- The 0x1220 group as R393 of 15_ring.md sets it out. -/
def Od.rows15_1220 : List OdRow := [
  ⟨0x1220, 1, 0x01, 1, "RX_MAP", .octets, .rws, 0, .any, 0, 0, 0, true, 4096, false⟩,
  ⟨0x1220, 1, 0x02, 1, "RX_VALUES", .octets, .ro, 0, .any, 0, 0, 0, false, 4096, false⟩,
  ⟨0x1220, 1, 0x03, 1, "RX_STALE", .octets, .ro, 0xFFFFFFFFFFFFFFFFFFFFFFFFFFFFFFFFFFFFFFFFFFFFFFFFFFFFFFFFFFFFFFFFFFFFFFFFFFFFFFFFFFFFFFFFFFFFFFFFFFFFFFFFFFFFFFFFFFFFFFFFFFFFFFFFFFFFFFFFFFFFFFFFFFFFFFFFFFFFFFFFFFFFFFFFFFFFFFFFFFFFFFFFFFFFFFFFFFFFFFFFFFFFFFFFFFFFFFFFFFFFFFFFFFFFFFFFFFFFFFFFFFFFFFFFFFFFFFFF, .any, 0, 0, 0, false, 128, false⟩]

/-- The 0x1230 group as R394 of 15_ring.md sets it out. -/
def Od.rows15_1230 : List OdRow := [
  ⟨0x1230, 1, 0x01, 1, "ALM_LEVEL", .u16, .ro, 0, .int 0 4096 1 none, 0, 0, 0, false, 2, false⟩,
  ⟨0x1230, 1, 0x02, 1, "ALM_LEVEL_RES", .u16, .ro, 0, .int 0 256 1 none, 0, 0, 0, false, 2, false⟩,
  ⟨0x1230, 1, 0x03, 1, "ALM_DROPS", .octets, .ro, 0, .any, 0, 0, 0, false, 12, false⟩,
  ⟨0x1230, 1, 0x04, 1, "ALM_READ", .octets, .ro, 0, .any, 0, 0, 0, false, 1024, true⟩,
  ⟨0x1230, 1, 0x05, 1, "ALM_ACK", .u32, .wo, 0, .any, 0, 0, 0, false, 4, false⟩,
  ⟨0x1230, 1, 0x06, 1, "ALM_SUM_PERIOD", .u16, .rw, 10, .int 1 1000 1 none, 0, 0, 9, true, 2, false⟩,
  ⟨0x1230, 1, 0x07, 1, "ALM_MODE", .u8, .rw, 0, .int 0 1 1 none, 0, 0, 0, true, 1, false⟩,
  ⟨0x1230, 1, 0x08, 1, "ALM_RX_OVF", .u32, .ro, 0, .any, 0, 0, 0, false, 4, false⟩,
  ⟨0x1230, 1, 0x09, 1, "ALM_PULL_RATE", .u32, .rw, 0x4E20, .int 100 100000 1 none, 0, 0, 0, true, 4, false⟩]

/-- The 0x1300 group as R418 of 16_time.md sets it out. -/
def Od.rows16_1300 : List OdRow := [
  ⟨0x1300, 1, 0x01, 1, "TM_STATE", .u8, .ro, 0, .int 0 4 1 none, 0, 0, 0, false, 1, false⟩,
  ⟨0x1300, 1, 0x02, 1, "TM_NOW", .time, .ro, 0, .any, 0, 0, 0, false, 14, false⟩,
  ⟨0x1300, 1, 0x03, 1, "TM_SRC", .u8, .rw, 1, .int 0 3 1 none, 0, 0, 0, true, 1, false⟩,
  ⟨0x1300, 1, 0x04, 1, "TM_SRC_ACT", .u8, .ro, 0, .any, 0, 0, 0, false, 1, false⟩,
  ⟨0x1300, 1, 0x05, 1, "TM_OFFSET", .i64, .ro, 0, .any, 0, 0, 0, false, 8, false⟩,
  ⟨0x1300, 1, 0x06, 1, "TM_RATE", .i32, .ro, 0, .int (-150000) 150000 1 none, 0, 0, 21, false, 4, false⟩,
  ⟨0x1300, 1, 0x07, 1, "TM_KP", .f32, .rw, 0x3DCCCCCD, .flt 0x3A83126F 0x3F800000 false, 0, 0, 0, true, 4, false⟩,
  ⟨0x1300, 1, 0x08, 1, "TM_KI", .f32, .rw, 0x3BA3D70A, .flt 0x0 0x3DCCCCCD false, 0, 0, 0, true, 4, false⟩,
  ⟨0x1300, 1, 0x09, 1, "TM_STEP_THR", .u32, .rw, 1000, .int 10 1000000 1 none, 0, 0, 11, true, 4, false⟩,
  ⟨0x1300, 1, 0x0A, 1, "TM_LOCK_TOL", .u16, .rw, 1, .int 1 1000 1 none, 0, 0, 11, true, 2, false⟩,
  ⟨0x1300, 1, 0x0B, 1, "TM_HOLD_RATE", .i32, .ro, 0, .any, 0, 0, 21, false, 4, false⟩,
  ⟨0x1300, 1, 0x0C, 1, "TM_HOLD_SINCE", .time, .ro, 0, .any, 0, 0, 0, false, 14, false⟩,
  ⟨0x1300, 1, 0x0D, 1, "TM_STEPS", .u32, .ro, 0, .any, 0, 0, 0, false, 4, false⟩,
  ⟨0x1300, 1, 0x0E, 1, "TM_SLEWS", .u32, .ro, 0, .any, 0, 0, 0, false, 4, false⟩,
  ⟨0x1300, 1, 0x0F, 1, "TM_SET", .time, .wo, 0, .any, 0, 0, 0, false, 14, false⟩,
  ⟨0x1300, 1, 0x10, 1, "TM_PPS_WIDTH", .u32, .rw, 0x186A0, .int 1 900000 1 none, 0, 0, 10, true, 4, false⟩,
  ⟨0x1300, 1, 0x11, 1, "TM_PPS_IN_LAST", .time, .ro, 0, .any, 0, 0, 0, false, 14, false⟩,
  ⟨0x1300, 1, 0x12, 1, "TM_PPS_IN_CTRL", .u8, .rw, 0, .any, 252, 0, 0, true, 1, false⟩,
  ⟨0x1300, 1, 0x13, 1, "TM_STATUS", .u16, .ro, 0, .any, 0, 0, 0, false, 2, false⟩,
  ⟨0x1300, 1, 0x14, 1, "TM_STATUS_CLR", .u16, .wo, 0, .any, 0xFFE0, 0, 0, false, 2, false⟩,
  ⟨0x1300, 1, 0x15, 1, "TM_UPSTREAM", .u8, .ro, 255, .int 0 3 1 (some 0xFF), 0, 0, 0, false, 1, false⟩,
  ⟨0x1300, 1, 0x16, 1, "TM_PWM_ERR", .i16, .ro, 0, .any, 0, 0, 12, false, 2, false⟩,
  ⟨0x1300, 1, 0x18, 1, "TM_BELL_SKIPS", .u32, .ro, 0, .any, 0, 0, 0, false, 4, false⟩,
  ⟨0x1300, 1, 0x19, 1, "TM_ALARM", .u32, .rw, 100, .int 2 1000000 1 none, 0, 0, 11, true, 4, false⟩]

/-- The 0x1310+n group as R419 of 16_time.md sets it out. -/
def Od.rows16_1310_n : List OdRow := [
  ⟨0x1310, 4, 0x01, 1, "TM_ASYM", .i32, .rw, 0, .int (-1000000) 1000000 1 none, 0, 0, 12, true, 4, false⟩,
  ⟨0x1310, 4, 0x02, 1, "TM_LINK_DELAY", .u32, .ro, 0, .any, 0, 0, 12, false, 4, false⟩,
  ⟨0x1310, 4, 0x03, 1, "TM_LANE_OFFSET", .i32, .ro, 0, .any, 0, 0, 12, false, 4, false⟩,
  ⟨0x1310, 4, 0x04, 1, "TM_TX_LAT", .u16, .const, 0, .any, 0, 0, 12, false, 2, false⟩,
  ⟨0x1310, 4, 0x05, 1, "TM_RX_LAT", .u16, .const, 0, .any, 0, 0, 12, false, 2, false⟩]

/-- The 0x1320+d group as R420 of 16_time.md sets it out. -/
def Od.rows16_1320_d : List OdRow := [
  ⟨0x1320, 2, 0x01, 1, "PTP_CTRL", .u16, .rw, 0, .any, 0xFFF8, 0, 0, true, 2, false⟩,
  ⟨0x1320, 2, 0x02, 1, "PTP_DOMAIN", .u8, .rw, 0, .int 0 127 1 none, 0, 0, 0, true, 1, false⟩,
  ⟨0x1320, 2, 0x03, 1, "PTP_STATE", .u8, .ro, 0, .int 0 4 1 none, 0, 0, 0, false, 1, false⟩,
  ⟨0x1320, 2, 0x04, 1, "PTP_OFFSET", .i64, .ro, 0, .any, 0, 0, 0, false, 8, false⟩,
  ⟨0x1320, 2, 0x05, 1, "PTP_GM_ID", .octets, .ro, 0, .any, 0, 0, 0, false, 8, false⟩,
  ⟨0x1320, 2, 0x06, 1, "PTP_MEAN_DELAY", .u32, .ro, 0, .any, 0, 0, 11, false, 4, false⟩,
  ⟨0x1320, 2, 0x07, 1, "PTP_TMO", .u16, .rw, 3000, .int 100 60000 1 none, 0, 0, 9, true, 2, false⟩,
  ⟨0x1320, 2, 0x08, 1, "PTP_LOG_SYNC", .i8, .ro, 0, .int (-7) 4 1 none, 0, 0, 0, false, 1, false⟩,
  ⟨0x1320, 2, 0x09, 1, "PTP_STEPS_REMOVED", .u16, .ro, 0, .any, 0, 0, 0, false, 2, false⟩,
  ⟨0x1320, 2, 0x0A, 1, "PTP_ASYM", .i32, .rw, 0, .int (-1000000) 1000000 1 none, 0, 0, 11, true, 4, false⟩]

/-- The 0x1340+b group as R421 of 16_time.md sets it out. -/
def Od.rows16_1340_b : List OdRow := [
  ⟨0x1340, 64, 0x01, 1, "BELL_START", .time, .rw, 0, .any, 0, 0, 0, true, 14, false⟩,
  ⟨0x1340, 64, 0x02, 1, "BELL_PERIOD", .u32, .rw, 0xF4240, .int 1000 4000000000 2 none, 0, 0, 11, true, 4, false⟩,
  ⟨0x1340, 64, 0x03, 1, "BELL_CMD", .u8, .wo, 0, .int 1 2 1 none, 0, 0, 0, false, 1, false⟩,
  ⟨0x1340, 64, 0x04, 1, "BELL_STATE", .u8, .ro, 0, .int 0 2 1 none, 0, 0, 0, false, 1, false⟩,
  ⟨0x1340, 64, 0x05, 1, "BELL_RINGS", .u64, .ro, 0, .any, 0, 0, 0, false, 8, false⟩,
  ⟨0x1340, 64, 0x06, 1, "BELL_NEXT", .time, .ro, 0, .any, 0, 0, 0, false, 14, false⟩]

/-- The 0x1380+n group as R422 of 16_time.md sets it out. -/
def Od.rows16_1380_n : List OdRow := [
  ⟨0x1380, 4, 0x01, 1, "TRIG_MODE", .u8, .rw, 0, .int 0 4 1 none, 0, 0, 0, true, 1, false⟩,
  ⟨0x1380, 4, 0x02, 1, "TRIG_BELL", .u8, .rw, 0, .int 0 63 1 none, 0, 0, 0, true, 1, false⟩,
  ⟨0x1380, 4, 0x03, 1, "TRIG_WIDTH", .u32, .rw, 1000, .int 10 1000000000 2 none, 0, 0, 11, true, 4, false⟩,
  ⟨0x1380, 4, 0x04, 1, "TRIG_LAST", .time, .ro, 0, .any, 0, 0, 0, false, 14, false⟩,
  ⟨0x1380, 4, 0x05, 1, "TRIG_COUNT", .u32, .ro, 0, .any, 0, 0, 0, false, 4, false⟩]

/-- The 0x1400 group as R444 of 17_managers.md sets it out. -/
def Od.rows17_1400 : List OdRow := [
  ⟨0x1400, 1, 0x01, 1, "ROLE", .u8, .rws, 2, .int 0 2 1 none, 0, 0, 0, true, 1, false⟩,
  ⟨0x1400, 1, 0x02, 1, "MGR_NODE", .u8, .rws, 0, .int 0 1 1 none, 0, 0, 0, true, 1, false⟩,
  ⟨0x1400, 1, 0x03, 1, "MGR_STATE", .u8, .ro, 0, .int 0 4 1 none, 0, 0, 0, false, 1, false⟩,
  ⟨0x1400, 1, 0x04, 1, "MGR_MODE", .u8, .rws, 0, .int 0 1 1 none, 0, 0, 0, true, 1, false⟩,
  ⟨0x1400, 1, 0x05, 1, "MGR_EPOCH", .u32, .ro, 0, .any, 0, 0, 0, false, 4, false⟩,
  ⟨0x1400, 1, 0x06, 1, "MGR_HOLDER", .u16, .ro, 0xFFFF, .int 0 1 1 (some 0xFFFF), 0, 0, 0, false, 2, false⟩,
  ⟨0x1400, 1, 0x07, 1, "MGR_LOSS_CYCLES", .u8, .rws, 2, .int 2 8 1 none, 0, 0, 0, true, 1, false⟩,
  ⟨0x1400, 1, 0x08, 1, "MGR_RECLAIM", .u8, .rw, 1, .any, 254, 0, 0, true, 1, false⟩,
  ⟨0x1400, 1, 0x09, 1, "MGR_RECLAIM_HOLD", .u32, .rw, 0x7530, .int 1000 3600000 1 none, 0, 0, 9, true, 4, false⟩,
  ⟨0x1400, 1, 0x0A, 1, "MGR_OVERLAP", .u8, .rw, 8, .int 2 64 1 none, 0, 0, 0, true, 1, false⟩,
  ⟨0x1400, 1, 0x0B, 1, "MGR_LISTEN", .u16, .rws, 200, .int 50 5000 1 none, 0, 0, 9, true, 2, false⟩,
  ⟨0x1400, 1, 0x0C, 1, "MGR_SYS_SLOTS", .octets, .rws, 0, .any, 0, 0, 0, true, 16, false⟩,
  ⟨0x1400, 1, 0x0D, 1, "MGR_CMD", .u8, .wo, 0, .int 1 2 1 none, 0, 0, 0, false, 1, false⟩,
  ⟨0x1400, 1, 0x0E, 1, "MGR_CMD_STATUS", .u8, .ro, 0, .int 0 3 1 none, 0, 0, 0, false, 1, false⟩,
  ⟨0x1400, 1, 0x0F, 1, "MGR_STATUS", .u16, .ro, 0, .any, 0, 0, 0, false, 2, false⟩,
  ⟨0x1400, 1, 0x10, 1, "MGR_SWITCHOVERS", .u32, .ro, 0, .any, 0, 0, 0, false, 4, false⟩,
  ⟨0x1400, 1, 0x11, 1, "MGR_HANDBACKS", .u32, .ro, 0, .any, 0, 0, 0, false, 4, false⟩,
  ⟨0x1400, 1, 0x12, 1, "MGR_DIGEST_MISS", .u32, .ro, 0, .any, 0, 0, 0, false, 4, false⟩,
  ⟨0x1400, 1, 0x13, 1, "MGR_SNAP_BYTES", .u32, .ro, 0, .any, 0, 0, 22, false, 4, false⟩,
  ⟨0x1400, 1, 0x14, 1, "MGR_STATUS_CLR", .u16, .wo, 0, .any, 0xFFBF, 0, 0, false, 2, false⟩,
  ⟨0x1400, 1, 0x18, 1, "WK_T_HOLD", .u32, .rw, 500, .int 10 60000 1 none, 0, 0, 9, true, 4, false⟩,
  ⟨0x1400, 1, 0x19, 1, "WK_STATE", .u8, .ro, 0, .int 0 2 1 none, 0, 0, 0, false, 1, false⟩,
  ⟨0x1400, 1, 0x1A, 1, "WK_STATE_INS", .octets, .rw, 0xFFFFFFFFFFFFFFFFFFFFFFFFFFFFFFFFFFFFFFFFFFFFFFFFFFFFFFFFFFFFFFFFFFFFFFFFFFFFFFFFFFFFFFFFFFFFFFFFFFFFFFFFFFFFFFFFFFFFFFFFFFFFFFFFFFFFFFFFFFFFFFFFFFFFFFFFFFFFFFFFFFFFFFFFFFFFFFFFFFFFFFFFFFFFFFFFFFFFFFFFFFFFFFFFFFFFFFFFFFFFFFFFFFFFFFFFFFFFFFFFFFFFFFFFFFFFFFFF, .any, 0, 0, 0, true, 128, false⟩,
  ⟨0x1400, 1, 0x1B, 1, "WK_DROOPS", .u32, .ro, 0, .any, 0, 0, 0, false, 4, false⟩,
  ⟨0x1400, 1, 0x1C, 1, "WK_GAP_MAX", .u16, .ro, 0, .any, 0, 0, 0, false, 2, false⟩,
  ⟨0x1400, 1, 0x21, 1, "RC_CARD", .octets, .ro, 0, .any, 0, 0, 0, false, 32, false⟩,
  ⟨0x1400, 1, 0x22, 1, "RC_PERIOD", .u16, .rw, 10, .int 1 3600 1 none, 0, 0, 8, true, 2, false⟩,
  ⟨0x1400, 1, 0x23, 1, "RC_PEER", .octets, .ro, 0, .any, 0, 0, 0, false, 32, false⟩]

/-- The 0x1000 group as R474 of 18_object_dictionary.md sets it out. -/
def Od.rows18_1000 : List OdRow := [
  ⟨0x1000, 1, 0x01, 1, "DEVICE_ID", .u32, .const, 0, .any, 0, 0, 0, false, 4, false⟩,
  ⟨0x1000, 1, 0x02, 1, "SERIAL", .u64, .const, 0, .any, 0, 0, 0, false, 8, false⟩,
  ⟨0x1000, 1, 0x03, 1, "VENDOR", .string, .const, 0, .any, 0, 0, 0, false, 32, true⟩,
  ⟨0x1000, 1, 0x04, 1, "PRODUCT", .string, .const, 0, .any, 0, 0, 0, false, 32, true⟩,
  ⟨0x1000, 1, 0x05, 1, "FW_VERSION", .u32, .ro, 0, .any, 0, 0, 0, false, 4, false⟩,
  ⟨0x1000, 1, 0x06, 1, "FW_SLOT", .u8, .ro, 0, .int 0 1 1 none, 0, 0, 0, false, 1, false⟩,
  ⟨0x1000, 1, 0x07, 1, "SAFE_FW_VERSION", .u32, .ro, 0, .any, 0, 0, 0, false, 4, false⟩,
  ⟨0x1000, 1, 0x08, 1, "ROM_VERSION", .u32, .const, 0, .any, 0, 0, 0, false, 4, false⟩,
  ⟨0x1000, 1, 0x09, 1, "OD_PROTO", .u16, .const, 257, .any, 0, 0, 0, false, 2, false⟩,
  ⟨0x1000, 1, 0x0A, 1, "OD_PROFILE", .u16, .const, 1, .any, 0, 0, 0, false, 2, false⟩,
  ⟨0x1000, 1, 0x0B, 1, "OD_MAP_VERSION", .u32, .ro, 0, .any, 0, 0, 0, false, 4, false⟩,
  ⟨0x1000, 1, 0x0C, 1, "CFG_DIGEST", .octets, .ro, 0, .any, 0, 0, 0, false, 32, false⟩,
  ⟨0x1000, 1, 0x0D, 1, "UPTIME", .u64, .ro, 0, .any, 0, 0, 8, false, 8, false⟩,
  ⟨0x1000, 1, 0x0E, 1, "DEVICE_NAME", .string, .rw, 0, .any, 0, 0, 0, true, 32, true⟩]

/-- The 0x1100 group as R475 of 18_object_dictionary.md sets it out. -/
def Od.rows18_1100 : List OdRow := [
  ⟨0x1100, 1, 0x01, 1, "NET_CTRL", .u16, .rw, 7, .any, 0xFFF8, 0, 0, true, 2, false⟩,
  ⟨0x1100, 1, 0x02, 1, "ETH_MAC", .octets, .rw, 0, .any, 0, 0, 0, true, 6, false⟩,
  ⟨0x1100, 1, 0x03, 1, "ETH_IPV4", .octets, .rw, 0xC000A8C0, .any, 0, 0, 0, true, 4, false⟩,
  ⟨0x1100, 1, 0x04, 1, "ETH_MASK", .octets, .rw, 0xFFFFFF, .any, 0, 0, 0, true, 4, false⟩,
  ⟨0x1100, 1, 0x05, 1, "ETH_GATEWAY", .octets, .rw, 0, .any, 0, 0, 0, true, 4, false⟩,
  ⟨0x1100, 1, 0x06, 1, "ETH_UDP_PORT", .u16, .rw, 0xCAD0, .int 1024 65535 1 none, 0, 0, 0, true, 2, false⟩,
  ⟨0x1100, 1, 0x07, 1, "ETH_TRACE_DST", .octets, .rw, 0, .any, 0, 0, 0, true, 6, false⟩,
  ⟨0x1100, 1, 0x08, 1, "ETH_LINK", .u8, .ro, 0, .any, 0, 0, 0, false, 1, false⟩,
  ⟨0x1100, 1, 0x0A, 1, "CAN_NODE", .u8, .rw, 1, .int 1 127 1 none, 0, 0, 0, true, 1, false⟩,
  ⟨0x1100, 1, 0x0B, 1, "CAN_NOM_RATE", .u32, .rw, 0x7A120, .int 125000 1000000 1 none, 0, 0, 23, true, 4, false⟩,
  ⟨0x1100, 1, 0x0C, 1, "CAN_DATA_RATE", .u32, .rw, 0x1E8480, .int 1000000 8000000 1 none, 0, 0, 23, true, 4, false⟩,
  ⟨0x1100, 1, 0x0D, 1, "CAN_STATUS", .u8, .ro, 0, .int 0 2 1 none, 0, 0, 0, false, 1, false⟩,
  ⟨0x1100, 1, 0x0E, 1, "SPI_IRQ_MASK", .u8, .rw, 1, .any, 248, 0, 0, true, 1, false⟩,
  ⟨0x1100, 1, 0x0F, 1, "SPI_IRQ_PEND", .u8, .ro, 0, .any, 0, 0, 0, false, 1, false⟩,
  ⟨0x1100, 1, 0x10, 1, "OD_REMOTE_TMO", .u16, .rw, 100, .int 1 10000 1 none, 0, 0, 9, true, 2, false⟩,
  ⟨0x1100, 1, 0x11, 1, "OD_COUNTS", .octets, .ro, 0, .any, 0, 0, 0, false, 32, false⟩,
  ⟨0x1100, 1, 0x12, 1, "OD_DROPS", .u32, .ro, 0, .any, 0, 0, 0, false, 4, false⟩,
  ⟨0x1100, 1, 0x13, 1, "TR_UDP_RATE", .u32, .rw, 0x186A0, .int 100 800000 1 none, 0, 0, 0, true, 4, false⟩,
  ⟨0x1100, 1, 0x14, 1, "TR_RING_DST", .u16, .rw, 0, .int 0 1023 1 (some 0xFFFF), 0, 0, 0, true, 2, false⟩,
  ⟨0x1100, 1, 0x15, 1, "TR_DROPS", .u32, .ro, 0, .any, 0, 0, 0, false, 4, false⟩]

/-- The 0x8000+s group as R476 of 18_object_dictionary.md sets it out. -/
def Od.rows18_8000_s : List OdRow := [
  ⟨0x8000, 32768, 0x00, 1, "TR_VALUE", .u64, .ro, 0, .any, 0, 0, 0, false, 8, false⟩,
  ⟨0x8000, 32768, 0x01, 1, "TR_TYPE", .u32, .ro, 0, .any, 0, 0, 0, false, 4, false⟩,
  ⟨0x8000, 32768, 0x02, 1, "TR_TIME", .time, .ro, 0, .any, 0, 0, 0, false, 14, false⟩,
  ⟨0x8000, 32768, 0x03, 1, "TR_BIND", .u32, .rw, 0, .any, 0, 0, 0, true, 4, false⟩,
  ⟨0x8000, 32768, 0x04, 1, "TR_PERIOD", .u32, .rw, 1000, .int 10 10000000 1 none, 0, 0, 10, true, 4, false⟩,
  ⟨0x8000, 32768, 0x05, 1, "TR_STREAM", .u8, .rw, 0, .any, 252, 0, 0, true, 1, false⟩]

/-- The 0x1A00 group as R492 of 19_clocks.md sets it out. -/
def Od.rows19_1A00 : List OdRow := [
  ⟨0x1A00, 1, 0x01, 1, "CLK_STATUS", .u16, .ro, 0, .any, 0, 0, 0, false, 2, false⟩,
  ⟨0x1A00, 1, 0x02, 1, "CLK_STATUS_CLR", .u16, .wo, 0, .any, 0xFC00, 0, 0, false, 2, false⟩,
  ⟨0x1A00, 1, 0x03, 1, "SYS_N", .u8, .rw, 80, .int 64 80 1 none, 0, 0, 0, false, 1, false⟩,
  ⟨0x1A00, 1, 0x04, 1, "DIV_PWM", .u8, .rw, 4, .int 4 16 1 none, 0, 0, 0, false, 1, false⟩,
  ⟨0x1A00, 1, 0x05, 1, "DIV_CORE", .u8, .rw, 5, .int 5 20 1 none, 0, 0, 0, false, 1, false⟩,
  ⟨0x1A00, 1, 0x06, 1, "DIV_LOOP", .u8, .rw, 5, .int 5 20 1 none, 0, 0, 0, false, 1, false⟩,
  ⟨0x1A00, 1, 0x07, 1, "DIV_SAFE", .u8, .rw, 10, .int 10 40 1 none, 0, 0, 0, false, 1, false⟩,
  ⟨0x1A00, 1, 0x08, 1, "DIV_MEAS", .u8, .rw, 20, .int 20 80 1 none, 0, 0, 0, false, 1, false⟩,
  ⟨0x1A00, 1, 0x09, 1, "CLK_ACTIVE", .octets, .ro, 0x140A05050450, .any, 0, 0, 0, false, 6, false⟩,
  ⟨0x1A00, 1, 0x0A, 1, "CLK_APPLY", .u8, .wo, 0, .int 1 2 1 none, 0, 0, 0, false, 1, false⟩,
  ⟨0x1A00, 1, 0x0B, 1, "CLK_APPLY_STATUS", .u8, .ro, 0, .int 0 3 1 none, 0, 0, 0, false, 1, false⟩,
  ⟨0x1A00, 1, 0x0C, 1, "CLK_RELOCKS", .u32, .ro, 0, .any, 0, 0, 0, false, 4, false⟩,
  ⟨0x1A00, 1, 0x0D, 1, "CLK_RELOCK_LAST", .u32, .ro, 0, .any, 0, 0, 11, false, 4, false⟩,
  ⟨0x1A00, 1, 0x0E, 1, "CLK_FREQ", .octets, .ro, 0, .any, 0, 0, 7, false, 32, false⟩,
  ⟨0x1A00, 1, 0x0F, 1, "CLK_GUARD_COUNT", .u32, .ro, 0, .any, 0, 0, 0, false, 4, false⟩,
  ⟨0x1A00, 1, 0x10, 1, "LINK_PHASE_ERR", .i16, .ro, 0, .any, 0, 0, 0, false, 2, false⟩,
  ⟨0x1A00, 1, 0x11, 1, "CLK_UNLOCKS", .octets, .ro, 0, .any, 0, 0, 0, false, 8, false⟩,
  ⟨0x1A00, 1, 0x12, 1, "CLK_PWM_STEPS", .i64, .ro, 0, .any, 0, 0, 0, false, 8, false⟩]

/-- The 0x1900 group as R512 of 20_power_reset.md sets it out. -/
def Od.rows20_1900 : List OdRow := [
  ⟨0x1900, 1, 0x01, 1, "PWR_STATE", .u16, .ro, 0, .any, 0, 0, 0, false, 2, false⟩,
  ⟨0x1900, 1, 0x02, 1, "PWR_REQ", .u16, .rw, 1023, .any, 0xFC00, 0, 0, true, 2, false⟩,
  ⟨0x1900, 1, 0x03, 1, "PWR_REQ_STATUS", .u16, .ro, 0, .any, 0, 0, 0, false, 2, false⟩,
  ⟨0x1900, 1, 0x04, 1, "PWR_WAKE_LAST", .octets, .ro, 0, .any, 0, 0, 0, false, 16, false⟩,
  ⟨0x1900, 1, 0x05, 1, "PWR_WAKES", .u32, .ro, 0, .any, 0, 0, 0, false, 4, false⟩,
  ⟨0x1900, 1, 0x06, 1, "RST_CAUSE", .u8, .ro, 0, .any, 0, 0, 0, false, 1, false⟩,
  ⟨0x1900, 1, 0x07, 1, "RST_COUNTS", .octets, .ro, 0, .any, 0, 0, 0, false, 24, false⟩,
  ⟨0x1900, 1, 0x08, 1, "RST_FLAGS", .u8, .ro, 0, .any, 0, 0, 0, false, 1, false⟩,
  ⟨0x1900, 1, 0x09, 1, "RST_FLAGS_CLR", .u8, .wo, 0, .any, 0xFC, 0, 0, false, 1, false⟩,
  ⟨0x1900, 1, 0x0A, 1, "RST_CMD", .u8, .wo, 0, .int 165 165 1 none, 0, 0, 0, false, 1, false⟩,
  ⟨0x1900, 1, 0x0B, 1, "PWR_CMD", .u8, .wo, 0, .int 1 1 1 none, 0, 0, 0, false, 1, false⟩,
  ⟨0x1900, 1, 0x0C, 1, "SLEEP_WAKE", .u8, .rw, 1, .any, 252, 0, 0, true, 1, false⟩,
  ⟨0x1900, 1, 0x0D, 1, "SLEEP_TIMER", .u32, .rw, 0, .int 0 31536000 1 none, 0, 0, 8, true, 4, false⟩,
  ⟨0x1900, 1, 0x0E, 1, "BOOT_STAGE", .u8, .ro, 0, .owner 0 15, 0, 0, 0, false, 1, false⟩,
  ⟨0x1900, 1, 0x0F, 1, "BOOT_TIME", .u32, .ro, 0, .any, 0, 0, 10, false, 4, false⟩,
  ⟨0x1900, 1, 0x10, 1, "PWR_SUPPLY", .u16, .ro, 0, .any, 0, 0, 0, false, 2, false⟩,
  ⟨0x1900, 1, 0x11, 1, "HOST_WD_SERVICE", .u8, .wo, 0, .int 1 1 1 none, 0, 0, 0, false, 1, false⟩,
  ⟨0x1900, 1, 0x12, 1, "UPTIME_COLD", .u64, .ro, 0, .any, 0, 0, 8, false, 8, false⟩,
  ⟨0x1900, 1, 0x13, 1, "RST_INCOMPLETE", .u32, .ro, 0, .any, 0, 0, 0, false, 4, false⟩]

/-- The 0x1B00 group as R539 of 21_storage_security.md sets it out. -/
def Od.rows21_1B00 : List OdRow := [
  ⟨0x1B00, 1, 0x01, 1, "CFG_STATE", .u8, .ro, 0, .int 0 2 1 none, 0, 0, 0, false, 1, false⟩,
  ⟨0x1B00, 1, 0x02, 1, "CFG_SEQ", .u32, .ro, 0, .any, 0, 0, 0, false, 4, false⟩,
  ⟨0x1B00, 1, 0x03, 1, "CFG_CMD", .u8, .wo, 0, .int 1 2 1 none, 0, 0, 0, false, 1, false⟩,
  ⟨0x1B00, 1, 0x04, 1, "CFG_CMD_STATUS", .u8, .ro, 0, .int 0 3 1 none, 0, 0, 0, false, 1, false⟩,
  ⟨0x1B00, 1, 0x05, 1, "CFG_IMAGE", .domain, .rw, 0, .any, 0, 0, 0, false, 520260, true⟩,
  ⟨0x1B00, 1, 0x06, 1, "CFG_DIRTY", .u8, .ro, 0, .int 0 1 1 none, 0, 0, 0, false, 1, false⟩,
  ⟨0x1B00, 1, 0x07, 1, "CFG_COMMITS", .u32, .ro, 0, .any, 0, 0, 0, false, 4, false⟩,
  ⟨0x1B00, 1, 0x08, 1, "CFG_SKIPPED", .u32, .ro, 0, .any, 0, 0, 0, false, 4, false⟩,
  ⟨0x1B00, 1, 0x09, 1, "CFG_BANKS", .octets, .ro, 0, .any, 0, 0, 0, false, 32, false⟩,
  ⟨0x1B00, 1, 0x10, 1, "FW_IMAGE", .domain, .wo, 0, .any, 0, 0, 0, false, 8388608, true⟩,
  ⟨0x1B00, 1, 0x11, 1, "FW_CMD", .u8, .wo, 0, .int 1 2 1 none, 0, 0, 0, false, 1, false⟩,
  ⟨0x1B00, 1, 0x12, 1, "FW_CMD_STATUS", .u8, .ro, 0, .int 0 3 1 none, 0, 0, 0, false, 1, false⟩,
  ⟨0x1B00, 1, 0x13, 1, "FW_SLOTS", .octets, .ro, 0, .any, 0, 0, 0, false, 32, false⟩,
  ⟨0x1B00, 1, 0x14, 1, "FW_FALLBACKS", .u32, .ro, 0, .any, 0, 0, 0, false, 4, false⟩,
  ⟨0x1B00, 1, 0x18, 1, "NOR_SIZE", .u32, .ro, 0, .any, 0, 0, 22, false, 4, false⟩,
  ⟨0x1B00, 1, 0x19, 1, "NOR_ERRORS", .u32, .ro, 0, .any, 0, 0, 0, false, 4, false⟩,
  ⟨0x1B00, 1, 0x1A, 1, "EVT_FREE", .u32, .ro, 0, .any, 0, 0, 0, false, 4, false⟩]

/-- The 0x1B20 group as R540 of 21_storage_security.md sets it out. -/
def Od.rows21_1B20 : List OdRow := [
  ⟨0x1B20, 1, 0x01, 1, "CEL_STATE", .u8, .ro, 0, .int 0 3 1 none, 0, 0, 0, false, 1, false⟩,
  ⟨0x1B20, 1, 0x02, 1, "CEL_CMD", .u8, .wo, 0, .int 1 4 1 none, 0, 0, 0, false, 1, false⟩,
  ⟨0x1B20, 1, 0x03, 1, "CEL_CMD_STATUS", .u8, .ro, 0, .int 0 3 1 none, 0, 0, 0, false, 1, false⟩,
  ⟨0x1B20, 1, 0x04, 1, "CEL_TRIG", .u8, .rw, 23, .any, 224, 0, 0, true, 1, false⟩,
  ⟨0x1B20, 1, 0x05, 1, "CEL_PRE", .u16, .rw, 32, .int 1 32 1 none, 0, 0, 9, true, 2, false⟩,
  ⟨0x1B20, 1, 0x06, 1, "CEL_POST", .u16, .rw, 2000, .int 0 10000 1 none, 0, 0, 9, true, 2, false⟩,
  ⟨0x1B20, 1, 0x07, 1, "CEL_SIGNALS", .octets, .rw, 0, .any, 0, 0, 0, true, 4096, false⟩,
  ⟨0x1B20, 1, 0x08, 1, "CEL_SEL", .u32, .rw, 0, .any, 0, 0, 0, false, 4, false⟩,
  ⟨0x1B20, 1, 0x09, 1, "CEL_DUMP_INFO", .octets, .ro, 0, .any, 0, 0, 0, false, 64, false⟩,
  ⟨0x1B20, 1, 0x0A, 1, "CEL_READ_OFS", .u64, .rw, 0, .any, 0, 0, 22, false, 8, false⟩,
  ⟨0x1B20, 1, 0x0B, 1, "CEL_READ", .domain, .ro, 0, .any, 0, 0, 0, false, 33554432, true⟩,
  ⟨0x1B20, 1, 0x0C, 1, "CEL_DST", .u16, .rw, 0, .int 0 1023 1 none, 0, 0, 0, true, 2, false⟩,
  ⟨0x1B20, 1, 0x0D, 1, "CEL_UP_DONE", .u64, .ro, 0, .any, 0, 0, 22, false, 8, false⟩,
  ⟨0x1B20, 1, 0x0E, 1, "CEL_LOG_DROPS", .u32, .ro, 0, .any, 0, 0, 0, false, 4, false⟩,
  ⟨0x1B20, 1, 0x0F, 1, "CEL_PE_RATED", .u32, .rw, 0xEA60, .int 1000 1000000 1 none, 0, 0, 0, true, 4, false⟩,
  ⟨0x1B20, 1, 0x10, 1, "CEL_WEAR", .u16, .ro, 0, .int 0 1000 1 none, 0, 0, 27, false, 2, false⟩,
  ⟨0x1B20, 1, 0x11, 1, "CEL_BAD_BLOCKS", .u32, .ro, 0, .any, 0, 0, 0, false, 4, false⟩]

/-- The 0x1B40 group as R541 of 21_storage_security.md sets it out. -/
def Od.rows21_1B40 : List OdRow := [
  ⟨0x1B40, 1, 0x01, 1, "SEC_STATE", .u16, .ro, 0, .any, 0, 0, 0, false, 2, false⟩,
  ⟨0x1B40, 1, 0x02, 1, "SEC_FW_RB", .u8, .ro, 0, .int 0 128 1 none, 0, 0, 0, false, 1, false⟩,
  ⟨0x1B40, 1, 0x03, 1, "SEC_OWN_RB", .u8, .ro, 0, .int 0 64 1 none, 0, 0, 0, false, 1, false⟩,
  ⟨0x1B40, 1, 0x04, 1, "SEC_FUSE_CMD", .u8, .wo, 0, .int 1 4 1 none, 0, 0, 0, false, 1, false⟩,
  ⟨0x1B40, 1, 0x05, 1, "SEC_FUSE_ARG", .domain, .wo, 0, .any, 0, 0, 0, false, 256, true⟩,
  ⟨0x1B40, 1, 0x06, 1, "SEC_FUSE_STATUS", .u8, .ro, 0, .int 0 3 1 none, 0, 0, 0, false, 1, false⟩,
  ⟨0x1B40, 1, 0x07, 1, "SEC_NONCE", .octets, .wo, 0, .any, 0, 0, 0, false, 32, false⟩,
  ⟨0x1B40, 1, 0x08, 1, "SEC_ATTEST", .octets, .ro, 0, .any, 0, 0, 0, false, 242, false⟩,
  ⟨0x1B40, 1, 0x09, 1, "SEC_ID_PUBKEY", .octets, .const, 0, .any, 0, 0, 0, false, 57, false⟩,
  ⟨0x1B40, 1, 0x0A, 1, "SEC_ID_CERT", .octets, .const, 0, .any, 0, 0, 0, false, 114, false⟩,
  ⟨0x1B40, 1, 0x0B, 1, "SEC_DEBUG_UNLOCK", .domain, .wo, 0, .any, 0, 0, 0, false, 256, true⟩,
  ⟨0x1B40, 1, 0x0C, 1, "SEC_OWNER_KEYS", .octets, .ro, 0, .any, 0, 0, 0, false, 114, false⟩,
  ⟨0x1B40, 1, 0x0D, 1, "SEC_VENDOR_HASH", .octets, .ro, 0, .any, 0, 0, 0, false, 32, false⟩,
  ⟨0x1B40, 1, 0x0E, 1, "SEC_SIG_FAILS", .u32, .ro, 0, .any, 0, 0, 0, false, 4, false⟩]

/-- The 0x1C00 group as R552 of 22_test.md sets it out. -/
def Od.rows22_1C00 : List OdRow := [
  ⟨0x1C00, 1, 0x01, 1, "BIST_CMD", .u8, .wo, 0, .int 1 2 1 none, 0, 0, 0, false, 1, false⟩,
  ⟨0x1C00, 1, 0x02, 1, "BIST_TARGET", .u16, .rw, 0, .any, 224, 0, 0, false, 2, false⟩,
  ⟨0x1C00, 1, 0x03, 1, "BIST_STATE", .u8, .ro, 0, .int 0 4 1 none, 0, 0, 0, false, 1, false⟩,
  ⟨0x1C00, 1, 0x04, 1, "BIST_SIG", .u64, .ro, 0, .any, 0, 0, 0, false, 8, false⟩,
  ⟨0x1C00, 1, 0x05, 1, "BIST_GOLDEN", .u64, .ro, 0, .any, 0, 0, 0, false, 8, false⟩,
  ⟨0x1C00, 1, 0x06, 1, "BIST_FAIL_ADDR", .u32, .ro, 0xFFFFFFFF, .any, 0, 0, 22, false, 4, false⟩,
  ⟨0x1C00, 1, 0x07, 1, "BIST_TIME", .u32, .ro, 0, .any, 0, 0, 10, false, 4, false⟩,
  ⟨0x1C00, 1, 0x08, 1, "BIST_IDLE", .octets, .ro, 0, .any, 0, 0, 0, false, 8, false⟩,
  ⟨0x1C00, 1, 0x09, 1, "BIST_RUNS", .u32, .ro, 0, .any, 0, 0, 0, false, 4, false⟩,
  ⟨0x1C00, 1, 0x0A, 1, "BIST_FAILS", .u32, .ro, 0, .any, 0, 0, 0, false, 4, false⟩,
  ⟨0x1C00, 1, 0x0B, 1, "BIST_LOG", .octets, .ro, 0, .any, 0, 0, 0, false, 384, true⟩,
  ⟨0x1C00, 1, 0x0C, 1, "BIST_HELD", .u32, .ro, 0, .any, 0, 0, 0, false, 4, false⟩]

/-- The group tables of the dictionary, but for the FLT_CFG entries of R307. -/
def Od.groups : List (List OdRow) :=
  [Od.rows02_2000, Od.rows02_2100_C, Od.rows03_2200_L, Od.rows03_2300_K, Od.rows04_2200_L, Od.rows04_2100_C,
    Od.rows04_2000, Od.rows05_2800_M, Od.rows05_2900_A, Od.rows05_2A00, Od.rows05_2A20_S, Od.rows05_2A40_QG,
    Od.rows05_2A80_TE, Od.rows06_3000_LS, Od.rows06_3080, Od.rows07_3100, Od.rows07_3180_LS, Od.rows08_3200,
    Od.rows08_3220_ST, Od.rows09_2900_A, Od.rows09_3400, Od.rows09_3440_E, Od.rows10_3500, Od.rows11_3600,
    Od.rows11_3620_C, Od.rows12_1800, Od.rows13_3800, Od.rows13_3810_c, Od.rows13_3820_p, Od.rows14_1280_n,
    Od.rows15_1200, Od.rows15_1210_t, Od.rows15_1220, Od.rows15_1230, Od.rows16_1300, Od.rows16_1310_n,
    Od.rows16_1320_d, Od.rows16_1340_b, Od.rows16_1380_n, Od.rows17_1400, Od.rows18_1000, Od.rows18_1100,
    Od.rows18_8000_s, Od.rows19_1A00, Od.rows20_1900, Od.rows21_1B00, Od.rows21_1B20, Od.rows21_1B40,
    Od.rows22_1C00]

/-- Every row of those tables. -/
def Od.rows : List OdRow := Od.groups.flatten

end Sys2Proof.Machine
end

