-- ==== Sys2Proof/Machine/Blocks.lean ====
section
/-! DEFINITION. The block library of the loop engine (06, 07, 08, 09): what each block computes from its inputs, its
coefficients and its state words. Every operation is a binary32 operation in the order in which the manual writes it;
whether a block type fuses a product into the sum that follows is Config.fused (R152). -/

namespace Sys2Proof.Machine

/-! ### Shapes (R157) -/

/-- Least and most inputs of a block type; none for a code outside the library. -/
def blkSrcs (typ : Nat) : Option (Nat × Nat) :=
  match typ with
  | 0x01 => some (1, 8) | 0x02 => some (2, 2) | 0x03 => some (2, 2) | 0x04 => some (1, 1) | 0x05 => some (1, 1)
  | 0x06 => some (1, 1) | 0x07 => some (1, 1) | 0x08 => some (3, 3) | 0x09 => some (1, 1) | 0x0A => some (3, 3)
  | 0x0B => some (3, 3) | 0x0C => some (3, 3) | 0x0D => some (1, 1) | 0x0E => some (3, 3) | 0x0F => some (2, 2)
  | 0x10 => some (3, 3) | 0x11 => some (2, 2) | 0x18 => some (3, 3) | 0x19 => some (3, 3) | 0x1A => some (3, 3)
  | 0x1B => some (4, 4) | 0x1C => some (5, 5) | 0x1D => some (3, 3) | 0x20 => some (1, 1) | 0x21 => some (1, 1)
  | 0x22 => some (3, 3) | 0x23 => some (1, 1) | 0x24 => some (1, 1)
  | _ => none

/-- Output ports of a block type. -/
def blkPorts (typ : Nat) : Nat :=
  match typ with
  | 0x04 => 2 | 0x08 => 3 | 0x09 => 2 | 0x0A => 2 | 0x0B => 2 | 0x0C => 2 | 0x10 => 2 | 0x11 => 2 | 0x19 => 2
  | 0x1A => 4 | 0x1B => 3 | 0x1C => 4 | 0x1D => 2
  | 0x20 => 0 | 0x21 => 0 | 0x22 => 0 | 0x23 => 0 | 0x24 => 0
  | _ => 1

/-- Coefficient words of a block with n inputs and ARG a. -/
def blkCoefs (typ n a : Nat) : Nat :=
  match typ with
  | 0x01 => n | 0x03 => 1 | 0x04 => 2 | 0x05 => 2 | 0x06 => 3 | 0x07 => 5 | 0x08 => 9 | 0x0D => 2 + a | 0x0F => 1
  | 0x10 => a * a + 4 * a | 0x11 => 5 | 0x18 => 6 | 0x19 => 8 | 0x1A => 12 | 0x1B => 24 | 0x1C => 16 | 0x1D => 10
  | _ => 0

/-- State words of a block with ARG a. -/
def blkStates (typ a : Nat) : Nat :=
  match typ with
  | 0x05 => 1 | 0x06 => 2 | 0x07 => 2 | 0x08 => 4 | 0x0F => 1 | 0x10 => a | 0x11 => 3 | 0x18 => 2 | 0x19 => 2
  | 0x1A => 6 | 0x1B => 10 | 0x1C => 12 | 0x1D => 4
  | _ => 0

/-- Cost in pipe cycles of a block with n inputs and ARG a. -/
def blkCost (typ n a : Nat) : Nat :=
  match typ with
  | 0x01 => 2 + n | 0x02 => 2 | 0x03 => 12 | 0x04 => 4 | 0x05 => 6 | 0x06 => 8 | 0x07 => 12 | 0x08 => 24 | 0x09 => 12
  | 0x0A => 6 | 0x0B => 16 | 0x0C => 16 | 0x0D => 10 | 0x0E => 2 | 0x0F => 4 | 0x10 => 6 + a * (a + 4) | 0x11 => 12
  | 0x18 => 36 | 0x19 => 40 | 0x1A => 60 | 0x1B => 80 | 0x1C => 120 | 0x1D => 30 | 0x20 => 6 | 0x21 => 12 | 0x22 => 16
  | 0x23 => 12 | 0x24 => 4
  | _ => 0

/-- The values of ARG a block type takes (R155): table length, model order, leg, slot output. -/
def blkArgOk (typ a nOut : Nat) : Bool :=
  match typ with
  | 0x0D => decide (2 ≤ a ∧ a ≤ 64)
  | 0x10 => decide (1 ≤ a ∧ a ≤ 4)
  | 0x20 => decide (a ≤ 191)
  | 0x21 => decide (a ≤ 190)
  | 0x22 => decide (a ≤ 189)
  | 0x23 => decide (a ≤ 190)
  | 0x24 => decide (a < nOut)
  | _ => true

/-- The block converts its inputs into leg values (R165). -/
def isOut (typ : Nat) : Bool := decide (0x20 ≤ typ) && decide (typ ≤ 0x23)

/-! ### Arithmetic the blocks share -/

/-- a × b + c in a block of this type: rounded once where its sequence fuses (R152). -/
def mad (typ a b c : Nat) : Nat := if Config.fused typ then F32.fma a b c else F32.add (F32.mul a b) c

/-- min(max(x, lo), hi). -/
def fclamp (x lo hi : Nat) : Nat := F32.min (F32.max x lo) hi

/-- Σ c_i × x_i. -/
def dot (typ : Nat) : List Nat → List Nat → Nat
  | c :: cs, x :: xs => (cs.zip xs).foldl (fun acc p => mad typ p.1 p.2 acc) (F32.mul c x)
  | _, _ => 0

/-- −1.0, 0.0 or +1.0 by the sign of x. -/
def fsgn (x : Nat) : Nat := if F32.gt x 0 then F32.one else if F32.lt x 0 then F32.negOne else 0

/-- x reduced to (−0.5, 0.5] (R230). -/
def fwrap (x : Nat) : Nat :=
  if F32.finite x then
    let k : Int := -((2 ^ 149 - 2 * F32.fix x) / 2 ^ 150)
    F32.ofFix (F32.fix x - k * 2 ^ 149) 0
  else F32.nan

/-- An integer as a binary32 code. -/
def fint (n : Nat) : Nat := F32.ofInt n

/-- √3 as a binary32 code. -/
def sqrt3 : Nat := 0x3FDDB3D7

/-- 2.0, 3.0, 4.0, 8.0, 0.125 and 0.25 as binary32 codes. -/
def f2 : Nat := 0x40000000
def f3 : Nat := 0x40400000
def f4 : Nat := 0x40800000
def f5 : Nat := 0x40A00000
def f6 : Nat := 0x40C00000
def f7 : Nat := 0x40E00000
def f8 : Nat := 0x41000000
def fEighth : Nat := 0x3E000000
def fQuarter : Nat := 0x3E800000

/-- CLARKE of R157: α = (2a − b − c) / 3, β = (b − c) / √3. -/
def clarke (a b c : Nat) : Nat × Nat :=
  (F32.div (F32.sub (F32.sub (F32.mul f2 a) b) c) f3, F32.div (F32.sub b c) sqrt3)

/-- √(a² + b²). -/
def hyp (typ a b : Nat) : Nat := F32.sqrt (mad typ b b (F32.mul a a))

/-- atan2(y, x) / 2π, by the engine's fixed sequence, which the manual does not give (R152). -/
def atan2Turn (y x : Nat) : Nat := Config.atan2Turn y x % 2 ^ 32

/-- sin 2πθ and cos 2πθ, by the engine's fixed sequences (R152). -/
def sinTurn (th : Nat) : Nat := if F32.finite th then Config.sinTurn th % 2 ^ 32 else F32.nan
def cosTurn (th : Nat) : Nat := if F32.finite th then Config.cosTurn th % 2 ^ 32 else F32.nan

/-- What a block sees besides its inputs: the outputs of the last completed run, those of this run, its program. -/
structure BlkEnv where
  prev : List (List Nat)
  cur : List (List Nat)
  prog : LProg

/-- Port q of block b in a list of outputs. -/
def portOf (o : List (List Nat)) (b q : Nat) : Nat := (o.getD b []).getD q 0

/-- A status of R162 that carries a real sample (R177, R178): 0.0, 2.0, 3.0 or 5.0. -/
def goodSt (st : Nat) : Bool := st = 0 || st = 2 || st = 3 || st = 5

/-! ### The blocks: inputs, coefficients, state words → outputs, state words -/

/-- PID of R158; `uLast` is the u of the last completed run where R181 asks for it. -/
def blkPid (first : Bool) (uLast : Option Nat) (x c st : List Nat) : List Nat × List Nat :=
  let w := x.getD 0 0; let y := x.getD 1 0; let ff := x.getD 2 0
  let kp := c.getD 0 0; let ki := c.getD 1 0; let al := c.getD 2 0; let be := c.getD 3 0
  let kt := c.getD 4 0; let umin := c.getD 5 0; let umax := c.getD 6 0; let mode := c.getD 7 0
  let i0 := st.getD 0 0; let d0 := st.getD 1 0; let a0 := st.getD 3 0
  let e := F32.sub w y
  let onErr := mode.testBit 1
  let z0 := if first then (if onErr then e else y) else st.getD 2 0
  let p := F32.mul kp e
  let i1 :=
    if !mode.testBit 0 then mad 0x08 kt a0 (mad 0x08 ki e i0)
    else if !(F32.lt a0 0 && F32.gt e 0) && !(F32.gt a0 0 && F32.lt e 0) then mad 0x08 ki e i0
    else i0
  let i2 := fclamp i1 umin umax
  let d := if onErr then mad 0x08 be (F32.sub e z0) (F32.mul al d0)
    else F32.sub (F32.mul al d0) (F32.mul be (F32.sub y z0))
  let i := match uLast with
    | some u => fclamp (F32.sub (F32.sub (F32.sub u p) d) ff) umin umax
    | none => i2
  let v := F32.add (F32.add (F32.add p i) d) ff
  let u := fclamp v umin umax
  let a := F32.sub u v
  let sat := if F32.gt v umax then F32.one else if F32.lt v umin then F32.negOne else 0
  ([u, v, sat], [i, d, if onErr then e else y, a])

/-- LUT of R157: ARG points, held beyond both ends. -/
def blkLut (n : Nat) (x : Nat) (c : List Nat) : Nat :=
  let pos := F32.div (F32.sub x (c.getD 0 0)) (c.getD 1 0)
  if F32.isNaN pos then F32.nan
  else if F32.le pos 0 then c.getD 2 0
  else if F32.ge pos (fint (n - 1)) then c.getD (1 + n) 0
  else
    let i := (F32.floor pos).toNat
    let a := c.getD (2 + i) 0
    mad 0x0D (F32.sub pos (fint i)) (F32.sub (c.getD (3 + i) 0) a) a

/-- MODEL of R177, order n: outputs ŷ_now and ŷ_next, new state x. -/
def blkModel (n : Nat) (x : List Nat) (ySt : Nat) (c st : List Nat) : List Nat × List Nat :=
  let u0 := x.getD 0 0; let u1 := x.getD 1 0; let y := x.getD 2 0
  let cv := (c.drop (n * n + 2 * n)).take n
  let lv := (c.drop (n * n + 3 * n)).take n
  let now := dot 0x10 cv st
  let r := F32.sub y now
  let new := (List.range n).map fun i =>
    let ax := dot 0x10 ((c.drop (i * n)).take n) st
    let bu := mad 0x10 (c.getD (n * n + 2 * i + 1) 0) u1 (mad 0x10 (c.getD (n * n + 2 * i) 0) u0 ax)
    if goodSt ySt then mad 0x10 (lv.getD i 0) r bu else bu
  ([now, dot 0x10 cv new], new)

/-- PLAUS of R178: outputs s and flag; state words s, consecutive runs counted, flag. -/
def blkPlaus (y yh ySt : Nat) (c st : List Nat) : List Nat × List Nat :=
  let s0 := st.getD 0 0; let n0 := st.getD 1 0; let flag := st.getD 2 0
  if !goodSt ySt then ([s0, flag], [s0, n0, flag])
  else
    let s := mad 0x11 (c.getD 0 0) (F32.sub (F32.abs (F32.sub y yh)) s0) s0
    let th := c.getD 1 0
    let inRange := F32.le (c.getD 2 0) y && F32.le y (c.getD 3 0)
    let need := c.getD 4 0
    let hit := if flag = 0 then F32.gt s th || !inRange else F32.lt s (F32.div th f2) && inRange
    let n := if hit then n0 + 1 else 0
    if hit && decide (n ≥ need) then
      let f := if flag = 0 then F32.one else 0
      ([s, f], [s, 0, f])
    else ([s, flag], [s, n, flag])

/-- BAL of R222. -/
def blkBal (x c st : List Nat) : List Nat × List Nat :=
  let vref := c.getD 0 0; let kb := c.getD 1 0; let imin := c.getD 2 0; let tmax := c.getD 3 0
  let li := c.getD 4 0; let vdead := c.getD 5 0
  let m := x.getD 1 0
  let i := mad 0x18 li (F32.sub (x.getD 2 0) (st.getD 0 0)) (st.getD 0 0)
  let e0 := F32.sub (x.getD 0 0) vref
  let e := if F32.le (F32.abs e0) vdead then 0 else F32.sub e0 (F32.mul (fsgn e0) vdead)
  let g := F32.div i (F32.max (F32.abs i) imin)
  let t := F32.mul (F32.mul (F32.negate kb) e) g
  let t := fclamp t (F32.negate tmax) tmax
  let t := fclamp t (F32.sub F32.negOne m) (F32.sub F32.one m)
  ([t], [i, t])

/-- h of the extended phase shift, for φ ≥ 0 (08, The isolation stage). -/
def dabH (phi q : Nat) : Nat :=
  if F32.le phi (F32.sub fQuarter (F32.div q f2)) then F32.mul (F32.mul f2 q) phi
  else F32.sub (F32.sub (F32.add (F32.sub phi (F32.mul (F32.mul f2 phi) phi)) (F32.div q f2)) (F32.div (F32.mul q q) f2))
    fEighth

/-- DAB_MAP of R224: φ in turns and the primary duty q. -/
def blkDab (x c st : List Nat) : List Nat × List Nat :=
  let p := x.getD 0 0; let v1 := x.getD 1 0; let v2 := x.getD 2 0
  let nt := c.getD 0 0; let ld := c.getD 1 0; let fd := c.getD 2 0; let pmax := c.getD 3 0
  let qmin := c.getD 5 0; let vmin := c.getD 6 0; let dmax := c.getD 7 0
  if F32.lt v1 vmin || F32.lt v2 vmin then ([0, st.getD 1 0], [0, st.getD 1 0])
  else
    let q := if F32.ge (c.getD 4 0) F32.half
      then F32.min (F32.max (F32.div (F32.mul (F32.mul F32.half nt) v2) v1) qmin) F32.half else F32.half
    let k := F32.min (F32.div (F32.mul (F32.mul (F32.abs p) fd) ld) (F32.mul (F32.mul nt v1) v2)) (dabH pmax q)
    let q2 := F32.mul q q
    let phi0 :=
      if F32.le k (F32.sub (F32.div q f2) q2) then F32.div k (F32.mul f2 q)
      else F32.div (F32.sub F32.one (F32.sqrt (F32.sub F32.one (F32.mul f8
        (F32.add (F32.add (F32.sub k (F32.div q f2)) (F32.div q2 f2)) fEighth))))) f4
    let phi := F32.mul (fsgn p) phi0
    let last := st.getD 0 0
    let phi := if F32.gt dmax 0 then fclamp phi (F32.sub last dmax) (F32.add last dmax) else phi
    ([phi, q], [phi, q])

/-- GRID_TRACK of R230. The word count holds the runs of the lock and, above bit 32, those of V_LOSS. -/
def blkGrid (x c st : List Nat) : List Nat × List Nat :=
  let kp := c.getD 0 0; let ki := c.getD 1 0; let wmin := c.getD 3 0; let wmax := c.getD 4 0
  let vloss := c.getD 5 0; let nloss := c.getD 6 0; let snap := c.getD 7 0; let slew := c.getD 8 0
  let tol := c.getD 9 0; let nlock := c.getD 10 0; let lv := c.getD 11 0
  let th0 := st.getD 0 0; let wi := st.getD 1 0; let out0 := st.getD 3 0; let mode := st.getD 4 0
  let cnt := st.getD 5 0 % 2 ^ 32; let lossN := st.getD 5 0 / 2 ^ 32
  let (al, be) := clarke (x.getD 0 0) (x.getD 1 0) (x.getD 2 0)
  let vf := mad 0x1A lv (F32.sub (hyp 0x1A al be) (st.getD 2 0)) (st.getD 2 0)
  let thm := atan2Turn be al
  let e := fwrap (F32.sub thm th0)
  let coast := mode = f2
  -- V_f below V_LOSS counts outside COAST, at or above it in COAST
  let n := if (F32.lt vf vloss) != coast then lossN + 1 else 0
  let ovr := (F32.lt vf vloss != coast) && decide (n ≥ nloss)
  let mk (th w wi' vf out m cnt n : Nat) : List Nat × List Nat :=
    ([out, w, vf, m], [th, wi', vf, out, m, cnt + 2 ^ 32 * n])
  if coast && ovr then
    if F32.le (F32.abs e) snap then mk thm wi wi vf out0 f3 0 0 else mk thm wi wi vf thm f4 0 0
  else if coast || ovr then
    let th := F32.frac (F32.add th0 wi)
    mk th wi wi vf th f2 cnt (if coast then n else 0)
  else if mode = F32.one && F32.gt (F32.abs e) snap then mk thm wi wi vf thm f4 0 n
  else
    let w := fclamp (mad 0x1A kp e wi) wmin wmax
    let wi' := fclamp (mad 0x1A ki e wi) wmin wmax
    let th := F32.frac (F32.add th0 w)
    if mode = f3 then
      let d := fwrap (F32.sub th out0)
      if F32.le (F32.abs d) slew then mk th w wi' vf th F32.one cnt n
      else mk th w wi' vf (F32.frac (F32.add (F32.sub (F32.add out0 th) th0) (F32.mul (fsgn d) slew))) f3 cnt n
    else if mode = 0 || mode = f4 then
      let cnt := if F32.le (F32.abs e) tol then cnt + 1 else 0
      if cnt ≥ nlock then mk th w wi' vf th F32.one cnt n else mk th w wi' vf th mode cnt n
    else mk th w wi' vf th mode cnt n

/-- Δ of R230 where this run sets it: e in the run that leaves COAST or LOCKED by a jump. -/
def gridJump (x c st : List Nat) : Option Nat :=
  let (al, be) := clarke (x.getD 0 0) (x.getD 1 0) (x.getD 2 0)
  let e := fwrap (F32.sub (atan2Turn be al) (st.getD 0 0))
  let m := st.getD 4 0
  let m' := (blkGrid x c st).2.getD 4 0
  if (m = f2 && (m' = f3 || m' = f4)) || (m = F32.one && m' = f4) then some e else none

/-- COMMUTATE of R253: θ, ω and mode. -/
def blkCommutate (env : BlkEnv) (arg : Nat) (x c st : List Nat) : List Nat × List Nat :=
  let g (i : Nat) := c.getD i 0
  let ia := x.getD 0 0; let ib := x.getD 1 0; let vbus := x.getD 2 0; let thfb := x.getD 3 0
  let fbMode := g 17; let fsBlk := g 20
  let thr := st.getD 0 0; let wr := st.getD 1 0; let tho := st.getD 2 0; let wo := st.getD 3 0
  let mode := st.getD 8 0; let count := st.getD 9 0
  let ial := ia
  let ibe := F32.div (F32.add ia (F32.mul f2 ib)) sqrt3
  let va0 := portOf env.prev arg 0; let vb0 := portOf env.prev arg 1
  let mag := hyp 0x1B va0 vb0
  let lim := F32.div vbus sqrt3
  let (va, vb) := if F32.gt mag lim then (F32.div (F32.mul va0 lim) mag, F32.div (F32.mul vb0 lim) mag) else (va0, vb0)
  let ea := F32.sub (F32.sub va (F32.mul (g 0) ial)) (F32.mul (g 1) (F32.sub ial (st.getD 6 0)))
  let eb := F32.sub (F32.sub vb (F32.mul (g 0) ibe)) (F32.mul (g 1) (F32.sub ibe (st.getD 7 0)))
  let eaf := mad 0x1B (g 2) (F32.sub ea (st.getD 4 0)) (st.getD 4 0)
  let ebf := mad 0x1B (g 2) (F32.sub eb (st.getD 5 0)) (st.getD 5 0)
  let cs := cosTurn tho; let sn := sinTurn tho
  let ed := mad 0x1B ebf sn (F32.mul eaf cs)
  let eq := F32.sub (F32.mul ebf cs) (F32.mul eaf sn)
  let fbErr := fwrap (F32.sub (F32.add thfb (g 18)) tho)
  let eps := if fbMode = 1 then fbErr
    else if F32.ge (F32.abs eq) (g 5) then atan2Turn (F32.mul (F32.negate ed) (fsgn eq)) (F32.abs eq)
    else 0
  let wo := fclamp (mad 0x1B (g 4) eps wo) (F32.negate (g 6)) (g 6)
  let tho := F32.frac (mad 0x1B (g 3) eps (F32.add tho wo))
  let fs := env.cur.getD fsBlk []
  let fsPh := fs.getD 3 0
  -- the state after the mode's row: θ_r, ω_r, θ_o, ω_o, mode, count
  let (thr, wr, tho, wo, mode, count) :=
    if mode = f4 then
      (if fsPh = F32.one || fsPh = f4 then (thr, wr, fs.getD 0 0, fs.getD 1 0, f3, 0)
       else if fsPh = f5 then (thr, wr, tho, wo, 0, 0) else (thr, wr, tho, wo, mode, count))
    else if mode = 0 then
      (if count + 1 ≥ g 8 then (g 7, 0, g 7, 0, F32.one, 0) else (g 7, 0, tho, wo, mode, count + 1))
    else if mode = F32.one then
      let wr := if F32.gt (F32.sub (g 9) wr) (g 10) then F32.add wr (g 10)
        else if F32.lt (F32.sub (g 9) wr) (F32.negate (g 10)) then F32.sub wr (g 10) else g 9
      let thr := F32.frac (F32.add thr wr)
      if F32.eq wr (g 9) && F32.ge (F32.abs eq) (g 12) && F32.le (F32.abs (fwrap (F32.sub tho thr))) (g 13) then
        (thr, wr, tho, wo, f2, 0)
      else if count + 1 ≥ g 11 then (thr, wr, tho, wo, f5, count + 1)
      else (thr, wr, tho, wo, mode, count + 1)
    else if mode = f2 then
      let thr := F32.frac (F32.add thr wr)
      if count + 1 ≥ g 14 then (thr, wr, tho, wo, f3, 0) else (thr, wr, tho, wo, mode, count + 1)
    else if mode = f3 then
      (if fsBlk < env.cur.length && fsPh = f2 then (thr, wr, tho, wo, f4, count)
       else
        let bad := F32.lt (F32.abs wo) (g 15) || (fbMode ≠ 1 && F32.lt (F32.abs eq) (g 5)) ||
          (fbMode = 2 && F32.gt (F32.abs (fwrap (F32.sub (F32.add thfb (g 18)) tho))) (g 19))
        let n := if bad then count + 1 else 0
        if n ≥ g 16 then (thr, wr, tho, wo, f5, n) else (thr, wr, tho, wo, mode, n))
    else (thr, wr, tho, wo, mode, count)
  let (th, w) :=
    if mode = 0 || mode = F32.one then (thr, wr)
    else if mode = f2 then
      (F32.frac (mad 0x1B (F32.div (fint count) (fint (g 14))) (fwrap (F32.sub tho thr)) thr), wr)
    else (tho, wo)
  ([th, w, mode], [thr, wr, tho, wo, eaf, ebf, ial, ibe, mode, count])

/-- FLYSTART of R254: θ, ω, dir and phase. -/
def blkFly (env : BlkEnv) (self : Nat) (x c st : List Nat) : List Nat × List Nat :=
  let g (i : Nat) := c.getD i 0
  let thp := st.getD 0 0; let wi := st.getD 1 0; let phase := st.getD 3 0; let count := st.getD 4 0
  let thd := st.getD 6 0; let wd := st.getD 7 0; let dird := st.getD 8 0
  let (al, be) := clarke (x.getD 0 0) (x.getD 1 0) (x.getD 2 0)
  let ef := mad 0x1C (g 4) (F32.sub (hyp 0x1C al be) (st.getD 2 0)) (st.getD 2 0)
  let ia := x.getD 3 0; let ib := x.getD 4 0
  let i2 := F32.add ia (F32.mul f2 ib)
  let cur := F32.sqrt (F32.add (F32.mul ia ia) (F32.div (F32.mul i2 i2) f3))
  let n := st.getD 5 0 + 1
  let mk (thp wi phase count n thd wd dird : Nat) : List Nat × List Nat :=
    ([thd, wd, dird, phase], [thp, wi, ef, phase, count, n, thd, wd, dird, cur, 0, 0])
  if phase = 0 then
    let thm := atan2Turn be al
    let e := fwrap (F32.sub thm thp)
    let wi := fclamp (mad 0x1C (g 3) e wi) (F32.negate (g 10)) (g 10)
    let thp := F32.frac (mad 0x1C (g 2) e (F32.add thp wi))
    let count := if F32.le (F32.abs e) (g 6) && F32.ge ef (g 5) then count + 1 else 0
    if count ≥ g 7 then
      let thd := F32.frac (F32.sub thm (F32.mul fQuarter (fsgn wi)))
      if F32.lt (F32.abs wi) (g 8) then mk thp wi f5 count n thd wi 0
      else if F32.gt (F32.mul wi (g 0)) 0 then mk thp wi F32.one count n thd wi (fsgn wi)
      else if F32.le (F32.abs wi) (g 9) then mk thp wi f2 0 0 thd wi (fsgn wi)
      else mk thp wi f4 count n thd wi (fsgn wi)
    else if n ≥ g 1 then mk thp wi (if F32.lt ef (g 5) then f5 else f7) count n thd wd dird
    else mk thp wi phase count n thd wd dird
  else if phase = F32.one || phase = f5 then mk thp wi f6 count n thd wd dird
  else if phase = f4 then
    let cm := (env.prog.blocks.findIdx? fun b => b.typ = 0x1B && env.prog.coef.getD (b.cb + 20) 0 = self).getD 0
    let wd := portOf env.prev cm 1
    if F32.le (F32.abs wd) (g 9) then mk thp wi f2 0 0 thd wd dird else mk thp wi phase count n thd wd dird
  else if phase = f2 then
    let (ph, count) :=
      if F32.gt cur (g 11) then (f3, count)
      else
        let k := if F32.lt cur (g 12) then count + 1 else 0
        if k ≥ g 13 then (f5, k) else (f2, k)
    mk thp wi (if n ≥ g 14 then f7 else ph) count n thd wd dird
  else if phase = f3 then
    let ph := if F32.lt cur (F32.div (g 11) f2) then f2 else f3
    mk thp wi (if n ≥ g 14 then f7 else ph) count n thd wd dird
  else mk thp wi phase count n thd wd dird

/-- CHOPPER of R249: duty and fault. -/
def blkChopper (x c st : List Nat) : List Nat × List Nat :=
  let g (i : Nat) := c.getD i 0
  let v := x.getD 0 0; let ich := x.getD 1 0
  let d0 := st.getD 0 0; let vref0 := st.getD 2 0; let n0 := st.getD 3 0
  let iexp := F32.div (F32.mul d0 v) (g 3)
  let ierr := mad 0x1D (g 4) (F32.sub (F32.sub ich iexp) (st.getD 1 0)) (st.getD 1 0)
  let bad := F32.gt (F32.abs ierr) (mad 0x1D (g 5) iexp (g 6))
  let (vref, bad) :=
    if F32.ge d0 (g 2) then
      (if F32.lt vref0 0 then (v, bad) else (vref0, bad || F32.gt (F32.sub v vref0) (g 7)))
    else (F32.negOne, bad)
  let n := if n0 < g 8 then (if bad then n0 + 1 else 0) else n0
  let fault := if n ≥ g 8 then F32.one else 0
  let d := if n ≥ g 8 then 0
    else F32.min (F32.mul (fclamp (F32.div (F32.sub v (g 0)) (F32.sub (g 1) (g 0))) 0 F32.one)
      (fclamp (x.getD 2 0) 0 F32.one)) (g 2)
  ([d, fault], [d, ierr, vref, n])

/-- One block of the library (R157), given the number of the block, its inputs and their statuses, its coefficient
and state words, whether the slot has not completed a run since RUN, and the last u under R181. -/
def runBlock (env : BlkEnv) (self : Nat) (b : LBlock) (x sts c st : List Nat) (first : Bool) (uLast : Option Nat) :
    List Nat × List Nat :=
  let x0 := x.getD 0 0; let x1 := x.getD 1 0; let x2 := x.getD 2 0
  match b.typ with
  | 0x01 => ([dot 0x01 c x], [])
  | 0x02 => ([F32.mul x0 x1], [])
  | 0x03 => ([if F32.lt (F32.abs x1) (c.getD 0 0) then 0 else F32.div x0 x1], [])
  | 0x04 =>
    let lo := c.getD 0 0; let hi := c.getD 1 0
    ([fclamp x0 lo hi, if F32.lt x0 lo then F32.negOne else if F32.gt x0 hi then F32.one else 0], [])
  | 0x05 =>
    let y := st.getD 0 0
    let d := F32.sub x0 y
    let y := if F32.gt d (c.getD 0 0) then F32.add y (c.getD 0 0)
      else if F32.lt d (F32.negate (c.getD 1 0)) then F32.sub y (c.getD 1 0) else x0
    ([y], [y])
  | 0x06 =>
    let y := F32.sub (mad 0x06 (c.getD 1 0) (st.getD 0 0) (F32.mul (c.getD 0 0) x0)) (F32.mul (c.getD 2 0) (st.getD 1 0))
    ([y], [x0, y])
  | 0x07 =>
    let y := mad 0x07 (c.getD 0 0) x0 (st.getD 0 0)
    let s1 := F32.sub (mad 0x07 (c.getD 1 0) x0 (st.getD 1 0)) (F32.mul (c.getD 3 0) y)
    let s2 := F32.sub (F32.mul (c.getD 2 0) x0) (F32.mul (c.getD 4 0) y)
    ([y], [s1, s2])
  | 0x08 => blkPid first uLast x c st
  | 0x09 => ([sinTurn x0, cosTurn x0], [])
  | 0x0A => let r := clarke x0 x1 x2; ([r.1, r.2], [])
  | 0x0B =>
    let s := sinTurn x2; let k := cosTurn x2
    ([mad 0x0B x1 s (F32.mul x0 k), F32.sub (F32.mul x1 k) (F32.mul x0 s)], [])
  | 0x0C =>
    let s := sinTurn x2; let k := cosTurn x2
    ([F32.sub (F32.mul x0 k) (F32.mul x1 s), mad 0x0C x1 k (F32.mul x0 s)], [])
  | 0x0D => ([blkLut b.arg x0 c], [])
  | 0x0E => ([if F32.ge x0 F32.half then x2 else x1], [])
  | 0x0F =>
    let d := F32.sub x0 x1
    let y := if F32.gt d (c.getD 0 0) then F32.one else if F32.lt d (F32.negate (c.getD 0 0)) then 0 else st.getD 0 0
    ([y], [y])
  | 0x10 => blkModel b.arg x (sts.getD 2 0) c st
  | 0x11 => blkPlaus x0 x1 (sts.getD 0 0) c st
  | 0x18 => blkBal x c st
  | 0x19 => blkDab x c st
  | 0x1A => blkGrid x c st
  | 0x1B => blkCommutate env b.arg x c st
  | 0x1C => blkFly env self x c st
  | 0x1D => blkChopper x c st
  | _ => ([], [])

/-- Nearest integer to 16 P × clamp(x, 0, 1), ties up (R165), the product in binary32 (R152). -/
def scaleDuty (p x : Nat) : Nat := (F32.roundHalfUp (F32.mul (fint (16 * p)) (fclamp x 0 F32.one))).toNat

/-- round(32P × frac(x + half)) mod 32P (R165), sum and product in binary32 (R152). -/
def scalePhase (p x : Nat) (half : Bool) : Nat :=
  let u := if half then F32.add x F32.half else x
  if p = 0 then 0 else (F32.roundHalfUp (F32.mul (fint (32 * p)) (F32.frac u))).toNat % (32 * p)

/-- The leg values of an output block: leg, phase or duty, staged value (R165). -/
def convert (b : LBlock) (x : List Nat) (per : Nat → Nat) : List (Nat × Bool × Nat) :=
  let x0 := x.getD 0 0
  let a := b.arg
  match b.typ with
  | 0x20 => [(a, false, scaleDuty (per a) x0)]
  | 0x21 => [(a, false, scaleDuty (per a) (F32.div (F32.add F32.one x0) f2)),
             (a + 1, false, scaleDuty (per (a + 1)) (F32.div (F32.sub F32.one x0) f2))]
  | 0x22 => [(a, false, scaleDuty (per a) x0), (a + 1, false, scaleDuty (per (a + 1)) (x.getD 1 0)),
             (a + 2, false, scaleDuty (per (a + 2)) (x.getD 2 0))]
  | 0x23 => [(a, true, scalePhase (per a) x0 false), (a + 1, true, scalePhase (per (a + 1)) x0 true)]
  | _ => []

end Sys2Proof.Machine
end

