-- ==== Sys2Proof/Machine/FbOps.lean ====
section
/-! DEFINITION. Position and speed feedback (10): what each sample, level change and write does, and the channels that
loop programs read. -/

namespace Sys2Proof.Machine

/-- Fraction of a rational in [0, 1). -/
def rfrac (r : Rat) : Rat := r - r.floor

def State.fbCtrl (s : State) : Nat := s.rd Od.FB_CTRL
/-- SC_EN, HALL_EN, PLS_EN for source 0, 1, 2, with FEED on. -/
def State.fbOn (s : State) (i : Nat) : Bool := (s.fbCtrl).testBit i && s.domOn domFeed
def State.fbSrc (s : State) (i : Nat) : FbSource := s.fb.src.getD i {}
def State.updFbSrc (s : State) (i : Nat) (f : FbSource → FbSource) : State :=
  { s with fb := { s.fb with src := s.fb.src.modify i f } }

/-- A time at 10 ns resolution (R267). -/
def stamp (t : Nat) : Nat := t / 10000 * 10000

/-! ### Steps, speed, direction (R267, R268) -/

/-- The number of the sample of source i in which a local time falls: 1 µs for sin/cos, 10 ns for the others (R261, R266). -/
def sampleNo (i t : Nat) : Nat := if i = 0 then t / us 1 else t / 10000

/-- The count of source i was written in the present sample: the write decides, and no step counts (R271). -/
def State.fbWritten (s : State) (i : Nat) : Bool := (s.fb.wrote.getD i none).any fun n => n = sampleNo i s.now

/-- A step of source i by d at the present time: a direction change restarts the estimate set, counts, and asks for
the host interrupt where its mask bit is set; while that bit is pending it sets nothing new (R268). -/
def State.fbStep (s : State) (i : Nat) (d : Int) : State :=
  let x := s.fbSrc i
  let dir : Int := if d < 0 then -1 else 1
  let change := x.dir ≠ 0 && dir ≠ x.dir
  let n := x.n + d
  let t := stamp s.now
  let keep := x.steps.filter fun e => s.now ≤ e.2 + us (s.rd Od.FB_SPD_WIN)
  let pend := s.fb.irqPend.testBit i
  let s : State := { s with fb := { s.fb with undo := s.fb.undo.set i (some ⟨sampleNo i s.now, x, s.fb.irqPend⟩) } }
  let s := s.updFbSrc i fun x => { x with
    n := n, dir := dir, last := t
    steps := (n, t) :: (if change then [] else keep)
    dirchg := x.dirchg || (change && !pend)
    changes := if change then (x.changes + 1) % 2 ^ 32 else x.changes }
  if change && (s.rd Od.FB_IRQ_MASK).testBit i then
    { s with fb := { s.fb with irqPend := s.fb.irqPend ||| 2 ^ i, irqAt := s.fb.irqAt.set i (some t) } }
  else s

/-- A write of the count of source i: a step of the same sample that came before it is not counted either (R271). -/
def State.fbWrote (s : State) (i : Nat) : State :=
  let k := sampleNo i s.now
  let s : State := { s with fb := { s.fb with wrote := s.fb.wrote.set i (some k) } }
  match s.fb.undo.getD i none with
  | some u =>
    if u.sample = k then
      { s with fb := { s.fb with
          src := s.fb.src.set i u.src, undo := s.fb.undo.set i none
          irqPend := if u.pend.testBit i then s.fb.irqPend else s.fb.irqPend &&& (255 - 2 ^ i) } }
    else s
  | none => s

/-- Steps per second of source i at the present time (R267); 0 is STILL. -/
def State.fbRate (s : State) (i : Nat) : Rat :=
  let x := s.fbSrc i
  let set := x.steps.filter fun e => s.now ≤ e.2 + us (s.rd Od.FB_SPD_WIN)
  match set.head?, set.getLast? with
  | some a, some b =>
    if set.length < 2 || s.now > a.2 + us (s.rd Od.FB_SPD_TMO) || a.2 ≤ b.2 then 0
    else
      let v : Rat := mkRat ((a.1 - b.1) * 1000000000000) (a.2 - b.2)
      if s.now ≤ a.2 then v
      else
        let lim : Rat := mkRat 1000000000000 (s.now - a.2)
        max (-lim) (min v lim)
  | _, _ => 0

/-- The speeds in their units (R267). -/
def State.scSpeed (s : State) : Rat := s.fbRate 0 / (4 * s.rd Od.FB_SC_LINES)
def State.hallSpeed (s : State) : Rat := s.fbRate 1 / 6
def State.plsRate (s : State) : Rat := s.fbRate 2

/-! ### sin/cos (R261 to R263) -/

/-- Q of a sample, s and c in µV, as an exact number. -/
def scQ (sv cv : Int) : Rat := mkRat (sv * sv + cv * cv) 250000000000

/-- The quadrant floor(4φ), exact by the signs; SC_INV reverses φ. -/
def scQuad (sv cv : Int) (inv : Bool) : Nat :=
  let q : Nat := if cv > 0 && sv ≥ 0 then 0 else if cv ≤ 0 && sv > 0 then 1 else if cv < 0 && sv ≤ 0 then 2 else 3
  if inv then (if sv = 0 || cv = 0 then (4 - q) % 4 else 3 - q) else q

/-- atan(b / a) in 2^-80 rad, for b ≤ a, by Euler's series in b² / (a² + b²), whose terms halve at least. -/
def atanFix (b a : Nat) : Nat :=
  let d := a * a + b * b
  let t0 := 2 ^ 80 * (a * b) / d
  ((List.range 90).foldl (fun (x : Nat × Nat) n =>
    let t := x.2 * (2 * (n + 1)) * (b * b) / ((2 * n + 3) * d)
    (x.1 + t, t)) (t0, t0)).1

/-- 2^-80 rad in 2^-64 turn, rounded: times 2^128 / 2π, over 2^144. -/
def radToTurn (x : Nat) : Nat := (x * 0x28BE60DB9391054A7F09D5F47D4D3770 + 2 ^ 143) / 2 ^ 144

/-- φ = atan2(s, c) / 2π in [0, 1) of a sample, in 2^-64 turn, and 1 − φ where SC_INV is set (R261; DEDUCED, log entry
192). -/
def scPhi (sv cv : Int) (inv : Bool) : Nat :=
  let a := cv.natAbs; let b := sv.natAbs
  let th := if a = 0 && b = 0 then 0
    else if b ≤ a then radToTurn (atanFix b a) else 2 ^ 62 - radToTurn (atanFix a b)
  let p := if cv ≥ 0 then (if sv ≥ 0 then th else 2 ^ 64 - th) else (if sv ≥ 0 then 2 ^ 63 - th else 2 ^ 63 + th)
  (if inv then 2 ^ 64 - p % 2 ^ 64 else p) % 2 ^ 64

/-- The position x in signal periods; where count and φ disagree by a quadrant the count decides (R263). -/
def State.scPos (s : State) : Rat :=
  let n := s.fb.count
  let qc := n % 4
  let phi : Rat := mkRat s.fb.phi (2 ^ 64)
  let q := (4 * phi).floor
  let phi : Rat := if q = qc then phi else if (q - qc) % 4 = 1 then mkRat (qc + 1) 4 else if (qc - q) % 4 = 1 then mkRat qc 4 else phi
  (n / 4 : Int) + phi

def State.thetaM (s : State) : Rat := rfrac (s.scPos / s.rd Od.FB_SC_LINES)
def State.thetaE (s : State) : Rat := rfrac (s.scPos * s.rd Od.FB_POLE_PAIRS / s.rd Od.FB_SC_LINES)

/-- A sample lies in the window of R262. -/
def State.scGood (s : State) (q : Rat) : Bool :=
  decide (q ≥ F32.toRat (s.rd Od.FB_SC_QMIN)) && decide (q ≤ F32.toRat (s.rd Od.FB_SC_QMAX))

/-- The hold time of a sample at local time t: the input converts once every 1 µs (R261). -/
def scHold (t : Nat) : Nat := (t + us 1 - 1) / us 1 * us 1

/-- φ and Q of a sample held at the present time are taken. -/
def State.scTake (s : State) (sv cv : Int) : State :=
  { s with fb := { s.fb with scAt := some s.now, q := F32.ofQ (scQ sv cv), phi := scPhi sv cv ((s.fbCtrl).testBit 7) } }

/-- The count moves by a quadrant, unless it was written in this sample (R263, R271). -/
def State.scStep (s : State) (d : Int) : State :=
  if s.fbWritten 0 then s else { s with fb := { s.fb with count := s.fb.count + d } }.fbStep 0 d

/-- A sample at local time t (R263): a good one in another quadrant steps the count, or loses the position; while SC_AMP_BAD
stands, a jump of 2 is not evaluated (R271). There is one sample for each 1 µs. -/
def State.scSample (s : State) (t : Nat) (sv cv : Int) : State :=
  if !s.fbOn 0 || s.fb.scAt.any (fun x => decide (scHold t ≤ x)) then s
  else
    let s := (s.at_ (scHold t)).scTake sv cv
    if !s.scGood (scQ sv cv) then s
    else
      let q := scQuad sv cv ((s.fbCtrl).testBit 7)
      let old := s.fb.quad
      let s : State := { s with fb := { s.fb with quad := some q } }
      match old with
      | none => s
      | some p =>
        if (q + 4 - p) % 4 = 1 then s.scStep 1
        else if (p + 4 - q) % 4 = 1 then s.scStep (-1)
        else if q ≠ p && !s.fb.ampBad then { s with fb := { s.fb with posLost := true } }.raise Flt.FB_SC_QUAD 0
        else s

/-- Samples in a row, 1 µs apart, the last of them at t; those that have come before are not taken again. -/
def State.scSamples (s : State) (t : Nat) (samples : List (Int × Int)) : State :=
  (s.each samples.zipIdx fun s x => s.scSample (t - us 1 * (samples.length - 1 - x.2)) x.1.1 x.1.2)

/-- The last FB_SC_QN samples of a list, all of one kind (R262). -/
def State.scRun (s : State) (samples : List (Int × Int)) (good : Bool) : Bool :=
  let n := s.rd Od.FB_SC_QN
  decide (samples.length ≥ n) && (samples.drop (samples.length - n)).all fun x => s.scGood (scQ x.1 x.2) = good

/-- Consecutive bad samples, the last at t (R262). -/
def State.scBad (s : State) (t : Nat) (samples : List (Int × Int)) : State :=
  if s.fbOn 0 && !s.fb.ampBad && s.scRun samples false then
    let s := s.scSamples t samples
    { s with fb := { s.fb with ampBad := true, posLost := true, ampCount := (s.fb.ampCount + 1) % 2 ^ 32 } }.raise
      Flt.FB_SC_AMP 0
  else s

/-- Consecutive good samples, the last at t (R262): SC_AMP_BAD clears, POS_LOST stays. -/
def State.scGoodAgain (s : State) (t : Nat) (samples : List (Int × Int)) : State :=
  if s.fbOn 0 && s.fb.ampBad && s.scRun samples true then
    let s := s.scSamples t samples
    { s with fb := { s.fb with ampBad := false } }
  else s

/-! ### Hall (R264, R265) -/

/-- Sector of a code. -/
def hallSector (code : Nat) : Option Nat :=
  match code with
  | 1 => some 0 | 3 => some 1 | 2 => some 2 | 6 => some 3 | 4 => some 4 | 5 => some 5
  | _ => none

/-- The first local time up to t at which the level of a pin that differs from the accepted code has held for `filt`. -/
def pinsDue (pins : List Pin) (code filt t : Nat) : Option Nat :=
  pins.zipIdx.foldl (fun a p =>
    if p.1.level ≠ code.testBit p.2 && decide (p.1.since + filt ≤ t) then
      some (match a with
        | some x => min x (p.1.since + filt)
        | none => p.1.since + filt)
    else a) none

/-- The accepted code once every level that has held for `filt` at t is accepted. -/
def pinsCode (pins : List Pin) (code filt t : Nat) : Nat :=
  packBits (pins.zipIdx.map fun p => if p.1.since + filt ≤ t then p.1.level else code.testBit p.2)

/-- The pins stand at the levels of a code from t on. -/
def pinsSet (pins : List Pin) (code t : Nat) : List Pin :=
  pins.zipIdx.map fun p => if p.1.level = code.testBit p.2 then p.1 else ⟨code.testBit p.2, t⟩

/-- A Hall code is accepted now (R264, R271). -/
def State.hallTake (s : State) (code : Nat) : State :=
  let old := s.fb.sector
  let bad := s.fb.hallBad
  let s : State := { s with fb := { s.fb with hallCode := code % 8 } }
  match hallSector (code % 8) with
  | none =>
    { s with fb := { s.fb with sector := 0xFF, hallBad := true, hallBadCount := (s.fb.hallBadCount + 1) % 2 ^ 32 } }.raise
      Flt.FB_HALL_CODE 1
  | some sec =>
    let sec := if (s.fbCtrl).testBit 5 then 5 - sec else sec
    let s : State := { s with fb := { s.fb with sector := sec, hallBad := false } }
    if bad || old = 0xFF || sec = old then s
    else if (sec + 6 - old) % 6 = 1 then s.fbStep 1 1
    else if (old + 6 - sec) % 6 = 1 then s.fbStep 1 (-1)
    else { s with fb := { s.fb with hallBadCount := (s.fb.hallBadCount + 1) % 2 ^ 32 } }.raise Flt.FB_HALL_SKIP 1

/-- The next change of Hall levels that has held for FB_HALL_FILT by local time t is accepted, in its own moment. -/
def State.hallAccept (s : State) (t : Nat) : State :=
  let filt := ns (s.rd Od.FB_HALL_FILT)
  if s.fbOn 1 then
    match pinsDue s.fb.hallPins s.fb.hallCode filt t with
    | some T => (s.at_ T).hallTake (pinsCode s.fb.hallPins s.fb.hallCode filt T)
    | none => s
  else s

/-- HALL_CHANGE: the Hall pins stand at `code` at local time t. What has held for FB_HALL_FILT by then is accepted, pin by pin
(R264). -/
def State.hallChange (s : State) (t code : Nat) : State :=
  let s := (((s.hallAccept t).hallAccept t).hallAccept t).at_ t
  let s : State := { s with fb := { s.fb with hallPins := pinsSet s.fb.hallPins code t } }
  s.hallAccept t

/-- θ_h (R265). -/
def State.thetaH (s : State) : Rat :=
  let ofs := F32.toRat (s.rd Od.FB_HALL_OFS)
  let sec : Rat := s.fb.sector
  let v := s.hallSpeed
  let x := s.fbSrc 1
  if (s.fbCtrl).testBit 6 && v ≠ 0 then
    let run := min (mkRat (s.now - x.last) 1000000000000 * (if v < 0 then -v else v)) (1 / 6)
    rfrac (if v > 0 then ofs + sec / 6 + run else ofs + (sec + 1) / 6 - run)
  else rfrac (ofs + (sec + 1 / 2) / 6)

/-! ### Pulses (R266) -/

/-- The levels of PLS_A and PLS_B are accepted in the 10 ns sample of the present time: A in bit 0, B in bit 1. In
step/direction mode the level of B is the one accepted with the edge. -/
def State.plsTake (s : State) (code : Nat) : State :=
  let c := s.fbCtrl
  let up (j : Nat) : Bool := code.testBit j && !s.fb.plsCode.testBit j
  let d : Int :=
    if c.testBit 3 then (if up 0 && !up 1 then 1 else if up 1 && !up 0 then -1 else 0)
    else if up 0 then (if code.testBit 1 = c.testBit 4 then -1 else 1) else 0
  let s : State := { s with fb := { s.fb with plsCode := code } }
  if d = 0 || s.fbWritten 2 then s else { s with fb := { s.fb with pulses := s.fb.pulses + d } }.fbStep 2 d

/-- The next change of pulse levels that has held for FB_PLS_FILT by local time t is accepted. -/
def State.plsAccept (s : State) (t : Nat) : State :=
  let filt := ns (s.rd Od.FB_PLS_FILT)
  if s.fbOn 2 then
    match pinsDue s.fb.plsPins s.fb.plsCode filt t with
    | some T => (s.at_ T).plsTake (pinsCode s.fb.plsPins s.fb.plsCode filt T)
    | none => s
  else s

/-- PLS_STEP: PLS_A and PLS_B stand at the levels given from local time t to t + hold at least, and are sampled every 10 ns.
What has held for FB_PLS_FILT by then is accepted, each in its own sample (R266). -/
def State.plsStep (s : State) (t : Nat) (a b : Bool) (hold : Nat) : State :=
  let t := (t + 9999) / 10000 * 10000
  let s := ((s.plsAccept t).plsAccept t).at_ t
  let s : State := { s with fb := { s.fb with plsPins := pinsSet s.fb.plsPins (packBits [a, b]) t } }
  (s.plsAccept (t + hold)).plsAccept (t + hold)

/-- No step of source i for FB_SPD_TMO: its speed is 0 and STILL reads set (R267), both of which follow from the time. -/
def State.fbTimeout (s : State) (i : Nat) : State :=
  if (s.fbSrc i).steps = [] then s else s.at_ ((s.fbSrc i).last + us (s.rd Od.FB_SPD_TMO) + 1)

/-! ### Channels (R269) -/

/-- The channel codes of R269. -/
def fbChannels : List Nat := [0x00, 0x01, 0x02, 0x03, 0x10, 0x11, 0x12, 0x20, 0x21, 0x22]

/-- The source of a channel. -/
def fbSourceOf (ch : Nat) : Nat := ch / 16

/-- The value of a channel as a binary32 code; none while ABSENT. -/
def State.fbChannel (s : State) (ch : Nat) : Option Nat :=
  let sc := s.fbOn 0
  let pos := sc && !s.fb.ampBad && !s.fb.posLost
  let hall := s.fbOn 1 && !s.fb.hallBad
  match ch with
  | 0x00 => if pos then some (F32.ofQ s.thetaE) else none
  | 0x01 => if pos then some (F32.ofQ s.thetaM) else none
  | 0x02 => if sc && !s.fb.ampBad then some (F32.ofQ s.scSpeed) else none
  | 0x03 => if sc then some s.fb.q else none
  | 0x10 => if hall then some (F32.ofQ s.thetaH) else none
  | 0x11 => if hall then some (F32.ofInt s.fb.sector) else none
  | 0x12 => if s.fbOn 1 then some (F32.ofQ s.hallSpeed) else none
  | 0x20 => if s.fbOn 2 then some (F32.ofInt (s.fb.pulses % 2 ^ 24)) else none
  | 0x21 => if s.fbOn 2 then some (F32.ofQ s.plsRate) else none
  | 0x22 => if s.fbOn 2 then some (F32.ofInt (s.fbSrc 2).dir) else none
  | _ => none

/-- A RUNNING or HOLDING loop slot has an input on a channel of the source (R270). -/
def State.fbInUse (s : State) (i : Nat) : Bool :=
  (List.range 128).any fun n => ((s.ls n).st = .running || (s.ls n).st = .holding) &&
    (List.range 16).any fun j => s.inKind n j = 6 && fbSourceOf (s.inSel n j) = i

/-! ### Written entries -/

/-- FB_CTRL (R270): SC_EN and SC_INV for source 0, HALL_EN and HALL_INV for 1, PLS_EN and PLS_MODE for 2. -/
def State.ownFbCtrl (s : State) (v : Nat) : Own :=
  let d := (s.fbCtrl) ^^^ v
  let touches (i : Nat) : Bool := match i with
    | 0 => d.testBit 0 || d.testBit 7
    | 1 => d.testBit 1 || d.testBit 5
    | _ => d.testBit 2 || d.testBit 3
  if [0, 1, 2].any fun i => touches i && s.fbInUse i then .error abState
  else
    -- the first levels sampled are no edges
    let s : State := if !(s.fbCtrl).testBit 2 && v.testBit 2 then
        { s with fb := { s.fb with plsCode := packBits (s.fb.plsPins.map (·.level)) } } else s
    .ok (s.wr Od.FB_CTRL v)

/-- FB_SC_COUNT: re-references the position, counts no step (R263, R271). -/
def State.ownScCount (s : State) (v : Nat) : Own :=
  let s := s.fbWrote 0
  .ok { s with fb := { s.fb with count := toSigned 64 v, posLost := false } }

/-- FB_PLS_COUNT (R266, R271). -/
def State.ownPlsCount (s : State) (v : Nat) : Own :=
  let s := s.fbWrote 2
  .ok { s with fb := { s.fb with pulses := toSigned 64 v } }

/-- FB_IRQ_CLR (R268): a direction change in the clock of the clear comes after it, and its bit stays pending (R271). -/
def State.ownIrqClr (s : State) (v : Nat) : Own :=
  let fresh (i : Nat) : Bool := v.testBit i && (s.fb.irqAt.getD i none).any fun t => t = stamp s.now
  let kept := packBits ((List.range 3).map fresh)
  .ok { s with fb := { s.fb with
      irqPend := s.fb.irqPend - (s.fb.irqPend &&& v &&& (255 - kept))
      src := s.fb.src.mapIdx fun i x => { x with dirchg := x.dirchg || (s.fb.irqPend.testBit i && fresh i) } } }

/-- FB_STATUS_CLR (R273). -/
def State.ownFbStatusClr (s : State) (v : Nat) : Own :=
  .ok { s with fb := { s.fb with src := s.fb.src.mapIdx fun i x => { x with dirchg := x.dirchg && !v.testBit (6 + i) } } }

/-- FEED wakes: counts, speeds and status at 0, POS_LOST set (R263, R273, R499); the pins stand as they do, and the pulse
levels found are no edges. -/
def State.feedWake (s : State) : State :=
  { s with fb := { posLost := true, hallPins := s.fb.hallPins, plsPins := s.fb.plsPins
                   plsCode := packBits (s.fb.plsPins.map (·.level)) } }

/-- FB_STATUS (R273). -/
def State.fbStatus (s : State) : Nat :=
  packBits [s.fb.ampBad, s.fb.posLost, s.fb.hallBad, s.fbRate 0 = 0, s.fbRate 1 = 0, s.fbRate 2 = 0, (s.fbSrc 0).dirchg,
    (s.fbSrc 1).dirchg, (s.fbSrc 2).dirchg]

end Sys2Proof.Machine
end

