-- ==== Sys2Proof/Machine/SigOps.lean ====
section
/-! DEFINITION. Signed images (21): the trailer and the conditions of R522. Whether a signature verifies is
Config.ed448. -/

namespace Sys2Proof.Machine

/-- Length of a trailer (R521). -/
def trailerLen : Nat := 132

/-- Bytes [o, o + n) of a list. -/
def seg (l : List Byte) (o n : Nat) : List Byte := (l.drop o).take n
/-- The little-endian number in bytes [o, o + n). -/
def leAt (l : List Byte) (o n : Nat) : Nat := leNat (seg l o n)

/-- The bytes of an image before its trailer, and the trailer. -/
def imgBody (img : List Byte) : List Byte := img.take (img.length - trailerLen)
def imgTrailer (img : List Byte) : List Byte := img.drop (img.length - trailerLen)

/-- The trailer kinds of R521. -/
def kindFw : Nat := 1
def kindLoop : Nat := 2
def kindCfg : Nat := 3
def kindSafe : Nat := 4
def kindFuse : Nat := 5
def kindDbg : Nat := 6

/-- Owner key k is programmed and not revoked (R526). -/
def Fuses.keyLive (f : Fuses) (k : Nat) : Bool := f.ownerCtrl.testBit (2 * k) && !f.ownerCtrl.testBit (2 * k + 1)
/-- Owner key k. -/
def Fuses.ownerKey (f : Fuses) (k : Nat) : List Byte := if k = 0 then f.ownerKey0 else f.ownerKey1

/-- The conditions of R522 on an image of a kind: TMAGIC, KIND, BIND, KEY, ROLLBACK and the signature; `vendor` is the
vendor key of a FW image. -/
def State.sigOk (s : State) (img : List Byte) (kind : Nat) (vendor : List Byte) : Bool :=
  let t := imgTrailer img
  let key := leAt t 3 1
  let f := s.nor.fuses
  let keyOk := if kind = kindFw then key = 0 else (key = 1 && f.keyLive 0) || (key = 2 && f.keyLive 1)
  let pub := if kind = kindFw then vendor else f.ownerKey (key - 1)
  let bind := leAt t 8 8
  decide (img.length ≥ trailerLen) && leAt t 0 2 = 0x5347 && leAt t 2 1 = kind && (bind = 0 || bind = Config.serial.toNat) &&
    keyOk && decide (leAt t 4 4 ≥ if kind = kindFw then f.fwRb else f.ownRb) &&
    Config.ed448 kind pub (imgBody img ++ t.take 16) (seg t 16 114)

/-- A refused signature is counted (R522). -/
def State.sigFail (s : State) : State := { s with nor := { s.nor with sigFails := (s.nor.sigFails + 1) % 2 ^ 32 } }

end Sys2Proof.Machine
end

