-- ==== Sys2Proof/Machine/ThOps.lean ====
section
/-! DEFINITION. The thermal unit (11): losses, network, sensor judgement, throttle, die sensors, shutdown and its
records. Temperatures, losses and factors are binary32 codes; the manual gives their formulas and no order of
operations, so every formula is computed with one rounding per operation as it is written (log entry 70). -/

namespace Sys2Proof.Machine

/-- Slot c of the thermal unit. -/
def State.tslot (s : State) (c : Nat) : ThSlot := s.th.slots.getD c {}
/-- Slot c of the thermal unit changed. -/
def State.updTh (s : State) (c : Nat) (f : ThSlot → ThSlot) : State :=
  { s with th := { s.th with slots := s.th.slots.modify c f } }

/-- ENABLE of TH_CTRL. -/
def State.thOn (s : State) (c : Nat) : Bool := (s.rd (Od.TH_CTRL c)).testBit 0

/-- Word i and byte i of an OCTETS value. -/
def octW (v i : Nat) : Nat := v / 2 ^ (32 * i) % 2 ^ 32
def octB (v i : Nat) : Nat := v / 2 ^ (8 * i) % 256

/-- Δ in ps, and in ms as a binary32 code. -/
def State.thDelta (s : State) : Nat := us (s.rd Od.TH_INTERVAL)
def State.thMs (s : State) : Nat := F32.ofRat (s.rd Od.TH_INTERVAL) 1000

/-- What a source gives: named, and its value where one came in the last 10 intervals (R275). -/
def State.thVal (s : State) (te : Nat) : Option Nat :=
  match s.th.latest.getD te none with
  | some (v, t) => if s.now ≤ t + 10 * s.thDelta then some v else none
  | none => none

/-- A source is absent: it names 0xFF, or it has been silent for 10 intervals (R275). -/
def State.thAbsent (s : State) (c te : Nat) : Bool :=
  te ≥ 128 || ((s.thVal te).isNone && decide (s.now > (s.tslot c).since + 10 * s.thDelta))

/-! ### Losses (R276) -/

/-- A point list interpolated linearly at |i|, held beyond the last point. -/
def thInterp (tab base step i : Nat) : Nat :=
  let x := F32.div i step
  if F32.isNaN x then F32.nan
  else if F32.ge x f7 then octW tab (base + 7)
  else
    let k := (F32.floor x).toNat
    let a := octW tab (base + k)
    F32.add a (F32.mul (F32.sub x (fint k)) (F32.sub (octW tab (base + k + 1)) a))

/-- Edges of the guard of leg Ll so far: off upper, off lower, hard on upper, hard on lower. -/
def State.thEdges (s : State) (l : Nat) : List Nat :=
  let g := s.gg l
  [g.offH, g.offL, g.onH, g.onL]

/-- Conduction share of the upper or lower element of Ll for a current i (R276). -/
def State.thShare (s : State) (l : Nat) (upper : Bool) (i : Nat) : Nat :=
  let g := s.leg l
  if g.enabled then
    let d := F32.ofRat g.dutyAct (16 * (s.car (s.carOf l)).p)
    if upper then d else F32.sub F32.one d
  else if upper then (if F32.lt i 0 then F32.one else 0) else (if F32.gt i 0 then F32.one else 0)

/-- P_s of switch sw of slot Cc for the interval that ends; none where a source is absent and the last loss stays. -/
def State.thLoss (s : State) (c sw : Nat) : Option Nat :=
  let j := sw / 2
  let upper := sw % 2 = 0
  let l := 6 * c + j
  let vsrc := octB (s.rd (Od.TH_VSRC c)) j
  match s.thVal (octB (s.rd (Od.TH_ISRC c)) j) with
  | none => none
  | some iv =>
    let cur := F32.mul (octW (s.rd (Od.TH_ISCALE c)) j) iv
    let ia := F32.abs cur
    let r := F32.mul (s.rd (Od.TH_R0 c))
      (F32.add F32.one (F32.mul (s.rd (Od.TH_R_TC c)) (F32.sub ((s.tslot c).tj.getD sw 0) 0x41C80000)))
    let cond := F32.mul (F32.mul ia (F32.add (s.rd (Od.TH_V0 c)) (F32.mul r ia))) (s.thShare l upper cur)
    if vsrc = 0xFF || !(s.leg l).enabled then some cond
    else
      match s.thVal vsrc with
      | none => none
      | some v =>
        let tab := s.rd (Od.TH_ESW c)
        let step := s.rd (Od.TH_I_STEP c)
        let old := (s.tslot c).seen.getD j [0, 0, 0, 0]
        let now := s.thEdges l
        let n (k : Nat) : Nat := now.getD k 0 - old.getD k 0
        let off := n (if upper then 0 else 1)
        let on := n (if upper then 2 else 3)
        let e := F32.add (F32.mul (fint off) (thInterp tab 8 step ia)) (F32.mul (fint on) (thInterp tab 0 step ia))
        some (F32.add cond (F32.div (F32.mul (F32.div v (s.rd (Od.TH_V_REF c))) e) s.thMs))

/-- The switches of Cc that a unit drives. -/
def State.thSwitches (s : State) (c : Nat) : List Nat :=
  (List.range 12).filter fun w => (unitOf (s.tmpl c) (w / 2)).isSome

/-- A source of a driven leg of Cc is absent. -/
def State.thNoInput (s : State) (c : Nat) : Bool :=
  (s.thSwitches c).any fun w =>
    s.thAbsent c (octB (s.rd (Od.TH_ISRC c)) (w / 2)) || s.thAbsent c (octB (s.rd (Od.TH_VSRC c)) (w / 2))

/-! ### The network (R277) -/

/-- a × T + (1 − a) × R × P. -/
def thNode (a t r p : Nat) : Nat := F32.add (F32.mul a t) (F32.mul (F32.mul (F32.sub F32.one a) r) p)

/-- exp(−x) in 2^-192 for 0 ≤ x < 90: the series at x / 256, squared eight times (DEDUCED, log entry 70). -/
def expFix (x : Rat) : Nat :=
  let y : Int := (x * 2 ^ 184).floor
  let s := (List.range 36).foldl (fun (a : Int × Int) (n : Nat) =>
    let t := -(a.2 * y / (2 ^ 192 * ((n : Int) + 1)))
    (a.1 + t, t)) ((2 ^ 192, 2 ^ 192) : Int × Int)
  (List.range 8).foldl (fun (e : Nat) (_ : Nat) => e * e / 2 ^ 192) s.1.toNat

/-- exp(−Δ / τ) of R277, rounded to binary32; τ in ms. -/
def State.thDecay (s : State) (tau : Nat) : Nat :=
  if F32.isZero tau then 0
  else if !F32.finite tau then F32.one
  else
    let x : Rat := mkRat (s.rd Od.TH_INTERVAL) 1000 / F32.toRat tau
    if x ≥ 90 then 0 else F32.ofQ (mkRat (expFix x) (2 ^ 192))

/-- R1, R2, R3, τ1, τ2, τ3, R4, τ4 of Cc by number. -/
def State.foster (s : State) (c i : Nat) : Nat := octW (s.rd (Od.TH_FOSTER c)) i

/-- The reading of the NTC of Cc: the latest value and when it came. -/
def State.thNtc (s : State) (c : Nat) : Option (Nat × Nat) :=
  let te := s.rd (Od.TH_NTC_SRC c)
  if te < 128 then s.th.latest.getD te none else none

/-- Losses, nodes and T_hs,model of Cc for this interval; at the first one they are the start values (R277). -/
def State.thNetwork (s : State) (c : Nat) : State :=
  let x := s.tslot c
  let amb := s.rd (Od.TH_T_AMB c)
  let no := s.thNoInput c
  let raise := no && !x.noInput
  let loss := (List.range 12).map fun w =>
    if (s.thSwitches c).contains w then (s.thLoss c w).getD (x.loss.getD w 0) else 0
  let seen := (List.range 6).map fun j => s.thEdges (6 * c + j)
  let s := s.updTh c fun x =>
    if x.fresh then { x with noInput := no, seen := seen, hsModel := amb, nodes := List.replicate 12 (0, 0, 0), t4 := 0 }
    else
      let sum := loss.foldl F32.add 0
      let t4 := thNode (s.thDecay (s.foster c 7)) x.t4 (s.foster c 6) sum
      { x with
        noInput := no, seen := seen, loss := loss, t4 := t4, hsModel := F32.add amb t4
        nodes := x.nodes.mapIdx fun w n =>
          let p := loss.getD w 0
          (thNode (s.thDecay (s.foster c 3)) n.1 (s.foster c 0) p,
           thNode (s.thDecay (s.foster c 4)) n.2.1 (s.foster c 1) p,
           thNode (s.thDecay (s.foster c 5)) n.2.2 (s.foster c 2) p) }
  let res := (s.thNtc c).map fun r => F32.abs (F32.sub r.1 (s.tslot c).hsModel)
  let s := s.updTh c fun x => { x with
    res := res.getD 0
    devSince := if res.any fun r => F32.gt r (s.rd (Od.TH_XDEV c)) then x.devSince.orElse fun _ => some s.now else none }
  if raise then s.raise Flt.TH_INPUT c else s

/-! ### The sensor (R278) -/

/-- Insertion into a list of codes in rising order. -/
def fInsert (x : Nat) : List Nat → List Nat
  | [] => [x]
  | y :: ys => if F32.lt x y then x :: y :: ys else y :: fInsert x ys

/-- The median of a list of codes: the middle one, or the mean of the two middle ones. -/
def fMedian (l : List Nat) : Nat :=
  let l := l.foldr fInsert []
  let n := l.length
  if n % 2 = 1 then l.getD (n / 2) 0 else F32.div (F32.add (l.getD (n / 2 - 1) 0) (l.getD (n / 2) 0)) f2

/-- |r| of the neighbours of Cc. -/
def State.thNeighbours (s : State) (c : Nat) : List Nat :=
  let g := s.rd (Od.TH_GROUP c)
  if g = 0xFF then []
  else ((List.range 32).filter fun d => d ≠ c && s.thOn d && s.rd (Od.TH_GROUP d) = g && (s.tslot d).sensor = 0 &&
    (s.thNtc d).isSome).map fun d => (s.tslot d).res

/-- TH_XTIME of Cc in ps. -/
def State.thXtime (s : State) (c : Nat) : Nat := ms (s.rd (Od.TH_XTIME c))

/-- Local time from which the NTC reading of Cc is absent: TH_NTC_SRC names no entry, or the entry has given no usable value
for 10 intervals (R275). -/
def State.ntcGone (s : State) (c : Nat) : Nat :=
  let x := s.tslot c
  let from_ := max x.since x.ntcAt
  if s.rd (Od.TH_NTC_SRC c) ≥ 128 then from_
  else match s.thNtc c with
    | none => from_ + 10 * s.thDelta
    | some (_, t) => max from_ t + 10 * s.thDelta

/-- The second row of R278: the reading has been absent for TH_XTIME, or lies outside its window. -/
def State.ntcOff (s : State) (c : Nat) : Bool :=
  decide (s.now ≥ s.ntcGone c + s.thXtime c) || match s.thNtc c with
    | none => false
    | some (v, _) => F32.lt v (s.rd (Od.TH_NTC_MIN c)) || F32.gt v (s.rd (Od.TH_NTC_MAX c))

/-- |r| has exceeded TH_XDEV for TH_XTIME. -/
def State.ntcDeviates (s : State) (c : Nat) : Bool :=
  match (s.tslot c).devSince with
  | none => false
  | some t => decide (s.now ≥ t + s.thXtime c)

/-- The third row of R278. -/
def State.ntcAlone (s : State) (c : Nat) : Bool :=
  let ns := s.thNeighbours c
  s.ntcDeviates c && decide (ns.length ≥ 2) && F32.le (fMedian ns) (F32.div (s.rd (Od.TH_XDEV c)) f2)

/-- The judgement of R278, first row first. -/
def State.thJudge (s : State) (c : Nat) : Nat :=
  if (s.tslot c).sensor = 2 then 2
  else if s.ntcOff c then 2
  else if s.ntcAlone c then 2
  else if s.ntcDeviates c then 1
  else 0

/-- T_ref of a judgement; before the first reading it is T_hs,model (log entry 71). -/
def State.thRef (s : State) (c judged : Nat) : Nat :=
  let m := (s.tslot c).hsModel
  match s.thNtc c with
  | none => m
  | some (v, _) => if judged = 2 then m else if judged = 1 then F32.max v m else v

/-! ### Shutdown (R281, R282) -/

/-- A record is written to an event page of the NOR store, or waits for a retry (R282). -/
def State.thWrite (s : State) (r : ShutRec) (ok : Bool) : State :=
  if ok then { s with nor := { s.nor with events := s.nor.events ++ [(false, r)] } }
  else
    let s : State := { s with th := { s.th with unwritten := s.th.unwritten ++ [r], failAt := s.now, recFail := true } }
    s.raise Flt.TH_REC_FAIL r.slot

/-- Slot Cc is recorded as shut down: mask, retention, record. -/
def State.thRecord (s : State) (c sw : Nat) (die ok : Bool) : State :=
  let x := s.tslot c
  let th := s.th
  let s : State := { s with
    th := { th with shut := th.shut ||| 2 ^ c, shutDie := if die then th.shutDie ||| 2 ^ c else th.shutDie
                    shuts := (th.shuts + 1) % 2 ^ 32 }
    ret := { s.ret with shut := s.ret.shut ||| 2 ^ c, shutDie := if die then s.ret.shutDie ||| 2 ^ c else s.ret.shutDie } }
  s.thWrite ⟨c, sw, x.tmax, x.tref, x.sensor, die, s.sysNow⟩ ok

/-- The hottest switch of Cc. -/
def ThSlot.hottest (x : ThSlot) (ws : List Nat) : Nat :=
  ws.foldl (fun a w => if F32.gt (x.tj.getD w 0) (x.tj.getD a 0) then w else a) (ws.headD 0)

/-- The junction shutdown of Cc (R281). -/
def State.thShut (s : State) (c : Nat) (ok : Bool) : State :=
  let s := s.thRecord c ((s.tslot c).hottest (s.thSwitches c)) false ok
  let s := s.updSlot c fun t => { t with reason := Flt.TH_SHUT }
  let s := s.each (s.units c) fun s u => s.safeOffUnit c u Flt.TH_SHUT false
  s.raise Flt.TH_SHUT c

/-! ### One interval (R275 to R281) -/

/-- T_j of every switch, T_max, k and what they set off, for one slot. -/
def State.thSlotTick (s : State) (c : Nat) (ok : Bool) : State :=
  let judged := s.thJudge c
  let tref := s.thRef c judged
  let x := s.tslot c
  let shutT := s.rd (Od.TH_TJ_SHUT c)
  let rise := F32.max 0 (F32.sub shutT tref)
  let rsum := F32.add (F32.add (s.foster c 0) (s.foster c 1)) (s.foster c 2)
  let start (k : Nat) : Nat := if F32.isZero rsum then 0 else F32.div (F32.mul rise (s.foster c k)) rsum
  let nodes := if x.fresh && x.fromShut then List.replicate 12 (start 0, start 1, start 2) else x.nodes
  let tj := nodes.map fun n => F32.add (F32.add (F32.add tref n.1) n.2.1) n.2.2
  let y := { x with nodes := nodes, tj := tj }
  let tmax := y.tj.getD (y.hottest (s.thSwitches c)) 0
  let thr := s.rd (Od.TH_TJ_THR c)
  let ks := F32.min F32.one (F32.sub F32.one (F32.div (F32.sub tmax thr) (F32.sub shutT thr)))
  let k := F32.max (s.rd (Od.TH_K_MIN c)) (F32.min ks s.th.kDie)
  let thro := F32.lt k F32.one
  -- a model that starts at TH_TJ_SHUT after a reset shows the shutdown that stands, and no new one (R277)
  let hit := F32.ge tmax shutT && !(x.fresh && x.fromShut) && (!s.th.shut.testBit c || F32.lt x.tmax shutT)
  let s := s.updTh c fun _ => { y with
    sensor := judged, tref := tref, tmax := tmax, k := k, throttling := thro, fresh := false, fromShut := false
    modelDev := judged = 1, ntcBroken := x.ntcBroken || judged = 2 }
  let s := if judged = 2 && x.sensor ≠ 2 then s.raise Flt.TH_NTC_BROKEN c else s
  let s := if judged = 1 && x.sensor ≠ 1 then s.raise Flt.TH_MODEL_DEV c else s
  let s := if thro && !x.throttling then s.raise Flt.TH_THROTTLE c else s
  let s := s.each ((s.units c).map fun u => s.rd (Od.UNIT_LOOP c u)).eraseDups fun s n =>
    if n < 128 then s.each ((List.range 16).filter fun i => s.inKind n i = 5) fun s i => s.arrive n i k 0 else s
  if hit then s.thShut c ok else s

/-- One thermal interval at its time on the grid of system time; ok: a shutdown record can be written. -/
def State.thInterval (s : State) (ok : Bool) : State :=
  if !s.domOn domLoop || !s.tb.running then s
  else
    let s := s.at_ (s.localOf (s.gridNext s.th.cell (sysUs (s.rd Od.TH_INTERVAL))))
    let s : State := { s with th := { s.th with cell := s.now } }
    let on := (List.range 32).filter fun c => s.thOn c
    let s := s.each on fun s c => s.thNetwork c
    s.each on fun s c => s.thSlotTick c ok

/-! ### Die sensors (R280, R281) -/

/-- The die shutdown: string members run their sequences, every other unit stops (R281). -/
def State.dieShut (s : State) (ok : Bool) : State :=
  let slots := (List.range 32).filter fun c => !s.slotStopped c
  let s := s.each slots fun s c => s.thRecord c ((s.tslot c).hottest (s.thSwitches c)) true ok
  let s := s.each s.allUnits fun s cu =>
    if (s.strOf cu.1).isSome && (s.ust cu.1 cu.2).live then s.safeOffUnit cu.1 cu.2 Flt.TH_DIE_SHUT true
    else s.stopUnit cu.1 cu.2
  s.raise Flt.TH_DIE_SHUT 0

/-- The slice that converts the die sensors now: none is free while MEAS is off or on its fallback clock (R142, R280). -/
def State.dieSlice (s : State) : Option Nat :=
  if s.domOn domMeas && !s.measFallback then
    (List.range 8).find? fun i => !s.streaming i && decide ((s.slice i).busyUntil ≤ s.now)
  else none

/-- The die sensors are to be converted, once per millisecond, with the temperatures given (R280): four conversions of 100 ns
on one slice (R124). T_die shuts down when it is found at or above TH_DIE_SHUT and was not before (R281). -/
def State.dieConvert (s : State) (temps : List Nat) (ok : Bool) : State :=
  if !s.domOn domLoop then s
  else
    let s := s.at_ (s.th.dieTry + ms 1)
    let s : State := { s with th := { s.th with dieTry := s.now } }
    match s.dieSlice with
    | none => if s.now ≥ s.th.dieAt + ms 10 then { s with th := { s.th with noConv := true } } else s
    | some i =>
      let s := s.updSlice i fun x => { x with busyUntil := s.now + ns 400, convs := (x.convs + 4) % 2 ^ 64 }
      let ts := (List.range 4).map fun i => temps.getD i 0 % 2 ^ 32
      let med := fMedian ts
      let off := ts.map fun t => F32.gt (F32.abs (F32.sub t med)) 0x41200000
      let used := (ts.zip off).filter fun p => !p.2
      let die := (used.map (·.1)).foldl F32.max 0xFF800000
      let die := if used = [] then s.th.dieTemp else die
      let thr := s.rd Od.TH_DIE_THR
      let lim := s.rd Od.TH_DIE_SHUT
      let was := s.th
      let s : State := { s with th := { s.th with
        die := ts, ignored := off, dieTemp := die, dieAt := s.now, noConv := false, dieHot := F32.ge die lim
        dieSensor := s.th.dieSensor || off.any id
        kDie := F32.min F32.one (F32.sub F32.one (F32.div (F32.sub die thr) (F32.sub lim thr))) } }
      let s := s.each (List.range 4) fun s i =>
        if off.getD i false && !was.ignored.getD i false then s.raise Flt.TH_DIE_SENSOR (0x70 + i) else s
      if F32.ge die lim && !was.dieHot then s.dieShut ok else s

/-- The shutdowns that stand in the NOR store: those that no clearance record of their slot follows; `die`: of the die cause. -/
def shutsIn (events : List (Bool × ShutRec)) (die : Bool) : Nat :=
  events.foldl (fun m e =>
    if e.1 then (if m.testBit e.2.slot then m - 2 ^ e.2.slot else m)
    else if e.2.die || !die then m ||| 2 ^ e.2.slot else m) 0

/-- TH_SHUT_SLOTS at boot, from the retention mask and the NOR store; the models of these slots start from TH_TJ_SHUT (R277,
R282). -/
def State.rebuildShut (s : State) : State :=
  let shut := s.ret.shut ||| shutsIn s.nor.events false
  { s with th := { s.th with
    shut := shut, shutDie := s.ret.shutDie ||| shutsIn s.nor.events true
    slots := s.th.slots.mapIdx fun c x => { x with fromShut := x.fromShut || shut.testBit c } } }

/-- Unwritten records are tried again, one second after the last failure (R282). -/
def State.thRetry (s : State) (ok : Bool) : State :=
  match s.th.unwritten with
  | [] => s
  | r :: rs =>
    let s := s.at_ (s.th.failAt + secs 1)
    if ok then
      { s with th := { s.th with unwritten := [] }, nor := { s.nor with events := s.nor.events ++ (r :: rs).map fun r => (false, r) } }
    else
      let s : State := { s with th := { s.th with failAt := s.now, recFail := true } }
      s.each (r :: rs) fun s r => s.raise Flt.TH_REC_FAIL r.slot

/-! ### Written entries -/

/-- A standing shutdown of Cc may be cleared (R283). -/
def State.thCool (s : State) (c : Nat) : Bool :=
  let x := s.tslot c
  let lim := s.rd (Od.TH_TJ_RESUME c)
  ((s.thSwitches c).all fun w => F32.lt (x.tj.getD w 0) lim) && F32.lt x.tref lim &&
    (!s.th.shutDie.testBit c || F32.lt s.th.dieTemp (s.rd Od.TH_DIE_THR))

/-- TH_SHUT_CLR (R283): refused where a bit it names cannot be cleared. -/
def State.ownShutClr (s : State) (v : Nat) : Own :=
  let cs := (List.range 32).filter fun c => v.testBit c && s.th.shut.testBit c
  if cs.any fun c => !s.thCool c then .error abState
  else .ok (s.each cs fun s c =>
    let x := s.tslot c
    let die := s.th.shutDie.testBit c
    { s with
      th := { s.th with shut := s.th.shut - 2 ^ c, shutDie := if die then s.th.shutDie - 2 ^ c else s.th.shutDie }
      ret := { s.ret with shut := if s.ret.shut.testBit c then s.ret.shut - 2 ^ c else s.ret.shut
                          shutDie := if s.ret.shutDie.testBit c then s.ret.shutDie - 2 ^ c else s.ret.shutDie }
      nor := { s.nor with events := s.nor.events ++ [(true, ⟨c, 0, x.tmax, x.tref, x.sensor, die, s.sysNow⟩)] } })

/-- TH_SENSOR_CLR (R278). -/
def State.ownSensorClr (s : State) (c : Nat) : Own :=
  if s.ntcOff c || s.ntcAlone c then .error abState
  else .ok (s.updTh c fun x => { x with sensor := if x.sensor = 2 then 0 else x.sensor, ntcBroken := false })

/-- TH_STATUS_CLR. -/
def State.ownThStatusClr (s : State) (v : Nat) : Own :=
  .ok { s with th := { s.th with dieSensor := s.th.dieSensor && !v.testBit 2, recFail := s.th.recFail && !v.testBit 3 } }

/-- A relation the Range column of R286 and R287 asks for. -/
def State.thRange (s : State) (c : Nat) (r : Reg) (v : Nat) : Bool :=
  if r.key = (Od.TH_FOSTER c).key then [3, 4, 5, 7].all fun i => F32.gt (octW v i) 0
  else if r.key = (Od.TH_TJ_THR c).key then F32.lt v (s.rd (Od.TH_TJ_SHUT c))
  else if r.key = (Od.TH_TJ_SHUT c).key then F32.le v 0x43480000
  else if r.key = (Od.TH_TJ_RESUME c).key then F32.lt v (s.rd (Od.TH_TJ_THR c))
  else if r.key = (Od.TH_V0 c).key || r.key = (Od.TH_R0 c).key then F32.ge v 0
  else if r.key = (Od.TH_I_STEP c).key || r.key = (Od.TH_V_REF c).key || r.key = (Od.TH_XDEV c).key then F32.gt v 0
  else true

/-- An entry of 0x3620+C; subs 01 to 14 only while every unit of the slot is STOPPED (R284, R287). -/
def State.ownTh (s : State) (c : Nat) (r : Reg) (v : Nat) : Own :=
  if !s.thRange c r v then .error abRange
  else if r.key % 256 ≤ 0x14 && !s.slotStopped c then .error abState
  else if r.key = (Od.TH_CTRL c).key && v.testBit 0 && !s.thOn c then
    .ok ((s.wr r v).updTh c fun x => { since := s.now, seen := (List.range 6).map fun j => s.thEdges (6 * c + j)
                                       fromShut := x.fromShut, ntcBroken := x.ntcBroken, sensor := x.sensor })
  else if r.key = (Od.TH_NTC_SRC c).key then .ok ((s.wr r v).updTh c fun x => { x with ntcAt := s.now })
  else .ok (s.wr r v)

/-- TH_DIE_SHUT lies above TH_DIE_THR (R286). -/
def State.ownDieShut (s : State) (v : Nat) : Own :=
  if F32.gt v (s.rd Od.TH_DIE_THR) && F32.le v 0x42FA0000 then .ok (s.wr Od.TH_DIE_SHUT v) else .error abRange

/-- TH_STATUS and TH_SLOT_STATUS. -/
def State.thStatus (s : State) : Nat :=
  packBits [F32.lt s.th.kDie F32.one, s.th.noConv, s.th.dieSensor, s.th.recFail]
def ThSlot.status (x : ThSlot) : Nat := packBits [x.throttling, x.noInput, x.modelDev, x.ntcBroken]

end Sys2Proof.Machine
end

