-- ==== Sys2Proof/Machine/LoopOps.lean ====
section
/-! DEFINITION. Loop programs and their admission (06, 07): the image and its checks, windows and deadlines, the test of
R171, and the releases. -/

namespace Sys2Proof.Machine

/-! ### The program image (R154 to R156, R253) -/

/-- Reads n block records from bytes of the block table; none where a record does not fit or bytes are left. -/
def parseBlocks : Nat → List Byte → Option (List LBlock)
  | 0, l => if l = [] then some [] else none
  | n + 1, l =>
    if l.length < 8 then none
    else
      let k := leAt l 1 1
      let len := 8 + 2 * k + (2 * k) % 4
      if l.length < len then none
      else
        let b : LBlock := ⟨leAt l 0 1, leAt l 6 2, leAt l 2 2, leAt l 4 2, (List.range k).map fun i => leAt l (8 + 2 * i) 2⟩
        match parseBlocks n (l.drop len) with
        | some bs => some (b :: bs)
        | none => none

/-- The words of a list of bytes. -/
def leWords (l : List Byte) (o n : Nat) : List Nat := (List.range n).map fun i => leAt l (o + 4 * i) 4

/-- The program of an image, by its layout alone (R154). -/
def parseProg (img : List Byte) : Option LProg :=
  let nb := leAt img 2 2; let nc := leAt img 4 2; let nst := leAt img 6 2
  let ni := leAt img 8 1; let no := leAt img 9 1; let bb := leAt img 12 4
  if leAt img 0 2 = 1 && 1 ≤ nb && nb ≤ 512 && nc ≤ 1024 && nst ≤ 1024 && ni ≤ 16 && no ≤ 8 &&
      img.length = 16 + bb + 4 * nc + 4 * nst + trailerLen then
    match parseBlocks nb (seg img 16 bb) with
    | some bs => some ⟨ni, no, bs, leWords img (16 + bb) nc, leWords img (16 + bb + 4 * nc) nst, img⟩
    | none => none
  else none

/-- Source code kind and selector (R155). -/
def srcKind (c : Nat) : Nat := c / 4096 % 16
def srcSel (c : Nat) : Nat := c % 4096

/-- A source code names what exists, for a block at place n (R155, R156). -/
def srcOk (p : LProg) (n c : Nat) : Bool :=
  let sel := srcSel c
  let port : Bool := match p.blocks[sel / 8]? with
    | some b => decide (sel % 8 < blkPorts b.typ)
    | none => false
  match srcKind c with
  | 0 => sel = 0
  | 1 => decide (sel / 8 < n) && port
  | 2 => port
  | 3 => decide (sel < p.nIn)
  | 4 => decide (sel < p.nIn)
  | 5 => decide (sel < p.coef.length)
  | _ => false

/-- Words read of a block: inputs it has. -/
def LBlock.n (b : LBlock) : Nat := b.srcs.length

/-- The load checks of R156 on one block at place n. -/
def blockOk (p : LProg) (n : Nat) (b : LBlock) : Bool :=
  match blkSrcs b.typ with
  | none => false
  | some (lo, hi) =>
    decide (lo ≤ b.n ∧ b.n ≤ hi) && blkArgOk b.typ b.arg p.nOut && b.srcs.all (srcOk p n) &&
      decide (b.cb + blkCoefs b.typ b.n b.arg ≤ p.coef.length) && decide (b.sb + blkStates b.typ b.arg ≤ p.state.length)

/-- The checks R253 adds for a COMMUTATE block: ARG names an IPARK block, FS_BLOCK an earlier FLYSTART of its own, and
the initial mode follows. -/
def commutateOk (p : LProg) (n : Nat) (b : LBlock) : Bool :=
  if b.typ ≠ 0x1B then true
  else
    let fs := p.coef.getD (b.cb + 20) 0
    let fbMode := p.coef.getD (b.cb + 17) 0
    let mode := p.state.getD (b.sb + 8) 0
    let arg : Bool := match p.blocks[b.arg]? with
      | some x => x.typ = 0x0C
      | none => false
    let fly : Bool := decide (fs < n) && (match p.blocks[fs]? with
      | some x => x.typ = 0x1C
      | none => false)
    let alone := (p.blocks.countP fun x => x.typ = 0x1B && p.coef.getD (x.cb + 20) 0 = fs) = 1
    arg && (fs = 0xFFFFFFFF || (fly && alone)) &&
      mode = (if fs ≠ 0xFFFFFFFF then f4 else if fbMode = 1 then f3 else 0)

/-- Every load check on a parsed program. -/
def progOk (p : LProg) : Bool := (p.blocks.mapIdx fun n b => blockOk p n b && commutateOk p n b).all id

/-- Bytes of LOOP SRAM a program takes: image, two banks, state (R156). -/
def LProg.room (p : LProg) : Nat := p.image.length + 8 * p.coef.length + 4 * p.state.length

/-- LOOP_MEM_FREE without slot LS: 512 KiB less what the loaded slots take. -/
def State.loopFree (s : State) (but : Nat) : Nat :=
  524288 - (((List.range 128).filter fun n => n ≠ but).map fun n => match (s.ls n).prog with
    | some p => p.room
    | none => 0).foldl (· + ·) 0

/-- LS_COST (R156). -/
def LProg.cost (p : LProg) : Nat :=
  32 + 2 * p.nIn + (p.blocks.map fun b => blkCost b.typ b.n b.arg).foldl (· + ·) 0
def LoopSlot.cost (t : LoopSlot) : Nat := match t.prog with
  | some p => p.cost
  | none => 0

/-- A program is loaded into LS: LOADED, both banks with the initial coefficients. -/
def State.loadProg (s : State) (n : Nat) (p : LProg) : State :=
  s.updLs n fun t => { t with
    st := .loaded, prog := some p, bankA := p.coef, bankB := p.coef, act := 0, swap := false, words := p.state
    first := true, prev := [] }

/-- LS_PROGRAM (R156). -/
def State.ownLsProgram (s : State) (n : Nat) (img : List Byte) : Own :=
  let t := s.ls n
  if t.st = .running || t.st = .holding then .error abState
  else if !s.sigOk img kindLoop [] then .error abSignature
  else
    match parseProg img with
    | none => .error abImage
    | some p =>
      if !progOk p then .error abImage
      else if p.room > s.loopFree n then .error abSpace
      else .ok (s.loadProg n p)

/-! ### Run-ahead configuration (R187, R193) -/

/-- ENABLE and RECOMPUTE of RA_CTRL, RA_N_PRED, slot input and MODEL block of RA_PRED p. -/
def State.raOn (s : State) (n : Nat) : Bool := (s.rd (Od.RA_CTRL n)).testBit 0
def State.raRecompute (s : State) (n : Nat) : Bool := (s.rd (Od.RA_CTRL n)).testBit 1
def State.raPreds (s : State) (n : Nat) : List Nat := List.range (s.rd (Od.RA_N_PRED n))
def State.raInput (s : State) (n p : Nat) : Nat := bits (s.rd (Od.RA_PRED n p)) 3 0
def State.raBlock (s : State) (n p : Nat) : Nat := bits (s.rd (Od.RA_PRED n p)) 24 16

/-- The predicted input that names slot input i. -/
def State.raOf (s : State) (n i : Nat) : Option Nat := (s.raPreds n).find? fun p => s.raInput n p = i

/-- Blocks of a slot's program. -/
def LoopSlot.blocks (t : LoopSlot) : List LBlock := match t.prog with
  | some p => p.blocks
  | none => []
def LoopSlot.block (t : LoopSlot) (b : Nat) : LBlock := t.blocks.getD b ⟨0, 0, 0, 0, []⟩

/-- Inputs of the output blocks: block and place, in table order (R192). -/
def LoopSlot.outPorts (t : LoopSlot) : List (Nat × Nat) :=
  (List.range t.blocks.length).flatMap fun b =>
    if isOut (t.block b).typ then (List.range (t.block b).n).map fun i => (b, i) else []

/-- PLAUS blocks whose y is a predicted input (R192). -/
def State.raPlaus (s : State) (n : Nat) : List Nat :=
  let t := s.ls n
  (List.range t.blocks.length).filter fun b => (t.block b).typ = 0x11 &&
    srcKind ((t.block b).srcs.getD 0 0) = 3 && (s.raOf n (srcSel ((t.block b).srcs.getD 0 0))).isSome

/-- The checks of R187 on RUN. -/
def State.raOk (s : State) (n : Nat) : Bool :=
  let t := s.ls n
  let ps := s.raPreds n
  !s.raOn n ||
    (decide (1 ≤ ps.length ∧ ps.length ≤ 4) && decide (ps.map fun p => s.raInput n p).Nodup &&
      (ps.all fun p =>
        s.inKind n (s.raInput n p) = 1 && (t.block (s.raBlock n p)).typ = 0x10 &&
          (t.block (s.raBlock n p)).srcs.getD 2 0 = 3 * 4096 + s.raInput n p) &&
      !t.outPorts.isEmpty &&
      decide (s.rd (Od.RA_GAIN_BASE n) + t.outPorts.length * ps.length ≤ t.bankA.length))

/-- RA_COST (R193). -/
def State.raCostOf (s : State) (n : Nat) : Nat :=
  if !s.raOn n then 0
  else
    let t := s.ls n
    let np := (s.raPreds n).length
    let models := ((s.raPreds n).map fun p => 2 * (t.block (s.raBlock n p)).arg + 2).foldl (· + ·) 0
    16 + 4 * np + t.outPorts.length * (4 + 2 * np) + models + 8 * (s.raPlaus n).length

/-! ### Windows and deadlines (R169) -/

/-- KIND, carrier, event, bell of LS_RELEASE. -/
def State.relKind (s : State) (n : Nat) : Nat := bits (s.rd (Od.LS_RELEASE n)) 1 0
def State.relCar (s : State) (n : Nat) : Nat := bits (s.rd (Od.LS_RELEASE n)) 7 2
def State.relEv (s : State) (n : Nat) : Nat := bits (s.rd (Od.LS_RELEASE n)) 9 8
def State.relBell (s : State) (n : Nat) : Nat := bits (s.rd (Od.LS_RELEASE n)) 15 10

/-- The smaller of staged and active period of Kk, in ps (R169). -/
def State.shortP (s : State) (k : Nat) : Nat := min (s.rd (Od.CAR_PERIOD k)) (s.car k).p * s.tclk

/-- The interval between two releases in ps, `p k` being the carrier period to take. -/
def State.relIntervalOf (s : State) (p : Nat → Nat) (n : Nat) : Nat :=
  let div := s.rd (Od.LS_REL_DIV n)
  if s.relKind n = 1 then div * (if s.relEv n = 3 then 1 else 2) * p (s.relCar n)
  else if s.relKind n = 2 then div * ns (s.rd (Od.BELL_PERIOD (s.relBell n)))
  else 0

/-- The shortest interval between two releases (R169), and the one of the active period (R172, R253). -/
def State.relShort (s : State) (n : Nat) : Nat := s.relIntervalOf s.shortP n
def State.relInterval (s : State) (n : Nat) : Nat := s.relIntervalOf (fun k => (s.car k).p * s.tclk) n

/-- The window W in ps, where the conditions of R169 hold. -/
def State.window (s : State) (n : Nat) : Option Nat :=
  if s.relKind n = 0 || s.relKind n = 3 || (s.relKind n = 1 && s.relEv n = 0) then none
  else if s.rd (Od.LS_DL_MODE n) = 0 then
    let k := s.rd (Od.LS_DL_CAR n)
    let m := ns (s.rd (Od.LS_DL_MARGIN n))
    if s.relKind n = 1 && s.relCar n = k then
      let r := s.rd (Od.CAR_RELOAD k)
      -- releases on both events fall on valleys alone where the divisor is even
      let valleys := s.relEv n = 1 || (s.relEv n = 3 && s.rd (Od.LS_REL_DIV n) % 2 = 0)
      let same := (valleys && r = 0) || (s.relEv n = 2 && r = 1)
      let w := (if same then 2 else 1) * s.shortP k
      if w > m then some (w - m) else none
    else none
  else
    let w := ns (s.rd (Od.LS_DL_REL n))
    if w ≤ s.relShort n then some w else none

/-- The conditions of R169 on LS: a window, longer than the input timeout. -/
def State.windowOk (s : State) (n : Nat) : Bool :=
  match s.window n with
  | some w => decide (ns (s.rd (Od.LS_IN_TIMEOUT n)) < w)
  | none => false

/-- The deadline of a release at local time t (R169). -/
def State.deadlineOf (s : State) (n t : Nat) : Nat :=
  if s.rd (Od.LS_DL_MODE n) = 1 then t + ns (s.rd (Od.LS_DL_REL n))
  else
    let k := s.rd (Od.LS_DL_CAR n)
    let c := s.car k
    let m := ns (s.rd (Od.LS_DL_MARGIN n))
    let half := c.p * s.tclk
    -- the next peak and the next valley strictly after t
    let peak := if s.peakAt k > t then s.peakAt k else s.peakAt k + 2 * half
    let valley := if s.valleyAt k - 2 * half > t then s.valleyAt k - 2 * half else s.valleyAt k
    let d := if s.peakCommits k && s.valleyCommits k then min peak valley else if s.peakCommits k then peak else valley
    d - m

/-! ### The admission test (R171, R201) -/

/-- LS_COST, plus RA_COST with run-ahead. -/
def State.fullCost (s : State) (n : Nat) : Nat := (s.ls n).cost + s.raCostOf n

/-- Slots that are RUNNING on pipe p. -/
def State.onPipe (s : State) (p : Nat) : List Nat :=
  (List.range 128).filter fun n => (s.ls n).st = .running && (s.ls n).pipe = some p

/-- Largest single block cost among slots. -/
def State.maxBlock (s : State) (ns : List Nat) : Nat :=
  ((ns.flatMap fun n => (s.ls n).blocks).map fun b => blkCost b.typ b.n b.arg).foldl max 0

/-- A window in pipe cycles. -/
def State.cyclesOf (s : State) (w : Nat) : Rat := mkRat w s.tloop

/-- Σ LS_COST / W over slots; a slot without a window has none to divide by. -/
def State.density (s : State) (ns : List Nat) : Rat :=
  (ns.map fun n => match s.window n with
    | some w => (s.fullCost n : Rat) / s.cyclesOf w
    | none => 1).foldl (· + ·) 0

/-- The left side of R171 for a set of slots on one pipe. -/
def State.pipeLoad (s : State) (ns : List Nat) : Rat :=
  let ws := ns.filterMap fun n => s.window n
  match ws with
  | [] => 0
  | w :: rest =>
    let b := s.maxBlock ns + (ns.map fun n => s.raCostOf n).foldl (· + ·) 0
    s.density ns + (b : Rat) / s.cyclesOf (rest.foldl min w)

/-- The test of R171 for a set of slots. -/
def State.admits (s : State) (ns : List Nat) : Bool := ns.all s.windowOk && decide (s.pipeLoad ns ≤ 1)

/-- Pipe p is under a logic test; it is left out of assignment then, and while it is withdrawn (R547, R548). -/
def State.pipeTest (s : State) (p : Nat) : Bool := s.bist.run.any fun r => r.1 = 3 + 256 * p
def State.pipeOut (s : State) (p : Nat) : Bool := s.pipeTest p || s.bist.held.testBit (10 + p)

/-- The pipe a RUN of LS gets: its LS_PIPE, or the pipe of the lowest density sum that passes (R170). -/
def State.pickPipe (s : State) (n : Nat) : Option Nat :=
  let p := s.rd (Od.LS_PIPE n)
  if p < 4 then (if !s.pipeOut p && s.admits (s.onPipe p ++ [n]) then some p else none)
  else
    ((List.range 4).filter fun p => !s.pipeOut p && s.admits (s.onPipe p ++ [n])).foldl (fun a p => match a with
      | none => some p
      | some q => if s.density (s.onPipe p) < s.density (s.onPipe q) then some p else some q) none

/-- After a write that may change windows: every pipe that a listed slot runs on still passes (R171). -/
def State.stillAdmits (s : State) (ns : List Nat) : Bool :=
  (List.range 4).all fun p => !((s.onPipe p).any ns.contains) || s.admits (s.onPipe p)

/-- RUNNING slots whose window depends on carrier Kk, on bell b. -/
def State.slotsOnCar (s : State) (k : Nat) : List Nat :=
  (List.range 128).filter fun n => (s.ls n).st = .running &&
    ((s.relKind n = 1 && s.relCar n = k) || (s.rd (Od.LS_DL_MODE n) = 0 && s.rd (Od.LS_DL_CAR n) = k))
def State.slotsOnBell (s : State) (b : Nat) : List Nat :=
  (List.range 128).filter fun n => (s.ls n).st = .running && s.relKind n = 2 && s.relBell n = b

/-- LOOP_UTIL in ‰: Σ LS_COST / (release interval) over the RUNNING slots, as a share of four pipes (R172). -/
def State.loopUtil (s : State) : Rat :=
  (((List.range 128).filter fun n => (s.ls n).st = .running).map fun n =>
    ((s.ls n).cost : Rat) / s.cyclesOf (s.relInterval n)).foldl (· + ·) 0 / 4

/-! ### Releases (R161, R164, R169) -/

/-- The domain that holds the source of slot input i (R164). -/
def State.inDomOn (s : State) (n i : Nat) : Bool :=
  match s.inKind n i with
  | 1 => s.domOn domMeas
  | 2 | 5 => s.domOn domLoop
  | 3 => s.domOn domLink
  | 6 => s.domOn domFeed
  | _ => true

/-- The inputs that LS describes. -/
def State.usedInputs (s : State) (n : Nat) : List Nat := (List.range 16).filter fun i => s.inKind n i ≠ 0

/-- An input that LS waits for: WAIT, and not a predicted input of a slot with run-ahead (R188). -/
def State.waits (s : State) (n i : Nat) : Bool :=
  s.inKind n i ≠ 0 && s.inWait n i && !(s.raOn n && (s.raOf n i).isSome)

/-- The input has a new value in this LOOP clock or before (R160). -/
def State.isNew (s : State) (n i : Nat) : Bool := s.inKind n i = 6 || ((s.ls n).inp i).cur.isSome

/-- Every WAIT input is new. -/
def State.allNew (s : State) (n : Nat) : Bool := (List.range 16).all fun i => !s.waits n i || s.isNew n i

/-- The inputs of LS whose source domain is off now (R24, R164). -/
def State.inputsOff (s : State) (n : Nat) : List Nat := (s.usedInputs n).filter fun i => !s.inDomOn n i

/-- A RESUME that waits for the next release takes effect (R179). -/
def State.resumed (s : State) (n : Nat) : State :=
  s.updLs n fun t => if t.pendResume && t.st = .holding then
    { t with st := .running, pendResume := false, fallbackNext := true, resync := (s.rd (Od.LS_CTRL n)).testBit 0 } else t

/-- A release of LS now: a run, or an unscheduled release where a source domain is off (R164). -/
def State.release (s : State) (n : Nat) : State :=
  let s := if s.domOn domLoop then s.resumed n else s
  let t := s.ls n
  if t.st ≠ .running || !s.domOn domLoop || t.run.isSome then s
  else
    let off := s.inputsOff n
    if off ≠ [] then
      s.updLs n fun t => { t with
        unsched := (t.unsched + 1) % 2 ^ 32
        inputs := t.inputs.mapIdx fun i x => if off.contains i then { x with nowV := x.used, nowSt := 4 } else x }
    else
      let kind := if s.raOn n then RunKind.spec else RunKind.plain
      s.updLs n fun t => { t with
        run := some { kind := kind, release := s.now, deadline := s.deadlineOf n s.now, ready := s.allNew n } }

/-- Every slot that an event of Kk releases (R169); one, both: numbers of the event as R130 counts them. -/
def State.carrierReleases (s : State) (k : Nat) (peak : Bool) : State :=
  let c := s.car k
  let one := if peak then c.evP else c.evV
  s.each ((List.range 128).filter fun n => eventHits (s.rd (Od.LS_RELEASE n)) k peak one (c.evV + c.evP)
    (s.rd (Od.LS_REL_DIV n)) 0) fun s n => s.release n

/-- Every slot that ring number i of bell b releases. -/
def State.bellReleases (s : State) (b i : Nat) : State :=
  s.each ((List.range 128).filter fun n => s.relKind n = 2 && s.relBell n = b && i % s.rd (Od.LS_REL_DIV n) = 0)
    fun s n => s.release n

end Sys2Proof.Machine
end

