-- ==== Sys2Proof/Machine/RunOps.lean ====
section
/-! DEFINITION. Runs of the loop engine (06, 07): reading inputs, executing blocks, ending a run, missing a deadline,
the commit stage of run-ahead, and the slot commands. -/

namespace Sys2Proof.Machine

/-- The run of LS changed. -/
def State.updRun (s : State) (n : Nat) (f : LRun → LRun) : State := s.updLs n fun t => { t with run := t.run.map f }

/-- The active and the inactive bank. -/
def LoopSlot.bank (t : LoopSlot) : List Nat := if t.act = 0 then t.bankA else t.bankB
def LoopSlot.other (t : LoopSlot) : List Nat := if t.act = 0 then t.bankB else t.bankA
/-- The inactive bank replaced; a word of the active bank set. -/
def LoopSlot.setOther (t : LoopSlot) (b : List Nat) : LoopSlot := if t.act = 0 then { t with bankB := b } else { t with bankA := b }
def LoopSlot.setWord (t : LoopSlot) (i v : Nat) : LoopSlot :=
  if t.act = 0 then { t with bankA := t.bankA.set i v } else { t with bankB := t.bankB.set i v }

/-- The first edge of CLK_LOOP at or after a local time. -/
def State.loopEdge (s : State) (t : Nat) : Nat := (t + s.tloop - 1) / s.tloop * s.tloop

/-- A status number of R162 as a binary32 code. -/
def stCode (st : Nat) : Nat := fint st

/-! ### Leaving a run -/

/-- What a pending STOP or HOLD does once no run is in progress (R179). -/
def State.settleCmd (s : State) (n : Nat) : State :=
  let t := s.ls n
  if t.run.isSome then s
  else if t.pendStop then s.updLs n fun t => { t with st := .loaded, pipe := none, pendStop := false, pendHold := false, pendResume := false }
  else if t.pendHold then s.updLs n fun t => { t with st := .holding, pendHold := false }
  else s

/-- LS goes to HOLDING by itself: every slot that has a program (R163, R173, R182). -/
def State.toHolding (s : State) (n : Nat) : State :=
  s.updLs n fun t => { t with st := if t.st = .empty then .empty else .holding, pendHold := false, pendResume := false }

/-- A run counts as a miss toward LS_MISS_MAX (R153, R173). -/
def State.countMissRun (s : State) (n : Nat) : State :=
  let s := s.updLs n fun t => { t with missRun := min 255 (t.missRun + 1) }
  if (s.ls n).missRun ≥ s.rd (Od.LS_MISS_MAX n) then (s.raise Flt.LOOP_MISS_RUN n).toHolding n else s

/-- The run is abandoned: nothing of it is kept (R151); the next speculative run uses the fallback (R189). -/
def State.dropRun (s : State) (n : Nat) : State := s.updLs n fun t => { t with run := none, fallbackNext := true }

/-- A miss (R173). -/
def State.missRun (s : State) (n : Nat) : State :=
  let s := (s.dropRun n).updLs n fun t => { t with misses := (t.misses + 1) % 2 ^ 32, missSeen := true }
  ((s.raise Flt.LOOP_MISS n).countMissRun n).settleCmd n

/-- A run abandoned for a non-finite block output (R153). -/
def State.nanRun (s : State) (n : Nat) : State :=
  let s := (s.dropRun n).updLs n fun t => { t with nans := (t.nans + 1) % 2 ^ 32, nanSeen := true }
  ((s.raise Flt.LOOP_NAN n).countMissRun n).settleCmd n

/-! ### Reading inputs (R160 to R162, R188, R189, R198) -/

/-- ŷ_next of the MODEL block that RA_PRED p names, as of the last completed run. -/
def State.yNext (s : State) (n p : Nat) : Nat := portOf (s.ls n).prev (s.raBlock n p) 1

/-- The pending value a run that starts in LOOP clock c sees: one that arrived before that clock. -/
def LoopIn.before (x : LoopIn) (c : Nat) : Option InVal :=
  match x.cur with
  | none => none
  | some v => if v.clk < c then some v else x.was

/-- Value and status of R162 of a queue entry that came for slot input i. -/
def State.queueVal (s : State) (n i : Nat) (v : InVal) : Nat × Nat :=
  let used := ((s.ls n).inp i).used
  match v.st with
  | 0 => (v.v, 0)
  | 1 =>
    match s.raOf n i with
    | some p => if s.rd (Od.TRG_PREDICT (s.inSel n i)) = 2 then (s.yNext n p, 1) else (v.v, 1)
    | none => (v.v, 1)
  | 2 => if s.inDist n i then (v.v, 2) else (used, 1)
  | 3 => (v.v, 3)
  | 5 => (v.v, 5)
  | _ => (used, 4)

/-- Value and status of slot input i for a run that starts in LOOP clock c. -/
def State.readInput (s : State) (n i c : Nat) : Nat × Nat :=
  let x := (s.ls n).inp i
  match s.inKind n i with
  | 0 => (x.used, if s.inWait n i then 4 else 6)
  | 6 => match s.fbChannel (s.inSel n i) with
    | some v => if s.inDomOn n i then (v, 0) else (x.used, 4)
    | none => (x.used, 4)
  | k =>
    if !s.inDomOn n i then (x.used, 4)
    else match x.before c with
      | some v => if k = 1 then s.queueVal n i v else if k = 3 && x.age ≥ 3 then (x.used, 6) else (v.v, 0)
      | none => (x.used, if s.inWait n i then 4 else 6)

/-- The run has read its inputs: what came before its clock is used up. -/
def LoopIn.taken (x : LoopIn) (c v st : Nat) : LoopIn :=
  { x with
    cur := match x.cur with
      | some y => if y.clk < c then none else some y
      | none => none
    was := none
    used := if st = 4 || st = 6 then x.used else v
    nowV := v, nowSt := st }

/-! ### Executing blocks (R151, R152) -/

/-- The value of a source code in a run. -/
def srcVal (t : LoopSlot) (r : LRun) (c : Nat) : Nat :=
  let sel := srcSel c
  match srcKind c with
  | 1 => portOf r.outs (sel / 8) (sel % 8)
  | 2 => portOf t.prev (sel / 8) (sel % 8)
  | 3 => (r.ins.getD sel (0, 4)).1
  | 4 => stCode (r.ins.getD sel (0, 4)).2
  | 5 => t.bank.getD sel 0
  | _ => 0

/-- The status of a source: that of the slot input it names, VALID for any other (R177, R178). -/
def srcStat (r : LRun) (c : Nat) : Nat := if srcKind c = 3 then (r.ins.getD (srcSel c) (0, 4)).2 else 0

/-- A list with a part replaced from place o on. -/
def splice (l : List Nat) (o : Nat) (new : List Nat) : List Nat := l.take o ++ new ++ l.drop (o + new.length)

/-- The next block of the run executes. The outputs kept of an output or PUBLISH block are its inputs. Operands and results
are flushed (R152). -/
def LoopSlot.stepBlock (t : LoopSlot) (p : LProg) (r : LRun) : LRun :=
  let i := r.outs.length
  match p.blocks[i]? with
  | none => r
  | some b =>
    let x := b.srcs.map fun c => F32.flush (srcVal t r c)
    if isOut b.typ || b.typ = 0x24 then { r with outs := r.outs ++ [x] }
    else
      let c := (t.bank.drop b.cb).take (blkCoefs b.typ b.n b.arg)
      let st := (r.st.drop b.sb).take (blkStates b.typ b.arg)
      let uLast := if r.resync && b.typ = 0x08 then some (portOf t.prev i 0) else none
      let (o, st') := runBlock ⟨t.prev, r.outs, p⟩ i b x (b.srcs.map (srcStat r)) c st t.first uLast
      { r with outs := r.outs ++ [o.map F32.flush], st := splice r.st b.sb st' }

/-- The block that executed last put out a NaN or an infinity (R153); of an output or PUBLISH block, its input values
(log entry 177). -/
def LRun.bad (r : LRun) : Bool := match r.outs.getLast? with
  | some o => o.any fun x => !F32.finite x
  | none => false

/-- Up to k further blocks execute, while their ends lie within `cyc` pipe cycles from the run's start; a bad output
stops the run. -/
def LoopSlot.exec (t : LoopSlot) (p : LProg) : Nat → Nat → LRun → LRun
  | 0, _, r => r
  | k + 1, cyc, r =>
    match p.blocks[r.outs.length]? with
    | none => r
    | some b =>
      let c := blkCost b.typ b.n b.arg
      if c ≤ cyc && !r.bad then LoopSlot.exec t p k (cyc - c) (t.stepBlock p r) else r

/-- Cycles the blocks executed so far took, after the 32 + 2 × N_IN at the start. -/
def LRun.spent (r : LRun) (p : LProg) : Nat :=
  32 + 2 * p.nIn + ((p.blocks.take r.outs.length).map fun b => blkCost b.typ b.n b.arg).foldl (· + ·) 0

/-- Pipe cycles the run has had at local time t. -/
def State.progress (s : State) (r : LRun) (t : Nat) : Nat :=
  match r.onPipe with
  | some o => r.done + (t - o) / s.tloop
  | none => r.done

/-- The blocks of LS whose end has come execute. -/
def State.advance (s : State) (n : Nat) : State :=
  let t := s.ls n
  match t.run, t.prog with
  | some r, some p =>
    if r.start.isNone || r.kind = .parked || r.kind = .stage then s
    else
      let cyc := s.progress r s.now
      let base := r.spent p
      if cyc < base then s
      else s.updLs n fun t => { t with run := some (t.exec p p.blocks.length (cyc - base) r) }
  | _, _ => s

/-- Local time at which the run of LS that is on its pipe ends if nothing preempts it. -/
def State.runEnd (s : State) (n : Nat) : Option Nat :=
  match (s.ls n).run with
  | some r => match r.onPipe with
    | some o => some (o + ((s.ls n).cost - r.done) * s.tloop)
    | none => none
  | none => none

/-- Local time at which the run of LS that is on its pipe is abandoned for a bad block output if nothing preempts it. -/
def State.badAt (s : State) (n : Nat) : Option Nat :=
  match (s.ls n).run, (s.ls n).prog with
  | some r, some p => match r.onPipe with
    | some o =>
      let r' := (s.ls n).exec p p.blocks.length (s.ls n).cost r
      if r'.bad then some (o + (r'.spent p - r.done) * s.tloop) else none
    | none => none
  | _, _ => none

/-- End of the block in progress of LS at or after local time t. -/
def State.blockEnd (s : State) (n t : Nat) : Nat :=
  match (s.ls n).run, (s.ls n).prog with
  | some r, some p =>
    match r.onPipe with
    | some o =>
      let cyc := r.done + (t - o + s.tloop - 1) / s.tloop
      -- boundaries: the reading of the inputs, then each block
      let costs := (32 + 2 * p.nIn) :: p.blocks.map fun b => blkCost b.typ b.n b.arg
      let ends := (costs.foldl (fun (a : Nat × List Nat) c => (a.1 + c, a.2 ++ [a.1 + c])) (0, [])).2
      match ends.find? fun e => e ≥ cyc with
      | some e => o + (e - r.done) * s.tloop
      | none => t
    | none => t
  | _, _ => t

/-! ### Starting (R170, R175, R188, R189, R202) -/

/-- The slot whose run is on pipe p. -/
def State.occupant (s : State) (p : Nat) : Option Nat :=
  (List.range 128).find? fun n => (s.ls n).pipe = some p && (s.ls n).run.any fun r => r.onPipe.isSome

/-- Runs that wait for pipe p: ready, and not on it. -/
def State.waiting (s : State) (p : Nat) : List Nat :=
  (List.range 128).filter fun n => (s.ls n).pipe = some p && (s.ls n).run.any fun r =>
    r.ready && r.onPipe.isNone && r.kind ≠ .parked && r.kind ≠ .stage

/-- Deadline of the run of LS. -/
def State.dl (s : State) (n : Nat) : Nat := match (s.ls n).run with
  | some r => r.deadline
  | none => 0

/-- The waiting run with the earliest deadline, the lower slot first on a tie. -/
def State.nextRun (s : State) (p : Nat) : Option Nat :=
  (s.waiting p).foldl (fun a n => match a with
    | none => some n
    | some m => if s.dl n < s.dl m then some n else some m) none

/-- The fallback prediction of R189: the value of the last usable entry. -/
def State.prediction (s : State) (n p : Nat) : Nat :=
  if (s.ls n).fallbackNext then ((s.ls n).inp (s.raInput n p)).fallback else s.yNext n p

/-- The run of LS starts at the present LOOP clock: swap, inputs, state copy. -/
def State.startRun (s : State) (n : Nat) : State :=
  match (s.ls n).run with
  | none => s
  | some r =>
    let c := s.loopClk
    let spec := r.kind = .spec
    let rec' := r.kind = .recompute
    let s := if (s.ls n).swap && !rec' then s.updLs n fun t => { t with act := 1 - t.act, swap := false } else s
    let yhat := if spec then (s.raPreds n).map fun p => s.prediction n p else r.yhat
    let s := if spec && (s.ls n).fallbackNext then
        s.updLs n fun t => { t with fallbacks := (t.fallbacks + yhat.length) % 2 ^ 32, fallbackNext := false } else s
    let pred (i : Nat) : Option Nat := if spec || rec' then s.raOf n i else none
    let ins := (List.range 16).map fun i =>
      match pred i with
      | some p =>
        if spec then (yhat.getD p 0, 1)
        else match ((s.ls n).inp i).real with
          | some v => s.queueVal n i v
          | none => (((s.ls n).inp i).used, 4)
      | none =>
        -- a recompute reads afresh: without a newer value, the one its speculative run read, by its source as it is now
        let x := (s.ls n).inp i
        if rec' && (x.before c).isNone && s.inKind n i ≠ 6 && s.inDomOn n i && !(s.inKind n i = 3 && decide (x.age ≥ 3)) then
          (x.nowV, x.nowSt)
        else s.readInput n i c
    let s := s.updLs n fun t => { t with inputs := t.inputs.mapIdx fun i x =>
      let v := ins.getD i (0, 0)
      if spec && (s.raOf n i).isSome then { x.taken c v.1 v.2 with real := none } else x.taken c v.1 v.2 }
    s.updLs n fun t =>
      let st := match (if r.release > t.reloadAt then t.prog else none) with
        | some p => t.reload.foldl (fun w b => match p.blocks[b]? with
            | some k => splice w k.sb ((p.state.drop k.sb).take (blkStates k.typ k.arg))
            | none => w) t.words
        | none => t.words
      { t with run := some { r with
          start := some s.now, onPipe := some s.now, done := 0, ins := ins, st := st, outs := []
          periods := s.cars.map (·.p), resync := t.resync && !t.first, yhat := yhat } }

/-- The end of the last commit stage on pipe p (R200). -/
def State.pipeFree (s : State) (p : Nat) : Nat := s.le.stageTill.getD p 0

/-- Pipe p takes its next run: the ready run of the earliest deadline, which makes the run in progress yield at the end
of its block if that has a later one (R170). A run in progress that a bad block output ends before that leaves the pipe. -/
def State.takePipe (s : State) (p : Nat) : State :=
  match s.nextRun p with
  | none => s
  | some n =>
    let fresh (s : State) : State :=
      match (s.ls n).run with
      | none => s
      | some r =>
        if r.start.isSome then
          let s := s.at_ (s.loopEdge (max s.now (s.pipeFree p)))
          s.updRun n fun r => { r with onPipe := some s.now }
        else
          let t := s.loopEdge (max s.now (s.pipeFree p))
          -- a value of this clock belongs to the next run, so a run that waited for it starts one clock later
          let wait := (List.range 16).any fun i => s.waits n i && r.kind ≠ .recompute &&
            ((s.ls n).inp i).cur.any fun v => decide (v.clk ≥ t / s.tloop) && ((s.ls n).inp i).was.isNone
          (s.at_ (if wait && s.now < r.release + ns (s.rd (Od.LS_IN_TIMEOUT n)) then t + s.tloop else t)).startRun n
    match s.occupant p with
    | none => fresh s
    | some m =>
      let e := s.blockEnd m (max s.now (s.pipeFree p))
      if (s.badAt m).any fun b => decide (b ≤ e) && decide (b ≤ s.dl m) then
        fresh ((s.at_ ((s.badAt m).getD e)).nanRun m)
      else if s.dl n < s.dl m && (s.runEnd m).all (fun x => decide (e < x)) then
        let s := s.at_ e
        let s := s.advance m
        let s := s.updRun m fun r => { r with done := s.progress r s.now, onPipe := none }
        fresh { s with le := { s.le with preempts := (s.le.preempts + 1) % 2 ^ 64 } }
      else s

/-! ### Ending (R151, R163, R165 to R168, R178) -/

/-- Leg values by carrier, in ascending carrier number. -/
def byCarrier (s : State) (vals : List (Nat × Bool × Nat)) : List (Nat × List (Nat × Bool × Nat)) :=
  (List.range 64).filterMap fun k =>
    let vs := vals.filter fun v => s.carOf v.1 = k
    if vs = [] then none else some (k, vs)

/-- Leg values handed over now: unbound ones are dropped and counted, the others go out by carrier (R166, R167). -/
def State.handOver (s : State) (n : Nat) (vals : List (Nat × Bool × Nat)) : State :=
  let (ok, no) := vals.partition fun v => (s.leg v.1).bound = some n
  let s := if no = [] then s
    else s.updLs n fun t => { t with unbound := (t.unbound + no.length) % 2 ^ 32, unboundSeen := true }
  let ds := (byCarrier s ok).mapIdx fun i c => (⟨n, c.1, s.now + ns 30 + i * s.tclk, c.2⟩ : Delivery)
  { s with le := { s.le with deliveries := s.le.deliveries ++ ds } }

/-- Slot output o of LS takes a value: every input that names it gets it, and bound trace signals (R160, R168). -/
def State.publish (s : State) (n o v : Nat) : State :=
  let s := s.updLs n fun t => { t with outs := t.outs.set o v }
  let s := s.each (s.inputsWhere fun m i => s.inKind m i = 2 && s.inSel m i = n * 8 + o) fun s x => s.arrive x.1 x.2 v 0
  s.traceAll 2 (n * 8 + o) 9 v s.sysNow

/-- PLAUS blocks whose flag rises from one state to the next (R178). -/
def plausRises (p : LProg) (old new : List Nat) : Nat :=
  p.blocks.countP fun b => b.typ = 0x11 && F32.isZero (old.getD (b.sb + 2) 0) && !F32.isZero (new.getD (b.sb + 2) 0)

/-- The leg values of the output blocks of a run, their inputs as kept in its outputs. -/
def legValues (s : State) (p : LProg) (outs : List (List Nat)) (periods : List Nat) : List (Nat × Bool × Nat) :=
  (List.range p.blocks.length).flatMap fun i => match p.blocks[i]? with
    | some b => if isOut b.typ then convert b (outs.getD i []) fun l => periods.getD (s.carOf l) 0 else []
    | none => []

/-- The run of LS ends now with state, outputs and leg values; `absent`: a WAIT input was ABSENT (R163). -/
def State.commitRun (s : State) (n : Nat) (p : LProg) (r : LRun) (absent : Bool) : State :=
  let old := (s.ls n).words
  let rises := plausRises p old r.st
  let ex := (s.now - r.start.getD s.now) / 1000
  let slack : Int := ((r.deadline : Int) - s.now) / 1000
  let s := s.updLs n fun t => { t with
    run := none, words := r.st, prev := r.outs, first := false, resync := false
    reload := if r.release > t.reloadAt then [] else t.reload
    runs := (t.runs + 1) % 2 ^ 64, missRun := 0
    execLast := ex, execMax := max t.execMax ex, slackMin := min t.slackMin slack
    absentRun := if absent then min 255 (t.absentRun + 1) else 0 }
  let s := s.each ((List.range p.blocks.length).filter fun i => (p.blocks.getD i ⟨0, 0, 0, 0, []⟩).typ = 0x24) fun s i =>
    s.publish n (p.blocks.getD i ⟨0, 0, 0, 0, []⟩).arg ((r.outs.getD i []).getD 0 0)
  let s := s.handOver n (legValues s p r.outs r.periods)
  let s := if rises = 0 then s
    else (s.updLs n fun t => { t with plausSeen := true, plausCount := (t.plausCount + rises) % 2 ^ 32 }).raise Flt.LOOP_PLAUS n
  let s := if absent && decide ((s.ls n).absentRun ≥ s.rd (Od.LS_ABSENT_MAX n)) then
      ((s.updLs n fun t => { t with absentSeen := true }).raise Flt.LOOP_INPUT n).toHolding n
    else s
  s.settleCmd n

/-- A WAIT input of the run was ABSENT; predicted inputs are judged by their real samples (R163, R199). -/
def State.runAbsent (s : State) (n : Nat) (r : LRun) : Bool :=
  (List.range 16).any fun i => s.inWait n i && s.inKind n i ≠ 0 &&
    (match (if r.kind = .plain then none else s.raOf n i) with
     | some _ => match ((s.ls n).inp i).real with
       | some v => v.st = 4
       | none => true
     | none => (r.ins.getD i (0, 0)).2 = 4)

/-- Every predicted input has its real sample. -/
def State.realsIn (s : State) (n : Nat) : Bool :=
  (s.raPreds n).all fun p => ((s.ls n).inp (s.raInput n p)).real.isSome

/-- T_LATE of R191. -/
def State.tLate (s : State) (n : Nat) (r : LRun) : Nat :=
  let b := match (s.ls n).pipe with
    | some p => s.maxBlock (s.onPipe p)
    | none => 0
  r.deadline - (b + (s.ls n).raCost) * s.tloop

/-- The parked result's commit stage becomes ready now. -/
def State.readyStage (s : State) (n : Nat) : State := s.updRun n fun r => { r with kind := .stage, readyAt := s.now }

/-- The run of LS that is on its pipe ends (R151, R153, R186). -/
def State.endRun (s : State) (n : Nat) : State :=
  match (s.ls n).run, (s.ls n).prog, s.runEnd n with
  | some r, some p, some e =>
    if r.kind = .parked || r.kind = .stage then s
    else
      let r' := (s.ls n).exec p p.blocks.length ((s.ls n).cost) r
      if r'.bad then
        let b := (s.badAt n).getD s.now
        if b > r.deadline then s else (s.at_ b).nanRun n
      else if e > r.deadline then s
      else
        let s := s.at_ e
        if r.kind = .spec then
          let s := s.updRun n fun _ => { r' with kind := .parked, onPipe := none, done := (s.ls n).cost }
          if s.realsIn n || decide (s.now ≥ s.tLate n r) then s.readyStage n else s
        else
          let s := s.commitRun n p r' (s.runAbsent n r')
          if r.kind = .recompute then s.updLs n fun t => { t with recomputes := (t.recomputes + 1) % 2 ^ 32 } else s
  | _, _, _ => s

/-- D of the run of LS passes (R173): a run that has not ended by then is a miss. -/
def State.deadline (s : State) (n : Nat) : State :=
  match (s.ls n).run with
  | none => s
  | some r =>
    match s.badAt n with
    | some b => if b ≤ r.deadline then (s.at_ b).nanRun n else (s.at_ r.deadline).missRun n
    | none =>
      if (s.runEnd n).any fun e => decide (e ≤ r.deadline) then s
      else (s.at_ r.deadline).missRun n

/-! ### The commit stage (R190 to R200) -/

/-- The stage on pipe p that runs next: the one ready first, the lower slot on a tie of LOOP clocks (R200, R203). -/
def State.nextStage (s : State) (p : Nat) : Option Nat :=
  ((List.range 128).filter fun n => (s.ls n).pipe = some p && (s.ls n).run.any fun r => r.kind = .stage).foldl
    (fun a n => match a with
      | none => some n
      | some m =>
        let at' (k : Nat) : Nat := match (s.ls k).run with
          | some r => r.readyAt / s.tloop
          | none => 0
        if at' n < at' m then some n else some m) none

/-- The residual of predicted input p where its real sample counts (R192): r, with the sample and its status. -/
def State.residual (s : State) (n p : Nat) (r : LRun) : Option (Nat × Nat × Nat) :=
  let i := s.raInput n p
  match ((s.ls n).inp i).real with
  | none => none
  | some v =>
    if v.st = 0 || v.st = 3 || v.st = 5 || (v.st = 2 && s.inDist n i) then
      some (F32.sub v.v (r.yhat.getD p 0), v.v, v.st)
    else none

/-- Residuals in order up to the first outside its window: what was seen, and whether the run squashes. -/
def checkResiduals (s : State) (n : Nat) (r : LRun) : List Nat → List (Nat × Nat) × Bool
  | [] => ([], false)
  | p :: ps =>
    match s.residual n p r with
    | none => let q := checkResiduals s n r ps; ((p, 0) :: q.1, q.2)
    | some (d, _, _) =>
      if F32.gt (F32.abs d) (s.rd (Od.RA_WIN n p)) then ([(p, d)], true)
      else let q := checkResiduals s n r ps; ((p, d) :: q.1, q.2)

/-- The named MODEL takes its real sample: observer term, and ŷ_next afresh. -/
def correctModel (s : State) (n : Nat) (r0 r : LRun) (p : Nat) : LRun :=
  match s.residual n p r0 with
  | none => r
  | some (_, y, _) =>
    let t := s.ls n
    let b := s.raBlock n p
    let k := t.block b
    let a := k.arg
    let c := (t.bank.drop k.cb).take (blkCoefs k.typ k.n a)
    let cv := (c.drop (a * a + 2 * a)).take a
    let lv := (c.drop (a * a + 3 * a)).take a
    let e := F32.sub y (portOf r0.outs b 0)
    let x := (List.range a).map fun j => mad 0x10 (lv.getD j 0) e (r.st.getD (k.sb + j) 0)
    { r with st := splice r.st k.sb x, outs := r.outs.set b [portOf r0.outs b 0, dot 0x10 cv x] }

/-- A PLAUS block whose y is a predicted input takes the real sample. -/
def correctPlaus (s : State) (n : Nat) (r0 r : LRun) (b : Nat) : LRun :=
  let t := s.ls n
  let k := t.block b
  match s.raOf n (srcSel (k.srcs.getD 0 0)) with
  | none => r
  | some p =>
    match s.residual n p r0 with
    | none => r
    | some (_, y, st) =>
      let c := (t.bank.drop k.cb).take 5
      let (o, w) := blkPlaus y (srcVal t r0 (k.srcs.getD 1 0)) st c ((r.st.drop k.sb).take 3)
      { r with st := splice r.st k.sb w, outs := r.outs.set b o }

/-- The corrected inputs of the output blocks: x̂ + Σ G × r. -/
def correctPorts (s : State) (n : Nat) (r : LRun) (res : List (Nat × Nat)) : LRun :=
  let t := s.ls n
  let g := s.rd (Od.RA_GAIN_BASE n)
  let np := (s.raPreds n).length
  t.outPorts.zipIdx.foldl (fun r q =>
    let (b, i) := q.1
    let x0 := (r.outs.getD b []).getD i 0
    let x := res.foldl (fun a e => mad 0x20 (t.bank.getD (g + q.2 * np + e.1) 0) e.2 a) x0
    { r with outs := r.outs.set b ((r.outs.getD b []).set i x) }) r

/-- Residuals seen are recorded. -/
def State.noteResiduals (s : State) (n : Nat) (res : List (Nat × Nat)) : State :=
  s.updLs n fun t => res.foldl (fun t e => { t with
    resLast := t.resLast.set e.1 e.2
    resPeak := t.resPeak.set e.1 (F32.max (t.resPeak.getD e.1 0) (F32.abs e.2)) }) t

/-- A squash (R194 to R196): a recompute where it fits, else a hold. -/
def State.squash (s : State) (n : Nat) (p : LProg) (r : LRun) : State :=
  let run0 := (s.ls n).squashRun
  let s := s.updLs n fun t => { t with
    squashes := (t.squashes + 1) % 2 ^ 32, squashRun := min 255 (t.squashRun + 1), squashedSeen := true }
  let s : State := { s with le := { s.le with squashesAll := (s.le.squashesAll + 1) % 2 ^ 64 } }
  let most := s.rd (Od.RA_SQUASH_MAX n)
  let s := if run0 < most && (s.ls n).squashRun ≥ most then
      (s.updLs n fun t => { t with squashRunSeen := true }).raise Flt.LOOP_RA_SQUASH n else s
  if s.raRecompute n && decide (s.now + p.cost * s.tloop ≤ r.deadline) then
    s.updRun n fun r => { r with kind := .recompute, ready := true, start := none, onPipe := none, done := 0, outs := [] }
  else
    let s := s.updLs n fun t => { t with holds := (t.holds + 1) % 2 ^ 32, heldSeen := true }
    { s with le := { s.le with holdsAll := (s.le.holdsAll + 1) % 2 ^ 64 } }.missRun n

/-- The run on pipe p gives it up at the end of its block and has it again from local time e on (R200). -/
def State.makeWay (s : State) (p e : Nat) : State :=
  match s.occupant p with
  | none => s
  | some m => s.updRun m fun r => { r with done := s.progress r (s.blockEnd m s.now), onPipe := some e }

/-- What takes effect at local time e, seen from now: other pipes go on meanwhile. -/
def State.asAt (s : State) (e : Nat) (f : State → State) : State := { f (s.at_ e) with now := s.now }

/-- The next ready commit stage of pipe p runs from its start, the present clock then, to its end (R192 to R200). -/
def State.commitStage (s : State) (p : Nat) : State :=
  match s.nextStage p with
  | none => s
  | some n =>
    match (s.ls n).run, (s.ls n).prog with
    | some r, some pr =>
      let ready := if s.realsIn n && s.loopEdge r.readyAt = r.readyAt then r.readyAt + s.tloop else s.loopEdge r.readyAt
      let from' := max ready (s.pipeFree p)
      let s := match s.occupant p with
        | some m => match s.badAt m with
          | some b => if b ≤ s.blockEnd m from' && b ≤ s.dl m then ((s.at_ b).nanRun m).at_ from' else s.at_ (s.blockEnd m from')
          | none => s.at_ (s.blockEnd m from')
        | none => s.at_ from'
      let start := s.now
      let np := (s.raPreds n).length
      let (res, sq) := checkResiduals s n r (s.raPreds n)
      let checked := start + (16 + 4 * np) * s.tloop
      let e := if sq then checked else start + (s.ls n).raCost * s.tloop
      let s := s.makeWay p (min e r.deadline)
      let s : State := { s with le := { s.le with stageTill := s.le.stageTill.set p (min e r.deadline) } }
      if e > r.deadline then
        s.asAt r.deadline fun s => (if checked ≤ r.deadline then s.noteResiduals n res else s).missRun n
      else
        s.asAt e fun s =>
          let s := s.noteResiduals n res
          let s : State := { s with le := { s.le with raStageMax := max s.le.raStageMax ((e - r.readyAt) / 1000) } }
          if sq then s.squash n pr r
          else
            let r' := (s.raPreds n).foldl (correctModel s n r) r
            let r' := (s.raPlaus n).foldl (correctPlaus s n r) r'
            let r' := correctPorts s n r' res
            let bad := (s.ls n).outPorts.any fun q => !F32.finite ((r'.outs.getD q.1 []).getD q.2 0)
            if bad then s.nanRun n
            else
              let absent := s.runAbsent n r
              let s := s.updLs n fun t => { t with
                squashRun := 0, commits := (t.commits + 1) % 2 ^ 64
                inputs := t.inputs.mapIdx fun i x => match s.raOf n i, x.real with
                  | some _, some v => if v.st = 4 || v.st = 1 then x else { x with used := v.v }
                  | _, _ => x }
              s.commitRun n pr { r' with periods := s.cars.map (·.p) } absent
    | _, _ => s

/-- T_LATE of the parked run of LS passes: its stage becomes ready (R191). -/
def State.late (s : State) (n : Nat) : State :=
  match (s.ls n).run with
  | some r => if r.kind = .parked then (s.at_ (s.tLate n r)).readyStage n else s
  | none => s

/-! ### Intake (R160, R190) -/

/-- A queue entry for slot input i of RUNNING slot LS is placed. -/
def State.placeEntry (s : State) (n i : Nat) (e : QEntry) : State :=
  let usable := e.st = 0 || e.st = 2 || e.st = 3 || e.st = 5
  let s := if usable then s.updIn n i fun x => { x with fallback := e.value } else s
  if s.raOn n && (s.raOf n i).isSome then
    let old := ((s.ls n).inp i).real.isSome
    -- once the stage is ready an input without a real sample is ABSENT (R191); one that has one may be replaced
    let open' := (s.ls n).run.any fun r => r.start.any (fun t => decide (t / s.tloop < s.loopClk)) &&
      (r.kind = .spec || r.kind = .parked || (r.kind = .stage && old))
    let s := if !open' || old then s.updLs n fun t => { t with unmatched := (t.unmatched + 1) % 2 ^ 32 } else s
    if open' then
      let s := s.updIn n i fun x => { x with real := some ⟨e.value, e.st, s.loopClk⟩ }
      if (s.ls n).run.any (fun r => r.kind = .parked) && s.realsIn n then s.readyStage n else s
    else s
  else s.arrive n i e.value e.st

/-- The engine takes the oldest entry for it from the queue, one per LOOP clock (R141, R160). -/
def State.intake (s : State) : State :=
  match takeFirst (fun e => decide (e.dst < 128)) s.meas.queue with
  | none => s
  | some (x, rest) =>
    if !s.domOn domLoop then s
    else
      let s := match s.le.intakeClk with
        | some c => s.at_ ((c + 1) * s.tloop)
        | none => s
      let e := x.2
      let n := e.dst
      let s : State := { s with
        meas := { s.meas with queue := rest }.settle
        le := { s.le with intake := (s.le.intake + 1) % 2 ^ 64, intakeClk := some s.loopClk } }
      if (s.ls n).st ≠ .running then { s with meas := { s.meas with dstOff := (s.meas.dstOff + 1) % 2 ^ 32 } }
      else
        match (List.range 16).filter fun i => s.inKind n i = 1 && s.inSel n i = e.trig with
        | [] => s.updLs n fun t => { t with stray := (t.stray + 1) % 2 ^ 32 }
        | is => s.each is fun s i => s.placeEntry n i e

/-- The run of LS is ready: every WAIT input is new (R161). -/
def State.runReady (s : State) (n : Nat) : State :=
  if s.allNew n then s.updRun n fun r => { r with ready := true } else s

/-- LS_IN_TIMEOUT after the release the run of LS is ready whatever is missing (R161). -/
def State.inTimeout (s : State) (n : Nat) : State :=
  match (s.ls n).run with
  | some r =>
    if r.ready then s
    else (s.at_ (r.release + ns (s.rd (Od.LS_IN_TIMEOUT n)))).updRun n fun r => { r with ready := true }
  | none => s

/-! ### Deliveries (R59, R166) -/

/-- The earliest delivery completes in the leg timing shadows, with its commit request. -/
def State.deliver (s : State) : State :=
  match s.le.deliveries.foldl (fun a d => match a with
      | none => some d
      | some b => if d.due < b.due then some d else some b) none with
  | none => s
  | some d =>
    let s : State := { s with le := { s.le with deliveries := s.le.deliveries.erase d } }
    let s := s.at_ d.due
    let s := s.each d.vals fun s v => if v.2.1 then s.stagePhase v.1 v.2.2 else s.stageDuty v.1 v.2.2
    s.requestCommit d.car

/-! ### Commands and written entries (R174 to R176, R179) -/

/-- A fault source of LS stands at the collector: not CLEAR, or still waiting there. -/
def State.standing (s : State) (code inst : Nat) : Bool :=
  (s.flt.insts.any fun f => f.code = code && f.inst = inst && f.st ≠ .clear) ||
    s.flt.raised.any fun r => r.code = code && r.inst = inst

/-- State words of a program at RUN: the image's, with a PID at its initial output (R156), and a GRID_TRACK at W_NOM and in
SEARCH (R230). -/
def runWords (pr : LProg) (bank : List Nat) : List Nat :=
  pr.blocks.foldl (fun w b =>
    if b.typ = 0x08 then splice w b.sb [bank.getD (b.cb + 8) 0, 0, 0, 0]
    else if b.typ = 0x1A then splice (splice w (b.sb + 1) [bank.getD (b.cb + 2) 0]) (b.sb + 4) [0]
    else w) pr.state

/-- LS_CMD RUN. -/
def State.lsRun (s : State) (n : Nat) : Own :=
  let t := s.ls n
  if s.pipeTest (s.rd (Od.LS_PIPE n)) then .error abBusy
  else if t.st ≠ .loaded || t.pendStop then .error abState
  else if !s.raOk n || !s.windowOk n then .error abState
  else
    match s.pickPipe n, t.prog with
    | some p, some pr =>
      .ok (s.updLs n fun t => { t with
        st := .running, pipe := some p, run := none, words := runWords pr t.bank
        first := true, prev := [], fallbackNext := true, raCost := s.raCostOf n, resync := false, pendResume := false
        inputs := t.inputs.map fun x => { x with real := none } })
    | _, _ => .error abState

/-- LS_CMD STOP and HOLD: at once where no run is in progress; a parked result is discarded (R179, R203). A STOP takes the
place of a HOLD that waits for the run's end; while a STOP waits, both are refused. -/
def State.lsLeave (s : State) (n : Nat) (stop : Bool) : Own :=
  let t := s.ls n
  if t.pendStop then .error abBusy
  else if !(t.st = .running || (stop && t.st = .holding)) then .error abState
  else
    let s := s.updLs n fun t => { t with pendStop := stop, pendHold := !stop }
    let s := if t.run.any fun r => r.kind = .parked || r.kind = .stage || (r.start.isNone && r.kind ≠ .recompute)
      then s.dropRun n else s
    .ok (s.settleCmd n)

/-- LS_CMD RESUME: it takes effect at the next release. A slot that never ran since its load takes a pipe as at RUN (log
entry 178). -/
def State.lsResume (s : State) (n : Nat) : Own :=
  let t := s.ls n
  if t.st ≠ .holding || t.pendStop then .error abState
  else if s.standing Flt.LOOP_INPUT n || s.standing Flt.LOOP_MISS_RUN n || s.standing Flt.LOOP_ECC_U n then .error abState
  else match t.pipe with
    | some _ => .ok (s.updLs n fun t => { t with pendResume := true })
    | none =>
      if !s.raOk n || !s.windowOk n then .error abState
      else match s.pickPipe n with
        | some p => .ok (s.updLs n fun t => { t with pendResume := true, pipe := some p, raCost := s.raCostOf n })
        | none => .error abState

/-- LS_CMD UNLOAD. -/
def State.lsUnload (s : State) (n : Nat) : Own :=
  if (s.ls n).st ≠ .loaded then .error abState
  else .ok (s.updLs n fun t => { t with
    st := .empty, prog := none, bankA := [], bankB := [], act := 0, swap := false, words := [], prev := [] })

/-- LS_CMD by its code. -/
def State.ownLsCmd (s : State) (n v : Nat) : Own :=
  match v with
  | 1 => s.lsRun n
  | 2 => s.lsLeave n true
  | 3 => s.lsLeave n false
  | 4 => s.lsResume n
  | 5 => s.lsUnload n
  | _ => .error abRange

/-- LS_BANK_SWAP (R175). -/
def State.ownSwap (s : State) (n : Nat) : Own :=
  let t := s.ls n
  if t.st = .empty then .error abState
  else if t.st = .running then .ok (s.updLs n fun t => { t with swap := true })
  else .ok (s.updLs n fun t => { t with act := 1 - t.act })

/-- LS_COEF_IMAGE (R174). -/
def State.ownCoefImage (s : State) (n : Nat) (d : List Byte) : Own :=
  let t := s.ls n
  if t.st ≠ .empty && d.length ≠ 4 * t.bank.length then .error abLength
  else if t.swap then .error abBusy
  else if t.st = .empty then .error abState
  else .ok (s.updLs n fun t => t.setOther (leWords d 0 t.bank.length))

/-- LS_COEF_ADDR after an access to LS_COEF_WORD. -/
def State.bumpAddr (s : State) (n : Nat) : State :=
  let nc := (s.ls n).bank.length
  s.wr (Od.LS_COEF_ADDR n) (if nc = 0 then 0 else (s.rd (Od.LS_COEF_ADDR n) + 1) % nc)

/-- LS_COEF_WORD (R174). -/
def State.ownCoefWord (s : State) (n v : Nat) : Own :=
  let t := s.ls n
  let a := s.rd (Od.LS_COEF_ADDR n)
  if t.swap then .error abBusy
  else if t.st = .empty || a ≥ t.bank.length then .error abState
  else .ok ((s.updLs n fun t => t.setOther (t.other.set a v)).bumpAddr n)

/-- LS_COEF_DIRECT (R176): between two block executions of the slot. -/
def State.ownDirect (s : State) (n v : Nat) : Own :=
  let t := s.ls n
  let a := v % 2 ^ 16
  if t.st = .empty then .error abState
  else if a ≥ t.bank.length then .error abRange
  else .ok ((s.advance n).updLs n fun t =>
    { t.setWord a (v / 2 ^ 32 % 2 ^ 32) with directs := (t.directs + 1) % 2 ^ 32, directSeen := true })

/-- An entry of 0x3000+LS that is refused while the slot is RUNNING or HOLDING. -/
def State.ownLsCfg (s : State) (n : Nat) (r : Reg) (v : Nat) : Own :=
  if (s.ls n).st = .running || (s.ls n).st = .holding then .error abState else .ok (s.wr r v)

/-- LS_RELEASE: reserved kinds and events of the TRG_SRC layout are refused. -/
def State.ownRelease (s : State) (n v : Nat) : Own :=
  s.ownLsCfg n (Od.LS_RELEASE n) v

/-- LS_IN (R159): EMPTY or LOADED only; reserved kinds, and a selector that names nothing, are refused. -/
def State.ownLsIn (s : State) (n i v : Nat) : Own :=
  let sel := bits v 31 16
  let k := bits v 3 0
  if (k = 1 && sel ≥ 128) || (k = 2 && sel ≥ 1024) || (k = 6 && !fbChannels.contains sel) || ((k = 0 || k = 4 || k = 5) && sel ≠ 0)
    then .error abRange
  else match s.ownLsCfg n (Od.LS_IN n i) v with
    | .ok s => .ok (s.updIn n i fun _ => {})
    | e => e

/-- LS_IN_TIMEOUT lies below W on a slot that is RUNNING or HOLDING (R169). -/
def State.ownInTimeout (s : State) (n v : Nat) : Own :=
  let s' := s.wr (Od.LS_IN_TIMEOUT n) v
  if ((s.ls n).st = .running || (s.ls n).st = .holding) && !s'.windowOk n then .error abRange else .ok s'

/-- LS_IN_VAL: NaN and infinity are refused. -/
def State.ownInVal (s : State) (n i v : Nat) : Own := if F32.finite v then .ok (s.hostIn n i v) else .error abRange

/-- RA_CTRL, RA_N_PRED, RA_PRED, RA_GAIN_BASE (R187), RA_PRED of p at or above RA_N_PRED (R206). -/
def State.ownRa (s : State) (n : Nat) (r : Reg) (v : Nat) : Own := s.ownLsCfg n r v
def State.ownRaPred (s : State) (n p : Nat) (r : Reg) (v : Nat) : Own :=
  if p ≥ s.rd (Od.RA_N_PRED n) then (if v ≠ 0 then .error abRange else .ok s)
  else if r.key = (Od.RA_PRED n p).key then s.ownLsCfg n r v
  else if !(F32.gt v 0 && F32.finite v) then .error abRange
  else .ok (s.wr r v)

/-- LS_STATUS_CLR. -/
def State.ownLsStatusClr (s : State) (n v : Nat) : Own :=
  .ok (s.updLs n fun t => { t with
    missSeen := t.missSeen && !v.testBit 0, absentSeen := t.absentSeen && !v.testBit 1, nanSeen := t.nanSeen && !v.testBit 2
    plausSeen := t.plausSeen && !v.testBit 3, directSeen := t.directSeen && !v.testBit 4
    unboundSeen := t.unboundSeen && !v.testBit 5, eccSeen := t.eccSeen && !v.testBit 7 })

/-- RA_STATUS_CLR. -/
def State.ownRaStatusClr (s : State) (n v : Nat) : Own :=
  .ok (s.updLs n fun t => { t with
    squashedSeen := t.squashedSeen && !v.testBit 0, squashRunSeen := t.squashRunSeen && !v.testBit 1
    heldSeen := t.heldSeen && !v.testBit 2
    resPeak := if v.testBit 8 then List.replicate 4 0 else t.resPeak })

/-- An ECC error in the LOOP SRAM of LS (R182): corrected, or the run is abandoned and the slot holds. -/
def State.loopEcc (s : State) (n : Nat) (correctable : Bool) : State :=
  let s := s.updLs n fun t => { t with eccSeen := true }
  if correctable then
    { s with le := { s.le with eccC := (s.le.eccC + 1) % 2 ^ 32 } }.raise Flt.LOOP_ECC_C n
  else
    let s := if (s.ls n).run.isSome then s.missRun n else s
    ((s.toHolding n).raise Flt.LOOP_ECC_U n).settleCmd n

/-! ### What the status entries read -/

/-- LS_STATE and LS_STATUS. -/
def LsState.code : LsState → Nat
  | .empty => 0 | .loaded => 1 | .running => 2 | .holding => 3

/-- A PLAUS flag of the slot is 1.0 now. -/
def LoopSlot.plausNow (t : LoopSlot) : Bool := t.blocks.any fun b => b.typ = 0x11 && !F32.isZero (t.words.getD (b.sb + 2) 0)

/-- LS_STATUS (R184); bit 6: a source domain is off now. -/
def State.lsStatus (s : State) (n : Nat) : Nat :=
  let t := s.ls n
  packBits [t.missSeen, t.absentSeen, t.nanSeen, t.plausSeen, t.directSeen, t.unboundSeen, s.inputsOff n ≠ [], t.eccSeen, t.plausNow]

/-- RA_STATUS. -/
def LoopSlot.raStatus (t : LoopSlot) : Nat :=
  packBits [t.squashedSeen, t.squashRunSeen, t.heldSeen, t.run.any fun r => r.kind = .parked || r.kind = .stage, t.fallbackNext]

end Sys2Proof.Machine
end

