-- ==== Sys2Proof/Machine/LvOps.lean ====
section
/-! DEFINITION. The LV port (09): comparators, bus supervision, AC angles, the drive sequencer, the chopper, the fast
overvoltage cut, and the entries of both groups. -/

namespace Sys2Proof.Machine

/-- LVP_KIND of entry E: 1 drive, 2 DC bus, 3 AC bus. -/
def State.lvKind (s : State) (e : Nat) : Nat := s.rd (Od.LVP_KIND e)

/-- The units that name entry E. -/
def State.lvUnits (s : State) (e : Nat) : List (Nat × Nat) := s.allUnits.filter fun cu => s.rd (Od.UNIT_LV cu.1 cu.2) = e

/-- The drive and AC bus entries on bus B, and their inverter units. -/
def State.busEntries (s : State) (b : Nat) : List Nat :=
  (List.range 64).filter fun e => (s.lvKind e = 1 || s.lvKind e = 3) && s.rd (Od.LVP_BUS e) = b
def State.busInverters (s : State) (b : Nat) : List (Nat × Nat) := (s.busEntries b).flatMap s.lvUnits

/-- The loop slot bound to a unit. -/
def State.unitLoop (s : State) (c u : Nat) : Option Nat :=
  let n := s.rd (Od.UNIT_LOOP c u)
  if n < 128 then some n else none

/-! ### Comparators (R239, R240) -/

/-- Comparator A, and comparator A changed. -/
def State.cmp (s : State) (a : Nat) : LvComp := s.lv.comps.getD a {}
def State.updCmp (s : State) (a : Nat) (f : LvComp → LvComp) : State :=
  { s with lv := { s.lv with comps := s.lv.comps.modify a f } }

/-- ENABLE set, FEED on and VDDA_ADC in range (R496). -/
def State.cmpOn (s : State) (a : Nat) : Bool := (s.rd (Od.LVC_CTRL a)).testBit 0 && s.domOn domFeed && s.adcOn

/-- A threshold as it decides now: a write takes effect 1 µs after it completes; bits [5:0] are ignored (R239). -/
def State.cmpThr (s : State) (a : Nat) (r : Reg) (hyst : Bool) : Int :=
  let v := match (s.cmp a).old.find? fun o => o.1 = r.key % 256 && decide (s.now < o.2.2) with
    | some o => o.2.1
    | none => s.rd r
  if hyst then (v / 64 * 64 : Nat) else toSigned 16 v / 64 * 64

/-- A threshold of comparator A is written. -/
def State.ownCmpThr (s : State) (a : Nat) (r : Reg) (v : Nat) : Own :=
  let old := match (s.cmp a).old.find? fun o => o.1 = r.key % 256 && decide (s.now < o.2.2) with
    | some o => o.2.1
    | none => s.rd r
  let keep := (s.cmp a).old.filter fun o => o.1 ≠ r.key % 256 && decide (s.now < o.2.2)
  .ok ((s.updCmp a fun x => { x with old := (r.key % 256, old, s.now + us 1) :: keep }).wr r v)

/-- The lines of comparator A after the input stands at code v (R239). -/
def State.compareCmp (s : State) (a : Nat) (v : Int) : State :=
  if s.cmpOn a then
    let hi := s.cmpThr a (Od.LVC_HI a) false
    let lo := s.cmpThr a (Od.LVC_LO a) false
    let hy := s.cmpThr a (Od.LVC_HYST a) true
    s.updCmp a fun x => { x with
      hi := if x.hi then decide (v ≥ hi - hy) else decide (v ≥ hi)
      lo := if x.lo then decide (v ≤ lo + hy) else decide (v ≤ lo) }
  else s.updCmp a fun x => { x with hi := false, lo := false }

/-- Code v lies beyond a trip threshold of A. -/
def State.cmpBeyond (s : State) (a : Nat) (v : Int) : Bool :=
  decide (v ≥ s.cmpThr a (Od.LVC_TRIP_HI a) false) || decide (v ≤ s.cmpThr a (Od.LVC_TRIP_LO a) false)

/-- The units with a leg that names comparator A. -/
def State.cmpUnits (s : State) (a : Nat) : List (Nat × Nat) :=
  s.allUnits.filter fun cu => (s.unitLegIds cu.1 cu.2).any fun l => s.rd (Od.LEG_PKL_SRC l) = 0x80 + a

/-- A trip of comparator A, the input having stood at code v since local time t (R240). -/
def State.cmpTrip (s : State) (a : Nat) (v : Int) (t : Nat) : State :=
  if s.cmpOn a && s.cmpBeyond a v && !(s.cmp a).trip then
    let s := s.upTo (t + ns (s.rd (Od.LVC_TRIP_DGL a)) + ns 150)
    let s := s.updCmp a fun x => { x with trip := true, tripSeen := true, trips := (x.trips + 1) % 2 ^ 32 }
    let s := s.raise Flt.LV_OC_TRIP a
    if (s.rd (Od.LVC_CTRL a)).testBit 1 then
      s.each (s.cmpUnits a) fun s cu => s.safeOffUnit cu.1 cu.2 Flt.LV_OC_TRIP false
    else s
  else s

/-- The input of A stands at code v: a trip ends once it lies between the thresholds (R240). -/
def State.cmpRelease (s : State) (a : Nat) (v : Int) : State :=
  if (s.cmp a).trip && !s.cmpBeyond a v then s.updCmp a fun x => { x with trip := false } else s

/-- The units with a leg that selects an LV comparator (R241). -/
def State.allCmpUnits (s : State) : List (Nat × Nat) :=
  s.allUnits.filter fun cu => (s.unitLegIds cu.1 cu.2).any fun l => decide (s.rd (Od.LEG_PKL_SRC l) ≥ 0x80)

/-- LVC_CTRL: refused unless every such unit is STOPPED (R241). -/
def State.ownCmpCtrl (s : State) (a v : Nat) : Own :=
  if s.allCmpUnits.any fun cu => s.ust cu.1 cu.2 ≠ .stopped then .error abState
  else
    let s := s.wr (Od.LVC_CTRL a) v
    .ok (if v.testBit 0 then s else s.updCmp a fun x => { x with hi := false, lo := false, trip := false })

/-- LVC_STATUS_CLR. -/
def State.ownCmpClr (s : State) (a v : Nat) : Own :=
  .ok (s.updCmp a fun x => { x with tripSeen := x.tripSeen && !v.testBit 3 })

/-- LVC_STATUS. -/
def State.cmpStatus (s : State) (a : Nat) : Nat :=
  let x := s.cmp a
  packBits [s.cmpOn a && x.hi, s.cmpOn a && x.lo, s.cmpOn a && x.trip, x.tripSeen]

/-! ### The DC bus (R242 to R248) -/

/-- The chopper unit of bus B (R248). -/
def State.chopper (s : State) (b : Nat) : Option (Nat × Nat) :=
  (s.lvUnits b).find? fun cu => s.rd (Od.UNIT_FN cu.1 cu.2) = 2

/-- The slot of a unit is RUNNING. -/
def State.loopRuns (s : State) (cu : Nat × Nat) : Bool := match s.unitLoop cu.1 cu.2 with
  | some n => (s.ls n).st = .running
  | none => false

/-- The chopper is absent. -/
def State.chopAbsent (s : State) (b : Nat) : Bool := match s.chopper b with
  | some cu => !(s.ust cu.1 cu.2 = .active && s.loopRuns cu)
  | none => true

/-- The bus voltage of R242; none while its input is unusable. -/
def State.busV (s : State) (b : Nat) : Option Nat :=
  let m := s.rd (Od.LVB_VIN b)
  if m < 96 && s.mdOn m && !s.mdFault m then
    some (linkV (s.rd (Od.MD_GAIN m)) (s.rd (Od.MD_OFFSET m)) (s.md m).fast)
  else none

/-- The state of bus B by R243, first row first; a state persists while its condition shifted by LVB_HYST holds. -/
def State.busJudge (s : State) (b : Nat) (v : Option Nat) : Nat :=
  let st := (s.lvE b).bus
  let hy := s.rd (Od.LVB_HYST b)
  let x := v.getD 0
  let above (thr code : Nat) : Bool := F32.ge x (if st = code then F32.sub thr hy else thr)
  let below (thr code : Nat) : Bool := F32.le x (if st = code then F32.add thr hy else thr)
  let noChop := s.chopAbsent b || (s.lvE b).chopFault
  if v.isNone || above (s.rd (Od.LVB_OV2 b)) 3 then 3
  else if below (s.rd (Od.LVB_UV2 b)) 5 then 5
  else if above (s.rd (Od.LVB_OV1 b)) 2 && noChop then 2
  else if above (s.rd (Od.LVB_OV1 b)) 1 then 1
  else if below (s.rd (Od.LVB_UV1 b)) 4 then 4
  else 0

/-- What bus B does at a cell-cycle boundary (R242 to R246). -/
def State.busTick (s : State) (b : Nat) : State :=
  let v := s.busV b
  let old := s.lvE b
  let st := s.busJudge b v
  let s := s.updLv b fun x => { x with bus := st, v := v.getD x.v, vinBad := v.isNone }
  let s := if v.isNone && !old.vinBad then s.raise Flt.LV_VIN b else s
  -- the state code to every drive on the bus
  let s := s.each (s.busEntries b) fun s d =>
    let i := s.rd (Od.DRV_BUS_IN d)
    if s.lvKind d = 1 && i < 16 then
      s.each (s.lvUnits d) fun s cu => match s.unitLoop cu.1 cu.2 with
        | some n => s.hostIn n i (fint st)
        | none => s
    else s
  let entered (code : Nat) : Bool := st = code && old.bus ≠ code
  -- a START that is still pending is part of the start sequence and ends with it (R255)
  let stopAll (s : State) : State := s.each (s.busInverters b) fun s cu => (s.discardStart cu.1 cu.2).stopUnit cu.1 cu.2
  let s := if entered 3 then
      ((stopAll s).updLv b fun x => { x with ov2Seen := true, ov2s := (x.ov2s + 1) % 2 ^ 32 }).raise Flt.LV_OV2 b else s
  let s := if entered 5 then
      ((stopAll s).updLv b fun x => { x with uv2Seen := true, uv2s := (x.uv2s + 1) % 2 ^ 32 }).raise Flt.LV_UV2 b else s
  let s := if entered 4 then s.raise Flt.LV_UV1 b else s
  let s := if entered 2 then
      let s := (s.updLv b fun x => { x with lostSeen := true }).raise Flt.LV_BRAKE_LOST b
      { s with lv := { s.lv with brakeLost := (s.lv.brakeLost + 1) % 2 ^ 32 } } else s
  let absent := !((List.range 32).any fun c => (s.rd (Od.LVB_FEED b)).testBit c &&
    (s.units c).any fun u => s.ust c u = .active || s.ust c u = .spare)
  let s := s.updLv b fun x => { x with mvAbsent := absent }
  if absent && !old.mvAbsent then s.raise Flt.LV_MV_ABSENT b else s

/-- A cut of bus B while its fast overvoltage line asserts (R247): every ACTIVE inverter unit on it is decided upon. A bus
without one has no cut. -/
def State.ov3Decide (s : State) (b : Nat) : State :=
  let us := (s.busInverters b).filter fun cu => s.ust cu.1 cu.2 = .active
  if us = [] then s
  else
    let s := s.each us fun s cu => s.safeOffUnit cu.1 cu.2 Flt.LV_OV3 false
    let s := (s.updLv b fun x => { x with ov3Seen := true }).raise Flt.LV_OV3 b
    { s with lv := { s.lv with ov3Cuts := (s.lv.ov3Cuts + 1) % 2 ^ 32 } }

/-- The fast overvoltage line of bus B asserts (R247). -/
def State.ov3Cut (s : State) (b : Nat) : State := (s.updLv b fun x => { x with ov3 := true }).ov3Decide b

/-- A unit has become ACTIVE: where the line of its bus asserts, the decision reaches it too. -/
def State.ov3Join (s : State) (c u : Nat) : State :=
  let e := s.rd (Od.UNIT_LV c u)
  let b := s.rd (Od.LVP_BUS e)
  if e < 64 && (s.lvKind e = 1 || s.lvKind e = 3) && b < 64 && (s.lvE b).ov3 then s.ov3Decide b else s

/-! ### A trip of a modulator input (R121) -/


/-- A trip of input M asserts: v has lain beyond a threshold for MD_TRIP_DGL clocks. `stream` holds the bits captured
since the filter restarted, or as many as matter, the last of them at t. -/
def State.mdTrip (s : State) (m t : Nat) (stream : List Bool) : State :=
  let s := s.upTo t
  let n := (s.mdThr m (Od.MD_TRIP_DGL m) false).toNat
  if s.mdOn m && !(s.md m).trip && stream.length ≥ n &&
      (List.range n).all (fun j => s.mdBeyond m (s.mdFast m (stream.take (stream.length - j)))) && n > 0 then
    let v := s.mdFast m stream
    let s := s.mdPublish m stream
    let s := s.updMd m fun x => { x with
      v := v, trip := true, tripSeen := true, trips := (x.trips + 1) % 2 ^ 32 }
    let s := s.raise Flt.MD_TRIP m
    match s.rd (Od.MD_TRIP_ACT m) with
    | 1 => s.each (s.units (m / 3)) fun s u => s.safeOffUnit (m / 3) u Flt.MD_TRIP false
    | 2 => s.each (s.busesOn m) fun s b => s.ov3Cut b
    | _ => s
  else s

/-- v of input M lies back between the trip thresholds: the trip and the fast overvoltage line end. -/
def State.mdTripEnd (s : State) (m t : Nat) (stream : List Bool) : State :=
  let s := s.upTo t
  let v := s.mdFast m stream
  if (s.md m).trip && !s.mdBeyond m v then ((s.mdPublish m stream).updMd m fun x => { x with v := v }).endTrip m
  else s

/-! ### The AC bus (R250) -/

/-- θ of AC bus E at system time T (R250): F64 operations in the order of the formula, rounded to F32 (log entry 74). -/
def State.acTheta (s : State) (e T : Nat) : Nat :=
  let f := s.rd (Od.ACB_FREQ e)
  let a := F32.round64 (mkRat (f * (sysS T % 1000)) 1000)
  let b := F32.round64 (mkRat (f * sysNs T) 1000000000000)
  F32.ofQ (rfrac (F32.round64 (F32.round64 (a + b) + F32.toRat (s.rd (Od.ACB_PHASE e)))))

/-- θ of every AC bus entry goes to the slots of its units. -/
def State.acTick (s : State) (e : Nat) : State :=
  let i := s.rd (Od.ACB_THETA_IN e)
  if i < 16 then
    s.each (s.lvUnits e) fun s cu => match s.unitLoop cu.1 cu.2 with
      | some n => s.hostIn n i (s.acTheta e s.sysNow)
      | none => s
  else s

/-! ### Drives (R251, R252) -/

/-- A force the sequencer places on the legs of a unit, at each leg's next reload point. -/
def State.drvForce (s : State) (c u v : Nat) : State :=
  s.each (s.unitLegIds c u) fun s l =>
    if s.rd (Od.LEG_FORCE l) = v then s else (s.wr (Od.LEG_FORCE l) v).forceLeg l (forceOf v) false

/-- The blocks of a drive exist in the RUNNING slot of its unit (R251). -/
def State.drvBlocksOk (s : State) (e : Nat) (cu : Nat × Nat) : Bool :=
  match s.unitLoop cu.1 cu.2 with
  | none => false
  | some n =>
    let t := s.ls n
    let cm := s.rd (Od.DRV_CM_BLOCK e); let fs := s.rd (Od.DRV_FS_BLOCK e)
    t.st = .running && decide (cm < t.blocks.length) && (t.block cm).typ = 0x1B &&
      (fs = 0xFFFF || (decide (fs < t.blocks.length) && (t.block fs).typ = 0x1C))

/-- An accepted START of a unit that serves a drive: the start sequence begins (R251). -/
def State.drvBegin (s : State) (c u : Nat) : State :=
  match s.driveOf c u with
  | none => s
  | some e =>
    let s := s.updLv e fun x => { x with drv := .starting, ran := false, listen := none, starts := (x.starts + 1) % 2 ^ 32 }
    if s.rd (Od.DRV_FS_BLOCK e) = 0xFFFF then s else s.drvForce c u 1

/-- The unit of a drive is enabled: the named blocks are reloaded at the first run released from then on (R251). -/
def State.drvEnabled (s : State) (c u : Nat) : State :=
  match s.driveOf c u, s.unitLoop c u with
  | some e, some n =>
    let fs := s.rd (Od.DRV_FS_BLOCK e)
    let bs := s.rd (Od.DRV_CM_BLOCK e) :: (if fs = 0xFFFF then [] else [fs])
    s.updLs n fun t => { t with reload := t.reload ++ bs, reloadAt := s.now }
  | _, _ => s

/-- A drive fails: its unit stops, the entry is FAULTED (R252). -/
def State.drvFail (s : State) (e : Nat) (cu : Nat × Nat) : State :=
  let ran := (s.lvE e).ran
  let s := s.stopUnit cu.1 cu.2
  let s := s.updLv e fun x => { x with drv := .faulted, listen := none, fails := (x.fails + 1) % 2 ^ 32 }
  s.raise (if ran then Flt.LV_DRV_LOST else Flt.LV_DRV_START) e

/-- The force of a FLYSTART phase (R252). -/
def phaseForce (ph : Nat) : Nat := if ph = 0 || ph = 3 || ph = 7 then 1 else if ph = 2 then 3 else 0

/-- The code of a port that shows a phase or a mode. -/
def portCode (v : Nat) : Nat := (F32.floor v).toNat

/-- The sequencer after a run of slot LS, which stood at `old` before it, for one drive (R252, R254): it reads phase, mode,
speed and decision after each run, and acts on them once the unit is enabled and its blocks have been reloaded (R251). -/
def State.drvStep (s : State) (n e : Nat) (cu : Nat × Nat) (old : LoopSlot) : State :=
  let x := s.lvE e
  let t := s.ls n
  let fs := s.rd (Od.DRV_FS_BLOCK e); let cm := s.rd (Od.DRV_CM_BLOCK e)
  let named := fs ≠ 0xFFFF
  let isFs := decide (fs < t.blocks.length) && (t.block fs).typ = 0x1C
  let isCm := decide (cm < t.blocks.length) && (t.block cm).typ = 0x1B
  let ph := if isFs then portCode (portOf t.prev fs 3) else 0xFF
  let mode := if isCm then portCode (portOf t.prev cm 2) else 0xFF
  -- the phase this run began with: LISTEN where its blocks were reloaded
  let was := if old.reload ≠ [] && t.reload = [] then 0 else old.words.getD ((t.block fs).sb + 3) 0
  let cnt := t.words.getD ((t.block fs).sb + 4) 0
  let lock := t.bank.getD ((t.block fs).cb + 7) 0
  let decided := isFs && was = 0 && (ph = 1 || ph = 2 || ph = 4 || (ph = 5 && decide (cnt ≥ lock)))
  let dirF := portOf t.prev fs 2
  let act := (x.drv = .starting || x.drv = .running) && (s.ust cu.1 cu.2).live && t.reload = []
  let done := act && mode = 3 && (!named || ph = 6)
  let s := s.updLv e fun x => { x with
    phase := ph, mode := mode
    speed := if isCm then F32.div (portOf t.prev cm 1) (F32.ofRat (s.relInterval n) 1000000000000) else x.speed
    dir := if decided then (if F32.gt dirF 0 then 1 else if F32.lt dirF 0 then -1 else 0) else x.dir
    catches := if decided && ph = 1 then (x.catches + 1) % 2 ^ 32 else x.catches
    reversals := if decided && (ph = 2 || ph = 4) then (x.reversals + 1) % 2 ^ 32 else x.reversals
    listen := if act && ph = 0 then x.listen.orElse fun _ => some s.sysNow else none
    drv := if done && x.drv = .starting then .running else x.drv
    ran := x.ran || (done && x.drv = .starting) }
  let s : State := if decided then { s with lv := { s.lv with decisions := (s.lv.decisions + 1) % 2 ^ 32 } } else s
  let s := if act && isFs then s.drvForce cu.1 cu.2 (phaseForce ph) else s
  -- FLYSTART FAIL and COMMUTATE FAIL in one run are one stop (R255)
  if act && (ph = 7 || mode = 5) then s.drvFail e cu else s

/-- A chopper's fault output after a run of slot LS, which stood at `old` before it: in the run in which it becomes 1.0
(R248). -/
def State.chopStep (s : State) (n e : Nat) (cu : Nat × Nat) (old : LoopSlot) : State :=
  let b := s.rd (Od.LVB_CH_BLOCK e)
  let t := s.ls n
  if b < t.blocks.length && (t.block b).typ = 0x1D && portOf t.prev b 1 = F32.one && portOf old.prev b 1 ≠ F32.one then
    ((s.updLv e fun x => { x with chopFault := true }).stopUnit cu.1 cu.2).raise Flt.LV_CHOPPER e
  else s

/-- What the LV port does after a completed run of slot LS, which stood at `old` before it. -/
def State.lvAfterRun (s : State) (n : Nat) (old : LoopSlot) : State :=
  s.each (s.allUnits.filter fun cu => s.unitLoop cu.1 cu.2 = some n) fun s cu =>
    let e := s.rd (Od.UNIT_LV cu.1 cu.2)
    if e < 64 && s.lvKind e = 1 then s.drvStep n e cu old
    else if e < 64 && s.lvKind e = 2 && s.rd (Od.UNIT_FN cu.1 cu.2) = 2 then s.chopStep n e cu old
    else s

/-! ### What refuses a START (R238, R241, R244, R251) -/

/-- START of a unit is allowed by the LV port. -/
def State.lvStartOk (s : State) (c u : Nat) : Bool :=
  let e := s.rd (Od.UNIT_LV c u)
  let usesCmp := (s.unitLegIds c u).any fun l => s.rd (Od.LEG_PKL_SRC l) ≥ 0x80
  (!usesCmp || s.domOn domFeed) &&
    (if e < 64 && (s.lvKind e = 1 || s.lvKind e = 3) then
      let b := s.rd (Od.LVP_BUS e)
      decide (b < 64) && s.lvKind b = 2 && (s.lvE b).bus ≠ 3 && (s.lvE b).bus ≠ 5 &&
        (s.lvKind e ≠ 1 || ((s.lvE e).drv ≠ .faulted && s.drvBlocksOk e (c, u)))
    else true)

/-! ### Written entries -/

/-- UNIT_LV (R42, R238). -/
def State.unitLvOk (s : State) (c u v : Nat) : Bool :=
  if v = 0xFF then true
  else if v ≥ 64 then false
  else
    let k := s.lvKind v
    let others := (s.lvUnits v).filter fun x => x ≠ (c, u)
    let fn := s.rd (Od.UNIT_FN c u)
    if fn = 2 then k = 2 && !(others.any fun x => s.rd (Od.UNIT_FN x.1 x.2) = 2)
    else if s.tmpl c = 3 then (k = 1 && others = []) || k = 3
    else false

/-- Every unit that names the entry is STOPPED (R238). -/
def State.lvIdle (s : State) (e : Nat) : Bool := (s.lvUnits e).all fun cu => s.ust cu.1 cu.2 = .stopped

/-- The kinds of entry that a sub belongs to (R259). -/
def lvSubKinds (sub : Nat) : List Nat :=
  if sub = 2 then [1, 3] else if 0x10 ≤ sub && sub ≤ 0x1A then [1] else if 0x20 ≤ sub && sub ≤ 0x2A then [2]
  else if 0x30 ≤ sub && sub ≤ 0x32 then [3] else [0, 1, 2, 3]

/-- The order of the bus levels (R243). -/
def State.busOrder (s : State) (e : Nat) : Bool :=
  let uv2 := s.rd (Od.LVB_UV2 e); let uv1 := s.rd (Od.LVB_UV1 e)
  let ov1 := s.rd (Od.LVB_OV1 e); let ov2 := s.rd (Od.LVB_OV2 e)
  F32.lt uv2 uv1 && F32.lt uv1 ov1 && F32.lt ov1 ov2 && F32.lt (s.rd (Od.LVB_HYST e)) (F32.sub ov2 ov1)

/-- A writable entry of 0x3440+E (R238, R243, R259). -/
def State.ownLv (s : State) (e : Nat) (r : Reg) (v : Nat) : Own :=
  let sub := r.key % 256
  let tied := sub ≤ 2 || (0x10 ≤ sub && sub ≤ 0x12) || (0x20 ≤ sub && sub ≤ 0x22) || (0x30 ≤ sub && sub ≤ 0x32)
  if !(lvSubKinds sub).contains (s.lvKind e) then .error abAccess
  else if tied && !s.lvIdle e then .error abState
  else
    let s' := s.wr r v
    if 0x23 ≤ sub && sub ≤ 0x27 && !s'.busOrder e then .error abRange
    else .ok s'

/-- LVP_STATUS_CLR. -/
def State.ownLvClr (s : State) (e v : Nat) : Own :=
  .ok (s.updLv e fun x => { x with
    ov3Seen := x.ov3Seen && !v.testBit 4, ov2Seen := x.ov2Seen && !v.testBit 5, uv2Seen := x.uv2Seen && !v.testBit 6
    lostSeen := x.lostSeen && !v.testBit 7 })

/-! ### Status -/

/-- LVP_STATE. -/
def State.lvState (s : State) (e : Nat) : Nat :=
  match s.lvKind e with
  | 1 => match (s.lvE e).drv with
    | .stopped => 0 | .starting => 1 | .running => 2 | .faulted => 3
  | 2 => (s.lvE e).bus
  | 3 => b2n ((s.lvUnits e).any fun cu => s.ust cu.1 cu.2 = .active)
  | _ => 0

/-- The sequencer holds a force on the legs of drive E. -/
def State.forceHeld (s : State) (e : Nat) : Bool :=
  s.lvKind e = 1 && ((s.lvE e).drv = .starting || (s.lvE e).drv = .running) &&
    (s.lvUnits e).any fun cu => (s.unitLegIds cu.1 cu.2).any fun l => s.rd (Od.LEG_FORCE l) ≠ 0

/-- LVP_STATUS. -/
def State.lvStatus (s : State) (e : Nat) : Nat :=
  let x := s.lvE e
  let bus := s.lvKind e = 2
  packBits [x.chopFault, x.mvAbsent, bus && s.chopAbsent e, x.vinBad, x.ov3Seen, x.ov2Seen, x.uv2Seen, x.lostSeen, s.forceHeld e]

/-- LVP_CMD_STATUS. -/
def State.lvCmdSt (s : State) (e : Nat) : CmdSt :=
  let x := s.lvE e
  if x.viaSlot then match s.lvUnits e with
    | cu :: _ => (s.slot cu.1).cmdSt
    | [] => x.cmdSt
  else x.cmdSt

end Sys2Proof.Machine
end

