-- ==== Sys2Proof/Machine/CarOps.lean ====
section
/-! DEFINITION. The carriers and what happens at their events (03): start and stop, the commit point with the slot
commands that act there, the legs' own peaks and valleys, edges, refreshes and peak-limit cuts. -/

namespace Sys2Proof.Machine

/-! ### CAR_RUN (R52, R53) -/

/-- CLK_PWM is missing or gated (R572). -/
def State.pwmOff (s : State) : Bool := s.clk.pwmMissing || s.clk.pwmGated

/-- The string that holds carrier Kk: a member's slot selects it, and the string is not STOPPED (R216). -/
def State.carString (s : State) (k : Nat) : Option Nat :=
  match s.strOf (k / 2) with
  | some i => if (s.str i).st = .stopped then none else some i
  | none => none

/-- The carrier is armed, with its staged period, for CAR_START_TIME. -/
def State.armCar (s : State) (k : Nat) : State := s.updCar k fun c => { c with st := .armed }

/-- CAR_RUN = 0x01. -/
def State.carRun (s : State) (k : Nat) : Own :=
  let p := s.rd (Od.CAR_PERIOD k)
  if (s.carString k).isSome || (s.car k).st ≠ .stopped || timeOf (s.rd (Od.CAR_START_TIME k)) < s.sysNow + sysUs 10 ||
    p < 500 || p > 1048575 || s.pwmOff then .error abState
  else .ok (s.armCar k)

/-- A pending START affects a leg that selects Kk. -/
def State.startPends (s : State) (k : Nat) : Bool :=
  (List.range 32).any fun c => match (s.slot c).cmd with
    | some m => m.op = .start && (s.named c m.mask).any fun u => (s.unitLegIds c u).any fun l => s.carOf l = k
    | none => false

/-- UNIT_LOOP takes effect on Ll (R43). -/
def State.bindLeg (s : State) (l : Nat) : State :=
  let b := match s.legUnit l with
    | some u => s.unitLoop (legSlot l) u
    | none => none
  s.updLeg l fun g => { g with bound := b }

/-- Carrier Kk is no longer RUNNING: a bind that waited for its commit point takes effect (R17), and holds of R94 end. -/
def State.carLeft (s : State) (k : Nat) : State := s.each (s.legsOn k) fun s l => (s.bindLeg l).xholdEnd l

/-- A carrier on its way to STOPPED: at once while ARMED, else at the next valley. -/
def State.haltCar (s : State) (k : Nat) : State :=
  match (s.car k).st with
  | .armed => s.updCar k fun c => { c with st := .stopped }
  | .running => (s.updCar k fun c => { c with st := .stopping, stopClk := s.pwmClk }).carLeft k
  | _ => s

/-- Every pending START that affects a leg whose carrier is not RUNNING is discarded (R40). -/
def State.discardStarts (s : State) : State :=
  s.each (List.range 32) fun s c => match (s.slot c).cmd with
    | some m =>
      if m.op = .start && (s.named c m.mask).any fun u => (s.unitLegIds c u).any fun l => decide ((s.car (s.carOf l)).st ≠ .running)
      then s.discardAll c else s
    | none => s

/-- CAR_RUN = 0x02. -/
def State.carStop (s : State) (k : Nat) : Own :=
  if (s.carString k).isSome || ((s.legsOn k).any fun l => (s.leg l).enabled) || s.startPends k then .error abState
  else .ok (s.haltCar k)

/-- CAR_RUN by its value. -/
def State.ownCarRun (s : State) (k v : Nat) : Own := if v = 1 then s.carRun k else s.carStop k

/-- CAR_COMMIT: a request, or a discard (R61, R64). A discard in the clock of a commit point is kept for its end. -/
def State.ownCommit (s : State) (k v : Nat) : Own :=
  if v = 1 then .ok (s.requestCommit k)
  else
    let s := s.noteLate k
    .ok (if s.heldBack k then s.updCar k fun c => { c with lateDiscard := true } else s.discardStaged k)

/-- CAR_RELOAD and CAR_COMMIT_MODE (R63, R216); refused where a pipe would fail the test of R171 (R169). -/
def State.ownCarCfg (s : State) (k : Nat) (r : Reg) (v : Nat) : Own :=
  if (s.carString k).isSome || (s.car k).st ≠ .stopped then .error abState
  else if (s.wr r v).stillAdmits (s.slotsOnCar k) then .ok (s.wr r v) else .error abState

/-! ### Slot commands at their moment (R38) -/

/-- The bypass of Cc: every leg low and latched (R34, R36). -/
def State.bypassSlot (s : State) (c : Nat) : State :=
  let s := s.each (s.unitLegIds c 0) fun s l => s.latchLeg l
  let s := s.updSlot c fun t => { t with reason := 0 }
  match s.strOf c with
  | some i => s.enterBypass c i
  | none => s.updUnit c 0 fun x => { x with st := .bypassed }

/-- A force the string sequencer places on the CHB legs of Cc in the clock of a commit point, in effect at once. -/
def State.chbForceNow (s : State) (c v : Nat) : State :=
  s.each [6 * c, 6 * c + 1] fun s l => (s.wr (Od.LEG_FORCE l) v).forceNow l (forceOf v)

/-- HI and LO of a leg's peak-limit source (R77). -/
def State.pklLines (s : State) (l : Nat) : Bool × Bool :=
  let src := s.rd (Od.LEG_PKL_SRC l)
  if 1 ≤ src && src ≤ 0x60 then (s.mdHi (src - 1), s.mdLo (src - 1))
  else if 0x80 ≤ src && src ≤ 0x8F then
    (s.cmpOn (src - 0x80) && (s.cmp (src - 0x80)).hi, s.cmpOn (src - 0x80) && (s.cmp (src - 0x80)).lo)
  else (false, false)

/-- The lines of Ll's source that are asserted now cut in the next clock (R78, R79). -/
def State.cutNext (s : State) (l : Nat) : State :=
  let (hi, lo) := s.pklLines l
  if (s.leg l).enabled && (hi || lo) then s.inNext (.cut l hi lo) else s

/-- The unit's legs enabled: APPLY_LOCAL on the DAB legs of T6 and T4 (R221), START or PC_ACTIVE (R36, R219). -/
def State.enableUnit (s : State) (c u : Nat) : State :=
  let dab := match s.tmpl c with
    | 1 => [2, 3, 4, 5]
    | 2 => [0, 1, 2, 3]
    | _ => []
  let s := s.each (dab.map (6 * c + ·)) fun s l => s.wr (Od.LEG_CTRL l) (s.rd (Od.LEG_CTRL l) ||| 1)
  let s := s.each (s.unitLegIds c u) fun s l => (s.enableLeg l).cutNext l
  s.drvEnabled c u

/-- INSERT: the spare's force LOWER ends, or passes to OFF while its string is BLOCKED (R226). -/
def State.insertSpare (s : State) (c : Nat) : State :=
  let blocked : Bool := match s.strOf c with
    | some i => decide ((s.str i).st = .blocked)
    | none => false
  (s.chbForceNow c (if blocked then 1 else 0)).updUnit c 0 fun x => { x with st := .active }

/-- CLEAR of a unit: latches released; a bypassed cell of a running string becomes a spare again (R36). -/
def State.clearUnit (s : State) (c u : Nat) : State :=
  let byp := s.ust c u = .bypassed
  let s := s.each (s.unitLegIds c u) fun s l => s.unlatch l
  match s.strOf c with
  | some i =>
    let s := if byp then s.updStr i fun t => { t with bypReq := t.bypReq &&& (2 ^ 48 - 1 - 2 ^ s.posOf c) } else s
    if byp && (s.str i).st ≠ .stopped then
      let s := s.enableUnit c u
      let s := s.chbForceNow c 3
      let s := s.updUnit c u fun x => { x with st := .spare }
      -- the losses so far are settled; a later loss of the same cell is a new one
      s.updStr i fun t =>
        let x := { t.tbl with
          spares := ((insertPos (t.tbl.spares.map fun p => (p, 0)) (s.posOf c, 0)).map (·.1))
          lost := t.tbl.lost.erase (s.posOf c) }
        { t with tbl := x, base := x, lossLog := [] }
    else s.updUnit c u fun x => { x with st := .stopped }
  | none => s.updUnit c u fun x => { x with st := .stopped }

/-- A slot command acts on its units now. -/
def State.slotAct (s : State) (c : Nat) (m : SlotCmd) : State :=
  let us := s.named c m.mask
  let s := s.updSlot c fun t => { t with cmd := none, cmdSt := .done }
  match m.op with
  | .start => s.each us fun s u =>
    let pc := s.ust c u = .precharge
    let s := s.enableUnit c u
    if pc then
      -- a spare's CHB legs are held by force LOWER, all of them OFF while the tracker is not LOCKED (R219)
      let hold : Bool := match s.strOf c with
        | some i => (s.str i).pcHold
        | none => false
      if hold then s.chbForceNow c 1 else if s.rd (Od.SLOT_STRING_ROLE c) = 1 then s.chbForceNow c 3 else s
    else (s.updUnit c u fun x => { x with st := .active }).ov3Join c u
  | .stop => s.each us fun s u =>
    -- t0 of each unit is the first commit point of a carrier of its own legs (R33)
    if (s.unitLegIds c u).any fun l => (s.car (s.carOf l)).cpClk = some s.pwmClk then s.stopUnitNow c u else s.stopUnitFrom c u m.clk
  | .bypass => s.bypassSlot c
  | .insert => s.insertSpare c
  | .clear => s.each us fun s u => s.clearUnit c u

/-- The carriers that the legs of a command select: INSERT acts on the CHB carrier (R226). -/
def State.cmdCars (s : State) (c : Nat) (m : SlotCmd) : List Nat :=
  match m.op with
  | .insert => [2 * c]
  | _ => (((s.named c m.mask).flatMap fun u => s.unitLegIds c u).map s.carOf).eraseDups

/-- The stops that have their t0 at a commit point of Kk, not one asked for in this clock (R33). -/
def State.actStops (s : State) (k : Nat) : State :=
  s.each s.allUnits fun s cu => match ((s.slot cu.1).unit cu.2).stopAsk with
    | some q => if q ≠ s.pwmClk && (s.unitLegIds cu.1 cu.2).any (fun l => s.carOf l = k) then s.stopUnitNow cu.1 cu.2 else s
    | none => s

/-- The pending commands that act at a commit point of Kk, not one written in this clock. -/
def State.actCmds (s : State) (k : Nat) : State :=
  let s := s.actStops k
  s.each (List.range 32) fun s c => match (s.slot c).cmd with
    | some m => if m.clk ≠ s.pwmClk && (s.cmdCars c m).contains k then s.slotAct c m else s
    | none => s


/-! ### Carrier events -/

/-- The leg applies at its own reload point only. -/
def State.takesHere (s : State) (l : Nat) (start : Bool) : Bool := start || !s.applyLocal l

/-- What a commit point of Kk does at position n (R61, R74, R38, R43, R215). -/
def State.commitPoint (s : State) (k n : Nat) (start : Bool) : State :=
  let com := start || s.commits k
  let s := if com then s.commit k n start else s
  -- a new period counts down from its own value in the peak clock (R69)
  let s := if n ≠ 0 then s.updCar k fun c => { c with refN := c.p } else s
  let s := s.endLate k
  let s := s.updCar k fun c => { c with cpClk := some s.pwmClk }
  let s := s.each (s.legsOn k) fun s l =>
    let new := com || (s.leg l).wait.isSome
    let s := if s.takesHere l start then s.takeForce l else s
    let s := (s.bindLeg l).compareLeg l
    if new then s.settleBarred l else s.settleLeg l
  let s := s.actCmds k
  match s.strOf (k / 2) with
  | some i => if k % 2 = 0 && n ≠ 0 then s.glideStep i (k / 2) else s
  | none => s

/-- CARRIER_START: an ARMED carrier raises its first valley (R52). The first selected event after it has the number 0 (DESIGN
CHOICE, log entry 170). -/
def State.carrierStart (s : State) (k : Nat) : State :=
  if (s.car k).st = .armed && !s.pwmOff then
    let t := s.startAt k
    let s := s.upTo t
    let s := s.updCar k fun c => { c with st := .running, refT := t, refN := 0, evV := 0, evP := 0, valleys := 0 }
    let s := s.each (s.legsOn k) fun s l => s.updLeg l fun g => { g with
      lastPeak := none, lastValley := none, valleys := 0, pSel := 0, highRun := 0, highAll := true, pending := false }
    let s := s.commitPoint k 0 true
    let s := (s.carrierTriggers k false).carrierReleases k false
    s.updCar k fun c => { c with evV := 1, valleys := 1 }
  else s

/-- The start time of Kk on the grid of its member's string: the first instant m × T + O at or after T0 (R212, R213). -/
def gridInstant (period offset T0 : Nat) : Nat :=
  let g := sysNsU period; let o := sysNsU offset
  if T0 ≤ o then o else o + (T0 - o + g - 1) / g * g

/-- O_D of R213 for position pos among m members on period tD, in ns. -/
def dabOffset (tD m pos : Nat) : Nat := offsetOf tD m (2 * pos)

/-- Grid of carrier Kk of a member slot: period and offset in ns. -/
def State.carGrid (s : State) (i k : Nat) : Nat × Nat :=
  let c := k / 2
  if k % 2 = 0 then (s.strTc i, (((s.str i).offsets.find? fun o => o.1 = c).map (·.2)).getD 0)
  else
    let tD := 4 * s.rd (Od.CAR_PERIOD k)
    (tD, dabOffset tD (s.str i).members.length (s.posOf c))

/-- A halted carrier of a string in PC_PASSIVE arms for its start time, or for the next instant of its grid where that
has come too near (R213). -/
def State.rearm (s : State) (i k : Nat) : State :=
  let (per, off) := s.carGrid i k
  let T := gridInstant per off (max (timeOf (s.rd (Od.CAR_START_TIME k))) (s.sysNow + sysUs 10))
  (s.wr (Od.CAR_START_TIME k) (timeCode T)).armCar k

/-- CARRIER_VALLEY: n = 0 (R51, R53, R60, R69). -/
def State.carrierValley (s : State) (k : Nat) : State :=
  let c := s.car k
  if c.counts && c.refN ≠ 0 then
    let t := s.valleyAt k
    let s := s.upTo t
    let halt := c.st = .stopping && decide (c.stopClk < s.pwmClk)
    let s := s.updCar k fun c => { c with refT := t, refN := 0 }
    let s := if s.valleyCommits k && !halt then s.commitPoint k 0 false else s
    let s := (s.carrierTriggers k false).carrierReleases k false
    let s := s.updCar k fun c => { c with evV := c.evV + 1, valleys := (c.valleys + 1) % 2 ^ 64 }
    if halt then
      let s := s.updCar k fun c => { c with st := .stopped }
      match s.carString k with
      | some i => if (s.str i).st = .pcPassive then s.rearm i k else s
      | none => s
    else s
  else s

/-- CARRIER_PEAK: n = P; a new period counts down from its own value (R69). -/
def State.carrierPeak (s : State) (k : Nat) : State :=
  let c := s.car k
  if c.counts && c.refN = 0 then
    let t := s.peakAt k
    let s := s.upTo t
    let s := s.updCar k fun c => { c with refT := t, refN := c.p }
    let s := if s.peakCommits k then s.commitPoint k c.p false else s
    let s := (s.carrierTriggers k true).carrierReleases k true
    s.updCar k fun c => { c with evP := c.evP + 1 }
  else s

/-! ### A leg's own events (R55, R57, R70, R74, R76, R78) -/

/-- The first local time, from clock c0 on, at which n_L of Ll is x. -/
def State.whenPos (s : State) (l x c0 : Nat) : Nat :=
  let k := s.carOf l
  let p := (s.car k).p
  let c := max c0 ((s.car k).refT / s.tclk)
  let n := s.posL l (c * s.tclk)
  (c + (x + 2 * p - n) % (2 * p)) * s.tclk

/-- Local time of the next own peak and own valley of Ll: at least P clocks after the last. -/
def State.ownPeakAt (s : State) (l : Nat) : Nat :=
  let p := (s.car (s.carOf l)).p
  s.whenPos l p (match (s.leg l).lastPeak with
    | some t => t / s.tclk + p
    | none => 0)
def State.ownValleyAt (s : State) (l : Nat) : Nat :=
  let p := (s.car (s.carOf l)).p
  s.whenPos l 0 (match (s.leg l).lastValley with
    | some t => t / s.tclk + p
    | none => 0)

/-- Values and forces that wait for the leg's own reload point take effect. -/
def State.applyOwn (s : State) (l : Nat) : State :=
  if s.applyLocal l then
    let k := s.carOf l
    let s := if (s.leg l).pending then
        s.updLeg l fun g => g.take g.dutyCom g.phaseCom (s.car k).p (s.dithers l)
      else s
    s.takeForce l
  else s

/-- The cuts of Ll that start in the clock at t. -/
def State.cutsAt (s : State) (l t : Nat) : List (Nat × Soon) :=
  s.soon.filter fun x => x.1 = t && match x.2 with
    | .cut m _ _ => decide (m = l)
    | _ => false

/-- LEG_OWN_PEAK. -/
def State.legOwnPeak (s : State) (l : Nat) : State :=
  let k := s.carOf l
  if (s.car k).counts then
    let t := s.ownPeakAt l
    -- a cut that starts in this very clock lasts to the next own peak
    let cuts := s.cutsAt l t
    let s : State := { s with soon := s.soon.filter fun x => !cuts.contains x }
    let s := s.upTo t
    let p := (s.car k).p
    let s := s.updLeg l fun g => { g with lastPeak := some t }
    let s := if s.peakCommits k then s.applyOwn l else s
    let s := s.updLeg l fun g => (g.choose (g.valleys % 16) p (s.dithers l))
    let wasCut := (s.leg l).cutHi || (s.leg l).cutLo
    let s := s.updLeg l fun g => { g with
      cutHi := false, cutLo := false
      highRun := if g.highAll then g.highRun + 1 else 0 }
    -- hold of R94, and the restart of R106
    let s := s.updGg l fun g =>
      let met := g.stoMet.any fun m => decide (m / s.tclk < t / s.tclk)
      let back := g.stoLow && met
      { g with
        xhold := g.xhold && !(decide (g.xholdAt / s.tclk < t / s.tclk))
        stoLow := g.stoLow && !met
        stoMet := if met then none else g.stoMet
        ghReqAt := if back then t else g.ghReqAt
        glReqAt := if back then t else g.glReqAt }
    let s := s.compareLeg l
    let g := s.leg l
    let high := g.command (s.car k).parityOff = .high
    let w := s.rd (Od.LEG_BOOT_WIDTH l)
    let s := if w ≠ 0 && high && g.highRun ≥ s.rd (Od.LEG_BOOT_EVERY l) then
        s.updLeg l fun g => { g with
          boot := some (s.now + ns w), bootSeen := true, bootCount := (g.bootCount + 1) % 2 ^ 32, highRun := 0 }
      else s
    let s := s.updLeg l fun g => { g with highAll := true }
    let s := if s.applyLocal l then s.settleBarred l else s.settleLeg l
    let s := s.each cuts fun s x => s.doSoon x.2
    -- a line still asserted cuts again from the next clock on
    if wasCut then s.cutNext l else s
  else s

/-- LEG_OWN_VALLEY. -/
def State.legOwnValley (s : State) (l : Nat) : State :=
  let k := s.carOf l
  if (s.car k).counts then
    let t := s.ownValleyAt l
    let s := (s.upTo t).updLeg l fun g => { g with lastValley := some t }
    let s := if s.valleyCommits k then s.applyOwn l else s
    let s := (s.updLeg l fun g => { g with valleys := g.valleys + 1 }).compareLeg l
    if s.applyLocal l then s.settleBarred l else s.settleLeg l
  else s

/-- LEG_COMMAND_EDGE: n_L reaches C or 2P − C (R55). -/
def State.legEdge (s : State) (l : Nat) : State :=
  let k := s.carOf l
  let p := (s.car k).p
  let g := s.leg l
  if (s.car k).counts && 0 < g.cNow && g.cNow < p then
    let here := cmpHigh (s.posL l s.now) g.cNow p
    let s := if here = g.cmp then s.upTo (s.whenPos l (if g.cmp then g.cNow else 2 * p - g.cNow) (s.now / s.tclk)) else s
    (s.compareLeg l).settleLeg l
  else (s.compareLeg l).settleLeg l

/-- BOOT_REFRESH_END (R76). -/
def State.bootEnd (s : State) (l : Nat) : State :=
  match (s.leg l).boot with
  | some t => ((s.upTo t).updLeg l fun g => { g with boot := none }).settleLeg l
  | none => s

/-- PKL_CUT: source `src` delivers a value at t, a modulator input by its bits and a comparator by the code v; the legs
that select it start the cuts its lines ask for, a clock after the lines reach the leg timing unit (R78, R79). -/
def State.pklCut (s : State) (src : Nat) (stream : List Bool) (v : Int) (t : Nat) : State :=
  let s := s.upTo t
  let s := if 1 ≤ src && src ≤ 0x60 && s.mdOn (src - 1) then
      (s.mdPublish (src - 1) stream).compareMd (src - 1) (s.mdFast (src - 1) stream)
    else if 0x80 ≤ src && src ≤ 0x8F then s.compareCmp (src - 0x80) v else s
  s.each ((List.range 192).filter fun l => src ≠ 0 && s.rd (Od.LEG_PKL_SRC l) = src) fun s l => s.cutNext l

/-- PWM_PARITY_ERROR on a leg's or a carrier's registers (R81). -/
def State.pwmParity (s : State) (carrier : Bool) (i : Nat) : State :=
  if carrier then
    let s := (s.updCar i fun c => { c with parityOff := true, paritySeen := true })
    let s := s.raise Flt.PWM_PARITY (0x100 + i)
    s.each (s.legsOn i) fun s l => s.settleLeg l
  else
    let s := s.updLeg i fun g => { g with parityOff := true, parity := true }
    (s.raise Flt.PWM_PARITY i).settleLeg i

/-! ### Written entries -/

/-- The string holds a force on Ll: OFF while BLOCKED, LOWER on spares (R216, R219, R231). -/
def State.strForce (s : State) (l : Nat) : Bool :=
  let c := legSlot l
  legJ l < 2 && (match s.strOf c with
    | none => false
    | some i =>
      let t := s.str i
      (s.ust c 0).live && (decide (t.st = .blocked) || decide (s.ust c 0 = .spare) ||
        (decide (t.st = .pcActive) && decide (s.rd (Od.SLOT_STRING_ROLE c) = 1))))

/-- The drive sequencer holds the legs of the unit of Ll (R252). -/
def State.drvHolds (s : State) (l : Nat) : Bool :=
  match s.legUnit l with
  | none => false
  | some u => match s.driveOf (legSlot l) u with
    | some e => decide ((s.lvE e).drv ≠ .stopped)
    | none => false

/-- LEG_FORCE (R27, R73 to R75, R216, R252). -/
def State.ownForce (s : State) (l v : Nat) : Own :=
  if (s.legUnit l).isNone || (v % 8 ≥ 2 && !(s.leg l).enabled) then .error abState
  else if s.strForce l || s.drvHolds l then .error abState
  else .ok ((s.wr (Od.LEG_FORCE l) v).forceLeg l (forceOf v) (v.testBit 3))

/-- LEG_DUTY and LEG_PHASE: one writer (R17). -/
def State.ownDuty (s : State) (l v : Nat) : Own := if (s.leg l).bound.isSome then .error abState else .ok (s.stageDuty l v)
def State.ownPhase (s : State) (l v : Nat) : Own := if (s.leg l).bound.isSome then .error abState else .ok (s.stagePhase l v)

/-- LEG_CARRIER, LEG_CTRL: refused while the leg is enabled; LEG_CARRIER while the leg's string is not STOPPED. -/
def State.ownLegCfg (s : State) (l : Nat) (r : Reg) (v : Nat) : Own :=
  let held := r.key % 256 = 0x10 && (match s.strOf (legSlot l) with
    | some i => decide ((s.str i).st ≠ .stopped)
    | none => false)
  if (s.leg l).enabled || held then .error abState else .ok (s.wr r v)

/-- LEG_PKL_SRC: codes of R77; a line asserted at the new source cuts in the next clock (R78). -/
def State.ownPklSrc (s : State) (l v : Nat) : Own :=
  .ok ((s.wr (Od.LEG_PKL_SRC l) v).cutNext l)

/-- LEG_STATUS_CLR. -/
def State.ownLegClr (s : State) (l v : Nat) : Own :=
  .ok (s.updLeg l fun g => { g with
    bootSeen := g.bootSeen && !v.testBit 3, mixed := g.mixed && !v.testBit 5
    clampSeen := g.clampSeen && !v.testBit 6, parity := g.parity && !v.testBit 7 })

end Sys2Proof.Machine
end

