-- ==== Sys2Proof/Machine/GuardEvents.lean ====
section
/-! DEFINITION. The gate guard's events (04): releases, SN transitions and confirms, FK assertions and decisions, the
supply wait, blanking, parity, the loss of CLK_PWM, and the guard's written entries. -/

namespace Sys2Proof.Machine

/-! ### FK (R95 to R98, R103) -/

/-- The unit of Ll is ACTIVE, SPARE or PRECHARGE. -/
def State.unitLive (s : State) (l : Nat) : Bool := match s.legUnit l with
  | some u => (s.ust (legSlot l) u).live
  | none => false

/-- Ll is live (R98). -/
def State.legLive (s : State) (l : Nat) : Bool :=
  s.unitLive l && !s.safeHeld (legSlot l) && !s.supplyWait l

/-- A decision on Ll falls in the clock in which a sequence of its unit started and, with SLOT_SO_STEP = 0, ended: it is
step 0 of that sequence (R99). -/
def State.joins (s : State) (l : Nat) : Bool := match s.legUnit l with
  | some u => s.soNow (legSlot l) u && !s.safeHeld (legSlot l)
  | none => false

/-- A decision of R97 on Ll: the unit's sequence starts with Ll in step 0, or Ll joins a running one (R32). Decisions
on legs of one unit in one clock are step 0 of one sequence (R99): the second joins the first. -/
def State.fkDecide (s : State) (l : Nat) : State :=
  match s.legUnit l with
  | none => s
  | some u =>
    let s := s.updGg l fun g => { g with fk := .decided, fkSeen := true, fkCount := (g.fkCount + 1) % 2 ^ 32 }
    (s.raise Flt.GG_FK l).safeOff (legSlot l) u [legJ l] Flt.GG_FK false

/-- An assertion that would be decided: decided on a live leg, GG_FK_IDLE on any other (R97, R98). -/
def State.fkJudge (s : State) (l : Nat) : State :=
  if s.legLive l || s.joins l then s.fkDecide l
  else if (s.gg l).fk = .idle then s
  else (s.updGg l fun g => { g with fk := .idle }).raise Flt.GG_FK_IDLE l

/-- FK_ASSERT: the guard sees an assertion at t (R95, R96, R27). -/
def State.fkAssert (s : State) (l t : Nat) : State :=
  let s := s.upTo t
  let was := (s.gg l).fkPin
  let s := s.updGg l fun g => { g with fkPin := true }
  if was || (s.legUnit l).isNone then s
  else s.updGg l fun g => { g with fk := if s.blanking l then .held s.now else .deglitch s.now }

/-- FK_RELEASE (R95, R96, R103). -/
def State.fkRelease (s : State) (l t : Nat) : State :=
  let s := s.upTo t
  let g := s.gg l
  let s := s.updGg l fun g => { g with fkPin := false, fk := .none, pumpWait := none }
  match g.fk with
  | .held _ =>
    (s.updGg l fun g => { g with blankedSeen := true, blankedCount := (g.blankedCount + 1) % 2 ^ 32 }).raise Flt.GG_FK_BLANKED l
  | _ => s

/-- FK_DECISION: 10 ns outside blanking (R95), or an assertion of R98 on a leg that has become live. -/
def State.fkDecision (s : State) (l : Nat) : State :=
  match (s.gg l).fk with
  | .deglitch t => (s.upTo (t + ns 10)).fkJudge l
  | .idle => if s.legLive l then s.fkDecide l else s
  | _ => s

/-- FK_HARD: 150 ns inside blanking (R96). -/
def State.fkHard (s : State) (l : Nat) : State :=
  match (s.gg l).fk with
  | .held t => (s.upTo (t + ns 150)).fkJudge l
  | _ => s

/-- BLANKING_END (R96). -/
def State.blankingEnd (s : State) (l : Nat) : State :=
  match (s.gg l).blank, (s.gg l).fk with
  | some _, .held _ => (s.upTo (s.blankEnd l)).fkJudge l
  | some _, _ => s.upTo (s.blankEnd l)
  | none, _ => s

/-- SUPPLY_WAKE_EXPIRY: a decision where FK is still asserted, as R98 has it while the STO channel or a processor hold
holds the leg (R103). -/
def State.supplyExpiry (s : State) (l : Nat) : State :=
  match (s.gg l).pumpWait with
  | some t =>
    let s := (s.upTo (t + us (s.rd (Od.SLOT_SUPPLY_WAKE (legSlot l))))).updGg l fun g => { g with pumpWait := none }
    if s.fkOn l then s.fkJudge l else s
  | none => s

/-- Assertions of R98 on legs that have become live are decided in that clock. -/
def State.fkNowLive (s : State) (ls : List Nat) : State :=
  s.each ls fun s l => if (s.gg l).fk = .idle && s.legLive l then s.fkDecide l else s

/-! ### The handshake (R86 to R91) -/

/-- No FK assertion of Ll is held or awaits its deglitch. -/
def Guard.fkQuiet (g : Guard) : Bool := match g.fk with
  | .deglitch _ | .held _ => false
  | _ => true

/-- D_F or D_R after a release with t_x before it (R91). -/
def State.learnOf (s : State) (l tx toff d : Nat) : Nat :=
  learn d (in128 (tx - toff)) (128 * s.rd (Od.LEG_DT_MARGIN l)) (s.rd (Od.LEG_DT_FILT l)) (s.dtMin l) (s.dtMax l)

/-- The clock in which the incoming gate of Ll rises (R87): the first at or after t_rel and its request; the present one
where it has been held longer. -/
def State.riseAt (s : State) (l : Nat) (gh : Bool) : Nat :=
  let g := s.gg l
  let t := s.edge (max (s.tRel l gh) (if gh then g.ghReqAt else g.glReqAt))
  if s.pwmClk ≤ t / s.tclk then t else s.edge s.now

/-- GATE_RELEASE of the incoming gate of Ll: GH or GL (R87, R88, R91). LEG_TSW_LAST takes t_x − t_off as it stands at the
release, at most 0xFFFF: DESIGN CHOICE, log entry 165. -/
def State.gateRelease (s : State) (l : Nat) (gh : Bool) : State :=
  let s := s.upTo (s.riseAt l gh)
  let g := s.gg l
  let req := if gh then g.ghReq && !g.gh && !g.barH else g.glReq && !g.gl && !g.barL
  let other := if gh then g.gl else g.gh
  let wait := gh && s.bootHold l
  if req && !other && s.gateFree l && g.fkQuiet && !wait then
    let rel := s.tRel l gh
    let reqAt := if gh then g.ghReqAt else g.glReqAt
    let t := s.riseAt l gh
    let s := s.at_ t
    let toff := g.tOff gh
    let tx := g.tX gh
    let bound := toff + ns (s.dtMax l)
    let back := tx.isNone && decide (reqAt < bound) && decide (t ≤ s.edge (max rel reqAt))
    let adapt := (s.ggCtrl l).testBit 0
    let soft := tx.any fun x => decide (x ≤ t)
    let d := match tx with
      | some x => if adapt && decide (x < rel) && decide (reqAt < bound) then
          some (s.learnOf l x toff (if gh then g.dR else g.dF)) else none
      | none => none
    let tsw := match tx with
      | some x => min 0xFFFF ((x - toff) / 500)
      | none => 0xFFFF
    s.updGg l fun g => { g with
      gh := g.gh || gh, gl := g.gl || !gh
      glRise := if gh then g.glRise else t
      blankWas := g.blank
      blank := some t
      dR := if gh then d.getD g.dR else g.dR
      dF := if gh then g.dF else d.getD g.dF
      tswR := if gh then tsw else g.tswR
      tswF := if gh then g.tswF else tsw
      backstop := g.backstop || back
      backstops := if back then min 0xFFFF (g.backstops + 1) else g.backstops
      onH := if gh && !soft then g.onH + 1 else g.onH
      onL := if !gh && !soft then g.onL + 1 else g.onL
      confirm := if g.sn = gh then none else some (t + ns (s.rd (Od.SLOT_SN_CONFIRM (legSlot l))), gh) }
  else s

/-- SN_TRANSITION: the node shows `high` (after SN_INV) at t (R86, R87, R89). DESIGN CHOICE: the capture of 500 ps
resolution is the next multiple of 500 ps (log entry 164). -/
def State.snTransition (s : State) (l t : Nat) (high : Bool) : State :=
  let t := (t + 499) / 500 * 500
  let s := s.upTo t
  s.updGg l fun g => { g with
    sn := high
    txR := txNext g.txR g.glOff t (!g.gh) high
    txF := txNext g.txF g.ghOff t (!g.gl) (!high)
    selfH := txNext g.selfH g.ghOff t (!g.gh) high
    selfL := txNext g.selfL g.glOff t (!g.gl) (!high)
    confirm := match g.confirm with
      | some (d, lv) => if lv = high && decide (t ≤ d) then none else some (d, lv)
      | none => none }

/-- SN_CONFIRM_EXPIRY (R89). -/
def State.snExpiry (s : State) (l : Nat) : State :=
  match (s.gg l).confirm with
  | some (d, _) =>
    let s := s.upTo d
    (s.updGg l fun g => { g with confirm := none, snMiss := true, snMisses := min 0xFFFF (g.snMisses + 1) }).raise Flt.GG_SN l
  | none => s

/-! ### Parity, loss of CLK_PWM -/

/-- GG_PARITY_ERROR: step 0 of the unit's sequence on Ll (R108); on an unused leg or one whose unit is not live the leg
alone goes low. Invalid parity on the command word of the leg timing unit counts as a request for both gates (R94). -/
def State.ggParity (s : State) (l : Nat) (word : Bool) : State :=
  if word then (if (s.gg l).xhold then s else (s.xcmd l).xholdEnd l) else
  let s := s.raise Flt.GG_PARITY l
  match s.legUnit l with
  | some u => if (s.ust (legSlot l) u).live then s.safeOff (legSlot l) u [legJ l] Flt.GG_PARITY false else s.lowerLeg l
  | none => s.lowerLeg l

/-- Every carrier goes to STOPPED, and pending STARTs are discarded (R572, R40). -/
def State.carriersOff (s : State) : State :=
  let s := s.each (List.range 64) fun s k => if (s.car k).st = .stopped then s
    else (s.updCar k fun c => { c with st := .stopped }).carLeft k
  s.discardStarts

/-- CLK_PWM_MISSING: the clamp of R107 while any leg is enabled, and R572. A leg latched by the clamp is in no sequence:
its unit keeps its state. -/
def State.pwmLost (s : State) : State :=
  let on := (List.range 192).filter fun l => (s.leg l).enabled
  let s : State := { s with clk := { s.clk with pwmMissing := true } }
  let s := if on = [] then s else
    let s := s.each (List.range 192) fun s l => s.lowerLeg l
    let s := s.each on fun s l => (s.latchLeg l).updGg l fun g => { g with clkClamp := true }
    s.raise Flt.GG_CLK 0
  s.carriersOff

/-! ### Written entries (R92, R93, R111, R112) -/

/-- The dead-time entries and LEG_GG_CTRL. -/
def State.ownDt (s : State) (l : Nat) (r : Reg) (v : Nat) : Own :=
  if (s.leg l).enabled then .error abState
  else
    let sub := r.key % 256
    let s' := s.wr r v
    if sub ≤ 3 && !(decide (s'.dtMin l ≤ s'.rd (Od.LEG_DT_INIT l)) && decide (s'.rd (Od.LEG_DT_INIT l) ≤ s'.dtMax l)) then
      .error abRange
    else if sub = 2 then .ok (s'.resetDt l)
    else if sub = 1 || sub = 3 then
      let lo := 128 * s'.dtMin l; let hi := 128 * s'.dtMax l
      .ok (s'.updGg l fun g => { g with dF := max lo (min g.dF hi), dR := max lo (min g.dR hi) })
    else if sub = 6 then
      let s' := if v.testBit 0 then s' else s'.resetDt l
      -- a change of SN_INV or FK_INV changes what the pins show
      let flipS := (s.ggCtrl l).testBit 1 != v.testBit 1
      let s' := if flipS then s'.updGg l fun g => { g with sn := !g.sn } else s'
      .ok (if (s.ggCtrl l).testBit 2 != v.testBit 2 then
        (if (s'.gg l).fkPin then s'.fkRelease l s'.now else s'.fkAssert l s'.now) else s')
    else .ok s'

/-- LEG_BLANK, LEG_BOOT_*: the first is refused while the leg is enabled. -/
def State.ownBlank (s : State) (l v : Nat) : Own :=
  if (s.leg l).enabled then .error abState else .ok (s.wr (Od.LEG_BLANK l) v)

/-- SLOT_SO_STEP and the entries of R112: every unit STOPPED. -/
def State.ownSlotTime (s : State) (c : Nat) (r : Reg) (v : Nat) : Own :=
  if s.slotStopped c then .ok (s.wr r v) else .error abState

/-- LEG_GG_STATUS_CLR. -/
def State.ownGgClr (s : State) (l v : Nat) : Own :=
  .ok (s.updGg l fun g => { g with
    xcmdSeen := g.xcmdSeen && !v.testBit 6, fkSeen := g.fkSeen && !v.testBit 7, blankedSeen := g.blankedSeen && !v.testBit 8
    snMiss := g.snMiss && !v.testBit 9, backstop := g.backstop && !v.testBit 10, clkClamp := g.clkClamp && !v.testBit 11 })

end Sys2Proof.Machine
end

