-- ==== Sys2Proof/Machine/StrOps.lean ====
section
/-! DEFINITION. The string sequencer (08): members and their check, string commands, pre-charge, system-cycle records,
balance episodes, the bypass check, the tracker hook and ride-through. -/

namespace Sys2Proof.Machine

/-- Local times the string sequencer waits for. -/
def secondsSince (t0 t : Nat) : Nat := F32.ofRat ((t - t0 : Nat) : Int) 1000000000000

/-! ### Members (R208, R209) -/

/-- Insertion of a member by position. -/
def insertMember (l : List Member) (m : Member) : List Member :=
  match l with
  | [] => [m]
  | a :: l' => if m.pos < a.pos then m :: a :: l' else a :: insertMember l' m

/-- The members of string entry ST on this device, in position order. -/
def State.ownMembers (s : State) (i : Nat) : List Member :=
  ((s.membersHere i).map fun c => (⟨s.ring.nodeId, c, s.rd (Od.SLOT_STRING_ROLE c) = 1, s.posOf c⟩ : Member)).foldl insertMember []

/-- Members of this device among those listed. -/
def State.listedHere (s : State) (i : Nat) : List Member := (s.str i).members.filter fun m => s.isOwn m.node

/-- 4 × P ns divides one second. -/
def dividesSec (p : Nat) : Bool := decide (0 < p) && 1000000000 % (4 * p) = 0

/-- The legs and carriers of a member are as R208 asks. -/
def State.carsAsk (s : State) (c : Nat) : Bool :=
  let cars (k : Nat) : Bool := s.rd (Od.CAR_RELOAD k) = 1 && s.rd (Od.CAR_COMMIT_MODE k) = 0
  s.tmpl c = 1 && cars (2 * c) && cars (2 * c + 1) &&
    [0, 1].all (fun j => s.carOf (6 * c + j) = 2 * c) && [2, 3, 4, 5].all (fun j => s.carOf (6 * c + j) = 2 * c + 1)

/-- What this device reports of string entry ST at a roll call (R208). -/
def State.strReport (s : State) (i : Nat) : StrReport :=
  let own := s.membersHere i
  ⟨s.rd (Od.STR_ID i), s.ring.nodeId, s.ownMembers i, s.rd (Od.STR_CAR_P i), s.rd (Od.STR_GLIDE_DIV i), s.rd (Od.STR_CTRL i),
    s.rd (Od.STR_APPLY_LAG i), s.rd Od.CELL_CYCLE, s.rd Od.GG_STRING_TRIP_MAX,
    own.map (fun c => s.rd (Od.CAR_PERIOD (2 * c + 1))), own.all s.carsAsk⟩

/-- The values of a report that have to be equal on all member devices. -/
def strShared (r : StrReport) : List Nat := [r.carP, r.glideDiv, r.ctrl, r.lag, r.cell, r.tripMax]

/-- The merged member list of a string, in position order, from the reports of its member devices. -/
def mergeMembers (rs : List StrReport) : List Member :=
  (rs.flatMap fun r => r.members.map fun m => { m with node := r.node }).foldl insertMember []

/-- The manager's checks of R208 on the reports of a string's member devices; and a member that is no spare (R207). -/
def mergeOk (rs : List StrReport) : Bool :=
  let ms := mergeMembers rs
  let pd := rs.flatMap (·.pds)
  decide ((ms.map (·.pos)).eraseDups.length = ms.length) && decide ((ms.map (·.node)).eraseDups.length ≤ 3) &&
    ms.any (fun m => !m.spare) && decide ((rs.map strShared).eraseDups.length ≤ 1) && rs.all (fun r => dividesSec r.carP) &&
    rs.all (·.carsOk) && decide (pd.eraseDups.length ≤ 1) && pd.all dividesSec

/-- A member list and the manager's verdict take effect on string entry ST (R208). -/
def State.setMembers (s : State) (i : Nat) (ms : List Member) (ok : Bool) : State :=
  let s := s.updStr i fun t => { t with members := ms, configOk := ok, homeMiss := 0, nodeMiss := [], remote := [] }
  if ok || ms = [] then s else s.raise Flt.CAS_CONFIG i

/-- The member lists of a roll call (R208): each string here is merged from this device's report and those of the other
devices, as the active manager does it for all of them; a system of one has no others (R22). -/
def State.rollStrings (s : State) (others : List StrReport) : State :=
  s.each (List.range 32) fun s i =>
    let own := s.strReport i
    if own.id = 0xFFFF || own.members = [] then s.setMembers i [] false
    else
      let rs := own :: others.filter fun r => r.id = own.id && !s.isOwn r.node && r.members ≠ []
      s.setMembers i ((mergeMembers rs).take 48) (mergeOk rs)

/-- The node that holds the lowest position. -/
def State.homeNode (s : State) (i : Nat) : Nat :=
  match (s.str i).members with
  | [] => s.ring.nodeId
  | m :: ms => (ms.foldl (fun a b => if b.pos < a.pos then b else a) m).node

/-- The other member nodes whose flags this device hears: all of them at home, the home device elsewhere (R218). -/
def State.heard (s : State) (i : Nat) : List Nat :=
  if s.isHome i then (((s.str i).members.map (·.node)).eraseDups).filter fun n => !s.isOwn n else [s.homeNode i]

/-! ### Links and their mean (R218, R219) -/

/-- Sum of the links of the active cells on this device, in position order, and their number. -/
def State.ownSum (s : State) (i : Nat) : Nat × Nat :=
  let act := (s.str i).tbl.active.filterMap fun a => s.slotAt i a.1
  (act.foldl (fun a c => F32.add a (s.link c)) 0, act.length)

/-- The string mean from this device's links and the sums the others reported, on the home device. -/
def State.formMean (s : State) (i : Nat) : State :=
  if s.isHome i then
    let own := s.ownSum i
    let sum := (s.str i).others.foldl (fun a o => F32.add a o.2.1) own.1
    let n := (s.str i).others.foldl (fun a o => a + o.2.2) own.2
    if n = 0 then s else s.updStr i fun t => { t with mean := F32.div sum (fint n) }
  else s

/-- A link as the passive phase watches it, with a new value; values older than 100 ms go, but for the last of them. -/
def watchLink (old : Option LinkRef) (pos v now : Nat) : LinkRef :=
  let l := (now, v) :: (match old with
    | some r => r.samples
    | none => [])
  let young (x : Nat × Nat) : Bool := decide (now < x.1 + ms 100)
  ⟨pos, l.takeWhile young ++ (l.dropWhile young).take 1⟩

/-- The link departs by less than 1 % from what it was 100 ms ago (R219; DEDUCED, log entry 182). -/
def State.linkSteady (s : State) (r : LinkRef) (v : Nat) : Bool :=
  match r.samples.find? fun x => decide (x.1 + ms 100 ≤ s.now) with
  | some x => F32.lt (F32.abs (F32.sub v x.2)) (F32.mul 0x3C23D70A (F32.abs x.2))
  | none => false

/-- Every link of this device is at or above STR_PC_V1 and has changed by less than 1 % over 100 ms. -/
def State.passiveOk (s : State) (i : Nat) : Bool :=
  (s.listedHere i).all fun m => F32.ge (s.link m.slot) (s.rd (Od.STR_PC_V1 i)) &&
    (match (s.str i).links.find? fun r => r.pos = m.pos with
     | some r => s.linkSteady r (s.link m.slot)
     | none => false)

/-- Every link of this device lies within ±STR_PC_TOL of STR_PC_VSET. -/
def State.tolNow (s : State) (i : Nat) : Bool :=
  (s.listedHere i).all fun m =>
    F32.le (F32.abs (F32.sub (s.link m.slot) (s.rd (Od.STR_PC_VSET i)))) (s.rd (Od.STR_PC_TOL i))

/-- The same for 10 ms. -/
def State.tolOk (s : State) (i : Nat) : Bool := match (s.str i).tolSince with
  | some t => decide (s.now ≥ t + ms 10)
  | none => false

/-- The flags of every other member device heard. -/
def State.othersPassive (s : State) (i : Nat) : Bool :=
  (s.heard i).all fun n => s.isOwn n || (s.str i).readies.any fun r => r.1 = n && r.2.1
def State.othersTol (s : State) (i : Nat) : Bool :=
  (s.heard i).all fun n => s.isOwn n || (s.str i).readies.any fun r => r.1 = n && r.2.2

/-! ### Pre-charge (R213, R219, R220) -/

/-- A pre-charge is aborted (R220). -/
def State.pcAbort (s : State) (i : Nat) : State := (s.raise Flt.CAS_PRECHARGE i).stopString i

/-- A string is in pre-charge. -/
def StringSt.inPc (t : StringSt) : Bool := t.st = .pcPassive || t.st = .pcActive

/-- Strings in pre-charge with a FAULTED member on this device are aborted (R220). -/
def State.pcWatch (s : State) : State :=
  s.each (List.range 32) fun s i =>
    if (s.str i).inPc && (s.membersHere i).any fun c => s.ust c 0 = .faulted then s.pcAbort i else s

/-- A carrier of a member stops and starts again on its grid at least 1 ms after the apply time (R213). -/
def State.restartCar (s : State) (i k : Nat) (T : Nat) : State :=
  let (per, off) := s.carGrid i k
  let s := s.wr (Od.CAR_START_TIME k) (timeCode (gridInstant per off (T + sysUs 1000)))
  if (s.car k).st = .stopped then (if s.pwmOff then s else s.armCar k)
  else if (s.car k).st = .armed then s else s.haltCar k

/-- PRECHARGE at its apply time T (R210, R212, R213, R219). -/
def State.strPrecharge (s : State) (i T : Nat) : State :=
  let t := s.str i
  let act := reindex ((t.members.filter fun m => !m.spare).map fun m => (m.pos, 0))
  let spares := (t.members.filter fun m => m.spare).map (·.pos)
  let tbl : StrTable := ⟨act, spares, [], 0, t.tbl.respreads⟩
  let n := act.length
  let offset (m : Member) : Nat :=
    let x := match act.find? fun a => a.1 = m.pos with
      | some a => 2 * a.2
      | none => 2 * (spares.idxOf m.pos) + 1
    offsetOf (s.strTc i) n x
  let own := s.listedHere i
  let offs := own.map fun m => (m.slot, offset m)
  let s := s.updStr i fun t => { t with
    st := .pcPassive, tbl := tbl, base := tbl, lossLog := [], pcHold := false, pcAt := s.now, links := [], tolSince := none
    readyMain := false, riding := none, glides := [], offsets := offs, readies := [], others := [], homeLost := false }
  let s := s.each own fun s m => s.updUnit m.slot 0 fun x => { x with st := .precharge }
  let s := s.each own fun s m =>
    let s := s.wr (Od.CAR_PERIOD (2 * m.slot)) (s.rd (Od.STR_CAR_P i))
    (s.restartCar i (2 * m.slot) T).restartCar i (2 * m.slot + 1) T
  s.tellN i

/-- MAIN_CLOSED at its apply time: the members' legs are enabled at their next commit points (R219). Where the tracker has
left LOCKED since the command was accepted, the home device keeps the CHB legs forced OFF, and tells the other devices. -/
def State.strMain (s : State) (i : Nat) : State :=
  let s := s.formMean i
  let s := s.updStr i fun t => { t with
    st := .pcActive, pcV0 := t.mean, pcActAt := s.now, tolSince := none
    readies := t.readies.map fun r => (r.1, r.2.1, false) }
  let hold := s.isHome i && (s.str i).trackMode ≠ 1
  let s := if hold then (s.updStr i fun t => { t with pcHold := true }).sendString i recBlock 0 0 s.sysNow else s
  s.each (s.listedHere i) fun s m =>
    (s.discardAll m.slot).updSlot m.slot fun t => { t with cmd := some ⟨.start, 0, s.pwmClk⟩, cmdSt := .pending }

/-- The CHB legs are held no longer in PC_ACTIVE: LOWER on spares, NONE on the others (R219). -/
def State.pcFree (s : State) (i : Nat) : State :=
  let s := s.updStr i fun t => { t with pcHold := false }
  s.each (s.membersHere i) fun s c =>
    if s.ust c 0 = .precharge && (s.leg (6 * c)).enabled then s.chbForce c (if s.rd (Od.SLOT_STRING_ROLE c) = 1 then 3 else 0)
    else s

/-- Pre-charge completes (R219): actives go to ACTIVE, spares to SPARE. A member keeps its state to the end of a sequence
(R31). -/
def State.pcDone (s : State) (i : Nat) : State :=
  let s := s.updStr i fun t => { t with st := .running, tolSince := none, links := [] }
  s.each (s.listedHere i) fun s m =>
    if s.ust m.slot 0 = .precharge && ((s.slot m.slot).unit 0).seq.isNone then
      s.updUnit m.slot 0 fun x => { x with st := if s.rd (Od.SLOT_STRING_ROLE m.slot) = 1 then .spare else .active }
    else s

/-- The set point of PC_ACTIVE goes to the string slot (R219). -/
def State.pcSet (s : State) (i : Nat) : State :=
  let ls := s.rd (Od.STR_SLOT i); let x := s.rd (Od.STR_SET_IN i)
  if s.isHome i && ls < 128 && x < 16 then
    let t := s.str i
    let v := F32.add t.pcV0 (F32.mul (s.rd (Od.STR_PC_RAMP i)) (secondsSince t.pcActAt s.now))
    s.hostIn ls x (F32.min (s.rd (Od.STR_PC_VSET i)) v)
  else s

/-- What the string does at a cell-cycle boundary. -/
def State.strTick (s : State) (i : Nat) : State :=
  let t := s.str i
  let bad := (s.membersHere i).any fun c => s.ust c 0 = .faulted
  match t.st with
  | .pcPassive =>
    if bad then s.pcAbort i
    else
      let s := s.updStr i fun t => { t with
        links := (s.listedHere i).map fun m => watchLink (t.links.find? fun r => r.pos = m.pos) m.pos (s.link m.slot) s.now }
      if s.isHome i then s.updStr i fun t => { t with readyMain := s.passiveOk i && s.othersPassive i } else s
  | .pcActive =>
    if bad then s.pcAbort i
    else
      let s := s.pcSet i
      let s := s.updStr i fun t => { t with
        tolSince := if s.tolNow i then (t.tolSince.orElse fun _ => some s.now) else none }
      if s.tolOk i && s.othersTol i then s.pcDone i else s
  | _ => s

/-! ### String commands (R209, R210) -/

/-- The states of the members on other devices, as their records last gave them, all fulfil `p`; `unknown` is the answer for
a member of which none has been heard (R210, R218). -/
def State.remoteAll (s : State) (i : Nat) (unknown : Bool) (p : Nat → Bool) : Bool :=
  (s.str i).members.all fun m => s.isOwn m.node || match (s.str i).remote.find? fun r => r.1 = m.node && r.2.1 = m.slot with
    | some r => p r.2.2
    | none => unknown

/-- The members allow PRECHARGE (R210, R283, R508). -/
def State.pcAllowed (s : State) (i : Nat) : Bool :=
  let t := s.str i
  t.st = .stopped && t.configOk && s.pwr.stage = .ready && !s.pwmOff && s.remoteAll i false (fun c => c = 1) &&
    (s.membersHere i).all fun c => s.ust c 0 = .stopped && ((s.slot c).unit 0).seq.isNone && !s.th.shut.testBit c &&
      !s.safeHeld c

/-- The state of string entry ST allows command v (R210). -/
def State.strAllowed (s : State) (i v : Nat) : Bool :=
  let t := s.str i
  match v with
  | 1 => s.pcAllowed i
  | 2 => t.st = .pcPassive && t.readyMain && t.trackMode = 1
  | 3 => t.st ≠ .stopped && t.st ≠ .tripped
  | _ => t.st = .tripped && ((s.membersHere i).all fun c => s.ust c 0 ≠ .faulted) && s.remoteAll i true (fun c => c ≠ 6)

/-- The apply time of a command accepted now: the first cell-cycle boundary at least 10 ms ahead (R209). -/
def State.strApplyAt (s : State) : Nat :=
  let cc := sysNsU (s.rd Od.CELL_CYCLE)
  (s.sysNow + sysUs 10000 + cc - 1) / cc * cc

/-- STR_CMD (R209). -/
def State.ownStrCmd (s : State) (i v : Nat) : Own :=
  if (s.str i).cmdSt = .pending then .error abBusy
  else if !s.isHome i || !s.strAllowed i v then .error abState
  else
    let T := s.strApplyAt
    .ok ((s.updStr i fun t => { t with cmd := some (v, T), cmdSt := .pending }).sendString i recCommand 0 v T)

/-- STR_CMD_APPLY: every member device acts on the command (R209, R210). -/
def State.strApply (s : State) (i : Nat) : State :=
  match (s.str i).cmd with
  | none => s
  | some (v, T) =>
    let s := s.at_ (s.localOf T)
    let ok := if v = 2 then (s.str i).st = .pcPassive
      else if v = 1 then (s.str i).st = .stopped && (s.membersHere i).all fun c => s.ust c 0 = .stopped
      else s.strAllowed i v
    let s := s.updStr i fun t => { t with
      cmd := none
      cmdSt := if t.cmdSt = .pending then (if ok then .done else .refused) else t.cmdSt }
    if !ok then s
    else match v with
      | 1 => s.strPrecharge i T
      | 2 => s.strMain i
      | 3 => s.stopMembers i (s.str i).st.halted
      | _ => s.stopMembers i .stopped

/-! ### Blocking and release (R231) -/

/-- The string goes to BLOCKED: force OFF on the CHB legs of every member here. In PC_ACTIVE the CHB legs are held OFF (R219). -/
def State.strBlock (s : State) (i : Nat) : State :=
  if (s.str i).st = .running then
    let s := s.updStr i fun t => { t with st := .blocked, riding := some s.now, blocks := (t.blocks + 1) % 2 ^ 32 }
    s.each (s.membersHere i) fun s c => if (s.ust c 0).live then s.chbForce c 1 else s
  else if (s.str i).st = .pcActive then
    let s := s.updStr i fun t => { t with pcHold := true }
    s.each (s.membersHere i) fun s c => if s.ust c 0 = .precharge && (s.leg (6 * c)).enabled then s.chbForce c 1 else s
  else s

/-- The string returns to RUNNING, or its CHB legs are free in PC_ACTIVE: NONE on active cells, LOWER on spares. -/
def State.strRelease (s : State) (i : Nat) : State :=
  if (s.str i).st = .blocked then
    let s := s.updStr i fun t => { t with st := .running, riding := none }
    s.each (s.membersHere i) fun s c =>
      if s.ust c 0 = .spare then s.chbForce c 3 else if s.ust c 0 = .active then s.chbForce c 0 else s
  else if (s.str i).st = .pcActive && (s.str i).pcHold then s.pcFree i
  else s

/-- The home device after a completed run of its string slot, whose state words stood at `old` before it (R231). -/
def State.trackStep (s : State) (i n : Nat) (old : List Nat) : State :=
  let t := s.ls n
  let b := s.rd (Od.STR_TRACK i)
  let mode := (F32.floor (portOf t.prev b 3)).toNat
  let was := (s.str i).trackMode
  let sb := (t.block b).sb
  let jump := (mode ≠ was && ((was = 2 && (mode = 3 || mode = 4)) || (was = 1 && mode = 4)))
  let s := s.updStr i fun x => { x with
    trackMode := mode
    jumpLast := if jump then fwrap (F32.sub (t.words.getD sb 0) (old.getD sb 0)) else x.jumpLast }
  let s := if mode = 2 && was ≠ 2 then s.raise Flt.CAS_GRID_LOSS i else s
  let s := if mode = 4 && was ≠ 4 then s.raise Flt.CAS_GRID_JUMP i else s
  if (s.str i).st = .pcActive && (s.str i).pcHold then
    if mode = 1 then (s.pcFree i).sendString i recRelease 0 0 s.sysNow else s
  else if (s.str i).st = .pcActive && mode ≠ 1 then s.pcAbort i
  else if (s.str i).st = .running && (mode = 2 || mode = 4) then (s.strBlock i).sendString i recBlock 0 0 s.sysNow
  else if (s.str i).st = .blocked && (mode = 1 || mode = 3) then (s.strRelease i).sendString i recRelease 0 0 s.sysNow
  else s

/-- What the strings do after a completed run of slot LS. -/
def State.strAfterRun (s : State) (n : Nat) (old : List Nat) : State :=
  s.each ((List.range 32).filter fun i => s.isHome i && s.rd (Od.STR_SLOT i) = n &&
    ((s.ls n).block (s.rd (Od.STR_TRACK i))).typ = 0x1A) fun s i => s.trackStep i n old

/-- What follows a run of slot LS that has just completed; `s0` is the state before. -/
def State.afterRun (s0 s : State) (n : Nat) : State :=
  if (s.ls n).runs ≠ (s0.ls n).runs && s.domOn domLegs then (s.lvAfterRun n (s0.ls n)).strAfterRun n (s0.ls n).words else s

/-- LISTEN of drive E has lasted 50 ms of system time (R252). A run that ends by then comes first: its decision stands
(R255). -/
def State.listenOver (s : State) (e : Nat) : State :=
  match (s.lvE e).listen, s.lvUnits e with
  | some T, cu :: _ =>
    let t := s.localOf (T + sysUs 50000)
    let n := (s.unitLoop cu.1 cu.2).getD 128
    let s := if (s.runEnd n).any fun x => decide (x ≤ t) then State.afterRun s (s.endRun n) n else s
    if (s.lvE e).listen = some T then (s.at_ t).drvFail e cu else s
  | _, _ => s

/-! ### Time-outs and checks -/

/-- STR_PC_TIMEOUT (R220). -/
def State.pcTimeout (s : State) (i : Nat) : State :=
  if (s.str i).inPc then (s.at_ ((s.str i).pcAt + ms (s.rd (Od.STR_PC_TIMEOUT i)))).pcAbort i else s

/-- STR_BYP_CHECK: the check of R227 that is due first. -/
def State.bypCheck (s : State) (i : Nat) : State :=
  match (s.str i).bypChecks with
  | [] => s
  | b :: bs =>
    let s := s.at_ b.due
    let s := s.updStr i fun t => { t with bypChecks := bs }
    if F32.gt (F32.sub (s.link b.slot) b.v) (s.rd (Od.STR_BYP_DV i)) && s.ust b.slot 0 = .bypassed then
      (s.raise Flt.CAS_BYPASS b.slot).stopString i
    else s

/-- STR_HOME_LOST: three system cycles without a record of the home device (R218). -/
def State.homeLost (s : State) (i : Nat) : State :=
  if (s.str i).members ≠ [] && !s.isHome i && (s.str i).homeMiss ≥ 3 && !(s.str i).homeLost then
    ((s.stopMembers i (s.str i).st.halted).updStr i fun t => { t with homeLost := true }).raise Flt.CAS_HOME_LOST i
  else s

/-- STR_RIDE_OUT (R232). -/
def State.rideOut (s : State) (i : Nat) : State :=
  let t := s.str i
  match t.riding with
  | some t0 =>
    if t.st = .blocked then
      let s := if F32.lt t.mean (s.rd (Od.STR_RIDE_VMIN i)) then s else s.at_ (t0 + ms (s.rd (Od.STR_RIDE_TIME i)))
      (s.raise Flt.CAS_RIDE_OUT i).stopString i
    else s
  | none => s

/-- The episodes of R223 of one member; an episode that lasts longer than STR_BAL_TIME raises once. -/
def State.balance (s : State) (i c : Nat) : State :=
  let t := s.str i
  let dev := F32.abs (F32.sub (s.link c) t.mean)
  let lim := s.rd (Od.STR_BAL_DEV i)
  match t.bal.find? fun e => e.slot = c with
  | none =>
    if F32.gt dev lim && s.ust c 0 = .active then s.updStr i fun t => { t with bal := t.bal ++ [⟨c, s.now, false⟩] } else s
  | some e =>
    let ovr := s.ust c 0 ≠ .active || F32.lt dev (F32.mul F32.half lim) || (!e.raised && !F32.gt dev lim)
    if ovr then s.updStr i fun t => { t with bal := t.bal.filter fun e => e.slot ≠ c }
    else if !e.raised && decide (s.now > e.since + ms (s.rd (Od.STR_BAL_TIME i))) then
      (s.updStr i fun t => { t with bal := t.bal.map fun e => if e.slot = c then { e with raised := true } else e }).raise
        Flt.CAS_BALANCE c
    else s

/-! ### Records (R100, R101, R209, R211, R218, R225) -/

/-- The entries whose STR_ID is the one given, while the sequencer in LEGS is on. -/
def State.strById (s : State) (id : Nat) : List Nat :=
  if id = 0xFFFF || !s.domOn domLegs then [] else (List.range 32).filter fun i => s.rd (Od.STR_ID i) = id

/-- Position of a member by node and slot. -/
def StringSt.posOf (t : StringSt) (node slot : Nat) : Option Nat :=
  (t.members.find? fun m => m.node = node && m.slot = slot).map (·.pos)

/-- A safe-off record, local or remote (R100, R225). -/
def State.safeOffRecord (s : State) (i node slot T : Nat) (die : Bool) : State :=
  let s := s.addRecord ⟨i, node, slot, T, die⟩ (((s.str i).posOf node slot).getD 0xFF)
  if (s.str i).inPc then s.pcAbort i else s

/-- SAFEOFF_RECORD_EXPIRY: records end 100 µs after their t0 (R100). -/
def State.recordExpiry (s : State) : State :=
  match s.records with
  | [] => s
  | r :: rs =>
    let T := rs.foldl (fun a b => min a b.t0) r.t0
    let s := s.at_ (s.localOf (T + sysUs 100))
    { s with records := s.records.filter fun r => r.t0 ≠ T }

/-- A TC1 string record arrives (R101, R209, R211, R231). -/
def State.stringRecord (s : State) (node kind id slot flag T : Nat) : State :=
  let s : State := { s with strRecords := (s.strRecords + 1) % 2 ^ 32 }
  s.each (s.strById id) fun s i =>
    if kind = recSafeOff then s.safeOffRecord i node slot T (flag.testBit 0)
    else if kind = recTrip then s.tripString i false
    else if kind = recCommand then s.updStr i fun t => { t with cmd := some (flag, T) }
    else if kind = recStop then s.stopMembers i (s.str i).st.halted
    else if kind = recBlock then s.strBlock i
    else if kind = recRelease then s.strRelease i
    else s

/-- A TC0 string record of another member device (R218, R225): its members' states by slot, sum and number of its active
links, its flags; from the home device the number is the string mean itself. -/
def State.stringState (s : State) (i node : Nat) (states : List (Nat × Nat)) (sum n : Nat) (passive tol : Bool) : State :=
  let fromHome := node = s.homeNode i
  let s := s.updStr i fun t => { t with
    others := if s.isHome i then (node, sum, n) :: t.others.filter fun o => o.1 ≠ node else t.others
    mean := if fromHome && !s.isHome i then sum else t.mean
    homeMiss := if fromHome then 0 else t.homeMiss
    homeLost := t.homeLost && !fromHome
    remote := (states.map fun x => (node, x.1, x.2)) ++ t.remote.filter fun r => r.1 ≠ node
    nodeMiss := t.nodeMiss.filter fun o => o.1 ≠ node
    readies := (node, passive, tol) :: t.readies.filter fun r => r.1 ≠ node }
  let s := s.formMean i
  -- a loss the table lacks
  s.each states fun s st =>
    match (s.str i).posOf node st.1 with
    | some pos =>
      if (st.2 = 5 || st.2 = 6) && (s.str i).lacks pos then s.applyLoss i ⟨s.sysNow, node, st.1, pos⟩ else s
    | none => s

/-- What the string does at a system-cycle start (R218, R223). -/
def State.strCycle (s : State) (i : Nat) : State :=
  let s := s.formMean i
  let s := s.updStr i fun t => { t with homeMiss := if t.members = [] then 0 else min 255 (t.homeMiss + 1) }
  if (s.str i).st = .stopped then s else s.each (s.membersHere i) fun s c => s.balance i c

end Sys2Proof.Machine
end

