-- ==== Sys2Proof/Machine/Fmt.lean ====
section
/-! DEFINITION. Byte formats several units share: check sums, the records of a configuration bank (R516), values on the
wire (R447), and the lookup of a dictionary row (R446, R452). -/

namespace Sys2Proof.Machine

/-! ### Check sums -/

/-- One bit of a reflected 32-bit CRC. -/
def crcStep32 (poly r : Nat) : Nat := if r % 2 = 1 then (r / 2) ^^^ poly else r / 2

/-- A reflected 32-bit CRC over bytes; the register starts at `init` and is inverted at the end (log entry 80). -/
def crc32 (poly init : Nat) (l : List Byte) : Nat :=
  (l.foldl (fun r b => iter (crcStep32 poly) 8 (r ^^^ b.toNat)) init) ^^^ 0xFFFFFFFF

/-- CRC-32C, polynomial 0x1EDC6F41. -/
def crc32c (init : Nat) (l : List Byte) : Nat := crc32 0x82F63B78 init l

/-- CRC-16 of R465: polynomial 0x1021, most significant bit first. -/
def crc16 (l : List Byte) : Nat :=
  l.foldl (fun r b => iter (fun r => if r ≥ 0x8000 then (r * 2) % 65536 ^^^ 0x1021 else r * 2) 8 (r ^^^ (b.toNat * 256))) 0xFFFF

/-! ### SHAKE256 (FIPS 202), on 25 lanes of 64 bits -/

/-- A 64-bit word rotated left by n. -/
def rotl64 (w n : Nat) : Nat := (w * 2 ^ (n % 64) + w / 2 ^ (64 - n % 64)) % 2 ^ 64

/-- The parity step θ: every lane takes in the column before its own and, turned by one, the column after it. Lane x + 5y
stands at that place of the list. -/
def laneParity (a : List Nat) : List Nat :=
  let col := (List.range 5).map fun x => (List.range 5).foldl (fun v y => v ^^^ a.getD (x + 5 * y) 0) 0
  a.mapIdx fun i v => v ^^^ col.getD ((i + 4) % 5) 0 ^^^ rotl64 (col.getD ((i + 1) % 5) 0) 1

/-- The steps ρ and π in one walk over the 24 lanes from (1, 0) on: step t turns the lane it stands on by the t-th triangular
number and puts it where the walk goes next, from (x, y) to (y, 2x + 3y). -/
def laneWalk (a : List Nat) : List Nat :=
  ((List.range' 1 24).foldl (fun (w : Nat × List Nat) t =>
    let next := w.1 / 5 + 5 * ((2 * (w.1 % 5) + 3 * (w.1 / 5)) % 5)
    (next, w.2.set next (rotl64 (a.getD w.1 0) (t * (t + 1) / 2)))) (1, a)).2

/-- The step χ, row by row. -/
def laneMix (a : List Nat) : List Nat :=
  a.mapIdx fun i v =>
    let row (k : Nat) := a.getD (i / 5 * 5 + (i + k) % 5) 0
    v ^^^ (row 2 - (row 1 &&& row 2))

/-- The step ι of one round: bits 0, 1, 3, 7, … 63 of lane 0 take the next seven bits of the shift register
x^8 + x^6 + x^5 + x^4 + 1, which is handed on. -/
def laneTag (w : Nat × List Nat) : Nat × List Nat :=
  (List.range 7).foldl (fun (w : Nat × List Nat) j =>
    let r := w.1 * 2
    (if r < 256 then r else r ^^^ 0x171, w.2.modify 0 fun v => v ^^^ (w.1 % 2 * 2 ^ (2 ^ j - 1)))) w

/-- The permutation: 24 rounds, the shift register starting from 1. -/
def keccakF (a : List Nat) : List Nat :=
  (iter (fun (w : Nat × List Nat) => laneTag (w.1, laneMix (laneWalk (laneParity w.2)))) 24 (1, a)).2

/-- A block of 136 bytes absorbed. -/
def absorb (a : List Nat) (blk : List Byte) : List Nat := keccakF (a.mapIdx fun i v => if i < 17 then v ^^^ leAt blk (8 * i) 8 else v)

/-- The whole blocks and the padded last block absorbed; `n` bounds their number. -/
def absorbAll : Nat → List Nat → List Byte → List Nat
  | 0, a, _ => a
  | n + 1, a, l =>
    if l.length < 136 then
      let z := l ++ [0x1F] ++ List.replicate (135 - l.length) 0
      absorb a (z.modify 135 fun b => b ||| 0x80)
    else absorbAll n (absorb a (l.take 136)) (l.drop 136)

/-- SHAKE256-256: 32 bytes. -/
def shake256 (l : List Byte) : List Byte := ((absorbAll (l.length / 136 + 1) (List.replicate 25 0) l).take 4).flatMap (leBytes 8)

/-! ### Values (R447) -/

/-- The type codes of R447. -/
def OdType.code : OdType → Nat
  | .bool => 1 | .u8 => 2 | .u16 => 3 | .u32 => 4 | .u64 => 5 | .i8 => 6 | .i16 => 7 | .i32 => 8 | .i64 => 9 | .f32 => 10
  | .f64 => 11 | .time => 12 | .octets => 13 | .string => 14 | .domain => 15

/-- The bits of a signed type. -/
def OdType.signed : OdType → Nat
  | .i8 => 8 | .i16 => 16 | .i32 => 32 | .i64 => 64 | _ => 0

/-- The type is a scalar, a number of a fixed size. -/
def OdType.scalar (t : OdType) : Bool := t.code ≤ 12

/-! ### Rows (R446, R452) -/

/-- The row holds an entry. -/
def OdRow.has (r : OdRow) (idx sub : Nat) : Bool :=
  decide (r.base ≤ idx) && decide (idx < r.base + r.count) && decide (r.sub ≤ sub) && decide (sub < r.sub + r.nsub)

/-- The default REACT_T, REACT_L, K and mask of a source (R294, R307) as a FLT_CFG value with W = 60,000 ms. -/
def FltSrc.dflt (r : FltSrc) : Nat :=
  let cfg (k t l m : Nat) := k + 60000 * 2 ^ 8 + t * 2 ^ 32 + l * 2 ^ 40 + m * 2 ^ 48
  match r.cls, r.scope with
  | .f, _ => cfg 1 5 5 0x20
  | .c, .device => cfg 3 0 0 0x11
  | .u, .device => cfg 3 0 4 0xF1
  | .c, _ => cfg 3 0 1 0x1F
  | .u, _ => cfg 3 0 2 0x7F

/-- The row of FLT_CFG of a source (R307). -/
def Flt.row (r : FltSrc) : OdRow :=
  ⟨0x1820 + r.code / 256, 1, r.code % 256, 1, "FLT_CFG", .u64, if r.cls = .f then .const else .rw, r.dflt, .any, 0, 0, 0, true, 8, false⟩

/-- The row of an entry. -/
def Od.find (idx sub : Nat) : Option OdRow :=
  if 0x1821 ≤ idx && idx ≤ 0x1833 then (Flt.source ((idx - 0x1820) * 256 + sub)).map Flt.row
  else Od.rows.find? fun r => r.has idx sub

/-- Every entry of a row: index and sub. -/
def OdRow.entries (r : OdRow) : List (Nat × Nat) :=
  (List.range r.count).flatMap fun i => (List.range r.nsub).map fun u => (r.base + i, r.sub + u)

/-- The row is one of FLT_CFG (R307). -/
def OdRow.isFltCfg (r : OdRow) : Bool := decide (0x1821 ≤ r.base) && decide (r.base ≤ 0x1833)

/-- The writable entry of a row at index and sub; LEG_CARRIER's default is the carrier R26 loads. -/
def OdRow.reg (r : OdRow) (idx sub : Nat) : Reg :=
  ⟨key idx sub, if r.base = 0x2200 && r.sub = 0x10 then 2 * ((idx - 0x2200) / 6)
    else if r.base = 0x1100 && r.sub = 0x02 then Config.ethMac
    else if r.isFltCfg then r.dflt % 2 ^ 48 else r.dflt⟩

/-! ### The checks of R448 on a value -/

/-- A length and a form that R447 and R448 admit: the size of the type, or up to the greatest length. -/
def OdRow.lenOk (r : OdRow) (v : List Byte) : Bool :=
  (if r.var then decide (v.length ≤ r.size) else decide (v.length = r.size)) && (r.ty ≠ .bool || decide (leNat v ≤ 1))

/-- Reserved bits and codes are 0. The nanoseconds of a TIME have 30 bits (R10). -/
def OdRow.rsvOk (r : OdRow) (v : Nat) : Bool :=
  v &&& r.rsv = 0 && (r.rsvFrom = 0 || decide (v < r.rsvFrom)) && (r.ty ≠ .time || bits v 95 94 = 0)

/-- A KIND of LS_RELEASE and TRG_SRC that is not reserved, with an EVENT where the kind is carrier (R149, R169). -/
def kindOk (v : Nat) : Bool := bits v 1 0 ≠ 3 && !(bits v 1 0 = 1 && bits v 9 8 = 0)

/-- The codes that the layout of an entry's fields marks reserved (R73, R77, R111, R149, R159, R169, R319, R357). -/
def OdRow.fieldsOk (r : OdRow) (v : Nat) : Bool :=
  match r.base, r.sub with
  | 0x2200, 0x06 => decide (bits v 4 3 ≠ 3)
  | 0x2200, 0x16 => decide (v % 8 ≤ 4)
  | 0x2200, 0x1A => !(decide (0x61 ≤ v ∧ v ≤ 0x7F) || decide (0x90 ≤ v))
  | 0x2A80, 0x01 => kindOk v
  | 0x2A80, 0x05 => decide (v ≤ 0x73)
  | 0x3000, 0x05 => kindOk v
  | 0x3000, 0x40 => decide (v % 16 ≤ 6)
  | 0x1220, 0x01 => (List.range 1024).all fun f => bits v (32 * f + 30) (32 * f + 22) = 0
  | 0x1280, 0x01 => decide (bits v 4 2 ≤ 3 ∧ bits v 7 5 ≠ 7)
  | 0x3800, 0x20 => decide (v % 256 ≤ 4)
  | _, _ => true

/-- A value that must divide a number does (R45). -/
def OdRow.divides (r : OdRow) (v : Nat) : Bool :=
  match r.rng with
  | .div _ _ n => decide (n % v = 0)
  | _ => true

/-- The number a value spells in its type. -/
def OdRow.num (r : OdRow) (v : Nat) : Int := if r.ty.signed = 0 then (v : Int) else toSigned r.ty.signed v

/-- The value lies in the range. -/
def OdRow.rangeOk (r : OdRow) (v : Nat) : Bool :=
  (r.ty ≠ .time || decide (bits v 93 64 < 1000000000)) &&
  match r.rng with
  | .any => true
  | .int lo hi step extra =>
    extra = some v || (decide (lo ≤ r.num v) && decide (r.num v ≤ hi) && decide ((r.num v - lo) % (step : Int) = 0))
  | .oneOf l => l.contains v
  | .div lo hi _ => decide (lo ≤ v) && decide (v ≤ hi)
  | .flt lo hi o => F32.finite v && (if o then F32.gt v lo else F32.ge v lo) && F32.ge hi v
  | .owner _ _ => true

/-- The first check of the orders 5 to 7 of R462 that a value fails; 0 when it fails none. -/
def OdRow.check (r : OdRow) (v : List Byte) : Nat :=
  if !r.lenOk v then abLength
  else if !r.ty.scalar && r.var then 0
  else if !r.rsvOk (leNat v) || !r.fieldsOk (leNat v) then abReserved
  else if !r.rangeOk (leNat v) then abRange
  else 0

/-- STRING values as numbers: a 1 after the last byte keeps the length; 0 is the empty value. -/
def strCode (l : List Byte) : Nat := if l = [] then 0 else leNat (l ++ [1])
def strBytes (v : Nat) : List Byte :=
  let n := (Nat.log2 v) / 8
  leBytes n v

/-- The bytes of a writable entry of a row that holds value v. -/
def OdRow.bytes (r : OdRow) (v : Nat) : List Byte :=
  if r.ty = .string then strBytes v
  else if r.var then leBytes ((Nat.log2 v / 80 + 1) * 10 * b2n (v ≠ 0)) v
  else leBytes r.size v

/-! ### Bank records (R516) -/

/-- Zeros up to a multiple of 4 bytes. -/
def padding (n : Nat) : List Byte := List.replicate ((4 - n % 4) % 4) 0

/-- One record: INDEX, SUB, TYPE, LEN, the value, padded. -/
def bankRecord (idx sub typ : Nat) (v : List Byte) : List Byte :=
  leBytes 2 idx ++ leBytes 1 sub ++ leBytes 1 typ ++ leBytes 4 v.length ++ v ++ padding v.length

/-- The records of a body: index, sub, type, value; none where the body is cut short. -/
def parseRecords : Nat → List Byte → Option (List (Nat × Nat × Nat × List Byte))
  | _, [] => some []
  | 0, _ => none
  | n + 1, l =>
    let len := leAt l 4 4
    if l.length < 8 + len + (4 - len % 4) % 4 then none
    else match parseRecords n (l.drop (8 + len + (4 - len % 4) % 4)) with
      | some rs => some ((leAt l 0 2, leAt l 2 1, leAt l 3 1, seg l 8 len) :: rs)
      | none => none

end Sys2Proof.Machine
end

