-- ==== Sys2Proof/Machine/SfOps.lean ====
section
/-! DEFINITION. The safety functions (13): the hard-wired channel, the processor hold and its causes, restart, proof
test, safe outputs, safe data, and the sign-off session. -/

namespace Sys2Proof.Machine

/-! ### Instances -/

def State.updSf (s : State) (f : Safety → Safety) : State := { s with sf := f s.sf }
/-- Consumer connection c, safe output n. -/
def State.con (s : State) (c : Nat) : Consumer := s.sf.cons.getD c {}
def State.updCon (s : State) (c : Nat) (f : Consumer → Consumer) : State :=
  s.updSf fun x => { x with cons := x.cons.modify c f }
def State.so (s : State) (n : Nat) : SafeOut := s.sf.outs.getD n {}
def State.updSo (s : State) (n : Nat) (f : SafeOut → SafeOut) : State :=
  s.updSf fun x => { x with outs := x.outs.modify n f }

/-- The pin of a group: 0 A, 1 B. -/
def State.pin (s : State) (g : Nat) : StoPin := if g = 0 then s.sf.pinA else s.sf.pinB
def State.updPin (s : State) (g : Nat) (f : StoPin → StoPin) : State :=
  s.updSf fun x => if g = 0 then { x with pinA := f x.pinA } else { x with pinB := f x.pinB }

/-- Slot Cc belongs to group g; the slots of a group. -/
def State.inGroup (s : State) (g c : Nat) : Bool := if g = 0 then s.inA c else s.inB c
def State.groupSlots (s : State) (g : Nat) : List Nat := (List.range 32).filter fun c => s.inGroup g c

/-! ### Safe data as seen by a consumer -/

/-- Bit b of DATA of consumer c. -/
def State.sdcBit (s : State) (c b : Nat) : Bool := ((s.con c).data.getD (b / 8) 0).toNat.testBit (b % 8)

/-! ### Causes of the processor hold (R315) -/

/-- A cause of R315 stands for slot Cc. -/
def State.sfCause (s : State) (c : Nat) : Bool :=
  decide (s.sf.st ≠ .run) || s.clk.relock.isSome ||
  (s.inA c && s.sf.pinA.cause) || (s.inB c && s.sf.pinB.cause) ||
  (s.sf.stoReq.any fun q => q.2.2.testBit c && s.standing q.1 q.2.1) ||
  ((s.sf.disc || s.standing Flt.SF_STO_DISC 0) && (s.inA c || s.inB c)) ||
  (List.range 16).any fun k =>
    let x := s.con k
    let b := s.rd (Od.SDC_STO_BIT k)
    decide (x.st ≠ .unused) && (s.rd (Od.SDC_STO_SLOTS k)).testBit c && (x.st = .failsafe || (b ≠ 0xFF && !s.sdcBit k b))

/-- Legs of Cc low and held (R314, R105). -/
def State.holdLegs (s : State) (c : Nat) : State :=
  s.each ((List.range 6).map (6 * c + ·)) fun s l =>
    (s.lowerLeg l).updGg l fun g => { g.drop s.now with stoLow := true, stoMet := none }

/-- The processor hold begins, or goes on with a cause: an acknowledgement before no longer counts (R316). -/
def State.sfHold (s : State) (c : Nat) : State :=
  let a := s.inA c; let b := s.inB c
  let s := s.updSf fun x => { x with ackA := x.ackA && !a, ackB := x.ackB && !b, ackAB := x.ackAB && !a && !b }
  if s.pheld c then s
  else (s.updSf fun x => { x with phold := x.phold ||| 2 ^ c }).holdLegs c

/-- The three conditions of R316 for Cc. -/
def State.restartOk (s : State) (c : Nat) : Bool :=
  let r := s.rd Od.SF_RESTART
  let a := s.inA c && r.testBit 0
  let b := s.inB c && r.testBit 1
  !s.stoHeld c && !s.sfCause c && if a && b then s.sf.ackAB else (!a || s.sf.ackA) && (!b || s.sf.ackB)

/-- The hold of Cc ends: its legs return to their requests from an own peak on (R106, R316); assertions of R98 on legs
that have become live are decided. -/
def State.sfRelease (s : State) (c : Nat) : State :=
  let s := s.updSf fun x => { x with phold := x.phold &&& (0xFFFFFFFF - 2 ^ c) }
  let ls := (List.range 6).map (6 * c + ·)
  let s := s.each ls fun s l => (s.startSupply l).updGg l fun g => { g with stoMet := if g.stoLow then some s.now else g.stoMet }
  s.fkNowLive ls

/-! ### Safe outputs (R319 to R321) -/

/-- Group g counts as released: none of its slots is held by either channel. -/
def State.groupFree (s : State) (g : Nat) : Bool := (s.groupSlots g).all fun c => !s.safeHeld c

/-- The source of SOn permits it. -/
def State.soSrc (s : State) (n : Nat) : Bool :=
  let v := s.rd (Od.SF_SO_SRC n)
  match v % 256 with
  | 1 => s.groupFree 0
  | 2 => s.groupFree 1
  | 3 => s.groupFree 0 && s.groupFree 1
  | 4 => (s.con (bits v 11 8)).st = .valid && s.sdcBit (bits v 11 8) (bits v 15 12)
  | _ => false

/-- SOn may be high: its source permits it, it is not latched, and the watchdog has not expired (R308). -/
def State.soWant (s : State) (n : Nat) : Bool := s.soSrc n && !(s.so n).latched && !s.sf.wdExpired

/-- Every safe output follows its source; a latch ends once its instance is CLEAR (R319, R321). -/
def State.soUpdate (s : State) : State :=
  s.each [0, 1, 2, 3] fun s n =>
    let s := if (s.so n).latched && !s.standing Flt.SF_SO_FAULT n then s.updSo n fun o => { o with latched := false } else s
    let w := s.soWant n
    s.updSo n fun o =>
      if w && !o.drv && o.pulse.isNone then { o with drv := true, rb := true, since := s.now }
      else if !w && (o.drv || o.pulse.isSome) then { o with drv := false, rb := if o.latched then o.rb else false, pulse := none }
      else o

/-- The safety core judges every slot afresh, then the outputs follow. -/
def State.sfJudge (s : State) : State :=
  let s := s.each (List.range 32) fun s c => if s.sfCause c then s.sfHold c else s
  let s := s.each (List.range 32) fun s c => if s.pheld c && s.restartOk c then s.sfRelease c else s
  s.soUpdate

/-- A readback disagrees: SOn is latched low (R321). -/
def State.soFault (s : State) (n : Nat) (rb : Bool) : State :=
  (s.updSo n fun o => { o with latched := true, drv := false, pulse := none, rb := rb }).raise Flt.SF_SO_FAULT n

/-- SO_TEST_PULSE: the off-pulse begins; `low` says that the readback followed the falling edge (R320). -/
def State.soPulse (s : State) (n : Nat) (low : Bool) : State :=
  let o := s.so n
  if o.drv && o.pulse.isNone && !s.sf.wdExpired then
    let s := s.at_ (o.since + secs (s.rd (Od.SF_SO_PERIOD n)))
    let s := s.updSo n fun o => { o with drv := false, rb := !low, pulse := some s.now }
    if low then s else s.soFault n true
  else s

/-- SO_PULSE_END: the output rises again where its source still permits it; `high` says that the readback followed. -/
def State.soPulseEnd (s : State) (n : Nat) (high : Bool) : State :=
  match (s.so n).pulse with
  | some t =>
    let s := s.at_ (t + us (s.rd (Od.SF_SO_PULSE n)))
    if s.soWant n then
      let s := s.updSo n fun o => { o with drv := true, rb := high, since := s.now, pulse := none }
      if high then s else s.soFault n false
    else s.updSo n fun o => { o with pulse := none }
  | none => s

/-! ### The hard-wired channel (R105, R308 to R313) -/

/-- The hard-wired channel takes the legs of group g low. -/
def State.hwHold (s : State) (g : Nat) : State := s.each (s.groupSlots g) fun s c => s.holdLegs c

/-- The times of a pair whose demands differ, and the end of the cause of R313. -/
def State.pairStep (s : State) (t : Nat) : State :=
  let a := s.sf.pinA.demand; let b := s.sf.pinB.demand
  s.updSf fun x => { x with
    discSince := if a != b then (x.discSince.orElse fun _ => some t) else none
    disc := x.disc && !(a && b) }

/-- Who acts on a low of `width` ns (R311): bit 0 the hard-wired channel, bit 1 the safety core on its own path. -/
def State.stoSeen (s : State) (width : Nat) : Nat × State :=
  if width < 100 then (0, s) else if width ≥ 250 then (3, s)
  else let (v, s) := s.draw; (v % 4, s)

/-- The pin falls at t and is seen by those that `v` names. -/
def StoPin.fall (p : StoPin) (t v : Nat) : StoPin :=
  { p with low := true, since := t, demand := p.demand || v.testBit 1, cause := p.cause || v.testBit 1 }

/-- STO_ASSERT: pin g goes low at t for `width` ns (R311). Between 100 ns and 250 ns it may or may not count, for the channel
and for the safety core each by itself. -/
def State.stoAssert (s : State) (g t width : Nat) : State :=
  let (v, s) := (s.at_ t).stoSeen width
  if v = 0 then s
  else
    let s := (s.updPin g fun p => p.fall t v).pairStep t
    -- at most 600 ns from the pin to low gates
    let s := s.at_ (t + ns 600)
    let s := if v.testBit 0 then (s.updPin g fun p => { p with hw := true }).hwHold g else s
    s.sfJudge

/-- The same while a reset is held or the device sleeps: the pins alone. -/
def State.stoPinLow (s : State) (g t width : Nat) : State :=
  let (v, s) := (s.at_ t).stoSeen width
  if v = 0 then s else s.updPin g fun p => { p.fall t v with hw := p.hw || v.testBit 0 }

/-- STO_RELEASE: pin g returns high at t; the channel releases its group at most 600 ns later (R311). -/
def State.stoRelease (s : State) (g t : Nat) : State :=
  let s := s.at_ t
  let s := s.updPin g fun p => { p with low := false, since := t, demand := false }
  let s := (s.pairStep t).at_ (t + ns 600)
  (s.updPin g fun p => { p with hw := false }).sfJudge

/-- STO_RELEASE_QUALIFIED: the pin has shown release for 10 ms (R315). -/
def State.stoQualified (s : State) (g : Nat) : State :=
  let p := s.pin g
  if !p.low && p.cause then
    ((s.at_ (p.since + ms 10)).updPin g fun p => { p with cause := false }).sfJudge
  else s

/-- The session ends without effect. -/
def State.sessionAbort (s : State) : State := s.updSf fun x => { x with session := .closed, pendSet := [] }

/-- FAILSAFE: every slot held until reset. -/
def State.sfFail (s : State) : State := (s.updSf fun x => { x with st := .failsafe }).sfJudge

/-- SF_WD_EXPIRY (R308). -/
def State.sfWd (s : State) : State :=
  let s := s.updSf fun x => { x with
    wdExpired := true, pinA := { x.pinA with internal := true }, pinB := { x.pinB with internal := true } }
  let s := (s.hwHold 0).hwHold 1
  let s := (s.sessionAbort).raise Flt.SF_CORE_WD 0
  s.sfFail

/-- SF_STO_HW_MISMATCH on group g (R309). -/
def State.sfMismatch (s : State) (g : Nat) : State :=
  (s.raise Flt.SF_STO_HW g).sfFail

/-- SF_STO_DISC: the demands of a pair have differed for SF_STO_DISC_TIME (R313). -/
def State.stoDisc (s : State) : State :=
  match s.sf.discSince with
  | some t =>
    if s.rd Od.SF_STO_PAIR = 1 && !s.sf.disc then
      let s := s.at_ (t + ms (s.rd Od.SF_STO_DISC_TIME))
      ((s.updSf fun x => { x with disc := true }).raise Flt.SF_STO_DISC 0).sfJudge
    else s
  | none => s

/-- The first two conditions of R316 hold on every slot of group g. -/
def State.groupMet (s : State) (g : Nat) : Bool := (s.groupSlots g).all fun c => !s.stoHeld c && !s.sfCause c

/-- SF_STO_ACK (R317). -/
def State.ownStoAck (s : State) (v : Nat) : Own :=
  if bits v 15 2 ≠ 0 then .error abReserved
  else if v % 4 = 0 then .error abRange
  else if v / 65536 ≠ s.sf.ackSeq || ([0, 1].any fun g => v.testBit g && !s.groupMet g) then .error abSafety
  else
    .ok ((s.updSf fun x => { x with
      ackSeq := (x.ackSeq + 1) % 65536, ackA := x.ackA || v.testBit 0, ackB := x.ackB || v.testBit 1
      ackAB := x.ackAB || (v.testBit 0 && v.testBit 1) }).sfJudge)

/-! ### Proof test (R318) -/

/-- Seconds of the last passed test of group g; its overdue flag. -/
def State.testLast (s : State) (g : Nat) : Nat := if g = 0 then s.sf.testLastA else s.sf.testLastB

/-- The group whose proof test runs: within 2 µs of its begin. -/
def State.testRuns (s : State) : Option Nat :=
  match s.sf.test with
  | some (g, ends) => if s.now < ends then some g else none
  | none => none

/-- SF_PROOF_TEST of group g, which passes or fails within 2 µs. -/
def State.proofTest (s : State) (g : Nat) (pass : Bool) : State :=
  let idle := (s.groupSlots g).all fun c => (List.range 6).all fun j => !(s.leg (6 * c + j)).enabled
  if idle && s.sf.st = .run && decide (sysS s.sysNow > s.testLast g + 3600) then
    let s := s.updSf fun x => { x with test := some (g, s.now + us 2) }
    if pass then s.updSf fun x =>
      if g = 0 then { x with testLastA := sysS s.sysNow, dueA := false } else { x with testLastB := sysS s.sysNow, dueB := false }
    else s.sfMismatch g
  else s

/-- SF_STO_TEST_DUE of group g. -/
def State.testDue (s : State) (g : Nat) : State :=
  let due := if g = 0 then s.sf.dueA else s.sf.dueB
  if due then s
  else
    let T := (s.testLast g + 3600 * s.rd Od.SF_STO_PROOF) * sysSec
    let s := s.at_ (if s.sysNow > T then s.now else s.localOf T)
    (s.updSf fun x => if g = 0 then { x with dueA := true } else { x with dueB := true }).raise Flt.SF_STO_TEST_DUE g

/-! ### Safe data (R322 to R325) -/

/-- The 8 bytes of SEND_TIME and of the TC0 apply time: seconds modulo 2^34 over the nanoseconds field. -/
def shortTime (T : Nat) : Nat := sysS T % 2 ^ 34 * 2 ^ 30 + sysNs T

/-- DATA of a telegram (R322). -/
def State.sdData (s : State) : List Byte :=
  let b0 := packBits [!s.sf.pinA.low, !s.sf.pinB.low, s.groupFree 0, s.groupFree 1, (s.so 0).rb, (s.so 1).rb, (s.so 2).rb,
    (s.so 3).rb]
  let b1 := packBits [(s.so 0).drv, (s.so 1).drv, (s.so 2).drv, (s.so 3).drv]
  leBytes 1 b0 ++ leBytes 1 b1 ++ List.replicate 14 0

/-- SDP_SEND: producer p sends its next telegram, SDP_CYCLE after the last (R323). -/
def State.sdpSend (s : State) (p : Nat) : State :=
  let x := s.sf.prods.getD p {}
  if s.rd (Od.SDP_CONN p) = 0xFFFF || s.ring.nodeId ≥ 1024 then s
  else
    let s := s.at_ (x.lastAt + us (s.rd (Od.SDP_CYCLE p)))
    let body := leBytes 2 (s.rd (Od.SDP_CONN p)) ++ leBytes 2 x.seq ++ leBytes 8 (shortTime s.sysNow) ++ s.sdData
    let tel := body ++ leBytes 4 (crc32c (s.rd (Od.SDP_SEED p)) body)
    let s := s.send 2 0 2 0 tel
    s.updSf fun f => { f with prods := f.prods.modify p fun x => { x with
      seq := (x.seq + 1) % 65536, sent := (x.sent + 1) % 2 ^ 32, lastAt := s.now } }

/-- A copy fails a check (R324). -/
def State.sdReject (s : State) (c : Nat) : State :=
  (s.updCon c fun x => { x with reject := (x.reject + 1) % 65536 }).raise Flt.SF_SD_REJECT c

/-- SEND_TIME lies no more than SDC_WD before the system time T. -/
def sendTimeOk (st T wd : Nat) : Bool :=
  let sec := (sysS T + 2 ^ 34 - st / 2 ^ 30 % 2 ^ 34) % 2 ^ 34
  -- a later second than the own one reads as a large difference: the telegram is not old
  if sec ≥ 2 ^ 33 then true else decide (sec * 1000000000 + sysNs T ≤ st % 2 ^ 30 + wd * 1000000)

/-- The copy passes the checks of R324 at consumer c. -/
def State.sdOk (s : State) (c : Nat) (tel : List Byte) : Bool :=
  let x := s.con c
  tel.length = 32 && leAt tel 28 4 = crc32c (s.rd (Od.SDC_SEED c)) (tel.take 28) && leAt tel 0 2 = s.rd (Od.SDC_CONN c) &&
    (match x.seq with
     | none => true
     | some q => let d := (leAt tel 2 2 + 65536 - q) % 65536; decide (0 < d) && decide (d < 32768)) &&
    sendTimeOk (leAt tel 4 8) s.sysNow (s.rd (Od.SDC_WD c))

/-- A telegram is accepted now. -/
def State.sdAccept (s : State) (c : Nat) (tel : List Byte) : State :=
  (s.updCon c fun x => { x with
    st := .valid, seq := some (leAt tel 2 2), win := none, acceptedAt := s.now, data := seg tel 12 16 }).sfJudge

/-- The skew window of consumer c ends without a second copy. -/
def State.sdSingle (s : State) (c : Nat) : State :=
  match (s.con c).win with
  | none => s
  | some (tel, _) =>
    let s := s.updCon c fun x => { x with win := none, single := (x.single + 1) % 65536 }
    if s.rd (Od.SDC_BOTH c) = 1 then s else (s.raise Flt.SF_SD_SINGLE c).sdAccept c tel

/-- SDC_SKEW_EXPIRY (R324). -/
def State.skewExpiry (s : State) (c : Nat) : State :=
  match (s.con c).win with
  | none => s
  | some (_, t) => (s.at_ (t + us (s.rd (Od.SDC_SKEW c)))).sdSingle c

/-- A valid copy at consumer c: it opens the window, or is the second copy. A copy of a newer SEQ in an open window ends
that window first. -/
def State.sdCopy (s : State) (c : Nat) (tel : List Byte) : State :=
  let s := match (s.con c).win with
    | some (w, _) => if leAt w 2 2 = leAt tel 2 2 then s else s.sdSingle c
    | none => s
  match (s.con c).win with
  | none => s.updCon c fun x => { x with win := some (tel, s.now) }
  | some (w, t) =>
    let s := s.updCon c fun x => { x with skewMax := max x.skewMax ((s.now - t) / 1000000) }
    if w = tel then s.sdAccept c tel
    else (s.updCon c fun x => { x with win := none, mismatch := (x.mismatch + 1) % 65536 }).raise Flt.SF_SD_MISMATCH c

/-- SAFE_TELEGRAM_RX: a copy from node `src` arrives at t. It goes to the connections with its ID, or, where none has it,
to those of its producer, which reject it. -/
def State.telegram (s : State) (src t : Nat) (tel : List Byte) : State :=
  let s := s.at_ t
  let used := (List.range 16).filter fun c => decide ((s.con c).st ≠ .unused)
  let byId := used.filter fun c => s.rd (Od.SDC_CONN c) = leAt tel 0 2
  let dest := if byId = [] then used.filter fun c => s.rd (Od.SDC_PRODUCER c) = src else byId
  s.each dest fun s c => if s.sdOk c tel then s.sdCopy c tel else s.sdReject c

/-- SDC_WD_EXPIRY (R325). -/
def State.sdcExpiry (s : State) (c : Nat) : State :=
  if (s.con c).st = .valid then
    let s := s.at_ ((s.con c).acceptedAt + ms (s.rd (Od.SDC_WD c)))
    let s := s.updCon c fun x => { x with
      st := .failsafe, data := List.replicate 16 0, failsafes := (x.failsafes + 1) % 65536 }
    (s.raise Flt.SF_SD_WD c).sfJudge
  else s

/-- A configuration takes effect on the connections: a used one starts in FAILSAFE, for it has accepted nothing. -/
def State.sdcStart (s : State) : State :=
  s.each (List.range 16) fun s c => s.updCon c fun x =>
    if s.rd (Od.SDC_CONN c) = 0xFFFF then { x with st := .unused, win := none }
    else if x.st = .unused then { x with st := .failsafe, seq := none, data := List.replicate 16 0 } else x

/-! ### The configuration and its session (R327 to R329) -/

/-- The SAFE parameters: every SAFE entry that persists. -/
def safeRows : List OdRow := Od.rows.filter fun r => r.acc = .safe && r.persist
def isSafeKey (k : Nat) : Bool := safeRows.any fun r => r.has (k / 256) (k % 256)

/-- The records of a set of SAFE parameters in ascending order of entry; their CRC-32C (log entry 81). -/
def safeRecords (m : OdStore) : List Byte :=
  safeRows.flatMap fun r => r.entries.flatMap fun e =>
    bankRecord e.1 e.2 r.ty.code (leBytes r.size (m.get (r.reg e.1 e.2)))
def safeCrc (m : OdStore) : Nat := crc32c 0xFFFFFFFF (safeRecords m)

/-- A session command; the time without one counts from here (R329). -/
def State.sessionTouch (s : State) : State := s.updSf fun x => { x with sessionAt := s.now }

/-- SF_SIGNOFF_CMD OPEN. -/
def State.sfOpen (s : State) : Own :=
  if s.sf.session ≠ .closed || s.legsEnabled ≠ 0 then .error abSafety
  else .ok ((s.updSf fun x => { x with session := .opened, pendSet := s.od.filter fun e => isSafeKey e.1 }).sessionTouch)

/-- SF_SO_SRC of every output names a source (R319). -/
def safeOk (m : OdStore) : Bool := [0, 1, 2, 3].all fun n => decide (m.get (Od.SF_SO_SRC n) % 256 ≤ 4)

/-- SF_SIGNOFF_CMD VERIFY. -/
def State.sfVerify (s : State) : Own :=
  if s.sf.session ≠ .opened || !safeOk s.sf.pendSet then .error abSafety
  else .ok ((s.updSf fun x => { x with session := .verified, pendCrc := safeCrc x.pendSet }).sessionTouch)

/-- SF_SIGNOFF_CMD ABORT. -/
def State.sfAbort (s : State) : Own := if s.sf.session = .closed then .error abSafety else .ok s.sessionAbort

/-- SF_SIGNOFF_TIMEOUT: 10 min without a command (R329). -/
def State.sessionTimeout (s : State) : State :=
  if s.sf.session = .closed then s else (s.at_ (s.sf.sessionAt + secs 600)).sessionAbort

/-- A SAFE parameter is written in an OPEN session; it changes the pending set. -/
def State.ownSafeParam (s : State) (r : Reg) (v : Nat) : Own :=
  if s.sf.session ≠ .opened then .error abSafety
  else .ok ((s.updSf fun x => { x with pendSet := x.pendSet.put r v }).sessionTouch)

/-- The pending set becomes the active set (R328). -/
def State.activateSafe (s : State) : State :=
  let od := s.sf.pendSet.foldl (fun (m : OdStore) e => m.insert e.1 e.2) (s.od.filter fun e => !isSafeKey e.1)
  let crc := s.sf.pendCrc
  let s : State := { s with od := od }
  let s := s.updSf fun x => { x with
    session := .closed, pendSet := [], activeCrc := crc, signoffs := (x.signoffs + 1) % 2 ^ 32, signoffTime := s.sysNow
    st := if x.st = .noConfig then .run else x.st }
  s.sdcStart.sfJudge

/-- A SAFE parameter as a read shows it: pending while a session is open or verified. -/
def State.safeVal (s : State) (r : Reg) : Nat := if s.sf.session = .closed then s.rd r else s.sf.pendSet.get r

/-- SF_STO_STATE. -/
def State.stoState (s : State) : Nat :=
  let held (g : Nat) := (s.groupSlots g).any s.pheld
  let awaits (g : Nat) := held g && s.groupMet g && (s.rd Od.SF_RESTART).testBit g
  packBits [s.sf.pinA.low, s.sf.pinB.low, s.sf.hwA, s.sf.hwB, held 0, held 1, awaits 0, awaits 1, s.testRuns.isSome]

/-- SF_SO_STATE. -/
def State.soState (s : State) : Nat :=
  packBits ((s.sf.outs.map (·.drv)) ++ (s.sf.outs.map (·.rb)) ++ (s.sf.outs.map (·.latched)))

end Sys2Proof.Machine
end

