-- ==== Sys2Proof/Machine/LaneOps.lean ====
section
/-! DEFINITION. The lanes: states, training and version negotiation, modules, test patterns, error counts (14). -/

namespace Sys2Proof.Machine

/-- A counter of 32 bits one further, and `k` further. -/
def up32 (n : Nat) : Nat := (n + 1) % 2 ^ 32
def add32 (n k : Nat) : Nat := (n + k) % 2 ^ 32

/-- LANE_CTRL fields: ENABLE, HOLD, LOOP, TEST (R356). -/
def State.laneCtrl (s : State) (n : Nat) : Nat := s.rd (Od.LANE_CTRL n)
def State.laneOn (s : State) (n : Nat) : Bool := s.usesLane n && (s.laneCtrl n).testBit 0
def State.laneHold (s : State) (n : Nat) : Bool := (s.laneCtrl n).testBit 1
def loopOf (v : Nat) : Nat := bits v 4 2
def testOf (v : Nat) : Nat := bits v 7 5

/-- The output lane of the same port and rotation as receive lane n (R358, R369). -/
def outLane (n : Nat) : Nat := n ^^^ 1

/-- The device is its own time source: the active manager, or a system of one (R22, R404). -/
def State.isSource (s : State) : Bool := s.mgr.st = .active || s.mgr.st = .alone

/-- TM_UPSTREAM: the lane roll call chose while it is UP, else the receive lane of the other rotation (R398). -/
def State.seeUpstream (s : State) : State :=
  let c := s.tb.chosen
  let u := if c ≥ 4 then 0xFF
    else if (s.lane c).st = .up then c
    else if (s.lane (outLane c)).st = .up then outLane c else 0xFF
  { s with tb := { s.tb with upstream := u } }

/-- RING_STATE while no roll call is committed: JOINING with a lane UP, ALONE with none. -/
def State.seeRing (s : State) : State :=
  if s.ring.committed then s
  else s.updRing fun r => { r with st := if (s.lanes.any fun x => x.st = .up) then .joining else .alone }

/-- A frame in passage ends with an ERR block on each output lane it is being sent on: bit m of the mask, lane m (R342, R351,
log entry 112). -/
def State.errOut (s : State) (cause mask : Nat) : State :=
  (List.range 4).foldl (fun s m =>
    if mask.testBit m && (s.lane m).st = .up then (s.updLane m fun x => { x with errTx := up32 x.errTx }).emit (.errBlock m cause)
    else s) s

/-- The lane leaves UP, if it is UP: LANE_DOWN, and the frames that wait for it are discarded (R350, R359). -/
def State.leaveUp (s : State) (n : Nat) : State :=
  if (s.lane n).st = .up then
    let w := s.ring.waiting
    let s := s.raise Flt.LANE_DOWN n
    s.updRing fun r => { r with
      waiting := w.filter fun x => x.lane ≠ n
      edgeDrops := add32 r.edgeDrops (w.countP fun x => x.lane = n) }
  else s

/-- The lane takes another state than UP. -/
def State.laneTo (s : State) (n : Nat) (st : LaneState) : State :=
  ((s.leaveUp n).updLane n fun x => { x with st := st, ver := 0, peerOk := false, trainRun := 0, upRun := 0 }).seeUpstream.seeRing

/-- LOCKING; with BLOCK_LOCK held the lane goes on to TRAINING (R348). -/
def State.toLocking (s : State) (n : Nat) : State :=
  (s.laneTo n (if (s.lane n).blockLock then .training else .locking)).updLane n fun x => { x with lockingAt := s.now }

/-- The lane leaves OFF, if ENABLE and LINK allow (R348). -/
def State.laneStart (s : State) (n : Nat) : State :=
  if (s.lane n).st = .off && s.laneOn n && s.domOn domLink then
    if s.laneHold n then s.laneTo n .hold else s.toLocking n
  else s

/-- The lane goes OFF, and its receiver loses what it had. -/
def State.laneOff (s : State) (n : Nat) : State :=
  (s.laneTo n .off).updLane n fun x => { x with
    rxLock := false, blockLock := false, hiBer := false, peerRxOk := false, prbsLock := false }

/-- LINK wakes; LINK goes off (R348). -/
def State.linkUp (s : State) : State := s.each (List.range 4) State.laneStart
def State.linkDown (s : State) : State := s.each (List.range 4) State.laneOff

/-- PLL_LINK gains or loses lock: every lane that trains or is UP enters LOCKING (R480). -/
def State.linkRestart (s : State) : State :=
  s.each (List.range 4) fun s n =>
    let st := (s.lane n).st
    let s := s.updLane n fun x => { x with blockLock := false, rxLock := false }
    if st = .up || st = .training || st = .locking then s.toLocking n else s

/-- LANE_CTRL (R339, R348, R353). -/
def State.ownLaneCtrl (s : State) (n v : Nat) : Own :=
  let old := s.laneCtrl n
  let x := s.lane n
  if v.testBit 0 && (!s.usesLane n || s.bist.held.testBit (14 + n)) then .error abState
  else if (loopOf v ≠ 0 || testOf v ≠ 0) && x.st ≠ .hold then .error abState
  else
    -- clearing HOLD ends TEST and LOOP
    let v := if v.testBit 1 then v else v - testOf v * 32 - loopOf v * 4
    let s := s.wr (Od.LANE_CTRL n) v
    let s := if testOf v ≠ 0 || testOf old ≠ 0 then
      s.updLane n fun x => { x with prbsErr := 0, prbsBits := 0, prbsLock := false } else s
    .ok (if !s.laneOn n then s.laneOff n
      else if x.st = .off then s.laneStart n
      else if v.testBit 1 then (if x.st = .hold then s else s.laneTo n .hold)
      else if x.st = .hold then s.toLocking n else s)

/-- LANE_CTRL with one field replaced: ENABLE at bit 0, HOLD at bit 1, LOOP from bit 2, TEST from bit 5. -/
def withField (old lo width v : Nat) : Nat := old - bits old (lo + width - 1) lo * 2 ^ lo + v % 2 ^ width * 2 ^ lo

/-- LANE_CNT_CLR and LANE_STATUS_CLR (R356). -/
def State.laneCntClr (s : State) (n : Nat) : State :=
  s.updLane n fun x => { x with
    badHdr := 0, badType := 0, lockLoss := 0, hiBers := 0, ins := 0, del := 0, elasticErr := 0, errRx := 0, errTx := 0
    trains := 0, prbsErr := 0, prbsBits := 0 }
def State.ownLaneClr (s : State) (n v : Nat) : Own :=
  .ok (s.updLane n fun x => { x with elastic := x.elastic && !v.testBit 11 })

/-! ### Modules (R337, R338) -/

/-- The compliance codes of SFF-8472 page A0h name a medium of R337: 10GBASE-SR, 10GBASE-LR, passive copper (PRESUMED
places, log entry 91). -/
def moduleOk (m : List Byte) : Bool :=
  ((m.getD 3 0).toNat.testBit 4) || ((m.getD 3 0).toNat.testBit 5) || ((m.getD 8 0).toNat.testBit 2)

/-- A module is shown present and has been read. -/
def State.moduleDetect (s : State) (n : Nat) (page : List Byte) : State :=
  let m := (page ++ List.replicate 64 0).take 64
  let s := s.updLane n fun x => { x with modAbs := false, module := m, modUnsup := !moduleOk m }
  if moduleOk m then s else s.raise Flt.LANE_MODULE n

/-- The module has gone. -/
def State.moduleAbsent (s : State) (n : Nat) : State :=
  let s := s.updLane n fun x => { x with modAbs := true, modUnsup := false }
  if s.laneOn n then s.raise Flt.LANE_MODULE n else s

/-! ### The receiver (R344 to R346, R349 to R353) -/

/-- 64 valid headers: BLOCK_LOCK (R345). -/
def State.blockLock (s : State) (n : Nat) : State :=
  if (s.lane n).st = .off then s
  else
    let s := s.updLane n fun x => { x with rxLock := true, blockLock := true }
    if (s.lane n).st = .locking then s.updLane n fun x => { x with st := .training } else s

/-- 16 invalid headers in 64 blocks: BLOCK_LOCK is lost. An UP lane goes to LOCKING, and so does a TRAINING lane. -/
def State.blockLockLoss (s : State) (n passing : Nat) : State :=
  let x := s.lane n
  if !x.blockLock then s
  else
    let s := s.updLane n fun x => { x with blockLock := false, lockLoss := up32 x.lockLoss, badHdr := add32 x.badHdr 16 }
    if x.st = .up then (s.errOut 1 passing).toLocking n
    else if x.st = .training then s.updLane n fun x => { x with st := .locking, trainRun := 0, upRun := 0, peerOk := false }
    else s

/-- A span of 125 µs with a number of invalid headers (R345). -/
def State.hiBerSpan (s : State) (n bad passing : Nat) : State :=
  let x := s.lane n
  let s := s.updLane n fun x => { x with badHdr := add32 x.badHdr bad, hiBer := decide (bad ≥ 16) }
  if bad ≥ 16 && !x.hiBer then
    let s := (s.updLane n fun x => { x with hiBers := up32 x.hiBers }).raise Flt.LANE_HI_BER n
    if x.st = .up then (s.errOut 1 passing).toLocking n else s
  else s

/-- The elastic buffer overflows or underflows (R346). -/
def State.elasticError (s : State) (n passing : Nat) : State :=
  let s := s.updLane n fun x => { x with fill := 4, elasticErr := up32 x.elasticErr, elastic := true }
  (s.raise Flt.LANE_ELASTIC n).errOut 2 passing

/-- One second of rate matching: insertions, deletions, blocks read, and the fill at its end (R346). -/
def State.ppmMeasure (s : State) (n ins del blocks fill : Nat) : State :=
  let diff : Int := (del : Int) - ins
  let high := decide (diff.natAbs * 1000000 > 250 * blocks)
  let was := (s.lane n).ppmHigh
  let s := s.updLane n fun x => { x with
    ins := add32 x.ins ins, del := add32 x.del del, fill := fill
    ppm := if blocks = 0 then 0 else (diff * 100000000).tdiv blocks
    ppmHigh := high }
  if high && !was then s.raise Flt.LANE_PPM n else s

/-- CRC-8 with polynomial 0x07 and initial value 0x00 over bytes (R347, R365). -/
def crc8 (l : List Byte) : Nat :=
  l.foldl (fun r b => iter (fun x => if x ≥ 128 then (2 * x % 256) ^^^ 7 else 2 * x) 8 (r ^^^ b.toNat)) 0

/-! ### Scrambling (R341) -/

/-- One payload bit through 1 + x³⁹ + x⁵⁸, given the last 58 line bits, the latest in bit 0: scrambling and descrambling form
the same sum. -/
def scrSum (st : Nat) (b : Bool) : Bool := (b != st.testBit 38) != st.testBit 57

/-- The last 58 line bits after one more. -/
def scrPush (st : Nat) (line : Bool) : Nat := (2 * st + b2n line) % 2 ^ 58

/-- The 64 bits of a payload through the scrambler, bit 0 first: the line bits, and the state after them. -/
def scramble (st p : Nat) : Nat × Nat :=
  (List.range 64).foldl (fun a i =>
    let y := scrSum a.2 (p.testBit i)
    (a.1 + b2n y * 2 ^ i, scrPush a.2 y)) (0, st)

/-- The 64 line bits of a payload through the descrambler: the payload, and the state after them. -/
def descramble (st line : Nat) : Nat × Nat :=
  (List.range 64).foldl (fun a i =>
    (a.1 + b2n (scrSum a.2 (line.testBit i)) * 2 ^ i, scrPush a.2 (line.testBit i))) (0, st)

/-- The descrambler of lane n takes in the line bits of a block, after those before it. -/
def State.rxLine (s : State) (n before line : Nat) : State :=
  if (s.lane n).st = .off then s else s.updLane n fun x => { x with descr := (descramble before line).2 }

/-- A TIME block with payload p leaves on lane n. What the scrambler holds before it depends on the blocks since the last one,
whose number and order stay open (log entry 203). -/
def State.txTime (s : State) (n p : Nat) : State :=
  let (v, s) := s.draw
  let (line, st) := scramble (v % 2 ^ 58) p
  (s.updLane n fun x => { x with scr := st }).emit (.timeBlock n p line)

/-- A TRAIN block is valid: CHK over bits [55:8], reserved fields 0 (R347). -/
def trainValid (p : Nat) : Bool :=
  decide (bits p 63 56 = crc8 (leBytes 6 (bits p 55 8))) && decide (bits p 9 8 ≤ 1) && decide (bits p 15 14 = 0)

/-- The version of R349 with a peer that supports lo to hi; the device supports version 1 only. -/
def commonVersion (lo hi : Nat) : Option Nat := if min 1 hi ≥ max 1 lo then some (min 1 hi) else none

/-- A newcomer with this DEV_TAG is reported to the active manager: its partial roll call waits for a full one that runs
(R363, R389). -/
def State.noteJoin (s : State) (tag : Nat) : State :=
  if !s.isSource || s.ring.rolling.isSome || s.ring.joins.contains tag then s
  else s.updRing fun r => { r with joins := tag :: r.joins }

/-- Lane n has come UP toward a device that roll call has not recorded: a join report goes to the active manager (R363, log
entry 204). -/
def State.reportJoin (s : State) (n : Nat) : State :=
  let tag := bits (s.lane n).peer 55 40
  if s.ring.st ≠ .run || (s.ring.serials.any fun q => q % 2 ^ 16 = tag) then s
  else if s.isSource then s.noteJoin tag
  else s.send 9 0 3 0 (leBytes 1 3 ++ leBytes 2 tag ++ leBytes 1 n)

/-- The lane enters UP (R349). -/
def State.laneUp (s : State) (n v : Nat) : State :=
  ((s.updLane n fun x => { x with
    st := .up, ver := v, upSince := s.sysNow, upCount := up32 x.upCount, upAt := s.now, trainEp := false, trainRun := 0
    upRun := 0, timeTx := 0, stampDep := none, stampRx := none }).seeUpstream.seeRing).reportJoin n

/-- A TRAIN block with payload p arrives (R349, R350). -/
def State.trainBlock (s : State) (n p passing : Nat) : State :=
  let x := s.lane n
  if x.st = .off || !x.blockLock then s
  else if !trainValid p then s.updLane n fun x => { x with trainRun := 0, upRun := 0 }
  else
    let s := s.updLane n fun x => { x with peer := p, peerRxOk := p.testBit 10 }
    let peerAccepts := p.testBit 11
    if x.st = .up then
      if (!peerAccepts || bits p 9 8 = 0) && s.now ≥ x.upAt + 409600 then (s.errOut 1 passing).toLocking n else s
    else if x.st = .training then
      let run := x.trainRun + 1
      let v := commonVersion (bits p 23 16) (bits p 31 24)
      let hits := x.peerOk && peerAccepts && v = some (bits p 39 32)
      let upRun := if hits then x.upRun + 1 else 0
      let s := s.updLane n fun x => { x with trainRun := run, upRun := upRun }
      if run < 8 then s
      else match v with
        | some v =>
          let s := s.updLane n fun x => { x with peerOk := true, verMismatch := false }
          if upRun ≥ 8 then s.laneUp n v else s
        | none =>
          let s := s.updLane n fun x => { x with peerOk := false, verMismatch := true }
          if x.verMismatch then s else s.raise Flt.LANE_VERSION n
    else s

/-- A HOLD block arrives (R350). -/
def State.holdBlock (s : State) (n passing : Nat) : State :=
  if (s.lane n).st = .up then (s.errOut 1 passing).toLocking n else s

/-- An ERR block arrives: the frame in passage is aborted (R342, R343). -/
def State.errBlock (s : State) (n passing : Nat) : State :=
  (s.updLane n fun x => { x with errRx := up32 x.errRx }).errOut 3 passing

/-- SFPn_LOS changes (R350). -/
def State.sfpLos (s : State) (n : Nat) (on : Bool) (passing : Nat) : State :=
  let s := s.updLane n fun x => { x with los := on }
  if on && (s.lane n).st = .up then (s.errOut 1 passing).toLocking n else s

/-- The input of the lane stops (R350, R351). -/
def State.inputLost (s : State) (n passing : Nat) : State :=
  let s := (s.errOut 1 passing).updLane n fun x => { x with rxLock := false, blockLock := false }
  if (s.lane n).st = .up then s.toLocking n
  else if (s.lane n).st = .training then s.updLane n fun x => { x with st := .locking, trainRun := 0, upRun := 0, peerOk := false }
  else s

/-- 100 ms after LOCKING began the lane is not UP (R352). -/
def State.trainTimeout (s : State) (n : Nat) : State :=
  let x := s.lane n
  if x.st = .locking || x.st = .training then
    let s := s.at_ (x.lockingAt + ms 100)
    let s := s.updLane n fun x => { x with trains := up32 x.trains, trainEp := true }
    let s := if x.trainEp then s else s.raise Flt.LANE_TRAIN n
    s.toLocking n
  else s

/-- The pattern checker has found its pattern and has checked bits, some of them in error (R353). -/
def State.prbsSeen (s : State) (n checked errs : Nat) : State :=
  let x := s.lane n
  if x.st = .hold && testOf (s.laneCtrl n) ≠ 0 then
    s.updLane n fun x => { x with
      prbsLock := true
      prbsErr := min (2 ^ 64 - 1) (x.prbsErr + errs)
      prbsBits := (x.prbsBits + checked) % 2 ^ 64 }
  else s

/-- A received block sequence of R344: an invalid header, or a block that does not fit; a frame in passage is aborted. -/
def State.badBlock (s : State) (n : Nat) (hdr : Bool) (passing : Nat) : State :=
  (s.updLane n fun x =>
    if hdr then { x with badHdr := up32 x.badHdr } else { x with badType := up32 x.badType }).errOut 3 passing

/-- LANE_STATE and LANE_STATUS (R348, R356). -/
def LaneState.code : LaneState → Nat
  | .off => 0 | .hold => 1 | .locking => 2 | .training => 3 | .up => 4
def Lane.status (x : Lane) : Nat :=
  [x.rxLock, x.blockLock, x.hiBer, x.los, x.modAbs, x.peerOk, x.peerRxOk, x.verMismatch, x.prbsLock, x.modUnsup, x.ppmHigh,
    x.elastic].foldr (fun b n => b2n b + 2 * n) 0

end Sys2Proof.Machine
end

