-- ==== Sys2Proof/Machine/TimeOps.lean ====
section
/-! DEFINITION. The time base: rate and step, TIME blocks, the servo and its states, PTP, PPS, bells and TRIG pins (16).
Offsets and delays are counted in 2^-16 ns. -/

namespace Sys2Proof.Machine

/-- The time base changed; PTP instance d, bell b and pin TRIGn. -/
def State.updTb (s : State) (f : TimeBase → TimeBase) : State := { s with tb := f s.tb }
def State.ptp (s : State) (d : Nat) : Ptp := s.tb.ptps.getD d {}
def State.updPtp (s : State) (d : Nat) (f : Ptp → Ptp) : State := s.updTb fun t => { t with ptps := t.ptps.modify d f }
def State.bell (s : State) (b : Nat) : Bell := s.tb.bells.getD b {}
def State.updBell (s : State) (b : Nat) (f : Bell → Bell) : State := s.updTb fun t => { t with bells := t.bells.modify b f }
def State.trig (s : State) (n : Nat) : Trig := s.tb.trigs.getD n {}
def State.updTrig (s : State) (n : Nat) (f : Trig → Trig) : State := s.updTb fun t => { t with trigs := t.trigs.modify n f }

/-- ns and ps in units of 2^-16 ns. -/
def nsQ (n : Nat) : Int := (n * 65536 : Nat)
def psQ (p : Int) : Int := p * 65536 / 1000

/-! ### Rate and step (R395 to R397) -/

/-- The rate correction set from now on, within ±150 ppm. -/
def State.setRate (s : State) (rho : Int) : State :=
  let T := s.sysNow
  s.updTb fun t => { t.cutAt s.now with sys0 := T, base := s.now, rho := max (-150000) (min rho 150000) }

/-- BELL_START and BELL_PERIOD as system times. -/
def State.bellStart (s : State) (b : Nat) : Nat := timeOf (s.rd (Od.BELL_START b))
def State.bellPeriod (s : State) (b : Nat) : Nat := sysNsU (s.rd (Od.BELL_PERIOD b))
/-- System time of grid point k of bell b. -/
def State.bellAt (s : State) (b k : Nat) : Nat := s.bellStart b + k * s.bellPeriod b

/-- Number of the first grid point of bell b after system time T. -/
def State.bellAfter (s : State) (b T : Nat) : Nat :=
  if T < s.bellStart b then 0 else (T - s.bellStart b) / s.bellPeriod b + 1

/-- A step moves every armed or ringing bell to the first grid point after the new time; points passed over are counted
(R413). -/
def State.bellsAfterStep (s : State) (T : Nat) : State :=
  s.each (List.range 64) fun s b =>
    if (s.bell b).st = .idle then s
    else
      let k := s.bellAfter b T
      let skipped := k - (s.bell b).next
      (s.updBell b fun x => { x with next := k }).updTb fun t => { t with bellSkips := add32 t.bellSkips skipped }

/-- System time steps to T: carriers stop or return to STOPPED (R396). -/
def State.stepTo (s : State) (T : Nat) : State :=
  let s := (s.each (List.range 64) State.haltCar).discardStarts
  let s := s.updTb fun t => { t.cutAt s.now with sys0 := T, base := s.now, steps := up32 t.steps }
  s.bellsAfterStep T

/-- A step by an offset. -/
def State.stepBy (s : State) (o : Int) : State := s.stepTo ((s.sysNow : Int) + o).toNat

/-- FREERUN, as after a reset and after a wake of LINK (R403). -/
def State.toFreerun (s : State) : State :=
  (s.setRate 0).updTb fun t => { t with
    st := .freerun, ref := .none, okMs := 0, alarm := false, integ := 0, rhos := [], rhoHold := 0 }

/-! ### The reference (R398, R403 to R407) -/

/-- A STAMP has arrived on either rotation in the last 1 ms (R403). -/
def State.stamped (s : State) : Bool :=
  [0, 1].any fun n => match (s.lane n).stampAt with
    | some t => decide (s.now ≤ t + ms 1)
    | none => false

/-- Instance d is enabled and usable. -/
def State.ptpOn (s : State) (d : Nat) : Bool := (s.rd (Od.PTP_CTRL d)).testBit 0
def State.ptpUsable (s : State) (d : Nat) : Bool := s.ptpOn d && (s.ptp d).usable

/-- The first usable source in the order of TM_SRC (R407). -/
def State.sourceOf (s : State) : TmRef :=
  let pps : List TmRef := if s.tb.ppsUsable && (s.rd Od.TM_PPS_IN_CTRL).testBit 0 then [.pps] else []
  let p (d : Nat) : List TmRef := if s.ptpUsable d then [.ptp d] else []
  let l := match s.rd Od.TM_SRC with
    | 1 => p 0 ++ p 1 ++ pps
    | 2 => p 1 ++ p 0 ++ pps
    | 3 => pps
    | _ => []
  l.headD .none

/-- The reference that is present now. -/
def State.reference (s : State) : TmRef :=
  if s.isSource then s.sourceOf
  else if s.tb.upstream < 4 && s.stamped then .lane s.tb.upstream else .none

/-- HOLDOVER: ρ frozen at ρ_hold (R403). -/
def State.toHoldover (s : State) : State :=
  let s := (s.setRate s.tb.rhoHold).updTb fun t => { t with st := .holdover, ref := .none, holdSince := s.sysNow, okMs := 0, alarm := false }
  s.raise Flt.TIME_REF_LOST 0

/-- The reference is looked at again: another one is taken, or the last one is lost. -/
def State.seeSource (s : State) : State :=
  let r := s.reference
  if r = .none then
    if s.tb.st = .acquiring || s.tb.st = .locked || s.tb.st = .slewing then s.toHoldover
    else s.updTb fun t => { t with ref := .none }
  else s.updTb fun t => { t with ref := r }

/-- TM_REF_LOST: a follower has had no STAMP for 1 ms; a manager's last source is lost. -/
def State.refLost (s : State) : State :=
  let last := [0, 1].foldl (fun a n => match (s.lane n).stampAt with
    | some t => max a (t + ms 1 + 1)
    | none => a) 0
  let s := if s.isSource || last = 0 then s else s.at_ last
  s.seeSource

/-- The device becomes the time source of the trunk (R404): it keeps time and ρ, in HOLDOVER until it has a reference of
its own; a device that has never had one stays in FREERUN. -/
def State.becomeSource (s : State) : State :=
  if s.tb.st = .freerun then s.seeSource
  else if s.sourceOf = .none then (if s.tb.st = .holdover then s else
    let rho := s.tb.rho
    (s.toHoldover).setRate rho)
  else s.seeSource

/-! ### The servo (R397, R402, R403) -/

/-- The offset this millisecond gives for the reference present; none where no measurement came. -/
def State.offsetNow (s : State) : Option Int :=
  match s.tb.ref with
  | .none => none
  | .lane n => if (s.lane n).oN = 0 then none else some ((s.lane n).oSum / (s.lane n).oN)
  | .ptp d => some (s.ptp d).offset
  | .pps => some s.tb.ppsOff

/-- Entry into SLEWING. -/
def State.toSlewing (s : State) : State :=
  (s.updTb fun t => { t with st := .slewing, slews := up32 t.slews, slewed := true, okMs := 0, alarm := false }).raise
    Flt.TIME_SLEW 0

/-- An exact number as the nearest whole number. -/
def nearest (r : Rat) : Int := (r + mkRat 1 2).floor

/-- The control law on an offset (R402): ρ, I and ρ_hold in ppb; o in 2^-16 ns. -/
def State.servo (s : State) (o : Int) : State :=
  let ons : Rat := mkRat o 65536
  let kp := F32.toRat (s.rd Od.TM_KP) * 1000
  let ki := F32.toRat (s.rd Od.TM_KI) * 1000
  let i := s.tb.integ + ki * ons
  let lo := s.tb.rhoHold - 50000
  let hi := s.tb.rhoHold + 50000
  let rho := max lo (min (nearest (kp * ons + i)) hi)
  (s.setRate rho).updTb fun t => { t with integ := max (-150000) (min i 150000) }

/-- The judgements on a millisecond's offset: ρ_hold, lock and alarm (R402). -/
def State.judge (s : State) (o : Int) : State :=
  let ok := decide ((o.natAbs : Int) ≤ nsQ (s.rd Od.TM_LOCK_TOL))
  let hold := if ok && s.tb.rhos ≠ [] then s.tb.rhos.foldl (· + ·) 0 / (s.tb.rhos.length : Int) else s.tb.rhoHold
  let n := if ok then s.tb.okMs + 1 else 0
  let s := s.updTb fun t => { t with
    o := o, rhoHold := hold, okMs := n
    st := if t.st = .acquiring && decide (n ≥ 100) then .locked else t.st }
  let bad := s.tb.st = .locked && !s.isSource && decide ((o.natAbs : Int) > nsQ (s.rd Od.TM_ALARM))
  let was := s.tb.alarm
  let s := s.updTb fun t => { t with alarm := bad }
  if bad && !was then s.raise Flt.TIME_OFFSET 0 else s

/-- What an offset does (R397, R403): a step with every leg stopped, else a slew beyond TM_STEP_THR, else the servo. -/
def State.takeOffset (s : State) (o : Int) : State :=
  let far := decide ((o.natAbs : Int) > nsQ (s.rd Od.TM_STEP_THR))
  let legs := decide (s.legsEnabled > 0)
  let fresh := s.tb.st = .freerun || s.tb.st = .holdover
  if far && legs then
    let s := if s.tb.st = .slewing then s else s.toSlewing
    let s := s.setRate (s.tb.rhoHold + if o > 0 then 50000 else -50000)
    s.updTb fun t => { t with o := o }
  else
    let s := if fresh || s.tb.st = .slewing then s.updTb fun t => { t with st := .acquiring, okMs := 0 } else s
    if far then (s.stepBy o).judge 0 else (s.servo o).judge o

/-- TM_SERVO_TICK: ρ of the millisecond that ends joins those of the last second, the lanes publish their means, and the servo acts on this millisecond's offset. -/
def State.servoTick (s : State) : State :=
  let s := (s.at_ (ms (s.tb.tick + 1))).updTb fun t => { t with
    tick := max (t.tick + 1) (s.now / ms 1), rhos := (t.rho :: t.rhos).take 1000 }
  let s := s.seeSource
  let o := s.offsetNow
  let s := s.each (List.range 4) fun s n => s.updLane n fun x => { x with
    linkDelay := if x.dN = 0 then x.linkDelay else (max 0 (x.dSum / x.dN * 1000 / 65536)).toNat
    offset := if x.oN = 0 then x.offset else x.oSum / x.oN * 1000 / 65536
    dSum := 0, dN := 0, oSum := 0, oN := 0 }
  match o with
  | some o => s.takeOffset o
  | none => s

/-! ### TIME blocks (R399 to R401) -/

/-- A STAMP payload that leaves at system time T. -/
def stampWord (seq T : Nat) : Nat :=
  0x5A + seq % 64 * 2 ^ 10 + sysS T % 4 * 2 ^ 16 + T % 65536 * 2 ^ 18 + sysNs T * 2 ^ 34

/-- TIME_BLOCK_TX: the next TIME block of an UP lane (R399). -/
def State.timeBlockTx (s : State) (n : Nat) : State :=
  let x := s.lane n
  if x.st ≠ .up then s
  else
    let s := s.at_ (x.upAt + (x.timeTx + 1) * 13107200)
    let dep := s.sysNow + (psQ (Config.txLat n)).toNat
    let i := x.timeTx
    let s := s.updLane n fun x => { x with timeTx := i + 1 }
    if i % 16 = 15 then s.txTime n (0x5A + 2 * 2 ^ 8 + sysS dep % 2 ^ 48 * 2 ^ 16)
    else match (if i % 2 = 1 then x.stampRx else none) with
      | some (q, arr) =>
        let turn := dep - arr
        (s.updLane n fun x => { x with stampRx := none }).txTime n
          (0x5A + 2 ^ 8 + q * 2 ^ 10 + turn % 65536 * 2 ^ 18 + turn / 65536 % 2 ^ 30 * 2 ^ 34)
      | none =>
        (s.updLane n fun x => { x with stampSeq := (x.stampSeq + 1) % 64, stampDep := some (x.stampSeq, dep) }).txTime n
          (stampWord x.stampSeq dep)

/-- The seconds of a STAMP that arrives at system time T, from its low two bits, the last SECONDS of the lane and the
receiver's own upper bits (R399): the value nearest to what is known. -/
def State.stampSeconds (s : State) (n sec T : Nat) : Nat :=
  let near := match (s.lane n).secRx with
    | some (q, t) => sysS T / 2 ^ 48 * 2 ^ 48 + q + (s.now - t) / secs 1
    | none => sysS T
  let up := near + (sec + 4 - near % 4) % 4
  if up - near > 2 && up ≥ 4 then up - 4 else up

/-- A TIME block with payload p arrives on lane n at local time t (R400, R401). -/
def State.timeBlockRx (s : State) (n p t : Nat) : State :=
  let s := s.at_ t
  if (s.lane n).st ≠ .up then s
  else
    let arr : Int := (s.sysAt t : Int) - psQ (Config.rxLat n)
    let msg := bits p 9 8
    if msg = 0 then
      let dep : Int := (s.stampSeconds n (bits p 17 16) arr.toNat * sysSec + bits p 63 34 * 65536 + bits p 33 18 : Nat)
      let s := s.updLane n fun x => { x with
        stampRx := some (bits p 15 10, arr.toNat), stampAt := some s.now
        oSum := match x.d with | some d => x.oSum + (dep + d - arr) | none => x.oSum
        oN := if x.d.isSome then x.oN + 1 else x.oN }
      s.updTb fun t => { t with ref := s.reference }
    else if msg = 1 then
      match (s.lane n).stampDep with
      | some (q, dep) =>
        if q = bits p 15 10 then
          let turn : Int := (bits p 63 34 * 65536 + bits p 33 18 : Nat)
          let a := psQ (toSigned 32 (s.rd (Od.TM_ASYM n)))
          let d := ((arr - dep) - turn) / 2 + a / 2
          s.updLane n fun x => { x with d := some d, dSum := x.dSum + d, dN := x.dN + 1 }
        else s
      | none => s
    else if msg = 2 then s.updLane n fun x => { x with secRx := some (bits p 63 16, s.now) }
    else s

/-! ### PTP and PPS_IN (R405 to R409) -/

/-- An instance is lost. -/
def State.ptpLose (s : State) (d : Nat) : State :=
  let was := (s.ptp d).lost
  let s := s.updPtp d fun x => { x with lost := true, usable := false, agree := 0 }
  (if was then s else s.raise Flt.TIME_PTP_LOST d).seeSource

/-- A Sync of instance d has given an offset, a mean path delay and the logged Sync interval (R406). -/
def State.ptpSync (s : State) (d : Nat) (o : Int) (delay : Nat) (logSync : Int) : State :=
  if !s.ptpOn d then s
  else
    let x := s.ptp d
    let lo := if x.agree = 0 then o else min x.lo o
    let hi := if x.agree = 0 then o else max x.hi o
    let agrees := decide (hi - lo ≤ nsQ (s.rd Od.TM_LOCK_TOL + 16))
    let n := if agrees then x.agree + 1 else 1
    let s := s.updPtp d fun x => { x with
      heard := true, offset := o, delay := delay, logSync := logSync, lastSync := s.now
      agree := n, lo := if agrees then lo else o, hi := if agrees then hi else o
      usable := !x.arb && (x.usable || decide (n ≥ 16))
      lost := x.lost && (x.arb || decide (n < 16)) }
    s.seeSource

/-- PTP_LOST: no Sync for PTP_TMO. -/
def State.ptpLost (s : State) (d : Nat) : State :=
  let x := s.ptp d
  if s.ptpOn d && !x.lost then (s.at_ (x.lastSync + ms (s.rd (Od.PTP_TMO d)))).ptpLose d else s

/-- An Announce: the time transmitter, whether its timescale is ARB, steps removed (R405, R406). -/
def State.ptpAnnounce (s : State) (d : Nat) (gm : List Byte) (arb : Bool) (steps : Nat) : State :=
  if !s.ptpOn d then s
  else
    let x := s.ptp d
    let changed := x.heard && x.gm ≠ gm
    let s := s.updPtp d fun x => { x with heard := true, gm := gm, arb := arb, steps := steps }
    if arb || changed then s.ptpLose d else s

/-- PTP_CTRL and PTP_DOMAIN: an instance enabled or reconfigured starts afresh. -/
def State.ownPtp (s : State) (d : Nat) (r : Reg) (v : Nat) : Own :=
  .ok (((s.wr r v).updPtp d fun _ => { lastSync := s.now }).seeSource)

/-- PTP_STATE (R420). -/
def State.ptpState (s : State) (d : Nat) : Nat :=
  let x := s.ptp d
  if !s.ptpOn d then 0 else if x.lost then 4 else if x.usable then 3 else if x.heard then 2 else 1

/-- An accepted edge on PPS_IN at local time t (R408). -/
def State.ppsEdge (s : State) (t : Nat) (falling : Bool) : State :=
  let c := s.rd Od.TM_PPS_IN_CTRL
  let s := s.at_ t
  if c.testBit 0 && c.testBit 1 = falling then
    let T := s.sysAt t
    let o : Int := ((T + sysSec / 2) / sysSec * sysSec : Nat) - (T : Int)
    (s.updTb fun x => { x with ppsLast := T, ppsAt := some t, ppsOff := o, ppsUsable := true }).seeSource
  else s

/-- PPS_IN_LOST: no edge for 1.5 s. -/
def State.ppsLost (s : State) : State :=
  match s.tb.ppsAt with
  | some t => ((s.at_ (t + ms 1500)).updTb fun x => { x with ppsUsable := false, ppsAt := none }).seeSource
  | none => s

/-- TM_SRC: the order changes the selection (R407). -/
def State.ownTmSrc (s : State) (v : Nat) : Own := .ok (s.wr Od.TM_SRC v).seeSource

/-- TM_SRC_ACT (R418). -/
def State.tmSrcAct (s : State) : Nat :=
  if s.tb.st = .freerun || s.tb.st = .holdover then 0
  else match s.tb.ref with
    | .none => 0 | .lane n => 0x10 + n | .ptp d => 0x20 + d | .pps => 0x30

/-- TM_SET (R409). -/
def State.ownTmSet (s : State) (v : Nat) : Own :=
  if s.ring.role = 0 && s.tmSrcAct = 0 && s.legsEnabled = 0 then .ok (s.stepTo (timeOf v)) else .error abState

/-- TM_STATE and TM_STATUS (R418); PWM_ALIGNED is clear while NOMINAL is (R484). -/
def TmState.code : TmState → Nat
  | .freerun => 0 | .acquiring => 1 | .locked => 2 | .holdover => 3 | .slewing => 4
def State.tmStatus (s : State) : Nat :=
  b2n (s.tb.st = .freerun || s.tb.st = .holdover) + 2 * b2n (s.tb.upstream = 0 || s.tb.upstream = 2) +
    4 * b2n (s.tb.st = .slewing) + 8 * b2n (s.tb.pwmAligned && decide (s.clk.active = {})) + 16 * b2n s.tb.slewed

/-- TM_STATUS_CLR. -/
def State.ownTmClr (s : State) (v : Nat) : Own := .ok (s.updTb fun t => { t with slewed := t.slewed && !v.testBit 4 })

/-- PWM_PHASE_ERROR: the phase detector's error in ps, and the net phase steps since the last report, and whether an
error above 500 ps has lasted 1 ms (R411, R484). -/
def State.pwmPhase (s : State) (e steps : Int) (lasts : Bool) : State :=
  let s : State := { s with clk := { s.clk with pwmSteps := s.clk.pwmSteps + steps } }
  let nominal := decide (s.clk.active = {})
  let bad := lasts && nominal && decide (e.natAbs > 500)
  let was := s.tb.pwmBad
  let s := s.updTb fun t => { t with pwmErr := e, pwmBad := bad, pwmAligned := nominal && decide (e.natAbs ≤ 100) }
  if bad && !was then s.raise Flt.TIME_PWM_ALIGN 0 else s

/-! ### Bells (R412, R413) -/

/-- An arm of an idle bell comes too late: BELL_START lies less than 10 µs ahead. -/
def State.bellTooLate (s : State) (b : Nat) : Bool := (s.bell b).st = .idle && decide (s.bellStart b < s.sysNow + sysUs 10)

/-- BELL_START and BELL_PERIOD: refused while the bell is armed or ringing, and where a running slot's window breaks (R169). -/
def State.ownBellCfg (s : State) (b : Nat) (r : Reg) (v : Nat) : Own :=
  if (s.bell b).st ≠ .idle then .error abState
  else
    let s' := s.wr r v
    if s'.stillAdmits (s'.slotsOnBell b) then .ok s' else .error abState

/-- The high pulse of every TRIG output of bell b (R414). -/
def State.trigPulse (s : State) (b : Nat) : State :=
  s.each (List.range 4) fun s n =>
    if s.rd (Od.TRIG_MODE n) = 4 && s.rd (Od.TRIG_BELL n) = b then
      s.updTrig n fun x => { x with pulse := some (s.now + ns (s.rd (Od.TRIG_WIDTH n))) }
    else s

/-- BELL_RING: the next grid point of an armed or ringing bell, in the first CLK_PWM edge at or after its time. -/
def State.bellRing (s : State) (b : Nat) : State :=
  let x := s.bell b
  if x.st = .idle then s
  else
    let due := s.localOf (s.bellAt b x.next)
    if s.pwmOff then
      ((s.at_ due).updBell b fun x => { x with next := x.next + 1 }).updTb fun t => { t with bellSkips := up32 t.bellSkips }
    else
      let s := (s.at_ (s.edge due)).updBell b fun x => { x with st := .ringing, rings := (x.rings + 1) % 2 ^ 64, next := x.next + 1 }
      ((s.bellTriggers b s.now).bellReleases b x.rings).trigPulse b

/-- The next ring of bell b falls in the present PWM clock. -/
def State.bellDueNow (s : State) (b : Nat) : Bool :=
  (s.bell b).st ≠ .idle && s.edge (s.localOf (s.bellAt b (s.bell b).next)) / s.tclk = s.now / s.tclk

/-- BELL_CMD (R412): a ring due in the clock of a stop is raised, and none follows (R416). -/
def State.ownBellCmd (s : State) (b v : Nat) : Own :=
  if v = 1 then
    if (s.bell b).st ≠ .idle || s.bellTooLate b then .error abState
    else .ok (s.updBell b fun _ => { st := .armed })
  else
    let s := if s.bellDueNow b then s.bellRing b else s
    .ok (s.updBell b fun x => { x with st := .idle })

/-- BELL_STATE and BELL_NEXT. -/
def BellSt.code : BellSt → Nat
  | .idle => 0 | .armed => 1 | .ringing => 2
def State.bellNext (s : State) (b : Nat) : Nat := if (s.bell b).st = .idle then 0 else timeCode (s.bellAt b (s.bell b).next)

/-! ### TRIG and PPS_OUT (R414, R415) -/

/-- An edge on TRIGn at local time t, before which the level had held for `held` ns. -/
def State.trigEdge (s : State) (n t : Nat) (rising : Bool) (held : Nat) : State :=
  let s := s.at_ t
  let m := s.rd (Od.TRIG_MODE n)
  if held ≥ 10 && (m = 3 || (m = 1 && rising) || (m = 2 && !rising)) then
    s.updTrig n fun x => { x with last := s.sysAt t, count := up32 x.count }
  else s

/-- PPS_OUT_SECOND: the next whole second of system time. -/
def State.ppsOut (s : State) : State :=
  let s := s.at_ (s.localOf ((s.sysNow / sysSec + 1) * sysSec))
  s.updTb fun t => { t with ppsOut := some (s.now + us (s.rd Od.TM_PPS_WIDTH)) }

/-- PULSE_WIDTH_END: the pulse that ends first, on a TRIG output or PPS_OUT. -/
def State.pulseEnd (s : State) : State :=
  match (s.tb.ppsOut.toList ++ s.tb.trigs.filterMap (·.pulse)).min? with
  | none => s
  | some e =>
    let keep (p : Option Nat) : Option Nat := if p = some e then none else p
    (s.at_ e).updTb fun t => { t with
      ppsOut := keep t.ppsOut, trigs := t.trigs.map fun x => { x with pulse := keep x.pulse } }

/-- TRIG_MODE: a pin that is no output drives no pulse. -/
def State.ownTrigMode (s : State) (n v : Nat) : Own :=
  .ok ((s.wr (Od.TRIG_MODE n) v).updTrig n fun x => { x with pulse := if v = 4 then x.pulse else none })

end Sys2Proof.Machine
end

