-- ==== Sys2Proof/Machine/ClkOps.lean ====
section
/-! DEFINITION. Clock generation: staged and active values, the relock, lock counters, monitors (19). -/

namespace Sys2Proof.Machine

/-- Clock generation changed. -/
def State.updClk (s : State) (f : Clocks → Clocks) : State := { s with clk := f s.clk }

/-- The staged values (R481). -/
def State.staged (s : State) : ClkSet :=
  ⟨s.rd Od.SYS_N, s.rd Od.DIV_PWM, s.rd Od.DIV_CORE, s.rd Od.DIV_LOOP, s.rd Od.DIV_SAFE, s.rd Od.DIV_MEAS⟩

/-- The active values copied back into staging. -/
def State.unstage (s : State) : State :=
  let a := s.clk.active
  (((((s.wr Od.SYS_N a.n).wr Od.DIV_PWM a.pwm).wr Od.DIV_CORE a.core).wr Od.DIV_LOOP a.loop).wr Od.DIV_SAFE a.safe).wr Od.DIV_MEAS a.meas

/-- NOMINAL (R478). -/
def State.nominal (s : State) : Bool := s.clk.active = {}

/-- CLK_PWM is gated: carriers stop, MCLK is low, and with any leg enabled the missing clock is reported to the clamp
(R107, R482, R483). -/
def State.gatePwm (s : State) : State :=
  let s := s.updClk fun c => { c with pwmGated := true }
  let s := if s.legsEnabled > 0 then s.pwmLost else s.carriersOff
  s.measStop

/-- A relock of PLL_SYS starts, with the values given (R482, R483). -/
def State.relock (s : State) (set : ClkSet) : State :=
  let s := s.updClk fun c => { c with
    relock := some ⟨s.now, s.now⟩, windows := 0, sysLock := false, active := set, relocks := up32 c.relocks
    src := if c.refOk then .refclk else .checkOsc, relockHold := 0xFFFFFFFF - s.sf.phold % 2 ^ 32 }
  s.gatePwm.sfJudge

/-- The relock is complete (R482, step 4): the domains are back on the PLL, CLK_PWM runs, the hold it placed ends. -/
def State.relocked (s : State) : State :=
  let s := s.at_ (s.now + 100000)
  let started := (s.clk.relock.map (·.start)).getD s.now
  let mask := s.clk.relockHold
  let s := s.updClk fun c => { c with
    relock := none, src := .pll, pwmGated := false, pwmMissing := false, relockHold := 0
    relockLast := if c.relock.isSome then (s.now - started) / 1000 else c.relockLast
    applySt := if c.applySt = .pending then .done else c.applySt }
  let s := s.each (List.range 96) fun s m => if s.mdOn m then s.mdRestart m else s
  let s := s.each (List.range 32) fun s c => if mask.testBit c && s.pheld c && !s.sfCause c then s.sfRelease c else s
  s.sfJudge

/-- A lock window of PLL_SYS ends with a count (R479): off by 3 or more it loses lock, and a relock with unchanged values
starts (R482); the second window in tolerance in a row declares lock. No window ends without REFCLK. -/
def State.lockWindow (s : State) (t count : Nat) : State :=
  let s := s.at_ t
  if s.clk.sysLock && (decide (count + 3 ≤ 1024) || decide (count ≥ 1027)) then
    let s := s.updClk fun c => { c with unlocksSys := up32 c.unlocksSys, unlockSeen := true }
    (s.raise Flt.CLK_SYS_UNLOCK 0).relock s.clk.active
  else if !s.clk.refOk then s
  else
    let ok := decide (1023 ≤ count) && decide (count ≤ 1025)
    let n := if ok then s.clk.windows + 1 else 0
    let s := s.updClk fun c => { c with windows := n }
    if n ≥ 2 && !s.clk.sysLock then (s.updClk fun c => { c with sysLock := true }).relocked else s

/-- RELOCK_TIMEOUT: 1 ms without lock; the relock starts again at step 2. -/
def State.relockTimeout (s : State) : State :=
  match s.clk.relock with
  | some r =>
    let s := s.at_ (r.load + ms 1)
    (s.updClk fun c => { c with relock := some { r with load := s.now }, windows := 0 }).raise Flt.CLK_RELOCK_TMO 0
  | none => s

/-- CLK_APPLY (R481). -/
def State.ownClkApply (s : State) (v : Nat) : Own :=
  if v = 1 then
    if s.bist.run.isSome then .error abBusy
    else if s.legsEnabled ≠ 0 || s.clk.relock.isSome then .error abState
    else .ok ((s.updClk fun c => { c with applySt := .pending }).relock s.staged)
  else .ok (s.unstage.updClk fun c => { c with applySt := .done })

/-- PLL_LINK gains or loses lock, with its phase error in 0.01 % of a UI (R480). -/
def State.linkLockChange (s : State) (on : Bool) (err : Int) : State :=
  let was := s.clk.linkLock
  let s := s.updClk fun c => { c with linkLock := on, phaseErr := err, linkclkOk := c.linkclkOk || on }
  if on = was then s
  else if on then s.linkRestart
  else
    let s := s.updClk fun c => { c with unlocksLink := up32 c.unlocksLink, unlockSeen := true }
    let s := if s.domOn domLink then s.raise Flt.CLK_LINK_UNLOCK 0 else s
    s.linkRestart

/-- REFCLK is lost (R487). -/
def State.refLostClk (s : State) : State :=
  let T := s.sysNow
  let s := s.updClk fun c => { c with refOk := false, src := .checkOsc, sysLock := false, windows := 0 }
  let s := s.updTb fun t => { t.cutAt s.now with sys0 := T, base := s.now, running := false }
  s.gatePwm.raise Flt.CLK_REF_LOST 0

/-- REFCLK has been back for 1 ms: a relock, and time in FREERUN (R487). -/
def State.refReturn (s : State) : State :=
  let s := s.updClk fun c => { c with refOk := true }
  let s := s.updTb fun t => { t.cutAt s.now with
    base := s.now, running := true, st := .freerun, rho := 0, rhoHold := 0, rhos := [], integ := 0, ref := .none, okMs := 0, alarm := false }
  match s.clk.relock with
  | some _ => s.updClk fun c => { c with src := .refclk, windows := 0, relock := c.relock.map fun r => { r with load := s.now } }
  | none => s.relock s.clk.active

/-- LINKCLK is missing or off by more than 20 % (R486). -/
def State.linkclkLost (s : State) : State := (s.updClk fun c => { c with linkclkOk := false }).raise Flt.CLK_LINKCLK_LOST 0

/-- The setting of a clock in Hz, by its place in CLK_FREQ; REFCLK while the domains run on it, and 0 for a gated CLK_PWM. -/
def State.clkSetting (s : State) (i : Nat) : Nat :=
  let a := s.clk.active
  let vco := 25000000 * a.n
  if i = 0 then 25000000
  else if i = 1 then 156250000
  else if i = 2 && s.clk.pwmGated then 0
  else if s.clk.src ≠ .pll then 25000000
  else match i with
    | 2 => vco / a.pwm | 3 => vco / a.core | 4 => vco / a.loop | 5 => vco / a.safe | 6 => vco / a.meas | _ => vco / 10

/-- CLK_FREQ_ERROR: the count of a clock over a lock window, in Hz (R486). -/
def State.clkFreq (s : State) (i hz : Nat) : State :=
  let f := s.clkSetting i
  let off := decide (i ≥ 2) && (decide (hz * 100 > 101 * f) || decide (hz * 100 < 99 * f))
  let was := s.clk.freqBad.contains i
  let s := s.updClk fun c => { c with
    freq := c.freq.set i (hz % 2 ^ 32)
    freqBad := if off then (if was then c.freqBad else i :: c.freqBad) else c.freqBad.erase i }
  if off && !was then s.raise Flt.CLK_FREQ i else s

/-- The period guard removes an edge of CLK_PWM (0), CLK_CORE (1) or CLK_LOOP (2) (R485). -/
def State.periodGuard (s : State) (i : Nat) : State :=
  (s.updClk fun c => { c with guardSeen := true, guardCount := up32 c.guardCount }).raise Flt.CLK_PERIOD_GUARD i

/-- CLK_STATUS and CLK_STATUS_CLR (R492). -/
def State.clkStatus (s : State) : Nat :=
  let c := s.clk
  packBits [c.sysLock, c.linkLock, decide (c.src ≠ .pll), s.nominal, decide (s.staged ≠ c.active), c.refOk, c.linkclkOk, c.pwmGated,
    c.guardSeen, c.unlockSeen]
def State.ownClkClr (s : State) (v : Nat) : Own :=
  .ok (s.updClk fun c => { c with guardSeen := c.guardSeen && !v.testBit 8, unlockSeen := c.unlockSeen && !v.testBit 9 })

end Sys2Proof.Machine
end

