-- ==== Sys2Proof/Machine/RingOps.lean ====
section
/-! DEFINITION. The ring switch: frames and their lengths, duplicate maps, output lanes, TC0 frames, shaping, ring
health and roll call (15). -/

namespace Sys2Proof

/-- Octets of a frame, header and FCS included, and the blocks it takes (R365). -/
def Frame.octets (f : Frame) : Nat := 16 + f.payload.length
def Frame.blocks (f : Frame) : Nat := (f.octets - 7) / 8 + 2

end Sys2Proof

namespace Sys2Proof.Machine

/-! ### Frames and lanes (R373 to R375) -/

/-- One block in ps. -/
def blockPs : Nat := 6400

/-- RING_SYS_CYCLE as a system-time span, and the place of the present moment in the system cycle, in ns. -/
def State.sysCycleU (s : State) : Nat := sysNsU s.ring.sysCycle
def State.cyclePos (s : State) : Nat := if s.ring.sysCycle = 0 then 0 else s.sysNow / 65536 % s.ring.sysCycle
/-- Number of the present system cycle (R425). -/
def State.cycleNo (s : State) : Nat := if s.ring.sysCycle = 0 then 0 else s.sysNow / s.sysCycleU

/-- The present moment lies in a window of the lane. -/
def State.inWindow (s : State) (lane : Nat) : Bool :=
  let p := s.cyclePos
  s.ring.windows.any fun w => w.lane = lane && decide (w.opens ≤ p) && decide (p ≤ w.close)

/-- A TC0 frame lies in its own window on the lane it came to (R375). -/
def State.ownWindow (s : State) (lane src num : Nat) : Bool :=
  let p := s.cyclePos
  s.ring.windows.any fun w => w.lane = lane && w.src = src && w.num = num && decide (w.opens ≤ p) && decide (p ≤ w.close)

/-- A frame of items 2 to 5 ends at least 16 blocks before the next window of the lane opens (R374). -/
def State.fitsGap (s : State) (lane : Nat) (f : Frame) : Bool :=
  let p := s.cyclePos
  !s.inWindow lane && (s.ring.windows.filter fun w => w.lane = lane).all fun w =>
    decide (((f.blocks + 16) * blockPs + 999) / 1000 ≤ (w.opens + s.ring.sysCycle - p) % s.ring.sysCycle)

/-- Buckets filled up to the present moment (R379), in 10^-12 bytes. -/
def State.refill (s : State) : State :=
  let dt := s.now - s.ring.bucketAt
  let fill (level rate depth : Nat) : Nat := min (depth * 1000000000000) (level + 125 * rate * dt)
  s.updRing fun r => { r with
    bucket2 := fill r.bucket2 (s.rd Od.RING_TC2_RATE) (s.rd Od.RING_TC2_DEPTH)
    bucket3 := fill r.bucket3 (s.rd Od.RING_TC3_RATE) (s.rd Od.RING_TC3_DEPTH)
    bucketAt := s.now }

/-- A waiting frame may start on its lane now (R374, R379, R381). -/
def State.mayStart (s : State) (w : Waiting) : Bool :=
  let need := w.frame.octets * 1000000000000
  let transit := ((s.ring.waiting.filter fun x => x.lane = w.lane && x.item = 3).map fun x => x.frame.blocks).sum
  match w.item with
  | 1 => true
  | 4 => s.fitsGap w.lane w.frame && decide (transit ≤ 8) && (w.paid || decide (need ≤ s.ring.bucket2))
  | 5 => s.fitsGap w.lane w.frame && decide (transit ≤ 8) && (w.paid || decide (need ≤ s.ring.bucket3))
  | _ => s.fitsGap w.lane w.frame

/-- The first waiting frame of a lane in the order of R374. -/
def State.nextTx (s : State) (lane : Nat) : Option Waiting :=
  [1, 2, 3, 4, 5].findSome? fun i => s.ring.waiting.find? fun w => w.lane = lane && w.item = i && s.mayStart w

/-- The other copy of an own frame (R368). -/
def sibling (w x : Waiting) : Bool :=
  x.item = w.item && x.frame.seq = w.frame.seq && x.frame.src = w.frame.src && x.frame.typ = w.frame.typ && x.lane ≠ w.lane

/-- RING_TX_START: a free output lane starts its next frame. -/
def State.txStart (s : State) (lane : Nat) : State :=
  let s := (s.at_ (s.ring.busy.getD lane 0)).refill
  if (s.lane lane).st ≠ .up then s
  else match s.nextTx lane with
    | none => s
    | some w =>
      let n := w.frame.octets
      let c := typeClass w.frame.typ
      let pays := !w.paid && decide (w.item ≥ 4)
      let s := s.updRing fun r => { r with
        waiting := (r.waiting.erase w).map fun x => if pays && sibling w x then { x with paid := true } else x
        busy := r.busy.set lane (s.now + w.frame.blocks * blockPs)
        txBytes := r.txBytes.modify c fun b => (b + n) % 2 ^ 64
        tc1Blocks := if c = 1 then r.tc1Blocks.modify lane fun b => b + w.frame.blocks else r.tc1Blocks
        bucket2 := if pays && w.item = 4 then r.bucket2 - n * 1000000000000 else r.bucket2
        bucket3 := if pays && w.item = 5 then r.bucket3 - n * 1000000000000 else r.bucket3 }
      s.emit (.frame lane w.frame)

/-- TC3_WAIT_EXPIRY: the oldest own trace data that its bucket has not taken within RING_TC3_WAIT goes to the cellar alone
(R380). -/
def State.tc3Expiry (s : State) : State :=
  match s.ring.waiting.find? fun w => w.item = 5 && w.frame.typ = 0x0A && !w.paid with
  | none => s
  | some w =>
    let s := s.at_ (w.since + ms (s.rd Od.RING_TC3_WAIT))
    (s.updRing fun r => { r with
      waiting := (r.waiting.erase w).filter fun x => !sibling w x
      spill := (r.spill + w.frame.payload.length) % 2 ^ 64 }).spillDump w.frame.payload

/-! ### Duplicates (R371, R430) -/

/-- The source that a duplicate map stands for: the TC0 frames of node 0 and node 1 share one. -/
def mapSrc (src cls : Nat) : Nat := if cls = 0 && src ≤ 1 then 0 else src

/-- A frame is new to its map, and the map after it. -/
def DupMap.take (m : DupMap) (seq : Nat) : Option DupMap :=
  let up := (seq + 65536 - m.high) % 65536
  if up = 0 then none
  else if up < 32768 then some { m with high := seq, map := (m.map * 2 + 1) * 2 ^ (up - 1) % 2 ^ 64 }
  else
    let down := 65536 - up
    if down ≤ 64 && !m.map.testBit (down - 1) then some { m with map := m.map + 2 ^ (down - 1) } else none

/-- The maps after a frame; none for a duplicate. -/
def takeSeq (maps : List DupMap) (src cls seq : Nat) : Option (List DupMap) :=
  match maps.find? fun m => m.src = src && m.cls = cls with
  | none => some (⟨src, cls, seq, 0⟩ :: maps)
  | some m => (m.take seq).map fun m' => m' :: maps.erase m

/-! ### Ring fields (R376, R377) -/

/-- Word f of RX_MAP, word w of TX_MAP of frame t. -/
def State.rxWord (s : State) (f : Nat) : Nat := bits (s.rd Od.RX_MAP) (32 * f + 31) (32 * f)
def State.txWord (s : State) (t w : Nat) : Nat := bits (s.rd (Od.TX_MAP t)) (16 * w + 15) (16 * w)

/-- A system time from its 64-bit short form: seconds modulo 2^34 in [63:30], taken nearest to the own time. -/
def State.longTime (s : State) (v : Nat) : Nat :=
  let own := sysS s.sysNow
  let q := v / 2 ^ 30 % 2 ^ 34
  let near := own / 2 ^ 34 * 2 ^ 34 + q
  let sec := if near > own + 2 ^ 33 && near ≥ 2 ^ 34 then near - 2 ^ 34 else if near + 2 ^ 33 < own then near + 2 ^ 34 else near
  sec * sysSec + v % 2 ^ 30 * 65536

/-- A TC0 payload taken in: its fields wait for their apply time; a late one is counted (R376, R377). -/
def State.takeFields (s : State) (src num : Nat) (p : List Byte) : State :=
  let apply := s.longTime (leNat (p.take 8))
  let n := min (leNat ((p.drop 8).take 2)) 256
  let vals := (List.range n).map fun w => leNat ((p.drop (12 + 4 * w)).take 4)
  s.updRing fun r => { r with
    fields := r.fields ++ [⟨apply, src, num, vals⟩]
    late := if apply < s.sysNow then up32 r.late else r.late }

/-- The fields whose apply time has come are applied, oldest first (R21, R377). -/
def State.applyFields (s : State) : State :=
  let T := s.sysNow
  let due := s.ring.fields.filter fun x => decide (x.apply ≤ T)
  let s := s.updRing fun r => { r with fields := r.fields.filter fun x => decide (T < x.apply) }
  s.each due fun s x =>
    s.each (List.range 1024) fun s f =>
      let w := s.rxWord f
      if w.testBit 31 && bits w 9 0 = x.src && bits w 13 10 = x.num && decide (bits w 21 14 < x.vals.length) then
        let v := x.vals.getD (bits w 21 14) 0
        let s := s.updRing fun r => { r with values := r.values.set f v, ages := r.ages.set f 0 }
        s.each (s.inputsWhere fun n i => s.inKind n i = 3 && s.inSel n i = f) fun s c => s.arrive c.1 c.2 v 0
      else s

/-- One system cycle older: ring fields, and the inputs that take them (R162). -/
def State.ageFields (s : State) : State :=
  let s := s.updRing fun r => { r with ages := r.ages.map fun a => min 3 (a + 1) }
  s.each (s.inputsWhere fun n i => s.inKind n i = 3) fun s c => s.updIn c.1 c.2 fun x => { x with age := min 3 (x.age + 1) }

/-- The slot outputs as TC0 frames of the next span carry them (R376). -/
def State.latchOuts (s : State) : State := s.updRing fun r => { r with outsAt := s.le.slots.map (·.outs) }

/-- The string that sets the apply lag of frame t: a home string whose slot's outputs the frame maps (R217, R376). -/
def State.lagString (s : State) (t : Nat) : Option Nat :=
  (List.range 32).find? fun i => s.rd (Od.STR_ID i) ≠ 0xFFFF && s.isHome i &&
    (List.range (s.rd (Od.TX_N t))).any fun w => s.txWord t w ≠ 0xFFFF && s.txWord t w / 8 = s.rd (Od.STR_SLOT i)

/-- The payload of TC0 frame t at system time T (R376). -/
def State.tc0Payload (s : State) (t T : Nat) : List Byte :=
  let cc := sysNsU (s.rd Od.CELL_CYCLE)
  let boundary := T / cc * cc
  let lag := match s.lagString t with
    | some i => s.rd (Od.STR_APPLY_LAG i)
    | none => s.rd (Od.TX_LAG t)
  let A := boundary + lag * cc
  let n := s.rd (Od.TX_N t)
  let value (w : Nat) : Nat :=
    let o := s.txWord t w
    if o = 0xFFFF then 0 else ((s.ring.outsAt.getD (o / 8) []).getD (o % 8) 0)
  leBytes 8 (sysS A % 2 ^ 34 * 2 ^ 30 + sysNs A) ++ leBytes 2 n ++ leBytes 2 0 ++ (List.range n).flatMap fun w => leBytes 4 (value w)

/-- The TC0 frames in use: those with TX_N above 0. -/
def State.txFrames (s : State) : List Nat := (List.range 16).filter fun t => decide (0 < s.rd (Od.TX_N t))

/-- Dual-send mode is in force: MGR_MODE_MISMATCH makes both managers single-send (R424). -/
def State.dualSend (s : State) : Bool := s.rd Od.MGR_MODE = 1 && !s.mgr.mismatch

/-- A manager's TC0 frames of cycle k leave it: as holder, dual-send with SYNCED, or in a handback, at its receiver from
the cycle after k_a on (R431, R440). -/
def State.mgrSends (s : State) (k : Nat) : Bool :=
  let early := match s.mgr.handback with
    | some h => h.receiver && decide (k ≤ h.ka)
    | none => false
  s.mgr.st = .active || (s.mgr.sending && !early) || (s.mgr.st = .standby && s.dualSend && s.mgr.synced)

/-- The home device's own members take the references of its frame t as ring fields too (R217). -/
def State.ownFields (s : State) (t : Nat) (p : List Byte) : State :=
  if (s.lagString t).isSome then s.takeFields s.ring.nodeId t p else s

/-- TC0_SEND: frame t at its offset in the present system cycle, or in the next one where that has passed (R375). -/
def State.tc0Send (s : State) (t : Nat) : State :=
  let c := s.ring.sysCycle
  if c = 0 || s.rd (Od.TX_N t) = 0 || s.ring.nodeId ≥ 1024 || s.ring.st ≠ .run then s
  else
    let ofs := sysNsU (s.ring.offsets.getD t 0)
    let base := s.sysNow / s.sysCycleU * s.sysCycleU + ofs
    let T := if s.sysNow ≤ base then base else base + s.sysCycleU
    let s := s.at_ (s.localOf T)
    let p := s.tc0Payload t T
    let dst := s.rd (Od.TX_DST t)
    let frames := s.txFrames
    let k := T / s.sysCycleU
    let seq := if s.ring.role = 0 then (k * frames.length + (frames.takeWhile (· ≠ t)).length) % 65536 else s.ring.seqs.getD 0 0
    let f : Frame := ⟨1, t, s.ring.nodeId, if bits dst 11 10 = 0 then bits dst 9 0 else 0, bits dst 11 10, seq, 0, 0, false, p⟩
    let s : State := if s.ring.role = 0 then { s with mgr := { s.mgr with outs := s.mgr.outs ++ [(t, p)] } } else s
    if s.ring.role = 0 && !s.mgrSends k then s
    else
      (s.updRing fun r => { r with
        sent := r.sent.modify t fun n => (n + 1) % 2 ^ 64
        seqs := if s.ring.role = 0 then r.seqs else r.seqs.modify 0 fun q => (q + 1) % 65536 }).bothWays f |>.ownFields t p

/-! ### Ring health (R359) -/

/-- A TC0 frame of a node came on a lane: lane 1 or 3 is rotation A of its port, lane 0 or 2 rotation B. -/
def healthBit (lane : Nat) : Nat := 2 * (lane / 2) + (1 - lane % 2)

/-- A TC0 frame of `src` has been received on a lane. -/
def State.hearTc0 (s : State) (src lane : Nat) : State :=
  s.updRing fun r => { r with heard := (src, healthBit lane, s.now) :: r.heard.filter fun h => !(h.1 = src && h.2.1 = healthBit lane) }

/-- Node m has been heard on a port and rotation within the last three system cycles. -/
def State.heardIn3 (s : State) (m b : Nat) : Bool :=
  s.ring.heard.any fun h => h.1 = m && h.2.1 = b && decide (s.now ≤ h.2.2 + 3 * ns s.ring.sysCycle)

/-- Members that roll call recorded for a port. -/
def State.members (s : State) (port : Nat) : List Nat := if port = 0 then s.ring.upper else s.ring.lower

/-- Ring health is judged at a system cycle; nothing is raised in the first three cycles after a commit. -/
def State.judgeHealth (s : State) : State :=
  let ok (b : Nat) : Bool := s.members (b / 2) ≠ [] && (s.members (b / 2)).all fun m => s.heardIn3 m b
  let health := (List.range 4).foldl (fun h b => h + b2n (ok b) * 2 ^ b) 0
  let s := s.updRing fun r => { r with health := health }
  if s.cycleNo < s.ring.commitCycle + 3 then s
  else
    let s := s.each [0, 1] fun s p =>
      let bad := s.members p ≠ [] && !(ok (2 * p) && ok (2 * p + 1))
      let was := s.ring.broken.contains p
      let s := s.updRing fun r => { r with broken := if bad then (if was then r.broken else p :: r.broken) else r.broken.erase p }
      if bad && !was then s.raise Flt.RING_BREAK p else s
    s.each [0, 1] fun s p => s.each (s.members p) fun s m =>
      let bad := !s.heardIn3 m (2 * p) && !s.heardIn3 m (2 * p + 1)
      let was := s.ring.silent.contains m
      let s := s.updRing fun r => { r with silent := if bad then (if was then r.silent else m :: r.silent) else r.silent.erase m }
      if bad && !was then s.raise Flt.RING_PARTITION m else s

/-- The TC1 share of the cycle that ends, in ‰ (R391). -/
def State.noteTc1 (s : State) : State :=
  let share (b : Nat) : Nat := if s.ring.sysCycle = 0 then 0 else min 1000 (b * blockPs / s.ring.sysCycle)
  s.updRing fun r => { r with
    tc1Load := r.tc1Blocks.foldl (fun a b => max a (share b)) r.tc1Load, tc1Blocks := [0, 0, 0, 0] }

/-! ### Roll call (R360 to R364) -/

/-- A roll call starts: its request goes out (R362). -/
def State.rollStart (s : State) : State := (s.updRing fun r => { r with rolling := some s.now }).send 9 0 2 0 []

/-- RING_CMD = 0x01: on the active manager only. -/
def State.ownRingCmd (s : State) : Own :=
  if s.isSource then .ok s.rollStart else .error abState

/-- The records of RING_ID_TABLE: serial number and ID. -/
def idRecords (v : Nat) : List (Nat × Nat) :=
  ((List.range 1022).map fun i => (bits v (80 * i + 63) (80 * i), bits v (80 * i + 79) (80 * i + 64))).filter fun r => r ≠ (0, 0)
def idTable (l : List (Nat × Nat)) : Nat := leNat (l.flatMap fun r => leBytes 8 r.1 ++ leBytes 2 r.2)

/-- The lowest free ID from 2 to 1023. -/
def lowestFree (used : List Nat) : Option Nat := ((List.range 1022).map (· + 2)).find? fun i => !used.contains i

/-- An insertion sort by a key. -/
def insertBy {α : Type} (key : α → Nat) (x : α) : List α → List α
  | [] => [x]
  | y :: l => if key x < key y then x :: y :: l else y :: insertBy key x l
def sortBy {α : Type} (key : α → Nat) (l : List α) : List α := l.foldl (fun a x => insertBy key x a) []

/-- Devices in order get the lowest free IDs: serial numbers with their IDs. -/
def giveIds (devs : List Found) (ids : List (Nat × Nat)) : List (Nat × Nat) :=
  devs.foldl (fun ids d => match lowestFree (ids.map (·.2)) with
    | some i => ids ++ [(d.serial, i)]
    | none => ids) ids

/-- The IDs of R360, managers aside: recorded ones, then bridges by hops, then workers branch by branch. -/
def assignIds (table : List (Nat × Nat)) (found : List Found) : List (Nat × Nat) :=
  let devs := found.filter fun d => d.role ≠ 0
  let recorded := devs.foldl (fun ids d => match table.find? fun r => r.1 = d.serial with
    | some r => if decide (2 ≤ r.2) && decide (r.2 ≤ 1023) && !(ids.map (·.2)).contains r.2 then ids ++ [(d.serial, r.2)] else ids
    | none => ids) ([] : List (Nat × Nat))
  let rest (role : Nat) (ids : List (Nat × Nat)) : List Found :=
    devs.filter fun d => d.role = role && !(ids.map (·.1)).contains d.serial
  let withBridges := giveIds (sortBy (·.hops) (rest 1 recorded)) recorded
  let bridgeId (d : Found) : Nat := ((withBridges.find? fun r => r.1 = d.branch).map (·.2)).getD 1024
  giveIds (sortBy (fun d => bridgeId d * 4096 + d.hops) (rest 2 withBridges)) withBridges

/-- The IDs of newcomers (R363): the recorded one where it is free, else the lowest free one. -/
def joinIds (table : List (Nat × Nat)) (used : List Nat) (devs : List Found) : List (Nat × Nat) :=
  (devs.filter fun d => d.role ≠ 0).foldl (fun ids d =>
    let busy := used ++ ids.map (·.2)
    match table.find? fun r => r.1 = d.serial && decide (2 ≤ r.2) && decide (r.2 ≤ 1023) && !busy.contains r.2 with
    | some r => ids ++ [(d.serial, r.2)]
    | none => match lowestFree busy with
      | some i => ids ++ [(d.serial, i)]
      | none => ids) []

/-- Two windows of a lane leave at least 16 blocks between them (R375), in ns. -/
def windowsApart (v w : Window) : Bool := v.lane ≠ w.lane || decide (v.close + 103 ≤ w.opens) || decide (w.close + 103 ≤ v.opens)

/-- Windows that can be added: none longer than 264 blocks, each apart from the old ones and from those before it. -/
def windowsFit (old : List Window) : List Window → Bool
  | [] => true
  | w :: l => decide (w.close ≤ w.opens + 1689) && old.all (windowsApart w) && windowsFit (w :: old) l

/-- RING_SYS_CYCLE: the smallest listed value that meets the conditions of R364, in ns. -/
def sysCycleOf (least delay compute tc0 : Nat) : Option Nat :=
  [50000, 100000, 200000, 250000, 500000, 1000000, 2000000, 2500000, 5000000, 10000000].find? fun c =>
    decide (least ≤ c) && decide (2 * delay + compute ≤ c) && decide (5 * tc0 ≤ 2 * c)

/-- A manager is LISTENING from now on (R428). -/
def State.mgrListen (s : State) : State :=
  { s with
    ring := { s.ring with nodeId := s.rd Od.MGR_NODE }
    mgr := { s.mgr with st := .listening, listenAt := s.now, synced := false, sending := false, handback := none, transfer := none } }

/-- The role that ROLE names takes effect (R18). -/
def State.takeRole (s : State) : State :=
  let r := s.rd Od.ROLE
  if r = s.ring.role then s
  else
    let s := s.updRing fun x => { x with role := r }
    let s : State := if r = 0 then s.mgrListen else { s with mgr := { s.mgr with st := .none } }
    -- lanes that the role leaves unused go OFF, others start
    s.each (List.range 4) fun s n => if s.usesLane n then s.laneStart n else s.laneOff n

/-- A roll call fails: it is repeated (R362, R364). -/
def State.rollFailed (s : State) : State := (s.updRing fun r => { r with rolling := some s.now }).raise Flt.RING_ROLL 0

/-- N of R379 and the bucket rates of a roll call. -/
def State.setRates (s : State) (n : Nat) : State :=
  let rate2 := if n = 0 then 0 else 1650000 / n
  let rate3 := if n = 0 then 0 else 3850000 / n
  ((s.wr Od.RING_TC2_RATE rate2).wr Od.RING_TC3_RATE rate3).updRing fun r => { r with rate2 := rate2, rate3 := rate3 }

/-- Assignments go into RING_ID_TABLE, beside those of other devices; devices without an ID are counted (R360). -/
def State.recordIds (s : State) (ids : List (Nat × Nat)) (noId missing : Nat) : State :=
  let old := (idRecords (s.rd Od.RING_ID_TABLE)).filter fun r => !(ids.map (·.1)).contains r.1
  let s := (s.wr Od.RING_ID_TABLE (idTable (old ++ ids))).updRing fun r => { r with noId := noId }
  if missing > 0 then s.raise Flt.RING_NO_ID 0 else s

/-- The 32 words of RING_BRANCH_IDS on a bridge. -/
def State.branchWords (s : State) (lower : List Nat) : List Nat :=
  let workers := (if s.isBridge then lower else []).take 32
  workers ++ List.replicate (32 - workers.length) 0xFFFF

/-- The partial roll call of a join takes effect at system time T (R363): IDs and windows are added, and nothing else of the
timetable changes. Where no TC0 time is free the newcomers wait for a full roll call. -/
def State.joinCommit (s : State) (T : Nat) (q : Roll) : State :=
  if s.isSource && (s.ring.rolling.isSome || s.ring.joins = []) then s
  else
    let s := s.at_ (s.localOf T)
    let new := q.found.filter fun d => !s.ring.serials.contains d.serial
    let fits := decide (5 * q.tc0 ≤ 2 * s.ring.sysCycle) && windowsFit s.ring.windows q.windows
    if !fits then
      if s.isSource then s.updRing fun r => { r with noId := add32 r.noId new.length, joins := [] } else s
    else
      let ids := joinIds (idRecords (s.rd Od.RING_ID_TABLE)) s.ring.nodes new
      let missing := (new.filter fun d => d.role ≠ 0).length - ids.length
      let known := if s.isSource then ((new.filter fun d => d.role = 0).map (·.id)) ++ ids.map (·.2) else new.map (·.id)
      let s := if s.isSource then s.recordIds ids (add32 s.ring.noId missing) missing else s
      let s := (s.setRates q.found.length).updRing fun r => { r with
        windows := r.windows ++ q.windows, nodes := r.nodes ++ known, serials := r.serials ++ new.map (·.serial)
        upper := q.upper, lower := q.lower, branchIds := s.branchWords q.lower, joins := [], maps := [], firsts := []
        rollCalls := up32 r.rollCalls, ttVersion := up32 r.ttVersion }
      s.updRing fun r => { r with commitCycle := s.cycleNo }

/-- The answer to a roll-call request (R362, log entry 204): serial number, role, hop counts on A and B, and the round-trip
delay of each UP lane in ns. A device without an ID answers with UNASSIGNED and its serial number as SRC (R360). -/
def State.rollAnswer (s : State) (rot hops : Nat) : State :=
  let s := s.updRing fun r => { r with reqHops := r.reqHops.set rot hops }
  let delay (n : Nat) : Nat := match (s.lane n).d with
    | some d => if (s.lane n).st = .up then (2 * d / 65536).toNat else 0xFFFFFFFF
    | none => 0xFFFFFFFF
  let p := leBytes 1 2 ++ leBytes 8 Config.serial.toNat ++ leBytes 1 s.ring.role ++ leBytes 1 (s.ring.reqHops.getD 0 0xFF) ++
    leBytes 1 (s.ring.reqHops.getD 1 0xFF) ++ (List.range 4).flatMap fun n => leBytes 4 (delay n)
  if s.ring.nodeId < 1024 then s.send 9 0 3 0 p
  else
    (s.updRing fun r => { r with seqs := r.seqs.modify 2 fun q => (q + 1) % 65536 }).bothWays
      ⟨9, 0, Config.serial.toNat % 1024, 0, 3, s.ring.seqs.getD 2 0, 0, 0, true, p⟩

/-- The timetable, members and IDs of a roll call take effect at system time T (R362). -/
def State.rollCommit (s : State) (T : Nat) (q : Roll) : State :=
  if q.part && s.ring.st = .run then s.joinCommit T q else
  let s := s.at_ (s.localOf T)
  match sysCycleOf (s.rd Od.RING_SYS_CYCLE_MIN) (q.dTrunk + q.dBranchMax) (s.rd Od.RING_MGR_COMPUTE) q.tc0 with
  | none => if s.isSource then s.rollFailed else s
  | some c =>
    let alone := q.found = []
    let ids := assignIds (idRecords (s.rd Od.RING_ID_TABLE)) q.found
    let missing := (q.found.filter fun d => d.role ≠ 0 && !(ids.map (·.1)).contains d.serial).length
    let s := if s.isSource then s.recordIds ids missing missing else s
    let s := s.takeRole.setRates q.found.length
    let id := if s.ring.role = 0 then s.rd Od.MGR_NODE else q.ownId
    let known := if s.isSource then ((q.found.filter fun d => d.role = 0).map (·.id)) ++ ids.map (·.2) else q.found.map (·.id)
    let s := s.updRing fun r => { r with
      st := if alone then .alone else .run
      nodeId := id, sysCycle := c, dTrunk := q.dTrunk, dBranch := q.dBranch, maps := [], firsts := []
      windows := q.windows, offsets := q.offsets, upper := q.upper, lower := q.lower, nodes := known
      branchIds := s.branchWords q.lower, serials := q.found.map (·.serial), joins := []
      rollCalls := up32 r.rollCalls, ttVersion := up32 r.ttVersion
      rolling := none, committed := true, heard := [], health := 0, silent := [], broken := [] }
    let s := s.updRing fun r => { r with commitCycle := s.cycleNo, cycle := s.cycleNo }
    let s := s.updTb fun t => { t with
      chosen := if s.isSource then 0xFF else if q.hopsB < q.hopsA then 0 else 1 }
    let s := s.seeUpstream
    let s := s.rollStrings (if alone then [] else q.strings)
    if alone then if s.mgr.st = .active then { s with mgr := { s.mgr with st := .alone } } else s
    else if s.mgr.st = .alone then { s with mgr := { s.mgr with st := .active } } else s

/-- ROLL_CALL_TIMEOUT: not complete within 1 s (R362). -/
def State.rollTimeout (s : State) : State :=
  match s.ring.rolling with
  | some t => ((s.at_ (t + secs 1)).rollFailed).send 9 0 2 0 []
  | none => s

/-- RING_TC2_RATE and RING_TC3_RATE: at most the roll-call value (R379). -/
def State.ownTcRate (s : State) (r : Reg) (most v : Nat) : Own := if 1 ≤ v && v ≤ most then .ok (s.wr r v) else .error abRange

/-- RING_STATE. -/
def RingSt.code : RingSt → Nat
  | .alone => 0 | .joining => 1 | .run => 2

end Sys2Proof.Machine
end

