-- ==== Sys2Proof/Machine/MgrOps.lean ====
section
/-! DEFINITION. Managers, the hall pass and fail-over: heartbeats, epochs, digests, state transfer, handback, the report
card and the followers' states (17). -/

namespace Sys2Proof.Machine

/-- The manager functions changed. -/
def State.updMgr (s : State) (f : Mgr → Mgr) : State := { s with mgr := f s.mgr }

/-- The own node ID as a manager, and the other manager's (R424). -/
def State.myNode (s : State) : Nat := s.rd Od.MGR_NODE
def State.otherNode (s : State) : Nat := 1 - s.rd Od.MGR_NODE

/-- An epoch lies above another in 32-bit serial arithmetic (R427). -/
def epochAbove (a b : Nat) : Bool := a ≠ b && decide ((a + 2 ^ 32 - b % 2 ^ 32) % 2 ^ 32 < 2 ^ 31)

/-- A span of local time back from now. -/
def State.within (s : State) (t : Option Nat) (span : Nat) : Bool := match t with
  | some t => decide (s.now ≤ t + span)
  | none => false

/-! ### The report card (R436 to R438) -/

/-- GRADE: 0 FIT, 1 DEGRADED, 2 UNFIT; 0xFF when not STANDBY. -/
def State.grade (s : State) : Nat :=
  if s.mgr.st ≠ .standby then 0xFF
  else if s.mgr.unfit ≠ 0 then 2
  else if s.within s.mgr.corrAt (secs 60) || s.within s.mgr.missAt (secs 60) || !s.mgr.synced then 1 else 0

/-- CAUSE (R438). -/
def State.gradeCause (s : State) : Nat :=
  s.mgr.unfit + 4 * b2n (s.within s.mgr.corrAt (secs 60)) + 8 * b2n (s.within s.mgr.missAt (secs 60)) +
    32 * b2n (!s.mgr.synced)

/-- FIT and SYNCED without a break: the times since are kept (R438, R439). -/
def State.seeGrade (s : State) : State :=
  let fit := s.grade = 0
  s.updMgr fun m => { m with
    fitSince := if fit then some (m.fitSince.getD s.now) else none
    readySince := if fit && m.synced then some (m.readySince.getD s.now) else none }

/-- RC_CARD (R438). -/
def State.card (s : State) : List Byte :=
  let m := s.mgr
  leBytes 1 s.grade ++ leBytes 1 (if s.grade = 0xFF then 0 else s.gradeCause) ++ leBytes 2 0 ++ leBytes 4 m.bistRun ++
    leBytes 4 m.bistFail ++ leBytes 4 m.scrubC ++ leBytes 4 m.scrubU ++ leBytes 4 m.digestMiss ++ leBytes 4 m.scrubLast ++
    leBytes 4 (match m.fitSince with | some t => (s.now - t) / secs 1 | none => 0)

/-- A cause of UNFIT (bits 0, 1, 3, 4 of CAUSE) on a manager: it counts since the last reset, and the fault is raised where
the grade of a standby becomes UNFIT (R437). -/
def State.setUnfit (s : State) (bitNo : Nat) : State :=
  if s.ring.role ≠ 0 then s
  else
    let was := s.mgr.unfit
    let s := s.updMgr fun m => { m with unfit := if m.unfit.testBit bitNo then m.unfit else m.unfit + 2 ^ bitNo }
    (if was = 0 && s.mgr.st = .standby then s.raise Flt.MGR_STANDBY_UNFIT 0 else s).seeGrade

/-! ### Manager frames (R425) -/

/-- MSTATE: MGR_STATE, dual-send mode, SYNCED. -/
def MgrState.code : MgrState → Nat
  | .none => 0 | .listening => 1 | .standby => 2 | .active => 3 | .alone => 4

/-- The first 16 bytes of a manager frame. -/
def State.mgrHead (s : State) (kind : Nat) : List Byte :=
  leBytes 1 kind ++ leBytes 1 (s.mgr.st.code + 16 * s.rd Od.MGR_MODE + 32 * b2n s.mgr.synced) ++ leBytes 2 0 ++
    leBytes 4 s.mgr.epoch ++ leBytes 8 s.cycleNo

/-- A manager frame to the other manager. -/
def State.tellPeer (s : State) (kind : Nat) (body : List Byte) : State := s.send 4 0 0 s.otherNode (s.mgrHead kind ++ body)

/-- A heartbeat: digests of the cycle before, and the report card, which is zeros from the active manager. -/
def State.heartbeat (s : State) : State :=
  if s.mgr.st = .standby || s.mgr.st = .active then
    s.send 4 0 2 0 (s.mgrHead 1 ++ leBytes 4 s.mgr.inDigest ++ leBytes 4 s.mgr.outDigest ++
      (if s.mgr.st = .active then List.replicate 32 0 else s.card))
  else s

/-- The system slots (R424). -/
def State.sysSlots (s : State) : List Nat := (List.range 128).filter fun n => (s.rd Od.MGR_SYS_SLOTS).testBit n

/-- Value and status of every input of every system slot, as its run of this cycle used them. -/
def State.sysInputs (s : State) : List (Nat × List (Nat × Nat)) :=
  s.sysSlots.map fun n => (n, (List.range 16).map fun i => (((s.ls n).inp i).nowV, ((s.ls n).inp i).nowSt))

/-- The digests of the cycle that ends (R432); the inputs are logged while a transfer runs (R433). -/
def State.formDigests (s : State) (k : Nat) : State :=
  let ins := s.sysInputs
  let inBytes := s.sysSlots.flatMap fun n => (s.usedInputs n).flatMap fun i =>
    leBytes 4 ((s.ls n).inp i).nowV ++ leBytes 4 (stCode ((s.ls n).inp i).nowSt)
  let outBytes := (sortBy (·.1) s.mgr.outs).flatMap (·.2)
  s.updMgr fun m => { m with
    inDigest := crc32c 0xFFFFFFFF inBytes, outDigest := crc32c 0xFFFFFFFF outBytes, outs := []
    log := if m.transfer.isSome then m.log ++ [(k, ins)] else [] }

/-! ### Holding the pass (R426 to R429) -/

/-- A state transfer starts, or starts again, from the standby (R433). -/
def State.startTransfer (s : State) : State :=
  (s.updMgr fun m => { m with transfer := some ⟨s.cycleNo, none, [], 0⟩, loaded := false, log := [] }).tellPeer 2 []

/-- STANDBY is entered: a state transfer begins, for SYNCED follows one (R432, R433); an earlier cause of UNFIT counts (R437,
log entry 208). -/
def State.toStandby (s : State) : State :=
  let s := s.updMgr fun m => { m with st := .standby, synced := false, missed := 0 }
  (if s.mgr.unfit ≠ 0 then s.raise Flt.MGR_STANDBY_UNFIT 0 else s).startTransfer.seeGrade

/-- The pass is taken with an epoch (R428, R429, R440). -/
def State.takePass (s : State) (epoch : Nat) : State :=
  let s := s.updMgr fun m => { m with
    st := .active, epoch := epoch % 2 ^ 32, top := epoch % 2 ^ 32, holder := s.myNode, missed := 0, handback := none
    overlapTo := none, sending := false, transfer := none, readySince := none, fitSince := none, requested := false }
  s.becomeSource

/-- MGR_LISTEN_EXPIRY (R428). -/
def State.listenExpiry (s : State) : State :=
  let m := s.mgr
  if m.st ≠ .listening then s
  else
    let span := ms (s.rd Od.MGR_LISTEN)
    let s := s.at_ (m.listenAt + if m.holder = 0xFFFF && s.myNode = 1 then 2 * span else span)
    if m.holder ≠ 0xFFFF then s.toStandby.seeSource else (s.takePass (m.top + 1)).rollStart

/-- MGR_TAKE_PASS: a standby that is not UNFIT has missed MGR_LOSS_CYCLES cycles of the holder (R429, R437). -/
def State.mgrTake (s : State) : State :=
  if s.mgr.st = .standby && s.rd Od.MGR_LOSS_CYCLES ≤ s.mgr.missed && s.grade ≠ 2 then
    let s := s.takePass (s.mgr.epoch + 1)
    let s := s.updMgr fun m => { m with switchovers := up32 m.switchovers }
    let s := (s.raise Flt.MGR_SWITCHOVER s.myNode).heartbeat
    if s.ring.committed then s else s.rollStart
  else s

/-! ### Handback (R439 to R441) -/

/-- A handback ends without a change of the pass. -/
def State.endHandback (s : State) (reason : Nat) : State :=
  (s.updMgr fun m => { m with
    handback := none, sending := false, requested := false
    readySince := m.readySince.map fun _ => s.now
    cmdSt := if m.cmdSt = .pending then .refused else m.cmdSt }).raise Flt.MGR_HANDBACK_ABORT reason

/-- A handback is aborted from this side. -/
def State.abortHandback (s : State) (reason : Nat) : State :=
  if s.mgr.handback.isSome then (s.tellPeer 6 (leBytes 2 reason)).endHandback reason else s

/-- The holder accepts a handback in the present cycle (R440). -/
def State.acceptHandback (s : State) : State :=
  let k := s.cycleNo
  let kh := k + s.rd Od.MGR_OVERLAP
  (s.updMgr fun m => { m with handback := some ⟨false, kh, k⟩ }).tellPeer 5 (leBytes 8 kh)

/-- HANDBACK_REQ arrives: refused while the standby is not SYNCED (R440, R442). -/
def State.handbackReq (s : State) : State :=
  if s.mgr.st = .active && s.mgr.peerSynced && s.mgr.snap.isNone && s.mgr.handback.isNone then s.acceptHandback else s

/-- HANDBACK_ACCEPT arrives with K_H: the standby sends its TC0 frames from the next cycle on. -/
def State.handbackAccept (s : State) (kh : Nat) : State :=
  if s.mgr.st = .standby then s.updMgr fun m => { m with handback := some ⟨true, kh, s.cycleNo⟩, sending := true } else s

/-- HANDBACK_ABORT arrives. -/
def State.handbackAbort (s : State) (reason : Nat) : State := if s.mgr.handback.isSome then s.endHandback reason else s

/-- HANDBACK_SWITCH: the start of K_H. -/
def State.handbackSwitch (s : State) : State :=
  match s.mgr.handback with
  | none => s
  | some h =>
    let s := s.at_ (s.localOf (h.kh * s.sysCycleU))
    let done (m : Mgr) : Mgr := { m with
      handbacks := up32 m.handbacks, cmdSt := if m.cmdSt = .pending then .done else m.cmdSt }
    if h.receiver then (s.takePass (s.mgr.epoch + 1)).updMgr done
    else
      (s.updMgr fun m => done { m with
        holder := s.otherNode, epoch := (m.epoch + 1) % 2 ^ 32, handback := none, sending := true
        overlapTo := some (h.kh + s.rd Od.MGR_OVERLAP - 1) }).toStandby.seeSource

/-- OVERLAP_END: the former holder stops sending after its last overlap cycle; in dual-send mode its TC0 frames go on. -/
def State.overlapEnd (s : State) : State :=
  match s.mgr.overlapTo with
  | none => s
  | some k => (s.at_ (s.localOf ((k + 1) * s.sysCycleU))).updMgr fun m => { m with overlapTo := none, sending := false }

/-- RECLAIM_HOLD_EXPIRY: node 0 asks for the pass (R439). -/
def State.reclaim (s : State) : State :=
  match s.mgr.readySince with
  | some t =>
    if s.mgr.st = .standby && s.myNode = 0 && (s.rd Od.MGR_RECLAIM).testBit 0 && !s.mgr.requested then
      ((s.at_ (t + ms (s.rd Od.MGR_RECLAIM_HOLD))).updMgr fun m => { m with requested := true }).tellPeer 4 []
    else s
  | none => s

/-- MGR_CMD: 0x01 HANDBACK, 0x02 TRANSFER (R439, R444). -/
def State.ownMgrCmd (s : State) (v : Nat) : Own :=
  if v = 1 then
    if s.mgr.st = .standby && s.grade = 0 && s.mgr.synced then
      .ok ((s.updMgr fun m => { m with requested := true, cmdSt := .pending }).tellPeer 4 [])
    else if s.mgr.st = .active && s.mgr.peerSynced && leNat (s.mgr.peerCard.take 1) = 0 && s.mgr.handback.isNone then
      .ok ((s.updMgr fun m => { m with cmdSt := .pending }).acceptHandback)
    else .error abState
  else if s.mgr.st = .standby then .ok ((s.updMgr fun m => { m with cmdSt := .pending }).startTransfer)
  else .error abState

/-! ### State transfer (R433) -/

/-- TRANSFER_REQ arrives: the holder snapshots at the next cycle boundary. -/
def State.transferReq (s : State) : State := if s.mgr.st = .active then s.updMgr fun m => { m with snapReq := true } else s

/-- The snapshot: the state words and the active bank of every system slot, in ascending slot order. -/
def State.snapshotImage (s : State) : List Byte :=
  s.sysSlots.flatMap fun n => ((s.ls n).words ++ (s.ls n).bank).flatMap fun w => leBytes 4 w

/-- The holder's part at a cycle boundary k: the snapshot is taken, and a quarter of the TC1 share is sent of it. -/
def State.sendSnap (s : State) (k : Nat) : State :=
  let s := if !s.mgr.snapReq then s else
    let img := s.snapshotImage
    let s := s.updMgr fun m => { m with snapReq := false, snapBytes := img.length }
    if img.length > s.ring.sysCycle / 8 then (s.updMgr fun m => { m with tooBig := true }).raise Flt.MGR_SNAP_TOO_BIG 0
    else s.updMgr fun m => { m with tooBig := false, snap := some ⟨k, img, 0⟩ }
  match s.mgr.snap with
  | none => s
  | some q =>
    let n := min (s.ring.sysCycle / 64) (q.image.length - q.sent)
    let chunks := (n + 2015) / 2016
    let s := s.each (List.range chunks) fun s i =>
      let o := q.sent + 2016 * i
      let c := (q.image.drop o).take (min 2016 (q.sent + n - o))
      s.tellPeer 3 (leBytes 8 q.ks ++ leBytes 4 o ++ leBytes 4 q.image.length ++ c)
    s.updMgr fun m => { m with snap := if q.sent + n ≥ q.image.length then none else some { q with sent := q.sent + n } }

/-- Words of an image from a place on. -/
def imageWords (img : List Byte) (o n : Nat) : List Nat := (List.range n).map fun i => leNat ((img.drop (o + 4 * i)).take 4)

/-- A snapshot is loaded into the system slots. -/
def State.loadSnap (s : State) (img : List Byte) : State :=
  (s.sysSlots.foldl (fun (a : State × Nat) n =>
    let w := (a.1.ls n).words.length
    let b := (a.1.ls n).bank.length
    let words := imageWords img a.2 w
    let bank := imageWords img (a.2 + 4 * w) b
    (a.1.updLs n fun t => { t with
      words := words
      bankA := if t.act = 0 then bank else t.bankA
      bankB := if t.act = 0 then t.bankB else bank }, a.2 + 4 * (w + b))) (s, 0)).1

/-- A catch-up run of a system slot with logged inputs: it has no deadline and delivers nothing (R433). -/
def State.catchUp (s : State) (n : Nat) (ins : List (Nat × Nat)) : State :=
  match (s.ls n).prog with
  | none => s
  | some p =>
    let t := s.ls n
    let r : LRun := { kind := .plain, release := s.now, deadline := s.now, ins := ins, st := t.words }
    let r := LoopSlot.exec t p p.blocks.length (p.cost + 1) r
    s.updLs n fun t => { t with words := r.st, prev := r.outs, first := false }

/-- A STATE chunk arrives (R433): the last one loads the snapshot and runs the cycles since K_S from the log. -/
def State.stateRx (s : State) (ks ofs total : Nat) (chunk : List Byte) : State :=
  match s.mgr.transfer with
  | none => s
  | some t =>
    let data := (ofs, chunk) :: (if t.ks = some ks then t.data.filter fun d => d.1 ≠ ofs else [])
    let got := (data.map fun d => d.2.length).sum
    if got < total then s.updMgr fun m => { m with transfer := some { t with ks := some ks, data := data, total := total } }
    else
      let img := (sortBy (·.1) data).flatMap (·.2)
      let s := s.loadSnap img
      let s := s.each (s.mgr.log.filter fun e => decide (ks ≤ e.1)) fun s e => s.each e.2 fun s x => s.catchUp x.1 x.2
      s.updMgr fun m => { m with
        transfer := none, log := [], loaded := true, cmdSt := if m.cmdSt = .pending then .done else m.cmdSt }

/-- TRANSFER_TIMEOUT: not complete within 8 cycles (R433). -/
def State.transferTimeout (s : State) : State :=
  match s.mgr.transfer with
  | some t => (s.at_ (s.localOf ((t.start + 8) * s.sysCycleU))).startTransfer
  | none => s

/-! ### Digests compared (R432) -/

/-- The holder's digests differ from the standby's for the same cycle. -/
def State.diverge (s : State) : State :=
  let after := s.mgr.loaded
  let s := s.updMgr fun m => { m with
    synced := false, diverged := true, digestMiss := up32 m.digestMiss, missAt := some s.now, loaded := false
    badTransfers := if after then (s.now :: m.badTransfers).take 2 else m.badTransfers }
  let s := (s.raise Flt.MGR_DIVERGE 0).abortHandback 1
  let s := match s.mgr.badTransfers with
    | a :: b :: _ => if a ≤ b + secs 60 then s.setUnfit 3 else s
    | _ => s
  s.startTransfer.seeGrade

/-- The standby compares; while a transfer runs there is nothing to compare. -/
def State.compareDigests (s : State) (cycle inD outD : Nat) : State :=
  if s.mgr.st ≠ .standby || s.mgr.transfer.isSome || cycle ≠ s.cycleNo then s
  else if inD = s.mgr.inDigest && outD = s.mgr.outDigest then
    (if s.mgr.loaded then s.updMgr fun m => { m with synced := true, loaded := false } else s).seeGrade
  else if s.mgr.synced || s.mgr.loaded then s.diverge else s

/-- MGR_HEARTBEAT_RX: a heartbeat of node src, by its payload (R425, R427). -/
def State.heartbeatRx (s : State) (src : Nat) (p : List Byte) : State :=
  let mst := leNat ((p.drop 1).take 1)
  let epoch := leNat ((p.drop 4).take 4)
  let cycle := leNat ((p.drop 8).take 8)
  let active := mst % 16 = 3
  let m := s.mgr
  let prevails := active && (m.holder = 0xFFFF || epochAbove epoch m.epoch || (epoch = m.epoch && decide (src ≤ m.holder)))
  let top := if m.top = 0 || epochAbove epoch m.top then epoch else m.top
  let s := s.updMgr fun m => { m with
    top := top
    syncedNodes := if bit mst 5 then (if m.syncedNodes.contains src then m.syncedNodes else src :: m.syncedNodes)
      else m.syncedNodes.erase src }
  -- a manager that holds the pass steps down before one that prevails
  let s := if prevails && s.mgr.st = .active then
      ((s.updMgr fun m => { m with sending := false, handback := none, snap := none, snapReq := false }).raise
        Flt.MGR_DUAL_ACTIVE s.myNode).toStandby
    else s
  let s := if prevails then (s.updMgr fun m => { m with holder := src, epoch := epoch }).seeSource else s
  if s.ring.role = 0 && src = s.otherNode then
    let bad := bit mst 4 != (s.rd Od.MGR_MODE = 1)
    let was := s.mgr.mismatch
    let s := s.updMgr fun m => { m with
      peerCycle := some cycle, peerSynced := bit mst 5, peerSeen := true
      noStandby := false, mismatch := bad, peerCard := ((p.drop 24).take 32) ++ List.replicate (32 - ((p.drop 24).take 32).length) 0 }
    let s := if bad && !was then s.raise Flt.MGR_MODE_MISMATCH 0 else s
    if active then s.compareDigests cycle (leNat ((p.drop 16).take 4)) (leNat ((p.drop 20).take 4)) else s
  else s

/-- A manager frame of node src by its payload (R425). -/
def State.mgrFrame (s : State) (src : Nat) (p : List Byte) : State :=
  match leNat (p.take 1) with
  | 1 => s.heartbeatRx src p
  | 2 => s.transferReq
  | 3 => s.stateRx (leNat ((p.drop 16).take 8)) (leNat ((p.drop 24).take 4)) (leNat ((p.drop 28).take 4)) (p.drop 32)
  | 4 => s.handbackReq
  | 5 => s.handbackAccept (leNat ((p.drop 16).take 8))
  | 6 => s.handbackAbort (leNat ((p.drop 16).take 2))
  | _ => s

/-- What the managers do at the start of system cycle k (R426, R429, R432, R433, R441). -/
def State.mgrCycle (s : State) (k : Nat) : State :=
  if s.ring.role ≠ 0 || s.mgr.st = .none || s.mgr.st = .listening || s.mgr.st = .alone then s
  else
    let s := s.formDigests (k - 1)
    let seen := s.mgr.peerCycle = some (k - 1)
    let s := s.updMgr fun m => { m with missed := if seen then 0 else m.missed + 1, peerSeen := seen }
    let s := if !seen && s.mgr.st = .active && !s.mgr.noStandby then
      (s.updMgr fun m => { m with noStandby := true }).raise Flt.MGR_NO_STANDBY 0 else s
    let s := match s.mgr.handback with
      | some h =>
        if !h.receiver && s.rd Od.MGR_LOSS_CYCLES ≤ s.mgr.missed then s.abortHandback 2
        else if h.receiver && s.grade = 2 then s.abortHandback 3 else s
      | none => s
    (s.heartbeat.sendSnap k).seeGrade

/-! ### Followers (R430, R434) -/

/-- A TC0 frame of node 0 or 1 is accepted: from the holder, or from the other manager while its heartbeat shows SYNCED. -/
def State.acceptsMgr (s : State) (src : Nat) : Bool := s.mgr.holder = src || s.mgr.syncedNodes.contains src

/-- An accepted manager TC0 frame: FOLLOWING. -/
def State.wkFrame (s : State) : State := s.updMgr fun m => { m with wk := .following, wkAt := s.now, gap := 0 }

/-- A follower counts a cycle without an accepted frame. -/
def State.wkCycle (s : State) : State :=
  s.updMgr fun m => { m with gap := m.gap + 1, gapMax := max m.gapMax (min 65535 m.gap) }

/-- WK_HOLD_EXPIRY: two system cycles without one. -/
def State.wkHold (s : State) : State :=
  if s.isSource || s.mgr.wk ≠ .following || s.ring.sysCycle = 0 then s
  else ((s.at_ (s.mgr.wkAt + 2 * ns s.ring.sysCycle)).updMgr fun m => { m with wk := .holding }).raise Flt.WK_HOLD 0

/-- WK_DROOP_EXPIRY: WK_T_HOLD without one. -/
def State.wkDroop (s : State) : State :=
  if s.isSource || s.mgr.wk = .droop then s
  else
    let s := s.at_ (s.mgr.wkAt + ms (s.rd Od.WK_T_HOLD))
    (s.updMgr fun m => { m with wk := .droop, droops := up32 m.droops }).raise Flt.WK_DROOP 0

/-- WK_STATE; its code goes to the slot input that WK_STATE_INS names for each slot (R435). -/
def WkState.code : WkState → Nat
  | .following => 0 | .holding => 1 | .droop => 2
def State.wkInputs (s : State) : State :=
  s.each (List.range 128) fun s n =>
    let i := bits (s.rd Od.WK_STATE_INS) (8 * n + 7) (8 * n)
    if i < 16 then s.hostIn n i (F32.ofInt s.mgr.wk.code) else s

/-- MGR_STATUS (R444). -/
def State.mgrStatus (s : State) : Nat :=
  b2n s.mgr.synced + 2 * b2n (s.ring.role = 0 && s.mgrSends s.cycleNo) + 4 * b2n s.mgr.handback.isSome + 8 * b2n s.mgr.transfer.isSome +
    16 * b2n s.mgr.tooBig + 32 * b2n s.mgr.peerSeen + 64 * b2n s.mgr.diverged

/-- MGR_STATUS_CLR. -/
def State.ownMgrClr (s : State) (v : Nat) : Own := .ok (s.updMgr fun m => { m with diverged := m.diverged && !v.testBit 6 })

end Sys2Proof.Machine
end

