-- ==== Sys2Proof/Machine/StoreOps.lean ====
section
/-! DEFINITION. Stores and security (21): configuration banks, firmware slots, fuses, debug unlock, attestation, the
cellar's log and dumps. -/

namespace Sys2Proof.Machine

/-- The stores changed. -/
def State.updNor (s : State) (f : Stores → Stores) : State := { s with nor := f s.nor }

/-! ### The cellar's log (R530) -/

/-- An alarm record as bytes (R304). -/
def Alarm.bytes (a : Alarm) : List Byte :=
  leBytes 2 a.code ++ leBytes 2 a.detail ++ leBytes 2 a.inst ++ leBytes 2 a.flags ++ leBytes 4 (min a.count 0xFFFFFFFF) ++
    leBytes 8 (sysS a.first) ++ leBytes 4 (sysNs a.first) ++ leBytes 4 a.lastDelta ++ leBytes 4 a.seq

/-- Pages of 4 KiB in the log area, one eighth of the NAND (R530). -/
def logRoom : Nat := if Config.nandTwoTargets then 262144 else 131072

/-- A page that is full or due is written: its records join the written pages, with the CRC-32C that ends it. The oldest
page makes room. -/
def State.writePage (s : State) : State :=
  if s.nor.page = [] then s
  else s.updNor fun n => { n with pages := (n.page :: n.pages).take logRoom, page := [], written := n.written + 4096 }

/-- CEL_WEAR in ‰: the mean count of program and erase cycles, with the write amplification of 1.10, as a share of
CEL_PE_RATED (R534). -/
def State.wear (s : State) : Nat :=
  let size := if Config.nandTwoTargets then 8589934592 else 4294967296
  let rated := size * max 1 (s.rd Od.CEL_PE_RATED)
  min 1000 ((2 * 1100 * s.nor.written + rated) / (2 * rated))

/-- A record of the log: up to 64 kB in a second of local time; a full page is written at once (R530). -/
def State.logRecord (s : State) (rec : List Byte) : State :=
  if !s.nor.nand then s
  else
    let sec := s.now / secs 1
    let used := if s.nor.logSec = sec then s.nor.logBytes else 0
    if used + 32 > 64000 then
      (s.updNor fun n => { n with logSec := sec, logBytes := used, logDrops := up32 n.logDrops }).raise Flt.CEL_LOG_DROP 0
    else
      let s := if s.nor.page.length ≥ 127 then s.writePage else s
      s.updNor fun n => { n with
        logSec := sec, logBytes := used + 32
        pageAt := if n.page = [] then s.now else n.pageAt
        page := n.page ++ [rec] }

/-- What a log record of R530 that is no alarm stands for (log entry 96). -/
def logReset : Nat := 1
def logCommit : Nat := 2
def logFw : Nat := 3
def logFuse : Nat := 4
def logDump : Nat := 5

/-- A log record of a kind with one number. -/
def State.logEvent (s : State) (kind arg : Nat) : State :=
  s.logRecord (Alarm.bytes ⟨0, kind, arg % 65536, s.ring.nodeId % 1024, 1, s.sysNow, 0, 0⟩)

/-- CEL_LOG_PAGE_WRITE: the open page is written at most 100 ms after its first record. -/
def State.logPage (s : State) : State :=
  if s.nor.page = [] then s else (s.at_ (s.nor.pageAt + ms 100)).writePage

/-- CEL_WEAR is raised once the wear has reached 800 ‰ (R534). -/
def State.seeWear (s0 s : State) : State :=
  if s0.wear < 800 && s.wear ≥ 800 then s.raise Flt.CEL_WEAR 0 else s

/-! ### Configuration banks (R516 to R520) -/

/-- The bytes of a writable entry of a row. -/
def State.entryBytes (s : State) (r : OdRow) (idx sub : Nat) : List Byte := r.bytes (s.rd (r.reg idx sub))

/-- The body of a bank: a record for each persist entry that does not hold its default, the loop programs, and the
safety set's CRC, count and time (log entry 97). -/
def State.bankBody (s : State) : List Byte :=
  let od := s.od.flatMap fun e =>
    let idx := e.1 / 256; let sub := e.1 % 256
    match Od.find idx sub with
    | some r => if r.persist then bankRecord idx sub r.ty.code (r.bytes e.2) else []
    | none => []
  let progs := (List.range 128).flatMap fun n => match (s.ls n).prog with
    | some p => bankRecord (0x3000 + n) 3 15 p.image
    | none => []
  let safe := if s.sf.activeCrc = 0 && s.sf.signoffs = 0 then []
    else bankRecord 0x3800 6 4 (leBytes 4 s.sf.activeCrc) ++ bankRecord 0x3800 7 4 (leBytes 4 s.sf.signoffs) ++
      bankRecord 0x3800 8 12 (leBytes 14 (timeCode s.sf.signoffTime))
  od ++ progs ++ safe

/-- Greatest length of a body. -/
def bodyMax : Nat := 520128

/-- Bytes 0 to 31 of a bank's header. -/
def bankHead (seq len map : Nat) : List Byte :=
  leBytes 4 0x4B4E4142 ++ leBytes 2 1 ++ leBytes 2 0 ++ leBytes 4 seq ++ leBytes 4 len ++ leBytes 4 map ++ List.replicate 12 0

/-- DIGEST of a bank. -/
def bankDigest (seq map : Nat) (body : List Byte) : List Byte := shake256 (bankHead seq body.length map ++ body)

/-- A bank is valid (R518). -/
def Bank.valid (b : Bank) : Bool :=
  b.committed && decide (b.body.length ≤ bodyMax) && b.digest = bankDigest b.seq b.map b.body

/-- Bank 0 A, 1 B. -/
def Stores.bank (n : Stores) (i : Nat) : Option Bank := if i = 0 then n.bankA else n.bankB
def Stores.setBank (n : Stores) (i : Nat) (b : Option Bank) : Stores :=
  if i = 0 then { n with bankA := b } else { n with bankB := b }
/-- The active bank. -/
def Stores.activeBank (n : Stores) : Option Bank :=
  match n.active with
  | 1 => n.bankA | 2 => n.bankB | _ => none

/-- CFG_DIRTY: a persist entry differs from the active bank. -/
def State.cfgDirty (s : State) : Bool :=
  match s.nor.activeBank with
  | some b => b.body ≠ s.bankBody
  | none => s.bankBody ≠ []

/-- A bank write begins (R517): the copy is taken, the bank that is not active erased. With no active bank it is bank A. -/
def State.beginCommit (s : State) : State :=
  let n := s.nor
  let t := if n.active = 1 then 1 else 0
  let seq := match n.activeBank with
    | some b => (b.seq + 1) % 2 ^ 32
    | none => 1
  let map := Config.odMapVersion.toNat
  let body := s.bankBody
  s.updNor fun n => { n.setBank t none with commit := some ⟨t, ⟨seq, map, body, bankDigest seq map body, true⟩, s.now⟩ }

/-- A commit is asked for: refused while the body is too long, and behind a running one it waits. -/
def State.askCommit (s : State) (sf : Bool) : Own :=
  if s.bankBody.length > bodyMax then .error abSpace
  else if s.nor.commit.isSome then .ok (s.updNor fun n => { n with queue := n.queue ++ [sf] })
  else .ok s.beginCommit

/-- CFG_CMD COMMIT (R517). -/
def State.cfgCommit (s : State) : Own :=
  if s.nor.commit.isSome then .error abBusy
  else match s.askCommit false with
    | .ok s => .ok (s.updNor fun n => { n with cfgSt := .pending })
    | .error e => .error e
/-- CFG_COMMIT_DONE: the bank write ends at most 3 s after its start; `good` says that readback and DIGEST agree (R517). -/
def State.commitDone (s : State) (t : Nat) (good : Bool) : State :=
  match s.nor.commit with
  | none => s
  | some c =>
    let s := s.at_ (min t (c.since + secs 3))
    let s := s.updNor fun n => { n with commit := none }
    let s := if good then
        (s.updNor fun n => { n.setBank c.target (some c.bank) with
          active := c.target + 1, commits := up32 n.commits, cfgSt := if n.cfgSt = .pending then .done else n.cfgSt }).logEvent
            logCommit c.target
      else
        (s.updNor fun n => { n with
          norErrors := up32 n.norErrors, cfgSt := if n.cfgSt = .pending then .refused else n.cfgSt }).raise Flt.STORE_NOR_ERR 0
    match s.nor.queue with
    | [] => s
    | _ :: q => (s.updNor fun n => { n with queue := q }).beginCommit

/-! ### Records applied (R519, R520) -/

/-- A record names an entry that a bank may restore, and its value passes the checks of R448 on a value. -/
def recordOk (safe : Bool) (idx sub typ : Nat) (v : List Byte) : Bool :=
  match Od.find idx sub with
  | some r =>
    r.persist && typ = r.ty.code && (safe || r.acc ≠ .safe) && decide (r.acc ≠ .ro) && r.check v = 0 && r.divides (leNat v)
  | none => false

/-! ### Firmware slots (R523 to R525) -/

/-- Firmware slot i. -/
def Stores.slot (n : Stores) (i : Nat) : FwSlot := n.slots.getD i {}
def Stores.updSlot (n : Stores) (i : Nat) (f : FwSlot → FwSlot) : Stores := { n with slots := n.slots.modify i f }

/-- A slot is valid (R524). -/
def Stores.fwValid (n : Stores) (i : Nat) : Bool :=
  let x := n.slot i
  x.written && !x.revoked && x.sound && decide (x.rollback ≥ n.fuses.fwRb)

/-- SEQ a is newer than b in 32-bit serial arithmetic. -/
def newer32 (a b : Nat) : Bool := a ≠ b && decide ((a + 2 ^ 32 - b % 2 ^ 32) % 2 ^ 32 < 2 ^ 31)

/-- The slot of a list with the newest SEQ. -/
def Stores.newest (n : Stores) (l : List Nat) : Option Nat :=
  l.foldl (fun a i => match a with
    | none => some i
    | some j => if newer32 (n.slot i).seq (n.slot j).seq then some i else some j) none

/-- Stage ROM: the slot to boot (R524). -/
def Stores.bootSlot (n : Stores) : Option Nat :=
  let valid := [0, 1].filter n.fwValid
  (n.newest (valid.filter fun i => (n.slot i).confirmed || !(n.slot i).tried)).orElse fun _ =>
    n.newest (valid.filter fun i => (n.slot i).tried && !(n.slot i).confirmed)

/-- The ROM boots a slot: TRIED is programmed first, and a fallback is counted (R524). -/
def State.bootRom (s : State) (i : Nat) : State :=
  let best := s.nor.newest ([0, 1].filter s.nor.fwValid)
  let s := s.updNor fun n => { n.updSlot i (fun x => { x with tried := true }) with running := i }
  if best = some i then s
  else (s.updNor fun n => { n with fallbacks := up32 n.fallbacks }).raise Flt.FW_FALLBACK i

/-- FW_VERSION, SAFE_FW_VERSION and FW_DIGEST of a slot. -/
def FwSlot.fwVersion (x : FwSlot) : Nat := if x.made then Config.fwVersion.toNat else x.version
def FwSlot.safeFw (x : FwSlot) : Nat := if x.made then Config.safeFwVersion.toNat else x.safeVersion
def FwSlot.digest (x : FwSlot) : List Byte := if x.made then (Config.fwDigest ++ List.replicate 32 0).take 32 else shake256 x.image

/-- FW_IMAGE begins: the slot not running is erased (R525). -/
def State.fwErase (s : State) : State := s.updNor fun n => n.updSlot (1 - n.running) fun _ => {}

/-- FW_IMAGE ends: the whole slot is verified under R524, and WRITTEN programmed (R523, log entry 95). -/
def State.ownFwImage (s : State) (img : List Byte) : Own :=
  let key := seg img 20 57
  let body := img.drop 4096
  if img.length < 4096 + trailerLen then .error abImage
  else if shake256 key ≠ Config.vendorKeyHash then .error abImage
  else if !s.sigOk body kindFw key then .error abSignature
  else .ok (s.updNor fun n => n.updSlot (1 - n.running) fun _ =>
    { seq := leAt img 4 4, version := leAt img 12 4, safeVersion := leAt img 16 4
      rollback := leAt (imgTrailer body) 4 4, written := true, sound := true, image := img })

/-- A FW_IMAGE transfer is open. -/
def State.fwOpen (s : State) : Bool := s.acc.segs.any fun x => x.idx = 0x1B00 && x.sub = 0x10

/-- FW_CMD ACTIVATE: the device resets as RST_CMD does, once every unit has stopped (R525, R537). -/
def State.fwActivate (s : State) : Own :=
  let n := s.nor
  let o := 1 - n.running
  if s.fwOpen then .error abBusy
  else if s.legsEnabled ≠ 0 then .error abState
  else if !n.fwValid o || (n.slot o).tried || !newer32 (n.slot o).seq (n.slot n.running).seq then .error abImage
  else
    let s := (s.updNor fun n => { n with fwSt := .done }).logEvent logFw 1
    .ok { s.allStop with pwr := { s.allStop.pwr with rstPend := true } }

/-- FW_CMD CONFIRM (R525). -/
def State.fwConfirm (s : State) : Own :=
  let n := s.nor
  let x := n.slot n.running
  if !x.tried || x.confirmed then .error abState
  else .ok ((s.updNor fun n => { n.updSlot n.running (fun x => { x with confirmed := true }) with
    fuses := { n.fuses with fwRb := max n.fuses.fwRb (min 128 x.rollback) }, fwSt := .done, journal := n.journal + 1 }).logEvent logFw 2)

/-! ### Fuses, debug, attestation (R526 to R529) -/

/-- DEBUG_KILL is blown (R526). -/
def Fuses.killed (f : Fuses) : Bool := decide (b2n (f.debugKill.testBit 0) + b2n (f.debugKill.testBit 1) + b2n (f.debugKill.testBit 2) ≥ 2)

/-- The number of owner-key slots in use. -/
def Fuses.emptyKey (f : Fuses) : Option Nat :=
  if !f.ownerCtrl.testBit 0 then some 0 else if !f.ownerCtrl.testBit 2 then some 1 else none

/-- What a fuse command's argument must be: 0 accepted, or the abort code (R527). -/
def State.fuseCheck (s : State) (cmd : Nat) : Nat :=
  let f := s.nor.fuses
  let a := s.nor.fuseArg
  let serial := leBytes 8 Config.serial.toNat
  match cmd with
  | 1 =>
    match f.emptyKey with
    | none => abState
    | some 0 => if a.length = 57 then 0 else abImage
    | some _ =>
      if a.length ≠ 57 + trailerLen then abImage
      else if s.sigOk a kindFuse [] && leAt (imgTrailer a) 3 1 = 1 then 0 else abSignature
  | 2 =>
    if !f.keyLive 1 then abState
    else if imgBody a ≠ serial then abImage
    else if s.sigOk a kindFuse [] && leAt (imgTrailer a) 3 1 = 2 then 0 else abSignature
  | 3 =>
    if a.length ≠ 4 + trailerLen then abImage
    else if !s.sigOk a kindFuse [] then abSignature
    else if leAt a 0 4 > f.ownRb && leAt a 0 4 ≤ 64 then 0 else abState
  | _ =>
    if imgBody a ≠ serial then abImage
    else if s.sigOk a kindFuse [] && leAt (imgTrailer a) 8 8 = Config.serial.toNat then 0 else abSignature

/-- SEC_FUSE_CMD: the programming begins (R527). -/
def State.fuseCmd (s : State) (cmd : Nat) : Own :=
  if s.nor.fuseRun.isSome then .error abBusy
  else if s.legsEnabled ≠ 0 then .error abState
  else
    let e := s.fuseCheck cmd
    if e ≠ 0 then .error e
    else .ok ((s.updNor fun n => { n with fuseRun := some (cmd, n.fuseArg, s.now), fuseSt := .pending }).logEvent logFuse cmd)

/-- The fuses after a command. -/
def Fuses.program (f : Fuses) (cmd : Nat) (a : List Byte) : Fuses :=
  match cmd with
  | 1 =>
    match f.emptyKey with
    | some 0 => { f with ownerKey0 := a.take 57, ownerCtrl := f.ownerCtrl ||| 1 }
    | some _ => { f with ownerKey1 := a.take 57, ownerCtrl := f.ownerCtrl ||| 4 }
    | none => f
  | 2 => { f with ownerCtrl := f.ownerCtrl ||| 2 }
  | 3 => { f with ownRb := max f.ownRb (leAt a 0 4) }
  | _ => { f with debugKill := f.debugKill ||| 7 }

/-- FUSE_CMD_DONE: within 20 ms the command has ended; `good` says that every bit was programmed (R527). -/
def State.fuseDone (s : State) (t : Nat) (good : Bool) : State :=
  match s.nor.fuseRun with
  | none => s
  | some (cmd, a, t0) =>
    (s.at_ (min t (t0 + ms 20))).updNor fun n => { n with
      fuseRun := none, fuseSt := if good then .done else .refused, journal := n.journal + 1
      fuses := if good then n.fuses.program cmd a else n.fuses }

/-- SEC_DEBUG_UNLOCK (R528). -/
def State.ownDebug (s : State) (img : List Byte) : Own :=
  if s.nor.fuses.killed then .error abState
  else match s.nor.nonce with
    | none => .error abState
    | some nonce =>
      if !s.sigOk img kindDbg [] then .error abSignature
      else if imgBody img ≠ nonce || leAt (imgTrailer img) 8 8 ≠ Config.serial.toNat then .error abImage
      else .ok (s.updNor fun n => { n with debugOpen := true })

/-- SEC_NONCE: one attestation is armed. -/
def State.ownNonce (s : State) (v : List Byte) : Own := .ok (s.updNor fun n => { n with nonce := some v })

/-- CFG_DIGEST. -/
def State.cfgDigest (s : State) : List Byte :=
  match s.nor.activeBank with
  | some b => b.digest
  | none => List.replicate 32 0

/-- A list of bytes of one length. -/
def fitTo (n : Nat) (l : List Byte) : List Byte := (l ++ List.replicate n 0).take n

/-- A read of SEC_ATTEST (R529). -/
def State.attest (s : State) : Except Nat (List Byte × State) :=
  match s.nor.nonce with
  | none => .error abState
  | some nonce =>
    let n := s.nor
    let f := n.fuses
    let fuses := f.ownerCtrl % 256 + f.fwRb % 256 * 2 ^ 8 + f.ownRb % 256 * 2 ^ 16 + b2n f.killed * 2 ^ 24 + b2n n.debugOpen * 2 ^ 25
    let rec_ := fitTo 32 nonce ++ (n.slot n.running).digest ++ s.cfgDigest ++ leBytes 8 Config.serial.toNat ++ leBytes 8 fuses ++
      leBytes 14 (timeCode s.sysNow) ++ leBytes 2 0
    .ok (rec_ ++ fitTo 114 (Config.idSign rec_), s.updNor fun n => { n with nonce := none })

/-- SEC_STATE. -/
def State.secState (s : State) : Nat :=
  s.nor.fuses.ownerCtrl % 16 + b2n s.nor.fuses.killed * 16 + b2n s.nor.debugOpen * 32 + b2n s.nor.nonce.isSome * 64

/-! ### Dumps (R531 to R535) -/

/-- The dump CEL_SEL names. -/
def State.selDump (s : State) : Option Dump := s.nor.dumps.find? fun d => d.number = s.rd Od.CEL_SEL
/-- A dump changed by its number. -/
def State.updDump (s : State) (k : Nat) (f : Dump → Dump) : State :=
  s.updNor fun n => { n with dumps := n.dumps.map fun d => if d.number = k then f d else d }

/-- CEL_STATE full stands while no dump can be overwritten (R533). -/
def Stores.seeFull (n : Stores) : Stores := { n with full := n.full && n.dumps.all fun d => d.isProtected || d.uploading }

/-- What the trace RAM holds of a pre-window, oldest first. -/
def Stores.preData (n : Stores) (w : Option (Nat × Nat)) : List Byte :=
  match w with
  | some (a, b) => (n.traceRam.filter fun r => decide (a ≤ r.1) && decide (r.1 ≤ b)).reverse.flatMap (·.2)
  | none => []

/-- PRE_WINDOW_WRITTEN: the frozen content is in each dump that it is owed to, and the trace RAM resumes, at most 100 ms
after the freeze. -/
def State.preWritten (s : State) : State :=
  match s.nor.frozen with
  | none => s
  | some t =>
    let s := s.at_ (t + ms 100)
    s.updNor fun n => { n with
      frozen := none
      written := n.written + (n.dumps.map fun d => (n.preData d.preWin).length).sum
      dumps := n.dumps.map fun d => { d with data := n.preData d.preWin ++ d.data, preWin := none } }

/-- CEL_DUMP_END: the post-window is over; the end record enters the log (R532). -/
def State.dumpEnd (s : State) : State :=
  match s.nor.dumpAt with
  | none => s
  | some t =>
    let s1 := (s.at_ (t + ms (s.rd Od.CEL_POST))).updNor fun n => { n with
      dumpAt := none, dumps := n.dumps.map fun d => if d.state = 3 then { d with state := 1 } else d }
    s.seeWear (s1.logEvent logDump (s1.nor.nextDump - 1))

/-- CEL_STATE. -/
def State.celState (s : State) : Nat :=
  if !s.nor.nand then 0 else if s.nor.full then 3 else if s.nor.dumpAt.isSome then 2 else 1

/-- Bytes of a dump a read may see: whole chunks of one that runs (R537). -/
def Dump.readable (d : Dump) : List Byte :=
  if d.state = 1 then d.data else d.data.take (d.data.length / 1048576 * 1048576)

/-- CEL_DUMP_INFO (R532). -/
def Dump.info (d : Dump) : List Byte :=
  leBytes 4 d.number ++ leBytes 1 d.state ++ leBytes 1 (packBits [d.isProtected, d.uploading]) ++ leBytes 2 d.code ++
    leBytes 14 (timeCode d.time) ++ leBytes 2 d.triggers ++ leBytes 4 d.preUs ++ leBytes 4 ((d.readable.length + 1048575) / 1048576) ++
    leBytes 8 d.data.length ++ leBytes 4 d.dropped ++ List.replicate 20 0

/-- CEL_CMD (R531, R533, R535). -/
def State.ownCelCmd (s : State) (v : Nat) : Own :=
  let done (s : State) : Own := .ok (s.updNor fun n => { n with celSt := .done })
  if !s.nor.nand then .error abState
  else if v = 1 then
    let s := s.dumpTrigger 4 0
    .ok (s.updNor fun n => { n with celSt := if n.full then .refused else .done })
  else match s.selDump with
    | none => .error abState
    | some d =>
      match v with
      | 2 => done (s.updDump d.number fun d => { d with isProtected := true })
      | 3 => done ((s.updDump d.number fun d => { d with isProtected := false }).updNor Stores.seeFull)
      | _ =>
        if s.nor.dumps.any (·.uploading) then .error abBusy
        else if d.state = 3 then .error abState
        else .ok ((s.updDump d.number fun d => { d with uploading := true }).updNor fun n => { n with celSt := .pending, upDone := 0 })

/-- Bytes of a dump in one TYPE 0x0B frame: the most a frame carries (log entry 99). -/
def upChunk : Nat := 2048

/-- The next frame of an upload waits for its lanes once the one before has been sent on both. -/
def State.upNext (s : State) : State :=
  match s.nor.dumps.find? (·.uploading) with
  | none => s
  | some d =>
    if s.ring.waiting.any fun w => w.frame.typ = 0x0B && w.item = 5 then s
    else
      let p := (d.readable.drop s.nor.upDone).take upChunk
      if p = [] then s
      else (s.send 0x0B 0 0 (s.rd Od.CEL_DST) p).updNor fun n => { n with upDone := n.upDone + p.length }

/-- UPLOAD_DONE: the last byte has been sent (R535). -/
def State.uploadDone (s : State) : State :=
  match s.nor.dumps.find? (·.uploading) with
  | none => s
  | some d =>
    if s.nor.upDone < d.readable.length || (s.ring.waiting.any fun w => w.frame.typ = 0x0B && w.item = 5) then s
    else ((s.updDump d.number fun d => { d with uploading := false }).updNor Stores.seeFull).updNor fun n => { n with
      celSt := if n.celSt = .pending then .done else n.celSt }

/-- A read of CEL_READ: the selected dump from CEL_READ_OFS. -/
def State.celRead (s : State) : List Byte :=
  match s.selDump with
  | none => []
  | some d => (d.readable.drop (s.rd Od.CEL_READ_OFS)).take 33554432

/-- A NOR or NAND write is in progress or queued (R497). -/
def State.storeBusy (s : State) : Bool :=
  s.nor.commit.isSome || s.nor.queue ≠ [] || s.nor.dumpAt.isSome || s.fwOpen || s.nor.page ≠ []

end Sys2Proof.Machine
end

