-- ==== Sys2Proof/Machine/PwrOps.lean ====
section
/-! DEFINITION. Power domains, sleep, reset and start-up (20). -/

namespace Sys2Proof.Machine

/-- The caretaker changed. -/
def State.updPwr (s : State) (f : Power → Power) : State := { s with pwr := f s.pwr }

/-- No reset is held and the device does not sleep. -/
def State.runs (s : State) : Bool := !s.pwr.held && !s.pwr.sleep

/-- A command that a device in reset or SLEEP does not see. -/
def State.awake (s : State) (f : State → State) : State := if s.runs then f s else s

/-- READY (R509). -/
def State.ready (s : State) : Bool := s.pwr.stage = .ready

/-! ### Domains (R497 to R500) -/

/-- Wake time of a domain. -/
def wakeTime (d : Nat) : Nat :=
  match d with
  | 3 => us 40 | 4 => us 20 | 5 => us 200 | 6 => ms 2 | 7 => us 300 | 8 => us 100 | 9 => us 50 | _ => 0

/-- PWR_STATE. -/
def State.pwrState (s : State) : Nat := packBits (s.pwr.doms.map fun d => d = .on)

/-- PWR_REQ with a bit set or cleared. -/
def State.reqBit (s : State) (d : Nat) (on : Bool) : State :=
  let v := s.rd Od.PWR_REQ
  s.wr Od.PWR_REQ (if on then v ||| 2 ^ d else v &&& (0xFFFF - 2 ^ d))

/-- The record of R500 for a wake of domain d. -/
def State.wakeRecord (s : State) (d source master : Nat) : State :=
  { s with ret := { s.ret with wakeLast := ⟨d, source, master, sysS s.sysNow % 2 ^ 32, sysNs s.sysNow⟩ } }

/-- A domain that is off begins to wake. -/
def State.wake (s : State) (d source master : Nat) : State :=
  if 3 ≤ d && d < 10 && !s.bist.held.testBit d && s.pwr.doms.getD d .off = .off then
    ((s.updPwr fun p => { p with doms := p.doms.set d (.waking s.now source master) }).reqBit d true).wakeRecord d source master
  else s

/-- Switching the domain off is refused (R497). -/
def State.offRefused (s : State) (d : Nat) : Bool :=
  match d with
  | 3 =>
    (s.le.slots.any fun t => t.st = .running) || (List.range 32).any fun c => s.thOn c && !s.slotStopped c
  | 4 => s.legsEnabled ≠ 0 || s.cars.any fun c => c.st ≠ .stopped
  | 5 => (List.range 32).any fun c => !s.slotStopped c
  | 6 => s.ring.st ≠ .alone
  | 7 => bits (s.rd Od.NET_CTRL) 1 0 ≠ 0
  | 8 => s.storeBusy
  | 9 =>
    ((List.range 16).any fun a => (s.cmpUnits a).any fun cu => s.ust cu.1 cu.2 ≠ .stopped) || s.fbInUse 0 || s.fbInUse 1 || s.fbInUse 2
  | _ => true

/-- What a domain loses when it is switched off. -/
def State.domainOff (s : State) (d : Nat) : State :=
  let s := s.updPwr fun p => { p with doms := p.doms.set d .off }
  match d with
  | 5 => s.measStop
  | 6 => s.linkDown
  | 7 =>
    let gone (p : Path) := p = .eth || p = .can
    { s with acc := { s.acc with
        ethUp := false, ethLink := 0, canSt := 0
        fwd := s.acc.fwd.filter fun f => !gone f.msg.req.path
        stalled := s.acc.stalled.filter fun f => !gone f.2.req.path } }
  -- the comparators are off: no line and no trip stays asserted (R239, R240)
  | 9 => { s with lv := { s.lv with comps := s.lv.comps.map fun x => { x with hi := false, lo := false, trip := false } } }
  | _ => s

/-- PWR_REQ: each bit by itself; a refused one stays on and shows in PWR_REQ_STATUS. The answer says whether any was
refused. A domain that an access wakes is judged once the access has been served (R510). -/
def State.pwrReq (s : State) (v : Nat) : State × Bool :=
  let s := s.updPwr fun p => { p with reqRefused := 0 }
  [3, 4, 5, 6, 7, 8, 9].foldl (fun (a : State × Bool) d =>
    let (s, bad) := a
    if v.testBit d then
      let s := s.updPwr fun p => { p with offAfter := p.offAfter.erase d }
      if s.bist.held.testBit d then (s.updPwr fun p => { p with reqRefused := p.reqRefused ||| 2 ^ d }, true)
      else if s.pwr.doms.getD d .off = .off then (s.wake d 1 0, bad) else (s.reqBit d true, bad)
    else if s.pwr.doms.getD d .off = .off then (s.reqBit d false, bad)
    else if s.pwr.doms.getD d .off = .test then (s.updPwr fun p => { p with reqRefused := p.reqRefused ||| 2 ^ d }, true)
    else if s.acc.stalled.any fun x => x.1 = d then (s.updPwr fun p => { p with offAfter := d :: p.offAfter.erase d }, bad)
    else if s.offRefused d then (s.updPwr fun p => { p with reqRefused := p.reqRefused ||| 2 ^ d }, true)
    else ((s.domainOff d).reqBit d false, bad)) (s, false)

/-- A loop slot after its domain has woken: program, banks and state words stand in LOOP SRAM (R499, R182). -/
def LoopSlot.woken (t : LoopSlot) : LoopSlot :=
  { st := t.st, prog := t.prog, bankA := t.bankA, bankB := t.bankB, act := t.act, swap := t.swap, words := t.words
    first := t.first, prev := t.prev, outs := t.outs, pipe := t.pipe, pendResume := t.pendResume }

/-- Counters, status fields and live values of a domain restart from their defaults (R499). -/
def State.domainUp (s : State) (d : Nat) : State :=
  match d with
  | 3 =>
    { s with
      le := { slots := s.le.slots.map LoopSlot.woken }
      th := { shut := s.th.shut, shutDie := s.th.shutDie, unwritten := s.th.unwritten, failAt := s.th.failAt, cell := s.th.cell, dieAt := s.now, dieTry := s.now
              slots := (List.range 32).map fun c => { fromShut := s.th.shut.testBit c, since := s.now } } }
  | 4 =>
    { s with
      legs := List.replicate 192 {}, cars := List.replicate 64 {}, slots := List.replicate 32 {}
      -- the string sequencer and the LV port sequencer stand in LEGS (R215, 09)
      strings := List.replicate 32 {}, glideSteps := 0, strRecords := 0
      lv := { comps := s.lv.comps }
      gates := s.gates.mapIdx fun l g =>
        let d := 128 * s.rd (Od.LEG_DT_INIT l)
        { fkPin := g.fkPin, sn := g.sn, stoLow := s.safeHeld (legSlot l), dF := d, dR := d
          fk := if s.fkOn l then .deglitch s.now else .none }
      soon := [] }
  | 5 =>
    let s : State := { s with mdats := List.replicate 96 {}, meas := {} }
    let s := s.each [0, 2, 4, 6] fun s i => s.streamStart i
    s.each (List.range 96) fun s m => if s.mdOn m then s.mdRestart m else s
  | 6 => s.toFreerun.linkUp
  | 9 => { s.feedWake with lv := { s.lv with comps := List.replicate 16 {} } }
  | _ => s

/-- A domain is ready, as DOMAIN_READY finds it at t; its stalled accesses are served by the caller. -/
def State.domainReady (s : State) (d t : Nat) : State :=
  match s.pwr.doms.getD d .off with
  | .waking since source master =>
    let s := s.at_ (min t (since + 4 * wakeTime d))
    let s := s.updPwr fun p => { p with doms := p.doms.set d .on, wakes := up32 p.wakes }
    (s.domainUp d).wakeRecord d source master
  | _ => s

/-- Master ID of a path (R13, R468). -/
def pathMaster : Path → Nat
  | .eth => 5 | .can => 6 | .spi => 7 | .ring => 4

/-- The access that a request makes, as a first-error capture shows it (R301, R468): operations 2 and 5 write. -/
def Msg.access (m : Msg) : FltAccess :=
  { master := pathMaster m.req.path, access := if m.op = 2 || m.op = 5 then 5 else 4
    node := if m.req.path = .ring then m.req.who % 1024 else 0x3FF, addr := m.idx * 2 ^ 16 + m.sub * 2 ^ 8 }

/-- An access that a command names only by its master, as a capture shows it (R301): its address, and the node behind
master 0x04, stay open (log entry 201). -/
def busCapture (master access v : Nat) : FltAccess :=
  { master := master, access := access, node := if master = 4 then v % 1024 else 0x3FF, addr := v / 1024 % 2 ^ 32 }

/-- The access that woke a domain: the first request that waits for it; of another master, whether it reads, writes or
fetches stays open too. -/
def State.wakeAccess (s : State) (d source master : Nat) : FltAccess × State :=
  if source ≠ 2 then ({}, s)
  else match s.acc.stalled.find? fun x => x.1 = d && pathMaster x.2.req.path = master with
    | some x => (Msg.access x.2, s)
    | none =>
      let (v, s) := s.draw
      (busCapture master (1 + v % 3) (v / 3), s)

/-- A domain is not ready within four times its wake time; its stalled accesses are refused by the caller. -/
def State.wakeTimeout (s : State) (d : Nat) : State :=
  match s.pwr.doms.getD d .off with
  | .waking since source master =>
    let s := s.at_ (since + 4 * wakeTime d)
    let (a, s) := s.wakeAccess d source master
    ((s.domainOff d).reqBit d false).raiseBy Flt.PWR_WAKE_TMO d 0 a
  | _ => s

/-- DOMAIN_WAKE_ACCESS: an access by a master of R13 (R498). -/
def State.accessWake (s : State) (d master : Nat) : State := if d = 6 then s else s.wake d 2 master

/-- An access over the interconnect: a write into SAFE by another master than the safety core is refused and recorded
(R14), and any other access wakes a domain that is off. -/
def State.busAccess (s : State) (d master : Nat) (write : Bool) : State :=
  if write && d = 2 && master ≠ 2 then
    let (v, s) := s.draw
    s.raiseBy Flt.BUS_ACCESS master 0 (busCapture master 2 v)
  else s.accessWake d master

/-! ### Supplies (R496) -/

/-- A supply of PWR_SUPPLY leaves its range or returns. -/
def State.supplySet (s : State) (b : Nat) (ok : Bool) : State :=
  s.updPwr fun p => { p with supply := if ok then p.supply ||| 2 ^ b else p.supply &&& (0xFFFF - 2 ^ b) }

/-- The bank that serves leg Ll (R494). -/
def bankOf (l : Nat) : Nat := l / 24

/-- The bank of every leg of unit u of Cc is in range. -/
def State.banksOk (s : State) (c u : Nat) : Bool := (s.unitLegIds c u).all fun l => s.pwr.supply.testBit (bankOf l)

/-- PWR_BANK: with any of its legs enabled, the bank's live units are taken through their safe-off (R496). -/
def State.pwrBank (s : State) (b : Nat) : State :=
  let on := (List.range 24).any fun i => (s.leg (24 * b + i)).enabled
  let s := s.supplySet b false
  if !on then s
  else
    let us := s.allUnits.filter fun cu => (s.unitLegIds cu.1 cu.2).any fun l => bankOf l = b
    let s := s.each us fun s cu => if (s.ust cu.1 cu.2).live then s.safeOffUnit cu.1 cu.2 Flt.PWR_BANK false else s
    s.raise Flt.PWR_BANK b

/-- VDDA_ADC leaves its range: the comparators release their lines. -/
def State.pwrAnalog (s : State) : State :=
  let s := s.supplySet 8 false
  let s := s.each (List.range 16) fun s a => s.updCmp a fun x => { x with hi := false, lo := false, trip := false }
  s.raise Flt.PWR_ANALOG 0

/-- PWR_IO: bit 9, 10 or 11. -/
def State.pwrIo (s : State) (b : Nat) : State := (s.supplySet b false).raise Flt.PWR_IO b

/-! ### Reset (R503 to R508) -/

/-- The stores after a reset: what is written stays, and what lacks its marker is ignored (R536). -/
def Stores.afterReset (n : Stores) (v : Nat) : Stores :=
  let n1 := match n.commit with
    | some c => n.setBank c.target (some { c.bank with committed := false })
    | none => n
  -- thermometer bits and the bits of DEBUG_KILL are programmed one at a time
  let f := match n.fuseRun with
    | some (3, a, _) => { n.fuses with ownRb := max n.fuses.ownRb (n.fuses.ownRb + v % (leAt a 0 4 - n.fuses.ownRb + 1)) }
    | some (4, _, _) => { n.fuses with debugKill := n.fuses.debugKill ||| v % 8 }
    | _ => n.fuses
  { bankA := n1.bankA, bankB := n1.bankB, slots := n.slots, running := n.running, fuses := f, events := n.events
    journal := n.journal, nextDump := n.nextDump, pages := n.pages, written := n.written, badBlocks := n.badBlocks
    dumps := n.dumps.map fun d =>
      if d.unfinished then { d with state := 2, uploading := false, preWin := none, data := d.data.take (d.data.length / 1048576 * 1048576) }
      else { d with uploading := false } }

/-- Records of operation 0x03 that lack their marker. -/
def State.openRecords (s : State) : Nat := b2n s.nor.commit.isSome + b2n s.fwOpen + s.nor.dumps.countP Dump.unfinished

/-- A reset with the bits of RST_CAUSE given, now: every entry at its default, and what outlives a reset. -/
def State.hwReset (s : State) (cause : Nat) (cold : Bool) : State :=
  let (v, s) := s.draw
  let inc := s.openRecords
  let ret : Retention :=
    if cold then { rstCause := cause }
    else { s.ret with rstCause := cause, rstCounts := s.ret.rstCounts.mapIdx fun i n => if cause.testBit i then up32 n else n }
  let pin (p : StoPin) : StoPin := { low := p.low, since := s.now, demand := p.low, cause := true, hw := p.low }
  let sleepKey (e : Nat × Nat) := e.1 = Od.SLEEP_WAKE.key || e.1 = Od.SLEEP_TIMER.key
  let r : State :=
    { now := s.now
      od := if cold then [] else s.od.filter sleepKey
      gates := s.gates.map fun g => { fkPin := g.fkPin, sn := g.sn }
      th := { shut := ret.shut, shutDie := ret.shutDie, unwritten := if cold then [] else s.th.unwritten, dieAt := s.now, dieTry := s.now
              slots := (List.range 32).map fun c => { fromShut := ret.shut.testBit c, since := s.now } }
      fb := s.feedWake.fb
      sf := { pinA := pin s.sf.pinA, pinB := pin s.sf.pinB }
      clk := { refOk := s.clk.refOk, linkclkOk := s.clk.linkclkOk }
      pwr := { supply := s.pwr.supply, resetAt := s.now, coldAt := if cold then s.now else s.pwr.coldAt
               incomplete := inc, rstLow := s.pwr.rstLow, alert := s.pwr.alert, held := s.pwr.held }
      ret := ret
      nor := s.nor.afterReset v
      lanes := s.lanes.map fun x => { los := x.los, modAbs := x.modAbs }
      tb := { base := s.now, running := s.clk.refOk }
      out := s.out, free := s.free, pending := s.pending }
  iter (fun r => r.raise Flt.PWR_OP_INCOMPLETE 3) inc r

/-- Pending resets take place once every stop has completed (R293, R503). -/
def State.settleReset (s : State) : State :=
  if (s.pwr.rstPend || s.flt.resetPend) && s.allStopped then
    s.hwReset (4 * b2n s.pwr.rstPend + 8 * b2n s.flt.resetPend) false
  else s

/-- A pulse on a reset input acts: below 10 µs never, from 50 µs always, in between as the device decides (R504). -/
def State.pulseActs (s : State) (width : Nat) : Bool × State :=
  if width < us 10 then (false, s) else if width ≥ us 50 then (true, s)
  else let (v, s) := s.draw; (v % 2 = 1, s)

/-- RST_N falls at t and rises after `width`; reset is held to 100 µs after. After RST_HELD it is the pin's rise. -/
def State.rstN (s : State) (t width : Nat) : State :=
  if s.pwr.held then
    let s := s.at_ (t + width)
    let s := s.updPwr fun p => { p with
      held := false, alert := false, rstLow := none, resetAt := s.now, lowFrom := p.rstLow.getD t, heldTo := s.now + us 100 }
    let s := if s.ret.rstHeld then s.raise Flt.RST_HELD 0 else s
    s.at_ (s.now + us 100)
  else
    let s := s.at_ t
    let start := s.now
    let (acts, s) := s.pulseActs width
    if !acts then s
    else
      let s := (s.hwReset 2 false).at_ (t + width)
      let long := decide (width > secs 10)
      let s : State := { s with ret := { s.ret with rstHeld := s.ret.rstHeld || long } }
      let s := if long then s.raise Flt.RST_HELD 0 else s
      (s.updPwr fun p => { p with resetAt := s.now, sleep := false, lowFrom := start, heldTo := s.now + us 100 }).at_
        (s.now + us 100)

/-- RST_HELD: RST_N has been low since t for 10 s and stays low (R505). -/
def State.rstHeldLow (s : State) (t : Nat) : State :=
  if s.pwr.held then s
  else
    let s := (s.at_ t).hwReset 2 false
    let s := s.at_ (t + secs 10)
    { s with
      pwr := { s.pwr with held := true, alert := true, rstLow := some t, sleep := false }
      ret := { s.ret with rstHeld := true } }

/-- PORST_N falls at t and rises after `width`; VDD_CORE is below its range for the first `core` of that (R495, R503, R510). -/
def State.porstN (s : State) (t width core : Nat) : State :=
  let s := s.at_ t
  let start := s.now
  let (acts, s) := s.pulseActs width
  if !acts then s
  else
    let s := (s.hwReset 1 true).at_ (t + width)
    (s.updPwr fun p => { p with
      resetAt := s.now, coldAt := s.now, sleep := false, lowFrom := start, heldTo := s.now + us 100, coreTo := start + core }).at_
      (s.now + us 100)

/-- HOST_WD_EXPIRY: 100 ms without service; the caretaker holds the legs low from that clock (R503). -/
def State.hostWdExpiry (s : State) : State :=
  if s.domOn 1 then (s.at_ (s.pwr.hostWdAt + ms 100)).hwReset 16 false else s

/-! ### Sleep (R502) -/

/-- PWR_CMD SLEEP. -/
def State.sleepCmd (s : State) : Own :=
  if s.pwr.doms.any fun d => match d with
      | .waking _ 2 _ => true
      | _ => false
    then .error abBusy
  else if s.legsEnabled ≠ 0 || s.ring.st ≠ .alone then .error abState
  else
    let s := s.linkDown.measStop
    .ok (s.updPwr fun p => { p with
      sleep := true, sleepAt := s.now, doms := p.doms.mapIdx fun i d => if i = 0 then d else .off })

/-- The device wakes from SLEEP: a warm reset, then start-up. -/
def State.sleepEnds (s : State) (source : Nat) : State :=
  let s := s.hwReset 32 false
  (s.updPwr fun p => { p with sleep := false }).wakeRecord 1 source 0

/-- WAKE_N falls at t and stays low for `width`. -/
def State.wakeN (s : State) (t width : Nat) : State :=
  if s.pwr.sleep && (s.rd Od.SLEEP_WAKE).testBit 0 && width ≥ ms 1 then (s.at_ (t + ms 1)).sleepEnds 3 else s

/-- SLEEP_TIMER_EXPIRY. -/
def State.sleepTimer (s : State) : State :=
  if s.pwr.sleep && (s.rd Od.SLEEP_WAKE).testBit 1 && s.rd Od.SLEEP_TIMER ≠ 0 then
    (s.at_ (s.pwr.sleepAt + secs (s.rd Od.SLEEP_TIMER))).sleepEnds 4
  else s

/-! ### Start-up (R509) -/

/-- The codes of BOOT_STAGE. -/
def Stage.code : Stage → Nat
  | .caretaker => 0 | .clocks => 1 | .rom => 2 | .firmware => 3 | .config => 4 | .domains => 5 | .ready => 6 | .failed => 15

/-- A retention word whose parity is wrong takes its cold value (R506). -/
def State.retLost (s : State) (bad : Nat) : State :=
  if bad = 0 then s
  else
    let r := s.ret
    let cold : Retention := {}
    let s : State := { s with ret :=
      { capF := if bad.testBit 0 then none else r.capF
        shut := if bad.testBit 1 then 0 else r.shut
        shutDie := if bad.testBit 1 then 0 else r.shutDie
        rstCause := if bad.testBit 2 then cold.rstCause else r.rstCause
        rstCounts := if bad.testBit 3 then cold.rstCounts else r.rstCounts
        rstHeld := r.rstHeld && !bad.testBit 4
        wakeLast := if bad.testBit 5 then {} else r.wakeLast
        retLost := true } }
    let s : State := { s with th := { s.th with shut := s.ret.shut, shutDie := s.ret.shutDie } }
    if bad.testBit 6 then (s.wr Od.SLEEP_WAKE 1).wr Od.SLEEP_TIMER 0 else s

/-- PWR_WAKE_LAST and RST_FLAGS. -/
def WakeRec.bytes (w : WakeRec) : List Byte :=
  leBytes 1 w.dom ++ leBytes 1 w.source ++ leBytes 1 w.master ++ leBytes 1 0 ++ leBytes 4 w.sec ++ leBytes 4 w.ns ++ leBytes 4 0
def State.rstFlags (s : State) : Nat := packBits [s.ret.rstHeld, s.ret.retLost, s.pwr.alert]
def State.ownRstFlagsClr (s : State) (v : Nat) : Own :=
  .ok { s with ret := { s.ret with rstHeld := s.ret.rstHeld && !v.testBit 0, retLost := s.ret.retLost && !v.testBit 1 } }

/-- RST_CMD: every unit goes through ALL_STOP; the reset follows once every stop has completed (R503). -/
def State.rstCmd (s : State) : Own := .ok (s.allStop.updPwr fun p => { p with rstPend := true })

/-- HOST_WD_SERVICE. -/
def State.hostWdService (s : State) : Own := .ok (s.updPwr fun p => { p with hostWdAt := s.now })

end Sys2Proof.Machine
end

