-- ==== Sys2Proof/Machine/BistOps.lean ====
section
/-! DEFINITION. Built-in self-test (22): targets and durations, preconditions, the end of a run. -/

namespace Sys2Proof.Machine

/-- The BIST controller changed. -/
def State.updBist (s : State) (f : Bist → Bist) : State := { s with bist := f s.bist }

/-- Domain, kind and slice of a target word. -/
def bistDom (t : Nat) : Nat := bits t 3 0
def bistMem (t : Nat) : Bool := t.testBit 4
def bistSlice (t : Nat) : Nat := bits t 15 8
def bistWhole (t : Nat) : Bool := bistSlice t = 0xFF

/-- Slices of a domain: logic, memory (R543). -/
def bistSlices (d : Nat) (mem : Bool) : Nat :=
  match d, mem with
  | 1, false => 3 | 1, true => 48 | 2, false => 1 | 2, true => 4 | 3, false => 4 | 3, true => 8 | 6, _ => 4 | _, _ => 0

/-- Duration of a run at the nominal set in ns: of a slice, or of a whole domain; 0 where R543 offers none. -/
def bistDur (t : Nat) : Nat :=
  let d := bistDom t
  let slice := match d, bistMem t with
    | 1, false => 41943040 | 1, true => 245760 | 2, false => 20971520 | 2, true => 491520 | 3, false => 41943040
    | 3, true => 245760 | 6, false => 20971520 | 6, true => 157286 | _, _ => 0
  if bistWhole t then
    match d, bistMem t with
    | 1, false => 0 | 2, false => 0
    | 3, false => 41943040 | 6, false => 20971520
    | 4, false => 83886080 | 5, false => 41943040 | 5, true => 245760 | 7, false => 20971520 | 7, true => 122880
    | 8, false => 10485760 | 8, true => 61440 | 9, false => 10485760 | _, true => slice * bistSlices d true | _, _ => 0
  else if bistSlice t < bistSlices d (bistMem t) then slice else 0

/-- The divider of the clock a run goes at, and its nominal value: CLK_MEAS for logic, the memory's own clock for
memories; LINK memories run from PLL_LINK. -/
def State.bistDiv (s : State) (t : Nat) : Nat × Nat :=
  let a := s.clk.active
  if !bistMem t then (a.meas, 20)
  else match bistDom t with
    | 2 => (a.safe, 10) | 3 => (a.loop, 5) | 5 => (a.meas, 20) | 6 => (0, 0) | _ => (a.core, 5)

/-- Duration of a run in ps. -/
def State.bistTime (s : State) (t : Nat) : Nat :=
  let (d, d0) := s.bistDiv t
  if d0 = 0 then ns (bistDur t) else ns (bistDur t) * (d * 80) / (d0 * s.clk.active.n)

/-- BIST_TARGET: a run that R543 offers. Which slices of the domain the firmware marks idle is its own affair, a free
value (R546). -/
def State.ownBistTarget (s : State) (v : Nat) : Own :=
  if bistDur v = 0 then .error abRange
  else
    let (x, s) := s.draw
    .ok ((s.wr Od.BIST_TARGET v).updBist fun b => { b with idle := x % 2 ^ 64 })

/-- BIST_IDLE. -/
def State.bistIdle (s : State) : Nat := if bistDom (s.rd Od.BIST_TARGET) = 1 || bistDom (s.rd Od.BIST_TARGET) = 2 then s.bist.idle else 0

/-- A loop slot is RUNNING or HOLDING. -/
def LoopSlot.busy (t : LoopSlot) : Bool := t.st = .running || t.st = .holding

/-- The conditions of R546, given BIST_IDLE of the target's domain, and whether a slot in use has its program, banks or
state in the LOOP slice: where LOOP SRAM holds a slot is not laid down, so that is a free value. -/
def State.bistMay (s : State) (t idle : Nat) (inSlice : Bool) : Bool :=
  let d := bistDom t
  let n := bistSlice t
  s.domOn d &&
  match d with
  | 1 | 2 =>
    let rest := if bistWhole t then (List.range (bistSlices d (bistMem t))).all idle.testBit else idle.testBit n
    let trace := d = 1 && (if bistMem t then decide (32 ≤ n) else n = 1)
    rest && (!trace || s.rd Od.CEL_SIGNALS = 0)
  | 3 =>
    if bistWhole t then !s.le.slots.any (·.busy)
    else if bistMem t then !(s.le.slots.any (·.busy) && inSlice)
    else !s.le.slots.any fun x => x.busy && x.pipe = some n
  | 6 =>
    if bistWhole t then s.ring.st = .alone
    else ((s.lane n).st = .off || (s.lane n).st = .hold) && loopOf (s.laneCtrl n) = 0 && testOf (s.laneCtrl n) = 0
  | _ => !s.offRefused d

/-- The run takes a whole domain that can be off. -/
def bistTakes (t : Nat) : Bool := bistWhole t && decide (3 ≤ bistDom t)

/-- A run starts. -/
def State.bistStart (s : State) (t : Nat) : State :=
  s.updBist fun b => { b with st := .running, run := some (t, s.now), runs := up32 b.runs, failAddr := 0xFFFFFFFF }

/-- BIST_CMD RUN (R546, R547). -/
def State.bistRun (s : State) : Own :=
  let t := s.rd Od.BIST_TARGET
  let (x, s) := s.draw
  if s.bist.run.isSome then .error abBusy
  else if bistDur t = 0 || !s.bistMay t s.bist.idle (x % 2 = 1) then .error abState
  else
    let s := s.bistStart t
    if bistTakes t then
      let s := if bistDom t = 6 then s.linkDown else if bistDom t = 5 then s.measStop else s
      .ok (s.updPwr fun p => { p with doms := p.doms.set (bistDom t) .test })
    else .ok s

/-- The part under test is back: after a logic run it is reset and its entries are restored (R547). -/
def State.bistBack (s : State) (t : Nat) (off : Bool) : State :=
  let d := bistDom t
  if bistTakes t then
    let s := s.updPwr fun p => { p with doms := p.doms.set d (if off then .off else .on) }
    if off then s
    else if bistMem t then (if d = 6 then s.linkUp else s)
    else s.domainUp d
  else s

/-- A record of BIST_LOG, newest first, up to 16. -/
def State.bistLog (s : State) (t : Nat) (st : BistSt) (sig dur : Nat) : State :=
  s.updBist fun b => { b with log := ((⟨t, st, sysS s.sysNow % 2 ^ 32, sig, dur⟩ : BistRec) :: b.log).take 16 }

/-- What a FAIL withdraws, as bits of BIST_HELD (R548). -/
def bistWithdraws (t : Nat) : Nat :=
  let d := bistDom t
  if bistMem t || d < 3 then 0
  else if bistWhole t then 2 ^ d
  else if d = 3 then 2 ^ (10 + bistSlice t)
  else if d = 6 then 2 ^ (14 + bistSlice t)
  else 0

/-- BIST_RUN_END with the signature folded, and for a memory the first failing offset (R548). -/
def State.bistEnd (s : State) (sig : BitVec 64) (addr : Nat) : State :=
  match s.bist.run with
  | none => s
  | some (t, t0) =>
    let s := s.at_ (t0 + s.bistTime t)
    let pass := Config.golden t = some sig
    let dur := (s.now - t0) / 1000000 % 2 ^ 32
    let held := if pass then 0 else bistWithdraws t
    let s := s.updBist fun b => { b with
      run := none, st := if pass then .pass else .fail, sig := sig.toNat, time := dur
      fails := if pass then b.fails else up32 b.fails, held := b.held ||| held
      failAddr := if !pass && bistMem t then addr % 2 ^ 32 else 0xFFFFFFFF }
    let s := s.bistLog t (if pass then .pass else .fail) sig.toNat dur
    let s := s.bistBack t (held ≠ 0 && bistWhole t)
    let s := if held ≠ 0 && bistDom t = 6 && !bistWhole t then s.laneOff (bistSlice t) else s
    let s := if held ≠ 0 && bistWhole t then s.reqBit (bistDom t) false else s
    if pass then s else s.raise Flt.BIST_FAIL t

/-! ### The standby's self-tests (R436, R550) -/

/-- The slice of a domain with a number: logic slices first, then memory slices. -/
def rcTarget (d i : Nat) : Nat := if i < bistSlices d false then d + 256 * i else d + 16 + 256 * (i - bistSlices d false)

/-- Slices of a domain, and the place of the domain in a round. -/
def rcSlices (d : Nat) : Nat := bistSlices d false + bistSlices d true
def rcPlace (d : Nat) : Nat := if d = 6 then 3 else d - 1

/-- The next slice of a domain, in round-robin order, whose precondition holds; the firmware holds the slice at place i of
that order idle where bit i of `idle` is set. -/
def State.rcPick (s : State) (d idle : Nat) (inSlice : Bool) : Option Nat :=
  ((List.range (rcSlices d)).map fun k => (s.mgr.rcNext.getD (rcPlace d) 0 + k) % rcSlices d).find? fun i =>
    s.bistMay (rcTarget d i) (if idle.testBit i then 2 ^ 64 - 1 else 0) inSlice

/-- The next run of a round starts, once no run is in progress: of the first domain left in which a slice can be tested.
What the firmware of HOST and of SAFE holds idle is given, SAFE from bit 64 on, or else a free value. A node that is no
standby tests nothing. -/
def State.rcStart (s : State) (idle : Option Nat) : State :=
  if s.bist.run.isSome then s
  else if s.mgr.st ≠ .standby then s.updMgr fun m => { m with rcLeft := [] }
  else s.each s.mgr.rcLeft fun s d =>
    if s.bist.run.isSome then s
    else
      let (x, s) := s.draw
      let s := s.updMgr fun m => { m with rcLeft := m.rcLeft.erase d }
      let own := match idle with
        | some n => if d = 2 then n / 2 ^ 64 else n
        | none => x / 2
      match s.rcPick d own (x % 2 = 1) with
      | some i => (s.bistStart (rcTarget d i)).updMgr fun m => { m with
          rcRun := true, rcNext := m.rcNext.set (rcPlace d) ((i + 1) % rcSlices d) }
      | none => s

/-- RC_PERIOD_TICK: a round of one slice in each of HOST, SAFE, LOOP and LINK begins, unless one is still under way; a full
scrub once per 60 s. -/
def State.rcTick (s : State) (idle : Nat) : State :=
  if s.mgr.st ≠ .standby then s
  else
    let s := if s.now ≥ s.mgr.scrubAt + secs 60 then
      s.updMgr fun m => { m with scrubAt := s.now, scrubLast := sysS s.sysNow % 2 ^ 32 } else s
    let s := s.seeGrade
    if s.mgr.rcLeft ≠ [] || s.mgr.rcRun then s else (s.updMgr fun m => { m with rcLeft := [1, 2, 3, 6] }).rcStart (some idle)

/-- What the report card takes from a run that has ended: the runs of a round count, a mismatch makes a manager UNFIT
(R437), and the next run of the round starts. -/
def State.rcNote (s : State) : State :=
  let bad := decide (s.bist.st = .fail)
  let s := if s.mgr.rcRun then
      s.updMgr fun m => { m with rcRun := false, bistRun := up32 m.bistRun, bistFail := if bad then up32 m.bistFail else m.bistFail }
    else s
  (if bad then s.setUnfit 0 else s).rcStart none

/-- BIST_RUN_END. -/
def State.bistDone (s : State) (sig : BitVec 64) (addr : Nat) : State :=
  if s.bist.run.isSome then (s.bistEnd sig addr).rcNote else s

/-- A run ends without a signature: BIST_CMD ABORT, or the clocks (R549). A round ends with it. -/
def State.bistAbort (s : State) : State :=
  match s.bist.run with
  | none => s
  | some (t, t0) =>
    let dur := (s.now - t0) / 1000000 % 2 ^ 32
    let s := (s.updBist fun b => { b with run := none, st := .aborted, time := dur }).updMgr fun m => { m with rcLeft := [], rcRun := false }
    ((s.bistLog t .aborted 0 dur).bistBack t false).raise Flt.BIST_ABORT t

/-- The codes of BIST_STATE, and BIST_LOG. -/
def BistSt.code : BistSt → Nat
  | .idle => 0 | .running => 1 | .pass => 2 | .fail => 3 | .aborted => 4
def BistRec.bytes (r : BistRec) : List Byte :=
  leBytes 2 r.target ++ leBytes 1 r.st.code ++ leBytes 1 0 ++ leBytes 4 r.sec ++ leBytes 8 r.sig ++ leBytes 4 r.dur ++ leBytes 4 0

/-- BIST_GOLDEN. -/
def State.bistGolden (s : State) : Nat := match Config.golden (s.rd Od.BIST_TARGET) with
  | some g => g.toNat
  | none => 0

end Sys2Proof.Machine
end

