-- ==== Sys2Proof/Machine/FltOps.lean ====
section
/-! DEFINITION. The fault collector (12): causes that persist, units concerned, intake and counting, reactions, captures,
alarm records and the alarm queue (15). -/

namespace Sys2Proof.Machine

/-- The collector changed. -/
def State.updFlt (s : State) (f : Faults → Faults) : State := { s with flt := f s.flt }

/-! ### Causes (the Persists columns of R292, R331, R355, R390, R417, R443, R473, R491, R511, R538 and R551) -/

/-- Subsystems 0x01 to 0x03. -/
def State.persistsA (s : State) (code i : Nat) : Bool :=
  match code with
  | 0x0101 | 0x0102 => (s.leg i).clamped
  | 0x0201 | 0x0203 => (s.gg i).fkPin
  | 0x0207 => s.clk.pwmMissing
  | 0x0301 => (s.md i).clkBad
  | 0x0302 => (s.md i).runBad
  | 0x0303 => (s.md i).trip
  | 0x0304 =>
    let x := s.slice i
    let lim (v lo : Rat) : Bool := v = lo || v = -lo
    lim x.ofs 256 || lim x.gn (1 / 50) || lim x.sk 64
  | 0x0306 => (s.trg i).run
  | 0x0307 => s.meas.fullEp
  | _ => false

/-- Subsystems 0x04 to 0x08. -/
def State.persistsB (s : State) (code i : Nat) : Bool :=
  match code with
  | 0x0405 => (s.ls i).plausNow
  | 0x0501 => !(s.str i).configOk
  | 0x0503 => s.strings.any fun t => t.bal.any fun b => b.slot = i
  | 0x0507 => (s.str i).trackMode = 2
  | 0x0508 => (s.str i).trackMode = 4
  | 0x050A => (s.str i).homeLost
  | 0x0601 => (s.cmp i).trip
  | 0x0602 => (s.lvE i).vinBad
  | 0x0603 => (s.lvE i).bus = 3
  | 0x0604 => (s.lvE i).bus = 5
  | 0x0605 => (s.lvE i).bus = 4
  | 0x0606 => (s.lvE i).bus = 2
  | 0x0607 => (s.lvE i).ov3
  | 0x0608 => (s.lvE i).mvAbsent
  | 0x0609 => (s.lvE i).chopFault
  | 0x0701 => s.fb.ampBad
  | 0x0702 => s.fb.posLost
  | 0x0703 => s.fb.hallBad
  | 0x0801 => (s.tslot i).noInput
  | 0x0802 => (s.tslot i).sensor = 2
  | 0x0803 => (s.tslot i).sensor = 1
  | 0x0804 => (s.tslot i).throttling
  | 0x0805 => s.th.ignored.getD (i - 0x70) false
  | 0x0806 => s.th.shut.testBit i
  | 0x0807 => s.th.shutDie ≠ 0
  | 0x0808 => s.th.unwritten.any fun r => r.slot = i
  | _ => false

/-- Subsystems 0x0A to 0x0F. -/
def State.persistsC (s : State) (code i : Nat) : Bool :=
  match code with
  | 0x0A01 => s.sf.disc
  | 0x0A02 | 0x0A03 | 0x0A0C => true
  | 0x0A04 => (s.so i).rb && !(s.so i).drv
  | 0x0A08 => (s.con i).st = .failsafe
  | 0x0A09 => s.sf.st = .noConfig
  | 0x0A0A => if i = 0 then s.sf.dueA else s.sf.dueB
  | 0x0B01 => s.laneOn i && (s.lane i).st ≠ .up
  | 0x0B02 => (s.lane i).hiBer
  | 0x0B04 => (s.lane i).ppmHigh
  | 0x0B05 => (s.lane i).verMismatch
  | 0x0B06 => (s.lane i).st ≠ .up
  | 0x0B07 => (s.lane i).modUnsup || (s.laneOn i && (s.lane i).modAbs)
  | 0x0C01 => s.ring.broken.contains i
  | 0x0C02 => s.ring.silent.contains i
  | 0x0C06 => !s.ring.committed
  | 0x0C08 => s.ring.noId ≠ 0
  | 0x0D01 => s.tb.st = .holdover
  | 0x0D02 => s.ptpOn i && (s.ptp i).lost
  | 0x0D03 => s.tb.st = .slewing
  | 0x0D04 => s.tb.alarm
  | 0x0D06 => s.tb.pwmBad
  | 0x0E02 => !s.mgr.synced
  | 0x0E05 => true
  | 0x0E06 => s.mgr.noStandby
  | 0x0E07 => s.mgr.mismatch
  | 0x0E08 => s.mgr.tooBig
  | 0x0E09 => s.mgr.wk = .holding
  | 0x0E0A => s.mgr.wk = .droop
  | 0x0F03 => s.acc.canSt = 2
  | 0x0F04 => (s.rd Od.NET_CTRL).testBit 0 && !s.acc.ethUp
  | _ => false

/-- Subsystems 0x10 to 0x13. -/
def State.persistsD (s : State) (code i : Nat) : Bool :=
  match code with
  | 0x1001 => !s.clk.sysLock
  | 0x1002 => !s.clk.linkLock && s.domOn domLink
  | 0x1003 => !s.clk.refOk
  | 0x1004 => !s.clk.linkclkOk
  | 0x1005 => s.clk.freqBad.contains i
  | 0x1006 => true
  | 0x1007 => s.clk.relock.isSome
  | 0x1101 => !s.pwr.supply.testBit i
  | 0x1102 => !s.pwr.supply.testBit 8
  | 0x1103 => !s.pwr.supply.testBit i
  | 0x1202 => s.nor.active = 0
  | 0x1208 => s.nor.full
  | 0x1209 => s.wear ≥ 800
  | 0x120A => !s.nor.nand
  | 0x1301 => true
  | _ => false

/-- The cause of an instance persists. -/
def State.persists (s : State) (code i : Nat) : Bool :=
  if code < 0x0400 then s.persistsA code i
  else if code < 0x0A00 then s.persistsB code i
  else if code < 0x1000 then s.persistsC code i
  else s.persistsD code i

/-! ### Units concerned (R291) -/

/-- The units whose UNIT_LOOP names slot LS. -/
def State.loopUnits (s : State) (n : Nat) : List (Nat × Nat) := s.allUnits.filter fun cu => s.unitLoop cu.1 cu.2 = some n

/-- The units concerned by an instance of a scope. -/
def State.concerned (s : State) (scope : FltScope) (i : Nat) : List (Nat × Nat) :=
  match scope with
  | .leg =>
    if i < 0x100 then match s.legUnit i with
      | some u => [(legSlot i, u)]
      | none => []
    else s.allUnits.filter fun cu => (s.unitLegIds cu.1 cu.2).any fun l => s.carOf l = i - 0x100
  | .slot => (s.units i).map fun u => (i, u)
  | .mdat => (s.units (i / 3)).map fun u => (i / 3, u)
  | .sar => s.cmpUnits i
  | .ls => s.loopUnits i
  | .trigger =>
    let d := s.rd (Od.TRG_DST i)
    if d = 0xFF then [] else s.loopUnits d
  | .string => (s.membersHere i).map fun c => (c, 0)
  | .lv => s.lvUnits i ++ if s.lvKind i = 2 then (s.busEntries i).flatMap s.lvUnits else []
  | .feedback =>
    ((List.range 128).filter fun n => (s.ls n).busy &&
      (List.range 16).any fun j => s.inKind n j = 6 && fbSourceOf (s.inSel n j) = i).flatMap s.loopUnits
  | .device => []

/-! ### Reactions (R293) -/

/-- UNIT_STOP: a string member is taken through its safe-off. -/
def State.reactStop (s : State) (code : Nat) (cu : Nat × Nat) : State :=
  if (s.strOf cu.1).isSome then s.safeOffUnit cu.1 cu.2 code false else s.stopUnit cu.1 cu.2

/-- Every unit of a list goes through its safe-off. -/
def State.safeOffAll (s : State) (l : List (Nat × Nat)) (code : Nat) : State := s.each l fun s cu => s.safeOffUnit cu.1 cu.2 code false

/-- A reaction to an event of an instance; a unit reaction of a trigger entry without a loop slot is NONE (R294). -/
def State.react (s : State) (r : Nat) (src : FltSrc) (i : Nat) : State :=
  if r = 0 || (r ≤ 3 && src.scope = .trigger && s.rd (Od.TRG_DST i) = 0xFF) then s
  else
    let us := s.concerned src.scope i
    let s := s.updFlt fun f => { f with reacts := up32 f.reacts }
    match r with
    | 1 => s.each us fun s cu => s.reactStop src.code cu
    | 2 => s.safeOffAll us src.code
    | 3 => s.safeOffAll (s.allUnits.filter fun cu => us.any fun x => x.1 = cu.1) src.code
    | 4 => s.allStop
    | 5 => s.safeOffAll s.allUnits src.code
    | 6 =>
      let mask := if src.scope = .device then 0xFFFFFFFF else us.foldl (fun m x => m ||| 2 ^ x.1) 0
      let keep := s.sf.stoReq.filter fun q => q.1 ≠ src.code || q.2.1 ≠ i
      (s.updSf fun x => { x with stoReq := (src.code, i, mask) :: keep }).sfJudge
    | _ => (s.safeOffAll s.allUnits src.code).updFlt fun f => { f with resetPend := true }

/-! ### The alarm queue (R383 to R385) -/

/-- Class of a record from its FLAGS; severity: C, U, SAFETY, F. -/
def Alarm.cls (a : Alarm) : Nat := bits a.flags 11 10
def Alarm.sev (a : Alarm) : Nat := if a.cls = 2 then 3 else if a.flags.testBit 14 then 2 else a.cls

/-- A lost record: its class is counted, and the lost-count record takes it in. -/
def State.almLost (s : State) (a : Alarm) : State :=
  let k := if a.sev ≥ 2 then 2 else a.sev
  s.updRing fun r => { r with
    almDrops := r.almDrops.modify k up32
    lost := some (match r.lost with
      | some l => { l with count := min (l.count + 1) 0xFFFFFFFF, detail := l.detail ||| 2 ^ k, lastDelta := (s.sysNow - l.first) / 65536 % 2 ^ 32 }
      | none => ⟨Flt.RING_ALM_LOST, 2 ^ k, 0, s.ring.nodeId % 1024, 1, s.sysNow, 0, 0⟩) }

/-- A record joins the queue: F and SAFETY records take the reserved entries first; where none is free the oldest record of
the lowest severity not above its own makes way. -/
def State.almQueue (s : State) (a : Alarm) : State :=
  let q := s.ring.alms
  let res := q.countP (·.res)
  let plain := q.length - res
  let add (b : Bool) := s.updRing fun r => { r with alms := q ++ [⟨a, b, false⟩] }
  if a.sev ≥ 2 && res < 256 then add true
  else if plain < 3840 then add false
  else
    let low := q.foldl (fun m e => min m e.alarm.sev) 3
    if low ≤ a.sev then
      match q.find? fun e => e.alarm.sev = low with
      | some e => (s.updRing fun r => { r with alms := (q.erase e) ++ [⟨a, e.res, false⟩] }).almLost e.alarm
      | none => s.almLost a
    else s.almLost a

/-- FLAGS of a record. -/
def State.almFlags (s : State) (src : FltSrc) (lasting first : Bool) : Nat :=
  let c := match src.cls with
    | .c => 0 | .u => 1 | .f => 2
  s.ring.nodeId % 1024 + c * 2 ^ 10 + b2n lasting * 2 ^ 12 + b2n first * 2 ^ 13 + b2n (src.code / 256 = 0x0A) * 2 ^ 14

/-- A record is emitted: it takes the next SEQ and goes to the alarm queue and to the log (R303, R530). -/
def State.emitAlarm (s : State) (src : FltSrc) (i detail count first last : Nat) (lasting isFirst : Bool) : State :=
  let a : Alarm := ⟨src.code, detail, i, s.almFlags src lasting isFirst, min count 0xFFFFFFFF, first, (last - first) / 65536 % 2 ^ 32,
    s.flt.almSeq⟩
  let s := s.updFlt fun f => { f with almSeq := up32 f.almSeq }
  let s : State := if src.cls = .c then s else { s with acc := { s.acc with irqAlarm := true } }
  (s.almQueue a).logRecord a.bytes

/-! ### Intake (R295 to R297, R301, R303) -/

/-- FLT_CFG of a source, without the mask. -/
def State.fltCfg (s : State) (src : FltSrc) : Nat := s.rd ⟨key (0x1820 + src.code / 256) (src.code % 256), src.dflt % 2 ^ 48⟩
def State.fltK (s : State) (src : FltSrc) : Nat := bits (s.fltCfg src) 7 0
def State.fltW (s : State) (src : FltSrc) : Nat := ms (bits (s.fltCfg src) 31 8)

/-- The instance as it stands. -/
def State.fltInst (s : State) (code i : Nat) : FltInst := (s.flt.insts.find? fun f => f.code = code && f.inst = i).getD { code := code, inst := i }

/-- An instance that changes keeps its place; a new one goes last, and so does one that leaves CLEAR. -/
def State.setInst (s : State) (x : FltInst) : State :=
  let is := fun (f : FltInst) => f.code = x.code && f.inst = x.inst
  s.updFlt fun f => { f with
    insts := if f.insts.any (fun y => is y && y.st ≠ .clear) then f.insts.map fun y => if is y then x else y
             else f.insts.filter (fun y => !is y) ++ [x] }

/-- The first event of a class since its capture was cleared is captured. -/
def State.capture (s : State) (src : FltSrc) (r : Raised) : State :=
  let c : Capture := ⟨r.code, r.inst, r.acc, r.detail, r.first⟩
  match src.cls with
  | .c => s.updFlt fun f => { f with countC := up32 f.countC, capC := f.capC.orElse fun _ => some c }
  | .u => s.updFlt fun f => { f with countU := up32 f.countU, capU := f.capU.orElse fun _ => some c }
  | .f => { s.updFlt (fun f => { f with countF := up32 f.countF }) with ret := { s.ret with capF := s.ret.capF.orElse fun _ => some c } }

/-- The open coalescing record of an instance. -/
def State.coalOf (s : State) (code i : Nat) : Option Coalesce := s.flt.coal.find? fun c => c.code = code && c.inst = i

/-- One event forms its alarm record or joins the open one. -/
def State.alarmEvent (s : State) (src : FltSrc) (r : Raised) (T : Nat) (lasting : Bool) : State :=
  match s.coalOf r.code r.inst with
  | none =>
    (s.emitAlarm src r.inst r.detail 1 T T lasting true).updFlt fun f => { f with
      coal := f.coal ++ [⟨r.code, r.inst, s.now, 0, 0, 0, 0⟩] }
  | some c =>
    if lasting || src.cls = .f then s.emitAlarm src r.inst r.detail 1 T T lasting false
    else
      let c' := if c.count = 0 then { c with count := 1, detail := r.detail, first := T, last := T } else { c with count := c.count + 1, last := T }
      s.updFlt fun f => { f with coal := f.coal.map fun x => if x = c then c' else x }

/-- One event of an instance is taken in, with its raise time: counting, capture, REACT_T and, on the event that makes the
instance LASTING, REACT_L. -/
def State.takeEvent (s : State) (src : FltSrc) (r : Raised) (T : Nat) : State :=
  let x := s.fltInst r.code r.inst
  let fresh := x.st = .clear || decide (s.now > x.tw + s.fltW src)
  let n := if fresh then 1 else x.n + 1
  let k := if src.cls = .f then 1 else s.fltK src
  let turns := x.st ≠ .lasting && decide (n ≥ k)
  let s := s.setInst { x with
    n := n, tw := if fresh then s.now else x.tw, events := up32 x.events
    st := if x.st = .lasting || turns then .lasting else .transient }
  let s := s.capture src r
  let s := s.react (bits (s.fltCfg src) 39 32) src r.inst
  let s := if turns then s.react (bits (s.fltCfg src) 47 40) src r.inst else s
  let s := s.alarmEvent src r T turns
  let s := if src.cls = .f then (s.dumpTrigger 0 r.code).setUnfit 4 else s
  if turns then s.dumpTrigger 3 r.code else s

/-- The collector takes in the waiting events of one instance, one by one. -/
def State.takeRaised (s : State) (r : Raised) : State :=
  match Flt.source r.code with
  | none => s
  | some src => (List.range r.count).foldl (fun s i => s.takeEvent src r (if i = 0 then r.first else r.last)) s

/-- The waiting events that f picks are taken in before a clear is judged (R305). -/
def State.takeWaiting (s : State) (f : Raised → Bool) : State :=
  let l := s.flt.raised.filter f
  (s.updFlt fun x => { x with raised := x.raised.filter fun r => !f r }).each l State.takeRaised

/-- FAULT_INTAKE: the events that have waited longest at their source (R297). -/
def State.fltIntake (s : State) : State :=
  match s.flt.raised with
  | [] => s
  | r :: rest =>
    ((s.updFlt fun f => { f with raised := rest }).takeRaised r).settleReset

/-- FAULT_TRANSIENT_EXPIRY: a TRANSIENT instance returns to CLEAR once W and its cause have ended (R295). -/
def State.fltExpiry (s : State) (code i : Nat) : State :=
  let x := s.fltInst code i
  match Flt.source code with
  | none => s
  | some src =>
    if x.st = .transient && !s.persists code i then
      ((s.at_ (x.tw + s.fltW src)).setInst { x with st := .clear, n := 0 }).sfJudge
    else s

/-- ALM_COALESCE_END: the span of an open record ends (R303). -/
def State.coalEnd (s : State) (code i : Nat) : State :=
  match s.coalOf code i, Flt.source code with
  | some c, some src =>
    let s := s.at_ (c.opened + ms (s.rd Od.ALM_COALESCE))
    let s := s.updFlt fun f => { f with coal := f.coal.erase c }
    if c.count > 0 then s.emitAlarm src i c.detail c.count c.first c.last false false else s
  | _, _ => s

/-! ### Clearing (R299, R300, R302) -/

/-- The instance is one that the code's scope has. -/
def FltSrc.hasInst (r : FltSrc) (i : Nat) : Bool :=
  match r.scope with
  | .leg => decide (i < 192) || (r.code = Flt.PWM_PARITY && decide (0x100 ≤ i) && decide (i < 0x140))
  | .slot => decide (i < 32)
  | .mdat => decide (i < 96)
  | .sar => decide (i < 16)
  | .ls => decide (i < 128)
  | .trigger => decide (i < 128)
  | .string => decide (i < 32)
  | .lv => decide (i < 64)
  | .feedback => decide (i < 3)
  | .device => decide (r.lo ≤ i) && decide (i ≤ r.hi) && (r.code ≠ Flt.SAR_CORR || i % 2 = 0)

/-- Instances of a list return to CLEAR. -/
def State.clearInsts (s : State) (f : FltInst → Bool) : State :=
  (s.updFlt fun x => { x with insts := x.insts.map fun y => if f y then { y with st := .clear, n := 0 } else y }).sfJudge

/-- FLT_CLR. A refused write of a wrong code or instance still sets FLT_CLR_STATUS. -/
def State.fltClr (s : State) (v : Nat) : State × Nat :=
  let code := bits v 15 0
  let i := bits v 31 16
  let refused := s.updFlt fun f => { f with clrSt := .refused }
  match Flt.source code with
  | none => (refused, abRange)
  | some src =>
    if i ≠ 0xFFFF && !src.hasInst i then (refused, abRange)
    else
      let s := s.takeWaiting fun r => r.code = code && (i = 0xFFFF || r.inst = i)
      let named (y : FltInst) := y.code = code && (i = 0xFFFF || y.inst = i) && y.st ≠ .clear
      let stays (y : FltInst) := src.cls = .f || s.persists y.code y.inst
      let all := !s.flt.insts.any fun y => named y && stays y
      let s := s.clearInsts fun y => named y && !stays y
      (s.updFlt fun f => { f with clrSt := if all then .done else .refused }, 0)

/-- The instances whose units concerned include a named unit. -/
def State.touches (s : State) (c : Nat) (us : List Nat) (code i : Nat) : Bool :=
  match Flt.source code with
  | some src => (s.concerned src.scope i).any fun cu => cu.1 = c && us.contains cu.2
  | none => false

/-- The waiting events of an instance make it LASTING when they are taken in. -/
def State.wouldLast (s : State) (r : Raised) : Bool :=
  match Flt.source r.code with
  | none => false
  | some src =>
    let x := s.fltInst r.code r.inst
    let fresh := x.st = .clear || decide (s.now > x.tw + s.fltW src)
    src.cls = .f || decide (s.fltK src ≤ if fresh then r.count else x.n + r.count)

/-- A slot CLEAR is refused: an instance of the units is LASTING, or its cause persists (R300); events that wait at their
source come first (R305). -/
def State.clearBlocked (s : State) (c : Nat) (us : List Nat) : Bool :=
  (s.flt.insts.any fun y => s.touches c us y.code y.inst && (y.st = .lasting || s.persists y.code y.inst)) ||
    s.flt.raised.any fun r => s.touches c us r.code r.inst && (s.wouldLast r || s.persists r.code r.inst)

/-- An accepted slot CLEAR clears the TRANSIENT instances of its units, those of waiting events among them. -/
def State.clearTransient (s : State) (c : Nat) (us : List Nat) : State :=
  let s := s.takeWaiting fun r => s.touches c us r.code r.inst
  s.clearInsts fun y => y.st = .transient && s.touches c us y.code y.inst

/-- FLT_FIRST_CLR. -/
def State.ownFirstClr (s : State) (v : Nat) : Own :=
  let s := s.updFlt fun f => { f with capC := if v.testBit 0 then none else f.capC, capU := if v.testBit 1 then none else f.capU }
  .ok { s with ret := { s.ret with capF := if v.testBit 2 then none else s.ret.capF } }

/-- FLT_CFG of a source: K and W in range, both reactions in the mask; ALLOWED is ignored (R307). -/
def State.ownFltCfg (s : State) (src : FltSrc) (v : Nat) : Own :=
  let k := bits v 7 0
  let w := bits v 31 8
  let mask := src.dflt / 2 ^ 48
  let okR (r : Nat) := decide (r < 16) && mask.testBit r
  if 1 ≤ k && 1 ≤ w && w ≤ 600000 && okR (bits v 39 32) && okR (bits v 47 40) then
    .ok (s.wr ⟨key (0x1820 + src.code / 256) (src.code % 256), src.dflt % 2 ^ 48⟩ (v % 2 ^ 48))
  else .error abRange

/-! ### What a read shows -/

/-- A capture record (R301). -/
def Capture.bytes : Option Capture → List Byte
  | none => List.replicate 32 0
  | some c =>
    leBytes 2 c.code ++ leBytes 2 c.inst ++ leBytes 1 c.acc.master ++ leBytes 1 c.acc.access ++ leBytes 2 c.acc.node ++
      leBytes 4 c.acc.addr ++ leBytes 4 c.detail ++ leBytes 8 (sysS c.time) ++ leBytes 4 (sysNs c.time) ++ leBytes 4 0

/-- The state code of an instance. -/
def FltSt.code : FltSt → Nat
  | .clear => 0 | .transient => 1 | .lasting => 2

/-- FLT_STATE, FLT_ACTIVE and FLT_ACTIVE_N. -/
def State.fltState (s : State) : Nat :=
  let q := s.rd Od.FLT_QUERY
  let x := s.fltInst (bits q 15 0) (bits q 31 16)
  min x.n 255 + x.st.code * 2 ^ 8 + b2n (s.persists x.code x.inst) * 2 ^ 10 + x.events * 2 ^ 32
def State.fltNotClear (s : State) : List FltInst := s.flt.insts.filter fun x => x.st ≠ .clear
def State.fltActive (s : State) : List Byte :=
  (s.fltNotClear.take 64).flatMap fun x =>
    leBytes 2 x.code ++ leBytes 2 x.inst ++ leBytes 1 x.st.code ++ leBytes 1 (min x.n 255) ++ leBytes 2 0

/-- What the report card of a manager keeps of an ECC error in its HOST, SAFE or LOOP SRAM (R436, R437). -/
def State.eccCard (s : State) (corrected : Bool) : State :=
  if s.ring.role ≠ 0 then s
  else if corrected then (s.updMgr fun m => { m with corrAt := some s.now, scrubC := up32 m.scrubC }).seeGrade
  else (s.updMgr fun m => { m with scrubU := up32 m.scrubU }).setUnfit 1

/-- SRAM_ECC_ERROR: an error in the SRAM of HOST or SAFE. The report card of a manager counts it (R292, R436, R437). -/
def State.sramEcc (s : State) (safe corrected : Bool) : State :=
  let code := if safe then (if corrected then Flt.SAFE_ECC_C else Flt.SAFE_ECC_U) else if corrected then Flt.HOST_ECC_C else Flt.HOST_ECC_U
  (s.raise code 0).eccCard corrected

/-! ### Sending the queue (R386) -/

/-- The payload of the next alarm frame, taken from the queue: the lost-count record first, then queued records that have
not been sent, up to 32, F and SAFETY records by themselves. -/
def State.nextAlarms (s : State) : Option (List Byte × State) :=
  let fresh := s.ring.alms.filter fun e => !e.sent
  match s.ring.lost with
  | some l =>
    let l := { l with seq := s.flt.almSeq }
    some (l.bytes, (s.updFlt fun f => { f with almSeq := up32 f.almSeq }).updRing fun r => { r with lost := none })
  | none =>
    if fresh = [] then none
    else
      let hi := fresh.any fun e => e.alarm.sev ≥ 2
      let pick := ((fresh.filter fun e => decide (e.alarm.sev ≥ 2) = hi).take 32).map (·.alarm)
      some (pick.flatMap Alarm.bytes,
        s.updRing fun r => { r with alms := r.alms.map fun e => if pick.contains e.alarm then { e with sent := true } else e })

/-- ALM_ACK: records up to the SEQ written leave the queue, in 32-bit serial order. -/
def State.ownAlmAck (s : State) (v : Nat) : Own :=
  .ok (s.updRing fun r => { r with alms := r.alms.filter fun e => e.alarm.seq ≠ v && !newer32 v e.alarm.seq })

/-- ALM_READ: the oldest 32 unacknowledged records (R388). -/
def State.almRead (s : State) : List Byte := (s.ring.alms.take 32).flatMap fun e => e.alarm.bytes

end Sys2Proof.Machine
end

