-- ==== Sys2Proof/Machine/SlotCmds.lean ====
section
/-! DEFINITION. The slot entries (02): SLOT_CMD and its conditions, SLOT_TEMPLATE, binding and assignment; LVP_CMD (09);
SF_IMAGE and SF_CONFIRM (13). -/

namespace Sys2Proof.Machine

/-! ### SLOT_CMD (R36 to R40) -/

/-- What a unit must be for START: STOPPED and in no string, with every condition other chapters lay down (R27, R98, R241,
R251, R283, R312, R318, R329, R484, R496, R509, R528). -/
def State.startOk (s : State) (c u : Nat) : Bool :=
  let inTest := match s.testRuns with
    | some g => s.inGroup g c
    | none => false
  s.ust c u = .stopped && (s.strOf c).isNone && ((s.slot c).unit u).seq.isNone &&
    !(s.unitLegIds c u).any (fun l => (s.gg l).fkPin) && (s.inA c || s.inB c) && s.sf.session = .closed && !inTest &&
    s.clk.sysLock && s.nominal && s.banksOk c u && s.ready && !s.nor.debugOpen && !s.th.shut.testBit c && s.lvStartOk c u

/-- A unit whose CLEAR R36 allows: FAULTED; or a bypassed cell whose string is stopped, or whose string runs and whose link
has been recharged to within STR_PC_TOL of the string mean (log entry 150). FK of no leg of the unit may be asserted
(R104). -/
def State.clearOk (s : State) (c u : Nat) : Bool :=
  !(s.unitLegIds c u).any s.fkOn && match s.ust c u, s.strOf c with
  | .faulted, _ => ((s.slot c).unit u).seq.isNone
  -- the string has stopped while the cell was faulted: CLEAR still releases its latches (R37, R104)
  | .stopped, _ => ((s.slot c).unit u).seq.isNone && (s.unitLegIds c u).any fun l => (s.gg l).latched
  | .bypassed, some i =>
    let d := F32.abs (F32.sub (s.link c) (s.str i).mean)
    (s.str i).st = .stopped || (((s.str i).st = .running || (s.str i).st = .blocked) && F32.le d (s.rd (Od.STR_PC_TOL i)))
  | _, _ => false

/-- The cell of Cc that BYPASS takes (R36): ACTIVE or SPARE; or FAULTED while its string runs with AUTO_BYPASS clear, for
then the host bypasses the cell that has faulted (R227). -/
def State.bypassOk (s : State) (c : Nat) : Bool :=
  ((s.slot c).unit 0).seq.isNone && match s.strOf c with
  | none => false
  | some i => s.ust c 0 = .active || s.ust c 0 = .spare ||
    (s.ust c 0 = .faulted && ((s.str i).st = .running || (s.str i).st = .blocked) && !(s.rd (Od.STR_CTRL i)).testBit 1)

/-- The command is allowed from the present state of every unit it names (R36, R39). -/
def State.cmdOk (s : State) (c : Nat) (op : SlotOp) (us : List Nat) : Bool :=
  us ≠ [] &&
  match op with
  | .start => us.all (s.startOk c)
  | .stop => (s.strOf c).isNone && us.all fun u => s.ust c u = .active && ((s.slot c).unit u).seq.isNone
  | .bypass => s.bypassOk c
  | .insert => (s.strOf c).isSome && s.ust c 0 = .spare && ((s.slot c).unit 0).seq.isNone && !s.th.shut.testBit c
  | .clear => us.all (s.clearOk c) && !s.th.shut.testBit c && !s.clearBlocked c us

/-- A command of SLOT_CMD, with the abort code of its answer. -/
def State.slotCmd (s : State) (c : Nat) (op : SlotOp) (mask : Nat) : State × Nat :=
  let refused := s.updSlot c fun t => { t with cmdSt := .refused }
  let mask := if op = .bypass || op = .insert then 1 else mask
  if (s.slot c).cmd.isSome then (s, abBusy)
  else if (List.range 6).any fun u => mask.testBit u && decide (u ≥ tmplUnits (s.tmpl c)) then (refused, abState)
  else
    let us := s.named c mask
    if !s.cmdOk c op us then (refused, abState)
    else
      let m : SlotCmd := ⟨op, mask, s.pwmClk⟩
      let running := (s.cmdCars c m).filter fun k => (s.car k).st = .running
      if op = .start && running ≠ s.cmdCars c m then (refused, abState)
      else
        let s := if op = .clear then s.clearTransient c us else s
        let s := if op = .start then s.each us fun s u => s.drvBegin c u else s
        if running = [] then (s.slotAct c m, 0)
        else (s.updSlot c fun t => { t with cmd := some m, cmdSt := .pending }, 0)

/-- A write of SLOT_CMD by its word. -/
def State.ownSlotCmd (s : State) (c v : Nat) : State × Nat :=
  let mask := bits v 13 8
  match v % 256 with
  | 1 => s.slotCmd c .start mask
  | 2 => s.slotCmd c .stop mask
  | 3 => s.slotCmd c .bypass mask
  | 4 => s.slotCmd c .insert mask
  | 5 => s.slotCmd c .clear mask
  | _ => (s, abReserved)

/-! ### Templates and assignment (R26, R29, R41 to R44) -/

/-- SLOT_TEMPLATE (R44). -/
def State.ownTemplate (s : State) (c v : Nat) : Own :=
  if (s.slot c).cmd.isSome then .error abBusy
  else if !(s.units c).all fun u => s.ust c u = .stopped && ((s.slot c).unit u).seq.isNone then .error abState
  else
    let s := s.wr (Od.SLOT_TEMPLATE c) v
    let s := s.each (List.range 6) fun s j => match tmplCarrier v c j with
      | some k => (s.wr (Od.LEG_CARRIER (6 * c + j)) k).updLeg (6 * c + j) fun g => { g with bound := none }
      | none => s.updLeg (6 * c + j) fun g => { g with bound := none }
    let s := s.each (List.range 6) fun s j => s.fkFresh (6 * c + j)
    let s := s.each (List.range 6) fun s u =>
      ((s.wr (Od.UNIT_LOOP c u) 0xFF).wr (Od.UNIT_LV c u) 0xFF).wr (Od.UNIT_FN c u) (if v = 3 && u < 2 then 1 else 0)
    let s := ((s.wr (Od.SLOT_STRING c) 0xFF).wr (Od.SLOT_STRING_POS c) 0).wr (Od.SLOT_STRING_ROLE c) 0
    .ok (s.updSlot c fun t => { t with units := List.replicate 6 {} })

/-- The template has the unit. -/
def State.hasUnit (s : State) (c u : Nat) : Bool := decide (u < tmplUnits (s.tmpl c))

/-- UNIT_LOOP: at once on a leg whose carrier is not RUNNING, at its commit point otherwise (R43), or when the carrier leaves
RUNNING before (State.carLeft; DEDUCED, log entry 166). -/
def State.ownUnitLoop (s : State) (c u v : Nat) : Own :=
  if !s.hasUnit c u then .error abState
  else
    let s := s.wr (Od.UNIT_LOOP c u) v
    .ok (s.each (s.unitLegIds c u) fun s l => if (s.car (s.carOf l)).st = .running then s else s.bindLeg l)

/-- UNIT_LV (R42, R238). -/
def State.ownUnitLv (s : State) (c u v : Nat) : Own :=
  if s.hasUnit c u && s.ust c u = .stopped && s.unitLvOk c u v then .ok (s.wr (Od.UNIT_LV c u) v) else .error abState

/-- UNIT_FN: one brake chopper in a T1x6 slot (R29, R42). -/
def State.ownUnitFn (s : State) (c u v : Nat) : Own :=
  let second := v = 2 && s.tmpl c = 5 && (List.range 6).any fun w => w ≠ u && s.rd (Od.UNIT_FN c w) = 2
  if s.hasUnit c u && s.ust c u = .stopped && !second then .ok (s.wr (Od.UNIT_FN c u) v) else .error abState

/-- SLOT_STRING, SLOT_STRING_POS and SLOT_STRING_ROLE (R41): T6 and STOPPED, and no two slots at one position. -/
def State.ownSlotString (s : State) (c : Nat) (r : Reg) (v : Nat) : Own :=
  if s.tmpl c ≠ 1 || s.ust c 0 ≠ .stopped || ((s.slot c).unit 0).seq.isSome then .error abState
  else
    let s := s.wr r v
    match s.strOf c with
    | none => .ok s
    | some i => if (s.membersHere i).any fun d => d ≠ c && s.posOf d = s.posOf c then .error abState else .ok s

/-! ### LVP_CMD (R248, R251, R252) -/

/-- LVP_CMD on entry E; a command that is refused shows so in LVP_CMD_STATUS. -/
def State.ownLvCmd (s : State) (e v : Nat) : State × Nat :=
  let refused (s : State) := (s.updLv e fun x => { x with cmdSt := .refused, viaSlot := false }, abState)
  let done (s : State) := (s.updLv e fun x => { x with cmdSt := .done, viaSlot := false }, 0)
  let via (op : SlotOp) : State × Nat := match s.lvUnits e with
    | cu :: _ =>
      let (s, a) := s.slotCmd cu.1 op (2 ^ cu.2)
      (s.updLv e fun x => { x with viaSlot := true }, a)
    | [] => refused s
  match s.lvKind e, v with
  | 1, 1 => via .start
  | 1, 2 => via .stop
  | 1, 3 =>
    if (s.lvE e).drv = .faulted && !(s.lvUnits e).any fun cu => s.clearBlocked cu.1 [cu.2] then
      done (s.updLv e fun x => { x with drv := .stopped })
    else refused s
  | 2, 3 =>
    let b := s.rd (Od.LVB_CH_BLOCK e)
    let out := (s.lvUnits e).any fun cu => match s.unitLoop cu.1 cu.2 with
      | some n => (((s.ls n).block b).typ = 0x1D : Bool) && (portOf (s.ls n).prev b 1 = F32.one : Bool)
      | none => false
    if !out then done (s.updLv e fun x => { x with chopFault := false }) else refused s
  | _, _ => refused s

/-! ### Safety image and sign-off (R328) -/

/-- SF_IMAGE: a signed body of R516 records, each of a SAFE parameter (log entry 82). -/
def State.ownSfImage (s : State) (img : List Byte) : Own :=
  if s.sf.session ≠ .opened then .error abSafety
  else if !s.sigOk img kindSafe [] then .error abSignature
  else match parseRecords (imgBody img).length (imgBody img) with
    | none => .error abImage
    | some rs =>
      let good (r : Nat × Nat × Nat × List Byte) := isSafeKey (key r.1 r.2.1) && recordOk true r.1 r.2.1 r.2.2.1 r.2.2.2
      if !rs.all good then .error abImage
      else
        let put (m : OdStore) (r : Nat × Nat × Nat × List Byte) := match Od.find r.1 r.2.1 with
          | some row => m.put (row.reg r.1 r.2.1) (leNat r.2.2.2)
          | none => m
        .ok ((s.updSf fun x => { x with pendSet := rs.foldl put x.pendSet }).sessionTouch)

/-- SF_CONFIRM: the pending set becomes active and is stored by a commit. -/
def State.ownSfConfirm (s : State) (v : Nat) : Own :=
  if s.sf.session ≠ .verified || v ≠ s.sf.pendCrc then .error abSafety
  else s.activateSafe.askCommit true

/-- SF_SIGNOFF_CMD. -/
def State.ownSignoff (s : State) (v : Nat) : Own :=
  match v with
  | 1 => s.sfOpen
  | 2 => s.sfVerify
  | _ => s.sfAbort

end Sys2Proof.Machine
end

