-- ==== Sys2Proof/Machine/View.lean ====
section
/-! DEFINITION. What a read of each entry shows (the group tables of 02 to 22): a number for a scalar or for OCTETS of
one size, bytes for the entries of varying length. A writable entry shows its stored value where nothing is said here. -/

namespace Sys2Proof.Machine

/-- The number whose bytes are the values of a list, n bytes each. -/
def packs (n : Nat) (l : List Nat) : Nat := leNat (l.flatMap (leBytes n))

/-- A number rounded to the nearest unit of an entry, as the worked figures of R172 round LOOP_UTIL (log entry 104). -/
def showRat (r : Rat) : Int := nearest r

/-- A share in ‰. -/
def permille (r : Rat) : Nat := min 1000 (showRat (1000 * r)).toNat

/-! ### Slots, legs, carriers, guard (02, 03, 04) -/

/-- Group 0x2000. -/
def State.viewDevice (s : State) (sub : Nat) : Option Nat :=
  match sub with
  | 0x01 => some (packs 1 ((List.range 32).map s.tmpl))
  | 0x02 => some (packs 1 ((List.range 32).map s.slotState))
  | 0x05 => some s.legsEnabled
  | 0x06 => some (packBits ((List.range 32).map fun c => s.slotLatched c ≠ 0))
  | 0x08 => some s.stringTrips
  | _ => none

/-- Group 0x2100+C. Subs of units the template lacks read 0xFF, or 0 (R47). -/
def State.viewSlot (s : State) (c sub : Nat) : Option Nat :=
  let t := s.slot c
  match sub with
  | 0x02 => some (s.slotState c)
  | 0x04 => some t.cmdSt.code
  | 0x05 => some t.reason
  | 0x07 => some (s.slotLatched c)
  | 0x0B => some t.soCount
  | _ =>
    let u := sub % 8
    if 0x10 ≤ sub && sub < 0x20 then (if s.hasUnit c u then none else some 0xFF)
    else if 0x20 ≤ sub && sub < 0x28 then (if s.hasUnit c u then none else some 0)
    else if 0x28 ≤ sub then some (if s.hasUnit c u then (s.ust c u).code else 0)
    else none

/-- Group 0x2200+L. -/
def State.viewLeg (s : State) (l sub : Nat) : Option Nat :=
  let g := s.leg l
  let x := s.gg l
  match sub with
  | 0x08 => some (dtAdapt x.dF + dtAdapt x.dR * 2 ^ 16)
  | 0x09 => some (x.tswF + x.tswR * 2 ^ 16)
  | 0x0A => some (x.status (s.blanking l) (s.stoHeld (legSlot l)) (s.supplyWait l))
  | 0x0C => some x.fkCount
  | 0x0D => some x.blankedCount
  | 0x0E => some x.xcmdCount
  | 0x0F => some (x.backstops + x.snMisses * 2 ^ 16)
  | 0x13 => some g.dutyAct
  | 0x14 => some g.phaseAct
  | 0x17 => some g.status
  | 0x1B => some g.pklCount
  | 0x1C => some g.bootCount
  | 0x1D => some g.clampCount
  | _ => none

/-- Group 0x2300+K. -/
def State.viewCar (s : State) (k sub : Nat) : Option Nat :=
  let c := s.car k
  match sub with
  | 0x02 => some c.p
  | 0x06 => some (b2n (s.commitPending k))
  | 0x09 => some c.st.code
  | 0x0A => some c.valleys
  | 0x0B => some c.commits
  | 0x0C => some c.late
  | 0x0D => some (s.carLegs k)
  | 0x0E => some (s.carStatus k)
  | _ => none

/-! ### Measurement (05) -/

/-- Group 0x2800+M. -/
def State.viewMd (s : State) (m sub : Nat) : Option Nat :=
  let x := s.md m
  match sub with
  | 0x0F => some (s.mdStatus m)
  | 0x11 => some (ofSigned 16 x.fast)
  | 0x12 => some x.trips
  | 0x13 => some x.tv
  | _ => none

/-- Group 0x2900+A, with the comparators of 09. -/
def State.viewSar (s : State) (a sub : Nat) : Option Nat :=
  let x := s.meas.sars.getD a {}
  match sub with
  | 0x04 => some (packBits [x.ovr, (s.streamOf a).isSome])
  | 0x06 => some x.overs
  | 0x17 => some (s.cmpStatus a)
  | 0x19 => some (s.cmp a).trips
  | _ => none

/-- Groups 0x2A00, 0x2A20+S, 0x2A40+QG and 0x2A80+TE. Subs 02 to 07 of an odd slice read 0 (R147). -/
def State.viewMeas (s : State) (base n sub : Nat) : Option Nat :=
  let q := s.meas
  let x := s.slice n
  let t := s.trg n
  match base, sub with
  | 0x2A00, 0x01 => some q.queue.length
  | 0x2A00, 0x02 => some q.high
  | 0x2A00, 0x03 => some q.drops
  | 0x2A00, 0x04 => some (leNat s.popHost.1)
  | 0x2A00, 0x06 => some q.aged
  | 0x2A00, 0x07 => some q.dstOff
  | 0x2A20, 0x02 => if n % 2 = 1 then some 0 else none
  | 0x2A20, 0x03 => if n % 2 = 1 then some 0 else none
  | 0x2A20, 0x04 => some (if n % 2 = 1 then 0 else ofSigned 32 (showRat (x.ofs * 256)))
  | 0x2A20, 0x05 => some (if n % 2 = 1 then 0 else ofSigned 32 (showRat (x.gn * 16777216)))
  | 0x2A20, 0x06 => some (if n % 2 = 1 then 0 else ofSigned 16 (showRat (x.sk * 2)))
  | 0x2A20, 0x07 => some (if n % 2 = 1 then 0 else packBits [x.convOG, x.convOG, x.convSk, x.sat])
  | 0x2A20, 0x08 => some x.busy
  | 0x2A20, 0x09 => some x.convs
  | 0x2A40, 0x02 => some (q.qgSkips.getD n 0)
  | 0x2A80, 0x0E => some t.seq
  | 0x2A80, 0x0F => some t.fired
  | 0x2A80, 0x10 => some t.skipped
  | 0x2A80, 0x11 => some t.overruns
  | _, _ => none

/-! ### Loop engine and run-ahead (06, 07) -/

/-- Group 0x3000+LS. -/
def State.viewLs (s : State) (n sub : Nat) : Option Nat :=
  let t := s.ls n
  match sub with
  | 0x01 => some t.st.code
  | 0x04 => some t.cost
  | 0x0D => some (t.pipe.getD 0xFF)
  | 0x11 => some (s.lsStatus n)
  | 0x13 => some t.runs
  | 0x14 => some t.misses
  | 0x15 => some t.missRun
  | 0x16 => some t.execLast
  | 0x17 => some t.execMax
  | 0x18 => some (ofSigned 32 t.slackMin)
  | 0x19 => some t.unbound
  | 0x1A => some t.nans
  | 0x1B => some t.unsched
  | 0x1C => some t.stray
  | 0x1D => some t.plausCount
  | 0x1E => some t.absentRun
  | 0x20 => some t.act
  | 0x22 => some (b2n t.swap)
  | 0x25 => some (t.other.getD (s.rd (Od.LS_COEF_ADDR n)) 0)
  | 0x27 => some t.directs
  | _ =>
    if 0x60 ≤ sub && sub < 0x70 then some ((t.inp (sub - 0x60)).nowV + (t.inp (sub - 0x60)).nowSt * 2 ^ 32)
    else if 0x70 ≤ sub then some (t.outs.getD (sub - 0x70) 0)
    else none

/-- A RUNNING or HOLDING slot with run-ahead enabled. -/
def State.raUses (s : State) (n : Nat) : Bool := s.raOn n && ((s.ls n).st = .running || (s.ls n).st = .holding)

/-- Groups 0x3080 and 0x3100. -/
def State.viewEngine (s : State) (base sub : Nat) : Option Nat :=
  match base, sub with
  | 0x3080, 0x01 => some (permille s.loopUtil)
  | 0x3080, 0x02 => some (packs 2 ((List.range 4).map fun p => min 65535 (showRat (1000 * s.pipeLoad (s.onPipe p))).toNat))
  | 0x3080, 0x03 => some (s.loopFree 0xFFFF)
  | 0x3080, 0x04 => some s.le.eccC
  | 0x3080, 0x05 => some s.le.intake
  | 0x3080, 0x06 => some s.le.preempts
  | 0x3100, 0x01 => some ((List.range 128).countP s.raUses)
  | 0x3100, 0x02 => some ((s.le.slots.map (·.commits)).sum % 2 ^ 64)
  | 0x3100, 0x03 => some s.le.squashesAll
  | 0x3100, 0x04 => some s.le.holdsAll
  | 0x3100, 0x05 => some s.le.raStageMax
  | _, _ => none

/-- Group 0x3180+LS. Subs of p at or above RA_N_PRED read 0 (R206). -/
def State.viewRa (s : State) (n sub : Nat) : Option Nat :=
  let t := s.ls n
  let np := s.rd (Od.RA_N_PRED n)
  let p := sub % 8
  match sub with
  | 0x05 => some t.raCost
  | 0x06 => some t.raStatus
  | 0x08 => some t.commits
  | 0x09 => some t.squashes
  | 0x0A => some t.recomputes
  | 0x0B => some t.holds
  | 0x0D => some t.fallbacks
  | 0x0E => some t.unmatched
  | 0x0F => some t.squashRun
  | _ =>
    if sub < 0x10 then none
    else if p ≥ np then some 0
    else if 0x28 ≤ sub then some (t.resPeak.getD p 0)
    else if 0x20 ≤ sub then some (t.resLast.getD p 0)
    else none

/-! ### Strings (08) -/

/-- A record of STR_MEMBERS (R208). -/
def Member.code (m : Member) : Nat := m.node % 1024 + m.slot % 32 * 2 ^ 10 + b2n m.spare * 2 ^ 15 + m.pos % 64 * 2 ^ 16 + 2 ^ 31

/-- Groups 0x3200 and 0x3220+ST. -/
def State.viewString (s : State) (base i sub : Nat) : Option Nat :=
  let t := s.str i
  match base, sub with
  | 0x3200, 0x01 => some (packBits ((List.range 32).map fun i => s.rd (Od.STR_ID i) ≠ 0xFFFF))
  | 0x3200, 0x02 => some s.glideSteps
  | 0x3200, 0x03 => some s.strRecords
  | 0x3220, 0x02 => some t.st.code
  | 0x3220, 0x04 => some t.cmdSt.code
  | 0x3220, 0x20 => some (packs 4 (t.members.map Member.code))
  | 0x3220, 0x21 => some (packs 1 ((List.range 48).map fun p => ((t.tbl.active.find? fun a => a.1 = p).map (·.2)).getD 0xFF))
  | 0x3220, 0x22 => some t.tbl.active.length
  | 0x3220, 0x23 => some t.tbl.spares.length
  | 0x3220, 0x24 => some t.tbl.losses
  | 0x3220, 0x25 => some (t.status (s.isHome i))
  | 0x3220, 0x26 => some t.bypReq
  | 0x3220, 0x27 => some t.trackMode
  | 0x3220, 0x28 => some t.jumpLast
  | 0x3220, 0x29 => some t.tbl.respreads
  | 0x3220, 0x2A => some t.blocks
  | 0x3220, 0x2B => some t.mean
  | _, _ => none

/-! ### LV port (09) -/

/-- Groups 0x3400 and 0x3440+E. Subs of another kind read 0, or 0xFF in each byte where that is the default (R259). -/
def State.viewLv (s : State) (base e sub dflt : Nat) : Option Nat :=
  let x := s.lvE e
  let ks := lvSubKinds sub
  if base = 0x3440 && ks ≠ [] && !ks.contains (s.lvKind e) then some (if dflt = 0xFF then dflt else 0)
  else
    match base, sub with
    | 0x3400, 0x01 => some (packBits ((List.range 64).map fun e => s.lvKind e ≠ 0))
    | 0x3400, 0x02 => some s.lv.ov3Cuts
    | 0x3400, 0x03 => some s.lv.brakeLost
    | 0x3400, 0x04 => some s.lv.decisions
    | 0x3440, 0x03 => some (s.lvState e)
    | 0x3440, 0x05 => some (s.lvCmdSt e).code
    | 0x3440, 0x06 => some (s.lvStatus e)
    | 0x3440, 0x13 => some x.phase
    | 0x3440, 0x14 => some x.mode
    | 0x3440, 0x15 => some x.speed
    | 0x3440, 0x16 => some (ofSigned 8 x.dir)
    | 0x3440, 0x17 => some x.starts
    | 0x3440, 0x18 => some x.catches
    | 0x3440, 0x19 => some x.reversals
    | 0x3440, 0x1A => some x.fails
    | 0x3440, 0x28 => some x.v
    | 0x3440, 0x29 => some x.ov2s
    | 0x3440, 0x2A => some x.uv2s
    | _, _ => none

/-! ### Feedback (10) and thermal unit (11) -/

/-- Group 0x3500. -/
def State.viewFb (s : State) (sub : Nat) : Option Nat :=
  let f := s.fb
  match sub with
  | 0x0D => some f.irqPend
  | 0x0F => some s.fbStatus
  | 0x11 => some (ofSigned 64 f.count)
  | 0x12 => some (F32.ofQ s.thetaM)
  | 0x13 => some (F32.ofQ s.scSpeed)
  | 0x14 => some f.q
  | 0x15 => some f.hallCode
  | 0x16 => some f.sector
  | 0x17 => some (F32.ofQ s.hallSpeed)
  | 0x18 => some (ofSigned 64 f.pulses)
  | 0x19 => some (F32.ofQ s.plsRate)
  | 0x1A => some f.ampCount
  | 0x1B => some f.hallBadCount
  | _ => if 0x1C ≤ sub then some (s.fbSrc (sub - 0x1C)).changes else none

/-- Groups 0x3600 and 0x3620+C. -/
def State.viewTh (s : State) (base c sub : Nat) : Option Nat :=
  let x := s.tslot c
  match base, sub with
  | 0x3600, 0x04 => some s.th.dieTemp
  | 0x3600, 0x05 => some (packs 4 s.th.die)
  | 0x3600, 0x06 => some s.th.shut
  | 0x3600, 0x08 => some s.th.shuts
  | 0x3600, 0x09 => some s.thStatus
  | 0x3620, 0x17 => some (packs 4 x.tj)
  | 0x3620, 0x18 => some x.tmax
  | 0x3620, 0x19 => some x.tref
  | 0x3620, 0x1A => some x.hsModel
  | 0x3620, 0x1B => some x.k
  | 0x3620, 0x1C => some x.sensor
  | 0x3620, 0x1E => some x.status
  | _, _ => none

/-! ### Faults (12) and safety (13) -/

/-- Group 0x1800. -/
def State.viewFlt (s : State) (sub : Nat) : Option Nat :=
  match sub with
  | 0x01 => some s.flt.countC
  | 0x02 => some s.flt.countU
  | 0x03 => some s.flt.countF
  | 0x04 => some (leNat (Capture.bytes s.flt.capC))
  | 0x05 => some (leNat (Capture.bytes s.flt.capU))
  | 0x06 => some (leNat (Capture.bytes s.ret.capF))
  | 0x09 => some s.flt.clrSt.code
  | 0x0B => some s.fltState
  | 0x0D => some s.fltNotClear.length
  | 0x0F => some s.flt.almSeq
  | 0x10 => some s.flt.reacts
  | _ => none

/-- SF_STATE, SF_SIGNOFF_STATE and SDC_STATE. -/
def SfState.code : SfState → Nat
  | .noConfig => 0 | .run => 1 | .failsafe => 2
def SfSession.code : SfSession → Nat
  | .closed => 0 | .opened => 1 | .verified => 2
def SdcState.code : SdcState → Nat
  | .unused => 0 | .valid => 1 | .failsafe => 2

/-- Groups 0x3800, 0x3810+c and 0x3820+p. -/
def State.viewSf (s : State) (base n sub : Nat) : Option Nat :=
  let f := s.sf
  let c := s.con n
  match base, sub with
  | 0x3800, 0x01 => some f.st.code
  | 0x3800, 0x03 => some f.session.code
  | 0x3800, 0x04 => some f.pendCrc
  | 0x3800, 0x06 => some f.activeCrc
  | 0x3800, 0x07 => some f.signoffs
  | 0x3800, 0x08 => some (timeCode f.signoffTime)
  | 0x3800, 0x15 => some f.ackSeq
  | 0x3800, 0x17 => some s.stoState
  | 0x3800, 0x18 => some f.phold
  | 0x3800, 0x19 => some (packs 8 [f.testLastA, f.testLastB])
  | 0x3800, 0x2C => some s.soState
  | 0x3810, 0x09 => some c.st.code
  | 0x3810, 0x0A => some (leNat c.data)
  | 0x3810, 0x0B => some (packs 2 [c.single, c.mismatch, c.reject, c.failsafes])
  | 0x3810, 0x0C => some c.skewMax
  | 0x3820, 0x04 => some (f.prods.getD n {}).sent
  | _, _ => none

/-! ### Lanes (14), ring (15), time (16), managers (17) -/

/-- Group 0x1280+n. The ENABLE bit of a lane that the role leaves unused reads 0 (R339). -/
def State.viewLane (s : State) (n sub : Nat) : Option Nat :=
  let x := s.lane n
  match sub with
  | 0x01 => if s.usesLane n then none else some (withField (s.laneCtrl n) 0 1 0)
  | 0x02 => some x.st.code
  | 0x03 => some x.status
  | 0x05 => some (if x.st = .up then x.ver else 0)
  | 0x06 => some 0x0101
  | 0x07 => some x.peer
  | 0x08 => some (ofSigned 32 x.ppm)
  | 0x09 => some x.fill
  | 0x0A => some x.badHdr
  | 0x0B => some x.badType
  | 0x0C => some x.lockLoss
  | 0x0D => some x.hiBers
  | 0x0E => some (x.ins + x.del * 2 ^ 32)
  | 0x0F => some x.elasticErr
  | 0x10 => some x.errRx
  | 0x11 => some x.errTx
  | 0x12 => some x.trains
  | 0x13 => some (timeCode x.upSince)
  | 0x14 => some x.upCount
  | 0x15 => some x.prbsErr
  | 0x16 => some x.prbsBits
  | 0x17 => some (leNat x.module)
  | 0x18 => some (leNat x.ddm)
  | _ => none

/-- Groups 0x1200, 0x1210+t, 0x1220 and 0x1230. -/
def State.viewRing (s : State) (base t sub : Nat) : Option Nat :=
  let r := s.ring
  match base, sub with
  | 0x1200, 0x01 => some r.st.code
  | 0x1200, 0x02 => some r.nodeId
  | 0x1200, 0x04 => some r.sysCycle
  | 0x1200, 0x07 => some (packs 4 [r.dTrunk, r.dBranch])
  | 0x1200, 0x08 => some r.health
  | 0x1200, 0x09 => some r.late
  | 0x1200, 0x0A => some r.crc
  | 0x1200, 0x0B => some r.hcrc
  | 0x1200, 0x0C => some r.dups
  | 0x1200, 0x0D => some r.hopsExp
  | 0x1200, 0x0F => some r.tc1Diff
  | 0x1200, 0x14 => some r.spill
  | 0x1200, 0x16 => some (packs 8 r.txBytes)
  | 0x1200, 0x17 => some r.rollCalls
  | 0x1200, 0x18 => some (packs 2 r.branchIds)
  | 0x1200, 0x19 => some (packs 4 r.offsets)
  | 0x1200, 0x1A => some r.ttVersion
  | 0x1200, 0x1B => some r.noId
  | 0x1200, 0x1D => some r.edgeDrops
  | 0x1200, 0x1E => some r.ttViol
  | 0x1200, 0x1F => some r.tc1Load
  | 0x1210, 0x05 => some (r.offsets.getD t 0)
  | 0x1210, 0x06 => some (r.sent.getD t 0)
  | 0x1220, 0x02 => some (packs 4 r.values)
  | 0x1220, 0x03 => some (packBits (r.ages.map fun a => decide (3 ≤ a)))
  | 0x1230, 0x01 => some r.alms.length
  | 0x1230, 0x02 => some (r.alms.countP (·.res))
  | 0x1230, 0x03 => some (packs 4 r.almDrops)
  | 0x1230, 0x08 => some r.almRxOvf
  | _, _ => none

/-- Groups 0x1300, 0x1310+n, 0x1320+d, 0x1340+b and 0x1380+n. -/
def State.viewTime (s : State) (base n sub : Nat) : Option Nat :=
  let t := s.tb
  match base, sub with
  | 0x1300, 0x01 => some t.st.code
  | 0x1300, 0x02 => some (timeCode s.sysNow)
  | 0x1300, 0x04 => some s.tmSrcAct
  | 0x1300, 0x05 => some (ofSigned 64 t.o)
  | 0x1300, 0x06 => some (ofSigned 32 t.rho)
  | 0x1300, 0x0B => some (ofSigned 32 t.rhoHold)
  | 0x1300, 0x0C => some (timeCode t.holdSince)
  | 0x1300, 0x0D => some t.steps
  | 0x1300, 0x0E => some t.slews
  | 0x1300, 0x11 => some (timeCode t.ppsLast)
  | 0x1300, 0x13 => some s.tmStatus
  | 0x1300, 0x15 => some t.upstream
  | 0x1300, 0x16 => some (ofSigned 16 t.pwmErr)
  | 0x1300, 0x18 => some t.bellSkips
  | 0x1310, 0x02 => some (s.lane n).linkDelay
  | 0x1310, 0x03 => some (ofSigned 32 (s.lane n).offset)
  | 0x1310, 0x04 => some (Config.txLat n)
  | 0x1310, 0x05 => some (Config.rxLat n)
  | 0x1320, 0x03 => some (s.ptpState n)
  | 0x1320, 0x04 => some (ofSigned 64 (s.ptp n).offset)
  | 0x1320, 0x05 => some (leNat (s.ptp n).gm)
  | 0x1320, 0x06 => some (s.ptp n).delay
  | 0x1320, 0x08 => some (ofSigned 8 (s.ptp n).logSync)
  | 0x1320, 0x09 => some (s.ptp n).steps
  | 0x1340, 0x04 => some (s.bell n).st.code
  | 0x1340, 0x05 => some (s.bell n).rings
  | 0x1340, 0x06 => some (s.bellNext n)
  | 0x1380, 0x04 => some (timeCode (s.trig n).last)
  | 0x1380, 0x05 => some (s.trig n).count
  | _, _ => none

/-- Group 0x1400. -/
def State.viewMgr (s : State) (sub : Nat) : Option Nat :=
  let m := s.mgr
  match sub with
  | 0x03 => some m.st.code
  | 0x05 => some m.epoch
  | 0x06 => some m.holder
  | 0x0E => some m.cmdSt.code
  | 0x0F => some s.mgrStatus
  | 0x10 => some m.switchovers
  | 0x11 => some m.handbacks
  | 0x12 => some m.digestMiss
  | 0x13 => some m.snapBytes
  | 0x19 => some m.wk.code
  | 0x1B => some m.droops
  | 0x1C => some m.gapMax
  | 0x21 => some (leNat s.card)
  | 0x23 => some (leNat m.peerCard)
  | _ => none

/-! ### Identity, access paths, traces (18) -/

/-- SPI_IRQ_PEND (R466). -/
def State.spiPend (s : State) : Nat := packBits [s.acc.spiReady != [], s.fb.irqPend ≠ 0, s.acc.irqAlarm]

/-- Groups 0x1000 and 0x1100. -/
def State.viewId (s : State) (base sub : Nat) : Option Nat :=
  let r := s.nor.slot s.nor.running
  match base, sub with
  | 0x1000, 0x01 => some (0x0192 + Config.siliconRevision.toNat * 2 ^ 16)
  | 0x1000, 0x02 => some Config.serial.toNat
  | 0x1000, 0x05 => some r.fwVersion
  | 0x1000, 0x06 => some s.nor.running
  | 0x1000, 0x07 => some r.safeFw
  | 0x1000, 0x08 => some Config.romVersion.toNat
  | 0x1000, 0x09 => some 0x0101
  | 0x1000, 0x0A => some 1
  | 0x1000, 0x0B => some Config.odMapVersion.toNat
  | 0x1000, 0x0C => some (leNat s.cfgDigest)
  | 0x1000, 0x0D => some ((s.now - s.pwr.resetAt) / secs 1)
  | 0x1100, 0x08 => some s.acc.ethLink
  | 0x1100, 0x0D => some s.acc.canSt
  | 0x1100, 0x0F => some s.spiPend
  | 0x1100, 0x11 => some (packs 4 (s.acc.counts.flatMap fun c => [c.1, c.2]))
  | 0x1100, 0x12 => some s.acc.drops
  | 0x1100, 0x15 => some s.acc.trDrops
  | _, _ => none

/-- The unit code of a measured channel: MD_UNIT, SAR_UNIT, or °C of a die sensor (R137). -/
def State.chanUnit (s : State) (ch : Nat) : Nat :=
  if ch < 96 then s.rd (Od.MD_UNIT ch) else if ch < 112 then s.rd (Od.SAR_UNIT (ch - 96)) else 5

/-- TR_TYPE: type code and unit of the source that TR_BIND names (R470). -/
def State.trType (s : State) (sig : Nat) : Nat :=
  let b := s.rd (Od.TR_BIND sig)
  match bits b 31 28 with
  | 1 => match Od.find (bits b 23 8) (bits b 7 0) with
    | some r => r.ty.code + r.unit * 2 ^ 16
    | none => 2 * b2n (bits b 7 0 = 0)
  | 2 => 10
  | 3 => 10 + s.chanUnit (s.rd (Od.TRG_CHAN (bits b 6 0))) * 2 ^ 16
  | 4 => 10
  | _ => 0

/-- The trace record of a signal. -/
def State.trace (s : State) (sig : Nat) : Option Trace := s.acc.traces.find? fun t => t.sig = sig

/-- Group 0x8000+s. -/
def State.viewTrace (s : State) (sig sub : Nat) : Option Nat :=
  match sub with
  | 0x00 => some (((s.trace sig).map (·.value)).getD 0)
  | 0x01 => some (s.trType sig)
  | 0x02 => some (timeCode (((s.trace sig).map (·.time)).getD 0))
  | _ => none

/-! ### Clocks (19), power (20), stores (21), test (22) -/

/-- Group 0x1A00. -/
def State.viewClk (s : State) (sub : Nat) : Option Nat :=
  let c := s.clk
  match sub with
  | 0x01 => some s.clkStatus
  | 0x09 => some (packs 1 [c.active.n, c.active.pwm, c.active.core, c.active.loop, c.active.safe, c.active.meas])
  | 0x0B => some c.applySt.code
  | 0x0C => some c.relocks
  | 0x0D => some c.relockLast
  | 0x0E => some (packs 4 c.freq)
  | 0x0F => some c.guardCount
  | 0x10 => some (ofSigned 16 c.phaseErr)
  | 0x11 => some (packs 4 [c.unlocksSys, c.unlocksLink])
  | 0x12 => some (ofSigned 64 c.pwmSteps)
  | _ => none

/-- Group 0x1900. Bits 0 to 2 of PWR_REQ read 1. -/
def State.viewPwr (s : State) (sub : Nat) : Option Nat :=
  let p := s.pwr
  match sub with
  | 0x01 => some s.pwrState
  | 0x02 => some (s.rd Od.PWR_REQ ||| 7)
  | 0x03 => some p.reqRefused
  | 0x04 => some (leNat s.ret.wakeLast.bytes)
  | 0x05 => some p.wakes
  | 0x06 => some s.ret.rstCause
  | 0x07 => some (packs 4 s.ret.rstCounts)
  | 0x08 => some s.rstFlags
  | 0x0E => some p.stage.code
  | 0x0F => some p.bootTime
  | 0x10 => some p.supply
  | 0x12 => some ((s.now - p.coldAt) / secs 1)
  | 0x13 => some p.incomplete
  | _ => none

/-- One record of CFG_BANKS. -/
def bankInfo (b : Option Bank) : List Byte :=
  match b with
  | some b => leBytes 4 b.seq ++ leBytes 4 b.body.length ++ leBytes 1 (b2n b.valid) ++ List.replicate 7 0
  | none => List.replicate 16 0

/-- One record of FW_SLOTS. -/
def Stores.slotInfo (n : Stores) (i : Nat) : List Byte :=
  let x := n.slot i
  leBytes 4 x.seq ++ leBytes 4 x.fwVersion ++ leBytes 4 x.rollback ++
    leBytes 1 (packBits [x.written, x.tried, x.confirmed, n.fwValid i]) ++ List.replicate 3 0

/-- Groups 0x1B00, 0x1B20 and 0x1B40. -/
def State.viewStore (s : State) (base sub : Nat) : Option Nat :=
  let n := s.nor
  match base, sub with
  | 0x1B00, 0x01 => some n.active
  | 0x1B00, 0x02 => some ((n.activeBank.map (·.seq)).getD 0)
  | 0x1B00, 0x04 => some n.cfgSt.code
  | 0x1B00, 0x06 => some (b2n s.cfgDirty)
  | 0x1B00, 0x07 => some n.commits
  | 0x1B00, 0x08 => some n.skipped
  | 0x1B00, 0x09 => some (leNat (bankInfo n.bankA ++ bankInfo n.bankB))
  | 0x1B00, 0x12 => some n.fwSt.code
  | 0x1B00, 0x13 => some (leNat (n.slotInfo 0 ++ n.slotInfo 1))
  | 0x1B00, 0x14 => some n.fallbacks
  | 0x1B00, 0x18 => some Config.norSize
  | 0x1B00, 0x19 => some n.norErrors
  | 0x1B00, 0x1A => some (Config.evtFree n.events.length)
  | 0x1B20, 0x01 => some s.celState
  | 0x1B20, 0x03 => some n.celSt.code
  | 0x1B20, 0x09 => some (leNat ((s.selDump.map Dump.info).getD []))
  | 0x1B20, 0x0D => some n.upDone
  | 0x1B20, 0x0E => some n.logDrops
  | 0x1B20, 0x10 => some (min 1000 s.wear)
  | 0x1B20, 0x11 => some n.badBlocks
  | 0x1B40, 0x01 => some s.secState
  | 0x1B40, 0x02 => some n.fuses.fwRb
  | 0x1B40, 0x03 => some n.fuses.ownRb
  | 0x1B40, 0x06 => some n.fuseSt.code
  | 0x1B40, 0x08 => some 0
  | 0x1B40, 0x09 => some (leNat (Config.idPubkey.take 57))
  | 0x1B40, 0x0A => some (leNat (Config.idCert.take 114))
  | 0x1B40, 0x0C => some (leNat (n.fuses.ownerKey0 ++ n.fuses.ownerKey1))
  | 0x1B40, 0x0D => some (leNat (Config.vendorKeyHash.take 32))
  | 0x1B40, 0x0E => some n.sigFails
  | _, _ => none

/-- Group 0x1C00. -/
def State.viewBist (s : State) (sub : Nat) : Option Nat :=
  let b := s.bist
  match sub with
  | 0x03 => some b.st.code
  | 0x04 => some b.sig
  | 0x05 => some s.bistGolden
  | 0x06 => some b.failAddr
  | 0x07 => some b.time
  | 0x08 => some s.bistIdle
  | 0x09 => some b.runs
  | 0x0A => some b.fails
  | 0x0C => some b.held
  | _ => none

/-! ### All entries -/

/-- The number an entry shows where it is not its stored value. -/
def State.viewNum (s : State) (r : OdRow) (idx sub : Nat) : Option Nat :=
  let n := idx - r.base
  match r.base with
  | 0x2000 => s.viewDevice sub
  | 0x2100 => s.viewSlot n sub
  | 0x2200 => s.viewLeg n sub
  | 0x2300 => s.viewCar n sub
  | 0x2800 => s.viewMd n sub
  | 0x2900 => s.viewSar n sub
  | 0x2A00 | 0x2A20 | 0x2A40 | 0x2A80 => s.viewMeas r.base n sub
  | 0x3000 => s.viewLs n sub
  | 0x3080 | 0x3100 => s.viewEngine r.base sub
  | 0x3180 => s.viewRa n sub
  | 0x3200 | 0x3220 => s.viewString r.base n sub
  | 0x3400 | 0x3440 => s.viewLv r.base n sub r.dflt
  | 0x3500 => s.viewFb sub
  | 0x3600 | 0x3620 => s.viewTh r.base n sub
  | 0x1800 => s.viewFlt sub
  | 0x3800 | 0x3810 | 0x3820 => s.viewSf r.base n sub
  | 0x1280 => s.viewLane n sub
  | 0x1200 | 0x1210 | 0x1220 | 0x1230 => s.viewRing r.base n sub
  | 0x1300 | 0x1310 | 0x1320 | 0x1340 | 0x1380 => s.viewTime r.base n sub
  | 0x1400 => s.viewMgr sub
  | 0x1000 | 0x1100 => s.viewId r.base sub
  | 0x8000 => s.viewTrace n sub
  | 0x1A00 => s.viewClk sub
  | 0x1900 => s.viewPwr sub
  | 0x1B00 | 0x1B20 | 0x1B40 => s.viewStore r.base sub
  | 0x1C00 => s.viewBist sub
  | _ => none

/-- The bytes of ASCII text. -/
def asciiBytes (t : String) : List Byte := t.toList.map fun c => BitVec.ofNat 8 c.toNat

/-- The bytes an entry of varying length shows; a WO entry none (R448). -/
def State.viewVar (s : State) (r : OdRow) (idx sub : Nat) : List Byte :=
  if r.acc = .wo then []
  else match r.base, r.sub with
    | 0x1000, 0x03 => asciiBytes "Phileotte Microsystems"
    | 0x1000, 0x04 => asciiBytes "Nynel N192"
    | 0x1800, 0x0C => s.fltActive
    | 0x1230, 0x04 => s.almRead
    | 0x1B00, 0x05 => (s.nor.activeBank.map (·.body)).getD []
    | 0x1B20, 0x0B => s.celRead
    | 0x1C00, 0x0B => s.bist.log.flatMap BistRec.bytes
    | 0x3000, 0x03 => ((s.ls (idx - 0x3000)).prog.map (·.image)).getD []
    | 0x3000, 0x23 => (s.ls (idx - 0x3000)).other.flatMap (leBytes 4)
    | 0x3000, 0x28 => (s.ls (idx - 0x3000)).bank.flatMap (leBytes 4)
    | 0x3800, 0x09 => []
    | _, _ => r.bytes (s.rd (r.reg idx sub))

/-- The size of an entry that is not of varying length: a trace value has the size of its source. -/
def State.sizeOf (s : State) (r : OdRow) (idx sub : Nat) : Nat :=
  if r.base = 0x8000 && sub = 0 then match s.trType (idx - 0x8000) % 256 with
    | 0 => 8
    | 1 | 2 | 6 => 1
    | 3 | 7 => 2
    | 4 | 8 | 10 => 4
    | 12 => 14
    | _ => 8
  else r.size

/-- The value of an entry as a read shows it (R447, R448). FLT_CFG shows the allowed mask in [63:48] (R307); a SAFE entry
shows the pending set while a session is open (R328). -/
def State.value (s : State) (r : OdRow) (idx sub : Nat) : List Byte :=
  if r.var then s.viewVar r idx sub
  else if r.acc = .wo then List.replicate r.size 0
  else
    let g := r.reg idx sub
    let v := match s.viewNum r idx sub with
      | some v => v
      | none =>
        if r.isFltCfg then s.rd g + r.dflt / 2 ^ 48 * 2 ^ 48
        else if r.acc = .safe then s.safeVal g
        else s.rd g
    leBytes (s.sizeOf r idx sub) v

/-- Sub 0x00 below index 0x8000: the highest sub any table defines for the index; none for an index not in use (R446). -/
def Od.highest (idx : Nat) : Option Nat :=
  if 0x1821 ≤ idx && idx ≤ 0x1833 then
    ((Flt.sources.filter fun r => r.code / 256 = idx - 0x1820).map (·.code % 256)).foldl (fun a n => match a with
      | none => some n
      | some m => some (max m n)) none
  else
    ((Od.rows.filter fun r => decide (r.base ≤ idx) && decide (idx < r.base + r.count)).map fun r => r.sub + r.nsub - 1).foldl
      (fun a n => match a with
        | none => some n
        | some m => some (max m n)) none

/-- The row of sub 0x00 (R446). -/
def Od.countRow (idx high : Nat) : OdRow :=
  ⟨idx, 1, 0, 1, "HIGHEST_SUB", .u8, .const, high, .any, 0, 0, 0, false, 1, false⟩

/-- The row of an entry, or the abort code of order 2 of R462. -/
def Od.lookup (idx sub : Nat) : Except Nat OdRow :=
  if sub = 0 && idx < 0x8000 then match Od.highest idx with
    | some h => .ok (Od.countRow idx h)
    | none => .error abNoIndex
  else match Od.find idx sub with
    | some r => .ok r
    | none => .error (if (Od.highest idx).isNone then abNoIndex else abNoSub)

/-- The value of sub 0x00 or of an entry. -/
def State.entryValue (s : State) (r : OdRow) (idx sub : Nat) : List Byte :=
  if sub = 0 && idx < 0x8000 then leBytes 1 r.dflt else s.value r idx sub

end Sys2Proof.Machine
end

