-- ==== Sys2Proof/Machine/Write.lean ====
section
/-! DEFINITION. What a write of each entry does (the group tables of 02 to 22), after the checks of R448 and R462 that
every entry shares. An entry not named takes the value. -/

namespace Sys2Proof.Machine

/-- The rest of the checks and the effect of one write: the state after it and the abort code, 0 for success. A refused
write leaves what its owner says. -/
abbrev Done := State × Nat

/-- The owner's answer as a state and an abort code. -/
def State.done (s : State) (r : Own) : Done :=
  match r with
  | .ok s' => (s', 0)
  | .error a => (s, a)

/-- A command entry whose status shows a refusal; a refusal as busy leaves the status of the command in progress. -/
def State.doneCmd (s : State) (r : Own) (refuse : State → State) : Done :=
  match r with
  | .ok s' => (s', 0)
  | .error a => (if a = abBusy then s else refuse s, a)

/-- The answer to an image or a fuse argument: a signature that does not verify is counted (R522). -/
def countSig (a : Done) : Done := if a.2 = abSignature then (a.1.sigFail, a.2) else a

/-! ### Cell slots, legs, carriers (02, 03, 04) -/

/-- Groups 0x2000 and 0x2100+C. -/
def State.writeSlot (s : State) (base c sub : Nat) (r : Reg) (v : Nat) : Done :=
  match base, sub with
  | 0x2000, 0x04 => (s.allStop, 0)
  | 0x2100, 0x01 => s.done (s.ownTemplate c v)
  | 0x2100, 0x03 => s.ownSlotCmd c v
  | 0x2100, 0x06 | 0x2100, 0x0C | 0x2100, 0x0D | 0x2100, 0x0E => s.done (s.ownSlotTime c r v)
  | 0x2100, 0x08 | 0x2100, 0x09 | 0x2100, 0x0A => s.done (s.ownSlotString c r v)
  | _, _ =>
    if base = 0x2100 && 0x10 ≤ sub && sub < 0x18 then s.done (s.ownUnitLoop c (sub - 0x10) v)
    else if base = 0x2100 && 0x18 ≤ sub && sub < 0x20 then s.done (s.ownUnitLv c (sub - 0x18) v)
    else if base = 0x2100 && 0x20 ≤ sub then s.done (s.ownUnitFn c (sub - 0x20) v)
    else (s.wr r v, 0)

/-- Group 0x2200+L. -/
def State.writeLeg (s : State) (l sub : Nat) (r : Reg) (v : Nat) : Done :=
  match sub with
  | 0x07 => s.done (s.ownBlank l v)
  | 0x0B => s.done (s.ownGgClr l v)
  | 0x10 | 0x15 => s.done (s.ownLegCfg l r v)
  | 0x11 => s.done (s.ownDuty l v)
  | 0x12 => s.done (s.ownPhase l v)
  | 0x16 => s.done (s.ownForce l v)
  | 0x1A => s.done (s.ownPklSrc l v)
  | 0x1E => s.done (s.ownLegClr l v)
  | _ => if sub ≤ 6 then s.done (s.ownDt l r v) else (s.wr r v, 0)

/-- CAR_PERIOD: held by a string that is not STOPPED (R216); refused where a pipe would fail the test of R171. -/
def State.ownPeriod (s : State) (k v : Nat) : Own :=
  if (s.carString k).isSome then .error abState
  else
    let s' := s.stagePeriod k v
    if s'.stillAdmits (s'.slotsOnCar k) then .ok s' else .error abState

/-- Group 0x2300+K. -/
def State.writeCar (s : State) (k sub : Nat) (r : Reg) (v : Nat) : Done :=
  match sub with
  | 0x01 => s.done (s.ownPeriod k v)
  | 0x03 | 0x04 => s.done (s.ownCarCfg k r v)
  | 0x05 => s.done (s.ownCommit k v)
  | 0x08 => s.done (s.ownCarRun k v)
  | _ => (s.wr r v, 0)

/-! ### Measurement (05) -/

/-- Groups 0x2800+M and 0x2900+A. -/
def State.writeInput (s : State) (base n sub : Nat) (r : Reg) (v : Nat) : Done :=
  match base, sub with
  | 0x2800, 0x01 | 0x2800, 0x02 | 0x2800, 0x03 | 0x2800, 0x0D => s.done (s.ownMd n r v)
  | 0x2800, 0x07 | 0x2800, 0x08 | 0x2800, 0x0A | 0x2800, 0x0B => s.done (s.ownThr n r true v)
  | 0x2800, 0x09 | 0x2800, 0x0C => s.done (s.ownThr n r false v)
  | 0x2800, 0x10 => s.done (s.ownMdClr n v)
  | 0x2900, 0x05 => s.done (s.ownSarClr n v)
  | 0x2900, 0x10 => s.done (s.ownCmpCtrl n v)
  | 0x2900, 0x11 | 0x2900, 0x12 | 0x2900, 0x13 | 0x2900, 0x14 | 0x2900, 0x15 => s.done (s.ownCmpThr n r v)
  | 0x2900, 0x18 => s.done (s.ownCmpClr n v)
  | _, _ => (s.wr r v, 0)

/-- Groups 0x2A00, 0x2A20+S, 0x2A40+QG and 0x2A80+TE. -/
def State.writeMeas (s : State) (base n sub : Nat) (r : Reg) (v : Nat) : Done :=
  match base, sub with
  | 0x2A00, 0x08 => s.done (s.ownMclk v)
  | 0x2A00, 0x09 => (s.qClr, 0)
  | 0x2A20, 0x01 => s.done (s.ownSliceMode n v)
  | 0x2A20, 0x02 | 0x2A20, 0x03 => s.done (s.ownSliceEven n r v)
  | 0x2A20, 0x0A => s.done (s.ownSliceClr n)
  | 0x2A80, 0x01 => s.done (s.ownTrgSrc n v)
  | _, _ => if base = 0x2A80 then s.done (s.ownTrg n r v) else (s.wr r v, 0)

/-! ### Loop engine and run-ahead (06, 07) -/

/-- LS_COEF_ADDR: a word of the bank. -/
def State.ownCoefAddr (s : State) (n v : Nat) : Own :=
  if (s.ls n).swap then .error abBusy
  else if v < (s.ls n).bank.length then .ok (s.wr (Od.LS_COEF_ADDR n) v) else .error abRange

/-- Group 0x3000+LS. -/
def State.writeLs (s : State) (n sub : Nat) (r : Reg) (v : Nat) (d : List Byte) : Done :=
  match sub with
  | 0x02 => s.done (s.ownLsCmd n v)
  | 0x03 => countSig (s.done (s.ownLsProgram n d))
  | 0x05 => s.done (s.ownRelease n v)
  | 0x06 | 0x07 | 0x08 | 0x09 | 0x0A | 0x0C => s.done (s.ownLsCfg n r v)
  | 0x0B => s.done (s.ownInTimeout n v)
  | 0x12 => s.done (s.ownLsStatusClr n v)
  | 0x21 => s.done (s.ownSwap n)
  | 0x23 => s.done (s.ownCoefImage n d)
  | 0x24 => s.done (s.ownCoefAddr n v)
  | 0x25 => s.done (s.ownCoefWord n v)
  | 0x26 => s.done (s.ownDirect n v)
  | _ =>
    if 0x40 ≤ sub && sub < 0x50 then s.done (s.ownLsIn n (sub - 0x40) v)
    else if 0x50 ≤ sub && sub < 0x60 then s.done (s.ownInVal n (sub - 0x50) v)
    else (s.wr r v, 0)

/-- Group 0x3180+LS. -/
def State.writeRa (s : State) (n sub : Nat) (r : Reg) (v : Nat) : Done :=
  match sub with
  | 0x01 | 0x02 | 0x03 => s.done (s.ownRa n r v)
  | 0x07 => s.done (s.ownRaStatusClr n v)
  | _ => if 0x10 ≤ sub then s.done (s.ownRaPred n (sub % 8) r v) else (s.wr r v, 0)

/-! ### Strings, LV port, feedback, thermal unit (08 to 11) -/

/-- Groups 0x3220+ST and 0x3440+E. -/
def State.writeString (s : State) (i sub : Nat) (r : Reg) (v : Nat) : Done :=
  if sub = 0x03 then s.doneCmd (s.ownStrCmd i v) fun s => s.updStr i fun t => { t with cmdSt := .refused } else (s.wr r v, 0)
def State.writeLv (s : State) (e sub : Nat) (r : Reg) (v : Nat) : Done :=
  match sub with
  | 0x04 => s.ownLvCmd e v
  | 0x07 => s.done (s.ownLvClr e v)
  | _ => s.done (s.ownLv e r v)

/-- Group 0x3500. -/
def State.writeFb (s : State) (sub : Nat) (r : Reg) (v : Nat) : Done :=
  match sub with
  | 0x01 => s.done (s.ownFbCtrl v)
  | 0x0E => s.done (s.ownIrqClr v)
  | 0x10 => s.done (s.ownFbStatusClr v)
  | 0x11 => s.done (s.ownScCount v)
  | 0x18 => s.done (s.ownPlsCount v)
  | _ => (s.wr r v, 0)

/-- Groups 0x3600 and 0x3620+C. -/
def State.writeTh (s : State) (base c sub : Nat) (r : Reg) (v : Nat) : Done :=
  if base = 0x3620 then (if sub = 0x1D then s.done (s.ownSensorClr c) else s.done (s.ownTh c r v))
  else match sub with
  | 0x03 => s.done (s.ownDieShut v)
  | 0x07 => s.done (s.ownShutClr v)
  | 0x0A => s.done (s.ownThStatusClr v)
  | _ => (s.wr r v, 0)

/-! ### Faults, safety, lanes, ring (12 to 15) -/

/-- Group 0x1800. -/
def State.writeFlt (s : State) (sub : Nat) (r : Reg) (v : Nat) : Done :=
  match sub with
  | 0x07 => s.done (s.ownFirstClr v)
  | 0x08 => s.fltClr v
  | _ => (s.wr r v, 0)

/-- Groups 0x3800, 0x3810+c and 0x3820+p: the safety core's verdict (R310). -/
def State.writeSafe (s : State) (base sub : Nat) (r : Reg) (v : Nat) (d : List Byte) : Done :=
  match base, sub with
  | 0x3800, 0x02 => s.done (s.ownSignoff v)
  | 0x3800, 0x05 => s.done (s.ownSfConfirm v)
  | 0x3800, 0x09 => countSig (s.done (s.ownSfImage d))
  | 0x3800, 0x14 => s.done (s.ownStoAck v)
  | _, _ => s.done (s.ownSafeParam r v)

/-- Group 0x1280+n. -/
def State.writeLane (s : State) (n sub v : Nat) : Done :=
  match sub with
  | 0x01 => s.done (s.ownLaneCtrl n v)
  | 0x04 => s.done (s.ownLaneClr n v)
  | _ => (s.laneCntClr n, 0)

/-- Groups 0x1200, 0x1210+t, 0x1220 and 0x1230. RING_ID_TABLE holds whole records. -/
def State.writeRing (s : State) (base sub : Nat) (r : Reg) (v : Nat) (d : List Byte) : Done :=
  match base, sub with
  | 0x1200, 0x03 => s.done s.ownRingCmd
  | 0x1200, 0x10 => s.done (s.ownTcRate Od.RING_TC2_RATE s.ring.rate2 v)
  | 0x1200, 0x11 => s.done (s.ownTcRate Od.RING_TC3_RATE s.ring.rate3 v)
  | 0x1200, 0x20 => if d.length % 10 = 0 then (s.wr r v, 0) else (s, abLength)
  | 0x1230, 0x05 => s.done (s.ownAlmAck v)
  | _, _ => (s.wr r v, 0)

/-! ### Time, managers, access paths, clocks, power, stores, test (16 to 22) -/

/-- TM_PPS_IN_CTRL: an input that is not enabled gives no source (R408). -/
def State.ownPpsIn (s : State) (v : Nat) : Own :=
  let s := s.wr Od.TM_PPS_IN_CTRL v
  .ok (if v.testBit 0 then s else s.updTb fun t => { t with ppsUsable := false, ppsAt := none }).seeSource

/-- Groups 0x1300, 0x1310+n, 0x1320+d, 0x1340+b and 0x1380+n. -/
def State.writeTime (s : State) (base n sub : Nat) (r : Reg) (v : Nat) : Done :=
  match base, sub with
  | 0x1300, 0x03 => s.done (s.ownTmSrc v)
  | 0x1300, 0x0F => s.done (s.ownTmSet v)
  | 0x1300, 0x12 => s.done (s.ownPpsIn v)
  | 0x1300, 0x14 => s.done (s.ownTmClr v)
  | 0x1320, 0x01 | 0x1320, 0x02 => s.done (s.ownPtp n r v)
  | 0x1340, 0x01 | 0x1340, 0x02 => s.done (s.ownBellCfg n r v)
  | 0x1340, 0x03 => s.done (s.ownBellCmd n v)
  | 0x1380, 0x01 => s.done (s.ownTrigMode n v)
  | _, _ => (s.wr r v, 0)

/-- Group 0x1400. -/
def State.writeMgr (s : State) (sub : Nat) (r : Reg) (v : Nat) : Done :=
  match sub with
  | 0x0D => s.doneCmd (s.ownMgrCmd v) fun s => s.updMgr fun m => { m with cmdSt := .refused }
  | 0x14 => s.done (s.ownMgrClr v)
  | _ => (s.wr r v, 0)

/-- NET_CTRL: ETH_EN and CAN_EN request NET on (R475). -/
def State.ownNetCtrl (s : State) (v : Nat) : Own :=
  let s := s.wr Od.NET_CTRL v
  .ok (if bits v 1 0 ≠ 0 then s.wake domNet 1 0 else s)

/-- TR_BIND (R470): kinds above 4 and bits outside the selector are reserved; kind 1 names a scalar entry that is no trace
entry. The signal starts afresh. -/
def State.ownTrBind (s : State) (sig v : Nat) : Own :=
  let sel := v % 2 ^ 28
  let idx := bits v 23 8
  let ok : Bool := match bits v 31 28 with
    | 0 => sel = 0
    | 1 => decide (sel < 2 ^ 24) && decide (idx < 0x8000) && (match Od.lookup idx (bits v 7 0) with
      | .ok r => r.ty.scalar
      | .error _ => false)
    | 2 => decide (sel < 2 ^ 11 ∧ sel / 8 < 128)
    | 3 => decide (sel < 2 ^ 7)
    | 4 => decide (sel < 2 ^ 10)
    | _ => false
  if !ok then .error abReserved
  else
    let s := s.wr (Od.TR_BIND sig) v
    .ok { s with acc := { s.acc with traces := s.acc.traces.filter fun t => t.sig ≠ sig } }

/-- Groups 0x1A00 and 0x1900. The answer of PWR_REQ says whether a bit was refused (R497). -/
def State.writeClk (s : State) (sub : Nat) (r : Reg) (v : Nat) : Done :=
  match sub with
  | 0x02 => s.done (s.ownClkClr v)
  | 0x0A => s.doneCmd (s.ownClkApply v) fun s => s.updClk fun c => { c with applySt := .refused }
  | _ => (s.wr r v, 0)
def State.writePwr (s : State) (sub : Nat) (r : Reg) (v : Nat) : Done :=
  match sub with
  | 0x02 =>
    let a := s.pwrReq v
    (a.1, if a.2 then abState else 0)
  | 0x09 => s.done (s.ownRstFlagsClr v)
  | 0x0A => s.done s.rstCmd
  | 0x0B => s.done s.sleepCmd
  | 0x11 => s.done s.hostWdService
  | _ => (s.wr r v, 0)

/-- Groups 0x1B00, 0x1B20 and 0x1B40. -/
def State.writeStore (s : State) (base sub : Nat) (r : Reg) (v : Nat) (d : List Byte) : Done :=
  match base, sub with
  | 0x1B00, 0x03 => s.doneCmd s.cfgCommit fun s => s.updNor fun n => { n with cfgSt := .refused }
  | 0x1B00, 0x10 => countSig (s.done (s.ownFwImage d))
  | 0x1B00, 0x11 => s.doneCmd (if v = 1 then s.fwActivate else s.fwConfirm) fun s => s.updNor fun n => { n with fwSt := .refused }
  | 0x1B20, 0x0F => (s.seeWear (s.wr r v), 0)
  | 0x1B20, 0x02 => s.doneCmd (s.ownCelCmd v) fun s => s.updNor fun n => { n with celSt := .refused }
  | 0x1B40, 0x04 => countSig (s.doneCmd (s.fuseCmd v) fun s => s.updNor fun n => { n with fuseSt := .refused })
  | 0x1B40, 0x05 => (s.updNor fun n => { n with fuseArg := d }, 0)
  | 0x1B40, 0x07 => s.done (s.ownNonce d)
  | 0x1B40, 0x0B => countSig (s.done (s.ownDebug d))
  | _, _ => (s.wr r v, 0)

/-- Group 0x1C00. -/
def State.writeBist (s : State) (sub v : Nat) : Done :=
  if sub = 0x01 then s.done (if v = 1 then s.bistRun else .ok s.bistAbort) else s.done (s.ownBistTarget v)

/-! ### All entries -/

/-- The effect of a value on an entry other than CFG_IMAGE and CFG_CMD DEFAULTS once the shared checks have passed (order 9 and 10 of R462). -/
def State.writeOwned0 (s : State) (r : OdRow) (idx sub : Nat) (d : List Byte) : Done :=
  let n := idx - r.base
  let g := r.reg idx sub
  let v := if r.ty = .string then strCode d else leNat d
  match r.base with
  | 0x2000 | 0x2100 => s.writeSlot r.base n sub g v
  | 0x2200 => s.writeLeg n sub g v
  | 0x2300 => s.writeCar n sub g v
  | 0x2800 | 0x2900 => s.writeInput r.base n sub g v
  | 0x2A00 | 0x2A20 | 0x2A40 | 0x2A80 => s.writeMeas r.base n sub g v
  | 0x3000 => s.writeLs n sub g v d
  | 0x3180 => s.writeRa n sub g v
  | 0x3220 => s.writeString n sub g v
  | 0x3440 => s.writeLv n sub g v
  | 0x3500 => s.writeFb sub g v
  | 0x3600 | 0x3620 => s.writeTh r.base n sub g v
  | 0x1800 => s.writeFlt sub g v
  | 0x3800 | 0x3810 | 0x3820 => s.writeSafe r.base sub g v d
  | 0x1280 => s.writeLane n sub v
  | 0x1200 | 0x1210 | 0x1220 | 0x1230 => s.writeRing r.base sub g v d
  | 0x1300 | 0x1310 | 0x1320 | 0x1340 | 0x1380 => s.writeTime r.base n sub g v
  | 0x1400 => s.writeMgr sub g v
  | 0x1100 => if sub = 0x01 then s.done (s.ownNetCtrl v) else (s.wr g v, 0)
  | 0x8000 => if sub = 0x03 then s.done (s.ownTrBind n v) else (s.wr g v, 0)
  | 0x1A00 => s.writeClk sub g v
  | 0x1900 => s.writePwr sub g v
  | 0x1B00 | 0x1B20 | 0x1B40 => s.writeStore r.base sub g v d
  | 0x1C00 => s.writeBist sub v
  | _ =>
    if r.isFltCfg then match Flt.source ((idx - 0x1820) * 256 + sub) with
      | some src => s.done (s.ownFltCfg src v)
      | none => (s, abNoSub)
    else (s.wr g v, 0)

end Sys2Proof.Machine
end

