-- ==== Sys2Proof/Machine/BootOps.lean ====
section
/-! DEFINITION. Configuration restored and applied (R516 to R520), the stages of start-up (R509), and a write of any
entry. -/

namespace Sys2Proof.Machine

/-! ### Records applied (R519, R520) -/

/-- The groups whose restored values act as a write of the entry does: slots, legs, carriers, measurement, loop slots, LV
port, feedback, thermal unit, time base and traces. Every other group reads its entries where it starts. -/
def restoreActs (idx : Nat) : Bool :=
  [0x2100, 0x2200, 0x2300, 0x2800, 0x2900, 0x2A00, 0x2A20, 0x2A40, 0x2A80, 0x3000, 0x3180, 0x3220, 0x3440, 0x3500, 0x3600,
    0x3620, 0x1300, 0x1310, 0x1320, 0x1340, 0x1380, 0x8000].contains idx

/-- A value restored into its entry. Where the owner's rule would refuse it for a state or for another entry's value, the
entry takes the value alone. -/
def State.restoreVal (s : State) (idx sub : Nat) (v : List Byte) : State :=
  match Od.find idx sub with
  | some r =>
    let plain := s.wr (r.reg idx sub) (if r.ty = .string then strCode v else leNat v)
    if restoreActs r.base then
      match s.writeOwned0 r idx sub v with
      | (s', 0) => s'
      | _ => plain
    else plain
  | none => s

/-- One record restored at start-up, and whether it was taken. The SLEEP settings stand in the retention registers and
outlive a warm reset (R504). -/
def State.restoreRec (s : State) (warm : Bool) (rec : Nat × Nat × Nat × List Byte) : State × Bool :=
  let (idx, sub, typ, v) := rec
  if idx = 0x3800 && sub = 6 && v.length = 4 then (s.updSf fun x => { x with activeCrc := leNat v }, true)
  else if idx = 0x3800 && sub = 7 && v.length = 4 then (s.updSf fun x => { x with signoffs := leNat v }, true)
  else if idx = 0x3800 && sub = 8 && v.length = 14 then (s.updSf fun x => { x with signoffTime := timeOf (leNat v) }, true)
  else if 0x3000 ≤ idx && idx < 0x3080 && sub = 3 then
    match s.ownLsProgram (idx - 0x3000) v with
    | .ok s => (s, true)
    | .error _ => (s, false)
  else if warm && idx = 0x1900 && (sub = 0x0C || sub = 0x0D) then (s, true)
  else if recordOk true idx sub typ v then (s.restoreVal idx sub v, true)
  else (s, false)

/-- Stage CONFIG: the valid bank with the newer SEQ is restored, bank A on a tie (R518, R519). -/
def State.restoreConfig (s : State) (warm : Bool) : State :=
  let n := s.nor
  let ok (i : Nat) := match n.bank i with
    | some b => b.valid
    | none => false
  let bad (i : Nat) := !ok i
  let s := s.each ([0, 1].filter bad) fun s i => s.raise Flt.CFG_BANK_BAD i
  let seqOf (i : Nat) := match n.bank i with
    | some b => b.seq
    | none => 0
  let newerB := seqOf 0 ≠ seqOf 1 && decide ((seqOf 1 + 2 ^ 32 - seqOf 0) % 2 ^ 32 < 2 ^ 31)
  let pick := if ok 0 && ok 1 then some (if newerB then 1 else 0) else if ok 0 then some 0 else if ok 1 then some 1 else none
  match pick with
  | none => (s.updNor fun n => { n with active := 0 }).raise Flt.CFG_NONE 0
  | some i =>
    let s := s.updNor fun n => { n with active := i + 1 }
    let body := match n.bank i with
      | some b => b.body
      | none => []
    match parseRecords body.length body with
    | none => s
    | some rs =>
      let (s, skipped) := rs.foldl (fun (a : State × Nat) rec =>
        let (s, took) := a.1.restoreRec warm rec
        (s, if took then a.2 else a.2 + 1)) (s, 0)
      let s := s.updNor fun n => { n with skipped := skipped }
      if skipped > 0 then s.raise Flt.CFG_RECORD 0 else s

/-- CFG_IMAGE (R520). -/
def State.ownCfgImage (s : State) (img : List Byte) : Own :=
  if s.nor.commit.isSome then .error abBusy
  else if s.legsEnabled ≠ 0 then .error abState
  else if !s.sigOk img kindCfg [] then .error abSignature
  else match parseRecords (imgBody img).length (imgBody img) with
    | none => .error abImage
    | some rs =>
      let prog (r : Nat × Nat × Nat × List Byte) := decide (0x3000 ≤ r.1) && decide (r.1 < 0x3080) && r.2.1 = 3
      let progOk (r : Nat × Nat × Nat × List Byte) := match s.ownLsProgram (r.1 - 0x3000) r.2.2.2 with
        | .ok _ => true
        | .error _ => false
      if rs.all fun r => if prog r then progOk r else recordOk false r.1 r.2.1 r.2.2.1 r.2.2.2 then
        let s := rs.foldl (fun s r => (s.restoreRec false r).1) s
        s.askCommit false
      else .error abImage

/-- Every entry the dictionary holds goes back to its default, as a write of the default does; the safety set stays the
safety core's (R539, log entry 211). -/
def State.loadDefaults (s : State) : State :=
  let s := (s.od.filter fun e => !isSafeKey e.1).foldl (fun s e => match Od.find (e.1 / 256) (e.1 % 256) with
    | some r => s.restoreVal (e.1 / 256) (e.1 % 256) (r.bytes (r.reg (e.1 / 256) (e.1 % 256)).dflt)
    | none => s) s
  { s with od := s.od.filter fun e => isSafeKey e.1 }

/-- CFG_CMD DEFAULTS (R539): it loads RWS entries too, which R8 allows only with every leg stopped. -/
def State.cfgDefaults (s : State) : Own :=
  if s.legsEnabled ≠ 0 then .error abLegs
  else .ok (s.loadDefaults.updNor fun n => { n with cfgSt := .done })

/-! ### Start-up (R509) -/

/-- Stage CONFIG ends: entries restored, the role taken, the safety set checked against its CRC (R327). -/
def State.endConfig (s : State) : State :=
  let s := s.restoreConfig (s.ret.rstCause % 2 = 0)
  let s := s.updRing fun r => { r with role := s.rd Od.ROLE }
  let stored := s.od.filter fun e => isSafeKey e.1
  let good := s.nor.active ≠ 0 && s.sf.activeCrc = safeCrc stored && s.sf.signoffs ≠ 0
  if good then (s.updSf fun x => { x with st := .run }).sdcStart.sfJudge
  else ((s.updSf fun x => { x with st := .noConfig }).raise Flt.SF_CONFIG 0).sfJudge

/-- Stage DOMAINS begins: what PWR_REQ names, LINK for an enabled lane, NET for ETH_EN or CAN_EN. -/
def State.bootDomains (s : State) : State :=
  let v := s.rd Od.PWR_REQ
  s.each [3, 4, 5, 6, 7, 8, 9] fun s d =>
    let want := v.testBit d || (d = 6 && (List.range 4).any s.laneOn) || (d = 7 && bits (s.rd Od.NET_CTRL) 1 0 ≠ 0)
    if want then s.wake d 5 0 else s

/-- A domain is still waking. -/
def State.waking (s : State) : Bool := s.pwr.doms.any fun d => match d with
  | .waking _ _ _ => true
  | _ => false

/-- BOOT_STAGE_DONE at t: the stage in progress ends. `bad` holds the retention words with wrong parity, as CARETAKER
finds them. CLOCKS waits for SYS_LOCK, and DOMAINS for the domains that wake. -/
def State.bootStage (s : State) (t bad : Nat) : State :=
  let goTo (s : State) (g : Stage) := s.updPwr fun p => { p with stage := g }
  match s.pwr.stage with
  | .caretaker => goTo ((s.at_ t).retLost bad) .clocks
  | .clocks => if s.clk.sysLock then goTo (s.at_ t) .rom else s
  | .rom =>
    let s := s.at_ t
    if Config.norSize ≠ 33554432 && Config.norSize ≠ 67108864 then goTo s .failed
    else match s.nor.bootSlot with
      | none => goTo s .failed
      | some i =>
        let s := (s.bootRom i).updNor fun n => { n with nand := Config.nandFitted }
        let s := if Config.nandFitted then s else s.raise Flt.CEL_ABSENT 0
        goTo ((s.logEvent logReset s.ret.rstCause).updPwr fun p => { p with
          hostWdAt := s.now, doms := (p.doms.set 1 .on).set 2 .on }) .firmware
  | .firmware => goTo (s.at_ t).rebuildShut .config
  | .config => (goTo (s.at_ t).endConfig .domains).bootDomains
  | .domains =>
    if s.waking then s
    else
      let s := goTo (s.at_ t) .ready
      let s := s.updPwr fun p => { p with bootTime := (s.now - p.resetAt) / 1000000 % 2 ^ 32 }
      if s.ring.role = 0 then s.mgrListen else s
  | .ready | .failed => s

/-! ### Writes -/

/-- The effect of a value on its entry once the shared checks have passed. -/
def State.writeOwned (s : State) (r : OdRow) (idx sub : Nat) (d : List Byte) : Done :=
  if r.base = 0x1B00 && sub = 0x05 then countSig (s.done (s.ownCfgImage d))
  else if r.base = 0x1B00 && sub = 0x03 && leNat d = 2 then
    s.doneCmd s.cfgDefaults fun s => s.updNor fun n => { n with cfgSt := .refused }
  else s.writeOwned0 r idx sub d

/-- A segmented transfer is open on an entry. -/
def State.segOpen (s : State) (idx sub : Nat) : Option SegXfer := s.acc.segs.find? fun x => x.idx = idx && x.sub = sub

/-- The checks of order 4 to 8 of R462, and the effect (R448). -/
def State.writeEntry (s : State) (r : OdRow) (idx sub : Nat) (d : List Byte) : Done :=
  if r.acc = .ro || r.acc = .const then (s, abAccess)
  else match r.check d with
    | 0 =>
      if r.acc = .rws && s.legsEnabled ≠ 0 then (s, abLegs)
      else if (s.segOpen idx sub).isSome then (s, abBusy)
      else if !r.divides (leNat d) then (s, abRange)
      else s.writeOwned r idx sub d
    | a => (s, a)

end Sys2Proof.Machine
end

