-- ==== Sys2Proof/Machine/AccessOps.lean ====
section
/-! DEFINITION. The access paths (18): requests served, stalled, forwarded or refused, responses, segmented transfers
and snapshots, the host SPI port, and the copies of trace signals. -/

namespace Sys2Proof
namespace Machine

/-! ### Paths -/

/-- Number of a path in OD_COUNTS and OD_FRAME_BAD; its master ID (R13, R468); its data limit (R463 to R467). -/
def pathNo : Path → Nat
  | .eth => 0 | .can => 1 | .spi => 2 | .ring => 3
def pathLimit : Path → Nat
  | .can => 48 | _ => 1024

def State.updAcc (s : State) (f : Access → Access) : State := { s with acc := f s.acc }

/-- Requests reach the host cluster over the path: HOST runs, and the path is enabled, powered and not bus-off. -/
def State.pathOpen (s : State) (p : Path) : Bool :=
  s.runs && s.domOn 1 && match p with
    | .eth => s.domOn domNet && (s.rd Od.NET_CTRL).testBit 0
    | .can => s.domOn domNet && (s.rd Od.NET_CTRL).testBit 1 && s.acc.canSt ≠ 2
    | .spi => (s.rd Od.NET_CTRL).testBit 2
    | .ring => true

/-- The domain that holds the entries of an index (log entry 103): 1 for those of HOST, 2 for those of SAFE. -/
def domainOf (idx sub : Nat) : Nat :=
  if 0x2000 ≤ idx && idx < 0x2400 then domLegs
  else if (0x3200 ≤ idx && idx < 0x3240) || (0x3400 ≤ idx && idx < 0x3480) then domLegs
  else if 0x2900 ≤ idx && idx < 0x2910 && 0x10 ≤ sub then domFeed
  else if 0x2800 ≤ idx && idx < 0x2B00 then domMeas
  else if 0x3000 ≤ idx && idx < 0x3200 then domLoop
  else if 0x3600 ≤ idx && idx < 0x3640 then domLoop
  else if 0x3500 = idx then domFeed
  else if (0x1200 ≤ idx && idx < 0x1230) || (0x1280 ≤ idx && idx < 0x1284) then domLink
  else if 0x1320 ≤ idx && idx < 0x1322 then domNet
  else if idx = 0x1B00 || idx = 0x1B20 then domStore
  else if 0x3800 ≤ idx && idx < 0x3830 then 2
  else 1

/-! ### Responses (R455) -/

/-- A response: header fields and data. -/
structure Resp where
  typ : Nat := 0
  total : Nat := 0
  abort : Nat := 0
  data : List Byte := []
  deriving DecidableEq, Repr

/-- A refusal. -/
def Resp.refuse (a : Nat) : Resp := { abort := a }

/-- The bytes of a response of node `node`. -/
def Resp.bytes (r : Resp) (op tag node idx sub : Nat) : List Byte :=
  leBytes 1 (op + 0x80) ++ leBytes 1 tag ++ leBytes 2 node ++ leBytes 2 idx ++ leBytes 1 sub ++ leBytes 1 r.typ ++
    leBytes 4 r.total ++ leBytes 2 r.data.length ++ leBytes 2 r.abort ++ r.data

end Machine

/-- The bytes of a request with a TAG, a node and a LEN. -/
def Msg.bytesAs (m : Msg) (tag len : Nat) : List Byte :=
  leBytes 1 m.op ++ leBytes 1 tag ++ leBytes 2 m.req.node ++ leBytes 2 m.idx ++ leBytes 1 m.sub ++
    leBytes 1 (b2n m.first + 2 * b2n m.last + 4 * b2n m.snap + m.req.proto * 16) ++ leBytes 4 m.offset ++ leBytes 2 len ++ leBytes 2 0 ++
    m.data

namespace Machine

/-- The message that the bytes of a request spell; none where they are no whole request. -/
def parseMsg (t : Nat) (path : Path) (who : Nat) (l : List Byte) : Option Msg :=
  let fl := leAt l 7 1
  let n := leAt l 12 2
  let op := leAt l 0 1
  let have_ := l.length - 16
  let wants := if op = 2 || op = 5 then n else 0
  if l.length < 16 || have_ < wants then none
  else some ⟨⟨t, path, who, leAt l 1 1, bits (leAt l 2 2) 9 0, (leAt l 2 2).testBit 15, fl / 16⟩, op, leAt l 4 2, leAt l 6 1,
    fl.testBit 0, fl.testBit 1, fl.testBit 2, leAt l 8 4, n, seg l 16 wants⟩

/-- A response goes out on the path of its request, from node `node`. -/
def State.answerFrom (s : State) (m : Msg) (node : Nat) (r : Resp) : State :=
  let q := m.req
  let s := s.updAcc fun a => { a with
    counts := a.counts.modify (pathNo q.path) fun c => (up32 c.1, if r.abort = 0 then c.2 else up32 c.2) }
  match q.path with
  | .spi => s.updAcc fun a => { a with spiReady := a.spiReady ++ [r.bytes m.op q.tag node m.idx m.sub] }
  | .ring => s.send 6 0 0 q.who (r.bytes m.op q.tag node m.idx m.sub)
  | _ => s.emit (.response q (m.op + 0x80) m.idx m.sub r.typ r.total r.abort r.data)

/-- The node ID that this device puts into NODE[9:0] of its responses. DESIGN CHOICE: 0x3FF while it has none (log entry 167). -/
def State.ownNode (s : State) : Nat := if s.ring.nodeId < 1024 then s.ring.nodeId else 0x3FF

/-- A response of this device. -/
def State.answer (s : State) (m : Msg) (r : Resp) : State := s.answerFrom m s.ownNode r

/-- A request that is discarded unanswered. -/
def State.dropReq (s : State) (p : Path) : State :=
  (s.updAcc fun a => { a with drops := up32 a.drops }).raise Flt.OD_FRAME_BAD (pathNo p)

/-! ### Reading (R456, R458, R459) -/

/-- The descriptor of an entry (R459). -/
def codePad (t : OdType) (v : Int) : List Byte :=
  fitTo 16 (leBytes (match t with
    | .bool | .u8 | .i8 => 1
    | .u16 | .i16 => 2
    | .u32 | .i32 | .f32 => 4
    | .time => 14
    | _ => 8) (v % (2 ^ 112 : Nat)).toNat)

/-- Least and greatest value of a type. -/
def OdType.least (t : OdType) : Int := if t.signed = 0 then 0 else -((2 ^ (t.signed - 1) : Nat) : Int)
def OdType.most (t : OdType) : Int := match t with
  | .bool => 1
  | .u8 => 0xFF | .u16 => 0xFFFF | .u32 => 0xFFFFFFFF | .u64 => 0xFFFFFFFFFFFFFFFF
  | .i8 => 0x7F | .i16 => 0x7FFF | .i32 => 0x7FFFFFFF | .i64 => 0x7FFFFFFFFFFFFFFF
  | .f32 => 0x7F7FFFFF | .f64 => 0x7FEFFFFFFFFFFFFF
  | _ => 0

/-- MIN and MAX of DESCRIBE: the numeric bounds of the Range column, and the type's own where it gives none (R445). -/
def OdRow.bounds (r : OdRow) : Int × Int :=
  let lo : Int := if r.ty = .f32 then 0xFF7FFFFF else if r.ty = .f64 then 0xFFEFFFFFFFFFFFFF else r.ty.least
  match r.rng with
  | .any => (lo, r.ty.most)
  | .int lo hi _ extra => match extra with
    | some x => (min lo x, max hi x)
    | none => (lo, hi)
  | .oneOf l => ((l.foldl min (l.headD 0) : Nat), (l.foldl max 0 : Nat))
  | .div lo hi _ => (lo, hi)
  | .flt lo hi _ => (lo, hi)
  | .owner lo hi => (lo, hi)

def OdRow.access (r : OdRow) : Nat := match r.acc with
  | .ro => 0 | .rw => 1 | .wo => 2 | .rws => 3 | .const => 4 | .safe => 5

def OdRow.describe (r : OdRow) (idx sub : Nat) : List Byte :=
  let d := (r.reg idx sub).dflt
  let numeric := decide (r.ty.code ≤ 11)
  leBytes 1 r.ty.code ++ leBytes 1 r.access ++ leBytes 2 r.unit ++ leBytes 1 (b2n r.persist) ++ leBytes 3 0 ++ leBytes 4 r.size ++
    fitTo 16 (if r.ty.scalar then codePad r.ty d else if r.ty = .string then strBytes d else leBytes (min 16 r.size) d) ++
    (if numeric then codePad r.ty r.bounds.1 else List.replicate 16 0) ++
    (if numeric then codePad r.ty r.bounds.2 else List.replicate 16 0) ++ fitTo 32 (asciiBytes r.name)

/-- A read of an entry: its value, and what the read itself changes. -/
def State.readEntry (s : State) (r : OdRow) (idx sub : Nat) : Except Nat (List Byte × State) :=
  match r.base, r.sub with
  | 0x1100, 0x0F => .ok (s.entryValue r idx sub, s.updAcc fun a => { a with irqAlarm := false })
  | 0x2A00, 0x04 => .ok s.popHost
  | 0x3000, 0x25 => .ok (s.entryValue r idx sub, s.bumpAddr (idx - 0x3000))
  | 0x1B40, 0x08 => s.attest
  | _, _ => .ok (s.entryValue r idx sub, s)

/-- The type code a response shows. -/
def State.typeOf (s : State) (r : OdRow) (idx sub : Nat) : Nat :=
  if r.base = 0x8000 && sub = 0 then (if s.trType (idx - 0x8000) % 256 = 0 then r.ty.code else s.trType (idx - 0x8000) % 256)
  else r.ty.code

/-- The part of a value that one response carries: from OFFSET, up to LEN and to the limit of the path. -/
def cut (v : List Byte) (offset len limit : Nat) : List Byte :=
  (v.drop offset).take (if len = 0 then limit else min len limit)

/-- READ: the whole value; of a LEN that is not 0 the first LEN bytes (log entry 105). -/
def State.doRead (s : State) (m : Msg) (r : OdRow) : State :=
  match s.readEntry r m.idx m.sub with
  | .error a => s.answer m (.refuse a)
  | .ok (v, s') =>
    let d := if m.len = 0 then v else v.take m.len
    if d.length > pathLimit m.req.path then s.answer m (.refuse abLength)
    else s'.answer m { typ := s.typeOf r m.idx m.sub, total := v.length, data := d }

end Machine

/-- Requester and entry of a request match those of a buffer or a transfer. -/
def Msg.owns (m : Msg) (path : Path) (who idx sub : Nat) : Bool :=
  path = m.req.path && who = m.req.who && idx = m.idx && sub = m.sub

namespace Machine

/-- READ_SEG of a value that is in a snapshot buffer. -/
def State.serveSnap (s : State) (m : Msg) (typ : Nat) (v : List Byte) : State :=
  let d := cut v m.offset m.len (pathLimit m.req.path)
  let ended := decide (v.length ≤ m.offset + d.length)
  let mine (x : Snapshot) := m.owns x.path x.who x.idx x.sub
  let s := s.updAcc fun a => { a with
    snaps := if ended then a.snaps.filter fun x => !mine x else a.snaps.map fun x => if mine x then { x with at_ := s.now } else x }
  s.answer m { typ := typ, total := v.length, data := d }

/-- READ_SEG (R458). -/
def State.doReadSeg (s : State) (m : Msg) (r : OdRow) : State :=
  let mine (x : Snapshot) := m.owns x.path x.who x.idx x.sub
  if m.snap && m.offset = 0 then
    let rest := s.acc.snaps.filter fun x => !mine x
    match s.readEntry r m.idx m.sub with
    | .error a => s.answer m (.refuse a)
    | .ok (v, s') =>
      if v.length > 65536 then s.answer m (.refuse abLength)
      else if rest.length ≥ 4 then s.answer m (.refuse abBusy)
      else
        let s := s'.updAcc fun a => { a with snaps := ⟨m.req.path, m.req.who, m.idx, m.sub, v, s'.now⟩ :: rest }
        s.serveSnap m (s.typeOf r m.idx m.sub) v
  else match s.acc.snaps.find? mine with
    | some x => s.serveSnap m (s.typeOf r m.idx m.sub) x.data
    | none => match s.readEntry r m.idx m.sub with
      | .error a => s.answer m (.refuse a)
      | .ok (v, s') =>
        s'.answer m { typ := s.typeOf r m.idx m.sub, total := v.length, data := cut v m.offset m.len (pathLimit m.req.path) }

/-- DESCRIBE, segmented as READ_SEG (R459). -/
def State.doDescribe (s : State) (m : Msg) (r : OdRow) : State :=
  let v := r.describe m.idx m.sub
  s.answer m { typ := 0x0D, total := v.length, data := cut v m.offset m.len (pathLimit m.req.path) }

/-! ### Writing (R448, R457) -/

/-- A write that has been carried out is answered; then a reset it completes takes place (R503). -/
def State.finish (a : Done) (m : Msg) (typ : Nat) : State :=
  (a.1.answer m (if a.2 = 0 then { typ := typ } else .refuse a.2)).settleReset

/-- WRITE. -/
def State.doWrite (s : State) (m : Msg) (r : OdRow) : State :=
  if r.acc ≠ .ro && r.acc ≠ .const && m.data.length > pathLimit m.req.path then s.answer m (.refuse abLength)
  else State.finish (s.writeEntry r m.idx m.sub m.data) m (s.typeOf r m.idx m.sub)

/-- The open transfer of an entry is closed. -/
def State.endSeg (s : State) (idx sub : Nat) : State := s.updAcc fun a => { a with segs := a.segs.filter fun x => !(x.idx = idx && x.sub = sub) }

/-- WRITE_SEG (R457). FW_IMAGE erases its slot at the first segment (R525). -/
def State.doWriteSeg (s : State) (m : Msg) (r : OdRow) : State :=
  let typ := s.typeOf r m.idx m.sub
  let own (x : SegXfer) := m.owns x.path x.who x.idx x.sub
  let put (s : State) (data : List Byte) : State :=
    let s := s.endSeg m.idx m.sub
    if m.last then State.finish (s.writeEntry r m.idx m.sub data) m typ
    else (s.updAcc fun a => { a with segs := ⟨m.req.path, m.req.who, m.idx, m.sub, data, s.now⟩ :: a.segs }).answer m { typ := typ }
  if r.acc = .ro || r.acc = .const then s.answer m (.refuse abAccess)
  else if m.data.length > pathLimit m.req.path then s.answer m (.refuse abLength)
  else match s.segOpen m.idx m.sub with
    | some x =>
      if !own x then s.answer m (.refuse (if m.first then abBusy else abOrder))
      else if m.first && m.offset = 0 then put s m.data
      else if m.first || m.offset ≠ x.data.length then (s.endSeg m.idx m.sub).answer m (.refuse abOrder)
      else put s (x.data ++ m.data)
    | none =>
      if !m.first || m.offset ≠ 0 then s.answer m (.refuse abOrder)
      else put (if r.base = 0x1B00 && m.sub = 0x10 then s.fwErase else s) m.data

/-- ABORT_SEG: refused where the requester has no transfer open on the entry (log entry 108). -/
def State.doAbort (s : State) (m : Msg) : State :=
  match s.segOpen m.idx m.sub with
  | some x => if m.owns x.path x.who x.idx x.sub then (s.endSeg m.idx m.sub).answer m {} else s.answer m (.refuse abState)
  | none => s.answer m (.refuse abState)

/-- HELLO (R460). -/
def State.doHello (s : State) (m : Msg) : State :=
  let n := s.nor
  let d := leBytes 2 0x0101 ++ leBytes 2 1 ++ leBytes 4 Config.odMapVersion.toNat ++ leBytes 4 (n.slot n.running).fwVersion ++
    leBytes 2 (pathLimit m.req.path) ++ leBytes 2 0
  s.answer m { typ := 0x0D, total := 16, data := d.take (if m.len = 0 then 16 else m.len) }

/-! ### Serving a request (R462, R469, R498) -/

/-- A request on an entry that exists and can be reached. -/
def State.serveAt (s : State) (m : Msg) (r : OdRow) : State :=
  match m.op with
  | 1 => s.doRead m r
  | 2 => s.doWrite m r
  | 3 => s.doDescribe m r
  | 4 => s.doReadSeg m r
  | 5 => s.doWriteSeg m r
  | _ => s.doAbort m

/-- A request of this device past order 1: its entry, its domain, its effect. A domain that is off wakes, and the access
waits; LINK does not wake, and a domain whose part failed its test stays off. -/
def State.serveHere (s : State) (m : Msg) : State :=
  if m.op = 7 then s.doHello m
  else match Od.lookup m.idx m.sub with
    | .error a => s.answer m (.refuse a)
    | .ok r =>
      let d := domainOf m.idx m.sub
      if s.domOn d then s.serveAt m r
      else if d = domLink || s.bist.held.testBit d then s.answer m (.refuse abDomain)
      else (s.accessWake d (pathMaster m.req.path)).updAcc fun a => { a with stalled := a.stalled ++ [(d, m)] }

/-- Requests of a path, and of one requester on it, that wait for an answer. -/
def State.outstanding (s : State) (p : Path) : Nat :=
  s.acc.stalled.countP (fun x => x.2.req.path = p) + s.acc.fwd.countP (fun f => f.msg.req.path = p) +
    if p = .spi then s.acc.spiReady.length else 0
def State.outstandingOf (s : State) (q : Req) : Nat :=
  s.acc.stalled.countP (fun x => x.2.req.path = q.path && x.2.req.who = q.who) +
    s.acc.fwd.countP fun f => f.msg.req.path = q.path && f.msg.req.who = q.who

/-- The queue of the path takes no further request (R463 to R465). -/
def State.queueFull (s : State) (q : Req) : Bool :=
  match q.path with
  | .eth => decide (s.outstandingOf q ≥ 8) || decide (s.outstanding .eth ≥ 64)
  | .can => decide (s.outstanding .can ≥ 4)
  | .spi => decide (s.outstanding .spi ≥ 16)
  | .ring => false

/-- The lowest TAG from `n` on that no forwarded request of this device holds. -/
def freeTag (used : List Nat) (n : Nat) : Nat :=
  (((List.range 256).map fun i => (n + i) % 256).find? fun t => !used.contains t).getD (n % 256)

/-- A request for another node goes on as a TYPE 0x05 frame (R467). -/
def State.forward (s : State) (m : Msg) : State :=
  if !s.ring.nodes.contains m.req.node then s.answer m (.refuse abNode)
  else if m.data.length > pathLimit m.req.path then s.answer m (.refuse abLength)
  else if s.acc.fwd.length ≥ 64 then s.answer m (.refuse abQueue)
  else
    let tag := freeTag (s.acc.fwd.map (·.ownTag)) s.acc.nextTag
    let most := pathLimit m.req.path
    let len := if (m.op = 3 || m.op = 4) && (m.len = 0 || m.len > most) then most else m.len
    let s := s.updAcc fun a => { a with fwd := a.fwd ++ [⟨tag, m, s.now⟩], nextTag := (tag + 1) % 256 }
    s.send 5 0 0 m.req.node (m.bytesAs tag len)

/-- A request that the host cluster takes (R449, R457, R462). A requester's later requests wait behind its stalled one. -/
def State.takeReq (s : State) (m : Msg) : State :=
  let q := m.req
  if q.proto ≠ 1 then s.answer m (.refuse abProto)
  else if m.op = 0 || m.op > 7 then s.answer m (.refuse abOp)
  else if s.queueFull q then s.answer m (.refuse abQueue)
  else if s.acc.timedOut.contains (q.path, q.who) then
    (s.updAcc fun a => { a with timedOut := a.timedOut.erase (q.path, q.who) }).answer m (.refuse abTimeout)
  else if m.op ≠ 7 && !q.isLocal && q.node ≠ s.ring.nodeId then s.forward m
  else match s.acc.stalled.find? fun x => x.2.req.path = q.path && x.2.req.who = q.who with
    | some x => s.updAcc fun a => { a with stalled := a.stalled ++ [(x.1, m)] }
    | none => s.serveHere m

/-- Stalled requests of the domains that are on are served, oldest first; then the switch-off that waited for them is
judged (R498, R510). -/
def State.serveStalled (s : State) : State :=
  let free := s.acc.stalled.filter fun x => s.domOn x.1
  let s := s.updAcc fun a => { a with stalled := a.stalled.filter fun x => !s.domOn x.1 }
  let s := s.each free fun s x => s.serveHere x.2
  let due := s.pwr.offAfter.filter fun d => !s.acc.stalled.any fun x => x.1 = d
  s.each due fun s d =>
    let s := s.updPwr fun p => { p with offAfter := p.offAfter.erase d }
    if s.pwr.doms.getD d .off ≠ .on then s
    else if s.offRefused d then s.updPwr fun p => { p with reqRefused := p.reqRefused ||| 2 ^ d }
    else (s.domainOff d).reqBit d false

/-- PLL_SYS out of lock ends a self-test run, whose units come back (R487, R549). -/
def State.clkSettle (s : State) : State := if s.clk.sysLock then s else s.bistAbort

/-- A request is taken; where it may have ended a self-test, the accesses that the test stalled are served (R549). -/
def State.takeAll (s : State) (m : Msg) : State :=
  let s := s.takeReq m
  if m.idx = 0x1C00 || m.idx = 0x1A00 then s.clkSettle.serveStalled else s

/-- A request arrives on its path. -/
def State.request (s : State) (m : Msg) : State :=
  if !s.pathOpen m.req.path then s
  else (s.upTo m.req.t).takeAll m

end Machine

/-- The request message of an operation that carries no more than its address. -/
def Req.msg (q : Req) (op idx sub : Nat) (d : List Byte) : Msg := ⟨q, op, idx, sub, false, false, false, 0, d.length, d⟩

namespace Machine

/-- A command that is a WRITE of one entry. -/
def State.writeCmd (s : State) (q : Req) (idx sub : Nat) (d : List Byte) : State := s.request (q.msg 2 idx sub d)

/-- A WRITE_SEG that opens and ends a transfer: how a whole DOMAIN value is written. -/
def State.writeWhole (s : State) (q : Req) (idx sub : Nat) (d : List Byte) : State :=
  if !s.pathOpen q.path then s
  else
    let s := s.upTo q.t
    let m := q.msg 5 idx sub d
    if q.proto ≠ 1 || (!q.isLocal && q.node ≠ s.ring.nodeId) || s.queueFull q || s.acc.timedOut.contains (q.path, q.who) ||
        (s.acc.stalled.any fun x => x.2.req.path = q.path && x.2.req.who = q.who) then
      s.takeReq { m with first := true, last := true }
    else match Od.lookup idx sub with
      | .ok r =>
        if !s.domOn (domainOf idx sub) then s.takeReq { m with first := true, last := true }
        else if (s.segOpen idx sub).isSome then s.answer m (.refuse abBusy)
        else
          let s := if r.base = 0x1B00 && sub = 0x10 then s.fwErase else s
          State.finish (s.writeEntry r idx sub d) m r.ty.code
      | .error a => s.answer m (.refuse a)

/-- A command that is a READ of one entry. -/
def State.readCmd (s : State) (q : Req) (idx sub : Nat) : State := s.request (q.msg 1 idx sub [])

/-- PWR_WAKE_TMO: the stalled requests of domain d are refused (R498). -/
def State.refuseStalled (s : State) (d : Nat) : State :=
  let out := s.acc.stalled.filter fun x => x.1 = d
  let s := s.updAcc fun a => { a with stalled := a.stalled.filter fun x => x.1 ≠ d }
  s.each out fun s x => s.answer x.2 (.refuse abDomain)

/-! ### Timers (R457, R458) -/

/-- SEGMENT_TIMEOUT: the transfer of an entry has had no segment for 10 s. -/
def State.segTimeout (s : State) (idx sub : Nat) : State :=
  match s.segOpen idx sub with
  | some x => ((s.at_ (x.at_ + secs 10)).endSeg idx sub).updAcc fun a => { a with timedOut := (x.path, x.who) :: a.timedOut.erase (x.path, x.who) }
  | none => s

/-- SNAPSHOT_RELEASE: 1 s after the last use of the least recently used buffer. -/
def State.snapRelease (s : State) : State :=
  let oldest := s.acc.snaps.foldl (fun a x => match a with
    | none => some x
    | some (y : Snapshot) => if x.at_ < y.at_ then some x else some y) none
  match oldest with
  | some x => (s.at_ (x.at_ + secs 1)).updAcc fun a => { a with snaps := a.snaps.erase x }
  | none => s

/-! ### Forwarded requests (R467) -/

/-- A TYPE 0x06 response of node `src` arrives. -/
def State.responseRx (s : State) (src : Nat) (p : List Byte) : State :=
  let tag := leAt p 1 1
  match s.acc.fwd.find? fun f => f.ownTag = tag && f.msg.req.node = src with
  | none => s
  | some f =>
    let s := s.updAcc fun a => { a with fwd := a.fwd.erase f }
    let n := leAt p 12 2
    if p.length < 16 + n then s.dropReq .ring
    else if n > pathLimit f.msg.req.path then s.answerFrom f.msg src (.refuse abLength)
    else s.answerFrom f.msg src { typ := leAt p 7 1, total := leAt p 8 4, abort := leAt p 14 2, data := seg p 16 n }

/-- OD_REMOTE_TMO: the oldest forwarded request has had no response. -/
def State.remoteTmo (s : State) : State :=
  match s.acc.fwd with
  | [] => s
  | f :: rest =>
    let s := s.at_ (f.sentAt + ms (s.rd Od.OD_REMOTE_TMO))
    let s := s.updAcc fun a => { a with fwd := rest }
    (s.answer f.msg (.refuse abRemote)).raiseBy Flt.OD_REMOTE_TMO f.msg.req.node 0 (Msg.access f.msg)

/-- A TYPE 0x05 request of node `src` arrives (R467, R468). -/
def State.requestRx (s : State) (src : Nat) (p : List Byte) : State :=
  match parseMsg s.now .ring src p with
  | some m => s.request m
  | none => if s.pathOpen .ring then s.dropReq .ring else s

/-! ### Host SPI port (R465, R466) -/

/-- The CRC-16 of a message, most significant byte first. -/
def crcBytes (l : List Byte) : List Byte := [BitVec.ofNat 8 (crc16 l / 256), BitVec.ofNat 8 (crc16 l)]

/-- WRITE_REQ: the bytes that followed the command; `whole` is false where SPI_CS_N cut the request short. -/
def State.spiWrite (s : State) (t : Nat) (l : List Byte) (whole : Bool) : State :=
  if !s.pathOpen .spi then s
  else
    let s := s.upTo t
    let body := l.take (l.length - 2)
    if !whole || l.drop (l.length - 2) ≠ crcBytes body then s.dropReq .spi
    else match parseMsg t .spi 0 body with
      | some m => s.takeAll m
      | none => s.dropReq .spi

/-- READ_RESP: the oldest ready response with its CRC, or 16 zero bytes; a transaction cut short leaves it ready (R472). -/
def State.spiRead (s : State) (t : Nat) (whole : Bool) : State :=
  if !s.pathOpen .spi then s
  else
    let s := s.upTo t
    match s.acc.spiReady with
    | [] => s.emit (.spi (List.replicate 16 0))
    | r :: rest => if whole then (s.updAcc fun a => { a with spiReady := rest }).emit (.spi (r ++ crcBytes r)) else s

/-- HOST_IRQ_N is asserted (R466). -/
def State.hostIrq (s : State) : Bool := s.spiPend &&& s.rd Od.SPI_IRQ_MASK ≠ 0

/-- READ_STATUS. -/
def State.spiStatus (s : State) (t : Nat) : State :=
  if !s.pathOpen .spi then s
  else
    let s := s.upTo t
    let n := (s.acc.spiReady.headD []).length
    s.emit (.spi (leBytes 4 (packBits [s.acc.spiReady != [], s.hostIrq, decide (s.outstanding .spi ≥ 16)] + n % 65536 * 65536)))

/-! ### CAN FD and Ethernet (R463, R464, R473) -/

/-- The controller goes bus-off, and restarts after 128 occurrences of 11 recessive bits. -/
def State.canBusOff (s : State) (t : Nat) : State :=
  if s.domOn domNet && (s.rd Od.NET_CTRL).testBit 1 && s.acc.canSt ≠ 2 then
    ((s.at_ t).updAcc fun a => { a with canSt := 2 }).raise Flt.CAN_BUS_OFF 0
  else s
def State.canRecover (s : State) (t : Nat) : State :=
  if s.acc.canSt = 2 then (s.at_ t).updAcc fun a => { a with canSt := 0 } else s

/-- The Ethernet link goes down, or comes up at a speed: 1 for 100 Mbit/s, 2 for 1,000 Mbit/s. -/
def State.ethDown (s : State) (t : Nat) : State :=
  if !s.domOn domNet || !s.acc.ethUp then s
  else
    let s := (s.at_ t).updAcc fun a => { a with ethUp := false, ethLink := 0 }
    if (s.rd Od.NET_CTRL).testBit 0 then s.raise Flt.ETH_LINK_DOWN 0 else s
def State.ethComesUp (s : State) (t speed : Nat) : State :=
  if s.domOn domNet then (s.at_ t).updAcc fun a => { a with ethUp := true, ethLink := 3 + 4 * speed } else s

/-- An ARP request, or an ICMP echo request, for an IPv4 address as its four bytes spell it. -/
def State.arpIcmp (s : State) (t : Nat) (icmp : Bool) (ip : BitVec 32) (who : Nat) : State :=
  if s.pathOpen .eth && ip.toNat = s.rd Od.ETH_IPV4 then (s.at_ t).emit (.net icmp who) else s

/-! ### Trace signals (R470) -/

/-- TR_PERIOD_COPY: signal `sig` copies its entry, TR_PERIOD of system time after its last copy (log entry 109). -/
def State.trCopy (s : State) (sig : Nat) : State :=
  let b := s.rd (Od.TR_BIND sig)
  if bits b 31 28 ≠ 1 then s
  else
    let s := match s.trace sig with
      | some x => s.upTo (s.localOf (x.time + sysUs (s.rd (Od.TR_PERIOD sig))))
      | none => s
    let idx := bits b 23 8
    let sub := bits b 7 0
    match Od.lookup idx sub with
    | .ok r => if s.domOn (domainOf idx sub) then s.traceSet sig r.ty.code (leNat (s.entryValue r idx sub)) s.sysNow else s
    | .error _ => s

end Machine
end Sys2Proof
end

