-- ==== Sys2Proof/Machine/RingRx.lean ====
section
/-! DEFINITION. Frames received (15): the checks of R366, stripping, taking, forwarding and copying, the comparison of
TC1 copies, what each TYPE does where it is taken, alarms at the manager and at a bridge; and what the device does at
every system cycle, at every cell-cycle boundary and when a lane starts a frame. -/

namespace Sys2Proof

/-- CRC-8 of the header and CRC-32 of the frame, IEEE 802.3 (R365). -/
def Frame.head (f : Frame) (tc : Nat) : List Byte :=
  leBytes 2 (f.dst % 1024 + f.scope % 4 * 2 ^ 10 + tc % 4 * 2 ^ 12 + f.rot % 2 * 2 ^ 14) ++ leBytes 2 (f.src % 1024) ++ leBytes 2 f.seq ++
    leBytes 1 f.typ ++ leBytes 1 (f.num % 16 + b2n f.unassigned * 128) ++ leBytes 2 f.payload.length ++ leBytes 1 f.hops

namespace Machine

/-- The bytes of a frame on a lane. -/
def wireBytes (f : Frame) : List Byte :=
  let h := f.head (typeClass f.typ)
  h ++ leBytes 1 (crc8 h) ++ f.payload ++ leBytes 4 (crc32 0xEDB88320 0xFFFFFFFF (h.take 10 ++ f.payload))

/-- What the header of received bytes shows: the frame and whether its FCS is right; none for a wrong HCRC, a reserved
field that is not 0, a LEN above 2,048, a reserved TYPE or a class that is not the type's (R366, R367). -/
def parseFrame (l : List Byte) : Option (Frame × Bool) :=
  let w := leAt l 0 2
  let x := leAt l 2 2
  let typ := leAt l 6 1
  let y := leAt l 7 1
  let z := leAt l 8 2
  let n := bits z 11 0
  let f : Frame := ⟨typ, bits y 3 0, bits x 9 0, bits w 9 0, bits w 11 10, leAt l 4 2, bits w 14 14, leAt l 10 1, y.testBit 7, seg l 12 n⟩
  if l.length < 12 || leAt l 11 1 ≠ crc8 (l.take 11) || w.testBit 15 || bits x 15 10 ≠ 0 || bits y 6 4 ≠ 0 || bits z 15 12 ≠ 0 ||
    n > 2048 || typ = 0 || typ > 0x0B || typeClass typ ≠ bits w 13 12
  then none
  else some (f, decide (l.length = 16 + n) && leAt l (12 + n) 4 = crc32 0xEDB88320 0xFFFFFFFF (l.take 10 ++ seg l 12 n))

/-! ### Alarm records taken (R386, R387) -/

/-- An alarm record from its 32 bytes (R304). -/
def alarmOf (l : List Byte) : Alarm :=
  ⟨leAt l 0 2, leAt l 2 2, leAt l 4 2, leAt l 6 2, leAt l 8 4, leAt l 12 8 * sysSec + leAt l 20 4 * 65536, leAt l 24 4, leAt l 28 4⟩
def alarmsOf (p : List Byte) : List Alarm := (List.range (p.length / 32)).map fun i => alarmOf (seg p (32 * i) 32)

/-- The active manager takes records of a sender in, at most 100,000 in a second of local time; the SEQ it acknowledges to
the sender is the highest one taken (log entry 111). -/
def State.almIntake (s : State) (src : Nat) (l : List Alarm) : State :=
  let sec := s.now / secs 1
  let used := if s.ring.almSec = sec then s.ring.almTaken else 0
  let take := l.take (100000 - used)
  let old := (s.ring.almAcks.find? fun a => a.1 = src).map (·.2)
  let top := take.foldl (fun m a => match m with
    | some q => some (if newer32 a.seq q then a.seq else q)
    | none => some a.seq) old
  s.updRing fun r => { r with
    almSec := sec, almTaken := used + take.length, almRxOvf := add32 r.almRxOvf (l.length - take.length)
    almAcks := match top with
      | some q => (src, q) :: r.almAcks.filter fun a => a.1 ≠ src
      | none => r.almAcks }

/-- Once per system cycle the active manager acknowledges what it has taken in, by a write of ALM_ACK at each sender; its own
records leave its own queue. -/
def State.almAcks (s : State) : State :=
  if !s.isSource then s
  else
    let acks := s.ring.almAcks
    let s := s.updRing fun r => { r with almAcks := [] }
    s.each acks fun s a =>
      if a.1 = s.ring.nodeId then
        s.updRing fun r => { r with alms := r.alms.filter fun e => e.alarm.seq ≠ a.2 && !newer32 a.2 e.alarm.seq }
      else
        let q : Req := ⟨s.now, .ring, s.ring.nodeId, 0, a.1, false, 1⟩
        s.send 5 0 0 a.1 ((q.msg 2 0x1230 0x05 (leBytes 4 a.2)).bytesAs 0 4)

/-- A summary as a record of R304 with a SEQ (R387). -/
def State.sumBytes (s : State) (x : AlmSum) (seq : Nat) : List Byte :=
  let a : Alarm := ⟨x.code, 0, min x.srcs.length 0xFFFF, s.ring.nodeId % 1024 + x.cls * 2 ^ 10 + b2n x.lasting * 2 ^ 12,
    x.count, x.first, (x.last - x.first) / 65536 % 2 ^ 32, seq⟩
  a.bytes

/-- Summaries go out in TYPE 0x08 frames of at most 32 records, each with the bridge's next SEQ. -/
def State.sendSums (s : State) (l : List AlmSum) : State :=
  s.each (List.range ((l.length + 31) / 32)) fun s i =>
    let part := (l.drop (32 * i)).take 32
    let first := s.flt.almSeq
    let p := (part.zipIdx).flatMap fun x => s.sumBytes x.1 (add32 first x.2)
    (s.updFlt fun f => { f with almSeq := add32 f.almSeq part.length }).send 8 0 3 0 p

/-- A record of the branch is folded into the summary of its CODE; a 257th code closes the oldest summary. -/
def State.foldAlarm (s : State) (a : Alarm) : State :=
  let node := bits a.flags 9 0
  let last := a.first + a.lastDelta * 65536
  let add (x : AlmSum) : AlmSum := { x with
    srcs := if x.srcs.contains node then x.srcs else node :: x.srcs
    cls := max x.cls a.cls, lasting := x.lasting || a.flags.testBit 12, count := min (x.count + a.count) 0xFFFFFFFF
    first := min x.first a.first, last := max x.last last, changed := true }
  if s.ring.sums.any fun x => x.code = a.code then
    s.updRing fun r => { r with sums := r.sums.map fun x => if x.code = a.code then add x else x }
  else
    let s := if s.ring.sums.length ≥ 256 then
        (s.sendSums (s.ring.sums.take 1)).updRing fun r => { r with sums := r.sums.drop 1 }
      else s
    s.updRing fun r => { r with sums := r.sums ++ [⟨a.code, [node], a.cls, a.flags.testBit 12, a.count, a.first, last, 0, true⟩] }

/-- ALM_SUM_PERIOD: a bridge sends the summaries that have changed. -/
def State.sumPeriod (s : State) : State :=
  if !s.isBridge then s
  else
    let s := s.at_ (s.ring.sumAt + ms (s.rd Od.ALM_SUM_PERIOD))
    let due := s.ring.sums.filter (·.changed)
    (s.updRing fun r => { r with sumAt := s.now, sums := r.sums.map fun x => { x with changed := false } }).sendSums due

/-- The own records that go out next: on the ring, or, at the active manager, straight into its intake. -/
def State.alarmFrame (s : State) : State :=
  let own := s.ring.waiting.any fun w => w.item = 4 && w.frame.typ = 7
  if own || s.ring.nodeId ≥ 1024 then s
  else match s.nextAlarms with
    | none => s
    | some (p, s) =>
      if s.isSource then
        (s.almIntake s.ring.nodeId (alarmsOf p)).emit (.host ⟨7, 0, s.ring.nodeId, 0, 3, 0, 0, 0, false, p⟩)
      else s.send 7 0 3 0 p

/-! ### String records (R218, R225; log entry 110) -/

/-- The record this device sends about string entry ST in every system cycle: kind, STR_ID, count of active links, flags, mean,
and slot and state of each member. The home device gives the string mean. -/
def State.stateRecord (s : State) (i : Nat) : List Byte :=
  let t := s.str i
  let home := s.isHome i
  let own := s.ownSum i
  let mean := if home then t.mean else if own.2 = 0 then 0 else F32.div own.1 (fint own.2)
  let here := s.listedHere i
  let run := t.st = .running
  let passive := if home then t.readyMain else s.passiveOk i
  let tol := run || (s.tolOk i && (!home || s.othersTol i))
  leBytes 1 7 ++ leBytes 2 (s.rd (Od.STR_ID i)) ++ leBytes 1 own.2 ++ leBytes 1 (packBits [passive, tol]) ++ leBytes 4 mean ++
    leBytes 1 here.length ++ here.flatMap fun m => leBytes 1 m.slot ++ leBytes 1 (s.ust m.slot 0).code

/-- A record of R218 arrives. -/
def State.stateRecordRx (s : State) (src : Nat) (p : List Byte) : State :=
  let n := leAt p 3 1
  let flags := leAt p 4 1
  let mean := leAt p 5 4
  let states := (List.range (leAt p 9 1)).map fun j => (leAt p (10 + 2 * j) 1, leAt p (11 + 2 * j) 1)
  s.each (s.strById (leAt p 1 2)) fun s i =>
    let sum := if src = s.homeNode i then mean else F32.mul mean (fint n)
    s.stringState i src states sum n (flags.testBit 0) (flags.testBit 1)

/-- A device whose records have been missing for three system cycles: its members count as lost, with t0 at the start of the
first missed cycle (R508, operation 0x09). -/
def State.silentMembers (s : State) (i : Nat) : State :=
  let t := s.str i
  if t.st = .stopped then s
  else
    let others := ((t.members.map (·.node)).eraseDups).filter fun n => !s.isOwn n && n ≠ s.homeNode i
    let count (n : Nat) : Nat := (((t.nodeMiss.find? fun o => o.1 = n).map (·.2)).getD 0) + 1
    let s := s.updStr i fun t => { t with nodeMiss := others.map fun n => (n, min 255 (count n)) }
    s.each (others.filter fun n => count n = 3) fun s n =>
      -- t0 of these losses is the start of the first missed cycle
      let T := s.sysNow - 2 * sysNsU s.ring.sysCycle
      s.each (t.members.filter fun m => m.node = n) fun s m =>
        if (s.str i).lacks m.pos then s.applyLoss i ⟨T, n, m.slot, m.pos⟩ else s

/-- What a string does at a system-cycle start, its record included. -/
def State.stringCycle (s : State) (i : Nat) : State :=
  let s := (s.strCycle i).silentMembers i
  if s.listedHere i ≠ [] && (s.str i).members.any fun m => !s.isOwn m.node then s.send 3 0 2 0 (s.stateRecord i) else s

/-! ### Frames taken (R367, R371, R372) -/

/-- What a TYPE 0x03 or 0x04 frame does when its first copy arrives. -/
def State.actTc1 (s : State) (f : Frame) : State :=
  let p := f.payload
  if f.typ = 4 then s.mgrFrame f.src p
  else if leAt p 0 1 = 7 then s.stateRecordRx f.src p
  else s.stringRecord f.src (leAt p 0 1) (leAt p 1 2) (leAt p 3 1) (leAt p 4 1) (timeOf (leAt p 5 14))

/-- A discarded copy. -/
def State.dup (s : State) : State := s.updRing fun r => { r with dups := (r.dups + 1) % 2 ^ 64 }

/-- A copy of a TYPE 0x03 or 0x04 frame: the first acts, the second is compared. -/
def State.takeTc1 (s : State) (f : Frame) : State :=
  match takeSeq s.ring.maps f.src 1 f.seq with
  | some maps =>
    (s.updRing fun r => { r with
      maps := maps
      firsts := ⟨f.src, f.seq, f.rot, f.payload, s.now⟩ :: r.firsts.filter fun x => decide (s.now ≤ x.at_ + us (s.rd Od.RING_TC1_SKEW)) }).actTc1 f
  | none =>
    match s.ring.firsts.find? fun x => x.src = f.src && x.seq = f.seq && x.rot ≠ f.rot &&
        decide (s.now ≤ x.at_ + us (s.rd Od.RING_TC1_SKEW)) with
    | none => s.dup
    | some x =>
      let s := s.updRing fun r => { r with firsts := r.firsts.erase x }
      if x.payload = f.payload then s
      else (s.updRing fun r => { r with tc1Diff := up32 r.tc1Diff }).raise Flt.RING_TC1_DIFF f.src

/-- What a new TC0, TC2 or TC3 frame does. -/
def State.actNew (s : State) (f : Frame) : State :=
  match f.typ with
  | 1 =>
    let s := s.takeFields f.src f.num f.payload
    if f.src ≤ 1 then s.wkFrame else s
  | 5 => s.requestRx f.src f.payload
  | 6 => s.responseRx f.src f.payload
  | 7 | 8 =>
    if s.isSource then (s.almIntake f.src (alarmsOf f.payload)).emit (.host f) else s.emit (.host f)
  | 9 => if leAt f.payload 0 1 = 3 && f.payload.length = 4 then s.noteJoin (leAt f.payload 1 2) else s
  | _ => s.emit (.host f)

/-- A copy of a roll-call request: each is answered with the hop counts known by then (log entry 204). -/
def State.seeRequest (s : State) (f : Frame) : State :=
  if f.typ = 9 && f.payload = [] && f.src ≤ 1 then s.rollAnswer f.rot (f.hops + 1) else s

/-- A frame is taken: judged by the duplicate maps, or compared. Manager TC0 frames are taken from the holder, and from the other
manager while its heartbeat shows SYNCED (R430). -/
def State.take (s : State) (f : Frame) : State :=
  if f.typ = 2 then s.telegram f.src s.now f.payload
  else if f.typ = 3 || f.typ = 4 then s.takeTc1 f
  else if f.typ = 1 && f.src ≤ 1 && !s.acceptsMgr f.src then s
  else
    let c := typeClass f.typ
    match takeSeq s.ring.maps (mapSrc f.src c) c f.seq with
    | some maps => (s.updRing fun r => { r with maps := maps }).actNew f
    | none => s.dup

/-! ### Routing (R369, R370) -/

/-- A node lies in the branch of this bridge. -/
def State.inBranch (s : State) (node : Nat) : Bool := s.ring.branchIds.contains node

/-- This device inserted the frame into the ring of a port. A frame of a sender without an ID is the sender's own only. -/
def State.inserted (s : State) (f : Frame) (port : Nat) : Bool :=
  if f.unassigned then s.ring.nodeId ≥ 1024 && f.src = Config.serial.toNat % 1024
  else f.src = s.ring.nodeId || (s.isBridge && (if port = 1 then !s.inBranch f.src else s.inBranch f.src))

/-- An alarm frame that a bridge folds instead of copying: no F or SAFETY record, with ALM_MODE = 0. -/
def State.folds (s : State) (f : Frame) : Bool :=
  f.typ = 7 && s.rd Od.ALM_MODE = 0 && (alarmsOf f.payload).all fun a => decide (a.sev < 2)

/-- Where a frame goes that this device did not insert: it is taken; it goes on round the ring of its port; it is copied to the
other ring; it is folded. -/
structure Route where
  take : Bool
  on : Bool
  copy : Bool
  fold : Bool
  deriving DecidableEq, Repr

def State.route (s : State) (f : Frame) (port : Nat) : Route :=
  let own := f.dst = s.ring.nodeId
  match f.scope with
  | 0 =>
    let crosses := s.isBridge && !own && (if port = 0 then s.inBranch f.dst else !s.inBranch f.dst)
    ⟨own, !own && !(crosses && port = 0), crosses, false⟩
  | 1 => ⟨true, true, false, false⟩
  | 2 => ⟨true, true, s.isBridge, false⟩
  | _ =>
    let up := s.isBridge && port = 1
    -- the standby takes a copy of what it forwards (R430)
    ⟨s.isSource || s.mgr.st = .standby, !s.isSource, up && !s.folds f, up && s.folds f⟩

/-- A frame goes on to a lane, as item 1 where it came within its window there, else in its class (R374, R375). -/
def State.pass (s : State) (f : Frame) (lane : Nat) : State :=
  s.toLane lane (match typeClass f.typ with
    | 0 => if s.ownWindow lane f.src f.num then 1 else 2
    | 1 => 2
    | _ => 3) f

/-- The lane of the other ring on the same rotation (R370). -/
def otherRing (lane : Nat) : Nat := (lane + 2) % 4

/-- RING_FRAME_RX: the bytes of a frame arrive on a lane (R366, R369, R370). -/
def State.frameRx (s : State) (t lane : Nat) (l : List Byte) : State :=
  if (s.lane lane).st ≠ .up then s
  else
    let s := s.at_ t
    match parseFrame l with
    | none => s.updRing fun r => { r with hcrc := up32 r.hcrc }
    | some (f, good) =>
      let port := lane / 2
      if s.inserted f port then s
      else
        let r := s.route f port
        let dest := (if r.on then [outLane lane] else []) ++ (if r.copy then [otherRing (outLane lane)] else [])
        if dest ≠ [] && f.hops + 1 ≥ 128 then (s.updRing fun r => { r with hopsExp := up32 r.hopsExp }).raise Flt.RING_HOPS 0
        else if !good then
          (s.errOut 3 (dest.map (2 ^ ·)).sum).updRing fun r => { r with crc := up32 r.crc }
        else
          let s := if f.typ = 1 then s.hearTc0 f.src lane else s
          let late := f.typ = 1 && r.on && !s.ownWindow (outLane lane) f.src f.num
          let s := if late then (s.updRing fun r => { r with ttViol := up32 r.ttViol }).raise Flt.RING_TT_VIOL lane else s
          let s := s.each dest fun s n => s.pass { f with hops := f.hops + 1 } n
          let s := if r.fold then match takeSeq s.ring.maps f.src 2 f.seq with
              | some maps => (s.updRing fun r => { r with maps := maps }).each (alarmsOf f.payload) State.foldAlarm
              | none => s.dup
            else s
          if r.take then (s.take f).seeRequest f else s

/-! ### The cycles -/

/-- SYSTEM_CYCLE: the start of the next system cycle. -/
def State.systemCycle (s : State) : State :=
  if s.ring.sysCycle = 0 || !s.tb.running then s
  else
    let k := max (s.ring.cycle + 1) s.cycleNo
    let s := (s.at_ (s.localOf (k * s.sysCycleU))).updRing fun r => { r with cycle := k }
    let s := ((s.noteTc1.ageFields).judgeHealth).mgrCycle k
    let s := if s.isSource then s else s.wkCycle
    (s.each (if s.domOn domLegs then List.range 32 else []) State.stringCycle).almAcks

/-- CELL_CYCLE_BOUNDARY: the next boundary of the grid (R45): commands and fields apply first. -/
def State.cellCycle (s : State) : State :=
  if !s.tb.running then s
  else
    let s := s.at_ (s.localOf (s.gridNext s.cellAt (sysNsU (s.rd Od.CELL_CYCLE))))
    let s : State := { s with cellAt := s.now }
    let s := s.applyFields
    -- the sequencers of LEGS
    let on := s.domOn domLegs
    let s := s.each ((List.range 64).filter fun e => on && s.lvKind e = 2) State.busTick
    let s := s.each ((List.range 64).filter fun e => on && s.lvKind e = 3) State.acTick
    let s := s.each (if on then List.range 32 else []) State.strTick
    s.wkInputs.latchOuts

/-- RING_TX_START: own records and upload chunks stand ready, and the lane starts its next frame. -/
def State.ringTx (s : State) (lane : Nat) : State := ((s.alarmFrame.upNext).txStart lane).upNext

end Machine
end Sys2Proof
end

