-- ==== Sys2Proof/Machine/AccessCmds.lean ====
section
/-! DEFINITION. Commands of the access paths (18): requests and their timers, the host SPI port, CAN FD, Ethernet, trace signals. -/

namespace Sys2Proof.Machine

/-- OD_READ: READ of an entry (R456); a LEN other than 0 asks for the first LEN bytes. -/
def execOdRead (q : Req) (idx : BitVec 16) (sub : BitVec 8) (len : BitVec 16)
    (s : State) : Host.Outcome State Fault Refusal :=
  .next (s.request ⟨q, 1, idx.toNat, sub.toNat, false, false, false, 0, len.toNat, []⟩)

/-- OD_WRITE: WRITE of a whole value (R448, R462). -/
def execOdWrite (q : Req) (idx : BitVec 16) (sub : BitVec 8) (data : List Byte)
    (s : State) : Host.Outcome State Fault Refusal :=
  .next (s.writeCmd q idx.toNat sub.toNat data)

/-- DESCRIBE: the descriptor of an entry (R459). -/
def execDescribe (q : Req) (idx : BitVec 16) (sub : BitVec 8) (offset : BitVec 32) (len : BitVec 16)
    (s : State) : Host.Outcome State Fault Refusal :=
  .next (s.request ⟨q, 3, idx.toNat, sub.toNat, false, false, false, offset.toNat, len.toNat, []⟩)

/-- READ_SEG: part of a value, from a snapshot where SNAP asks for one (R458). -/
def execReadSeg (q : Req) (idx : BitVec 16) (sub : BitVec 8) (snap : Bool) (offset : BitVec 32) (len : BitVec 16)
    (s : State) : Host.Outcome State Fault Refusal :=
  .next (s.request ⟨q, 4, idx.toNat, sub.toNat, false, false, snap, offset.toNat, len.toNat, []⟩)

/-- WRITE_SEG: one segment of a segmented write (R457). -/
def execWriteSeg (q : Req) (idx : BitVec 16) (sub : BitVec 8) (first : Bool) (last : Bool) (offset : BitVec 32) (data : List Byte)
    (s : State) : Host.Outcome State Fault Refusal :=
  .next (s.request ⟨q, 5, idx.toNat, sub.toNat, first, last, false, offset.toNat, data.length, data⟩)

/-- ABORT_SEG: the requester ends its open transfer (R457). -/
def execAbortSeg (q : Req) (idx : BitVec 16) (sub : BitVec 8) (s : State) : Host.Outcome State Fault Refusal :=
  .next (s.request (q.msg 6 idx.toNat sub.toNat []))

/-- HELLO: protocol, profile, versions and the data limit of the path (R460). -/
def execHello (q : Req) (len : BitVec 16) (s : State) : Host.Outcome State Fault Refusal :=
  .next (s.request ⟨q, 7, 0, 0, false, false, false, 0, len.toNat, []⟩)

/-- SEGMENT_TIMEOUT: the open transfer of an entry has had no segment for 10 s (R457). -/
def execSegmentTimeout (idx : BitVec 16) (sub : BitVec 8) (s : State) : Host.Outcome State Fault Refusal :=
  .next (s.awake fun s => s.segTimeout idx.toNat sub.toNat)

/-- SNAPSHOT_RELEASE: a snapshot buffer, 1 s after its last use (R458). -/
def execSnapshotRelease (s : State) : Host.Outcome State Fault Refusal := .next (s.awake fun s => s.snapRelease)

/-- OD_RESPONSE_RX: a TYPE 0x06 response of a node, by its payload (R467). -/
def execOdResponseRx (t : Nat) (src : Fin 1024) (p : List Byte) (s : State) : Host.Outcome State Fault Refusal :=
  .next (s.awake fun s => (s.at_ t).responseRx src.val p)

/-- OD_REMOTE_TMO: the oldest forwarded request has waited OD_REMOTE_TMO (R467). -/
def execOdRemoteTmo (s : State) : Host.Outcome State Fault Refusal := .next (s.awake fun s => s.remoteTmo)

/-- WRITE_REQ: a host SPI WRITE_REQ: its bytes, and whether SPI_CS_N let it end (R465). -/
def execWriteReq (t : Nat) (l : List Byte) (whole : Bool) (s : State) : Host.Outcome State Fault Refusal :=
  .next (s.spiWrite t l whole)

/-- READ_RESP: a host SPI READ_RESP (R465). -/
def execReadResp (t : Nat) (whole : Bool) (s : State) : Host.Outcome State Fault Refusal := .next (s.spiRead t whole)

/-- READ_STATUS: a host SPI READ_STATUS (R465). -/
def execReadStatus (t : Nat) (s : State) : Host.Outcome State Fault Refusal := .next (s.spiStatus t)

/-- SPI_IRQ_PEND_READ: a read of SPI_IRQ_PEND (R466). -/
def execSpiIrqPendRead (q : Req) (s : State) : Host.Outcome State Fault Refusal := .next (s.readCmd q 0x1100 0x0F)

/-- CAN_BUS_OFF: the CAN FD controller goes bus-off (R464). -/
def execCanBusOff (t : Nat) (s : State) : Host.Outcome State Fault Refusal := .next (s.awake fun s => s.canBusOff t)

/-- ETH_LINK_DOWN: the Ethernet link goes down (R473). -/
def execEthLinkDown (t : Nat) (s : State) : Host.Outcome State Fault Refusal := .next (s.awake fun s => s.ethDown t)

/-- TR_PERIOD_COPY: a trace signal bound to an entry copies it (R470). -/
def execTrPeriodCopy (sig : Fin 32768) (s : State) : Host.Outcome State Fault Refusal :=
  .next (s.awake fun s => s.trCopy sig.val)

/-- ETH_LINK_UP: the Ethernet link comes up, at 1,000 Mbit/s or at 100 Mbit/s (R473). -/
def execEthLinkUp (t : Nat) (fast : Bool) (s : State) : Host.Outcome State Fault Refusal :=
  .next (s.awake fun s => s.ethComesUp t (if fast then 2 else 1))

/-- CAN_BUS_OFF_RECOVERY: the bus-off controller restarts (R464). -/
def execCanBusOffRecovery (t : Nat) (s : State) : Host.Outcome State Fault Refusal :=
  .next (s.awake fun s => s.canRecover t)

/-- ARP_ICMP_REQUEST: an ARP or an ICMP echo request (R463). -/
def execArpIcmpRequest (t : Nat) (icmp : Bool) (ip : BitVec 32) (who : Nat) (s : State) : Host.Outcome State Fault Refusal :=
  .next (s.arpIcmp t icmp ip who)

end Sys2Proof.Machine
end

