-- ==== Sys2Proof/Machine/BistFamily.lean ====
section
/-! DEFINITION. Commands of the built-in self-test (22). -/

namespace Sys2Proof.Machine

/-- BIST_RUN: BIST_CMD RUN (R546). -/
def execBistRun (q : Req) (s : State) : Host.Outcome State Fault Refusal :=
  .next (s.writeCmd q 0x1C00 0x01 (leBytes 1 1))

/-- BIST_ABORT: BIST_CMD ABORT (R549). -/
def execBistAbort (q : Req) (s : State) : Host.Outcome State Fault Refusal :=
  .next (s.writeCmd q 0x1C00 0x01 (leBytes 1 2))

/-- BIST_RUN_END: a run ends with its signature, and the first failing offset of a memory (R548). -/
def execBistRunEnd (sig : BitVec 64) (addr : BitVec 32) (s : State) : Host.Outcome State Fault Refusal :=
  .next (s.awake fun s => (s.bistDone sig addr.toNat).serveStalled)

end Sys2Proof.Machine
end

