-- ==== Sys2Proof/Machine/CarrierFamily.lean ====
section
/-! DEFINITION. Commands of carriers and legs (03). -/

namespace Sys2Proof.Machine

/-- CAR_RUN_START: CAR_RUN 0x01 (R52). -/
def execCarRunStart (q : Req) (k : Fin 64) (s : State) : Host.Outcome State Fault Refusal :=
  .next (s.writeCmd q (0x2300 + k.val) 0x08 (leBytes 1 1))

/-- CAR_RUN_STOP: CAR_RUN 0x02 (R53). -/
def execCarRunStop (q : Req) (k : Fin 64) (s : State) : Host.Outcome State Fault Refusal :=
  .next (s.writeCmd q (0x2300 + k.val) 0x08 (leBytes 1 2))

/-- CARRIER_START: an ARMED carrier starts (R52). -/
def execCarrierStart (k : Fin 64) (s : State) : Host.Outcome State Fault Refusal :=
  .next (s.awake fun s => (s.carrierStart k.val).settleReset)

/-- CARRIER_VALLEY: a carrier reaches n = 0 (R51). -/
def execCarrierValley (k : Fin 64) (s : State) : Host.Outcome State Fault Refusal :=
  .next (s.awake fun s => (s.carrierValley k.val).settleReset)

/-- CARRIER_PEAK: a carrier reaches n = P (R51). -/
def execCarrierPeak (k : Fin 64) (s : State) : Host.Outcome State Fault Refusal :=
  .next (s.awake fun s => (s.carrierPeak k.val).settleReset)

/-- CAR_COMMIT: CAR_COMMIT 0x01 (R61). -/
def execCarCommit (q : Req) (k : Fin 64) (s : State) : Host.Outcome State Fault Refusal :=
  .next (s.writeCmd q (0x2300 + k.val) 0x05 (leBytes 1 1))

/-- CAR_COMMIT_DISCARD: CAR_COMMIT 0x02 (R64). -/
def execCarCommitDiscard (q : Req) (k : Fin 64) (s : State) : Host.Outcome State Fault Refusal :=
  .next (s.writeCmd q (0x2300 + k.val) 0x05 (leBytes 1 2))

/-- LEG_OWN_PEAK: a leg reaches its own peak (R55). -/
def execLegOwnPeak (l : Fin 192) (s : State) : Host.Outcome State Fault Refusal :=
  .next (s.awake fun s => s.legOwnPeak l.val)

/-- LEG_OWN_VALLEY: a leg reaches its own valley (R70). -/
def execLegOwnValley (l : Fin 192) (s : State) : Host.Outcome State Fault Refusal :=
  .next (s.awake fun s => s.legOwnValley l.val)

/-- LEG_COMMAND_EDGE: the compare command of a leg changes (R55). -/
def execLegCommandEdge (l : Fin 192) (s : State) : Host.Outcome State Fault Refusal :=
  .next (s.awake fun s => s.legEdge l.val)

/-- FORCE_NONE: LEG_FORCE mode NONE, with NOW or without (R73, R74). -/
def execForceNone (q : Req) (l : Fin 192) (imm : Bool) (s : State) : Host.Outcome State Fault Refusal :=
  .next (s.writeCmd q (0x2200 + l.val) 0x16 (leBytes 1 (0 + 8 * b2n imm)))

/-- FORCE_OFF: LEG_FORCE mode OFF, with NOW or without (R73, R74). -/
def execForceOff (q : Req) (l : Fin 192) (imm : Bool) (s : State) : Host.Outcome State Fault Refusal :=
  .next (s.writeCmd q (0x2200 + l.val) 0x16 (leBytes 1 (1 + 8 * b2n imm)))

/-- FORCE_UPPER: LEG_FORCE mode UPPER, with NOW or without (R73, R74). -/
def execForceUpper (q : Req) (l : Fin 192) (imm : Bool) (s : State) : Host.Outcome State Fault Refusal :=
  .next (s.writeCmd q (0x2200 + l.val) 0x16 (leBytes 1 (2 + 8 * b2n imm)))

/-- FORCE_LOWER: LEG_FORCE mode LOWER, with NOW or without (R73, R74). -/
def execForceLower (q : Req) (l : Fin 192) (imm : Bool) (s : State) : Host.Outcome State Fault Refusal :=
  .next (s.writeCmd q (0x2200 + l.val) 0x16 (leBytes 1 (3 + 8 * b2n imm)))

/-- FORCE_RAW: LEG_FORCE mode RAW (R73, R74). -/
def execForceRaw (q : Req) (l : Fin 192) (imm : Bool) (gh : Bool) (gl : Bool)
    (s : State) : Host.Outcome State Fault Refusal :=
  .next (s.writeCmd q (0x2200 + l.val) 0x16 (leBytes 1 (4 + 8 * b2n imm + 16 * b2n gh + 32 * b2n gl)))

/-- BOOT_REFRESH_END: a bootstrap refresh ends (R76). -/
def execBootRefreshEnd (l : Fin 192) (s : State) : Host.Outcome State Fault Refusal :=
  .next (s.awake fun s => s.bootEnd l.val)

/-- PKL_CUT: a peak-limit source asserts its line: the bits of a modulator input up to t, or the code v at a comparator (R78). -/
def execPklCut (src : BitVec 8) (stream : List Bool) (v : Int) (t : Nat) (s : State) : Host.Outcome State Fault Refusal :=
  .next (s.awake fun s => s.pklCut src.toNat stream v t)

/-- PWM_PARITY_ERROR: a parity error on the registers of a leg, or of a carrier (R81). -/
def execPwmParityError (t : Nat) (carrier : Bool) (i : Fin 192) (s : State) : Host.Outcome State Fault Refusal :=
  .next (s.awake fun s => (s.upTo t).pwmParity carrier (if carrier then i.val % 64 else i.val))

/-- CLK_PWM_MISSING: CLK_PWM is reported missing (R107). -/
def execClkPwmMissing (t : Nat) (s : State) : Host.Outcome State Fault Refusal :=
  .next (s.awake fun s => ((s.upTo t).pwmLost).settleReset)

end Sys2Proof.Machine
end

