-- ==== Sys2Proof/Machine/ClockFamily.lean ====
section
/-! DEFINITION. Commands of the clocks (19). -/

namespace Sys2Proof.Machine

/-- CLK_APPLY: CLK_APPLY 0x01 (R481). -/
def execClkApply (q : Req) (s : State) : Host.Outcome State Fault Refusal :=
  .next (s.writeCmd q 0x1A00 0x0A (leBytes 1 1))

/-- CLK_DISCARD: CLK_APPLY 0x02 (R481). -/
def execClkDiscard (q : Req) (s : State) : Host.Outcome State Fault Refusal :=
  .next (s.writeCmd q 0x1A00 0x0A (leBytes 1 2))

/-- PLL_SYS_LOCK: a lock window ends with a count (R479). -/
def execPllSysLock (t : Nat) (count : BitVec 16) (s : State) : Host.Outcome State Fault Refusal :=
  .next (s.awake fun s => (s.lockWindow t count.toNat).clkSettle.serveStalled)

/-- PLL_SYS_UNLOCK: a lock window ends with a count that is off by 3 or more (R482). -/
def execPllSysUnlock (t : Nat) (count : BitVec 16) (s : State) : Host.Outcome State Fault Refusal :=
  .next (s.awake fun s => (s.lockWindow t count.toNat).clkSettle.serveStalled)

/-- RELOCK_TIMEOUT: 1 ms of a relock without lock (R482). -/
def execRelockTimeout (s : State) : Host.Outcome State Fault Refusal := .next (s.awake fun s => s.relockTimeout)

/-- PLL_LINK_LOCK_CHANGE: PLL_LINK gains or loses lock, with its phase error (R480). -/
def execPllLinkLockChange (t : Nat) (on : Bool) (err : Int) (s : State) : Host.Outcome State Fault Refusal :=
  .next (s.awake fun s => (s.at_ t).linkLockChange on err)

/-- REFCLK_LOST: REFCLK is lost (R487). -/
def execRefclkLost (t : Nat) (s : State) : Host.Outcome State Fault Refusal :=
  .next (s.awake fun s => (s.at_ t).refLostClk.clkSettle.serveStalled)

/-- REFCLK_RETURN: REFCLK has been back for 1 ms (R487). -/
def execRefclkReturn (t : Nat) (s : State) : Host.Outcome State Fault Refusal :=
  .next (s.awake fun s => (s.at_ t).refReturn)

/-- LINKCLK_LOST: LINKCLK is missing or off in frequency (R486). -/
def execLinkclkLost (t : Nat) (s : State) : Host.Outcome State Fault Refusal :=
  .next (s.awake fun s => (s.at_ t).linkclkLost)

/-- CLK_FREQ_ERROR: the count of a clock over a lock window, in Hz (R486). -/
def execClkFreqError (t : Nat) (i : Fin 8) (hz : BitVec 32) (s : State) : Host.Outcome State Fault Refusal :=
  .next (s.awake fun s => (s.at_ t).clkFreq i.val hz.toNat)

/-- CLK_PERIOD_GUARD: the period guard removes an edge of CLK_PWM, CLK_CORE or CLK_LOOP (R485). -/
def execClkPeriodGuard (t : Nat) (i : Fin 3) (s : State) : Host.Outcome State Fault Refusal :=
  .next (s.awake fun s => (s.at_ t).periodGuard i.val)

end Sys2Proof.Machine
end

