-- ==== Sys2Proof/Machine/FaultFamily.lean ====
section
/-! DEFINITION. Commands of the fault collector (12). -/

namespace Sys2Proof.Machine

/-- FAULT_INTAKE: the collector takes in the events that have waited longest (R297). -/
def execFaultIntake (s : State) : Host.Outcome State Fault Refusal := .next (s.awake fun s => s.fltIntake)

/-- FAULT_TRANSIENT_EXPIRY: W of a TRANSIENT instance has passed (R295). -/
def execFaultTransientExpiry (code : BitVec 16) (i : BitVec 16) (s : State) : Host.Outcome State Fault Refusal :=
  .next (s.awake fun s => s.fltExpiry code.toNat i.toNat)

/-- ALM_COALESCE_END: the span of an open alarm record ends (R303). -/
def execAlmCoalesceEnd (code : BitVec 16) (i : BitVec 16) (s : State) : Host.Outcome State Fault Refusal :=
  .next (s.awake fun s => s.coalEnd code.toNat i.toNat)

/-- FAULT_RESET: every sequence of a RESET reaction has ended (R293). -/
def execFaultReset (s : State) : Host.Outcome State Fault Refusal := .next (s.awake fun s => s.settleReset)

/-- FLT_CLR: FLT_CLR (R299). -/
def execFltClr (q : Req) (code : BitVec 16) (i : BitVec 16) (s : State) : Host.Outcome State Fault Refusal :=
  .next (s.writeCmd q 0x1800 0x08 (leBytes 2 code.toNat ++ leBytes 2 i.toNat))

/-- FLT_FIRST_CLR: FLT_FIRST_CLR (R302). -/
def execFltFirstClr (q : Req) (v : BitVec 8) (s : State) : Host.Outcome State Fault Refusal :=
  .next (s.writeCmd q 0x1800 0x07 (leBytes 1 v.toNat))

/-- FLT_CFG_WRITE: FLT_CFG of a source (R307). -/
def execFltCfgWrite (q : Req) (code : BitVec 16) (v : BitVec 64) (s : State) : Host.Outcome State Fault Refusal :=
  .next (s.writeCmd q (0x1820 + code.toNat / 256) (code.toNat % 256) (leBytes 8 v.toNat))

/-- SRAM_ECC_ERROR: an ECC error in HOST or SAFE SRAM (R292). -/
def execSramEccError (t : Nat) (safe : Bool) (corrected : Bool) (s : State) : Host.Outcome State Fault Refusal :=
  .next (s.awake fun s => (s.at_ t).sramEcc safe corrected)

end Sys2Proof.Machine
end

