-- ==== Sys2Proof/Machine/FeedbackFamily.lean ====
section
/-! DEFINITION. Commands of the feedback inputs (10). -/

namespace Sys2Proof.Machine

/-- FB_SC_QUADRANT_STEP: a sin/cos sample (R263). -/
def execFbScQuadrantStep (t : Nat) (sv : Int) (cv : Int) (s : State) : Host.Outcome State Fault Refusal :=
  .next (s.awake fun s => s.scSample t sv cv)

/-- SC_AMP_BAD: bad samples in a row, the last at t (R262). -/
def execScAmpBad (t : Nat) (samples : List (Int × Int)) (s : State) : Host.Outcome State Fault Refusal :=
  .next (s.awake fun s => s.scBad t samples)

/-- SC_AMP_GOOD: good samples in a row, the last at t (R262). -/
def execScAmpGood (t : Nat) (samples : List (Int × Int)) (s : State) : Host.Outcome State Fault Refusal :=
  .next (s.awake fun s => s.scGoodAgain t samples)

/-- HALL_CHANGE: the Hall pins stand at a code at t; what has held for FB_HALL_FILT is accepted (R264). -/
def execHallChange (t : Nat) (code : BitVec 3) (s : State) : Host.Outcome State Fault Refusal :=
  .next (s.awake fun s => s.hallChange t code.toNat)

/-- PLS_STEP: the pulse pins stand at two levels from t to t + hold; what has held for FB_PLS_FILT is accepted (R266). -/
def execPlsStep (t : Nat) (a : Bool) (b : Bool) (hold : Nat) (s : State) : Host.Outcome State Fault Refusal :=
  .next (s.awake fun s => s.plsStep t a b hold)

/-- FB_SPD_TIMEOUT: no step of a source for FB_SPD_TMO (R267). -/
def execFbSpdTimeout (i : Fin 3) (s : State) : Host.Outcome State Fault Refusal :=
  .next (s.awake fun s => s.fbTimeout i.val)

/-- FB_SC_COUNT_WRITE: FB_SC_COUNT (R263). -/
def execFbScCountWrite (q : Req) (v : BitVec 64) (s : State) : Host.Outcome State Fault Refusal :=
  .next (s.writeCmd q 0x3500 0x11 (leBytes 8 v.toNat))

/-- FB_PLS_COUNT_WRITE: FB_PLS_COUNT (R266). -/
def execFbPlsCountWrite (q : Req) (v : BitVec 64) (s : State) : Host.Outcome State Fault Refusal :=
  .next (s.writeCmd q 0x3500 0x18 (leBytes 8 v.toNat))

/-- FB_IRQ_CLR: FB_IRQ_CLR (R268). -/
def execFbIrqClr (q : Req) (v : BitVec 8) (s : State) : Host.Outcome State Fault Refusal :=
  .next (s.writeCmd q 0x3500 0x0E (leBytes 1 v.toNat))

/-- FB_CTRL_WRITE: FB_CTRL (R270). -/
def execFbCtrlWrite (q : Req) (v : BitVec 16) (s : State) : Host.Outcome State Fault Refusal :=
  .next (s.writeCmd q 0x3500 0x01 (leBytes 2 v.toNat))

end Sys2Proof.Machine
end

