-- ==== Sys2Proof/Machine/GuardFamily.lean ====
section
/-! DEFINITION. Commands of the gate guard and of the STO inputs (04, 13). -/

namespace Sys2Proof.Machine

/-- GATE_RELEASE: the incoming gate of a leg rises at its t_rel (R87). -/
def execGateRelease (l : Fin 192) (gh : Bool) (s : State) : Host.Outcome State Fault Refusal :=
  .next (s.awake fun s => s.gateRelease l.val gh)

/-- SN_TRANSITION: a switching node shows another level (R86). -/
def execSnTransition (l : Fin 192) (t : Nat) (high : Bool) (s : State) : Host.Outcome State Fault Refusal :=
  .next (s.awake fun s => s.snTransition l.val t high)

/-- SN_CONFIRM_EXPIRY: SN has not shown the incoming level in time (R89). -/
def execSnConfirmExpiry (l : Fin 192) (s : State) : Host.Outcome State Fault Refusal :=
  .next (s.awake fun s => s.snExpiry l.val)

/-- GG_DT_WRITE: a dead-time entry, sub 0x01 to 0x06 (R93). -/
def execGgDtWrite (q : Req) (l : Fin 192) (which : Fin 6) (v : BitVec 16) (s : State) : Host.Outcome State Fault Refusal :=
  .next (s.writeCmd q (0x2200 + l.val) (which.val + 1) (leBytes (if which.val = 4 then 1 else 2) v.toNat))

/-- FK_ASSERT: FK asserts (R95). -/
def execFkAssert (l : Fin 192) (t : Nat) (s : State) : Host.Outcome State Fault Refusal :=
  .next (if s.runs then s.fkAssert l.val t else (s.at_ t).updGg l.val fun g => { g with fkPin := true })

/-- FK_RELEASE: FK releases (R96). -/
def execFkRelease (l : Fin 192) (t : Nat) (s : State) : Host.Outcome State Fault Refusal :=
  .next (if s.runs then s.fkRelease l.val t else (s.at_ t).updGg l.val fun g => { g with fkPin := false })

/-- FK_DECISION: an assertion seen for 10 ns outside blanking (R97). -/
def execFkDecision (l : Fin 192) (s : State) : Host.Outcome State Fault Refusal :=
  .next (s.awake fun s => s.fkDecision l.val)

/-- FK_HARD: an assertion held for 150 ns inside blanking (R96). -/
def execFkHard (l : Fin 192) (s : State) : Host.Outcome State Fault Refusal := .next (s.awake fun s => s.fkHard l.val)

/-- BLANKING_END: blanking ends (R96). -/
def execBlankingEnd (l : Fin 192) (s : State) : Host.Outcome State Fault Refusal :=
  .next (s.awake fun s => s.blankingEnd l.val)

/-- SUPPLY_WAKE_EXPIRY: a charge-pump wait reaches SLOT_SUPPLY_WAKE (R103). -/
def execSupplyWakeExpiry (l : Fin 192) (s : State) : Host.Outcome State Fault Refusal :=
  .next (s.awake fun s => s.supplyExpiry l.val)

/-- GG_PARITY_ERROR: a parity error on the guard registers of a leg (R108), or on the command word it gets (R94). -/
def execGgParityError (t : Nat) (w : GuardWord) (s : State) : Host.Outcome State Fault Refusal :=
  .next (s.awake fun s => (s.upTo t).ggParity w.leg.val w.command)

/-- SAFEOFF_RECORD_RX: a safe-off record of a string member (R100). -/
def execSafeoffRecordRx (t : Nat) (node : Fin 1024) (id : BitVec 16) (slot : Fin 32) (die : Bool) (t0 : BitVec 112)
    (s : State) : Host.Outcome State Fault Refusal :=
  .next (s.awake fun s => (s.at_ t).stringRecord node.val recSafeOff id.toNat slot.val (b2n die) (timeOf t0.toNat))

/-- SAFEOFF_RECORD_EXPIRY: safe-off records end 100 µs after their t0 (R100). -/
def execSafeoffRecordExpiry (s : State) : Host.Outcome State Fault Refusal := .next (s.awake fun s => s.recordExpiry)

/-- STRING_TRIP_RECORD_RX: a string-trip record (R101). -/
def execStringTripRecordRx (t : Nat) (node : Fin 1024) (id : BitVec 16) (s : State) : Host.Outcome State Fault Refusal :=
  .next (s.awake fun s => (s.at_ t).stringRecord node.val recTrip id.toNat 0 0 0)

/-- STO_ASSERT: an STO input is low for `width` ns from t on (R311). -/
def execStoAssert (g : Fin 2) (t : Nat) (width : Nat) (s : State) : Host.Outcome State Fault Refusal :=
  .next (if s.runs then s.stoAssert g.val t width else s.stoPinLow g.val t width)

/-- STO_RELEASE: an STO input is high from t on (R311). -/
def execStoRelease (g : Fin 2) (t : Nat) (s : State) : Host.Outcome State Fault Refusal :=
  .next (if s.runs then s.stoRelease g.val t else (s.at_ t).updPin g.val fun p => { p with low := false, since := t, demand := false, hw := false })

end Sys2Proof.Machine
end

