-- ==== Sys2Proof/Machine/LaneFamily.lean ====
section
/-! DEFINITION. Commands of the lanes (14). -/

namespace Sys2Proof.Machine

/-- LANE_DDM_READ: the diagnostic bytes as read, ten of them (R338). -/
def State.ddmRead (s : State) (n : Nat) (bytes : List Byte) : State :=
  if (s.lane n).modAbs then s else s.updLane n fun x => { x with ddm := fitTo 10 bytes }

/-- LANE_ENABLE: ENABLE of LANE_CTRL (R348). -/
def execLaneEnable (q : Req) (n : Fin 4) (on : Bool) (s : State) : Host.Outcome State Fault Refusal :=
  .next (s.writeCmd q (0x1280 + n.val) 0x01 (leBytes 2 (withField (s.laneCtrl n.val) 0 1 (b2n on))))

/-- LANE_HOLD: HOLD of LANE_CTRL (R348). -/
def execLaneHold (q : Req) (n : Fin 4) (on : Bool) (s : State) : Host.Outcome State Fault Refusal :=
  .next (s.writeCmd q (0x1280 + n.val) 0x01 (leBytes 2 (withField (s.laneCtrl n.val) 1 1 (b2n on))))

/-- LANE_TEST: TEST of LANE_CTRL (R353). -/
def execLaneTest (q : Req) (n : Fin 4) (v : BitVec 3) (s : State) : Host.Outcome State Fault Refusal :=
  .next (s.writeCmd q (0x1280 + n.val) 0x01 (leBytes 2 (withField (s.laneCtrl n.val) 5 3 v.toNat)))

/-- LANE_LOOP: LOOP of LANE_CTRL (R353). -/
def execLaneLoop (q : Req) (n : Fin 4) (v : BitVec 3) (s : State) : Host.Outcome State Fault Refusal :=
  .next (s.writeCmd q (0x1280 + n.val) 0x01 (leBytes 2 (withField (s.laneCtrl n.val) 2 3 v.toNat)))

/-- LANE_CNT_CLR: LANE_CNT_CLR (R356). -/
def execLaneCntClr (q : Req) (n : Fin 4) (s : State) : Host.Outcome State Fault Refusal :=
  .next (s.writeCmd q (0x1280 + n.val) 0x19 (leBytes 1 1))

/-- SFP_MODULE_DETECT: a module is shown present, with the bytes read from it (R338). -/
def execSfpModuleDetect (t : Nat) (n : Fin 4) (page : List Byte) (s : State) : Host.Outcome State Fault Refusal :=
  .next (s.awake fun s => (s.at_ t).moduleDetect n.val page)

/-- MODULE_ABSENT: SFPn_ABS shows the module removed (R338). -/
def execModuleAbsent (t : Nat) (n : Fin 4) (s : State) : Host.Outcome State Fault Refusal :=
  .next (s.awake fun s => (s.at_ t).moduleAbsent n.val)

/-- LANE_DDM_READ: the diagnostic bytes of a module (R338). -/
def execLaneDdmRead (t : Nat) (n : Fin 4) (bytes : List Byte) (s : State) : Host.Outcome State Fault Refusal :=
  .next (s.awake fun s => (s.at_ t).ddmRead n.val bytes)

/-- BLOCK_LOCK: 64 valid headers (R345). -/
def execBlockLock (t : Nat) (n : Fin 4) (s : State) : Host.Outcome State Fault Refusal :=
  .next (s.awake fun s => (s.at_ t).blockLock n.val)

/-- BLOCK_LOCK_LOSS: 16 invalid headers in 64 blocks (R345). -/
def execBlockLockLoss (t : Nat) (n : Fin 4) (passing : BitVec 4) (s : State) : Host.Outcome State Fault Refusal :=
  .next (s.awake fun s => (s.at_ t).blockLockLoss n.val passing.toNat)

/-- HI_BER: the invalid headers of a span of 125 µs (R345). -/
def execHiBer (t : Nat) (n : Fin 4) (bad : Nat) (passing : BitVec 4) (s : State) : Host.Outcome State Fault Refusal :=
  .next (s.awake fun s => (s.at_ t).hiBerSpan n.val bad passing.toNat)

/-- ELASTIC_ERROR: the elastic buffer overflows or underflows (R346). -/
def execElasticError (t : Nat) (n : Fin 4) (passing : BitVec 4) (s : State) : Host.Outcome State Fault Refusal :=
  .next (s.awake fun s => (s.at_ t).elasticError n.val passing.toNat)

/-- LANE_PPM_MEASURE: a second of rate matching (R346). -/
def execLanePpmMeasure (t : Nat) (n : Fin 4) (ins : Nat) (del : Nat) (blocks : Nat) (fill : BitVec 6)
    (s : State) : Host.Outcome State Fault Refusal :=
  .next (s.awake fun s => (s.at_ t).ppmMeasure n.val ins del blocks fill.toNat)

/-- TRAIN_BLOCK_RX: a TRAIN block (R349). -/
def execTrainBlockRx (t : Nat) (n : Fin 4) (line : LineBits) (passing : BitVec 4)
    (s : State) : Host.Outcome State Fault Refusal :=
  .next (s.awake fun s => ((s.at_ t).rxLine n.val line.before.toNat line.block.toNat).trainBlock n.val (descramble line.before.toNat line.block.toNat).1
    passing.toNat)

/-- HOLD_BLOCK_RX: a HOLD block (R350). -/
def execHoldBlockRx (t : Nat) (n : Fin 4) (passing : BitVec 4) (s : State) : Host.Outcome State Fault Refusal :=
  .next (s.awake fun s => (s.at_ t).holdBlock n.val passing.toNat)

/-- ERR_BLOCK_RX: an ERR block, or in its place an invalid header (1) or a block that does not fit (2) (R342, R344). -/
def execErrBlockRx (t : Nat) (n : Fin 4) (kind : Fin 3) (passing : BitVec 4)
    (s : State) : Host.Outcome State Fault Refusal :=
  .next (s.awake fun s => if kind.val = 0 then (s.at_ t).errBlock n.val passing.toNat else (s.at_ t).badBlock n.val (kind.val = 1) passing.toNat)

/-- SFP_LOS: SFPn_LOS changes (R350). -/
def execSfpLos (t : Nat) (n : Fin 4) (on : Bool) (passing : BitVec 4) (s : State) : Host.Outcome State Fault Refusal :=
  .next (s.awake fun s => (s.at_ t).sfpLos n.val on passing.toNat)

/-- LANE_INPUT_LOST: the input of a lane stops (R350). -/
def execLaneInputLost (t : Nat) (n : Fin 4) (passing : BitVec 4) (s : State) : Host.Outcome State Fault Refusal :=
  .next (s.awake fun s => (s.at_ t).inputLost n.val passing.toNat)

/-- LANE_TRAIN_TIMEOUT: 100 ms after LOCKING began (R352). -/
def execLaneTrainTimeout (n : Fin 4) (s : State) : Host.Outcome State Fault Refusal :=
  .next (s.awake fun s => s.trainTimeout n.val)

/-- PRBS_LOCK: the pattern checker holds its pattern; bits checked and bits in error since the last report (R353). -/
def execPrbsLock (t : Nat) (n : Fin 4) (checked : Nat) (errs : Nat) (s : State) : Host.Outcome State Fault Refusal :=
  .next (s.awake fun s => (s.at_ t).prbsSeen n.val checked errs)

end Sys2Proof.Machine
end

