-- ==== Sys2Proof/Machine/LoopFamily.lean ====
section
/-! DEFINITION. Commands of the loop engine and of run-ahead (06, 07). -/

namespace Sys2Proof.Machine

/-- What follows the runs of loop slots that a command has completed; `s0` is the state before it. -/
def State.afterRuns (s0 s : State) : State := s.each (List.range 128) fun s n => State.afterRun s0 s n

/-- LOOP_QUEUE_INTAKE: the engine takes one queue entry (R160). -/
def execLoopQueueIntake (s : State) : Host.Outcome State Fault Refusal := .next (s.awake fun s => s.intake)

/-- LS_PROGRAM_WRITE: LS_PROGRAM (R156). -/
def execLsProgramWrite (q : Req) (n : Fin 128) (img : List Byte) (s : State) : Host.Outcome State Fault Refusal :=
  .next (s.writeWhole q (0x3000 + n.val) 0x03 img)

/-- LS_RUN: LS_CMD RUN (R179). -/
def execLsRun (q : Req) (n : Fin 128) (s : State) : Host.Outcome State Fault Refusal :=
  .next (s.writeCmd q (0x3000 + n.val) 0x02 (leBytes 1 1))

/-- LS_STOP: LS_CMD STOP (R179). -/
def execLsStop (q : Req) (n : Fin 128) (s : State) : Host.Outcome State Fault Refusal :=
  .next (s.writeCmd q (0x3000 + n.val) 0x02 (leBytes 1 2))

/-- LS_HOLD: LS_CMD HOLD (R179). -/
def execLsHold (q : Req) (n : Fin 128) (s : State) : Host.Outcome State Fault Refusal :=
  .next (s.writeCmd q (0x3000 + n.val) 0x02 (leBytes 1 3))

/-- LS_RESUME: LS_CMD RESUME (R179). -/
def execLsResume (q : Req) (n : Fin 128) (s : State) : Host.Outcome State Fault Refusal :=
  .next (s.writeCmd q (0x3000 + n.val) 0x02 (leBytes 1 4))

/-- LS_UNLOAD: LS_CMD UNLOAD (R179). -/
def execLsUnload (q : Req) (n : Fin 128) (s : State) : Host.Outcome State Fault Refusal :=
  .next (s.writeCmd q (0x3000 + n.val) 0x02 (leBytes 1 5))

/-- LS_RUN_READY: every WAIT input of a released run is new (R161). -/
def execLsRunReady (n : Fin 128) (s : State) : Host.Outcome State Fault Refusal :=
  .next (s.awake fun s => s.runReady n.val)

/-- LS_IN_TIMEOUT: a release has waited LS_IN_TIMEOUT (R161). -/
def execLsInTimeout (n : Fin 128) (s : State) : Host.Outcome State Fault Refusal :=
  .next (s.awake fun s => s.inTimeout n.val)

/-- LS_RUN_START: a pipe takes its next ready run (R170). -/
def execLsRunStart (p : Fin 4) (s : State) : Host.Outcome State Fault Refusal :=
  .next (s.awake fun s => s.takePipe p.val)

/-- LS_RUN_END: the run of a slot ends (R151). -/
def execLsRunEnd (n : Fin 128) (s : State) : Host.Outcome State Fault Refusal :=
  .next (s.awake fun s => State.afterRuns s (s.endRun n.val))

/-- LEG_DELIVERY: the earliest delivery completes in the leg timing shadows (R166). -/
def execLegDelivery (s : State) : Host.Outcome State Fault Refusal := .next (s.awake fun s => s.deliver)

/-- LS_DEADLINE: D of the run of a slot passes (R173). -/
def execLsDeadline (n : Fin 128) (s : State) : Host.Outcome State Fault Refusal :=
  .next (s.awake fun s => s.deadline n.val)

/-- LS_BANK_SWAP: LS_BANK_SWAP (R175). -/
def execLsBankSwap (q : Req) (n : Fin 128) (s : State) : Host.Outcome State Fault Refusal :=
  .next (s.writeCmd q (0x3000 + n.val) 0x21 (leBytes 1 1))

/-- LS_COEF_IMAGE_WRITE: LS_COEF_IMAGE (R174). -/
def execLsCoefImageWrite (q : Req) (n : Fin 128) (img : List Byte) (s : State) : Host.Outcome State Fault Refusal :=
  .next (s.writeWhole q (0x3000 + n.val) 0x23 img)

/-- LS_COEF_WORD_WRITE: LS_COEF_WORD (R174). -/
def execLsCoefWordWrite (q : Req) (n : Fin 128) (v : BitVec 32) (s : State) : Host.Outcome State Fault Refusal :=
  .next (s.writeCmd q (0x3000 + n.val) 0x25 (leBytes 4 v.toNat))

/-- LS_COEF_DIRECT: LS_COEF_DIRECT: word index and value (R176). -/
def execLsCoefDirect (q : Req) (n : Fin 128) (w : BitVec 16) (v : BitVec 32)
    (s : State) : Host.Outcome State Fault Refusal :=
  .next (s.writeCmd q (0x3000 + n.val) 0x26 (leBytes 2 w.toNat ++ leBytes 2 0 ++ leBytes 4 v.toNat))

/-- LS_IN_VAL_WRITE: LS_IN_VAL of an input (R160). -/
def execLsInValWrite (q : Req) (n : Fin 128) (i : Fin 16) (v : BitVec 32) (s : State) : Host.Outcome State Fault Refusal :=
  .next (s.writeCmd q (0x3000 + n.val) (0x50 + i.val) (leBytes 4 v.toNat))

/-- LOOP_ECC_ERROR: an ECC error in the LOOP SRAM of a slot (R182); a manager's report card keeps it too (R436, R437). -/
def execLoopEccError (t : Nat) (n : Fin 128) (corrected : Bool) (s : State) : Host.Outcome State Fault Refusal :=
  .next (s.awake fun s => ((s.at_ t).loopEcc n.val corrected).eccCard corrected)

/-- RA_COMMIT_STAGE: the next ready commit stage of a pipe (R192). -/
def execRaCommitStage (p : Fin 4) (s : State) : Host.Outcome State Fault Refusal :=
  .next (s.awake fun s => State.afterRuns s (s.commitStage p.val))

/-- RA_T_LATE: T_LATE of a parked run passes (R191). -/
def execRaTLate (n : Fin 128) (s : State) : Host.Outcome State Fault Refusal := .next (s.awake fun s => s.late n.val)

end Sys2Proof.Machine
end

