-- ==== Sys2Proof/Machine/LvFamily.lean ====
section
/-! DEFINITION. Commands of the LV port (09). -/

namespace Sys2Proof.Machine

/-- LVC_TRIP: a comparator input has stood at a code beyond a threshold since t (R240). -/
def execLvcTrip (a : Fin 16) (v : Int) (t : Nat) (s : State) : Host.Outcome State Fault Refusal :=
  .next (s.awake fun s => s.cmpTrip a.val v t)

/-- LVC_TRIP_RELEASE: a comparator input leaves its trip thresholds (R257). -/
def execLvcTripRelease (a : Fin 16) (t : Nat) (v : Int) (s : State) : Host.Outcome State Fault Refusal :=
  .next (s.awake fun s => (s.at_ t).cmpRelease a.val v)

/-- LVP_START: LVP_CMD START (R251). -/
def execLvpStart (q : Req) (e : Fin 64) (s : State) : Host.Outcome State Fault Refusal :=
  .next (s.writeCmd q (0x3440 + e.val) 0x04 (leBytes 1 1))

/-- LVP_STOP: LVP_CMD STOP (R251). -/
def execLvpStop (q : Req) (e : Fin 64) (s : State) : Host.Outcome State Fault Refusal :=
  .next (s.writeCmd q (0x3440 + e.val) 0x04 (leBytes 1 2))

/-- LVP_CLEAR: LVP_CMD CLEAR (R248). -/
def execLvpClear (q : Req) (e : Fin 64) (s : State) : Host.Outcome State Fault Refusal :=
  .next (s.writeCmd q (0x3440 + e.val) 0x04 (leBytes 1 3))

/-- DRV_LISTEN_TIMEOUT: LISTEN has lasted 50 ms (R252). -/
def execDrvListenTimeout (e : Fin 64) (s : State) : Host.Outcome State Fault Refusal :=
  .next (s.awake fun s => s.listenOver e.val)

end Sys2Proof.Machine
end

