-- ==== Sys2Proof/Machine/ManagerFamily.lean ====
section
/-! DEFINITION. Commands of the managers and their followers (17). -/

namespace Sys2Proof.Machine

/-- MGR_HEARTBEAT_RX: a heartbeat by its payload (R427). -/
def execMgrHeartbeatRx (t : Nat) (src : Fin 1024) (p : List Byte) (s : State) : Host.Outcome State Fault Refusal :=
  .next (s.awake fun s => (s.at_ t).heartbeatRx src.val p)

/-- MGR_LISTEN_EXPIRY: the end of MGR_LISTEN (R428). -/
def execMgrListenExpiry (s : State) : Host.Outcome State Fault Refusal := .next (s.awake fun s => s.listenExpiry)

/-- MGR_TAKE_PASS: a standby has missed MGR_LOSS_CYCLES cycles (R429). -/
def execMgrTakePass (s : State) : Host.Outcome State Fault Refusal := .next (s.awake fun s => s.mgrTake)

/-- TRANSFER_REQ_RX: a TRANSFER_REQ of the other manager (R433). -/
def execTransferReqRx (t : Nat) (s : State) : Host.Outcome State Fault Refusal :=
  .next (s.awake fun s => (s.at_ t).transferReq)

/-- STATE_RX: a STATE chunk: K_S, offset, total and bytes (R433). -/
def execStateRx (t : Nat) (ks : BitVec 64) (ofs : BitVec 32) (total : BitVec 32) (chunk : List Byte)
    (s : State) : Host.Outcome State Fault Refusal :=
  .next (s.awake fun s => (s.at_ t).stateRx ks.toNat ofs.toNat total.toNat chunk)

/-- TRANSFER_TIMEOUT: a state transfer has not completed within 8 cycles (R433). -/
def execTransferTimeout (s : State) : Host.Outcome State Fault Refusal := .next (s.awake fun s => s.transferTimeout)

/-- MGR_TRANSFER: MGR_CMD TRANSFER (R444). -/
def execMgrTransfer (q : Req) (s : State) : Host.Outcome State Fault Refusal :=
  .next (s.writeCmd q 0x1400 0x0D (leBytes 1 2))

/-- MGR_HANDBACK: MGR_CMD HANDBACK (R439). -/
def execMgrHandback (q : Req) (s : State) : Host.Outcome State Fault Refusal :=
  .next (s.writeCmd q 0x1400 0x0D (leBytes 1 1))

/-- RECLAIM_HOLD_EXPIRY: MGR_RECLAIM_HOLD has passed (R439). -/
def execReclaimHoldExpiry (s : State) : Host.Outcome State Fault Refusal := .next (s.awake fun s => s.reclaim)

/-- HANDBACK_REQ_RX: a HANDBACK_REQ of the other manager (R440). -/
def execHandbackReqRx (t : Nat) (s : State) : Host.Outcome State Fault Refusal :=
  .next (s.awake fun s => (s.at_ t).handbackReq)

/-- HANDBACK_ACCEPT_RX: a HANDBACK_ACCEPT with K_H (R440). -/
def execHandbackAcceptRx (t : Nat) (kh : BitVec 64) (s : State) : Host.Outcome State Fault Refusal :=
  .next (s.awake fun s => (s.at_ t).handbackAccept kh.toNat)

/-- HANDBACK_ABORT_RX: a HANDBACK_ABORT (R440). -/
def execHandbackAbortRx (t : Nat) (reason : BitVec 16) (s : State) : Host.Outcome State Fault Refusal :=
  .next (s.awake fun s => (s.at_ t).handbackAbort reason.toNat)

/-- HANDBACK_SWITCH: the start of K_H (R440). -/
def execHandbackSwitch (s : State) : Host.Outcome State Fault Refusal := .next (s.awake fun s => s.handbackSwitch)

/-- OVERLAP_END: the last overlap cycle has passed (R440). -/
def execOverlapEnd (s : State) : Host.Outcome State Fault Refusal := .next (s.awake fun s => s.overlapEnd)

/-- WK_HOLD_EXPIRY: two system cycles without an accepted manager frame (R434). -/
def execWkHoldExpiry (s : State) : Host.Outcome State Fault Refusal := .next (s.awake fun s => s.wkHold)

/-- WK_DROOP_EXPIRY: WK_T_HOLD without an accepted manager frame (R434). -/
def execWkDroopExpiry (s : State) : Host.Outcome State Fault Refusal := .next (s.awake fun s => s.wkDroop)

/-- RC_PERIOD_TICK: RC_PERIOD passes (R436). -/
def execRcPeriodTick (t : Nat) (idle : BitVec 69) (s : State) : Host.Outcome State Fault Refusal :=
  .next (s.awake fun s => (s.at_ t).rcTick idle.toNat)

end Sys2Proof.Machine
end

