-- ==== Sys2Proof/Machine/MeasureFamily.lean ====
section
/-! DEFINITION. Commands of the measurement chain (05). -/

namespace Sys2Proof.Machine

/-- MD_CTRL_WRITE: MD_CTRL, an OSR or MD_TRIP_ACT (R123). -/
def execMdCtrlWrite (q : Req) (m : Fin 96) (which : Fin 4) (v : BitVec 16) (s : State) : Host.Outcome State Fault Refusal :=
  .next (s.writeCmd q (0x2800 + m.val) ([0x01, 0x02, 0x03, 0x0D].getD which.val 0) (leBytes (if which.val = 3 then 1 else 2) v.toNat))

/-- MD_TIMING_VIOLATION: a data transition within 4 ns of the capture edge (R116). -/
def execMdTimingViolation (m : Fin 96) (t : Nat) (s : State) : Host.Outcome State Fault Refusal :=
  .next (s.awake fun s => s.mdViolation m.val t)

/-- MD_CLOCK_RECOVER: 1 ms after the last timing violation (R116). -/
def execMdClockRecover (m : Fin 96) (s : State) : Host.Outcome State Fault Refusal :=
  .next (s.awake fun s => s.mdRecover m.val)

/-- MD_RUN_LIMIT: a run of identical bits (R117). -/
def execMdRunLimit (m : Fin 96) (t : Nat) (run : Nat) (s : State) : Host.Outcome State Fault Refusal :=
  .next (s.awake fun s => s.mdRun m.val t run)

/-- MD_FILTER_FILLED: a filter completes its fill time (R118). -/
def execMdFilterFilled (m : Fin 96) (t : Nat) (ctrl : Bool) (s : State) : Host.Outcome State Fault Refusal :=
  .next (s.awake fun s => s.mdFilled m.val t ctrl)

/-- MD_TRIP: a trip asserts: the bits captured up to t (R121). -/
def execMdTrip (m : Fin 96) (t : Nat) (stream : List Bool) (s : State) : Host.Outcome State Fault Refusal :=
  .next (s.awake fun s => s.mdTrip m.val t stream)

/-- MD_TRIP_RELEASE: v lies back between the trip thresholds: the bits captured up to t (R121). -/
def execMdTripRelease (m : Fin 96) (t : Nat) (stream : List Bool) (s : State) : Host.Outcome State Fault Refusal :=
  .next (s.awake fun s => s.mdTripEnd m.val t stream)

/-- MD_CTRL_OUTPUT: the control path delivers its next output, from the bits captured up to the end of its span (R119). -/
def execMdCtrlOutput (stream : List Bool) (s : State) : Host.Outcome State Fault Refusal :=
  .next (s.awake fun s => s.mdOutput stream)

/-- TRG_SAMPLE: the next firing reaches its t_s (R133). -/
def execTrgSample (s : State) : Host.Outcome State Fault Refusal := .next (s.awake fun s => s.trgSample)

/-- SAR_CONVERSION_DONE: the next conversion completes with the codes of its holds (R124). -/
def execSarConversionDone (codes : List Int) (s : State) : Host.Outcome State Fault Refusal :=
  .next (s.awake fun s => s.sarDone codes)

/-- SLICE_STREAM_UPDATE: a pair of holds of a streaming pair, and the even hold that follows (R128). -/
def execSliceStreamUpdate (i : Fin 8) (e : Int) (o : Int) (e2 : Int) (s : State) : Host.Outcome State Fault Refusal :=
  .next (s.awake fun s => s.streamUpdate i.val e o e2)

/-- SLICE_CONVERGED: 5τ or 20τ of streaming have passed (R129). -/
def execSliceConverged (i : Fin 8) (skew : Bool) (s : State) : Host.Outcome State Fault Refusal :=
  .next (s.awake fun s => s.streamConverged i.val skew)

/-- QUEUE_ENTRY: the next entry enters the result queue (R139). -/
def execQueueEntry (s : State) : Host.Outcome State Fault Refusal := .next (s.awake fun s => s.queueEntry)

/-- Q_HOST_POP: a read of Q_HOST_POP (R141). -/
def execQHostPop (q : Req) (s : State) : Host.Outcome State Fault Refusal := .next (s.readCmd q 0x2A00 0x04)

/-- Q_HOST_AGE_EXPIRY: the oldest host entry becomes older than Q_HOST_AGE (R141). -/
def execQHostAgeExpiry (s : State) : Host.Outcome State Fault Refusal := .next (s.awake fun s => s.ageHost)

/-- Q_CLR: Q_CLR (R146). -/
def execQClr (q : Req) (s : State) : Host.Outcome State Fault Refusal := .next (s.writeCmd q 0x2A00 0x09 (leBytes 1 1))

end Sys2Proof.Machine
end

