-- ==== Sys2Proof/Machine/PinOps.lean ====
section
/-! DEFINITION. The output pins of R501 and R557: what each shows at a local time from the last reset on. -/

namespace Sys2Proof.Machine

/-- The output pins of R501. -/
inductive OutPin where
  | gh (l : Nat)
  | gl (l : Nat)
  | mclk (n : Nat)
  | so (n : Nat)
  | txdis (n : Nat)
  | ppsOut
  | trig (n : Nat)
  | xspiCs (n : Nat)
  | xspiResetN
  | rgmii
  | canTx
  | alertN
  | hostIrqN
  deriving DecidableEq, Repr

/-- What an output pin shows: it floats, an open drain is released, it is driven low or high, or it carries its unit's signal. -/
inductive PinLevel where
  | float | released | low | high | signal
  deriving DecidableEq, Repr

/-- A level driven. -/
def driven (b : Bool) : PinLevel := if b then .high else .low

/-- VDDIO_L bank of leg Ll is in range (R494). -/
def State.bankOn (s : State) (l : Nat) : Bool := s.pwr.supply.testBit (l / 24)

/-- First column of R501: VDD_CORE below its range. -/
def pinOff : OutPin → PinLevel
  | .alertN | .hostIrqN => .released
  | _ => .float

/-- Second column of R501: a reset is held. -/
def State.pinReset (s : State) : OutPin → PinLevel
  | .gh l | .gl l => if s.bankOn l then .low else .float
  | .mclk _ | .so _ | .ppsOut | .trig _ | .xspiResetN => .low
  | .txdis _ | .xspiCs _ => .high
  | .rgmii | .canTx => .float
  | .alertN => if s.pwr.alert then .low else .released
  | .hostIrqN => .released

/-- Last column of R501: SLEEP. -/
def pinSleep : OutPin → PinLevel
  | .so _ | .ppsOut | .trig _ => .low
  | .txdis _ => .high
  | .alertN | .hostIrqN => .released
  | _ => .float

/-- The pin while the device runs; a pin whose domain or supply is off floats, and SFPn_TXDIS is high with its lane off (R336). -/
def State.pinRun (s : State) : OutPin → PinLevel
  | .gh l => if s.bankOn l && s.domOn domLegs then driven (s.gg l).gh else .float
  | .gl l => if s.bankOn l && s.domOn domLegs then driven (s.gg l).gl else .float
  | .mclk _ => if s.domOn domMeas then .signal else .float
  | .so n => driven (s.so n).drv
  | .txdis n => driven (!(s.domOn domLink && s.laneOn n))
  | .ppsOut => .signal
  | .trig n => if s.rd (Od.TRIG_MODE n) = 4 then .signal else .float
  | .xspiCs _ | .xspiResetN => if s.domOn 8 && s.pwr.supply.testBit 9 then .signal else .float
  | .rgmii => if s.domOn 7 && s.pwr.supply.testBit 9 then .signal else .float
  | .canTx => if s.domOn 7 then .signal else .float
  | .alertN => if s.pwr.alert then .low else .released
  | .hostIrqN => if s.hostIrq then .low else .released

/-- What pin p shows at local time x, from the beginning of the last reset on (R495, R501). -/
def State.pinAt (s : State) (x : Nat) (p : OutPin) : PinLevel :=
  if s.pwr.lowFrom ≤ x && x < s.pwr.coreTo then pinOff p
  else if s.pwr.held || (s.pwr.lowFrom ≤ x && x < s.pwr.heldTo) then s.pinReset p
  else if s.pwr.sleep then pinSleep p
  else s.pinRun p

end Sys2Proof.Machine
end

