-- ==== Sys2Proof/Machine/PowerFamily.lean ====
section
/-! DEFINITION. Commands of power, reset and start-up (20). -/

namespace Sys2Proof.Machine

/-- PWR_REQ_WRITE: PWR_REQ (R497). -/
def execPwrReqWrite (q : Req) (v : BitVec 16) (s : State) : Host.Outcome State Fault Refusal :=
  .next (s.writeCmd q 0x1900 0x02 (leBytes 2 v.toNat))

/-- DOMAIN_WAKE_ACCESS: an access of a master to a domain, which wakes it if it is off (R498, R14). -/
def execDomainWakeAccess (t : Nat) (d : Fin 10) (a : BusUse) (s : State) : Host.Outcome State Fault Refusal :=
  .next (s.awake fun s => (s.at_ t).busAccess d.val a.master.val a.write)

/-- DOMAIN_READY: a waking domain is ready (R499). -/
def execDomainReady (d : Fin 10) (t : Nat) (s : State) : Host.Outcome State Fault Refusal :=
  .next (s.awake fun s => (s.domainReady d.val t).serveStalled)

/-- PWR_WAKE_TMO: a domain is not ready within four wake times (R498). -/
def execPwrWakeTmo (d : Fin 10) (s : State) : Host.Outcome State Fault Refusal :=
  .next (s.awake fun s => (s.wakeTimeout d.val).refuseStalled d.val)

/-- PWR_BANK: a VDDIO_L bank leaves its range (R496). -/
def execPwrBank (t : Nat) (b : Fin 8) (s : State) : Host.Outcome State Fault Refusal :=
  .next (if s.runs then ((s.at_ t).pwrBank b.val).settleReset else (s.at_ t).supplySet b.val false)

/-- PWR_ANALOG: VDDA_ADC leaves its range (R496). -/
def execPwrAnalog (t : Nat) (s : State) : Host.Outcome State Fault Refusal :=
  .next (if s.runs then (s.at_ t).pwrAnalog else (s.at_ t).supplySet 8 false)

/-- PWR_IO: a SERDES or VDDIO_1V8 supply leaves its range (R496). -/
def execPwrIo (t : Nat) (i : Fin 3) (s : State) : Host.Outcome State Fault Refusal :=
  .next (if s.runs then (s.at_ t).pwrIo (9 + i.val) else (s.at_ t).supplySet (9 + i.val) false)

/-- SUPPLY_IN_RANGE: a supply returns into its range (R496). -/
def execSupplyInRange (t : Nat) (i : Fin 12) (s : State) : Host.Outcome State Fault Refusal :=
  .next ((s.at_ t).supplySet i.val true)

/-- SLEEP: PWR_CMD 0x01 (R502). -/
def execSleep (q : Req) (s : State) : Host.Outcome State Fault Refusal := .next (s.writeCmd q 0x1900 0x0B (leBytes 1 1))

/-- WAKE_N: WAKE_N is low for `width` ps from t on (R502). -/
def execWakeN (t : Nat) (width : Nat) (s : State) : Host.Outcome State Fault Refusal := .next (s.wakeN t width)

/-- SLEEP_TIMER_EXPIRY: SLEEP_TIMER expires (R502). -/
def execSleepTimerExpiry (s : State) : Host.Outcome State Fault Refusal := .next (s.sleepTimer)

/-- PORST_N: PORST_N is low from t on (R503), VDD_CORE below its range for a part of it (R495). -/
def execPorstN (t : Nat) (low : CoreLow) (s : State) : Host.Outcome State Fault Refusal := .next (s.porstN t low.width low.core)

/-- RST_N: RST_N is low for `width` ps from t on (R504). -/
def execRstN (t : Nat) (width : Nat) (s : State) : Host.Outcome State Fault Refusal := .next (s.rstN t width)

/-- RST_HELD: RST_N has been low since t for 10 s and stays low (R505). -/
def execRstHeld (t : Nat) (s : State) : Host.Outcome State Fault Refusal := .next (s.rstHeldLow t)

/-- RST_CMD: RST_CMD 0xA5 (R503). -/
def execRstCmd (q : Req) (s : State) : Host.Outcome State Fault Refusal :=
  .next (s.writeCmd q 0x1900 0x0A (leBytes 1 0xA5))

/-- HOST_WD_SERVICE: HOST_WD_SERVICE (R503). -/
def execHostWdService (q : Req) (s : State) : Host.Outcome State Fault Refusal :=
  .next (s.writeCmd q 0x1900 0x11 (leBytes 1 1))

/-- HOST_WD_EXPIRY: 100 ms without service (R503). -/
def execHostWdExpiry (s : State) : Host.Outcome State Fault Refusal := .next (s.awake fun s => s.hostWdExpiry)

/-- BOOT_STAGE_DONE: the stage in progress ends; `bad`: retention words with wrong parity (R509). -/
def execBootStageDone (t : Nat) (bad : Nat) (s : State) : Host.Outcome State Fault Refusal :=
  .next (s.awake fun s => s.bootStage t bad)

end Sys2Proof.Machine
end

