-- ==== Sys2Proof/Machine/RingFamily.lean ====
section
/-! DEFINITION. Commands of the ring switch (15). -/

namespace Sys2Proof.Machine

/-- RING_FRAME_RX: the bytes of a frame arrive on a lane (R366, R369). -/
def execRingFrameRx (t : Nat) (n : Fin 4) (l : List Byte) (s : State) : Host.Outcome State Fault Refusal :=
  .next (s.awake fun s => s.frameRx t n.val l)

/-- RING_TX_START: a free output lane starts its next frame (R374). -/
def execRingTxStart (n : Fin 4) (s : State) : Host.Outcome State Fault Refusal :=
  .next (s.awake fun s => s.ringTx n.val)

/-- TC0_SEND: TC0 frame t at its offset (R375). -/
def execTc0Send (i : Fin 16) (s : State) : Host.Outcome State Fault Refusal := .next (s.awake fun s => s.tc0Send i.val)

/-- SYSTEM_CYCLE: the next system cycle starts (R426). -/
def execSystemCycle (s : State) : Host.Outcome State Fault Refusal := .next (s.awake fun s => s.systemCycle)

/-- ROLL_CALL: RING_CMD 0x01 (R362). -/
def execRollCall (q : Req) (s : State) : Host.Outcome State Fault Refusal :=
  .next (s.writeCmd q 0x1200 0x03 (leBytes 1 1))

/-- ROLL_CALL_COMMIT: a roll call takes effect at its apply time (R362). -/
def execRollCallCommit (apply : BitVec 112) (roll : Roll) (s : State) : Host.Outcome State Fault Refusal :=
  .next (s.awake fun s => (s.rollCommit (timeOf apply.toNat) roll).abortHandback 2)

/-- ROLL_CALL_TIMEOUT: a roll call has not completed within 1 s (R362). -/
def execRollCallTimeout (s : State) : Host.Outcome State Fault Refusal := .next (s.awake fun s => s.rollTimeout)

/-- TC3_WAIT_EXPIRY: TC3 data has waited RING_TC3_WAIT (R380). -/
def execTc3WaitExpiry (s : State) : Host.Outcome State Fault Refusal := .next (s.awake fun s => s.tc3Expiry)

/-- ALM_ACK: ALM_ACK (R386). -/
def execAlmAck (q : Req) (seq : BitVec 32) (s : State) : Host.Outcome State Fault Refusal :=
  .next (s.writeCmd q 0x1230 0x05 (leBytes 4 seq.toNat))

/-- ALM_READ: a read of ALM_READ (R388). -/
def execAlmRead (q : Req) (s : State) : Host.Outcome State Fault Refusal := .next (s.readCmd q 0x1230 0x04)

/-- ALM_SUM_PERIOD: ALM_SUM_PERIOD passes (R387). -/
def execAlmSumPeriod (s : State) : Host.Outcome State Fault Refusal := .next (s.awake fun s => s.sumPeriod)

end Sys2Proof.Machine
end

