-- ==== Sys2Proof/Machine/SafetyFamily.lean ====
section
/-! DEFINITION. Commands of the safety core (13). -/

namespace Sys2Proof.Machine

/-- SF_WD_EXPIRY: the safety watchdog expires (R308). -/
def execSfWdExpiry (t : Nat) (s : State) : Host.Outcome State Fault Refusal := .next (s.awake fun s => (s.at_ t).sfWd)

/-- SF_STO_HW_MISMATCH: pin and channel readback of a group have disagreed for 1 ms (R309). -/
def execSfStoHwMismatch (t : Nat) (g : Fin 2) (s : State) : Host.Outcome State Fault Refusal :=
  .next (s.awake fun s => (s.at_ t).sfMismatch g.val)

/-- SAFE_WRITE: a write of a SAFE entry (R310). -/
def execSafeWrite (q : Req) (idx : BitVec 16) (sub : BitVec 8) (data : List Byte)
    (s : State) : Host.Outcome State Fault Refusal :=
  .next (s.writeCmd q idx.toNat sub.toNat data)

/-- SF_STO_DISC: the demands of a pair have differed for SF_STO_DISC_TIME (R313). -/
def execSfStoDisc (s : State) : Host.Outcome State Fault Refusal := .next (s.awake fun s => s.stoDisc)

/-- STO_RELEASE_QUALIFIED: a pin has shown release for 10 ms (R315). -/
def execStoReleaseQualified (g : Fin 2) (s : State) : Host.Outcome State Fault Refusal :=
  .next (s.awake fun s => s.stoQualified g.val)

/-- SF_STO_ACK: SF_STO_ACK (R317). -/
def execSfStoAck (q : Req) (v : BitVec 32) (s : State) : Host.Outcome State Fault Refusal :=
  .next (s.writeCmd q 0x3800 0x14 (leBytes 4 v.toNat))

/-- SF_PROOF_TEST: the safety core tests the channel of a group (R318). -/
def execSfProofTest (g : Fin 2) (pass : Bool) (s : State) : Host.Outcome State Fault Refusal :=
  .next (s.awake fun s => s.proofTest g.val pass)

/-- SF_STO_TEST_DUE: the last passed test of a group is older than SF_STO_PROOF (R318). -/
def execSfStoTestDue (g : Fin 2) (s : State) : Host.Outcome State Fault Refusal :=
  .next (s.awake fun s => s.testDue g.val)

/-- SO_TEST_PULSE: a safe output is pulsed low; `low`: the readback followed (R320). -/
def execSoTestPulse (n : Fin 4) (low : Bool) (s : State) : Host.Outcome State Fault Refusal :=
  .next (s.awake fun s => s.soPulse n.val low)

/-- SO_PULSE_END: the pulse ends; `high`: the readback followed (R320). -/
def execSoPulseEnd (n : Fin 4) (high : Bool) (s : State) : Host.Outcome State Fault Refusal :=
  .next (s.awake fun s => s.soPulseEnd n.val high)

/-- SO_READBACK_FAULT: the readback of a safe output disagrees (R321). -/
def execSoReadbackFault (t : Nat) (n : Fin 4) (rb : Bool) (s : State) : Host.Outcome State Fault Refusal :=
  .next (s.awake fun s => (s.at_ t).soFault n.val rb)

/-- SDP_SEND: a producer sends its next telegram (R323). -/
def execSdpSend (p : Fin 4) (s : State) : Host.Outcome State Fault Refusal := .next (s.awake fun s => s.sdpSend p.val)

/-- SAFE_TELEGRAM_RX: a copy of a safe telegram arrives (R324). -/
def execSafeTelegramRx (src : Fin 1024) (t : Nat) (tel : List Byte) (s : State) : Host.Outcome State Fault Refusal :=
  .next (s.awake fun s => s.telegram src.val t tel)

/-- SDC_SKEW_EXPIRY: a skew window ends (R324). -/
def execSdcSkewExpiry (k : Fin 16) (s : State) : Host.Outcome State Fault Refusal :=
  .next (s.awake fun s => s.skewExpiry k.val)

/-- SDC_WD_EXPIRY: a consumer has accepted no telegram for SDC_WD (R325). -/
def execSdcWdExpiry (k : Fin 16) (s : State) : Host.Outcome State Fault Refusal :=
  .next (s.awake fun s => s.sdcExpiry k.val)

/-- SF_OPEN: SF_SIGNOFF_CMD OPEN (R328). -/
def execSfOpen (q : Req) (s : State) : Host.Outcome State Fault Refusal :=
  .next (s.writeCmd q 0x3800 0x02 (leBytes 1 1))

/-- SF_VERIFY: SF_SIGNOFF_CMD VERIFY (R328). -/
def execSfVerify (q : Req) (s : State) : Host.Outcome State Fault Refusal :=
  .next (s.writeCmd q 0x3800 0x02 (leBytes 1 2))

/-- SF_ABORT: SF_SIGNOFF_CMD ABORT (R328). -/
def execSfAbort (q : Req) (s : State) : Host.Outcome State Fault Refusal :=
  .next (s.writeCmd q 0x3800 0x02 (leBytes 1 3))

/-- SF_CONFIRM: SF_CONFIRM (R328). -/
def execSfConfirm (q : Req) (v : BitVec 32) (s : State) : Host.Outcome State Fault Refusal :=
  .next (s.writeCmd q 0x3800 0x05 (leBytes 4 v.toNat))

/-- SF_IMAGE_WRITE: SF_IMAGE (R328). -/
def execSfImageWrite (q : Req) (img : List Byte) (s : State) : Host.Outcome State Fault Refusal :=
  .next (s.writeWhole q 0x3800 0x09 img)

/-- SF_SIGNOFF_TIMEOUT: 10 min without a session command (R329). -/
def execSfSignoffTimeout (s : State) : Host.Outcome State Fault Refusal := .next (s.awake fun s => s.sessionTimeout)

end Sys2Proof.Machine
end

