-- ==== Sys2Proof/Machine/SlotFamily.lean ====
section
/-! DEFINITION. Commands of the cell slots (02). -/

namespace Sys2Proof.Machine

/-- START: SLOT_CMD START on the units of a mask (R38). -/
def execStart (q : Req) (c : Fin 32) (mask : BitVec 6) (s : State) : Host.Outcome State Fault Refusal :=
  .next (s.writeCmd q (0x2100 + c.val) 0x03 (leBytes 2 (1 + mask.toNat * 256)))

/-- STOP: SLOT_CMD STOP on the units of a mask (R33). -/
def execStop (q : Req) (c : Fin 32) (mask : BitVec 6) (s : State) : Host.Outcome State Fault Refusal :=
  .next (s.writeCmd q (0x2100 + c.val) 0x03 (leBytes 2 (2 + mask.toNat * 256)))

/-- BYPASS: SLOT_CMD BYPASS; the mask is ignored (R36). -/
def execBypass (q : Req) (c : Fin 32) (mask : BitVec 6) (s : State) : Host.Outcome State Fault Refusal :=
  .next (s.writeCmd q (0x2100 + c.val) 0x03 (leBytes 2 (3 + mask.toNat * 256)))

/-- INSERT: SLOT_CMD INSERT; the mask is ignored (R226). -/
def execInsert (q : Req) (c : Fin 32) (mask : BitVec 6) (s : State) : Host.Outcome State Fault Refusal :=
  .next (s.writeCmd q (0x2100 + c.val) 0x03 (leBytes 2 (4 + mask.toNat * 256)))

/-- CLEAR: SLOT_CMD CLEAR on the units of a mask (R37). -/
def execClear (q : Req) (c : Fin 32) (mask : BitVec 6) (s : State) : Host.Outcome State Fault Refusal :=
  .next (s.writeCmd q (0x2100 + c.val) 0x03 (leBytes 2 (5 + mask.toNat * 256)))

/-- SLOT_TEMPLATE_WRITE: SLOT_TEMPLATE (R44). -/
def execSlotTemplateWrite (q : Req) (c : Fin 32) (v : BitVec 8) (s : State) : Host.Outcome State Fault Refusal :=
  .next (s.writeCmd q (0x2100 + c.val) 0x01 (leBytes 1 v.toNat))

/-- ALL_STOP: ALL_STOP (R46). -/
def execAllStop (q : Req) (s : State) : Host.Outcome State Fault Refusal :=
  .next (s.writeCmd q 0x2000 0x04 (leBytes 1 1))

/-- UNIT_LOOP_BIND: UNIT_LOOP of a unit (R43). -/
def execUnitLoopBind (q : Req) (c : Fin 32) (u : Fin 6) (v : BitVec 8) (s : State) : Host.Outcome State Fault Refusal :=
  .next (s.writeCmd q (0x2100 + c.val) (0x10 + u.val) (leBytes 1 v.toNat))

/-- SAFEOFF_STEP: the next step of the sequence that runs on a unit (R31). -/
def execSafeoffStep (c : Fin 32) (u : Fin 6) (s : State) : Host.Outcome State Fault Refusal :=
  .next (s.awake fun s => (s.seqStepDue c.val u.val).settleReset)

end Sys2Proof.Machine
end

