-- ==== Sys2Proof/Machine/StoreFamily.lean ====
section
/-! DEFINITION. Commands of the stores and of device security (21). -/

namespace Sys2Proof.Machine

/-- CFG_COMMIT: CFG_CMD COMMIT (R517). -/
def execCfgCommit (q : Req) (s : State) : Host.Outcome State Fault Refusal :=
  .next (s.writeCmd q 0x1B00 0x03 (leBytes 1 1))

/-- CFG_DEFAULTS: CFG_CMD DEFAULTS (R539). -/
def execCfgDefaults (q : Req) (s : State) : Host.Outcome State Fault Refusal :=
  .next (s.writeCmd q 0x1B00 0x03 (leBytes 1 2))

/-- CFG_COMMIT_DONE: a bank write ends; `good`: readback and DIGEST agree (R517). -/
def execCfgCommitDone (t : Nat) (good : Bool) (s : State) : Host.Outcome State Fault Refusal :=
  .next (s.awake fun s => s.commitDone t good)

/-- CFG_IMAGE_WRITE: CFG_IMAGE (R520). -/
def execCfgImageWrite (q : Req) (img : List Byte) (s : State) : Host.Outcome State Fault Refusal :=
  .next (s.writeWhole q 0x1B00 0x05 img)

/-- FW_IMAGE_WRITE: FW_IMAGE (R525). -/
def execFwImageWrite (q : Req) (img : List Byte) (s : State) : Host.Outcome State Fault Refusal :=
  .next (s.writeWhole q 0x1B00 0x10 img)

/-- FW_ACTIVATE: FW_CMD ACTIVATE (R525). -/
def execFwActivate (q : Req) (s : State) : Host.Outcome State Fault Refusal :=
  .next (s.writeCmd q 0x1B00 0x11 (leBytes 1 1))

/-- FW_CONFIRM: FW_CMD CONFIRM (R525). -/
def execFwConfirm (q : Req) (s : State) : Host.Outcome State Fault Refusal :=
  .next (s.writeCmd q 0x1B00 0x11 (leBytes 1 2))

/-- OWNER_KEY: SEC_FUSE_CMD OWNER_KEY (R527). -/
def execOwnerKey (q : Req) (s : State) : Host.Outcome State Fault Refusal :=
  .next (s.writeCmd q 0x1B40 0x04 (leBytes 1 1))

/-- REVOKE_KEY0: SEC_FUSE_CMD REVOKE_KEY0 (R527). -/
def execRevokeKey0 (q : Req) (s : State) : Host.Outcome State Fault Refusal :=
  .next (s.writeCmd q 0x1B40 0x04 (leBytes 1 2))

/-- OWN_RB: SEC_FUSE_CMD OWN_RB (R527). -/
def execOwnRb (q : Req) (s : State) : Host.Outcome State Fault Refusal := .next (s.writeCmd q 0x1B40 0x04 (leBytes 1 3))

/-- DEBUG_KILL: SEC_FUSE_CMD DEBUG_KILL (R527). -/
def execDebugKill (q : Req) (s : State) : Host.Outcome State Fault Refusal :=
  .next (s.writeCmd q 0x1B40 0x04 (leBytes 1 4))

/-- SEC_DEBUG_UNLOCK: SEC_DEBUG_UNLOCK (R528). -/
def execSecDebugUnlock (q : Req) (img : List Byte) (s : State) : Host.Outcome State Fault Refusal :=
  .next (s.writeWhole q 0x1B40 0x0B img)

/-- SEC_NONCE: SEC_NONCE (R529). -/
def execSecNonce (q : Req) (data : List Byte) (s : State) : Host.Outcome State Fault Refusal :=
  .next (s.writeCmd q 0x1B40 0x07 data)

/-- SEC_ATTEST: a read of SEC_ATTEST (R529). -/
def execSecAttest (q : Req) (s : State) : Host.Outcome State Fault Refusal := .next (s.readCmd q 0x1B40 0x08)

/-- CEL_LOG_PAGE_WRITE: the open log page is written (R530). -/
def execCelLogPageWrite (s : State) : Host.Outcome State Fault Refusal := .next (s.awake fun s => s.seeWear s.logPage)

/-- TRIGGER: CEL_CMD TRIGGER (R531). -/
def execTrigger (q : Req) (s : State) : Host.Outcome State Fault Refusal :=
  .next (s.writeCmd q 0x1B20 0x02 (leBytes 1 1))

/-- PROTECT: CEL_CMD PROTECT (R533). -/
def execProtect (q : Req) (s : State) : Host.Outcome State Fault Refusal :=
  .next (s.writeCmd q 0x1B20 0x02 (leBytes 1 2))

/-- UNPROTECT: CEL_CMD UNPROTECT (R533). -/
def execUnprotect (q : Req) (s : State) : Host.Outcome State Fault Refusal :=
  .next (s.writeCmd q 0x1B20 0x02 (leBytes 1 3))

/-- UPLOAD: CEL_CMD UPLOAD (R535). -/
def execUpload (q : Req) (s : State) : Host.Outcome State Fault Refusal :=
  .next (s.writeCmd q 0x1B20 0x02 (leBytes 1 4))

/-- CEL_READ: a read of CEL_READ, as READ_SEG (R535). -/
def execCelRead (q : Req) (offset : BitVec 32) (len : BitVec 16) (s : State) : Host.Outcome State Fault Refusal :=
  .next (s.request ⟨q, 4, 0x1B20, 0x0B, false, false, false, offset.toNat, len.toNat, []⟩)

/-- CEL_DUMP_END: the post-window of a dump is over (R532). -/
def execCelDumpEnd (s : State) : Host.Outcome State Fault Refusal := .next (s.awake fun s => s.dumpEnd)

/-- PRE_WINDOW_WRITTEN: the frozen trace RAM is in the dump (R531). -/
def execPreWindowWritten (s : State) : Host.Outcome State Fault Refusal := .next (s.awake fun s => s.preWritten)

/-- UPLOAD_DONE: an upload has sent its last byte (R535). -/
def execUploadDone (s : State) : Host.Outcome State Fault Refusal := .next (s.awake fun s => s.uploadDone)

/-- FUSE_CMD_DONE: a fuse command ends (R527). -/
def execFuseCmdDone (t : Nat) (good : Bool) (s : State) : Host.Outcome State Fault Refusal :=
  .next (s.awake fun s => s.fuseDone t good)

end Sys2Proof.Machine
end

