-- ==== Sys2Proof/Machine/StringFamily.lean ====
section
/-! DEFINITION. Commands of the strings and of the cell cycle (02, 08). -/

namespace Sys2Proof.Machine

/-- CELL_CYCLE_BOUNDARY: the next cell-cycle boundary (R45). -/
def execCellCycleBoundary (s : State) : Host.Outcome State Fault Refusal := .next (s.awake fun s => s.cellCycle)

/-- PRECHARGE: STR_CMD PRECHARGE (R219). -/
def execPrecharge (q : Req) (i : Fin 32) (s : State) : Host.Outcome State Fault Refusal :=
  .next (s.writeCmd q (0x3220 + i.val) 0x03 (leBytes 1 1))

/-- MAIN_CLOSED: STR_CMD MAIN_CLOSED (R219). -/
def execMainClosed (q : Req) (i : Fin 32) (s : State) : Host.Outcome State Fault Refusal :=
  .next (s.writeCmd q (0x3220 + i.val) 0x03 (leBytes 1 2))

/-- STR_STOP: STR_CMD STOP (R210). -/
def execStrStop (q : Req) (i : Fin 32) (s : State) : Host.Outcome State Fault Refusal :=
  .next (s.writeCmd q (0x3220 + i.val) 0x03 (leBytes 1 3))

/-- STR_CLEAR: STR_CMD CLEAR (R210). -/
def execStrClear (q : Req) (i : Fin 32) (s : State) : Host.Outcome State Fault Refusal :=
  .next (s.writeCmd q (0x3220 + i.val) 0x03 (leBytes 1 4))

/-- STR_CMD_APPLY: a string command reaches its apply time (R209). -/
def execStrCmdApply (i : Fin 32) (s : State) : Host.Outcome State Fault Refusal :=
  .next (s.awake fun s => s.strApply i.val)

/-- STRING_RECORD_RX: a TC1 string record: command, stop, block or release (R209). -/
def execStringRecordRx (t : Nat) (node : Fin 1024) (kind : Fin 4) (id : BitVec 16) (cmd : BitVec 8) (apply : BitVec 112)
    (s : State) : Host.Outcome State Fault Refusal :=
  .next (s.awake fun s => (s.at_ t).stringRecord node.val ([recCommand, recStop, recBlock, recRelease].getD kind.val 0) id.toNat 0 cmd.toNat (timeOf apply.toNat))

/-- STR_PC_TIMEOUT: STR_PC_TIMEOUT passes (R220). -/
def execStrPcTimeout (i : Fin 32) (s : State) : Host.Outcome State Fault Refusal :=
  .next (s.awake fun s => s.pcTimeout i.val)

/-- STR_BYP_CHECK: STR_BYP_TIME after a bypass (R227). -/
def execStrBypCheck (i : Fin 32) (s : State) : Host.Outcome State Fault Refusal :=
  .next (s.awake fun s => s.bypCheck i.val)

/-- STR_HOME_LOST: three system cycles without a record of the home device (R218). -/
def execStrHomeLost (i : Fin 32) (s : State) : Host.Outcome State Fault Refusal :=
  .next (s.awake fun s => s.homeLost i.val)

/-- STR_RIDE_OUT: STR_RIDE_TIME passes, or the mean falls below STR_RIDE_VMIN (R232). -/
def execStrRideOut (i : Fin 32) (s : State) : Host.Outcome State Fault Refusal :=
  .next (s.awake fun s => s.rideOut i.val)

end Sys2Proof.Machine
end

