-- ==== Sys2Proof/Machine/ThermalFamily.lean ====
section
/-! DEFINITION. Commands of the thermal unit (11). -/

namespace Sys2Proof.Machine

/-- TH_INTERVAL_TICK: a thermal interval; `ok`: a shutdown record can be written (R275). -/
def execThIntervalTick (ok : Bool) (s : State) : Host.Outcome State Fault Refusal :=
  .next (s.awake fun s => s.thInterval ok)

/-- TH_DIE_CONVERSION: the die sensors are converted, as binary32 codes in °C (R280). -/
def execThDieConversion (d0 : BitVec 32) (d1 : BitVec 32) (d2 : BitVec 32) (d3 : BitVec 32) (ok : Bool)
    (s : State) : Host.Outcome State Fault Refusal :=
  .next (s.awake fun s => s.dieConvert [d0.toNat, d1.toNat, d2.toNat, d3.toNat] ok)

/-- TH_REC_RETRY: an unwritten shutdown record is tried again (R282). -/
def execThRecRetry (ok : Bool) (s : State) : Host.Outcome State Fault Refusal := .next (s.awake fun s => s.thRetry ok)

/-- TH_SHUT_CLR: TH_SHUT_CLR (R283). -/
def execThShutClr (q : Req) (v : BitVec 32) (s : State) : Host.Outcome State Fault Refusal :=
  .next (s.writeCmd q 0x3600 0x07 (leBytes 4 v.toNat))

/-- TH_SENSOR_CLR: TH_SENSOR_CLR (R278). -/
def execThSensorClr (q : Req) (c : Fin 32) (s : State) : Host.Outcome State Fault Refusal :=
  .next (s.writeCmd q (0x3620 + c.val) 0x1D (leBytes 1 1))

end Sys2Proof.Machine
end

