-- ==== Sys2Proof/Machine/TimeFamily.lean ====
section
/-! DEFINITION. Commands of the time base (16). -/

namespace Sys2Proof.Machine

/-- TIME_BLOCK_TX: the next TIME block of a lane (R399). -/
def execTimeBlockTx (n : Fin 4) (s : State) : Host.Outcome State Fault Refusal :=
  .next (s.awake fun s => s.timeBlockTx n.val)

/-- TIME_BLOCK_RX: a TIME block arrives (R401). -/
def execTimeBlockRx (n : Fin 4) (line : LineBits) (t : Nat) (s : State) : Host.Outcome State Fault Refusal :=
  .next (s.awake fun s => (s.rxLine n.val line.before.toNat line.block.toNat).timeBlockRx n.val
    (descramble line.before.toNat line.block.toNat).1 t)

/-- TM_SERVO_TICK: the next millisecond (R402). -/
def execTmServoTick (s : State) : Host.Outcome State Fault Refusal := .next (s.awake fun s => s.servoTick)

/-- TM_REF_LOST: no STAMP for 1 ms (R403). -/
def execTmRefLost (s : State) : Host.Outcome State Fault Refusal := .next (s.awake fun s => s.refLost)

/-- PTP_SYNC_RX: a PTP Sync: offset in 2^-16 ns, mean path delay, logged interval (R406). -/
def execPtpSyncRx (t : Nat) (d : Fin 2) (o : Int) (delay : BitVec 32) (logSync : Int)
    (s : State) : Host.Outcome State Fault Refusal :=
  .next (s.awake fun s => (s.at_ t).ptpSync d.val o delay.toNat logSync)

/-- PTP_ANNOUNCE_RX: a PTP Announce (R406). -/
def execPtpAnnounceRx (t : Nat) (d : Fin 2) (gm : BitVec 64) (arb : Bool) (steps : BitVec 16)
    (s : State) : Host.Outcome State Fault Refusal :=
  .next (s.awake fun s => (s.at_ t).ptpAnnounce d.val (leBytes 8 gm.toNat) arb steps.toNat)

/-- PTP_LOST: no Sync for PTP_TMO (R406). -/
def execPtpLost (d : Fin 2) (s : State) : Host.Outcome State Fault Refusal := .next (s.awake fun s => s.ptpLost d.val)

/-- PPS_IN_EDGE: an edge on PPS_IN (R408). -/
def execPpsInEdge (t : Nat) (falling : Bool) (s : State) : Host.Outcome State Fault Refusal :=
  .next (s.awake fun s => s.ppsEdge t falling)

/-- PPS_IN_LOST: no PPS_IN edge for 1.5 s (R408). -/
def execPpsInLost (s : State) : Host.Outcome State Fault Refusal := .next (s.awake fun s => s.ppsLost)

/-- TM_SET: TM_SET (R409). -/
def execTmSet (q : Req) (v : BitVec 112) (s : State) : Host.Outcome State Fault Refusal :=
  .next (s.writeCmd q 0x1300 0x0F (leBytes 14 v.toNat))

/-- BELL_ARM: BELL_CMD 0x01 (R412). -/
def execBellArm (q : Req) (b : Fin 64) (s : State) : Host.Outcome State Fault Refusal :=
  .next (s.writeCmd q (0x1340 + b.val) 0x03 (leBytes 1 1))

/-- BELL_STOP: BELL_CMD 0x02 (R412). -/
def execBellStop (q : Req) (b : Fin 64) (s : State) : Host.Outcome State Fault Refusal :=
  .next (s.writeCmd q (0x1340 + b.val) 0x03 (leBytes 1 2))

/-- BELL_RING: the next grid point of a bell (R412). -/
def execBellRing (b : Fin 64) (s : State) : Host.Outcome State Fault Refusal :=
  .next (s.awake fun s => s.bellRing b.val)

/-- TRIG_INPUT_EDGE: an edge on a TRIG pin, the level before it held for `held` ns (R414). -/
def execTrigInputEdge (n : Fin 4) (t : Nat) (rising : Bool) (held : Nat) (s : State) : Host.Outcome State Fault Refusal :=
  .next (s.awake fun s => s.trigEdge n.val t rising held)

/-- PPS_OUT_SECOND: the next whole second (R415). -/
def execPpsOutSecond (s : State) : Host.Outcome State Fault Refusal := .next (s.awake fun s => s.ppsOut)

/-- PULSE_WIDTH_END: the output pulse that ends first (R414, R415). -/
def execPulseWidthEnd (s : State) : Host.Outcome State Fault Refusal := .next (s.awake fun s => s.pulseEnd)

/-- PWM_PHASE_ERROR: the phase detector of CLK_PWM (R411). -/
def execPwmPhaseError (t : Nat) (e : Int) (steps : Int) (lasts : Bool) (s : State) : Host.Outcome State Fault Refusal :=
  .next (s.awake fun s => (s.at_ t).pwmPhase e steps lasts)

end Sys2Proof.Machine
end

