-- ==== Sys2Proof/Machine/Dispatch.lean ====
section
/-! DEFINITION. Which meaning each command has. -/

namespace Sys2Proof.Machine

def exec (i : Instr) (s : State) : Host.Outcome State Fault Refusal :=
  match i with
  | .odRead q idx sub len => Sys2Proof.Machine.execOdRead q idx sub len s
  | .odWrite q idx sub data => Sys2Proof.Machine.execOdWrite q idx sub data s
  | .describe q idx sub offset len => Sys2Proof.Machine.execDescribe q idx sub offset len s
  | .readSeg q idx sub snap offset len => Sys2Proof.Machine.execReadSeg q idx sub snap offset len s
  | .writeSeg q idx sub first last offset data => Sys2Proof.Machine.execWriteSeg q idx sub first last offset data s
  | .abortSeg q idx sub => Sys2Proof.Machine.execAbortSeg q idx sub s
  | .hello q len => Sys2Proof.Machine.execHello q len s
  | .segmentTimeout idx sub => Sys2Proof.Machine.execSegmentTimeout idx sub s
  | .snapshotRelease => Sys2Proof.Machine.execSnapshotRelease s
  | .odResponseRx t src p => Sys2Proof.Machine.execOdResponseRx t src p s
  | .odRemoteTmo => Sys2Proof.Machine.execOdRemoteTmo s
  | .writeReq t l whole => Sys2Proof.Machine.execWriteReq t l whole s
  | .readResp t whole => Sys2Proof.Machine.execReadResp t whole s
  | .readStatus t => Sys2Proof.Machine.execReadStatus t s
  | .spiIrqPendRead q => Sys2Proof.Machine.execSpiIrqPendRead q s
  | .canBusOff t => Sys2Proof.Machine.execCanBusOff t s
  | .ethLinkDown t => Sys2Proof.Machine.execEthLinkDown t s
  | .trPeriodCopy sig => Sys2Proof.Machine.execTrPeriodCopy sig s
  | .slotTemplateWrite q c v => Sys2Proof.Machine.execSlotTemplateWrite q c v s
  | .start q c mask => Sys2Proof.Machine.execStart q c mask s
  | .stop q c mask => Sys2Proof.Machine.execStop q c mask s
  | .bypass q c mask => Sys2Proof.Machine.execBypass q c mask s
  | .insert q c mask => Sys2Proof.Machine.execInsert q c mask s
  | .clear q c mask => Sys2Proof.Machine.execClear q c mask s
  | .allStop q => Sys2Proof.Machine.execAllStop q s
  | .unitLoopBind q c u v => Sys2Proof.Machine.execUnitLoopBind q c u v s
  | .safeoffStep c u => Sys2Proof.Machine.execSafeoffStep c u s
  | .carRunStart q k => Sys2Proof.Machine.execCarRunStart q k s
  | .carRunStop q k => Sys2Proof.Machine.execCarRunStop q k s
  | .carrierStart k => Sys2Proof.Machine.execCarrierStart k s
  | .carrierValley k => Sys2Proof.Machine.execCarrierValley k s
  | .carrierPeak k => Sys2Proof.Machine.execCarrierPeak k s
  | .carCommit q k => Sys2Proof.Machine.execCarCommit q k s
  | .carCommitDiscard q k => Sys2Proof.Machine.execCarCommitDiscard q k s
  | .legOwnPeak l => Sys2Proof.Machine.execLegOwnPeak l s
  | .forceNone q l imm => Sys2Proof.Machine.execForceNone q l imm s
  | .forceOff q l imm => Sys2Proof.Machine.execForceOff q l imm s
  | .forceUpper q l imm => Sys2Proof.Machine.execForceUpper q l imm s
  | .forceLower q l imm => Sys2Proof.Machine.execForceLower q l imm s
  | .forceRaw q l imm gh gl => Sys2Proof.Machine.execForceRaw q l imm gh gl s
  | .bootRefreshEnd l => Sys2Proof.Machine.execBootRefreshEnd l s
  | .pklCut src stream v t => Sys2Proof.Machine.execPklCut src stream v t s
  | .pwmParityError t carrier k => Sys2Proof.Machine.execPwmParityError t carrier k s
  | .clkPwmMissing t => Sys2Proof.Machine.execClkPwmMissing t s
  | .gateRelease l gh => Sys2Proof.Machine.execGateRelease l gh s
  | .snTransition l t high => Sys2Proof.Machine.execSnTransition l t high s
  | .snConfirmExpiry l => Sys2Proof.Machine.execSnConfirmExpiry l s
  | .ggDtWrite q l which v => Sys2Proof.Machine.execGgDtWrite q l which v s
  | .fkAssert l t => Sys2Proof.Machine.execFkAssert l t s
  | .fkRelease l t => Sys2Proof.Machine.execFkRelease l t s
  | .fkDecision l => Sys2Proof.Machine.execFkDecision l s
  | .fkHard l => Sys2Proof.Machine.execFkHard l s
  | .blankingEnd l => Sys2Proof.Machine.execBlankingEnd l s
  | .supplyWakeExpiry l => Sys2Proof.Machine.execSupplyWakeExpiry l s
  | .ggParityError t w => Sys2Proof.Machine.execGgParityError t w s
  | .safeoffRecordRx t node id slot die t0 => Sys2Proof.Machine.execSafeoffRecordRx t node id slot die t0 s
  | .safeoffRecordExpiry => Sys2Proof.Machine.execSafeoffRecordExpiry s
  | .stringTripRecordRx t node id => Sys2Proof.Machine.execStringTripRecordRx t node id s
  | .stoAssert g t width => Sys2Proof.Machine.execStoAssert g t width s
  | .stoRelease g t => Sys2Proof.Machine.execStoRelease g t s
  | .mdCtrlWrite q m which v => Sys2Proof.Machine.execMdCtrlWrite q m which v s
  | .mdTimingViolation m t => Sys2Proof.Machine.execMdTimingViolation m t s
  | .mdClockRecover m => Sys2Proof.Machine.execMdClockRecover m s
  | .mdRunLimit m t run => Sys2Proof.Machine.execMdRunLimit m t run s
  | .mdFilterFilled m t ctrl => Sys2Proof.Machine.execMdFilterFilled m t ctrl s
  | .mdTrip m t stream => Sys2Proof.Machine.execMdTrip m t stream s
  | .mdCtrlOutput stream => Sys2Proof.Machine.execMdCtrlOutput stream s
  | .trgSample => Sys2Proof.Machine.execTrgSample s
  | .sarConversionDone codes => Sys2Proof.Machine.execSarConversionDone codes s
  | .sliceStreamUpdate k e o e2 => Sys2Proof.Machine.execSliceStreamUpdate k e o e2 s
  | .sliceConverged k skew => Sys2Proof.Machine.execSliceConverged k skew s
  | .queueEntry => Sys2Proof.Machine.execQueueEntry s
  | .qHostPop q => Sys2Proof.Machine.execQHostPop q s
  | .qHostAgeExpiry => Sys2Proof.Machine.execQHostAgeExpiry s
  | .qClr q => Sys2Proof.Machine.execQClr q s
  | .loopQueueIntake => Sys2Proof.Machine.execLoopQueueIntake s
  | .lsProgramWrite q n img => Sys2Proof.Machine.execLsProgramWrite q n img s
  | .lsRun q n => Sys2Proof.Machine.execLsRun q n s
  | .lsStop q n => Sys2Proof.Machine.execLsStop q n s
  | .lsHold q n => Sys2Proof.Machine.execLsHold q n s
  | .lsResume q n => Sys2Proof.Machine.execLsResume q n s
  | .lsUnload q n => Sys2Proof.Machine.execLsUnload q n s
  | .lsRunReady n => Sys2Proof.Machine.execLsRunReady n s
  | .lsInTimeout n => Sys2Proof.Machine.execLsInTimeout n s
  | .lsRunStart p => Sys2Proof.Machine.execLsRunStart p s
  | .lsRunEnd n => Sys2Proof.Machine.execLsRunEnd n s
  | .legDelivery => Sys2Proof.Machine.execLegDelivery s
  | .lsDeadline n => Sys2Proof.Machine.execLsDeadline n s
  | .lsBankSwap q n => Sys2Proof.Machine.execLsBankSwap q n s
  | .lsCoefImageWrite q n img => Sys2Proof.Machine.execLsCoefImageWrite q n img s
  | .lsCoefWordWrite q n v => Sys2Proof.Machine.execLsCoefWordWrite q n v s
  | .lsCoefDirect q n w v => Sys2Proof.Machine.execLsCoefDirect q n w v s
  | .lsInValWrite q n k v => Sys2Proof.Machine.execLsInValWrite q n k v s
  | .loopEccError t n corrected => Sys2Proof.Machine.execLoopEccError t n corrected s
  | .raCommitStage p => Sys2Proof.Machine.execRaCommitStage p s
  | .raTLate n => Sys2Proof.Machine.execRaTLate n s
  | .cellCycleBoundary => Sys2Proof.Machine.execCellCycleBoundary s
  | .precharge q k => Sys2Proof.Machine.execPrecharge q k s
  | .mainClosed q k => Sys2Proof.Machine.execMainClosed q k s
  | .strStop q k => Sys2Proof.Machine.execStrStop q k s
  | .strClear q k => Sys2Proof.Machine.execStrClear q k s
  | .strCmdApply k => Sys2Proof.Machine.execStrCmdApply k s
  | .stringRecordRx t node kind id cmd apply => Sys2Proof.Machine.execStringRecordRx t node kind id cmd apply s
  | .strPcTimeout k => Sys2Proof.Machine.execStrPcTimeout k s
  | .strBypCheck k => Sys2Proof.Machine.execStrBypCheck k s
  | .strHomeLost k => Sys2Proof.Machine.execStrHomeLost k s
  | .strRideOut k => Sys2Proof.Machine.execStrRideOut k s
  | .lvcTrip a v t => Sys2Proof.Machine.execLvcTrip a v t s
  | .lvpStart q e => Sys2Proof.Machine.execLvpStart q e s
  | .lvpStop q e => Sys2Proof.Machine.execLvpStop q e s
  | .lvpClear q e => Sys2Proof.Machine.execLvpClear q e s
  | .drvListenTimeout e => Sys2Proof.Machine.execDrvListenTimeout e s
  | .fbScQuadrantStep t sv cv => Sys2Proof.Machine.execFbScQuadrantStep t sv cv s
  | .scAmpBad t samples => Sys2Proof.Machine.execScAmpBad t samples s
  | .hallChange t code => Sys2Proof.Machine.execHallChange t code s
  | .plsStep t a b hold => Sys2Proof.Machine.execPlsStep t a b hold s
  | .fbSpdTimeout k => Sys2Proof.Machine.execFbSpdTimeout k s
  | .fbScCountWrite q v => Sys2Proof.Machine.execFbScCountWrite q v s
  | .fbPlsCountWrite q v => Sys2Proof.Machine.execFbPlsCountWrite q v s
  | .fbIrqClr q v => Sys2Proof.Machine.execFbIrqClr q v s
  | .fbCtrlWrite q v => Sys2Proof.Machine.execFbCtrlWrite q v s
  | .thIntervalTick ok => Sys2Proof.Machine.execThIntervalTick ok s
  | .thDieConversion d0 d1 d2 d3 ok => Sys2Proof.Machine.execThDieConversion d0 d1 d2 d3 ok s
  | .thRecRetry ok => Sys2Proof.Machine.execThRecRetry ok s
  | .thShutClr q v => Sys2Proof.Machine.execThShutClr q v s
  | .thSensorClr q c => Sys2Proof.Machine.execThSensorClr q c s
  | .faultIntake => Sys2Proof.Machine.execFaultIntake s
  | .faultTransientExpiry code k => Sys2Proof.Machine.execFaultTransientExpiry code k s
  | .almCoalesceEnd code k => Sys2Proof.Machine.execAlmCoalesceEnd code k s
  | .faultReset => Sys2Proof.Machine.execFaultReset s
  | .fltClr q code k => Sys2Proof.Machine.execFltClr q code k s
  | .fltFirstClr q v => Sys2Proof.Machine.execFltFirstClr q v s
  | .fltCfgWrite q code v => Sys2Proof.Machine.execFltCfgWrite q code v s
  | .sfWdExpiry t => Sys2Proof.Machine.execSfWdExpiry t s
  | .sfStoHwMismatch t g => Sys2Proof.Machine.execSfStoHwMismatch t g s
  | .safeWrite q idx sub data => Sys2Proof.Machine.execSafeWrite q idx sub data s
  | .sfStoDisc => Sys2Proof.Machine.execSfStoDisc s
  | .stoReleaseQualified g => Sys2Proof.Machine.execStoReleaseQualified g s
  | .sfStoAck q v => Sys2Proof.Machine.execSfStoAck q v s
  | .sfProofTest g pass => Sys2Proof.Machine.execSfProofTest g pass s
  | .sfStoTestDue g => Sys2Proof.Machine.execSfStoTestDue g s
  | .soTestPulse n low => Sys2Proof.Machine.execSoTestPulse n low s
  | .soReadbackFault t n rb => Sys2Proof.Machine.execSoReadbackFault t n rb s
  | .sdpSend p => Sys2Proof.Machine.execSdpSend p s
  | .safeTelegramRx src t tel => Sys2Proof.Machine.execSafeTelegramRx src t tel s
  | .sdcSkewExpiry k => Sys2Proof.Machine.execSdcSkewExpiry k s
  | .sdcWdExpiry k => Sys2Proof.Machine.execSdcWdExpiry k s
  | .sfOpen q => Sys2Proof.Machine.execSfOpen q s
  | .sfVerify q => Sys2Proof.Machine.execSfVerify q s
  | .sfAbort q => Sys2Proof.Machine.execSfAbort q s
  | .sfConfirm q v => Sys2Proof.Machine.execSfConfirm q v s
  | .sfImageWrite q img => Sys2Proof.Machine.execSfImageWrite q img s
  | .sfSignoffTimeout => Sys2Proof.Machine.execSfSignoffTimeout s
  | .laneEnable q n on => Sys2Proof.Machine.execLaneEnable q n on s
  | .laneHold q n on => Sys2Proof.Machine.execLaneHold q n on s
  | .laneTest q n v => Sys2Proof.Machine.execLaneTest q n v s
  | .laneLoop q n v => Sys2Proof.Machine.execLaneLoop q n v s
  | .laneCntClr q n => Sys2Proof.Machine.execLaneCntClr q n s
  | .sfpModuleDetect t n page => Sys2Proof.Machine.execSfpModuleDetect t n page s
  | .laneDdmRead t n bytes => Sys2Proof.Machine.execLaneDdmRead t n bytes s
  | .blockLock t n => Sys2Proof.Machine.execBlockLock t n s
  | .blockLockLoss t n passing => Sys2Proof.Machine.execBlockLockLoss t n passing s
  | .hiBer t n bad passing => Sys2Proof.Machine.execHiBer t n bad passing s
  | .elasticError t n passing => Sys2Proof.Machine.execElasticError t n passing s
  | .lanePpmMeasure t n ins del blocks fill => Sys2Proof.Machine.execLanePpmMeasure t n ins del blocks fill s
  | .trainBlockRx t n line passing => Sys2Proof.Machine.execTrainBlockRx t n line passing s
  | .holdBlockRx t n passing => Sys2Proof.Machine.execHoldBlockRx t n passing s
  | .errBlockRx t n kind passing => Sys2Proof.Machine.execErrBlockRx t n kind passing s
  | .sfpLos t n on passing => Sys2Proof.Machine.execSfpLos t n on passing s
  | .laneInputLost t n passing => Sys2Proof.Machine.execLaneInputLost t n passing s
  | .laneTrainTimeout n => Sys2Proof.Machine.execLaneTrainTimeout n s
  | .ringFrameRx t n l => Sys2Proof.Machine.execRingFrameRx t n l s
  | .ringTxStart n => Sys2Proof.Machine.execRingTxStart n s
  | .tc0Send k => Sys2Proof.Machine.execTc0Send k s
  | .systemCycle => Sys2Proof.Machine.execSystemCycle s
  | .rollCall q => Sys2Proof.Machine.execRollCall q s
  | .rollCallCommit apply roll => Sys2Proof.Machine.execRollCallCommit apply roll s
  | .rollCallTimeout => Sys2Proof.Machine.execRollCallTimeout s
  | .tc3WaitExpiry => Sys2Proof.Machine.execTc3WaitExpiry s
  | .almAck q seq => Sys2Proof.Machine.execAlmAck q seq s
  | .almRead q => Sys2Proof.Machine.execAlmRead q s
  | .almSumPeriod => Sys2Proof.Machine.execAlmSumPeriod s
  | .timeBlockTx n => Sys2Proof.Machine.execTimeBlockTx n s
  | .timeBlockRx n line t => Sys2Proof.Machine.execTimeBlockRx n line t s
  | .tmServoTick => Sys2Proof.Machine.execTmServoTick s
  | .tmRefLost => Sys2Proof.Machine.execTmRefLost s
  | .ptpSyncRx t d o delay logSync => Sys2Proof.Machine.execPtpSyncRx t d o delay logSync s
  | .ptpLost d => Sys2Proof.Machine.execPtpLost d s
  | .ppsInEdge t falling => Sys2Proof.Machine.execPpsInEdge t falling s
  | .ppsInLost => Sys2Proof.Machine.execPpsInLost s
  | .tmSet q v => Sys2Proof.Machine.execTmSet q v s
  | .bellArm q b => Sys2Proof.Machine.execBellArm q b s
  | .bellStop q b => Sys2Proof.Machine.execBellStop q b s
  | .bellRing b => Sys2Proof.Machine.execBellRing b s
  | .trigInputEdge n t rising held => Sys2Proof.Machine.execTrigInputEdge n t rising held s
  | .mgrHeartbeatRx t src p => Sys2Proof.Machine.execMgrHeartbeatRx t src p s
  | .mgrListenExpiry => Sys2Proof.Machine.execMgrListenExpiry s
  | .mgrTakePass => Sys2Proof.Machine.execMgrTakePass s
  | .transferReqRx t => Sys2Proof.Machine.execTransferReqRx t s
  | .stateRx t ks ofs total chunk => Sys2Proof.Machine.execStateRx t ks ofs total chunk s
  | .transferTimeout => Sys2Proof.Machine.execTransferTimeout s
  | .mgrTransfer q => Sys2Proof.Machine.execMgrTransfer q s
  | .mgrHandback q => Sys2Proof.Machine.execMgrHandback q s
  | .reclaimHoldExpiry => Sys2Proof.Machine.execReclaimHoldExpiry s
  | .handbackReqRx t => Sys2Proof.Machine.execHandbackReqRx t s
  | .handbackAcceptRx t kh => Sys2Proof.Machine.execHandbackAcceptRx t kh s
  | .handbackAbortRx t reason => Sys2Proof.Machine.execHandbackAbortRx t reason s
  | .handbackSwitch => Sys2Proof.Machine.execHandbackSwitch s
  | .overlapEnd => Sys2Proof.Machine.execOverlapEnd s
  | .wkHoldExpiry => Sys2Proof.Machine.execWkHoldExpiry s
  | .wkDroopExpiry => Sys2Proof.Machine.execWkDroopExpiry s
  | .rcPeriodTick t idle => Sys2Proof.Machine.execRcPeriodTick t idle s
  | .clkApply q => Sys2Proof.Machine.execClkApply q s
  | .clkDiscard q => Sys2Proof.Machine.execClkDiscard q s
  | .pllSysLock t count => Sys2Proof.Machine.execPllSysLock t count s
  | .pllSysUnlock t count => Sys2Proof.Machine.execPllSysUnlock t count s
  | .relockTimeout => Sys2Proof.Machine.execRelockTimeout s
  | .pllLinkLockChange t on err => Sys2Proof.Machine.execPllLinkLockChange t on err s
  | .refclkLost t => Sys2Proof.Machine.execRefclkLost t s
  | .refclkReturn t => Sys2Proof.Machine.execRefclkReturn t s
  | .linkclkLost t => Sys2Proof.Machine.execLinkclkLost t s
  | .clkFreqError t k hz => Sys2Proof.Machine.execClkFreqError t k hz s
  | .clkPeriodGuard t k => Sys2Proof.Machine.execClkPeriodGuard t k s
  | .pwrReqWrite q v => Sys2Proof.Machine.execPwrReqWrite q v s
  | .domainWakeAccess t d a => Sys2Proof.Machine.execDomainWakeAccess t d a s
  | .domainReady d t => Sys2Proof.Machine.execDomainReady d t s
  | .pwrWakeTmo d => Sys2Proof.Machine.execPwrWakeTmo d s
  | .pwrBank t b => Sys2Proof.Machine.execPwrBank t b s
  | .pwrAnalog t => Sys2Proof.Machine.execPwrAnalog t s
  | .pwrIo t k => Sys2Proof.Machine.execPwrIo t k s
  | .sleep q => Sys2Proof.Machine.execSleep q s
  | .wakeN t width => Sys2Proof.Machine.execWakeN t width s
  | .sleepTimerExpiry => Sys2Proof.Machine.execSleepTimerExpiry s
  | .porstN t low => Sys2Proof.Machine.execPorstN t low s
  | .rstN t width => Sys2Proof.Machine.execRstN t width s
  | .rstHeld t => Sys2Proof.Machine.execRstHeld t s
  | .rstCmd q => Sys2Proof.Machine.execRstCmd q s
  | .hostWdService q => Sys2Proof.Machine.execHostWdService q s
  | .hostWdExpiry => Sys2Proof.Machine.execHostWdExpiry s
  | .bootStageDone t bad => Sys2Proof.Machine.execBootStageDone t bad s
  | .cfgCommit q => Sys2Proof.Machine.execCfgCommit q s
  | .cfgDefaults q => Sys2Proof.Machine.execCfgDefaults q s
  | .cfgCommitDone t good => Sys2Proof.Machine.execCfgCommitDone t good s
  | .cfgImageWrite q img => Sys2Proof.Machine.execCfgImageWrite q img s
  | .fwImageWrite q img => Sys2Proof.Machine.execFwImageWrite q img s
  | .fwActivate q => Sys2Proof.Machine.execFwActivate q s
  | .fwConfirm q => Sys2Proof.Machine.execFwConfirm q s
  | .ownerKey q => Sys2Proof.Machine.execOwnerKey q s
  | .revokeKey0 q => Sys2Proof.Machine.execRevokeKey0 q s
  | .ownRb q => Sys2Proof.Machine.execOwnRb q s
  | .debugKill q => Sys2Proof.Machine.execDebugKill q s
  | .secDebugUnlock q img => Sys2Proof.Machine.execSecDebugUnlock q img s
  | .secNonce q data => Sys2Proof.Machine.execSecNonce q data s
  | .secAttest q => Sys2Proof.Machine.execSecAttest q s
  | .celLogPageWrite => Sys2Proof.Machine.execCelLogPageWrite s
  | .trigger q => Sys2Proof.Machine.execTrigger q s
  | .protect q => Sys2Proof.Machine.execProtect q s
  | .unprotect q => Sys2Proof.Machine.execUnprotect q s
  | .upload q => Sys2Proof.Machine.execUpload q s
  | .celRead q offset len => Sys2Proof.Machine.execCelRead q offset len s
  | .celDumpEnd => Sys2Proof.Machine.execCelDumpEnd s
  | .bistRun q => Sys2Proof.Machine.execBistRun q s
  | .bistAbort q => Sys2Proof.Machine.execBistAbort q s
  | .bistRunEnd sig addr => Sys2Proof.Machine.execBistRunEnd sig addr s
  | .legCommandEdge l => Sys2Proof.Machine.execLegCommandEdge l s
  | .legOwnValley l => Sys2Proof.Machine.execLegOwnValley l s
  | .mdTripRelease m t stream => Sys2Proof.Machine.execMdTripRelease m t stream s
  | .lvcTripRelease a t v => Sys2Proof.Machine.execLvcTripRelease a t v s
  | .supplyInRange t k => Sys2Proof.Machine.execSupplyInRange t k s
  | .pwmPhaseError t e steps lasts => Sys2Proof.Machine.execPwmPhaseError t e steps lasts s
  | .prbsLock t n checked errs => Sys2Proof.Machine.execPrbsLock t n checked errs s
  | .moduleAbsent t n => Sys2Proof.Machine.execModuleAbsent t n s
  | .scAmpGood t samples => Sys2Proof.Machine.execScAmpGood t samples s
  | .uploadDone => Sys2Proof.Machine.execUploadDone s
  | .preWindowWritten => Sys2Proof.Machine.execPreWindowWritten s
  | .fuseCmdDone t good => Sys2Proof.Machine.execFuseCmdDone t good s
  | .sramEccError t safe corrected => Sys2Proof.Machine.execSramEccError t safe corrected s
  | .ppsOutSecond => Sys2Proof.Machine.execPpsOutSecond s
  | .pulseWidthEnd => Sys2Proof.Machine.execPulseWidthEnd s
  | .ethLinkUp t fast => Sys2Proof.Machine.execEthLinkUp t fast s
  | .canBusOffRecovery t => Sys2Proof.Machine.execCanBusOffRecovery t s
  | .soPulseEnd n high => Sys2Proof.Machine.execSoPulseEnd n high s
  | .arpIcmpRequest t icmp ip who => Sys2Proof.Machine.execArpIcmpRequest t icmp ip who s
  | .ptpAnnounceRx t d gm arb steps => Sys2Proof.Machine.execPtpAnnounceRx t d gm arb steps s

end Sys2Proof.Machine
end

