-- ==== Sys2Proof/Machine/Step.lean ====
section
/-! DEFINITION. One step: the front command of the queue, or, where none waits, half a nanosecond. -/

namespace Sys2Proof.Machine

/-- The time that passes in a step on an empty queue, in ps: the resolution of the edge timers (R111; log entry 2). -/
def idleStep : Nat := 500

/-- A step takes the command at the front and answers its outcome; on an empty queue only time passes. -/
def step (s : State) : Host.Outcome State Fault Refusal :=
  match s.pending with
  | [] => .next { s with now := s.now + idleStep }
  | c :: rest => exec c { s with pending := rest }

/-- The state with the command that a word spells at the front of its queue. -/
def State.withFetchWord (s : State) (nbits w : Nat) : State :=
  match decodeTableWord nbits w with
  | some c => { s with pending := c :: s.pending }
  | none => s

end Sys2Proof.Machine
end

