-- ==== Sys2Proof/Safety.lean ====
section
/-! DEFINITION. What the statements say of states: the sound states, the state of a device that serves a request, and
what an accepted or a refused request leaves. -/

namespace Sys2Proof.Machine

/-- The store of writable entries is in its canonical form and every group has the instances the device has: 192 legs with
a gate guard each, 64 carriers, 32 cell slots, 96 modulator inputs, 4 lanes (00_scope.md) and 32 string entries (group
0x3220+ST of 08). -/
def soundParts (od : OdStore) (legs : List Leg) (gates : List Guard) (cars : List Carrier) (slots : List Slot)
    (strings : List StringSt) (mdats : List Mdat) (lanes : List Lane) : Bool :=
  od.wf && legs.length = 192 && gates.length = 192 && cars.length = 64 && slots.length = 32 && strings.length = 32 &&
    mdats.length = 96 && lanes.length = 4

/-- A sound state. -/
def State.sound (s : State) : Bool := soundParts s.od s.legs s.gates s.cars s.slots s.strings s.mdats s.lanes

/-- What orders 3 and 4 of R15 and the holds of R94 and R106 ask of the gates of a leg: never both high, and both low
while the leg is latched, held by a safe torque off channel or under the hold of R94. -/
def Guard.obeys (g : Guard) : Bool := !(g.gh && g.gl) && !((g.latched || g.stoLow || g.xhold) && (g.gh || g.gl))

/-- Every gate guard keeps its gates so. -/
def State.interlocked (s : State) : Bool := s.gates.all Guard.obeys

/-- No gate is high but those that `top` names: by leg, GH where the flag is set, GL where it is not. -/
def State.gatesUnder (top : Nat → Bool → Bool) (s : State) : Prop :=
  ∀ l g, s.gates[l]? = some g → (g.gh = true → top l true = true) ∧ (g.gl = true → top l false = true)

/-- Fuses can only be programmed further: OWNER_CTRL and DEBUG_KILL keep every bit, the rollback counters do not fall. -/
def Fuses.below (f g : Fuses) : Prop :=
  f.ownerCtrl &&& g.ownerCtrl = f.ownerCtrl ∧ f.debugKill &&& g.debugKill = f.debugKill ∧ f.fwRb ≤ g.fwRb ∧ f.ownRb ≤ g.ownRb

/-! ### Requests -/

/-- What R462 and R498 ask before an entry's owner sees a request, but for the value: the path is open and its queue has
room, the message is of protocol version 1 and aimed at this device, nothing of the requester stalls or has timed out, the
entry's domain is on and no transfer on it is open. -/
def State.serves (s : State) (q : Req) (idx sub : Nat) : Bool :=
  s.pathOpen q.path && decide (q.proto = 1) && !s.queueFull q && !s.acc.timedOut.contains (q.path, q.who) &&
    (q.isLocal || decide (q.node = s.ring.nodeId)) &&
    !(s.acc.stalled.any fun x => x.2.req.path = q.path && x.2.req.who = q.who) && s.domOn (domainOf idx sub) &&
    (s.segOpen idx sub).isNone

/-- What an accepted request leaves of the state that its effect has made: the response without data, with the type code of
the entry (R455), and then a reset that has waited for the last sequence to end (R293, R503). `op` is the operation. -/
def State.accepted (s : State) (q : Req) (op idx sub typ : Nat) : State :=
  (s.answer (q.msg op idx sub []) { typ := typ }).settleReset

/-- The same of a request that is refused with an abort code (R461). -/
def State.refusedWith (s : State) (q : Req) (op idx sub abort : Nat) : State :=
  (s.answer (q.msg op idx sub []) (.refuse abort)).settleReset

/-- The dead-time entries of Ll that GG_DT_WRITE names, by sub less 1 (R111), and the entries of Mm that MD_CTRL_WRITE
names (R123). -/
def dtReg (l which : Nat) : Reg :=
  [Od.LEG_DT_MIN l, Od.LEG_DT_INIT l, Od.LEG_DT_MAX l, Od.LEG_DT_MARGIN l, Od.LEG_DT_FILT l, Od.LEG_GG_CTRL l].getD which ⟨0, 0⟩
def mdReg (m which : Nat) : Reg := [Od.MD_CTRL m, Od.MD_FAST_OSR m, Od.MD_CTRL_OSR m, Od.MD_TRIP_ACT m].getD which ⟨0, 0⟩

/-- The command that writes SLOT_CMD of Cc with an operation and a unit mask (R38), and what it does besides waiting: CLEAR
clears the transient instances of the units it names (R300), START begins the start of each unit's drive (R251). -/
def slotCommand (op : SlotOp) (q : Req) (c : Fin 32) (mask : BitVec 6) : Instr :=
  match op with
  | .start => .start q c mask
  | .stop => .stop q c mask
  | .bypass => .bypass q c mask
  | .insert => .insert q c mask
  | .clear => .clear q c mask
def State.slotBegin (s : State) (op : SlotOp) (c : Nat) (us : List Nat) : State :=
  match op with
  | .start => s.each us fun s u => s.drvBegin c u
  | .clear => s.clearTransient c us
  | _ => s

/-- The command that writes LEG_FORCE of Ll with a force, and the value it writes (R73). -/
def forceCommand (f : Force) (q : Req) (l : Fin 192) (imm : Bool) : Instr :=
  match f with
  | .none => .forceNone q l imm
  | .off => .forceOff q l imm
  | .upper => .forceUpper q l imm
  | .lower => .forceLower q l imm
  | .raw gh gl => .forceRaw q l imm gh gl
def forceCode (f : Force) (imm : Bool) : Nat :=
  match f with
  | .none => 0 + 8 * b2n imm
  | .off => 1 + 8 * b2n imm
  | .upper => 2 + 8 * b2n imm
  | .lower => 3 + 8 * b2n imm
  | .raw gh gl => 4 + 8 * b2n imm + 16 * b2n gh + 32 * b2n gl

/-- The entry exists and its type, size, range and reserved bits admit the bytes (R461). -/
def admits (idx sub : Nat) (d : List Byte) : Bool :=
  match Od.lookup idx sub with
  | .ok r => decide (r.check d = 0)
  | .error _ => false

/-- The conversion that completes first, and the result that enters the queue first (R124, R139). -/
def State.nextConv (s : State) : Option Conv :=
  s.meas.convs.foldl (fun a c => match a with
    | none => some c
    | some b => if c.due < b.due then some c else some b) none
def State.nextResult (s : State) : Option (Nat × QEntry) :=
  s.meas.flight.foldl (fun a x => match a with
    | none => some x
    | some b =>
      if x.1 / s.tmeas < b.1 / s.tmeas || (x.1 / s.tmeas = b.1 / s.tmeas && x.2.trig < b.2.trig) then some x else some b) none

/-- The delivery that completes first (R166). -/
def State.nextDelivery (s : State) : Option Delivery :=
  s.le.deliveries.foldl (fun a d => match a with
    | none => some d
    | some b => if d.due < b.due then some d else some b) none

/-- The command that writes STR_CMD of string entry STi, and the code it writes (R209). -/
def stringCommand (v : Fin 4) (q : Req) (i : Fin 32) : Instr :=
  match v with
  | 0 => .precharge q i
  | 1 => .mainClosed q i
  | 2 => .strStop q i
  | 3 => .strClear q i

/-- The entry and the bytes of each command that writes a value of its own choice (R448). -/
def valueWrite : Instr → Option (Req × Nat × Nat × List Byte)
  | .slotTemplateWrite q c v => some (q, 0x2100 + c.val, 0x01, leBytes 1 v.toNat)
  | .unitLoopBind q c u v => some (q, 0x2100 + c.val, 0x10 + u.val, leBytes 1 v.toNat)
  | .ggDtWrite q l w v => some (q, 0x2200 + l.val, w.val + 1, leBytes (if w.val = 4 then 1 else 2) v.toNat)
  | .mdCtrlWrite q m w v => some (q, 0x2800 + m.val, [0x01, 0x02, 0x03, 0x0D].getD w.val 0, leBytes (if w.val = 3 then 1 else 2) v.toNat)
  | .lsCoefWordWrite q n v => some (q, 0x3000 + n.val, 0x25, leBytes 4 v.toNat)
  | .lsCoefDirect q n w v => some (q, 0x3000 + n.val, 0x26, leBytes 2 w.toNat ++ leBytes 2 0 ++ leBytes 4 v.toNat)
  | .lsInValWrite q n k v => some (q, 0x3000 + n.val, 0x50 + k.val, leBytes 4 v.toNat)
  | .fltClr q code i => some (q, 0x1800, 0x08, leBytes 2 code.toNat ++ leBytes 2 i.toNat)
  | .fltFirstClr q v => some (q, 0x1800, 0x07, leBytes 1 v.toNat)
  | .fltCfgWrite q code v => some (q, 0x1820 + code.toNat / 256, code.toNat % 256, leBytes 8 v.toNat)
  | .fbScCountWrite q v => some (q, 0x3500, 0x11, leBytes 8 v.toNat)
  | .fbPlsCountWrite q v => some (q, 0x3500, 0x18, leBytes 8 v.toNat)
  | .fbIrqClr q v => some (q, 0x3500, 0x0E, leBytes 1 v.toNat)
  | .fbCtrlWrite q v => some (q, 0x3500, 0x01, leBytes 2 v.toNat)
  | .thShutClr q v => some (q, 0x3600, 0x07, leBytes 4 v.toNat)
  | .tmSet q v => some (q, 0x1300, 0x0F, leBytes 14 v.toNat)
  | .almAck q v => some (q, 0x1230, 0x05, leBytes 4 v.toNat)
  | .sfStoAck q v => some (q, 0x3800, 0x14, leBytes 4 v.toNat)
  | .sfConfirm q v => some (q, 0x3800, 0x05, leBytes 4 v.toNat)
  | .pwrReqWrite q v => some (q, 0x1900, 0x02, leBytes 2 v.toNat)
  | .secNonce q d => some (q, 0x1B40, 0x07, d)
  | .safeWrite q idx sub d => some (q, idx.toNat, sub.toNat, d)
  | _ => none

end Sys2Proof.Machine
end

