-- ==== Sys2Proof/Certificates/Slice0/Obligations.lean ====
section
/-! DEFINITION. The statements for the provers. -/

open Sys2Proof Sys2Proof.Machine

/-- A step takes the command at the front of the queue and runs it on the state with the queue's rest. Rests on INDEX,
18_access_paths. -/
def Obligations.StepRunsFrontCommand : Prop :=
  ∀ (c : Instr) (rest : List Instr) (s : State), s.pending = c :: rest → step s = exec c { s with pending := rest }

/-- On an empty queue a step only lets 500 ps pass (the model's choice, log entry 2). Rests on R111. -/
def Obligations.IdleStepPassesTime : Prop :=
  ∀ s : State, s.pending = [] → step s = .next { s with now := s.now + 500 }

/-- Every command, in every state, answers a next state and leaves the queue of waiting commands alone. Rests on
INDEX, 18_access_paths, 12_faults. -/
def Obligations.EveryCommandAnswersAndLeavesTheQueue : Prop :=
  ∀ (c : Instr) (s : State), ∃ t, exec c s = .next t ∧ t.pending = s.pending

/-- Every step keeps the store of entries in its canonical form and every unit group at its size. Rests on 00_scope,
R29, R49, R208, R455. -/
def Obligations.StepKeepsStateSound : Prop :=
  ∀ s t : State, s.sound = true → step s = .next t → t.sound = true

/-- No step turns both gates of a leg on, or a gate on while its guard is latched or held. Rests on R15, R94, R106. -/
def Obligations.StepKeepsGatesInterlocked : Prop :=
  ∀ s t : State, s.interlocked = true → step s = .next t → t.interlocked = true

/-- Only the release of a gate by its guard raises a gate, and it raises that gate of that leg alone. Rests on R15,
R16, R85, R87. -/
def Obligations.OnlyGateReleaseRaisesAGate : Prop :=
  ∀ (c : Instr) (s t : State), exec c s = .next t → ∀ (l : Nat) (b : Guard), t.gates[l]? = some b →
    (b.gh = true → (∃ a, s.gates[l]? = some a ∧ a.gh = true) ∨ ∃ i : Fin 192, i.val = l ∧ c = .gateRelease i true) ∧
    (b.gl = true → (∃ a, s.gates[l]? = some a ∧ a.gl = true) ∨ ∃ i : Fin 192, i.val = l ∧ c = .gateRelease i false)

/-- No command clears a bit of OWNER_CTRL or DEBUG_KILL or lowers a rollback counter. Rests on R526, R527. -/
def Obligations.FusesAreOnlyProgrammedFurther : Prop :=
  ∀ (c : Instr) (s t : State), exec c s = .next t → s.nor.fuses.below t.nor.fuses

/-- An accepted START, STOP, BYPASS, INSERT or CLEAR acts at once or waits for a commit point. Rests on R37, R38, R39,
R226, R251, R300. Says that these complete: start, stop, bypass, insert, clear. -/
def Obligations.SlotCommandActsOrWaitsForTheCommitPoint : Prop :=
  ∀ (op : SlotOp) (q : Req) (c : Fin 32) (mask : BitVec 6) (s : State), s.serves q (0x2100 + c.val) 0x03 = true →
    let r := s.upTo q.t
    let m : SlotCmd := { op := op, mask := if op = .bypass ∨ op = .insert then 1 else mask.toNat, clk := r.pwmClk }
    let us := r.named c.val m.mask
    (r.slot c.val).cmd = none → m.mask < 2 ^ tmplUnits (r.tmpl c.val) → r.cmdOk c.val op us = true →
    (op = .start → ∀ k ∈ r.cmdCars c.val m, (r.car k).st = .running) →
    exec (slotCommand op q c mask) s = .next
      ((if ∃ k ∈ r.cmdCars c.val m, (r.car k).st = .running then
          (r.slotBegin op c.val us).updSlot c.val fun t => { t with cmd := some m, cmdSt := .pending }
        else (r.slotBegin op c.val us).slotAct c.val m).accepted q 2 (0x2100 + c.val) 0x03 3)

/-- A slot command is refused as a whole while one is pending, on a unit the template lacks, and where R36 forbids it.
Formalises R39. -/
def Obligations.SlotCommandIsRefused : Prop :=
  ∀ (op : SlotOp) (q : Req) (c : Fin 32) (mask : BitVec 6) (s : State), s.serves q (0x2100 + c.val) 0x03 = true →
    let r := s.upTo q.t
    let k := if op = .bypass ∨ op = .insert then 1 else mask.toNat
    ((r.slot c.val).cmd ≠ none → exec (slotCommand op q c mask) s = .next (r.refusedWith q 2 (0x2100 + c.val) 0x03 0x010B)) ∧
    ((r.slot c.val).cmd = none →
      ((∃ u < 6, k.testBit u = true ∧ tmplUnits (r.tmpl c.val) ≤ u) ∨ r.cmdOk c.val op (r.named c.val k) = false) →
      exec (slotCommand op q c mask) s = .next
        ((r.updSlot c.val fun t => { t with cmdSt := .refused }).refusedWith q 2 (0x2100 + c.val) 0x03 0x010A))

/-- SLOT_TEMPLATE and bindings write, ALL_STOP stops every unit, and a safe-off step takes the legs of its unit low.
Rests on R43, R44, R46, R33, R40, R26, R30, R31, R503. Says that these complete: slotTemplateWrite, unitLoopBind,
allStop, safeoffStep. -/
def Obligations.TemplateBindingAllStopAndSafeOffSteps : Prop :=
  ((∀ (q : Req) (c : Fin 32) (v : BitVec 8) (s : State), s.serves q (0x2100 + c.val) 0x01 = true → v.toNat < 6 →
    let r := s.upTo q.t
    (r.slot c.val).cmd = none → (∀ u ∈ r.units c.val, r.ust c.val u = .stopped ∧ ((r.slot c.val).unit u).seq = none) →
    exec (.slotTemplateWrite q c v) s = .next (State.accepted
      (let r := (r.wr (Od.SLOT_TEMPLATE c.val) v.toNat).each (List.range 6) fun r j =>
         match tmplCarrier v.toNat c.val j with
         | some k => (r.wr (Od.LEG_CARRIER (6 * c.val + j)) k).updLeg (6 * c.val + j) fun g => { g with bound := none }
         | none => r.updLeg (6 * c.val + j) fun g => { g with bound := none }
       let r := r.each (List.range 6) fun r j => r.fkFresh (6 * c.val + j)
       let r := r.each (List.range 6) fun r u => ((r.wr (Od.UNIT_LOOP c.val u) 0xFF).wr (Od.UNIT_LV c.val u) 0xFF).wr
         (Od.UNIT_FN c.val u) (if v.toNat = 3 && u < 2 then 1 else 0)
       let r := ((r.wr (Od.SLOT_STRING c.val) 0xFF).wr (Od.SLOT_STRING_POS c.val) 0).wr (Od.SLOT_STRING_ROLE c.val) 0
       r.updSlot c.val fun t => { t with units := List.replicate 6 {} }) q 2 (0x2100 + c.val) 0x01 2)) ∧
  (∀ (q : Req) (c : Fin 32) (u : Fin 6) (v : BitVec 8) (s : State), s.serves q (0x2100 + c.val) (0x10 + u.val) = true →
    v.toNat < 128 ∨ v.toNat = 255 →
    let r := s.upTo q.t
    u.val < tmplUnits (r.tmpl c.val) →
    let w := r.wr (Od.UNIT_LOOP c.val u.val) v.toNat
    exec (.unitLoopBind q c u v) s = .next ((w.each (w.unitLegIds c.val u.val) fun r l =>
      if (r.car (r.carOf l)).st = .running then r else r.bindLeg l).accepted q 2 (0x2100 + c.val) (0x10 + u.val) 2)) ∧
  (∀ (q : Req) (s : State), s.serves q 0x2000 0x04 = true →
    let r := s.upTo q.t
    let r := r.each (List.range 32) fun r c => r.discardAll c
    let r := r.each (List.range 32) fun r i => if r.membersHere i = [] then r else r.stopString i
    exec (.allStop q) s = .next ((r.each r.allUnits fun r x => r.stopUnit x.1 x.2).accepted q 2 0x2000 0x04 2))) ∧
  (∀ (c : Fin 32) (u : Fin 6) (s : State) (x : Seq) (legs : List Nat) (rest : List (List Nat)), s.runs = true →
    ((s.slot c.val).unit u.val).seq = some x → s.seqSteps c.val u.val x = legs :: rest →
    let r := s.upTo (x.t0 + x.next * s.soSpacing c.val)
    let r := r.each (legs.map (6 * c.val + ·)) fun r l => match x.kind with
      | .safeOff => r.latchLeg l
      | .stop => (r.lowerLeg l).disableLeg l
    let y := { x with next := x.next + 1 }
    let r := r.updUnit c.val u.val fun t => { t with seq := some y }
    exec (.safeoffStep c u) s = .next (State.settleReset (if rest = [] then r.endSeq c.val u.val y else r)))

/-- CAR_RUN arms a stopped carrier and stops a running or an armed one, CAR_COMMIT asks for a commit or discards.
Rests on R50, R52, R53, R61, R64, R66. Says that these complete: carRunStart, carRunStop, carCommit, carCommitDiscard.
-/
def Obligations.CarrierRunAndCommitWrites : Prop :=
  (∀ (q : Req) (k : Fin 64) (s : State), s.serves q (0x2300 + k.val) 0x08 = true →
    let r := s.upTo q.t
    r.carString k.val = none →
    ((r.car k.val).st = .stopped → r.sysNow + sysUs 10 ≤ timeOf (r.rd (Od.CAR_START_TIME k.val)) →
      500 ≤ r.rd (Od.CAR_PERIOD k.val) → r.rd (Od.CAR_PERIOD k.val) ≤ 1048575 →
      r.clk.pwmMissing = false → r.clk.pwmGated = false →
      exec (.carRunStart q k) s = .next
        ((r.updCar k.val fun c => { c with st := .armed }).accepted q 2 (0x2300 + k.val) 0x08 2)) ∧
    ((∀ l < 192, r.carOf l = k.val → (r.leg l).enabled = false) → r.startPends k.val = false →
      exec (.carRunStop q k) s = .next
        ((match (r.car k.val).st with
          | .armed => r.updCar k.val fun c => { c with st := .stopped }
          | .running => (r.updCar k.val fun c => { c with st := .stopping, stopClk := r.pwmClk }).carLeft k.val
          | _ => r).accepted q 2 (0x2300 + k.val) 0x08 2))) ∧
  (∀ (q : Req) (k : Fin 64) (s : State), s.serves q (0x2300 + k.val) 0x05 = true →
    let r := s.upTo q.t
    let w := r.noteLate k.val
    (r.autoMode k.val = false → exec (.carCommit q k) s = .next
      ((w.updCar k.val fun c => { c with pend := true, lateReq := c.lateReq || c.lateAt = some w.pwmClk }).accepted
        q 2 (0x2300 + k.val) 0x05 2)) ∧
    (w.heldBack k.val = false →
      let w := (w.wr (Od.CAR_PERIOD k.val) (w.car k.val).pCom).updCar k.val fun c => { c with pend := false, wrPeriod := false }
      exec (.carCommitDiscard q k) s = .next (State.accepted (w.each (w.legsOn k.val) fun w l =>
        ((w.wr (Od.LEG_DUTY l) (w.leg l).dutyCom).wr (Od.LEG_PHASE l) (w.leg l).phaseCom).updLeg l fun g =>
          { g with wrDuty := false, wrPhase := false }) q 2 (0x2300 + k.val) 0x05 2)))

/-- An armed carrier starts at its start time, counts up and down, commits at the points it selects and halts at a
valley. Rests on R49, R51, R52, R53, R60, R69. Says that these complete: carrierStart, carrierPeak, carrierValley. -/
def Obligations.CarrierStartsCountsAndHalts : Prop :=
  ∀ (k : Fin 64) (s : State), s.runs = true →
    ((s.car k.val).st = .armed → s.pwmOff = false →
      let r := (s.upTo (s.startAt k.val)).updCar k.val fun c =>
        { c with st := .running, refT := s.startAt k.val, refN := 0, evV := 0, evP := 0, valleys := 0 }
      let r := r.each (r.legsOn k.val) fun r l => r.updLeg l fun g => { g with
        lastPeak := none, lastValley := none, valleys := 0, pSel := 0, highRun := 0, highAll := true, pending := false }
      let r := ((r.commitPoint k.val 0 true).carrierTriggers k.val false).carrierReleases k.val false
      exec (.carrierStart k) s = .next ((r.updCar k.val fun c => { c with evV := 1, valleys := 1 }).settleReset)) ∧
    ((s.car k.val).counts = true → (s.car k.val).refN = 0 →
      let r := (s.upTo (s.peakAt k.val)).updCar k.val fun c => { c with refT := s.peakAt k.val, refN := c.p }
      let r := if r.peakCommits k.val then r.commitPoint k.val (s.car k.val).p false else r
      let r := (r.carrierTriggers k.val true).carrierReleases k.val true
      exec (.carrierPeak k) s = .next ((r.updCar k.val fun c => { c with evP := c.evP + 1 }).settleReset)) ∧
    ((s.car k.val).counts = true → (s.car k.val).refN ≠ 0 →
      let r := s.upTo (s.valleyAt k.val)
      let halts := (s.car k.val).st = .stopping ∧ (s.car k.val).stopClk < r.pwmClk
      let r := r.updCar k.val fun c => { c with refT := s.valleyAt k.val, refN := 0 }
      let r := if r.valleyCommits k.val = true ∧ ¬halts then r.commitPoint k.val 0 false else r
      let r := (r.carrierTriggers k.val false).carrierReleases k.val false
      let r := r.updCar k.val fun c => { c with evV := c.evV + 1, valleys := (c.valleys + 1) % 2 ^ 64 }
      let h := r.updCar k.val fun c => { c with st := .stopped }
      exec (.carrierValley k) s = .next (State.settleReset (if halts then
        match h.carString k.val with
        | some i => if (h.str i).st = .pcPassive then h.rearm i k.val else h
        | none => h
      else r)))

/-- At its own peak, its own valley and its compare edges a leg takes what is due there. Rests on R55, R57, R70, R76,
R78, R94, R106. Says that these complete: legOwnValley, legOwnPeak, legCommandEdge. -/
def Obligations.LegOwnPeakValleyAndEdge : Prop :=
  ∀ (l : Fin 192) (s : State), s.runs = true → (s.car (s.carOf l.val)).counts = true →
    let k := s.carOf l.val
    (let t := s.ownValleyAt l.val
     let r := (s.upTo t).updLeg l.val fun g => { g with lastValley := some t }
     let r := if r.valleyCommits k then r.applyOwn l.val else r
     let r := r.updLeg l.val fun g => { g with valleys := g.valleys + 1 }
     let r := r.compareLeg l.val
     exec (.legOwnValley l) s = .next (if r.applyLocal l.val then r.settleBarred l.val else r.settleLeg l.val)) ∧
    (let t := s.ownPeakAt l.val
     let cuts := s.cutsAt l.val t
     let r := ({ s with soon := s.soon.filter fun x => !cuts.contains x } : State).upTo t
     let p := (r.car k).p
     let r := r.updLeg l.val fun g => { g with lastPeak := some t }
     let r := if r.peakCommits k then r.applyOwn l.val else r
     let r := r.updLeg l.val fun g => g.choose (g.valleys % 16) p (r.dithers l.val)
     let wasCut := (r.leg l.val).cutHi || (r.leg l.val).cutLo
     let r := r.updLeg l.val fun g =>
       { g with cutHi := false, cutLo := false, highRun := if g.highAll then g.highRun + 1 else 0 }
     let r := r.updGg l.val fun g =>
       let met := g.stoMet.any fun m => decide (m / r.tclk < t / r.tclk)
       { g with
         xhold := g.xhold && !(decide (g.xholdAt / r.tclk < t / r.tclk))
         stoLow := g.stoLow && !met
         stoMet := if met then none else g.stoMet
         ghReqAt := if g.stoLow && met then t else g.ghReqAt
         glReqAt := if g.stoLow && met then t else g.glReqAt }
     let r := r.compareLeg l.val
     let w := r.rd (Od.LEG_BOOT_WIDTH l.val)
     let r := if w ≠ 0 && (r.leg l.val).command (r.car k).parityOff = .high &&
           (r.leg l.val).highRun ≥ r.rd (Od.LEG_BOOT_EVERY l.val) then
         r.updLeg l.val fun g => { g with
           boot := some (r.now + ns w), bootSeen := true, bootCount := (g.bootCount + 1) % 2 ^ 32, highRun := 0 }
       else r
     let r := r.updLeg l.val fun g => { g with highAll := true }
     let r := if r.applyLocal l.val then r.settleBarred l.val else r.settleLeg l.val
     let r := r.each cuts fun r x => r.doSoon x.2
     exec (.legOwnPeak l) s = .next (if wasCut then r.cutNext l.val else r)) ∧
    (0 < (s.leg l.val).cNow → (s.leg l.val).cNow < (s.car k).p →
     let g := s.leg l.val
     let r := if cmpHigh (s.posL l.val s.now) g.cNow (s.car k).p = g.cmp then
         s.upTo (s.whenPos l.val (if g.cmp then g.cNow else 2 * (s.car k).p - g.cNow) (s.now / s.tclk))
       else s
     exec (.legCommandEdge l) s = .next ((r.compareLeg l.val).settleLeg l.val))

/-- The compare command of a counting leg is HIGH where n_L < C or n_L >= 2P - C, with n_L = (n - phase) mod 2P.
Formalises R55. -/
def Obligations.CompareCommandIsCentredOnTheValley : Prop :=
  ∀ (s : State) (l : Nat), (s.car (s.carOf l)).counts = true →
    let c := s.car (s.carOf l)
    let g := s.leg l
    let n := s.posN (s.carOf l) s.now
    0 < c.p → g.phiNow ≤ 2 * c.p → g.cNow ≤ c.p →
    let nL := (n + 2 * c.p - g.phiNow) % (2 * c.p)
    s.compareLeg l = s.updLeg l (fun x => { x with cmp := decide (nL < g.cNow ∨ 2 * c.p - g.cNow ≤ nL) }) ∧
    (g.cNow = 0 → decide (nL < g.cNow ∨ 2 * c.p - g.cNow ≤ nL) = false) ∧
    (g.cNow = c.p → decide (nL < g.cNow ∨ 2 * c.p - g.cNow ≤ nL) = true)

/-- A force entry takes effect in the next PWM clock with NOW, and waits for the reload point without; UPPER, LOWER
and RAW need an enabled leg. Rests on R73, R74, R75, R219, R252. Says that these complete: forceNone, forceOff,
forceUpper, forceLower, forceRaw. -/
def Obligations.ForceWritesTakeEffectOrWait : Prop :=
  ∀ (f : Force) (q : Req) (l : Fin 192) (imm : Bool) (s : State), s.serves q (0x2200 + l.val) 0x16 = true →
    let r := s.upTo q.t
    let w := r.wr (Od.LEG_FORCE l.val) (forceCode f imm)
    ((r.legUnit l.val).isSome = true → r.strForce l.val = false → r.drvHolds l.val = false → f = .none ∨ f = .off ∨ (r.leg l.val).enabled = true →
      exec (forceCommand f q l imm) s = .next
        ((if imm then { w.dropForces l.val with soon := (w.dropForces l.val).soon ++ [((w.pwmClk + 1) * w.tclk, .force l.val f)] }
          else ((w.lateForce l.val).dropForces l.val).updLeg l.val fun g =>
            { g with wait := some f, waitClk := w.pwmClk }).accepted
          q 2 (0x2200 + l.val) 0x16 2)) ∧
    (∀ (v : State) (a t : Nat), v.soon = [(a, .force l.val f)] → a ≤ t →
      v.upTo t = State.at_ ((((State.at_ { v with soon := [] } a).dropForces l.val).updLeg l.val fun g =>
        { g with force := f }).settleBarred l.val) t) ∧
    ((r.legUnit l.val).isNone = true ∨ r.strForce l.val = true ∨ r.drvHolds l.val = true ∨ (f ≠ .none ∧ f ≠ .off ∧ (r.leg l.val).enabled = false) →
      exec (forceCommand f q l imm) s = .next (r.refusedWith q 2 (0x2200 + l.val) 0x16 0x010A))

/-- The end of a refresh, an asserted peak-limit line, a parity error and the loss of CLK_PWM act on the legs they
concern. Rests on R76, R77, R78, R80, R81, R107, R572. Says that these complete: bootRefreshEnd, pklCut,
pwmParityError, clkPwmMissing. -/
def Obligations.CutsRefreshesParityAndClockLossActOnLegs : Prop :=
  (∀ (l : Fin 192) (s : State) (t : Nat), s.runs = true → (s.leg l.val).boot = some t →
    exec (.bootRefreshEnd l) s = .next (((s.upTo t).updLeg l.val fun g => { g with boot := none }).settleLeg l.val)) ∧
  (∀ (src : BitVec 8) (stream : List Bool) (v : Int) (t : Nat) (s : State), s.runs = true →
    let r := s.upTo t
    let r := if 1 ≤ src.toNat && src.toNat ≤ 0x60 && r.mdOn (src.toNat - 1) then
        (r.mdPublish (src.toNat - 1) stream).compareMd (src.toNat - 1) (r.mdFast (src.toNat - 1) stream)
      else if 0x80 ≤ src.toNat && src.toNat ≤ 0x8F then r.compareCmp (src.toNat - 0x80) v else r
    let legs := (List.range 192).filter fun l => src.toNat ≠ 0 && r.rd (Od.LEG_PKL_SRC l) = src.toNat
    exec (.pklCut src stream v t) s = .next (r.each legs fun r l =>
      if (r.leg l).enabled && ((r.pklLines l).1 || (r.pklLines l).2) then
        { r with soon := r.soon ++ [((r.pwmClk + 1) * r.tclk, .cut l (r.pklLines l).1 (r.pklLines l).2)] }
      else r)) ∧
  (∀ (l : Nat) (hi lo : Bool) (a t : Nat) (s : State), s.soon = [(a, .cut l hi lo)] → a ≤ t →
    let r : State := { s with soon := [], now := max s.now a }
    let g := r.leg l
    let nh := g.enabled && hi && !g.cutHi
    let nl := g.enabled && lo && r.pklLo l && !g.cutLo
    s.upTo t = State.at_ (if nh || nl then State.settleLeg (r.updLeg l fun g =>
      { g with
        cutHi := g.cutHi || nh, cutLo := g.cutLo || nl
        pklCount := (g.pklCount + b2n nh + b2n nl) % 2 ^ 32 }) l
      else r) t) ∧
  (∀ (t : Nat) (i : Fin 192) (s : State), s.runs = true →
    exec (.pwmParityError t false i) s = .next ((((s.upTo t).updLeg i.val fun g =>
      { g with parityOff := true, parity := true }).raise Flt.PWM_PARITY i.val).settleLeg i.val)) ∧
  (∀ (t : Nat) (i : Fin 192) (s : State), s.runs = true → i.val < 64 →
    let r := ((s.upTo t).updCar i.val fun c => { c with parityOff := true, paritySeen := true }).raise Flt.PWM_PARITY (0x100 + i.val)
    exec (.pwmParityError t true i) s = .next (r.each (r.legsOn i.val) fun r l => r.settleLeg l)) ∧
  (∀ (t : Nat) (s : State), s.runs = true →
    let r := s.upTo t
    let legs := (List.range 192).filter fun l => (r.leg l).enabled
    let r : State := { r with clk := { r.clk with pwmMissing := true } }
    legs ≠ [] →
    let r := r.each (List.range 192) fun r l => r.lowerLeg l
    let r := r.each legs fun r l => (r.latchLeg l).updGg l fun g => { g with clkClamp := true }
    exec (.clkPwmMissing t) s = .next ((r.raise Flt.GG_CLK 0).carriersOff.settleReset))

/-- GATE_RELEASE raises the requested gate in the first PWM clock at or after its release time, and learns and counts
as the handshake says. Rests on R86, R87, R88, R89, R90, R91, R94, R96, R102, R103, R106. Says that these complete:
gateRelease. -/
def Obligations.GateRisesAtItsRelease : Prop :=
  ∀ (l : Fin 192) (gh : Bool) (s₀ : State), s₀.runs = true →
    let s := s₀.upTo (s₀.riseAt l.val gh)
    let g := s.gg l.val
    (if gh then g.ghReq && !g.gh && !g.barH else g.glReq && !g.gl && !g.barL) = true → (if gh then g.gl else g.gh) = false →
    s.gateFree l.val = true → g.fkQuiet = true → (gh = true → s.bootHold l.val = false) →
    let rel := s.tRel l.val gh
    let reqAt := if gh then g.ghReqAt else g.glReqAt
    let due := s.edge (max rel reqAt)
    let at_ := if s.pwmClk ≤ due / s.tclk then due else s.edge s.now
    let bound := g.tOff gh + ns (s.dtMax l.val)
    let back := (g.tX gh).isNone && decide (reqAt < bound) && decide (at_ ≤ due)
    let soft := (g.tX gh).any fun x => decide (x ≤ at_)
    let d := match g.tX gh with
      | some x => if (s.ggCtrl l.val).testBit 0 && decide (x < rel) && decide (reqAt < bound) then
          some (s.learnOf l.val x (g.tOff gh) (if gh then g.dR else g.dF)) else none
      | none => none
    let tsw := match g.tX gh with
      | some x => min 0xFFFF ((x - g.tOff gh) / 500)
      | none => 0xFFFF
    exec (.gateRelease l gh) s₀ = .next ((s.at_ at_).updGg l.val fun g => { g with
      gh := g.gh || gh, gl := g.gl || !gh
      glRise := if gh then g.glRise else at_
      blankWas := g.blank
      blank := some at_
      dR := if gh then d.getD g.dR else g.dR
      dF := if gh then g.dF else d.getD g.dF
      tswR := if gh then tsw else g.tswR
      tswF := if gh then g.tswF else tsw
      backstop := g.backstop || back
      backstops := if back then min 0xFFFF (g.backstops + 1) else g.backstops
      onH := if gh && !soft then g.onH + 1 else g.onH
      onL := if !gh && !soft then g.onL + 1 else g.onL
      confirm := if g.sn = gh then none else
        some (at_ + ns (s.rd (Od.SLOT_SN_CONFIRM (legSlot l.val))), gh) })

/-- No gate rises earlier than DT_MIN after the fall that its dead time counts from. Rests on R87, R91, R93. -/
def Obligations.NoGateRisesBeforeDtMin : Prop :=
  ∀ (l : Fin 192) (gh : Bool) (s₀ t : State), exec (.gateRelease l gh) s₀ = .next t →
    let s := s₀.upTo (s₀.riseAt l.val gh)
    (if gh then (s₀.gg l.val).gh else (s₀.gg l.val).gl) = false →
    (if gh then (s.gg l.val).gh else (s.gg l.val).gl) = false → (if gh then (t.gg l.val).gh else (t.gg l.val).gl) = true →
    128 * s.dtMin l.val ≤ (if gh then (s.gg l.val).dR else (s.gg l.val).dF) → s.dtMin l.val ≤ s.dtMax l.val → 0 < s.tclk →
    (s.gg l.val).tOff gh + ns (s.dtMin l.val) ≤ t.now

/-- SN transitions are captured at 500 ps, a missed confirm is counted and raised, dead-time entries are written on a
disabled leg only. Rests on R86, R87, R89, R90, R91, R92, R93, R94, R108. Says that these complete: snTransition,
snConfirmExpiry, ggParityError, ggDtWrite. -/
def Obligations.NodeCaptureMissAndDeadTimeWrites : Prop :=
  (∀ (l : Fin 192) (t : Nat) (high : Bool) (s : State), s.runs = true →
    let u := (t + 499) / 500 * 500
    let crossing (tx : Option Nat) (off : Nat) (low shows : Bool) : Option Nat :=
      if u ≤ off then (if shows then some off else none) else if low && tx.isNone && shows then some u else tx
    exec (.snTransition l t high) s = .next ((s.upTo u).updGg l.val fun g => { g with
      sn := high
      txR := crossing g.txR g.glOff (!g.gh) high
      txF := crossing g.txF g.ghOff (!g.gl) (!high)
      selfH := crossing g.selfH g.ghOff (!g.gh) high
      selfL := crossing g.selfL g.glOff (!g.gl) (!high)
      confirm := match g.confirm with
        | some (d, lv) => if lv = high && decide (u ≤ d) then none else some (d, lv)
        | none => none })) ∧
  (∀ (l : Fin 192) (s : State) (d : Nat) (lv : Bool), s.runs = true → (s.gg l.val).confirm = some (d, lv) →
    exec (.snConfirmExpiry l) s = .next (((s.upTo d).updGg l.val fun g =>
      { g with confirm := none, snMiss := true, snMisses := min 0xFFFF (g.snMisses + 1) }).raise Flt.GG_SN l.val)) ∧
  (∀ (t : Nat) (l : Fin 192) (s : State), s.runs = true →
    exec (.ggParityError t ⟨l, true⟩) s = .next (if ((s.upTo t).gg l.val).xhold then s.upTo t
      else ((s.upTo t).xcmd l.val).xholdEnd l.val) ∧
    let r := (s.upTo t).raise Flt.GG_PARITY l.val
    exec (.ggParityError t ⟨l, false⟩) s = .next (match r.legUnit l.val with
      | some u => if (r.ust (legSlot l.val) u).live then
          r.safeOff (legSlot l.val) u [legJ l.val] Flt.GG_PARITY false else r.lowerLeg l.val
      | none => r.lowerLeg l.val)) ∧
  (∀ (q : Req) (l : Fin 192) (which : Fin 6) (v : BitVec 16) (s : State), s.serves q (0x2200 + l.val) (which.val + 1) = true →
    let bytes := leBytes (if which.val = 4 then 1 else 2) v.toNat
    let x := leNat bytes
    admits (0x2200 + l.val) (which.val + 1) bytes = true →
    let r := s.upTo q.t
    let w := r.wr (dtReg l.val which.val) x
    let typ := if which.val = 4 then 2 else 3
    ((r.leg l.val).enabled = true →
      exec (.ggDtWrite q l which v) s = .next (r.refusedWith q 2 (0x2200 + l.val) (which.val + 1) 0x010A)) ∧
    ((r.leg l.val).enabled = false →
      (which.val < 3 → w.dtMin l.val ≤ w.rd (Od.LEG_DT_INIT l.val) ∧ w.rd (Od.LEG_DT_INIT l.val) ≤ w.dtMax l.val) →
      let lo := 128 * w.dtMin l.val
      let hi := 128 * w.dtMax l.val
      let y := if x.testBit 0 then w else w.resetDt l.val
      let y := if (r.ggCtrl l.val).testBit 1 != x.testBit 1 then y.updGg l.val fun g => { g with sn := !g.sn } else y
      exec (.ggDtWrite q l which v) s = .next (State.accepted (if which.val = 1 then w.resetDt l.val
        else if which.val = 0 || which.val = 2 then
          w.updGg l.val fun g => { g with dF := max lo (min g.dF hi), dR := max lo (min g.dR hi) }
        else if which.val = 5 then
          (if (r.ggCtrl l.val).testBit 2 != x.testBit 2 then
            (if (y.gg l.val).fkPin then y.fkRelease l.val y.now else y.fkAssert l.val y.now) else y)
        else w) q 2 (0x2200 + l.val) (which.val + 1) typ)))

/-- An FK assertion is deglitched for 10 ns outside blanking, held for 150 ns or to the end of blanking inside it, and
then decided. Rests on R27, R95, R96, R97, R98, R103. Says that these complete: fkAssert, fkRelease, fkDecision,
fkHard, blankingEnd, supplyWakeExpiry. -/
def Obligations.ShortCircuitInputFilter : Prop :=
  ∀ (l : Fin 192) (s : State),
    (∀ t, s.runs = false →
      exec (.fkAssert l t) s = .next ((s.at_ t).updGg l.val fun g => { g with fkPin := true }) ∧
      exec (.fkRelease l t) s = .next ((s.at_ t).updGg l.val fun g => { g with fkPin := false })) ∧
    (s.runs = true →
      (∀ t, ((s.upTo t).gg l.val).fkPin = false → ((s.upTo t).legUnit l.val).isSome = true →
        let r := (s.upTo t).updGg l.val fun g => { g with fkPin := true }
        exec (.fkAssert l t) s = .next (r.updGg l.val fun g =>
          { g with fk := if r.blanking l.val then .held r.now else .deglitch r.now })) ∧
      (∀ t, let r := (s.upTo t).updGg l.val fun g => { g with fkPin := false, fk := .none, pumpWait := none }
        exec (.fkRelease l t) s = .next (match ((s.upTo t).gg l.val).fk with
          | .held _ => (r.updGg l.val fun g =>
              { g with blankedSeen := true, blankedCount := (g.blankedCount + 1) % 2 ^ 32 }).raise Flt.GG_FK_BLANKED l.val
          | _ => r)) ∧
      (∀ t, (s.gg l.val).fk = .deglitch t → exec (.fkDecision l) s = .next ((s.upTo (t + ns 10)).fkJudge l.val)) ∧
      ((s.gg l.val).fk = .idle → s.legLive l.val = true → exec (.fkDecision l) s = .next (s.fkDecide l.val)) ∧
      (∀ t, (s.gg l.val).fk = .held t →
        exec (.fkHard l) s = .next ((s.upTo (t + ns 150)).fkJudge l.val) ∧
        ((s.gg l.val).blank.isSome = true → exec (.blankingEnd l) s = .next ((s.upTo (s.blankEnd l.val)).fkJudge l.val))) ∧
      (∀ t, (s.gg l.val).pumpWait = some t →
        let r := (s.upTo (t + us (s.rd (Od.SLOT_SUPPLY_WAKE (legSlot l.val))))).updGg l.val fun g => { g with pumpWait := none }
        exec (.supplyWakeExpiry l) s = .next (if (r.gg l.val).fkPin && (r.legUnit l.val).isSome then r.fkJudge l.val else r))) ∧
    (∀ u, s.legUnit l.val = some u →
      ((s.legLive l.val || s.joins l.val) = true →
        let r := s.updGg l.val fun g => { g with fk := .decided, fkSeen := true, fkCount := (g.fkCount + 1) % 2 ^ 32 }
        s.fkJudge l.val = (r.raise Flt.GG_FK l.val).safeOff (legSlot l.val) u [legJ l.val] Flt.GG_FK false) ∧
      ((s.legLive l.val || s.joins l.val) = false → (s.gg l.val).fk ≠ .idle →
        s.fkJudge l.val = (s.updGg l.val fun g => { g with fk := .idle }).raise Flt.GG_FK_IDLE l.val))

/-- Safe-off and string trip records take their time and units, and a safe torque off pin holds and frees the legs of
its group. Rests on R100, R101, R311, R312, R313, R314, R315, R504. Says that these complete: safeoffRecordRx,
stringTripRecordRx, safeoffRecordExpiry, stoAssert, stoRelease. -/
def Obligations.TripRecordsAndStoPinsAct : Prop :=
  ((∀ (t : Nat) (node : Fin 1024) (id : BitVec 16) (slot : Fin 32) (die : Bool) (t0 : BitVec 112) (s : State) (i : Nat),
    s.runs = true →
    let r : State := { s.at_ t with strRecords := (s.strRecords + 1) % 2 ^ 32 }
    (r.strById id.toNat = [i] →
      let w := r.addRecord { str := i, node := node.val, slot := slot.val, t0 := timeOf t0.toNat, die := die }
        (((r.str i).posOf node.val slot.val).getD 0xFF)
      exec (.safeoffRecordRx t node id slot die t0) s = .next (if (w.str i).inPc then w.pcAbort i else w) ∧
      exec (.stringTripRecordRx t node id) s = .next (r.tripString i false)) ∧
    (r.strById id.toNat = [] →
      exec (.safeoffRecordRx t node id slot die t0) s = .next r ∧ exec (.stringTripRecordRx t node id) s = .next r)) ∧
  (∀ (s : State) (r : SoRecord) (rs : List SoRecord), s.runs = true → s.records = r :: rs →
    let first := rs.foldl (fun a b => min a b.t0) r.t0
    exec .safeoffRecordExpiry s = .next { s.at_ (s.localOf (first + sysUs 100)) with
      records := s.records.filter fun r => r.t0 ≠ first })) ∧
  (∀ (g : Fin 2) (t width : Nat) (s : State),
    let demand (v : Nat) (r : State) : State :=
      let r := ((r.updPin g.val fun p =>
        { p with low := true, since := t, demand := p.demand || v.testBit 1, cause := p.cause || v.testBit 1 }).pairStep t).at_ (t + ns 600)
      (if v.testBit 0 then (r.updPin g.val fun p => { p with hw := true }).hwHold g.val else r).sfJudge
    let low (v : Nat) (r : State) : State := r.updPin g.val fun p =>
      { p with low := true, since := t, demand := p.demand || v.testBit 1, cause := p.cause || v.testBit 1, hw := p.hw || v.testBit 0 }
    (s.runs = true →
      (250 ≤ width → exec (.stoAssert g t width) s = .next (demand 3 (s.at_ t))) ∧
      (width < 100 → exec (.stoAssert g t width) s = .next (s.at_ t)) ∧
      (100 ≤ width → width < 250 → exec (.stoAssert g t width) s =
        .next (if (s.at_ t).draw.1 % 4 = 0 then (s.at_ t).draw.2 else demand ((s.at_ t).draw.1 % 4) (s.at_ t).draw.2)) ∧
      (let r := (((s.at_ t).updPin g.val fun p => { p with low := false, since := t, demand := false }).pairStep t).at_ (t + ns 600)
       exec (.stoRelease g t) s = .next (r.updPin g.val fun p => { p with hw := false }).sfJudge)) ∧
    (s.runs = false →
      (250 ≤ width → exec (.stoAssert g t width) s = .next (low 3 (s.at_ t))) ∧
      (width < 100 → exec (.stoAssert g t width) s = .next (s.at_ t)) ∧
      (100 ≤ width → width < 250 → exec (.stoAssert g t width) s =
        .next (if (s.at_ t).draw.1 % 4 = 0 then (s.at_ t).draw.2 else low ((s.at_ t).draw.1 % 4) (s.at_ t).draw.2)) ∧
      exec (.stoRelease g t) s = .next ((s.at_ t).updPin g.val fun p =>
        { p with low := false, since := t, demand := false, hw := false })))

/-- Modulator inputs: writes restart both filters of a stopped slot's input, violations and long runs are counted and
raised. Rests on R115, R116, R117, R118, R123. Says that these complete: mdCtrlWrite, mdTimingViolation,
mdClockRecover, mdRunLimit, mdFilterFilled. -/
def Obligations.ModulatorInputsWriteAndWatch : Prop :=
  (∀ (q : Req) (m : Fin 96) (which : Fin 4) (v : BitVec 16) (s : State),
    let sub := [0x01, 0x02, 0x03, 0x0D].getD which.val 0
    let bytes := leBytes (if which.val = 3 then 1 else 2) v.toNat
    let x := leNat bytes
    let typ := if which.val = 3 then 2 else 3
    s.serves q (0x2800 + m.val) sub = true → admits (0x2800 + m.val) sub bytes = true →
    let r := s.upTo q.t
    let w := r.wr (mdReg m.val which.val) x
    let was := (r.rd (Od.MD_CTRL m.val)).testBit 0
    (r.slotStopped (m.val / 3) = false →
      exec (.mdCtrlWrite q m which v) s = .next (r.refusedWith q 2 (0x2800 + m.val) sub 0x010A)) ∧
    (r.slotStopped (m.val / 3) = true →
      (which.val = 0 → x.testBit 0 = true → (r.rd Od.MEAS_MCLK_EN).testBit (m.val / 16) = true) →
      exec (.mdCtrlWrite q m which v) s = .next (State.accepted (State.mdRestart
        (if which.val = 0 && (x.testBit 0 && !was) then
          w.updMd m.val fun y => { y with hi := false, lo := false, trip := false, offAt := none }
        else if which.val = 0 && (!x.testBit 0 && was) then w.mdDisable m.val else w) m.val) q 2 (0x2800 + m.val) sub typ))) ∧
  (∀ (m : Fin 96) (t : Nat) (s : State), s.runs = true → s.mdOn m.val = true →
    let r := (s.at_ t).updMd m.val fun x => { x with
      viol := (s.at_ t).now :: x.viol.filter fun v => (s.at_ t).now < v + ms 1, tv := (x.tv + 1) % 2 ^ 32 }
    exec (.mdTimingViolation m t) s = .next (if (r.md m.val).viol.length > 16 && !(r.md m.val).clkBad then
      (r.updMd m.val fun x => { x with clkBad := true, clockSeen := true }).raise Flt.MD_CLOCK m.val else r)) ∧
  (∀ (m : Fin 96) (s : State) (v : Nat) (vs : List Nat), s.runs = true → (s.md m.val).viol = v :: vs → (s.md m.val).clkBad = true →
    exec (.mdClockRecover m) s = .next ((s.at_ (v + ms 1)).updMd m.val fun x => { x with clkBad := false })) ∧
  (∀ (m : Fin 96) (t run : Nat) (s : State), s.runs = true → s.mdOn m.val = true → s.rd (Od.MD_RUN_MAX m.val) < run →
    (s.md m.val).runOn = false →
    exec (.mdRunLimit m t run) s = .next (((s.at_ t).updMd m.val fun x => { x with
      runOn := true, runBad := true, stuckSeen := true }).raise Flt.MD_STUCK m.val)) ∧
  (∀ (m : Fin 96) (t run : Nat) (s : State), s.runs = true → s.mdOn m.val = true → run ≤ s.rd (Od.MD_RUN_MAX m.val) →
    (s.md m.val).runOn = true →
    exec (.mdRunLimit m t run) s = .next ((s.at_ t).updMd m.val fun x => { x with
      runOn := false, fillFrom := (s.at_ t).now - run * s.tmclk, fillFast := true, fillCtrl := true })) ∧
  (∀ (m : Fin 96) (t : Nat) (ctrl : Bool) (s : State), s.runs = true → s.mdOn m.val = true → s.measFallback = false →
    (if ctrl then (s.md m.val).fillCtrl else (s.md m.val).fillFast) = true →
    let r := s.at_ (max t ((s.md m.val).fillFrom + (if ctrl then s.mdFillCtrl m.val else s.mdFillFast m.val)))
    let r := r.updMd m.val fun x => if ctrl then { x with fillCtrl := false } else { x with fillFast := false }
    exec (.mdFilterFilled m t ctrl) s = .next (r.updMd m.val fun x => { x with
      runBad := x.runBad && (x.runOn || x.fillFast || x.fillCtrl), relBad := x.relBad && (x.fillFast || x.fillCtrl) }))

/-- A modulator trip asserts after its deglitch and acts, it releases between the thresholds, and a fired control
output is launched into the queue. Rests on R118, R119, R120, R121, R122, R133. Says that these complete: mdTrip,
mdTripRelease, trgSample, mdCtrlOutput. -/
def Obligations.ModulatorTripsAndControlOutputs : Prop :=
  (∀ (m : Fin 96) (t : Nat) (stream : List Bool) (s₀ : State), s₀.runs = true →
    let s := s₀.upTo t
    s.mdOn m.val = true → (s.md m.val).trip = false →
    let n := (s.mdThr m.val (Od.MD_TRIP_DGL m.val) false).toNat
    0 < n → n ≤ stream.length →
    (∀ j < n, s.mdBeyond m.val (s.mdFast m.val (stream.take (stream.length - j))) = true) →
    let r := (s.mdPublish m.val stream).updMd m.val fun x => { x with
      v := s.mdFast m.val stream, trip := true, tripSeen := true, trips := (x.trips + 1) % 2 ^ 32 }
    let r := r.raise Flt.MD_TRIP m.val
    exec (.mdTrip m t stream) s₀ = .next (match r.rd (Od.MD_TRIP_ACT m.val) with
      | 1 => r.each (r.units (m.val / 3)) fun r u => r.safeOffUnit (m.val / 3) u Flt.MD_TRIP false
      | 2 => r.each (r.busesOn m.val) fun r b => r.ov3Cut b
      | _ => r)) ∧
  (∀ (m : Fin 96) (t : Nat) (stream : List Bool) (s₀ : State), s₀.runs = true →
    let s := s₀.upTo t
    (s.md m.val).trip = true → s.mdBeyond m.val (s.mdFast m.val stream) = false →
    let r := (s.mdPublish m.val stream).updMd m.val fun x => { x with v := s.mdFast m.val stream }
    let r := r.updMd m.val fun x => { x with trip := false }
    exec (.mdTripRelease m t stream) s₀ = .next (r.each (r.busesOn m.val) fun r b => r.updLv b fun x => { x with ov3 := false })) ∧
  (∀ (s : State) (te : Nat) (f : Firing), s.runs = true → s.nextFiring = some (te, f) →
    let r := (s.at_ f.ts).updTrg te fun t => { t with pend := none }
    exec .trgSample s = .next (if f.chan < 0x60 then r.sampleMd te f else r.sampleSar te f)) ∧
  (∀ (stream : List Bool) (s : State) (d : MdFiring), s.runs = true → s.nextMd = some d →
    let m := d.f.chan
    let r : State := { s.at_ d.endAt with meas := { s.meas with mdFir := s.meas.mdFir.erase d } }
    let r := if r.mdOn m && !r.measFallback then r.mdPublish m stream else r
    let v := ctrlValue (s.mdOrder m) (s.rd (Od.MD_CTRL_OSR m)) stream
    let ovr := decide (v.natAbs ≥ 7864320)
    let st : Nat := if ovr then 3 else if r.now < (r.md m).fillFrom + r.mdFillCtrl m then 5 else 0
    let y := if ovr then r.updMd m fun x => { x with overSeen := true } else r
    let value := scaled (y.chanGain m).1 (y.chanGain m).2 (F32.ofRat v (2 ^ 23))
    exec (.mdCtrlOutput stream) s = .next (if !d.ok || r.mdBad m || r.measFallback then
        r.launchInvalid d.te d.f (d.endAt + ns 150) d.tc
      else (y.noteConverted d.te value).launch (d.endAt + ns 150)
        { value := value, raw := ofSigned 24 v / 256, chan := m, src := 0xF, st := st
          time := (y.noteConverted d.te value).sysAt d.tc, trig := d.te, seq := d.f.seq, count := 1, dst := d.f.dst }))

/-- A conversion becomes a result of the mean of its samples, a streaming pair updates its three estimates, and it
declares convergence. Rests on R124, R126, R127, R128, R129, R132. Says that these complete: sarConversionDone,
sliceStreamUpdate, sliceConverged. -/
def Obligations.ConverterResultsAndStreamEstimates : Prop :=
  (∀ (codes : List Int) (s : State) (c : Conv), s.runs = true → s.nextConv = some c →
    let n := c.f.avg
    let r : State := { s.at_ (c.due - ns 100) with meas := { s.meas with convs := s.meas.convs.erase c } }
    let raws := (List.range n).map fun i => sarCode (codes.getD i 0)
    let mean : Rat := ((List.range n).foldl (fun a i => a + r.delivered c codes i) 0) / n
    let ovr := raws.any fun x => x = 32767 || x = -32768
    let a := c.f.chan - 0x60
    let y := if ovr && a < 16 then { r with meas := { r.meas with
      sars := r.meas.sars.modify a fun x => { ovr := true, overs := (x.overs + 1) % 2 ^ 32 } } } else r
    let unset := match c.hold with
      | some _ => !(y.slice (c.slice / 2 * 2)).convOG
      | none => false
    let st : Nat := if ovr then 3 else if unset then 5 else 0
    let v := scaled (y.chanGain c.f.chan).1 (y.chanGain c.f.chan).2 (F32.ofRat (mean / 32768).num (mean / 32768).den)
    let z := y.noteConverted c.te v
    let raw := if n = 1 && c.hold.all (fun h => h % 2 = 0) then ofSigned 16 (raws.getD 0 0) else z.draw.1 % 2 ^ 16
    exec (.sarConversionDone codes) s = .next (z.draw.2.launch c.due
      { value := v, raw := raw, chan := c.f.chan, src := c.slice, st := st
        time := z.draw.2.sysAt (c.first + ns (if c.hold = none then 50 else 25) * (n - 1))
        trig := c.te, seq := c.f.seq, count := n, dst := c.f.dst })) ∧
  (∀ (i : Fin 8) (e o e2 : Int) (s : State), s.runs = true →
    let k := i.val / 2 * 2
    let p := s.slice k
    p.streamFrom.isSome = true → s.measFallback = false →
    let a := sarCode e
    let b := sarCode o
    let a2 := sarCode e2
    let mu : Rat := 1 / (2 ^ s.rd (Od.SLICE_MU k) : Nat)
    let oc : Rat := (b - p.ofs) * (1 + p.gn)
    let ofs := rclamp (p.ofs + mu * ((b - p.ofs) - a)) (-256) 256
    let gn := rclamp (p.gn + mu * ((a.natAbs : Rat) - (if oc < 0 then -oc else oc)) / 32768) (-1 / 50) (1 / 50)
    let gate := decide ((a2 - a).natAbs ≥ 512)
    let sk := if gate then rclamp (p.sk + mu * (oc - ((a : Rat) + a2) / 2) / ((a2 - a : Int) : Rat) * 100000) (-64) 64 else p.sk
    let lim (v lo : Rat) : Bool := v = lo || v = -lo
    let r := s.updSlice k fun x => { x with
      ofs := ofs, gn := gn, sk := sk, gated := x.gated + b2n gate
      sat := x.sat || (lim ofs 256 || lim gn (1 / 50) || lim sk 64), convs := (x.convs + 1) % 2 ^ 64 }
    let r := r.updSlice (k + 1) fun x => { x with convs := (x.convs + 1) % 2 ^ 64 }
    exec (.sliceStreamUpdate i e o e2) s = .next
      (if (lim ofs 256 && !lim p.ofs 256) || (lim gn (1 / 50) && !lim p.gn (1 / 50)) || (lim sk 64 && !lim p.sk 64) then
        r.raise Flt.SAR_CORR k else r)) ∧
  (∀ (i : Fin 8) (s : State) (t : Nat), s.runs = true →
    let k := i.val / 2 * 2
    let tau := 2 ^ s.rd (Od.SLICE_MU k)
    (s.slice k).streamFrom = some t →
    exec (.sliceConverged i false) s = .next ((s.at_ (t + 5 * tau * ns 100)).updSlice k fun x => { x with convOG := true }) ∧
    (20 * tau ≤ (s.slice k).gated →
      exec (.sliceConverged i true) s = .next (s.updSlice k fun x => { x with convSk := true })))

/-- Results enter the queue in order of completion, host entries leave it by Q_HOST_POP or by age, and Q_CLR clears
the counters. Rests on R139, R140, R141, R146. Says that these complete: queueEntry, qHostAgeExpiry, qHostPop, qClr.
-/
def Obligations.ResultQueue : Prop :=
  (∀ (s : State) (x : Nat × QEntry), s.runs = true → s.nextResult = some x →
    let disturbed := (x.2.st = 0 || x.2.st = 5) && s.meas.watch.any fun w => w.trig = x.2.trig && w.seq = x.2.seq &&
      s.meas.edges.any fun e => w.legs.testBit e.1 && decide (w.lo ≤ e.2) && decide (e.2 ≤ w.hi)
    let e : QEntry := if disturbed then { x.2 with st := 2 } else x.2
    let r : State := { s.at_ x.1 with meas := { s.meas with
      flight := s.meas.flight.erase x, watch := s.meas.watch.filter fun w => !(w.trig = x.2.trig && w.seq = x.2.seq) } }
    let r := r.traceAll 3 e.trig 9 e.value e.time
    let r := if r.meas.queue.length < 1024 then r.thSee e else r
    exec .queueEntry s = .next
      (if e.dst < 128 && !r.scheduled e.dst then { r with meas := { r.meas with dstOff := (r.meas.dstOff + 1) % 2 ^ 32 } }
       else if r.meas.queue.length ≥ 1024 then
         let y : State := { r with meas := { r.meas with drops := (r.meas.drops + 1) % 2 ^ 32, fullEp := true } }
         if !r.meas.fullEp then y.raise Flt.MEAS_QFULL 0 else y
       else
         { r with meas := { r.meas with
             queue := r.meas.queue ++ [(r.now, e)], high := max r.meas.high (r.meas.queue ++ [(r.now, e)]).length } })) ∧
  (∀ (s : State) (x : Nat × QEntry) (rest : List (Nat × QEntry)), s.runs = true →
    takeFirst (fun e => e.dst = 0xFF) s.meas.queue = some (x, rest) →
    exec .qHostAgeExpiry s = .next { s.at_ (x.1 + us (s.rd Od.Q_HOST_AGE) + 1) with
      meas := Meas.settle { s.meas with queue := rest, aged := (s.meas.aged + 1) % 2 ^ 32 } }) ∧
  (∀ (q : Req) (s : State), s.serves q 0x2A00 0x04 = true →
    let r := s.upTo q.t
    let popped := match takeFirst (fun e => e.dst = 0xFF) r.meas.queue with
      | none => (List.replicate 16 0, r)
      | some (x, rest) => (x.2.bytes, { r with meas := Meas.settle { r.meas with queue := rest } })
    exec (.qHostPop q) s = .next (popped.2.answer (q.msg 1 0x2A00 0x04 []) { typ := 13, total := 16, data := popped.1 })) ∧
  (∀ (q : Req) (s : State), s.serves q 0x2A00 0x09 = true →
    let r := s.upTo q.t
    exec (.qClr q) s = .next (State.accepted
      { r with meas := { r.meas with high := r.meas.queue.length, drops := 0, aged := 0, dstOff := 0 } } q 2 0x2A00 0x09 2))

/-- LS_PROGRAM loads a checked image, RUN, STOP, HOLD, RESUME and UNLOAD change the state of a loop slot as R179
allows. Rests on R156, R158, R171, R179, R182. Says that these complete: lsProgramWrite, lsRun, lsStop, lsHold,
lsResume, lsUnload. -/
def Obligations.LoopSlotLoadsRunsAndUnloads : Prop :=
  ∀ (q : Req) (n : Fin 128) (s : State),
    let r := s.upTo q.t
    let t := r.ls n.val
    (∀ (img : List Byte) (p : LProg), s.serves q (0x3000 + n.val) 0x03 = true → img.length ≤ 33554432 →
      t.st = .empty ∨ t.st = .loaded → r.sigOk img kindLoop [] = true → parseProg img = some p → progOk p = true →
      p.room ≤ r.loopFree n.val →
      exec (.lsProgramWrite q n img) s = .next (State.accepted (r.updLs n.val fun t => { t with
        st := .loaded, prog := some p, bankA := p.coef, bankB := p.coef, act := 0, swap := false, words := p.state
        first := true, prev := [] }) q 5 (0x3000 + n.val) 0x03 15)) ∧
    (s.serves q (0x3000 + n.val) 0x02 = true →
      (∀ (k : Nat) (p : LProg), t.st = .loaded → t.pendStop = false → r.pipeTest (r.rd (Od.LS_PIPE n.val)) = false →
        r.raOk n.val = true → r.windowOk n.val = true → r.pickPipe n.val = some k → t.prog = some p →
        exec (.lsRun q n) s = .next (State.accepted (r.updLs n.val fun t => { t with
          st := .running, pipe := some k, run := none, words := p.blocks.foldl (fun w b =>
            if b.typ = 0x08 then splice w b.sb [t.bank.getD (b.cb + 8) 0, 0, 0, 0]
            else if b.typ = 0x1A then splice (splice w (b.sb + 1) [t.bank.getD (b.cb + 2) 0]) (b.sb + 4) [0]
            else w) p.state
          first := true, prev := [], fallbackNext := true, raCost := r.raCostOf n.val, resync := false, pendResume := false
          inputs := t.inputs.map fun x => { x with real := none } }) q 2 (0x3000 + n.val) 0x02 2)) ∧
      (let leave (stop : Bool) : State :=
         let r := r.updLs n.val fun t => { t with pendStop := stop, pendHold := !stop }
         State.settleCmd (if t.run.any fun x => x.kind = .parked || x.kind = .stage || (x.start.isNone && x.kind ≠ .recompute)
           then r.dropRun n.val else r) n.val
       t.pendStop = false →
       (t.st = .running ∨ t.st = .holding →
         exec (.lsStop q n) s = .next ((leave true).accepted q 2 (0x3000 + n.val) 0x02 2)) ∧
       (t.st = .running → exec (.lsHold q n) s = .next ((leave false).accepted q 2 (0x3000 + n.val) 0x02 2))) ∧
      (t.st = .holding → t.pendStop = false → r.standing Flt.LOOP_INPUT n.val = false →
        r.standing Flt.LOOP_MISS_RUN n.val = false → r.standing Flt.LOOP_ECC_U n.val = false →
        (t.pipe.isSome = true → exec (.lsResume q n) s = .next
          ((r.updLs n.val fun t => { t with pendResume := true }).accepted q 2 (0x3000 + n.val) 0x02 2)) ∧
        (∀ k, t.pipe = none → r.raOk n.val = true → r.windowOk n.val = true → r.pickPipe n.val = some k →
          exec (.lsResume q n) s = .next (State.accepted (r.updLs n.val fun t => { t with
            pendResume := true, pipe := some k, raCost := r.raCostOf n.val }) q 2 (0x3000 + n.val) 0x02 2))) ∧
      (t.st = .loaded → exec (.lsUnload q n) s = .next (State.accepted (r.updLs n.val fun t => { t with
        st := .empty, prog := none, bankA := [], bankB := [], act := 0, swap := false, words := [], prev := [] })
        q 2 (0x3000 + n.val) 0x02 2)))

/-- The engine takes queue entries, makes runs ready, gives them a pipe, ends and abandons them, and delivers their
values. Rests on R151, R153, R160, R161, R163, R166, R170, R173, R182. Says that these complete: loopQueueIntake,
lsRunReady, lsInTimeout, lsRunStart, lsRunEnd, legDelivery, lsDeadline. -/
def Obligations.LoopRunsAreReleasedRunAndEnd : Prop :=
  (∀ (s : State) (x : Nat × QEntry) (rest : List (Nat × QEntry)), s.runs = true → s.domOn domLoop = true →
    takeFirst (fun e => decide (e.dst < 128)) s.meas.queue = some (x, rest) →
    let r := match s.le.intakeClk with
      | some c => s.at_ ((c + 1) * s.tloop)
      | none => s
    let r : State := { r with
      meas := Meas.settle { r.meas with queue := rest }
      le := { r.le with intake := (r.le.intake + 1) % 2 ^ 64, intakeClk := some r.loopClk } }
    let n := x.2.dst
    exec .loopQueueIntake s = .next
      (if (r.ls n).st ≠ .running then { r with meas := { r.meas with dstOff := (r.meas.dstOff + 1) % 2 ^ 32 } }
       else match (List.range 16).filter fun i => r.inKind n i = 1 && r.inSel n i = x.2.trig with
         | [] => r.updLs n fun t => { t with stray := (t.stray + 1) % 2 ^ 32 }
         | is => r.each is fun r i => r.placeEntry n i x.2)) ∧
  (∀ (n : Fin 128) (s : State), s.runs = true → s.allNew n.val = true →
    exec (.lsRunReady n) s = .next (s.updRun n.val fun r => { r with ready := true })) ∧
  (∀ (n : Fin 128) (s : State) (r : LRun), s.runs = true → (s.ls n.val).run = some r → r.ready = false →
    exec (.lsInTimeout n) s = .next ((s.at_ (r.release + ns (s.rd (Od.LS_IN_TIMEOUT n.val)))).updRun n.val fun r =>
      { r with ready := true })) ∧
  (∀ (p : Fin 4) (s : State) (n : Nat) (r : LRun), s.runs = true → s.nextRun p.val = some n → s.occupant p.val = none →
    (s.ls n).run = some r →
    (r.start.isSome = true →
      let w := s.at_ (s.loopEdge (max s.now (s.pipeFree p.val)))
      exec (.lsRunStart p) s = .next (w.updRun n fun r => { r with onPipe := some w.now })) ∧
    (r.start = none →
      let t := s.loopEdge (max s.now (s.pipeFree p.val))
      let late := (List.range 16).any fun i => s.waits n i && r.kind ≠ .recompute &&
        ((s.ls n).inp i).cur.any fun v => decide (v.clk ≥ t / s.tloop) && ((s.ls n).inp i).was.isNone
      exec (.lsRunStart p) s = .next (State.startRun
        (s.at_ (if late && s.now < r.release + ns (s.rd (Od.LS_IN_TIMEOUT n)) then t + s.tloop else t)) n))) ∧
  (∀ (n : Fin 128) (s : State) (r : LRun) (p : LProg) (e : Nat), s.runs = true →
    (s.ls n.val).run = some r → (s.ls n.val).prog = some p → s.runEnd n.val = some e → r.kind = .plain → e ≤ r.deadline →
    let r' := (s.ls n.val).exec p p.blocks.length (s.ls n.val).cost r
    (r'.bad = false →
      let w := s.at_ e
      exec (.lsRunEnd n) s = .next (State.afterRuns s (w.commitRun n.val p r' (w.runAbsent n.val r')))) ∧
    (∀ b, r'.bad = true → s.badAt n.val = some b → b ≤ r.deadline →
      exec (.lsRunEnd n) s = .next (State.afterRuns s ((s.at_ b).nanRun n.val)))) ∧
  (∀ (s : State) (d : Delivery), s.runs = true → s.nextDelivery = some d →
    let r : State := { s with le := { s.le with deliveries := s.le.deliveries.erase d } }
    let r := r.at_ d.due
    exec .legDelivery s = .next ((r.each d.vals fun r v =>
      if v.2.1 then r.stagePhase v.1 v.2.2 else r.stageDuty v.1 v.2.2).requestCommit d.car)) ∧
  (∀ (n : Fin 128) (s : State) (r : LRun), s.runs = true → (s.ls n.val).run = some r → s.badAt n.val = none →
    ((s.runEnd n.val).any fun e => decide (e ≤ r.deadline)) = false →
    exec (.lsDeadline n) s = .next ((s.at_ r.deadline).missRun n.val))

/-- Writes reach the inactive bank, a swap waits for the next run of a RUNNING slot, direct writes change the active
bank, host values reach an input. Rests on R160, R174, R175, R176, R182. Says that these complete: lsBankSwap,
lsCoefImageWrite, lsCoefWordWrite, lsCoefDirect, lsInValWrite. -/
def Obligations.CoefficientBanksAndHostInputs : Prop :=
  ∀ (q : Req) (n : Fin 128) (s : State),
    let r := s.upTo q.t
    let t := r.ls n.val
    (s.serves q (0x3000 + n.val) 0x21 = true →
      (t.st = .running → exec (.lsBankSwap q n) s = .next
        ((r.updLs n.val fun t => { t with swap := true }).accepted q 2 (0x3000 + n.val) 0x21 2)) ∧
      (t.st = .loaded ∨ t.st = .holding → exec (.lsBankSwap q n) s = .next
        ((r.updLs n.val fun t => { t with act := 1 - t.act }).accepted q 2 (0x3000 + n.val) 0x21 2))) ∧
    (t.st ≠ .empty → t.swap = false →
      (∀ img : List Byte, s.serves q (0x3000 + n.val) 0x23 = true → img.length = 4 * t.bank.length → img.length ≤ 33554432 →
        exec (.lsCoefImageWrite q n img) s = .next
          ((r.updLs n.val fun t => t.setOther (leWords img 0 t.bank.length)).accepted q 5 (0x3000 + n.val) 0x23 15)) ∧
      (∀ v : BitVec 32, s.serves q (0x3000 + n.val) 0x25 = true → r.rd (Od.LS_COEF_ADDR n.val) < t.bank.length →
        exec (.lsCoefWordWrite q n v) s = .next (((r.updLs n.val fun t =>
          t.setOther (t.other.set (r.rd (Od.LS_COEF_ADDR n.val)) v.toNat)).bumpAddr n.val).accepted q 2 (0x3000 + n.val) 0x25 4))) ∧
    (∀ (w : BitVec 16) (v : BitVec 32), s.serves q (0x3000 + n.val) 0x26 = true → t.st ≠ .empty → w.toNat < t.bank.length →
      exec (.lsCoefDirect q n w v) s = .next (((r.advance n.val).updLs n.val fun t =>
        { t.setWord w.toNat v.toNat with directs := (t.directs + 1) % 2 ^ 32, directSeen := true }).accepted
          q 2 (0x3000 + n.val) 0x26 5)) ∧
    (∀ (i : Fin 16) (v : BitVec 32), s.serves q (0x3000 + n.val) (0x50 + i.val) = true →
      admits (0x3000 + n.val) (0x50 + i.val) (leBytes 4 v.toNat) = true → F32.finite v.toNat = true →
      let w := r.wr (Od.LS_IN_VAL n.val i.val) v.toNat
      exec (.lsInValWrite q n i v) s = .next (State.accepted (if w.inKind n.val i.val = 4 then w.arrive n.val i.val v.toNat 0 else w)
        q 2 (0x3000 + n.val) (0x50 + i.val) 10))

/-- An ECC error in a slot is corrected or holds the slot, and a run-ahead commit stage checks its residuals and
commits, squashes or misses. Rests on R182, R188, R191, R192, R194, R436. Says that these complete: loopEccError,
raTLate, raCommitStage. -/
def Obligations.EccErrorsAndRunAheadCommitStages : Prop :=
  (∀ (t : Nat) (n : Fin 128) (s : State), s.runs = true →
    let r := (s.at_ t).updLs n.val fun t => { t with eccSeen := true }
    let card (c : Bool) (w : State) : State := if w.ring.role ≠ 0 then w
      else if c then (w.updMgr fun m => { m with corrAt := some w.now, scrubC := up32 m.scrubC }).seeGrade
      else (w.updMgr fun m => { m with scrubU := up32 m.scrubU }).setUnfit 1
    exec (.loopEccError t n true) s = .next (card true
      (State.raise { r with le := { r.le with eccC := (r.le.eccC + 1) % 2 ^ 32 } } Flt.LOOP_ECC_C n.val)) ∧
    exec (.loopEccError t n false) s = .next (card false
      (((State.toHolding (if (r.ls n.val).run.isSome then r.missRun n.val else r) n.val).raise Flt.LOOP_ECC_U n.val).settleCmd n.val))) ∧
  (∀ (n : Fin 128) (s : State) (r : LRun), s.runs = true → (s.ls n.val).run = some r → r.kind = .parked →
    exec (.raTLate n) s = .next ((s.at_ (s.tLate n.val r)).readyStage n.val)) ∧
  (∀ (p : Fin 4) (s : State) (n : Nat) (r : LRun) (pr : LProg), s.runs = true → s.nextStage p.val = some n →
    (s.ls n).run = some r → (s.ls n).prog = some pr →
    let ready := if s.realsIn n && s.loopEdge r.readyAt = r.readyAt then r.readyAt + s.tloop else s.loopEdge r.readyAt
    let free := max ready (s.pipeFree p.val)
    let w := match s.occupant p.val with
      | some m => match s.badAt m with
        | some b => if b ≤ s.blockEnd m free && b ≤ s.dl m then ((s.at_ b).nanRun m).at_ free else s.at_ (s.blockEnd m free)
        | none => s.at_ (s.blockEnd m free)
      | none => s.at_ free
    let np := (w.raPreds n).length
    let res := (checkResiduals w n r (w.raPreds n)).1
    let squashes := (checkResiduals w n r (w.raPreds n)).2
    let checked := w.now + (16 + 4 * np) * w.tloop
    let e := if squashes then checked else w.now + (w.ls n).raCost * w.tloop
    let w := w.makeWay p.val (min e r.deadline)
    let w : State := { w with le := { w.le with stageTill := w.le.stageTill.set p.val (min e r.deadline) } }
    (r.deadline < e →
      let x := w.at_ r.deadline
      let x := (if checked ≤ r.deadline then x.noteResiduals n res else x).missRun n
      exec (.raCommitStage p) s = .next (State.afterRuns s { x with now := w.now })) ∧
    (e ≤ r.deadline →
      let x := (w.at_ e).noteResiduals n res
      let x : State := { x with le := { x.le with raStageMax := max x.le.raStageMax ((e - r.readyAt) / 1000) } }
      (squashes = true → exec (.raCommitStage p) s = .next (State.afterRuns s { x.squash n pr r with now := w.now })) ∧
      (squashes = false →
        let r' := (x.raPreds n).foldl (correctModel x n r) r
        let r' := (x.raPlaus n).foldl (correctPlaus x n r) r'
        let r' := correctPorts x n r' res
        let y := if (x.ls n).outPorts.any fun q => !F32.finite ((r'.outs.getD q.1 []).getD q.2 0) then x.nanRun n
           else
             let y := x.updLs n fun t => { t with
               squashRun := 0, commits := (t.commits + 1) % 2 ^ 64
               inputs := t.inputs.mapIdx fun i z => match x.raOf n i, z.real with
                 | some _, some v => if v.st = 4 || v.st = 1 then z else { z with used := v.v }
                 | _, _ => z }
             y.commitRun n pr { r' with periods := y.cars.map (·.p) } (x.runAbsent n r)
        exec (.raCommitStage p) s = .next (State.afterRuns s { y with now := w.now }))))

/-- A string command accepted at its home device is sent with an apply time and acts there; string records act on
arrival. Rests on R45, R209, R210, R218, R219, R231. Says that these complete: precharge, mainClosed, strStop,
strClear, strCmdApply, stringRecordRx, cellCycleBoundary. -/
def Obligations.StringCommandsActAtTheirApplyTime : Prop :=
  (∀ (v : Fin 4) (q : Req) (i : Fin 32) (s : State), s.serves q (0x3220 + i.val) 0x03 = true →
    let r := s.upTo q.t
    ((r.str i.val).cmdSt ≠ .pending → r.isHome i.val = true → r.strAllowed i.val (v.val + 1) = true →
      exec (stringCommand v q i) s = .next (State.accepted
        ((r.updStr i.val fun t => { t with cmd := some (v.val + 1, r.strApplyAt), cmdSt := .pending }).sendString
          i.val recCommand 0 (v.val + 1) r.strApplyAt) q 2 (0x3220 + i.val) 0x03 2)) ∧
    ((r.str i.val).cmdSt ≠ .pending → (r.isHome i.val && r.strAllowed i.val (v.val + 1)) = false →
      exec (stringCommand v q i) s = .next (State.refusedWith
        (r.updStr i.val fun t => { t with cmdSt := .refused }) q 2 (0x3220 + i.val) 0x03 0x010A)) ∧
    ((r.str i.val).cmdSt = .pending →
      exec (stringCommand v q i) s = .next (r.refusedWith q 2 (0x3220 + i.val) 0x03 abBusy))) ∧
  (∀ (i : Fin 32) (s : State) (v T : Nat), s.runs = true → (s.str i.val).cmd = some (v, T) →
    let r := s.at_ (s.localOf T)
    let ended := fun (o : CmdSt) => r.updStr i.val fun t => { t with cmd := none, cmdSt := if t.cmdSt = .pending then o else t.cmdSt }
    (v = 1 → (r.str i.val).st = .stopped → (∀ c ∈ r.membersHere i.val, r.ust c 0 = .stopped) →
      exec (.strCmdApply i) s = .next ((ended .done).strPrecharge i.val T)) ∧
    (v = 2 → (r.str i.val).st = .pcPassive → exec (.strCmdApply i) s = .next ((ended .done).strMain i.val)) ∧
    (v = 3 ∨ v = 4 → r.strAllowed i.val v = true → exec (.strCmdApply i) s = .next ((ended .done).stopMembers i.val .stopped)) ∧
    (v = 3 ∨ v = 4 → r.strAllowed i.val v = false → exec (.strCmdApply i) s = .next (ended .refused))) ∧
  (∀ (t : Nat) (node : Fin 1024) (id : BitVec 16) (cmd : BitVec 8) (apply : BitVec 112) (s : State), s.runs = true →
    let r : State := { s.at_ t with strRecords := ((s.at_ t).strRecords + 1) % 2 ^ 32 }
    exec (.stringRecordRx t node 0 id cmd apply) s = .next (r.each (r.strById id.toNat) fun r i =>
      r.updStr i fun x => { x with cmd := some (cmd.toNat, timeOf apply.toNat) }) ∧
    exec (.stringRecordRx t node 1 id cmd apply) s = .next (r.each (r.strById id.toNat) fun r i =>
      r.stopMembers i (if (r.str i).st = .tripped then .tripped else .stopped)) ∧
    exec (.stringRecordRx t node 2 id cmd apply) s = .next (r.each (r.strById id.toNat) State.strBlock) ∧
    exec (.stringRecordRx t node 3 id cmd apply) s = .next (r.each (r.strById id.toNat) State.strRelease)) ∧
  (∀ (s : State), s.runs = true → s.tb.running = true →
    let r := s.at_ (s.localOf (s.gridNext s.cellAt (sysNsU (s.rd Od.CELL_CYCLE))))
    let r := State.applyFields { r with cellAt := r.now }
    let on := r.domOn domLegs
    let r := r.each ((List.range 64).filter fun e => on && r.lvKind e = 2) State.busTick
    let r := r.each ((List.range 64).filter fun e => on && r.lvKind e = 3) State.acTick
    exec .cellCycleBoundary s = .next (r.each (if on then List.range 32 else []) State.strTick).wkInputs.latchOuts)

/-- Pre-charge time-out, failed bypass, lost home device and ride-out stop the string and raise their fault. Rests on
R218, R220, R227, R232. Says that these complete: strPcTimeout, strBypCheck, strHomeLost, strRideOut. -/
def Obligations.StringTimeOutsAndChecksStopTheString : Prop :=
  (∀ (i : Fin 32) (s : State), s.runs = true → (s.str i.val).st = .pcPassive ∨ (s.str i.val).st = .pcActive →
    exec (.strPcTimeout i) s = .next
      (((s.at_ ((s.str i.val).pcAt + ms (s.rd (Od.STR_PC_TIMEOUT i.val)))).raise Flt.CAS_PRECHARGE i.val).stopString i.val)) ∧
  (∀ (i : Fin 32) (s : State) (b : BypCheck) (bs : List BypCheck), s.runs = true → (s.str i.val).bypChecks = b :: bs →
    let r := (s.at_ b.due).updStr i.val fun t => { t with bypChecks := bs }
    let bad := F32.gt (F32.sub (r.link b.slot) b.v) (r.rd (Od.STR_BYP_DV i.val)) && r.ust b.slot 0 = .bypassed
    (bad = true → exec (.strBypCheck i) s = .next ((r.raise Flt.CAS_BYPASS b.slot).stopString i.val)) ∧
    (bad = false → exec (.strBypCheck i) s = .next r)) ∧
  (∀ (i : Fin 32) (s : State), s.runs = true → (s.str i.val).members ≠ [] → s.isHome i.val = false →
    3 ≤ (s.str i.val).homeMiss → (s.str i.val).homeLost = false →
    exec (.strHomeLost i) s = .next
      (((s.stopMembers i.val (if (s.str i.val).st = .tripped then .tripped else .stopped)).updStr i.val fun t =>
        { t with homeLost := true }).raise Flt.CAS_HOME_LOST i.val)) ∧
  (∀ (i : Fin 32) (s : State) (t0 : Nat), s.runs = true → (s.str i.val).riding = some t0 → (s.str i.val).st = .blocked →
    (F32.lt (s.str i.val).mean (s.rd (Od.STR_RIDE_VMIN i.val)) = true →
      exec (.strRideOut i) s = .next ((s.raise Flt.CAS_RIDE_OUT i.val).stopString i.val)) ∧
    (F32.lt (s.str i.val).mean (s.rd (Od.STR_RIDE_VMIN i.val)) = false →
      exec (.strRideOut i) s = .next
        (((s.at_ (t0 + ms (s.rd (Od.STR_RIDE_TIME i.val)))).raise Flt.CAS_RIDE_OUT i.val).stopString i.val)))

/-- An LV comparator trip asserts after its deglitch, LVP_CMD starts, stops and clears, and LISTEN fails after 50 ms.
Rests on R240, R248, R251, R252, R257. Says that these complete: lvcTrip, lvcTripRelease, lvpStart, lvpStop, lvpClear,
drvListenTimeout. -/
def Obligations.LvComparatorsAndDrivesAct : Prop :=
  (∀ (a : Fin 16) (v : Int) (t : Nat) (s : State), s.runs = true → s.cmpOn a.val = true → (s.cmp a.val).trip = false →
    s.cmpThr a.val (Od.LVC_TRIP_HI a.val) false ≤ v ∨ v ≤ s.cmpThr a.val (Od.LVC_TRIP_LO a.val) false →
    let r := (s.upTo (t + ns (s.rd (Od.LVC_TRIP_DGL a.val)) + ns 150)).updCmp a.val fun x => { x with
      trip := true, tripSeen := true, trips := (x.trips + 1) % 2 ^ 32 }
    let r := r.raise Flt.LV_OC_TRIP a.val
    exec (.lvcTrip a v t) s = .next (if (r.rd (Od.LVC_CTRL a.val)).testBit 1 then
      r.each (r.cmpUnits a.val) fun r cu => r.safeOffUnit cu.1 cu.2 Flt.LV_OC_TRIP false else r)) ∧
  (∀ (a : Fin 16) (v : Int) (t : Nat) (s : State), s.runs = true → ((s.at_ t).cmp a.val).trip = true →
    (s.at_ t).cmpBeyond a.val v = false →
    exec (.lvcTripRelease a t v) s = .next ((s.at_ t).updCmp a.val fun x => { x with trip := false })) ∧
  (∀ (q : Req) (e : Fin 64) (s : State), s.serves q (0x3440 + e.val) 0x04 = true →
    let r := s.upTo q.t
    let done := fun (r : State) => State.accepted (r.updLv e.val fun x => { x with cmdSt := .done, viaSlot := false }) q 2 (0x3440 + e.val) 0x04 2
    (∀ (cu : Nat × Nat) (l : List (Nat × Nat)) (op : SlotOp), r.lvKind e.val = 1 → r.lvUnits e.val = cu :: l →
      op = .start ∨ op = .stop →
      let a := r.slotCmd cu.1 op (2 ^ cu.2)
      exec (if op = .start then .lvpStart q e else .lvpStop q e) s = .next
        (State.finish (a.1.updLv e.val fun x => { x with viaSlot := true }, a.2) (q.msg 2 (0x3440 + e.val) 0x04 []) 2)) ∧
    (r.lvKind e.val = 1 → (r.lvE e.val).drv = .faulted → (∀ cu ∈ r.lvUnits e.val, r.clearBlocked cu.1 [cu.2] = false) →
      exec (.lvpClear q e) s = .next (done (r.updLv e.val fun x => { x with drv := .stopped }))) ∧
    (r.lvKind e.val = 2 →
      (∀ cu ∈ r.lvUnits e.val, ∀ n, r.unitLoop cu.1 cu.2 = some n → ((r.ls n).block (r.rd (Od.LVB_CH_BLOCK e.val))).typ = 0x1D →
        portOf (r.ls n).prev (r.rd (Od.LVB_CH_BLOCK e.val)) 1 ≠ F32.one) →
      exec (.lvpClear q e) s = .next (done (r.updLv e.val fun x => { x with chopFault := false })))) ∧
  (∀ (e : Fin 64) (s : State) (T : Nat) (cu : Nat × Nat) (l : List (Nat × Nat)), s.runs = true →
    (s.lvE e.val).listen = some T → s.lvUnits e.val = cu :: l →
    let r := s.at_ (s.localOf (T + sysUs 50000))
    ((s.runEnd ((s.unitLoop cu.1 cu.2).getD 128)).any fun x => decide (x ≤ s.localOf (T + sysUs 50000))) = false →
    exec (.drvListenTimeout e) s = .next (((r.stopUnit cu.1 cu.2).updLv e.val fun x => { x with
      drv := .faulted, listen := none, fails := (x.fails + 1) % 2 ^ 32 }).raise
        (if (r.lvE e.val).ran then Flt.LV_DRV_LOST else Flt.LV_DRV_START) e.val))

/-- A sin/cos quadrant step, a Hall step and a pulse count by one, lost amplitude and bad codes are raised, silence
ends a speed. Rests on R261, R262, R263, R264, R266, R267, R268, R271. Says that these complete: fbScQuadrantStep,
scAmpBad, scAmpGood, hallChange, plsStep, fbSpdTimeout. -/
def Obligations.FeedbackSamplesAndEdgesCount : Prop :=
  (∀ (t : Nat) (sv cv : Int) (p : Nat) (s : State), s.runs = true → s.fbOn 0 = true →
    let at_ := (t + us 1 - 1) / us 1 * us 1
    (s.fb.scAt.any fun x => decide (at_ ≤ x)) = false →
    let r := (s.at_ at_).scTake sv cv
    let q := scQuad sv cv ((s.rd Od.FB_CTRL).testBit 7)
    let r' : State := { r with fb := { r.fb with quad := some q } }
    let stepped := fun (d : Int) => if r'.fbWritten 0 then r'
      else State.fbStep { r' with fb := { r'.fb with count := r'.fb.count + d } } 0 d
    r.scGood (scQ sv cv) = true → r.fb.quad = some p →
    ((q + 4 - p) % 4 = 1 → exec (.fbScQuadrantStep t sv cv) s = .next (stepped 1)) ∧
    ((q + 4 - p) % 4 ≠ 1 → (p + 4 - q) % 4 = 1 → exec (.fbScQuadrantStep t sv cv) s = .next (stepped (-1))) ∧
    ((q + 4 - p) % 4 ≠ 1 → (p + 4 - q) % 4 ≠ 1 → q ≠ p → exec (.fbScQuadrantStep t sv cv) s = .next
      (if r.fb.ampBad then r' else State.raise { r' with fb := { r'.fb with posLost := true } } Flt.FB_SC_QUAD 0)) ∧
    (q = p → exec (.fbScQuadrantStep t sv cv) s = .next r')) ∧
  (∀ (t : Nat) (l : List (Int × Int)) (s : State), s.runs = true → s.fbOn 0 = true → s.rd Od.FB_SC_QN ≤ l.length →
    let r := s.each l.zipIdx fun s x => s.scSample (t - us 1 * (l.length - 1 - x.2)) x.1.1 x.1.2
    ((∀ y ∈ l.drop (l.length - s.rd Od.FB_SC_QN), s.scGood (scQ y.1 y.2) = false) → s.fb.ampBad = false →
      exec (.scAmpBad t l) s = .next (State.raise { r with fb := { r.fb with
        ampBad := true, posLost := true, ampCount := (r.fb.ampCount + 1) % 2 ^ 32 } } Flt.FB_SC_AMP 0)) ∧
    ((∀ y ∈ l.drop (l.length - s.rd Od.FB_SC_QN), s.scGood (scQ y.1 y.2) = true) → s.fb.ampBad = true →
      exec (.scAmpGood t l) s = .next { r with fb := { r.fb with ampBad := false } })) ∧
  (∀ (t : Nat) (code : BitVec 3) (s : State), s.runs = true →
    let r := (((s.hallAccept t).hallAccept t).hallAccept t).at_ t
    exec (.hallChange t code) s = .next
      (State.hallAccept { r with fb := { r.fb with hallPins := pinsSet r.fb.hallPins code.toNat t } } t)) ∧
  (∀ (t : Nat) (s : State), s.fbOn 1 = true →
    (pinsDue s.fb.hallPins s.fb.hallCode (ns (s.rd Od.FB_HALL_FILT)) t = none → s.hallAccept t = s) ∧
    (∀ T, pinsDue s.fb.hallPins s.fb.hallCode (ns (s.rd Od.FB_HALL_FILT)) t = some T → s.hallAccept t =
      (s.at_ T).hallTake (pinsCode s.fb.hallPins s.fb.hallCode (ns (s.rd Od.FB_HALL_FILT)) T))) ∧
  (∀ (code : Nat) (r : State), code < 8 →
    let sec := fun (k : Nat) => if (r.rd Od.FB_CTRL).testBit 5 then 5 - k else k
    let known := fun (k : Nat) => { r with fb := { r.fb with hallCode := code, sector := sec k, hallBad := false } }
    (∀ k, hallSector code = some k → r.fb.hallBad = false → r.fb.sector ≠ 0xFF → sec k ≠ r.fb.sector →
      ((sec k + 6 - r.fb.sector) % 6 = 1 → r.hallTake code = State.fbStep (known k) 1 1) ∧
      ((sec k + 6 - r.fb.sector) % 6 ≠ 1 → (r.fb.sector + 6 - sec k) % 6 = 1 → r.hallTake code = State.fbStep (known k) 1 (-1))) ∧
    (hallSector code = none → r.hallTake code = State.raise { r with fb := { r.fb with
      hallCode := code, sector := 0xFF, hallBad := true, hallBadCount := (r.fb.hallBadCount + 1) % 2 ^ 32 } } Flt.FB_HALL_CODE 1)) ∧
  (∀ (t : Nat) (a b : Bool) (hold : Nat) (s : State), s.runs = true →
    let t' := (t + 9999) / 10000 * 10000
    let r := ((s.plsAccept t').plsAccept t').at_ t'
    let r : State := { r with fb := { r.fb with plsPins := pinsSet r.fb.plsPins (packBits [a, b]) t' } }
    exec (.plsStep t a b hold) s = .next ((r.plsAccept (t' + hold)).plsAccept (t' + hold))) ∧
  (∀ (t : Nat) (s : State) (T : Nat), s.fbOn 2 = true →
    pinsDue s.fb.plsPins s.fb.plsCode (ns (s.rd Od.FB_PLS_FILT)) t = some T →
    let code := pinsCode s.fb.plsPins s.fb.plsCode (ns (s.rd Od.FB_PLS_FILT)) T
    let r := s.at_ T
    let up := fun (j : Nat) => code.testBit j && !s.fb.plsCode.testBit j
    let r' : State := { r with fb := { r.fb with plsCode := code } }
    r'.fbWritten 2 = false →
    let stepped := fun (d : Int) => State.fbStep { r' with fb := { r'.fb with pulses := r'.fb.pulses + d } } 2 d
    ((s.rd Od.FB_CTRL).testBit 3 = false → up 0 = true →
      s.plsAccept t = stepped (if code.testBit 1 = (s.rd Od.FB_CTRL).testBit 4 then -1 else 1)) ∧
    ((s.rd Od.FB_CTRL).testBit 3 = true → up 0 = true → up 1 = false → s.plsAccept t = stepped 1) ∧
    ((s.rd Od.FB_CTRL).testBit 3 = true → up 0 = false → up 1 = true → s.plsAccept t = stepped (-1))) ∧
  (∀ (i : Fin 3) (s : State), s.runs = true → (s.fbSrc i.val).steps ≠ [] →
    (∀ e ∈ (s.fbSrc i.val).steps, e.2 ≤ (s.fbSrc i.val).last) →
    let r := s.at_ ((s.fbSrc i.val).last + us (s.rd Od.FB_SPD_TMO) + 1)
    exec (.fbSpdTimeout i) s = .next r ∧ r.fbRate i.val = 0)

/-- The counts are written as signed numbers, the interrupt bits are cleared, and FB_CTRL changes only sources that no
loop uses. Rests on R263, R266, R268, R270, R271. Says that these complete: fbScCountWrite, fbPlsCountWrite, fbIrqClr,
fbCtrlWrite. -/
def Obligations.FeedbackWritesTakeEffect : Prop :=
  (∀ (q : Req) (v : BitVec 64) (s : State), s.serves q 0x3500 0x11 = true →
    let r := (s.upTo q.t).fbWrote 0
    exec (.fbScCountWrite q v) s = .next (State.accepted
      { r with fb := { r.fb with count := v.toInt, posLost := false } } q 2 0x3500 0x11 9)) ∧
  (∀ (q : Req) (v : BitVec 64) (s : State), s.serves q 0x3500 0x18 = true →
    let r := (s.upTo q.t).fbWrote 2
    exec (.fbPlsCountWrite q v) s = .next (State.accepted { r with fb := { r.fb with pulses := v.toInt } } q 2 0x3500 0x18 9)) ∧
  (∀ (i : Nat) (s : State),
    let k := if i = 0 then s.now / us 1 else s.now / 10000
    let r : State := { s with fb := { s.fb with wrote := s.fb.wrote.set i (some k) } }
    ((∀ u, s.fb.undo.getD i none = some u → u.sample ≠ k) → s.fbWrote i = r) ∧
    (∀ u, s.fb.undo.getD i none = some u → u.sample = k → s.fbWrote i = { r with fb := { r.fb with
      src := r.fb.src.set i u.src, undo := r.fb.undo.set i none
      irqPend := if u.pend.testBit i then r.fb.irqPend else r.fb.irqPend &&& (255 - 2 ^ i) } })) ∧
  (∀ (q : Req) (v : BitVec 8) (s : State), s.serves q 0x3500 0x0E = true → v.toNat < 8 →
    let r := s.upTo q.t
    let fresh := fun (i : Nat) => v.toNat.testBit i && (r.fb.irqAt.getD i none).any fun t => t = r.now / 10000 * 10000
    let kept := packBits [fresh 0, fresh 1, fresh 2]
    exec (.fbIrqClr q v) s = .next (State.accepted { r with fb := { r.fb with
      irqPend := r.fb.irqPend - (r.fb.irqPend &&& v.toNat &&& (255 - kept))
      src := r.fb.src.mapIdx fun i x => { x with dirchg := x.dirchg || (r.fb.irqPend.testBit i && fresh i) } } } q 2 0x3500 0x0E 2)) ∧
  (∀ (q : Req) (v : BitVec 16) (s : State), s.serves q 0x3500 0x01 = true → v.toNat < 256 →
    let r := s.upTo q.t
    let d := r.rd Od.FB_CTRL ^^^ v.toNat
    let busy := (d.testBit 0 || d.testBit 7) && r.fbInUse 0 || (d.testBit 1 || d.testBit 5) && r.fbInUse 1 ||
      (d.testBit 2 || d.testBit 3) && r.fbInUse 2
    let w : State := if !(r.rd Od.FB_CTRL).testBit 2 && v.toNat.testBit 2 then
      { r with fb := { r.fb with plsCode := packBits (r.fb.plsPins.map (·.level)) } } else r
    (busy = false → exec (.fbCtrlWrite q v) s = .next ((w.wr Od.FB_CTRL v.toNat).accepted q 2 0x3500 0x01 3)) ∧
    (busy = true → exec (.fbCtrlWrite q v) s = .next (r.refusedWith q 2 0x3500 0x01 0x010A)))

/-- A thermal interval runs every enabled slot, the die sensors are judged by their median, records are retried,
shutdowns cleared. Rests on R275, R277, R278, R280, R281, R282, R283. Says that these complete: thIntervalTick,
thDieConversion, thRecRetry, thShutClr, thSensorClr. -/
def Obligations.ThermalUnitIntervalsAndClears : Prop :=
  (∀ (ok : Bool) (s : State), s.runs = true → s.domOn 3 = true → s.tb.running = true →
    let r := s.at_ (s.localOf (s.gridNext s.th.cell (sysUs (s.rd Od.TH_INTERVAL))))
    let r : State := { r with th := { r.th with cell := r.now } }
    let slots := (List.range 32).filter fun c => (r.rd (Od.TH_CTRL c)).testBit 0
    exec (.thIntervalTick ok) s = .next ((r.each slots State.thNetwork).each slots fun r c => r.thSlotTick c ok)) ∧
  (∀ (d0 d1 d2 d3 : BitVec 32) (ok : Bool) (k : Nat) (s : State), s.runs = true → s.domOn 3 = true →
    let r := s.at_ (s.th.dieTry + ms 1)
    let r : State := { r with th := { r.th with dieTry := r.now } }
    r.dieSlice = some k →
    let r := r.updSlice k fun x => { x with busyUntil := r.now + ns 400, convs := (x.convs + 4) % 2 ^ 64 }
    let ts := [d0.toNat, d1.toNat, d2.toNat, d3.toNat]
    let off := ts.map fun t => F32.gt (F32.abs (F32.sub t (fMedian ts))) 0x41200000
    let used := (ts.zip off).filter fun p => !p.2
    let die := if used = [] then r.th.dieTemp else (used.map (·.1)).foldl F32.max 0xFF800000
    let r' : State := { r with th := { r.th with
      die := ts, ignored := off, dieTemp := die, dieAt := r.now, noConv := false, dieHot := F32.ge die (r.rd Od.TH_DIE_SHUT), dieSensor := r.th.dieSensor || off.any id
      kDie := F32.min F32.one (F32.sub F32.one (F32.div (F32.sub die (r.rd Od.TH_DIE_THR))
        (F32.sub (r.rd Od.TH_DIE_SHUT) (r.rd Od.TH_DIE_THR)))) } }
    let r' := r'.each (List.range 4) fun r' i =>
      if off.getD i false && !r.th.ignored.getD i false then r'.raise Flt.TH_DIE_SENSOR (0x70 + i) else r'
    exec (.thDieConversion d0 d1 d2 d3 ok) s = .next
      (if F32.ge die (r.rd Od.TH_DIE_SHUT) && !r.th.dieHot then r'.dieShut ok else r')) ∧
  (∀ (d0 d1 d2 d3 : BitVec 32) (ok : Bool) (s : State), s.runs = true → s.domOn 3 = true →
    let r := s.at_ (s.th.dieTry + ms 1)
    let r : State := { r with th := { r.th with dieTry := r.now } }
    r.dieSlice = none → exec (.thDieConversion d0 d1 d2 d3 ok) s = .next
      (if s.th.dieAt + ms 10 ≤ r.now then { r with th := { r.th with noConv := true } } else r)) ∧
  (∀ (s : State), s.runs = true → s.th.unwritten ≠ [] →
    let r := s.at_ (s.th.failAt + secs 1)
    exec (.thRecRetry true) s = .next { r with
      th := { r.th with unwritten := [] }, nor := { r.nor with events := r.nor.events ++ s.th.unwritten.map fun x => (false, x) } } ∧
    exec (.thRecRetry false) s = .next (State.each { r with th := { r.th with failAt := r.now, recFail := true } }
      s.th.unwritten fun r x => r.raise Flt.TH_REC_FAIL x.slot)) ∧
  (∀ (q : Req) (v : BitVec 32) (s : State), s.serves q 0x3600 0x07 = true →
    let r := s.upTo q.t
    let cs := (List.range 32).filter fun c => v.toNat.testBit c && r.th.shut.testBit c
    ((∀ c ∈ cs, r.thCool c = true) → exec (.thShutClr q v) s = .next (State.accepted (r.each cs fun r c =>
      { r with
        th := { r.th with shut := r.th.shut - 2 ^ c
                          shutDie := if r.th.shutDie.testBit c then r.th.shutDie - 2 ^ c else r.th.shutDie }
        ret := { r.ret with shut := if r.ret.shut.testBit c then r.ret.shut - 2 ^ c else r.ret.shut
                            shutDie := if r.ret.shutDie.testBit c then r.ret.shutDie - 2 ^ c else r.ret.shutDie }
        nor := { r.nor with events := r.nor.events ++
          [(true, ⟨c, 0, (r.tslot c).tmax, (r.tslot c).tref, (r.tslot c).sensor, r.th.shutDie.testBit c, r.sysNow⟩)] } })
      q 2 0x3600 0x07 4)) ∧
    ((∃ c ∈ cs, r.thCool c = false) → exec (.thShutClr q v) s = .next (r.refusedWith q 2 0x3600 0x07 0x010A))) ∧
  (∀ (q : Req) (c : Fin 32) (s : State), s.serves q (0x3620 + c.val) 0x1D = true →
    let r := s.upTo q.t
    ((r.ntcOff c.val || r.ntcAlone c.val) = false → exec (.thSensorClr q c) s = .next (State.accepted
      (r.updTh c.val fun x => { x with sensor := if x.sensor = 2 then 0 else x.sensor, ntcBroken := false })
      q 2 (0x3620 + c.val) 0x1D 2)) ∧
    ((r.ntcOff c.val || r.ntcAlone c.val) = true →
      exec (.thSensorClr q c) s = .next (r.refusedWith q 2 (0x3620 + c.val) 0x1D 0x010A)))

/-- The collector takes the oldest pending event, TRANSIENT instances clear, alarm spans end, and a RESET reaction
resets. Rests on R292, R293, R295, R297, R303, R436. Says that these complete: faultIntake, faultTransientExpiry,
almCoalesceEnd, faultReset, sramEccError. -/
def Obligations.CollectorTakesEventsAndEndsSpans : Prop :=
  (∀ (s : State) (r : Raised) (rest : List Raised) (src : FltSrc), s.runs = true → s.flt.raised = r :: rest →
    Flt.source r.code = some src →
    let b := s.updFlt fun f => { f with raised := rest }
    exec .faultIntake s = .next
      ((List.range r.count).foldl (fun b i => b.takeEvent src r (if i = 0 then r.first else r.last)) b).settleReset) ∧
  (∀ (code i : BitVec 16) (s : State) (src : FltSrc), s.runs = true → Flt.source code.toNat = some src →
    (s.fltInst code.toNat i.toNat).st = .transient → s.persists code.toNat i.toNat = false →
    let x := s.fltInst code.toNat i.toNat
    exec (.faultTransientExpiry code i) s = .next
      (((s.at_ (x.tw + s.fltW src)).setInst { x with st := .clear, n := 0 }).sfJudge)) ∧
  (∀ (code i : BitVec 16) (s : State) (src : FltSrc) (c : Coalesce), s.runs = true → Flt.source code.toNat = some src →
    s.coalOf code.toNat i.toNat = some c →
    let r := (s.at_ (c.opened + ms (s.rd Od.ALM_COALESCE))).updFlt fun f => { f with coal := f.coal.erase c }
    exec (.almCoalesceEnd code i) s = .next
      (if 0 < c.count then r.emitAlarm src i.toNat c.detail c.count c.first c.last false false else r)) ∧
  (∀ (s : State), s.runs = true → s.flt.resetPend = true → s.allStopped = true →
    exec .faultReset s = .next (s.hwReset (4 * b2n s.pwr.rstPend + 8) false)) ∧
  (∀ (t : Nat) (safe corrected : Bool) (s : State), s.runs = true →
    let r := (s.at_ t).raise (match safe, corrected with
      | true, true => Flt.SAFE_ECC_C
      | true, false => Flt.SAFE_ECC_U
      | false, true => Flt.HOST_ECC_C
      | false, false => Flt.HOST_ECC_U) 0
    exec (.sramEccError t safe corrected) s = .next (if r.ring.role ≠ 0 then r
      else if corrected then (r.updMgr fun m => { m with corrAt := some r.now, scrubC := up32 m.scrubC }).seeGrade
      else (r.updMgr fun m => { m with scrubU := up32 m.scrubU }).setUnfit 1))

/-- FLT_CLR clears the instances whose cause has ended, FLT_FIRST_CLR the captures, and FLT_CFG takes only what its
source allows. Rests on R294, R299, R302, R307. Says that these complete: fltClr, fltFirstClr, fltCfgWrite. -/
def Obligations.FaultClearsAndConfiguration : Prop :=
  (∀ (q : Req) (code i : BitVec 16) (s : State), s.serves q 0x1800 0x08 = true →
    let r := s.upTo q.t
    (∀ src, Flt.source code.toNat = some src → i.toNat = 0xFFFF ∨ src.hasInst i.toNat = true →
      let waits := fun (y : Raised) => y.code = code.toNat && (i.toNat = 0xFFFF || y.inst = i.toNat)
      let r := (r.updFlt fun f => { f with raised := f.raised.filter fun y => !waits y }).each (r.flt.raised.filter waits) State.takeRaised
      let named := fun (y : FltInst) => y.code = code.toNat && (i.toNat = 0xFFFF || y.inst = i.toNat) && y.st ≠ .clear
      let stays := fun (y : FltInst) => src.cls = .f || r.persists y.code y.inst
      exec (.fltClr q code i) s = .next (State.accepted
        ((r.clearInsts fun y => named y && !stays y).updFlt fun f => { f with
          clrSt := if ∃ y ∈ r.flt.insts, (named y && stays y) = true then .refused else .done }) q 2 0x1800 0x08 4)) ∧
    (Flt.source code.toNat = none ∨ (∃ src, Flt.source code.toNat = some src ∧ i.toNat ≠ 0xFFFF ∧ src.hasInst i.toNat = false) →
      exec (.fltClr q code i) s = .next ((r.updFlt fun f => { f with clrSt := .refused }).refusedWith q 2 0x1800 0x08 0x0104))) ∧
  (∀ (q : Req) (v : BitVec 8) (s : State), s.serves q 0x1800 0x07 = true → v.toNat < 8 →
    let r := s.upTo q.t
    exec (.fltFirstClr q v) s = .next (State.accepted { r with
      flt := { r.flt with capC := if v.toNat.testBit 0 then none else r.flt.capC
                          capU := if v.toNat.testBit 1 then none else r.flt.capU }
      ret := { r.ret with capF := if v.toNat.testBit 2 then none else r.ret.capF } } q 2 0x1800 0x07 2)) ∧
  (∀ (q : Req) (code : BitVec 16) (v : BitVec 64) (src : FltSrc) (s : State), Flt.source code.toNat = some src →
    let idx := 0x1820 + code.toNat / 256
    let sub := code.toNat % 256
    s.serves q idx sub = true →
    let r := s.upTo q.t
    let ok := 1 ≤ bits v.toNat 7 0 ∧ 1 ≤ bits v.toNat 31 8 ∧ bits v.toNat 31 8 ≤ 600000 ∧
      (bits v.toNat 39 32 < 16 ∧ (src.dflt / 2 ^ 48).testBit (bits v.toNat 39 32) = true) ∧
      (bits v.toNat 47 40 < 16 ∧ (src.dflt / 2 ^ 48).testBit (bits v.toNat 47 40) = true)
    (src.cls ≠ .f → ok → exec (.fltCfgWrite q code v) s = .next
      ((r.wr ⟨key idx sub, src.dflt % 2 ^ 48⟩ (v.toNat % 2 ^ 48)).accepted q 2 idx sub 5)) ∧
    (src.cls ≠ .f → ¬ok → exec (.fltCfgWrite q code v) s = .next (r.refusedWith q 2 idx sub 0x0104)) ∧
    (src.cls = .f → exec (.fltCfgWrite q code v) s = .next (r.refusedWith q 2 idx sub 0x0103)))

/-- The safety core holds every slot on a watchdog expiry or a channel mismatch, judges pairs and pins, and restarts
on its own ACK. Rests on R308, R309, R313, R315, R317, R318. Says that these complete: sfWdExpiry, sfStoHwMismatch,
sfStoDisc, stoReleaseQualified, sfProofTest, sfStoTestDue, sfStoAck. -/
def Obligations.SafetyCoreHoldsAndRestarts : Prop :=
  (∀ (t : Nat) (s : State), s.runs = true →
    let r := s.at_ t
    let r : State := { r with sf := { r.sf with
      wdExpired := true, pinA := { r.sf.pinA with internal := true }, pinB := { r.sf.pinB with internal := true } } }
    let r := r.each (r.groupSlots 0) State.holdLegs
    let r := r.each (r.groupSlots 1) State.holdLegs
    let r := State.raise { r with sf := { r.sf with session := .closed, pendSet := [] } } Flt.SF_CORE_WD 0
    exec (.sfWdExpiry t) s = .next (State.sfJudge { r with sf := { r.sf with st := .failsafe } })) ∧
  (∀ (t : Nat) (g : Fin 2) (s : State), s.runs = true →
    let r := s.at_ t
    let r := State.raise r Flt.SF_STO_HW g.val
    exec (.sfStoHwMismatch t g) s = .next (State.sfJudge { r with sf := { r.sf with st := .failsafe } })) ∧
  (∀ (s : State) (t : Nat), s.runs = true → s.sf.discSince = some t → s.rd Od.SF_STO_PAIR = 1 → s.sf.disc = false →
    let r := s.at_ (t + ms (s.rd Od.SF_STO_DISC_TIME))
    exec .sfStoDisc s = .next (State.sfJudge (State.raise { r with sf := { r.sf with disc := true } } Flt.SF_STO_DISC 0))) ∧
  (∀ (g : Fin 2) (s : State), s.runs = true → (s.pin g.val).low = false → (s.pin g.val).cause = true →
    exec (.stoReleaseQualified g) s = .next
      ((s.at_ ((s.pin g.val).since + ms 10)).updPin g.val fun p => { p with cause := false }).sfJudge) ∧
  (∀ (g : Fin 2) (s : State), s.runs = true → s.sf.st = .run → s.testLast g.val + 3600 < sysS s.sysNow →
    (∀ c ∈ s.groupSlots g.val, ∀ j < 6, (s.leg (6 * c + j)).enabled = false) →
    let r := s.updSf fun x => { x with test := some (g.val, s.now + us 2) }
    exec (.sfProofTest g true) s = .next (r.updSf fun x =>
      if g.val = 0 then { x with testLastA := sysS r.sysNow, dueA := false } else { x with testLastB := sysS r.sysNow, dueB := false }) ∧
    exec (.sfProofTest g false) s = .next (r.sfMismatch g.val)) ∧
  (∀ (g : Fin 2) (s : State), s.runs = true → (if g.val = 0 then s.sf.dueA else s.sf.dueB) = false →
    let T := (s.testLast g.val + 3600 * s.rd Od.SF_STO_PROOF) * sysSec
    let r := s.at_ (if T < s.sysNow then s.now else s.localOf T)
    exec (.sfStoTestDue g) s = .next ((r.updSf fun x => if g.val = 0 then { x with dueA := true } else { x with dueB := true }).raise
      Flt.SF_STO_TEST_DUE g.val)) ∧
  (∀ (q : Req) (v : BitVec 32) (s : State), s.serves q 0x3800 0x14 = true → v.toNat &&& 0xFFFC = 0 →
    let r := s.upTo q.t
    let met := ∀ g ∈ [0, 1], v.toNat.testBit g = true → r.groupMet g = true
    (v.toNat % 4 = 0 → exec (.sfStoAck q v) s = .next (r.refusedWith q 2 0x3800 0x14 0x0104)) ∧
    (v.toNat % 4 ≠ 0 → v.toNat / 65536 = r.sf.ackSeq → met → exec (.sfStoAck q v) s = .next (State.accepted
      (State.sfJudge { r with sf := { r.sf with
        ackSeq := (r.sf.ackSeq + 1) % 65536, ackA := r.sf.ackA || v.toNat.testBit 0, ackB := r.sf.ackB || v.toNat.testBit 1
        ackAB := r.sf.ackAB || (v.toNat.testBit 0 && v.toNat.testBit 1) } })
      q 2 0x3800 0x14 4)) ∧
    (v.toNat % 4 ≠ 0 → v.toNat / 65536 ≠ r.sf.ackSeq ∨ ¬met →
      exec (.sfStoAck q v) s = .next (r.refusedWith q 2 0x3800 0x14 0x0107)))

/-- Safe outputs are pulsed and latched, producers send, consumers accept two equal copies and fail safe without them.
Rests on R320, R321, R322, R323, R324, R325. Says that these complete: soTestPulse, soPulseEnd, soReadbackFault,
sdpSend, safeTelegramRx, sdcSkewExpiry, sdcWdExpiry. -/
def Obligations.SafeOutputsAndSafeDataAct : Prop :=
  (∀ (n : Fin 4) (low : Bool) (s : State), s.runs = true → (s.so n.val).drv = true → (s.so n.val).pulse = none →
    s.sf.wdExpired = false →
    let r := s.at_ ((s.so n.val).since + secs (s.rd (Od.SF_SO_PERIOD n.val)))
    let r := r.updSo n.val fun o => { o with drv := false, rb := !low, pulse := some r.now }
    exec (.soTestPulse n low) s = .next (if low then r else r.soFault n.val true)) ∧
  (∀ (n : Fin 4) (high : Bool) (s : State) (t : Nat), s.runs = true → (s.so n.val).pulse = some t →
    let r := s.at_ (t + us (s.rd (Od.SF_SO_PULSE n.val)))
    (r.soWant n.val = true →
      let r' := r.updSo n.val fun o => { o with drv := true, rb := high, since := r.now, pulse := none }
      exec (.soPulseEnd n high) s = .next (if high then r' else r'.soFault n.val false)) ∧
    (r.soWant n.val = false → exec (.soPulseEnd n high) s = .next (r.updSo n.val fun o => { o with pulse := none }))) ∧
  (∀ (t : Nat) (n : Fin 4) (rb : Bool) (s : State), s.runs = true →
    exec (.soReadbackFault t n rb) s = .next
      (((s.at_ t).updSo n.val fun o => { o with latched := true, drv := false, pulse := none, rb := rb }).raise Flt.SF_SO_FAULT n.val)) ∧
  (∀ (p : Fin 4) (s : State), s.runs = true → s.rd (Od.SDP_CONN p.val) ≠ 0xFFFF → s.ring.nodeId < 1024 →
    let x := s.sf.prods.getD p.val {}
    let r := s.at_ (x.lastAt + us (s.rd (Od.SDP_CYCLE p.val)))
    let body := leBytes 2 (r.rd (Od.SDP_CONN p.val)) ++ leBytes 2 x.seq ++ leBytes 8 (shortTime r.sysNow) ++ r.sdData
    let r := r.send 2 0 2 0 (body ++ leBytes 4 (crc32c (r.rd (Od.SDP_SEED p.val)) body))
    exec (.sdpSend p) s = .next (r.updSf fun f => { f with prods := f.prods.modify p.val fun x => { x with
      seq := (x.seq + 1) % 65536, sent := (x.sent + 1) % 2 ^ 32, lastAt := r.now } })) ∧
  (∀ (src : Fin 1024) (t : Nat) (tel : List Byte) (s : State), s.runs = true →
    let r := s.at_ t
    let byId := (List.range 16).filter fun c => decide ((r.con c).st ≠ .unused) && decide (r.rd (Od.SDC_CONN c) = leAt tel 0 2)
    byId ≠ [] → exec (.safeTelegramRx src t tel) s = .next
      (r.each byId fun r c => if r.sdOk c tel then r.sdCopy c tel else r.sdReject c)) ∧
  (∀ (k : Fin 16) (s : State) (tel : List Byte) (t : Nat), s.runs = true → (s.con k.val).win = some (tel, t) →
    let r := s.at_ (t + us (s.rd (Od.SDC_SKEW k.val)))
    let r := r.updCon k.val fun x => { x with win := none, single := (x.single + 1) % 65536 }
    exec (.sdcSkewExpiry k) s = .next
      (if r.rd (Od.SDC_BOTH k.val) = 1 then r else (r.raise Flt.SF_SD_SINGLE k.val).sdAccept k.val tel)) ∧
  (∀ (k : Fin 16) (s : State), s.runs = true → (s.con k.val).st = .valid →
    exec (.sdcWdExpiry k) s = .next ((((s.at_ ((s.con k.val).acceptedAt + ms (s.rd (Od.SDC_WD k.val)))).updCon k.val fun x => { x with
      st := .failsafe, data := List.replicate 16 0, failsafes := (x.failsafes + 1) % 65536 }).raise Flt.SF_SD_WD k.val).sfJudge))

/-- SAFE parameters change only through the sign-off session: opened, written, verified, confirmed by their CRC or
dropped. Rests on R310, R328, R329. Says that these complete: sfOpen, sfVerify, sfAbort, safeWrite, sfImageWrite,
sfConfirm, sfSignoffTimeout. -/
def Obligations.SignOffSessionChangesTheSafeSet : Prop :=
  (∀ (q : Req) (s : State), s.serves q 0x3800 0x02 = true →
    let r := s.upTo q.t
    (r.sf.session = .closed → r.legsEnabled = 0 → exec (.sfOpen q) s = .next (State.accepted
      { r with sf := { r.sf with session := .opened, pendSet := r.od.filter fun e => isSafeKey e.1, sessionAt := r.now } } q 2 0x3800 0x02 2)) ∧
    (r.sf.session = .opened → safeOk r.sf.pendSet = true → exec (.sfVerify q) s = .next (State.accepted
      { r with sf := { r.sf with session := .verified, pendCrc := safeCrc r.sf.pendSet, sessionAt := r.now } } q 2 0x3800 0x02 2)) ∧
    (r.sf.session ≠ .closed → exec (.sfAbort q) s = .next (State.accepted
      { r with sf := { r.sf with session := .closed, pendSet := [] } } q 2 0x3800 0x02 2))) ∧
  (∀ (q : Req) (idx : BitVec 16) (sub : BitVec 8) (data : List Byte) (row : OdRow) (s : State),
    Od.lookup idx.toNat sub.toNat = .ok row → row ∈ safeRows → row.check data = 0 → data.length ≤ 16 →
    s.serves q idx.toNat sub.toNat = true →
    let r := s.upTo q.t
    (r.sf.session = .opened → exec (.safeWrite q idx sub data) s = .next (State.accepted
      { r with sf := { r.sf with pendSet := r.sf.pendSet.put (row.reg idx.toNat sub.toNat) (leNat data), sessionAt := r.now } }
      q 2 idx.toNat sub.toNat row.ty.code)) ∧
    (r.sf.session ≠ .opened → exec (.safeWrite q idx sub data) s = .next (r.refusedWith q 2 idx.toNat sub.toNat 0x0107))) ∧
  (∀ (q : Req) (img : List Byte) (rs : List (Nat × Nat × Nat × List Byte)) (s : State), s.serves q 0x3800 0x09 = true →
    img.length ≤ 33554432 →
    let r := s.upTo q.t
    r.sf.session = .opened → r.sigOk img kindSafe [] = true → parseRecords (imgBody img).length (imgBody img) = some rs →
    (∀ x ∈ rs, isSafeKey (key x.1 x.2.1) = true ∧ recordOk true x.1 x.2.1 x.2.2.1 x.2.2.2 = true) →
    exec (.sfImageWrite q img) s = .next (State.accepted { r with sf := { r.sf with
      pendSet := rs.foldl (fun m x => match Od.find x.1 x.2.1 with
        | some row => m.put (row.reg x.1 x.2.1) (leNat x.2.2.2)
        | none => m) r.sf.pendSet, sessionAt := r.now } } q 5 0x3800 0x09 15)) ∧
  (∀ (q : Req) (v : BitVec 32) (s : State), s.serves q 0x3800 0x05 = true →
    let r := s.upTo q.t
    (r.sf.session = .verified → v.toNat = r.sf.pendCrc → ∀ t, r.activateSafe.askCommit true = .ok t →
      exec (.sfConfirm q v) s = .next (t.accepted q 2 0x3800 0x05 4)) ∧
    (r.sf.session ≠ .verified ∨ v.toNat ≠ r.sf.pendCrc →
      exec (.sfConfirm q v) s = .next (r.refusedWith q 2 0x3800 0x05 0x0107))) ∧
  (∀ (s : State), s.runs = true → s.sf.session ≠ .closed →
    let r := s.at_ (s.sf.sessionAt + secs 600)
    exec .sfSignoffTimeout s = .next { r with sf := { r.sf with session := .closed, pendSet := [] } })

/-- LANE_CTRL fields move the lane between OFF, HOLD and LOCKING; modules, diagnostics, rates and patterns are noted.
Rests on R337, R338, R339, R346, R348, R353, R356. Says that these complete: laneCntClr, sfpModuleDetect,
moduleAbsent, laneDdmRead, lanePpmMeasure, prbsLock, laneEnable, laneHold, laneTest, laneLoop. -/
def Obligations.LaneControlAndModules : Prop :=
  (∀ (q : Req) (n : Fin 4) (s : State) (c : Instr) (v : Nat), s.serves q (0x1280 + n.val) 0x01 = true →
    (∃ on, c = .laneEnable q n on ∧ v = withField (s.rd (Od.LANE_CTRL n.val)) 0 1 (b2n on)) ∨
    (∃ on, c = .laneHold q n on ∧ v = withField (s.rd (Od.LANE_CTRL n.val)) 1 1 (b2n on)) ∨
    (∃ f : BitVec 3, c = .laneTest q n f ∧ v = withField (s.rd (Od.LANE_CTRL n.val)) 5 3 f.toNat) ∨
    (∃ f : BitVec 3, c = .laneLoop q n f ∧ v = withField (s.rd (Od.LANE_CTRL n.val)) 2 3 f.toNat) →
    admits (0x1280 + n.val) 0x01 (leBytes 2 v) = true →
    let v := leNat (leBytes 2 v)
    let r := s.upTo q.t
    let x := r.lane n.val
    let bad := v.testBit 0 && (!r.usesLane n.val || r.bist.held.testBit (14 + n.val)) ||
      (bits v 4 2 ≠ 0 || bits v 7 5 ≠ 0) && x.st ≠ .hold
    let w := if v.testBit 1 then v else v - bits v 7 5 * 32 - bits v 4 2 * 4
    let r' := r.wr (Od.LANE_CTRL n.val) w
    let r' := if bits w 7 5 ≠ 0 || bits (r.rd (Od.LANE_CTRL n.val)) 7 5 ≠ 0 then
      r'.updLane n.val fun x => { x with prbsErr := 0, prbsBits := 0, prbsLock := false } else r'
    (bad = true → exec c s = .next (r.refusedWith q 2 (0x1280 + n.val) 0x01 0x010A)) ∧
    (bad = false → exec c s = .next (State.accepted (if !r'.laneOn n.val then r'.laneOff n.val
      else if x.st = .off then r'.laneStart n.val
      else if w.testBit 1 then (if x.st = .hold then r' else r'.laneTo n.val .hold)
      else if x.st = .hold then r'.toLocking n.val else r') q 2 (0x1280 + n.val) 0x01 3))) ∧
  (∀ (q : Req) (n : Fin 4) (s : State), s.serves q (0x1280 + n.val) 0x19 = true →
    exec (.laneCntClr q n) s = .next (State.accepted ((s.upTo q.t).updLane n.val fun x => { x with
      badHdr := 0, badType := 0, lockLoss := 0, hiBers := 0, ins := 0, del := 0, elasticErr := 0, errRx := 0, errTx := 0
      trains := 0, prbsErr := 0, prbsBits := 0 }) q 2 (0x1280 + n.val) 0x19 2)) ∧
  (∀ (t : Nat) (n : Fin 4) (page : List Byte) (s : State), s.runs = true →
    let m := (page ++ List.replicate 64 0).take 64
    let r := (s.at_ t).updLane n.val fun x => { x with modAbs := false, module := m, modUnsup := !moduleOk m }
    exec (.sfpModuleDetect t n page) s = .next (if moduleOk m then r else r.raise Flt.LANE_MODULE n.val)) ∧
  (∀ (t : Nat) (n : Fin 4) (s : State), s.runs = true →
    let r := (s.at_ t).updLane n.val fun x => { x with modAbs := true, modUnsup := false }
    exec (.moduleAbsent t n) s = .next (if r.laneOn n.val then r.raise Flt.LANE_MODULE n.val else r)) ∧
  (∀ (t : Nat) (n : Fin 4) (bytes : List Byte) (s : State), s.runs = true → (s.lane n.val).modAbs = false → bytes.length = 10 →
    exec (.laneDdmRead t n bytes) s = .next ((s.at_ t).updLane n.val fun x => { x with ddm := bytes })) ∧
  (∀ (t : Nat) (n : Fin 4) (ins del blocks : Nat) (fill : BitVec 6) (s : State), s.runs = true → blocks ≠ 0 →
    let diff : Int := (del : Int) - ins
    let high := decide (diff.natAbs * 1000000 > 250 * blocks)
    let r := (s.at_ t).updLane n.val fun x => { x with
      ins := (x.ins + ins) % 2 ^ 32, del := (x.del + del) % 2 ^ 32, fill := fill.toNat
      ppm := (diff * 100000000).tdiv blocks, ppmHigh := high }
    exec (.lanePpmMeasure t n ins del blocks fill) s = .next
      (if high && !(s.lane n.val).ppmHigh then r.raise Flt.LANE_PPM n.val else r)) ∧
  (∀ (t : Nat) (n : Fin 4) (checked errs : Nat) (s : State), s.runs = true → (s.lane n.val).st = .hold →
    bits (s.rd (Od.LANE_CTRL n.val)) 7 5 ≠ 0 →
    exec (.prbsLock t n checked errs) s = .next ((s.at_ t).updLane n.val fun x => { x with
      prbsLock := true, prbsErr := min (2 ^ 64 - 1) (x.prbsErr + errs), prbsBits := (x.prbsBits + checked) % 2 ^ 64 }))

/-- Block lock, its loss, HI_BER, TRAIN, HOLD and ERR blocks, loss of signal and the training time-out move a lane and
are counted. Rests on R341, R342, R344, R345, R346, R347, R349, R350, R351, R352. Says that these complete: blockLock,
blockLockLoss, hiBer, holdBlockRx, elasticError, errBlockRx, sfpLos, laneInputLost, trainBlockRx, laneTrainTimeout. -/
def Obligations.LaneReceiverMovesTheLane : Prop :=
  (∀ (t : Nat) (n : Fin 4) (s : State), s.runs = true → (s.lane n.val).st ≠ .off →
    let r := (s.at_ t).updLane n.val fun x => { x with rxLock := true, blockLock := true }
    exec (.blockLock t n) s = .next (if (r.lane n.val).st = .locking then r.updLane n.val fun x => { x with st := .training } else r)) ∧
  (∀ (t : Nat) (n : Fin 4) (m : BitVec 4) (s : State), s.runs = true → (s.lane n.val).st = .up →
    ((s.lane n.val).blockLock = true → exec (.blockLockLoss t n m) s = .next ((((s.at_ t).updLane n.val fun x => { x with
      blockLock := false, lockLoss := (x.lockLoss + 1) % 2 ^ 32, badHdr := (x.badHdr + 16) % 2 ^ 32 }).errOut 1 m.toNat).toLocking n.val)) ∧
    (∀ bad, 16 ≤ bad → (s.lane n.val).hiBer = false →
      let r := (s.at_ t).updLane n.val fun x => { x with badHdr := (x.badHdr + bad) % 2 ^ 32, hiBer := true }
      let r := (r.updLane n.val fun x => { x with hiBers := (x.hiBers + 1) % 2 ^ 32 }).raise Flt.LANE_HI_BER n.val
      exec (.hiBer t n bad m) s = .next ((r.errOut 1 m.toNat).toLocking n.val)) ∧
    exec (.holdBlockRx t n m) s = .next (((s.at_ t).errOut 1 m.toNat).toLocking n.val)) ∧
  (∀ (t : Nat) (n : Fin 4) (bad : Nat) (m : BitVec 4) (s : State), s.runs = true → bad < 16 →
    exec (.hiBer t n bad m) s = .next ((s.at_ t).updLane n.val fun x => { x with badHdr := (x.badHdr + bad) % 2 ^ 32, hiBer := false })) ∧
  (∀ (t : Nat) (n : Fin 4) (m : BitVec 4) (s : State), s.runs = true →
    exec (.elasticError t n m) s = .next ((((s.at_ t).updLane n.val fun x => { x with
      fill := 4, elasticErr := (x.elasticErr + 1) % 2 ^ 32, elastic := true }).raise Flt.LANE_ELASTIC n.val).errOut 2 m.toNat) ∧
    exec (.errBlockRx t n 0 m) s = .next (((s.at_ t).updLane n.val fun x => { x with errRx := (x.errRx + 1) % 2 ^ 32 }).errOut 3 m.toNat) ∧
    exec (.errBlockRx t n 1 m) s = .next (((s.at_ t).updLane n.val fun x => { x with badHdr := (x.badHdr + 1) % 2 ^ 32 }).errOut 3 m.toNat) ∧
    exec (.errBlockRx t n 2 m) s = .next (((s.at_ t).updLane n.val fun x => { x with badType := (x.badType + 1) % 2 ^ 32 }).errOut 3 m.toNat) ∧
    exec (.sfpLos t n false m) s = .next ((s.at_ t).updLane n.val fun x => { x with los := false }) ∧
    (let r := (s.at_ t).updLane n.val fun x => { x with los := true }
     (r.lane n.val).st = .up → exec (.sfpLos t n true m) s = .next ((r.errOut 1 m.toNat).toLocking n.val)) ∧
    (let r := ((s.at_ t).errOut 1 m.toNat).updLane n.val fun x => { x with rxLock := false, blockLock := false }
     (r.lane n.val).st = .up → exec (.laneInputLost t n m) s = .next (r.toLocking n.val))) ∧
  (∀ st p : Nat, p < 2 ^ 64 → descramble st (scramble st p).1 = (p, (scramble st p).2)) ∧
  (∀ (t : Nat) (n : Fin 4) (b : BitVec 58) (l : BitVec 64) (m : BitVec 4) (s : State), s.runs = true → (s.lane n.val).st = .training →
    let p := (descramble b.toNat l.toNat).1
    (s.lane n.val).blockLock = true → trainValid p = true →
    let x := s.lane n.val
    let v := commonVersion (bits p 23 16) (bits p 31 24)
    let upRun := if x.peerOk && p.testBit 11 && v = some (bits p 39 32) then x.upRun + 1 else 0
    let r := (((s.at_ t).updLane n.val fun x => { x with descr := (descramble b.toNat l.toNat).2 }).updLane n.val fun x => { x with peer := p, peerRxOk := p.testBit 10 }).updLane n.val fun y => { y with
      trainRun := x.trainRun + 1, upRun := upRun }
    (x.trainRun + 1 < 8 → exec (.trainBlockRx t n ⟨b, l⟩ m) s = .next r) ∧
    (∀ k, 8 ≤ x.trainRun + 1 → v = some k →
      let r := r.updLane n.val fun x => { x with peerOk := true, verMismatch := false }
      exec (.trainBlockRx t n ⟨b, l⟩ m) s = .next (if 8 ≤ upRun then r.laneUp n.val k else r))) ∧
  (∀ (n : Fin 4) (s : State), s.runs = true → (s.lane n.val).st = .locking ∨ (s.lane n.val).st = .training →
    let r := (s.at_ ((s.lane n.val).lockingAt + ms 100)).updLane n.val fun x => { x with trains := (x.trains + 1) % 2 ^ 32, trainEp := true }
    exec (.laneTrainTimeout n) s = .next ((if (s.lane n.val).trainEp then r else r.raise Flt.LANE_TRAIN n.val).toLocking n.val))

/-- A received frame is refused, stripped, forwarded and taken by its header; lanes start frames, TC0 frames leave at
their offset. Rests on R366, R369, R370, R371, R374, R375, R379, R380. Says that these complete: ringFrameRx,
ringTxStart, tc0Send, tc3WaitExpiry. -/
def Obligations.RingFramesAreJudgedSentAndShaped : Prop :=
  (∀ (t : Nat) (n : Fin 4) (l : List Byte) (s : State), s.runs = true → (s.lane n.val).st = .up →
    let r := s.at_ t
    (parseFrame l = none → exec (.ringFrameRx t n l) s = .next (r.updRing fun x => { x with hcrc := (x.hcrc + 1) % 2 ^ 32 })) ∧
    (∀ f good, parseFrame l = some (f, good) → r.inserted f (n.val / 2) = true → exec (.ringFrameRx t n l) s = .next r) ∧
    (∀ f good, parseFrame l = some (f, good) → r.inserted f (n.val / 2) = false →
      let w := r.route f (n.val / 2)
      let dest := (if w.on then [outLane n.val] else []) ++ (if w.copy then [otherRing (outLane n.val)] else [])
      (dest ≠ [] → 128 ≤ f.hops + 1 → exec (.ringFrameRx t n l) s = .next
        ((r.updRing fun x => { x with hopsExp := (x.hopsExp + 1) % 2 ^ 32 }).raise Flt.RING_HOPS 0)) ∧
      (dest = [] ∨ f.hops + 1 < 128 → good = false → exec (.ringFrameRx t n l) s = .next
        ((r.errOut 3 (dest.map (2 ^ ·)).sum).updRing fun x => { x with crc := (x.crc + 1) % 2 ^ 32 })) ∧
      (dest = [] ∨ f.hops + 1 < 128 → good = true →
        let r := if f.typ = 1 then r.hearTc0 f.src n.val else r
        let r := if f.typ = 1 && w.on && !r.ownWindow (outLane n.val) f.src f.num then
          (r.updRing fun x => { x with ttViol := (x.ttViol + 1) % 2 ^ 32 }).raise Flt.RING_TT_VIOL n.val else r
        let r := r.each dest fun r k => r.pass { f with hops := f.hops + 1 } k
        let r := if w.fold then match takeSeq r.ring.maps f.src 2 f.seq with
            | some maps => (r.updRing fun x => { x with maps := maps }).each (alarmsOf f.payload) State.foldAlarm
            | none => r.dup
          else r
        exec (.ringFrameRx t n l) s = .next (if w.take then (r.take f).seeRequest f else r)))) ∧
  (∀ (n : Fin 4) (s : State) (w : Waiting), s.runs = true →
    let r := s.alarmFrame.upNext
    let r := (r.at_ (r.ring.busy.getD n.val 0)).refill
    (r.lane n.val).st = .up → r.nextTx n.val = some w →
    let size := w.frame.octets
    let cls := typeClass w.frame.typ
    let pays := !w.paid && decide (4 ≤ w.item)
    let r' := r.updRing fun x => { x with
      waiting := (x.waiting.erase w).map fun y => if pays && sibling w y then { y with paid := true } else y
      busy := x.busy.set n.val (r.now + w.frame.blocks * blockPs)
      txBytes := x.txBytes.modify cls fun b => (b + size) % 2 ^ 64
      tc1Blocks := if cls = 1 then x.tc1Blocks.modify n.val fun b => b + w.frame.blocks else x.tc1Blocks
      bucket2 := if pays && w.item = 4 then x.bucket2 - size * 1000000000000 else x.bucket2
      bucket3 := if pays && w.item = 5 then x.bucket3 - size * 1000000000000 else x.bucket3 }
    exec (.ringTxStart n) s = .next (r'.emit (.frame n.val w.frame)).upNext) ∧
  (∀ (k : Fin 16) (s : State), s.runs = true → s.ring.sysCycle ≠ 0 → s.rd (Od.TX_N k.val) ≠ 0 → s.ring.nodeId < 1024 →
    s.ring.st = .run → 2 ≤ s.ring.role →
    let base := s.sysNow / s.sysCycleU * s.sysCycleU + sysNsU (s.ring.offsets.getD k.val 0)
    let T := if s.sysNow ≤ base then base else base + s.sysCycleU
    let r := s.at_ (s.localOf T)
    let dst := r.rd (Od.TX_DST k.val)
    exec (.tc0Send k) s = .next ((r.updRing fun x => { x with
        sent := x.sent.modify k.val fun n => (n + 1) % 2 ^ 64, seqs := x.seqs.modify 0 fun q => (q + 1) % 65536 }).bothWays
      ⟨1, k.val, r.ring.nodeId, if bits dst 11 10 = 0 then bits dst 9 0 else 0, bits dst 11 10, r.ring.seqs.getD 0 0, 0, 0, false,
        r.tc0Payload k.val T⟩ |>.ownFields k.val (r.tc0Payload k.val T))) ∧
  (∀ (s : State) (w : Waiting), s.runs = true →
    s.ring.waiting.find? (fun w => w.item = 5 && w.frame.typ = 0x0A && !w.paid) = some w →
    exec .tc3WaitExpiry s = .next (((s.at_ (w.since + ms (s.rd Od.RING_TC3_WAIT))).updRing fun r => { r with
      waiting := (r.waiting.erase w).filter fun x => !sibling w x
      spill := (r.spill + w.frame.payload.length) % 2 ^ 64 }).spillDump w.frame.payload))

/-- Roll call starts, commits and is repeated, alarm records are read and acknowledged, a system cycle does its work
in order. Rests on R359, R360, R362, R363, R364, R386, R387, R388, R426. Says that these complete: rollCall, almAck,
almRead, rollCallCommit, rollCallTimeout, systemCycle, almSumPeriod. -/
def Obligations.RollCallAlarmsAndSystemCycle : Prop :=
  (∀ (q : Req) (s : State), s.serves q 0x1200 0x03 = true →
    let r := s.upTo q.t
    (r.isSource = true → exec (.rollCall q) s = .next (State.accepted
      ((r.updRing fun x => { x with rolling := some r.now }).send 9 0 2 0 []) q 2 0x1200 0x03 2)) ∧
    (r.isSource = false → exec (.rollCall q) s = .next (r.refusedWith q 2 0x1200 0x03 0x010A))) ∧
  (∀ (q : Req) (seq : BitVec 32) (s : State), s.serves q 0x1230 0x05 = true →
    exec (.almAck q seq) s = .next (State.accepted ((s.upTo q.t).updRing fun r => { r with
      alms := r.alms.filter fun e => e.alarm.seq ≠ seq.toNat && !newer32 seq.toNat e.alarm.seq }) q 2 0x1230 0x05 4)) ∧
  (∀ (q : Req) (s : State), s.serves q 0x1230 0x04 = true → q.path ≠ .can →
    let r := s.upTo q.t
    let d := (r.ring.alms.take 32).flatMap fun e => e.alarm.bytes
    exec (.almRead q) s = .next (r.answer (q.msg 1 0x1230 0x04 []) { typ := 13, total := d.length, data := d })) ∧
  (∀ (apply : BitVec 112) (roll : Roll) (s : State), s.runs = true → roll.part = true → s.ring.st = .run →
    s.isSource = false ∨ s.ring.rolling = none ∧ s.ring.joins ≠ [] →
    let r := s.at_ (s.localOf (timeOf apply.toNat))
    let new := roll.found.filter fun d => !r.ring.serials.contains d.serial
    let fits := decide (5 * roll.tc0 ≤ 2 * r.ring.sysCycle) && windowsFit r.ring.windows roll.windows
    (fits = false → exec (.rollCallCommit apply roll) s = .next (State.abortHandback (if r.isSource then
      r.updRing fun x => { x with noId := (x.noId + new.length) % 2 ^ 32, joins := [] } else r) 2)) ∧
    (fits = true →
      let ids := joinIds (idRecords (r.rd Od.RING_ID_TABLE)) r.ring.nodes new
      let missing := (new.filter fun d => d.role ≠ 0).length - ids.length
      let known := if r.isSource then ((new.filter fun d => d.role = 0).map (·.id)) ++ ids.map (·.2) else new.map (·.id)
      let r := if r.isSource then r.recordIds ids ((r.ring.noId + missing) % 2 ^ 32) missing else r
      let r' := (r.setRates roll.found.length).updRing fun x => { x with
        windows := x.windows ++ roll.windows, nodes := x.nodes ++ known, serials := x.serials ++ new.map (·.serial)
        upper := roll.upper, lower := roll.lower, branchIds := r.branchWords roll.lower, joins := [], maps := [], firsts := []
        rollCalls := (x.rollCalls + 1) % 2 ^ 32, ttVersion := (x.ttVersion + 1) % 2 ^ 32 }
      exec (.rollCallCommit apply roll) s = .next ((r'.updRing fun x => { x with commitCycle := r'.cycleNo }).abortHandback 2))) ∧
  (∀ (apply : BitVec 112) (roll : Roll) (s : State), s.runs = true → roll.part = false ∨ s.ring.st ≠ .run →
    let r := s.at_ (s.localOf (timeOf apply.toNat))
    (sysCycleOf (r.rd Od.RING_SYS_CYCLE_MIN) (roll.dTrunk + roll.dBranchMax) (r.rd Od.RING_MGR_COMPUTE) roll.tc0 = none →
      exec (.rollCallCommit apply roll) s = .next (State.abortHandback (if r.isSource then
        (r.updRing fun x => { x with rolling := some r.now }).raise Flt.RING_ROLL 0 else r) 2)) ∧
    (sysCycleOf (r.rd Od.RING_SYS_CYCLE_MIN) (roll.dTrunk + roll.dBranchMax) (r.rd Od.RING_MGR_COMPUTE) roll.tc0 ≠ none →
      exec (.rollCallCommit apply roll) s = .next ((s.rollCommit (timeOf apply.toNat) roll).abortHandback 2))) ∧
  (∀ (s : State) (t : Nat), s.runs = true → s.ring.rolling = some t →
    let r := s.at_ (t + secs 1)
    exec .rollCallTimeout s = .next
      (((r.updRing fun x => { x with rolling := some r.now }).raise Flt.RING_ROLL 0).send 9 0 2 0 [])) ∧
  (∀ (s : State), s.runs = true → s.ring.sysCycle ≠ 0 → s.tb.running = true →
    let k := max (s.ring.cycle + 1) s.cycleNo
    let r := (s.at_ (s.localOf (k * s.sysCycleU))).updRing fun x => { x with cycle := k }
    let r := (r.noteTc1.ageFields.judgeHealth).mgrCycle k
    let r := if r.isSource then r else r.wkCycle
    exec .systemCycle s = .next (r.each (if r.domOn domLegs then List.range 32 else []) State.stringCycle).almAcks) ∧
  (∀ (s : State), s.runs = true → s.isBridge = true →
    let r := s.at_ (s.ring.sumAt + ms (s.rd Od.ALM_SUM_PERIOD))
    exec .almSumPeriod s = .next ((r.updRing fun x => { x with
      sumAt := r.now, sums := x.sums.map fun y => { y with changed := false } }).sendSums (r.ring.sums.filter (·.changed))))

/-- TIME blocks are sent and received, the servo acts every millisecond, TM_SET steps, the phase detector of CLK_PWM
is judged. Rests on R396, R397, R399, R400, R401, R402, R403, R409, R411. Says that these complete: timeBlockTx,
timeBlockRx, tmServoTick, tmRefLost, pwmPhaseError, tmSet. -/
def Obligations.TimeBlocksServoAndSteps : Prop :=
  (∀ (n : Fin 4) (s : State), s.runs = true → (s.lane n.val).st = .up →
    let x := s.lane n.val
    let r := s.at_ (x.upAt + (x.timeTx + 1) * 13107200)
    let dep := r.sysNow + (psQ (Config.txLat n.val)).toNat
    let r := r.updLane n.val fun y => { y with timeTx := x.timeTx + 1 }
    let sent := fun (r : State) (p : Nat) =>
      let w := scramble (r.draw.1 % 2 ^ 58) p
      (r.draw.2.updLane n.val fun y => { y with scr := w.2 }).emit (.timeBlock n.val p w.1)
    (x.timeTx % 16 = 15 → exec (.timeBlockTx n) s = .next
      (sent r (0x5A + 2 * 2 ^ 8 + sysS dep % 2 ^ 48 * 2 ^ 16))) ∧
    (∀ seq arr, x.timeTx % 16 ≠ 15 → x.timeTx % 2 = 1 → x.stampRx = some (seq, arr) → exec (.timeBlockTx n) s = .next
      (sent (r.updLane n.val fun y => { y with stampRx := none })
        (0x5A + 2 ^ 8 + seq * 2 ^ 10 + (dep - arr) % 65536 * 2 ^ 18 + (dep - arr) / 65536 % 2 ^ 30 * 2 ^ 34))) ∧
    (x.timeTx % 16 ≠ 15 → x.timeTx % 2 = 0 ∨ x.stampRx = none → exec (.timeBlockTx n) s = .next
      (sent (r.updLane n.val fun y => { y with stampSeq := (y.stampSeq + 1) % 64, stampDep := some (y.stampSeq, dep) })
        (stampWord x.stampSeq dep)))) ∧
  (∀ (n : Fin 4) (b : BitVec 58) (l : BitVec 64) (t : Nat) (s : State), s.runs = true → (s.lane n.val).st = .up →
    let p := (descramble b.toNat l.toNat).1
    let r := (s.updLane n.val fun x => { x with descr := (descramble b.toNat l.toNat).2 }).at_ t
    let arr : Int := (r.sysAt t : Int) - psQ (Config.rxLat n.val)
    let msg := bits p 9 8
    (msg = 0 →
      let dep : Int := (r.stampSeconds n.val (bits p 17 16) arr.toNat * sysSec + bits p 63 34 * 65536 + bits p 33 18 : Nat)
      let r := r.updLane n.val fun x => { x with
        stampRx := some (bits p 15 10, arr.toNat), stampAt := some r.now
        oSum := match x.d with | some d => x.oSum + (dep + d - arr) | none => x.oSum
        oN := if x.d.isSome then x.oN + 1 else x.oN }
      exec (.timeBlockRx n ⟨b, l⟩ t) s = .next (r.updTb fun b => { b with ref := r.reference })) ∧
    (∀ dep, msg = 1 → (r.lane n.val).stampDep = some (bits p 15 10, dep) →
      let turn : Int := (bits p 63 34 * 65536 + bits p 33 18 : Nat)
      let d := ((arr - dep) - turn) / 2 + psQ (toSigned 32 (r.rd (Od.TM_ASYM n.val))) / 2
      exec (.timeBlockRx n ⟨b, l⟩ t) s = .next (r.updLane n.val fun x => { x with d := some d, dSum := x.dSum + d, dN := x.dN + 1 })) ∧
    (msg = 2 → exec (.timeBlockRx n ⟨b, l⟩ t) s = .next (r.updLane n.val fun x => { x with secRx := some (bits p 63 16, r.now) }))) ∧
  (∀ (s : State), s.runs = true →
    let r := (s.at_ (ms (s.tb.tick + 1))).updTb fun t => { t with
      tick := max (t.tick + 1) (s.now / ms 1), rhos := (t.rho :: t.rhos).take 1000 }
    let r := r.seeSource
    let r' := r.each (List.range 4) fun r n => r.updLane n fun x => { x with
      linkDelay := if x.dN = 0 then x.linkDelay else (max 0 (x.dSum / x.dN * 1000 / 65536)).toNat
      offset := if x.oN = 0 then x.offset else x.oSum / x.oN * 1000 / 65536
      dSum := 0, dN := 0, oSum := 0, oN := 0 }
    exec .tmServoTick s = .next (match r.offsetNow with
      | some o => r'.takeOffset o
      | none => r')) ∧
  (∀ (s : State) (t : Nat), s.runs = true → s.isSource = false → (s.lane 0).stampAt = some t → (s.lane 1).stampAt = none →
    exec .tmRefLost s = .next (s.at_ (t + ms 1 + 1)).seeSource) ∧
  (∀ (t : Nat) (e steps : Int) (lasts : Bool) (s : State), s.runs = true →
    let r := s.at_ t
    let nominal := decide (r.clk.active = {})
    let bad := lasts && nominal && decide (500 < e.natAbs)
    let r' : State := { r with
      clk := { r.clk with pwmSteps := r.clk.pwmSteps + steps }
      tb := { r.tb with pwmErr := e, pwmBad := bad, pwmAligned := nominal && decide (e.natAbs ≤ 100) } }
    exec (.pwmPhaseError t e steps lasts) s = .next (if bad && !r.tb.pwmBad then r'.raise Flt.TIME_PWM_ALIGN 0 else r')) ∧
  (∀ (q : Req) (v : BitVec 112) (s : State), s.serves q 0x1300 0x0F = true → admits 0x1300 0x0F (leBytes 14 v.toNat) = true →
    let r := s.upTo q.t
    let may := r.ring.role = 0 && r.tmSrcAct = 0 && r.legsEnabled = 0
    let x := (r.each (List.range 64) State.haltCar).discardStarts
    let x := x.updTb fun t => { t.cutAt x.now with sys0 := timeOf v.toNat, base := x.now, steps := (t.steps + 1) % 2 ^ 32 }
    (may = true → exec (.tmSet q v) s = .next ((x.bellsAfterStep (timeOf v.toNat)).accepted q 2 0x1300 0x0F 12)) ∧
    (may = false → exec (.tmSet q v) s = .next (r.refusedWith q 2 0x1300 0x0F 0x010A)))

/-- PTP and PPS references are judged, bells are armed, ring and stop, TRIG inputs stamp their edges and output pulses
end. Rests on R405, R406, R408, R412, R413, R414, R415, R416. Says that these complete: ptpSyncRx, ptpAnnounceRx,
ptpLost, ppsInEdge, ppsInLost, bellArm, bellStop, bellRing, trigInputEdge, ppsOutSecond, pulseWidthEnd. -/
def Obligations.ReferencesBellsAndPinsFollowTime : Prop :=
  (∀ (t : Nat) (d : Fin 2) (o : Int) (delay : BitVec 32) (logSync : Int) (s : State), s.runs = true → s.ptpOn d.val = true →
    let r := s.at_ t
    let x := r.ptp d.val
    let lo := if x.agree = 0 then o else min x.lo o
    let hi := if x.agree = 0 then o else max x.hi o
    let agrees := decide (hi - lo ≤ nsQ (r.rd Od.TM_LOCK_TOL + 16))
    let k := if agrees then x.agree + 1 else 1
    exec (.ptpSyncRx t d o delay logSync) s = .next (r.updPtp d.val fun x => { x with
      heard := true, offset := o, delay := delay.toNat, logSync := logSync, lastSync := r.now
      agree := k, lo := if agrees then lo else o, hi := if agrees then hi else o
      usable := !x.arb && (x.usable || decide (16 ≤ k)), lost := x.lost && (x.arb || decide (k < 16)) }).seeSource) ∧
  (∀ (t : Nat) (d : Fin 2) (gm : BitVec 64) (arb : Bool) (steps : BitVec 16) (s : State), s.runs = true → s.ptpOn d.val = true →
    let r := s.at_ t
    let changed := (r.ptp d.val).heard && (r.ptp d.val).gm ≠ leBytes 8 gm.toNat
    let r := r.updPtp d.val fun x => { x with heard := true, gm := leBytes 8 gm.toNat, arb := arb, steps := steps.toNat }
    exec (.ptpAnnounceRx t d gm arb steps) s = .next (if arb || changed then r.ptpLose d.val else r)) ∧
  (∀ (d : Fin 2) (s : State), s.runs = true → s.ptpOn d.val = true → (s.ptp d.val).lost = false →
    exec (.ptpLost d) s = .next ((((s.at_ ((s.ptp d.val).lastSync + ms (s.rd (Od.PTP_TMO d.val)))).updPtp d.val fun x => { x with
      lost := true, usable := false, agree := 0 }).raise Flt.TIME_PTP_LOST d.val).seeSource)) ∧
  (∀ (t : Nat) (falling : Bool) (s : State), s.runs = true → (s.rd Od.TM_PPS_IN_CTRL).testBit 0 = true →
    (s.rd Od.TM_PPS_IN_CTRL).testBit 1 = falling →
    let r := s.at_ t
    let T := r.sysAt t
    exec (.ppsInEdge t falling) s = .next (r.updTb fun x => { x with
      ppsLast := T, ppsAt := some t, ppsOff := ((T + sysSec / 2) / sysSec * sysSec : Nat) - (T : Int), ppsUsable := true }).seeSource) ∧
  (∀ (t : Nat) (s : State), s.runs = true → s.tb.ppsAt = some t →
    exec .ppsInLost s = .next ((s.at_ (t + ms 1500)).updTb fun x => { x with ppsUsable := false, ppsAt := none }).seeSource) ∧
  (∀ (q : Req) (b : Fin 64) (s : State), s.serves q (0x1340 + b.val) 0x03 = true →
    let r := s.upTo q.t
    ((r.bell b.val).st = .idle → r.sysNow + sysUs 10 ≤ r.bellStart b.val →
      exec (.bellArm q b) s = .next ((r.updBell b.val fun _ => { st := .armed }).accepted q 2 (0x1340 + b.val) 0x03 2)) ∧
    ((r.bell b.val).st ≠ .idle ∨ r.bellStart b.val < r.sysNow + sysUs 10 →
      exec (.bellArm q b) s = .next (r.refusedWith q 2 (0x1340 + b.val) 0x03 0x010A)) ∧
    (let r := if r.bellDueNow b.val then r.bellRing b.val else r
     exec (.bellStop q b) s = .next ((r.updBell b.val fun x => { x with st := .idle }).accepted q 2 (0x1340 + b.val) 0x03 2))) ∧
  (∀ (b : Fin 64) (s : State), s.runs = true → (s.bell b.val).st ≠ .idle →
    let x := s.bell b.val
    let due := s.localOf (s.bellAt b.val x.next)
    (s.pwmOff = true → exec (.bellRing b) s = .next
      (((s.at_ due).updBell b.val fun x => { x with next := x.next + 1 }).updTb fun t => { t with bellSkips := (t.bellSkips + 1) % 2 ^ 32 })) ∧
    (s.pwmOff = false →
      let r := (s.at_ (s.edge due)).updBell b.val fun x => { x with st := .ringing, rings := (x.rings + 1) % 2 ^ 64, next := x.next + 1 }
      exec (.bellRing b) s = .next (((r.bellTriggers b.val r.now).bellReleases b.val x.rings).trigPulse b.val))) ∧
  (∀ (n : Fin 4) (t : Nat) (rising : Bool) (held : Nat) (s : State), s.runs = true → 10 ≤ held →
    s.rd (Od.TRIG_MODE n.val) = 3 ∨ s.rd (Od.TRIG_MODE n.val) = (if rising then 1 else 2) →
    exec (.trigInputEdge n t rising held) s = .next ((s.at_ t).updTrig n.val fun x => { x with
      last := (s.at_ t).sysAt t, count := (x.count + 1) % 2 ^ 32 })) ∧
  (∀ (s : State), s.runs = true →
    let r := s.at_ (s.localOf ((s.sysNow / sysSec + 1) * sysSec))
    exec .ppsOutSecond s = .next (r.updTb fun t => { t with ppsOut := some (r.now + us (r.rd Od.TM_PPS_WIDTH)) })) ∧
  (∀ (s : State) (e : Nat), s.runs = true → (s.tb.ppsOut.toList ++ s.tb.trigs.filterMap (·.pulse)).min? = some e →
    exec .pulseWidthEnd s = .next ((s.at_ e).updTb fun t => { t with
      ppsOut := if t.ppsOut = some e then none else t.ppsOut
      trigs := t.trigs.map fun x => { x with pulse := if x.pulse = some e then none else x.pulse } }))

/-- Heartbeats move the pass, a silent holder loses it, and a handback is asked for, accepted, aborted, switched and
overlapped. Rests on R425, R427, R428, R429, R437, R439, R440, R441, R442. Says that these complete: mgrHeartbeatRx,
mgrListenExpiry, mgrTakePass, reclaimHoldExpiry, handbackReqRx, handbackAcceptRx, handbackAbortRx, handbackSwitch,
overlapEnd, mgrHandback. -/
def Obligations.HallPassIsTakenHandedBackAndYielded : Prop :=
  (∀ (t : Nat) (src : Fin 1024) (p : List Byte) (s : State), s.runs = true → s.ring.role ≠ 0 → s.mgr.st ≠ .active →
    let r := s.at_ t
    let mst := leNat ((p.drop 1).take 1)
    let epoch := leNat ((p.drop 4).take 4)
    let prevails := mst % 16 = 3 ∧ (r.mgr.holder = 0xFFFF ∨ epochAbove epoch r.mgr.epoch = true ∨ (epoch = r.mgr.epoch ∧ src.val ≤ r.mgr.holder))
    let r' := r.updMgr fun m => { m with
      top := if r.mgr.top = 0 || epochAbove epoch r.mgr.top then epoch else r.mgr.top
      syncedNodes := if bit mst 5 then (if m.syncedNodes.contains src.val then m.syncedNodes else src.val :: m.syncedNodes)
        else m.syncedNodes.erase src.val }
    (prevails → exec (.mgrHeartbeatRx t src p) s = .next (r'.updMgr fun m => { m with holder := src.val, epoch := epoch }).seeSource) ∧
    (¬prevails → exec (.mgrHeartbeatRx t src p) s = .next r')) ∧
  (∀ (s : State), s.runs = true → s.mgr.st = .listening →
    let span := ms (s.rd Od.MGR_LISTEN)
    (s.mgr.holder ≠ 0xFFFF →
      let r := (s.at_ (s.mgr.listenAt + span)).updMgr fun m => { m with st := .standby, synced := false, missed := 0 }
      exec .mgrListenExpiry s = .next
        ((if r.mgr.unfit ≠ 0 then r.raise Flt.MGR_STANDBY_UNFIT 0 else r).startTransfer.seeGrade).seeSource) ∧
    (s.mgr.holder = 0xFFFF →
      let r := s.at_ (s.mgr.listenAt + if s.myNode = 1 then 2 * span else span)
      let r := r.takePass (r.mgr.top + 1)
      exec .mgrListenExpiry s = .next ((r.updRing fun x => { x with rolling := some r.now }).send 9 0 2 0 []))) ∧
  (∀ (s : State), s.runs = true → s.mgr.st = .standby → s.rd Od.MGR_LOSS_CYCLES ≤ s.mgr.missed → s.grade ≠ 2 →
    let r := (s.takePass (s.mgr.epoch + 1)).updMgr fun m => { m with switchovers := (m.switchovers + 1) % 2 ^ 32 }
    let r := (r.raise Flt.MGR_SWITCHOVER r.myNode).heartbeat
    exec .mgrTakePass s = .next (if r.ring.committed then r
      else (r.updRing fun x => { x with rolling := some r.now }).send 9 0 2 0 [])) ∧
  (∀ (s : State) (t : Nat), s.runs = true → s.mgr.readySince = some t → s.mgr.st = .standby → s.myNode = 0 →
    (s.rd Od.MGR_RECLAIM).testBit 0 = true → s.mgr.requested = false →
    exec .reclaimHoldExpiry s = .next
      (((s.at_ (t + ms (s.rd Od.MGR_RECLAIM_HOLD))).updMgr fun m => { m with requested := true }).tellPeer 4 [])) ∧
  (∀ (t : Nat) (kh : BitVec 64) (reason : BitVec 16) (s : State), s.runs = true →
    let r := s.at_ t
    let k := r.cycleNo
    (s.mgr.st = .active → s.mgr.peerSynced = true → s.mgr.snap = none → s.mgr.handback = none →
      exec (.handbackReqRx t) s = .next ((r.updMgr fun m => { m with handback := some ⟨false, k + r.rd Od.MGR_OVERLAP, k⟩ }).tellPeer 5
        (leBytes 8 (k + r.rd Od.MGR_OVERLAP)))) ∧
    (s.mgr.st = .standby → exec (.handbackAcceptRx t kh) s = .next
      (r.updMgr fun m => { m with handback := some ⟨true, kh.toNat, k⟩, sending := true })) ∧
    (s.mgr.handback ≠ none → exec (.handbackAbortRx t reason) s = .next ((r.updMgr fun m => { m with
      handback := none, sending := false, requested := false, readySince := m.readySince.map fun _ => r.now
      cmdSt := if m.cmdSt = .pending then .refused else m.cmdSt }).raise Flt.MGR_HANDBACK_ABORT reason.toNat))) ∧
  (∀ (s : State) (kh began : Nat), s.runs = true →
    let r := s.at_ (s.localOf (kh * s.sysCycleU))
    (s.mgr.handback = some ⟨true, kh, began⟩ → exec .handbackSwitch s = .next
      ((r.takePass (r.mgr.epoch + 1)).updMgr fun m => { m with
        handbacks := (m.handbacks + 1) % 2 ^ 32, cmdSt := if m.cmdSt = .pending then .done else m.cmdSt })) ∧
    (s.mgr.handback = some ⟨false, kh, began⟩ → exec .handbackSwitch s = .next
      (State.toStandby (r.updMgr fun m => { m with
        holder := r.otherNode, epoch := (m.epoch + 1) % 2 ^ 32, handback := none, sending := true
        overlapTo := some (kh + r.rd Od.MGR_OVERLAP - 1)
        handbacks := (m.handbacks + 1) % 2 ^ 32, cmdSt := if m.cmdSt = .pending then .done else m.cmdSt })).seeSource)) ∧
  (∀ (s : State) (k : Nat), s.runs = true → s.mgr.overlapTo = some k →
    exec .overlapEnd s = .next ((s.at_ (s.localOf ((k + 1) * s.sysCycleU))).updMgr fun m => { m with overlapTo := none, sending := false })) ∧
  (∀ (q : Req) (s : State), s.serves q 0x1400 0x0D = true →
    let r := s.upTo q.t
    let asks := r.mgr.st = .standby && r.grade = 0 && r.mgr.synced
    let gives := r.mgr.st = .active && r.mgr.peerSynced && leNat (r.mgr.peerCard.take 1) = 0 && r.mgr.handback.isNone
    (asks = true → exec (.mgrHandback q) s = .next (State.accepted
      ((r.updMgr fun m => { m with requested := true, cmdSt := .pending }).tellPeer 4 []) q 2 0x1400 0x0D 2)) ∧
    (asks = false → gives = true → exec (.mgrHandback q) s = .next (State.accepted
      (State.acceptHandback (r.updMgr fun m => { m with cmdSt := .pending })) q 2 0x1400 0x0D 2)) ∧
    (asks = false → gives = false → exec (.mgrHandback q) s = .next ((r.updMgr fun m => { m with cmdSt := .refused }).refusedWith q 2 0x1400 0x0D 0x010A)))

/-- A state transfer is asked for, received in chunks and repeated, followers fall back to HOLD and DROOP, and the
card counts. Rests on R430, R433, R434, R436, R438, R444. Says that these complete: transferReqRx, stateRx,
transferTimeout, mgrTransfer, wkHoldExpiry, wkDroopExpiry, rcPeriodTick. -/
def Obligations.TransfersFollowersAndReportCard : Prop :=
  (∀ (t : Nat) (s : State), s.runs = true → s.mgr.st = .active →
    exec (.transferReqRx t) s = .next ((s.at_ t).updMgr fun m => { m with snapReq := true })) ∧
  (∀ (t : Nat) (ks : BitVec 64) (ofs total : BitVec 32) (chunk : List Byte) (x : Transfer) (s : State), s.runs = true →
    s.mgr.transfer = some x →
    let r := s.at_ t
    let data := (ofs.toNat, chunk) :: (if x.ks = some ks.toNat then x.data.filter fun d => d.1 ≠ ofs.toNat else [])
    ((data.map fun d => d.2.length).sum < total.toNat → exec (.stateRx t ks ofs total chunk) s = .next
      (r.updMgr fun m => { m with transfer := some { x with ks := some ks.toNat, data := data, total := total.toNat } })) ∧
    (total.toNat ≤ (data.map fun d => d.2.length).sum →
      let r := r.loadSnap ((sortBy (·.1) data).flatMap (·.2))
      let r := r.each (r.mgr.log.filter fun e => decide (ks.toNat ≤ e.1)) fun r e => r.each e.2 fun r y => r.catchUp y.1 y.2
      exec (.stateRx t ks ofs total chunk) s = .next (r.updMgr fun m => { m with
        transfer := none, log := [], loaded := true, cmdSt := if m.cmdSt = .pending then .done else m.cmdSt }))) ∧
  (∀ (s : State) (x : Transfer), s.runs = true → s.mgr.transfer = some x →
    let r := s.at_ (s.localOf ((x.start + 8) * s.sysCycleU))
    exec .transferTimeout s = .next ((r.updMgr fun m => { m with
      transfer := some ⟨r.cycleNo, none, [], 0⟩, loaded := false, log := [] }).tellPeer 2 [])) ∧
  (∀ (q : Req) (s : State), s.serves q 0x1400 0x0D = true →
    let r := s.upTo q.t
    (r.mgr.st = .standby → exec (.mgrTransfer q) s = .next
      ((State.startTransfer (r.updMgr fun m => { m with cmdSt := .pending })).accepted q 2 0x1400 0x0D 2)) ∧
    (r.mgr.st ≠ .standby → exec (.mgrTransfer q) s = .next ((r.updMgr fun m => { m with cmdSt := .refused }).refusedWith q 2 0x1400 0x0D 0x010A))) ∧
  (∀ (s : State), s.runs = true → s.isSource = false →
    (s.mgr.wk = .following → s.ring.sysCycle ≠ 0 → exec .wkHoldExpiry s = .next
      (((s.at_ (s.mgr.wkAt + 2 * ns s.ring.sysCycle)).updMgr fun m => { m with wk := .holding }).raise Flt.WK_HOLD 0)) ∧
    (s.mgr.wk ≠ .droop → exec .wkDroopExpiry s = .next
      (((s.at_ (s.mgr.wkAt + ms (s.rd Od.WK_T_HOLD))).updMgr fun m => { m with
        wk := .droop, droops := (m.droops + 1) % 2 ^ 32 }).raise Flt.WK_DROOP 0))) ∧
  (∀ (t : Nat) (idle : BitVec 69) (s : State), s.runs = true → s.mgr.st = .standby →
    let r := s.at_ t
    let r := State.seeGrade (if r.mgr.scrubAt + secs 60 ≤ r.now then
      r.updMgr fun m => { m with scrubAt := r.now, scrubLast := sysS r.sysNow % 2 ^ 32 } else r)
    exec (.rcPeriodTick t idle) s = .next (if r.mgr.rcLeft = [] ∧ r.mgr.rcRun = false then
      (r.updMgr fun m => { m with rcLeft := [1, 2, 3, 6] }).rcStart (some idle.toNat) else r))

/-- CLK_APPLY relocks or is refused, lock windows gain and lose lock, and lost, wrong or guarded clocks are counted
and raised. Rests on R107, R479, R480, R481, R482, R483, R485, R486, R487. Says that these complete: clkApply,
clkDiscard, relockTimeout, pllLinkLockChange, refclkLost, refclkReturn, linkclkLost, clkPeriodGuard, clkFreqError,
pllSysLock, pllSysUnlock. -/
def Obligations.LockWindowsRelocksAndMonitors : Prop :=
  (∀ (q : Req) (s : State), s.serves q 0x1A00 0x0A = true →
    let r := s.upTo q.t
    let go : State := (r.updClk fun c => { c with applySt := .pending }).relock r.staged
    let no : State := r.updClk fun c => { c with applySt := .refused }
    (r.bist.run = none → r.legsEnabled = 0 → r.clk.relock = none →
      exec (.clkApply q) s = .next (State.accepted go q 2 0x1A00 0x0A 2).clkSettle.serveStalled) ∧
    (r.bist.run = none → r.legsEnabled ≠ 0 ∨ r.clk.relock ≠ none →
      exec (.clkApply q) s = .next (no.refusedWith q 2 0x1A00 0x0A 0x010A).clkSettle.serveStalled) ∧
    (r.bist.run ≠ none → exec (.clkApply q) s = .next (r.refusedWith q 2 0x1A00 0x0A 0x010B).clkSettle.serveStalled) ∧
    (let a := r.clk.active
     let back := (((((r.wr Od.SYS_N a.n).wr Od.DIV_PWM a.pwm).wr Od.DIV_CORE a.core).wr Od.DIV_LOOP a.loop).wr Od.DIV_SAFE a.safe).wr Od.DIV_MEAS a.meas
     exec (.clkDiscard q) s = .next (State.accepted (back.updClk fun c => { c with applySt := .done }) q 2 0x1A00 0x0A 2).clkSettle.serveStalled)) ∧
  (∀ (t : Nat) (count : BitVec 16) (c : Instr) (s : State), s.runs = true → c = .pllSysLock t count ∨ c = .pllSysUnlock t count →
    let r := s.at_ t
    let off := count.toNat + 3 ≤ 1024 ∨ 1027 ≤ count.toNat
    let inTol := 1023 ≤ count.toNat ∧ count.toNat ≤ 1025
    let seen (k : Nat) : State := r.updClk fun c => { c with windows := k }
    (s.clk.sysLock = true → off → exec c s = .next (((((r.updClk fun c => { c with
      unlocksSys := up32 c.unlocksSys, unlockSeen := true }).raise Flt.CLK_SYS_UNLOCK 0).relock s.clk.active).clkSettle).serveStalled)) ∧
    (s.clk.refOk = true → inTol → s.clk.windows = 0 ∨ s.clk.sysLock = true →
      exec c s = .next (seen (s.clk.windows + 1)).clkSettle.serveStalled) ∧
    (s.clk.refOk = true → inTol → s.clk.windows ≠ 0 → s.clk.sysLock = false →
      exec c s = .next ((seen (s.clk.windows + 1)).updClk fun c => { c with sysLock := true }).relocked.clkSettle.serveStalled) ∧
    (s.clk.refOk = true → ¬inTol → ¬off ∨ s.clk.sysLock = false → exec c s = .next (seen 0).clkSettle.serveStalled) ∧
    (s.clk.refOk = false → ¬off ∨ s.clk.sysLock = false → exec c s = .next r.clkSettle.serveStalled)) ∧
  (∀ (s : State) (r : Relock), s.runs = true → s.clk.relock = some r →
    let u := s.at_ (r.load + ms 1)
    exec .relockTimeout s =
      .next ((u.updClk fun c => { c with relock := some { r with load := u.now }, windows := 0 }).raise Flt.CLK_RELOCK_TMO 0)) ∧
  (∀ (t : Nat) (err : Int) (s : State), s.runs = true →
    let r := s.at_ t
    (r.clk.linkLock = false → exec (.pllLinkLockChange t true err) s =
      .next (r.updClk fun c => { c with linkLock := true, phaseErr := err, linkclkOk := c.linkclkOk || true }).linkRestart) ∧
    (r.clk.linkLock = true → r.domOn domLink = true → exec (.pllLinkLockChange t false err) s =
      .next (((r.updClk fun c => { c with linkLock := false, phaseErr := err, linkclkOk := c.linkclkOk || false }).updClk fun c => { c with
        unlocksLink := up32 c.unlocksLink, unlockSeen := true }).raise Flt.CLK_LINK_UNLOCK 0).linkRestart)) ∧
  (∀ (t : Nat) (s : State), s.runs = true →
    let r := s.at_ t
    let lost := (r.updClk fun c => { c with refOk := false, src := .checkOsc, sysLock := false, windows := 0 }).updTb fun b => { b.cutAt r.now with
      sys0 := r.sysNow, base := r.now, running := false }
    let back := (r.updClk fun c => { c with refOk := true }).updTb fun b => { b.cutAt r.now with
      base := r.now, running := true, st := .freerun, rho := 0, rhoHold := 0, rhos := [], integ := 0, ref := .none, okMs := 0, alarm := false }
    exec (.refclkLost t) s = .next ((lost.gatePwm.raise Flt.CLK_REF_LOST 0).clkSettle.serveStalled) ∧
    (r.clk.relock = none → exec (.refclkReturn t) s = .next (back.relock back.clk.active)) ∧
    exec (.linkclkLost t) s = .next ((r.updClk fun c => { c with linkclkOk := false }).raise Flt.CLK_LINKCLK_LOST 0) ∧
    (∀ k : Fin 3, exec (.clkPeriodGuard t k) s = .next
      ((r.updClk fun c => { c with guardSeen := true, guardCount := up32 c.guardCount }).raise Flt.CLK_PERIOD_GUARD k.val))) ∧
  (∀ (t : Nat) (k : Fin 8) (hz : BitVec 32) (s : State), s.runs = true →
    let r := s.at_ t
    let f := r.clkSetting k.val
    let off := hz.toNat * 100 > 101 * f ∨ hz.toNat * 100 < 99 * f
    let seen (bad : List Nat) : State := r.updClk fun c => { c with freq := c.freq.set k.val (hz.toNat % 2 ^ 32), freqBad := bad }
    (2 ≤ k.val → off → r.clk.freqBad.contains k.val = false →
      exec (.clkFreqError t k hz) s = .next ((seen (k.val :: r.clk.freqBad)).raise Flt.CLK_FREQ k.val)) ∧
    (2 ≤ k.val → off → r.clk.freqBad.contains k.val = true → exec (.clkFreqError t k hz) s = .next (seen r.clk.freqBad)) ∧
    (k.val < 2 ∨ ¬off → exec (.clkFreqError t k hz) s = .next (seen (r.clk.freqBad.erase k.val))))

/-- PWR_REQ judges its domains, an access wakes one or is refused by SAFE, ready and timed-out wakes end, and supplies
move their bits. Rests on R14, R494, R496, R497, R498, R499, R500. Says that these complete: pwrReqWrite,
domainWakeAccess, domainReady, pwrWakeTmo, pwrBank, pwrAnalog, pwrIo, supplyInRange. -/
def Obligations.DomainsAreSwitchedAndWakeOnAccess : Prop :=
  (∀ (q : Req) (v : BitVec 16) (s : State), s.serves q 0x1900 0x02 = true → v.toNat &&& 0xFC00 = 0 →
    let a := (s.upTo q.t).pwrReq v.toNat
    (a.2 = false → exec (.pwrReqWrite q v) s = .next (a.1.accepted q 2 0x1900 0x02 3)) ∧
    (a.2 = true → exec (.pwrReqWrite q v) s = .next (a.1.refusedWith q 2 0x1900 0x02 0x010A))) ∧
  (∀ (t : Nat) (d : Fin 10) (m : Fin 12) (w : Bool) (s : State), s.runs = true →
    let r := s.at_ t
    let barred := w = true ∧ d = 2 ∧ m ≠ 2
    let goes := 3 ≤ d.val ∧ d ≠ 6 ∧ r.bist.held.testBit d.val = false ∧ r.pwr.doms.getD d.val .off = .off
    (barred → ∃ a : FltAccess, a.master = m.val ∧ a.access = 2 ∧
      exec (.domainWakeAccess t d ⟨m, w⟩) s = .next ({ r with free := r.free + 1 }.raiseBy Flt.BUS_ACCESS m.val 0 a)) ∧
    (goes → exec (.domainWakeAccess t d ⟨m, w⟩) s = .next
      (((r.updPwr fun p => { p with doms := p.doms.set d.val (.waking r.now 2 m.val) }).reqBit d.val true).wakeRecord d.val 2 m.val)) ∧
    (¬barred → ¬goes → exec (.domainWakeAccess t d ⟨m, w⟩) s = .next r)) ∧
  (∀ (t : Nat) (d : Fin 10) (since source master : Nat) (s : State), s.runs = true →
    s.pwr.doms.getD d.val .off = .waking since source master →
    let r := s.at_ (min t (since + 4 * wakeTime d.val))
    let late := s.at_ (since + 4 * wakeTime d.val)
    exec (.domainReady d t) s = .next
      ((((r.updPwr fun p => { p with doms := p.doms.set d.val .on, wakes := up32 p.wakes }).domainUp d.val).wakeRecord
        d.val source master).serveStalled) ∧
    let a := late.wakeAccess d.val source master
    exec (.pwrWakeTmo d) s = .next ((((a.2.domainOff d.val).reqBit d.val false).raiseBy Flt.PWR_WAKE_TMO d.val 0 a.1).refuseStalled d.val)) ∧
  (∀ (t : Nat) (b : Fin 8) (s : State), s.runs = true →
    let r := s.at_ t
    let on := (List.range 24).any fun i => (r.leg (24 * b.val + i)).enabled
    let x := r.supplySet b.val false
    let us := x.allUnits.filter fun cu => (x.unitLegIds cu.1 cu.2).any fun l => bankOf l = b.val
    (on = false → exec (.pwrBank t b) s = .next x.settleReset) ∧
    (on = true → exec (.pwrBank t b) s = .next
      ((x.each us fun x cu => if (x.ust cu.1 cu.2).live then x.safeOffUnit cu.1 cu.2 Flt.PWR_BANK false else x).raise
        Flt.PWR_BANK b.val).settleReset)) ∧
  (∀ (t : Nat) (k : Fin 3) (s : State), s.runs = true →
    let r := s.at_ t
    exec (.pwrAnalog t) s = .next (((r.supplySet 8 false).each (List.range 16) fun s a =>
      s.updCmp a fun x => { x with hi := false, lo := false, trip := false }).raise Flt.PWR_ANALOG 0) ∧
    exec (.pwrIo t k) s = .next ((r.supplySet (9 + k.val) false).raise Flt.PWR_IO (9 + k.val))) ∧
  (∀ (t : Nat) (b : Fin 8) (k : Fin 3) (s : State), s.runs = false →
    exec (.pwrBank t b) s = .next ((s.at_ t).updPwr fun p => { p with supply := p.supply &&& (0xFFFF - 2 ^ b.val) }) ∧
    exec (.pwrAnalog t) s = .next ((s.at_ t).updPwr fun p => { p with supply := p.supply &&& (0xFFFF - 2 ^ 8) }) ∧
    exec (.pwrIo t k) s = .next ((s.at_ t).updPwr fun p => { p with supply := p.supply &&& (0xFFFF - 2 ^ (9 + k.val)) })) ∧
  (∀ (t : Nat) (k : Fin 12) (s : State),
    exec (.supplyInRange t k) s = .next ((s.at_ t).updPwr fun p => { p with supply := p.supply ||| 2 ^ k.val }))

/-- Reset pins, the watchdog, SLEEP and its wakes, RST_CMD and the stages of start-up do what they say. Rests on R495,
R501, R502, R503, R504, R505, R506, R509, R518, R519. Says that these complete: porstN, rstN, rstHeld, hostWdExpiry,
sleep, rstCmd, hostWdService, wakeN, sleepTimerExpiry, bootStageDone. -/
def Obligations.ResetsSleepAndStartUpRun : Prop :=
  (∀ (t w c : Nat) (s : State), us 50 ≤ w →
    (let b := (s.at_ t).now
     let r := ((s.at_ t).hwReset 1 true).at_ (t + w)
     let u := (r.updPwr fun p => { p with
       resetAt := r.now, coldAt := r.now, sleep := false, lowFrom := b, heldTo := r.now + us 100, coreTo := b + c }).at_ (r.now + us 100)
     exec (.porstN t ⟨w, c⟩) s = .next u ∧
     (∀ x p, b ≤ x → x < b + c → u.pinAt x p = if p = .alertN ∨ p = .hostIrqN then .released else .float) ∧
     (∀ x p, b + c ≤ x → x < r.now + us 100 → b ≤ x → u.pinAt x p = u.pinReset p)) ∧
    (let r := ((s.at_ t).hwReset 2 false).at_ (t + w)
     s.pwr.held = false → w ≤ secs 10 → r.ret.rstHeld = false → exec (.rstN t w) s = .next
       ((r.updPwr fun p => { p with
         resetAt := r.now, sleep := false, lowFrom := (s.at_ t).now, heldTo := r.now + us 100 }).at_ (r.now + us 100)))) ∧
  (∀ (t w c : Nat) (s : State), w < us 10 →
    exec (.porstN t ⟨w, c⟩) s = .next (s.at_ t) ∧ (s.pwr.held = false → exec (.rstN t w) s = .next (s.at_ t))) ∧
  (∀ (t w : Nat) (s : State),
    (s.pwr.held = false →
      let r := ((s.at_ t).hwReset 2 false).at_ (t + secs 10)
      exec (.rstHeld t) s = .next { r with
        pwr := { r.pwr with held := true, alert := true, rstLow := some t, sleep := false }
        ret := { r.ret with rstHeld := true } }) ∧
    (s.pwr.held = true → s.ret.rstHeld = true →
      let r := s.at_ (t + w)
      let r := (r.updPwr fun p => { p with
        held := false, alert := false, rstLow := none, resetAt := r.now, lowFrom := p.rstLow.getD t, heldTo := r.now + us 100 }).raise Flt.RST_HELD 0
      exec (.rstN t w) s = .next (r.at_ (r.now + us 100)))) ∧
  (∀ (s : State), s.runs = true → s.domOn 1 = true →
    exec .hostWdExpiry s = .next ((s.at_ (s.pwr.hostWdAt + ms 100)).hwReset 16 false)) ∧
  (∀ (q : Req) (s : State), s.serves q 0x1900 0x0B = true →
    let r := s.upTo q.t
    let waits := r.pwr.doms.any fun d => match d with
      | .waking _ 2 _ => true
      | _ => false
    let x := r.linkDown.measStop
    (waits = false → r.legsEnabled = 0 → r.ring.st = .alone → exec (.sleep q) s = .next ((x.updPwr fun p => { p with
      sleep := true, sleepAt := x.now, doms := p.doms.mapIdx fun i d => if i = 0 then d else .off }).accepted q 2 0x1900 0x0B 2)) ∧
    (waits = false → r.legsEnabled ≠ 0 ∨ r.ring.st ≠ .alone → exec (.sleep q) s = .next (r.refusedWith q 2 0x1900 0x0B 0x010A)) ∧
    (waits = true → exec (.sleep q) s = .next (r.refusedWith q 2 0x1900 0x0B 0x010B))) ∧
  (∀ (q : Req) (s : State), s.serves q 0x1900 0x0A = true → exec (.rstCmd q) s = .next
    (((s.upTo q.t).allStop.updPwr fun p => { p with rstPend := true }).accepted q 2 0x1900 0x0A 2)) ∧
  (∀ (q : Req) (s : State), s.serves q 0x1900 0x11 = true → exec (.hostWdService q) s = .next
    (((s.upTo q.t).updPwr fun p => { p with hostWdAt := (s.upTo q.t).now }).accepted q 2 0x1900 0x11 2)) ∧
  (∀ (t w : Nat) (s : State), s.pwr.sleep = true →
    let ends (r : State) (source : Nat) : State :=
      ((r.hwReset 32 false).updPwr fun p => { p with sleep := false }).wakeRecord 1 source 0
    ((s.rd Od.SLEEP_WAKE).testBit 0 = true → ms 1 ≤ w → exec (.wakeN t w) s = .next (ends (s.at_ (t + ms 1)) 3)) ∧
    ((s.rd Od.SLEEP_WAKE).testBit 1 = true → s.rd Od.SLEEP_TIMER ≠ 0 →
      exec .sleepTimerExpiry s = .next (ends (s.at_ (s.pwr.sleepAt + secs (s.rd Od.SLEEP_TIMER))) 4))) ∧
  (∀ (t w : Nat) (s : State), s.pwr.sleep = false ∨ (s.rd Od.SLEEP_WAKE).testBit 0 = false ∨ w < ms 1 → exec (.wakeN t w) s = .next s) ∧
  (∀ (t bad : Nat) (s : State), s.runs = true →
    let r := s.at_ t
    let go (s : State) (g : Stage) : Host.Outcome State Fault Refusal := .next (s.updPwr fun p => { p with stage := g })
    (s.pwr.stage = .caretaker → exec (.bootStageDone t bad) s = go (r.retLost bad) .clocks) ∧
    (s.pwr.stage = .clocks → s.clk.sysLock = true → exec (.bootStageDone t bad) s = go r .rom) ∧
    (s.pwr.stage = .rom → s.nor.bootSlot = none → exec (.bootStageDone t bad) s = go r .failed) ∧
    (∀ i, s.pwr.stage = .rom → s.nor.bootSlot = some i →
      let x := (r.bootRom i).updNor fun n => { n with nand := Config.nandFitted }
      let x := if Config.nandFitted then x else x.raise Flt.CEL_ABSENT 0
      exec (.bootStageDone t bad) s = if Config.norSize = 33554432 ∨ Config.norSize = 67108864 then
        go ((x.logEvent logReset x.ret.rstCause).updPwr fun p => { p with hostWdAt := x.now, doms := (p.doms.set 1 .on).set 2 .on }) .firmware
        else go r .failed) ∧
    (s.pwr.stage = .firmware → exec (.bootStageDone t bad) s = go r.rebuildShut .config) ∧
    (s.pwr.stage = .config → exec (.bootStageDone t bad) s =
      .next (r.endConfig.updPwr fun p => { p with stage := .domains }).bootDomains) ∧
    (s.pwr.stage = .domains → s.waking = false →
      let x := r.updPwr fun p => { p with stage := .ready }
      let x := x.updPwr fun p => { p with bootTime := (x.now - p.resetAt) / 1000000 % 2 ^ 32 }
      exec (.bootStageDone t bad) s = .next (if s.ring.role = 0 then x.mgrListen else x)))

/-- CFG commands commit and load, bank writes end, images are checked and installed, and firmware is activated and
confirmed. Rests on R517, R519, R520, R523, R524, R525, R536, R537, R539. Says that these complete: cfgCommit,
cfgDefaults, cfgCommitDone, cfgImageWrite, fwImageWrite, fwActivate, fwConfirm. -/
def Obligations.BanksAndFirmwareSlotsAreWritten : Prop :=
  (∀ (q : Req) (s : State), s.serves q 0x1B00 0x03 = true →
    let r := s.upTo q.t
    let no : State := r.updNor fun n => { n with cfgSt := .refused }
    (r.nor.commit = none → r.bankBody.length ≤ bodyMax → exec (.cfgCommit q) s = .next
      ((r.beginCommit.updNor fun n => { n with cfgSt := .pending }).accepted q 2 0x1B00 0x03 2)) ∧
    (r.nor.commit = none → bodyMax < r.bankBody.length → exec (.cfgCommit q) s = .next (no.refusedWith q 2 0x1B00 0x03 abSpace)) ∧
    (r.nor.commit ≠ none → exec (.cfgCommit q) s = .next (r.refusedWith q 2 0x1B00 0x03 0x010B)) ∧
    (r.legsEnabled = 0 → exec (.cfgDefaults q) s = .next
       ((r.loadDefaults.updNor fun n => { n with cfgSt := .done }).accepted q 2 0x1B00 0x03 2)) ∧
    (r.legsEnabled ≠ 0 → exec (.cfgDefaults q) s = .next (no.refusedWith q 2 0x1B00 0x03 0x0106))) ∧
  (∀ (t : Nat) (s : State) (c : Commit), s.runs = true → s.nor.commit = some c →
    let r := (s.at_ (min t (c.since + secs 3))).updNor fun n => { n with commit := none }
    let rest (y : State) : State := match y.nor.queue with
      | [] => y
      | _ :: q => (y.updNor fun n => { n with queue := q }).beginCommit
    exec (.cfgCommitDone t true) s = .next (rest ((r.updNor fun n => { n.setBank c.target (some c.bank) with
      active := c.target + 1, commits := up32 n.commits, cfgSt := if n.cfgSt = .pending then .done else n.cfgSt }).logEvent
        logCommit c.target)) ∧
    exec (.cfgCommitDone t false) s = .next (rest ((r.updNor fun n => { n with
      norErrors := up32 n.norErrors, cfgSt := if n.cfgSt = .pending then .refused else n.cfgSt }).raise Flt.STORE_NOR_ERR 0))) ∧
  (∀ (q : Req) (img : List Byte) (s : State), s.serves q 0x1B00 0x05 = true → img.length ≤ 520260 →
    let r := s.upTo q.t
    let isProg (x : Nat × Nat × Nat × List Byte) := decide (0x3000 ≤ x.1) && decide (x.1 < 0x3080) && x.2.1 = 3
    let progOk (x : Nat × Nat × Nat × List Byte) := match r.ownLsProgram (x.1 - 0x3000) x.2.2.2 with
      | .ok _ => true
      | .error _ => false
    let pass (x : Nat × Nat × Nat × List Byte) := if isProg x then progOk x else recordOk false x.1 x.2.1 x.2.2.1 x.2.2.2
    (∀ rs, r.nor.commit = none → r.legsEnabled = 0 → r.sigOk img kindCfg [] = true →
      parseRecords (imgBody img).length (imgBody img) = some rs →
      (rs.all pass = true → ∀ t, State.askCommit (rs.foldl (fun s x => (s.restoreRec false x).1) r) false = .ok t →
        exec (.cfgImageWrite q img) s = .next (t.accepted q 5 0x1B00 0x05 15)) ∧
      (rs.all pass = false → exec (.cfgImageWrite q img) s = .next (r.refusedWith q 5 0x1B00 0x05 abImage))) ∧
    (r.nor.commit ≠ none → exec (.cfgImageWrite q img) s = .next (r.refusedWith q 5 0x1B00 0x05 0x010B)) ∧
    (r.nor.commit = none → r.legsEnabled ≠ 0 → exec (.cfgImageWrite q img) s = .next (r.refusedWith q 5 0x1B00 0x05 0x010A)) ∧
    (r.nor.commit = none → r.legsEnabled = 0 → r.sigOk img kindCfg [] = false →
      exec (.cfgImageWrite q img) s = .next (r.sigFail.refusedWith q 5 0x1B00 0x05 abSignature))) ∧
  (∀ (q : Req) (img : List Byte) (s : State), s.serves q 0x1B00 0x10 = true → img.length ≤ 8388608 →
    let r := (s.upTo q.t).updNor fun n => n.updSlot (1 - n.running) fun _ => {}
    (4096 + trailerLen ≤ img.length → shake256 (seg img 20 57) = Config.vendorKeyHash → r.sigOk (img.drop 4096) kindFw (seg img 20 57) = true →
      exec (.fwImageWrite q img) s = .next ((r.updNor fun n => n.updSlot (1 - n.running) fun _ =>
        { seq := leAt img 4 4, version := leAt img 12 4, safeVersion := leAt img 16 4
          rollback := leAt (imgTrailer (img.drop 4096)) 4 4, written := true, sound := true, image := img }).accepted q 5 0x1B00 0x10 15)) ∧
    (img.length < 4096 + trailerLen → exec (.fwImageWrite q img) s = .next (r.refusedWith q 5 0x1B00 0x10 abImage))) ∧
  (∀ (q : Req) (s : State), s.serves q 0x1B00 0x11 = true →
    let r := s.upTo q.t
    let o := 1 - r.nor.running
    let fit := r.nor.fwValid o = true ∧ (r.nor.slot o).tried = false ∧ newer32 (r.nor.slot o).seq (r.nor.slot r.nor.running).seq = true
    let no : State := r.updNor fun n => { n with fwSt := .refused }
    let x := ((r.updNor fun n => { n with fwSt := .done }).logEvent logFw 1).allStop
    (r.fwOpen = false → r.legsEnabled = 0 → fit → exec (.fwActivate q) s = .next
      (({ x with pwr := { x.pwr with rstPend := true } } : State).accepted q 2 0x1B00 0x11 2)) ∧
    (r.fwOpen = false → r.legsEnabled ≠ 0 → exec (.fwActivate q) s = .next (no.refusedWith q 2 0x1B00 0x11 0x010A)) ∧
    (r.fwOpen = false → r.legsEnabled = 0 → ¬fit → exec (.fwActivate q) s = .next (no.refusedWith q 2 0x1B00 0x11 abImage)) ∧
    (let y := r.nor.slot r.nor.running
     let ok := y.tried = true ∧ y.confirmed = false
     (ok → exec (.fwConfirm q) s = .next (((r.updNor fun n => { n.updSlot n.running (fun x => { x with confirmed := true }) with
       fuses := { n.fuses with fwRb := max n.fuses.fwRb (min 128 y.rollback) }, fwSt := .done, journal := n.journal + 1 }).logEvent
         logFw 2).accepted q 2 0x1B00 0x11 2)) ∧
     (¬ok → exec (.fwConfirm q) s = .next (no.refusedWith q 2 0x1B00 0x11 0x010A))))

/-- Fuse commands begin and end, debug opens by a signed nonce, an attestation uses the nonce up, and self-test runs
begin and end. Rests on R526, R527, R528, R529, R546, R547, R548, R549. Says that these complete: fuseCmdDone,
secDebugUnlock, secNonce, secAttest, bistRun, bistAbort, bistRunEnd, ownerKey, revokeKey0, ownRb, debugKill. -/
def Obligations.FusesDebugAttestationAndSelfTest : Prop :=
  (∀ (q : Req) (c : Instr) (v : Nat) (s : State), (c, v) ∈ [(Instr.ownerKey q, 1), (.revokeKey0 q, 2), (.ownRb q, 3), (.debugKill q, 4)] →
    s.serves q 0x1B40 0x04 = true →
    let r := s.upTo q.t
    let check := r.fuseCheck v
    let no : State := r.updNor fun n => { n with fuseSt := .refused }
    (r.nor.fuseRun = none → r.legsEnabled = 0 → check = 0 → exec c s = .next (((r.updNor fun n => { n with
      fuseRun := some (v, n.fuseArg, r.now), fuseSt := .pending }).logEvent logFuse v).accepted q 2 0x1B40 0x04 2)) ∧
    (r.nor.fuseRun = none → r.legsEnabled = 0 → check ≠ 0 → check ≠ 0x010B →
      exec c s = .next ((if check = abSignature then no.sigFail else no).refusedWith q 2 0x1B40 0x04 check)) ∧
    (r.nor.fuseRun = none → r.legsEnabled ≠ 0 → exec c s = .next (no.refusedWith q 2 0x1B40 0x04 0x010A)) ∧
    (r.nor.fuseRun ≠ none → exec c s = .next (r.refusedWith q 2 0x1B40 0x04 0x010B)) ∧
    (r.nor.fuses.emptyKey = some 0 → r.nor.fuseArg.length = 57 → r.fuseCheck 1 = 0)) ∧
  (∀ (t : Nat) (good : Bool) (s : State) (cmd : Nat) (a : List Byte) (t0 : Nat), s.runs = true → s.nor.fuseRun = some (cmd, a, t0) →
    exec (.fuseCmdDone t good) s = .next ((s.at_ (min t (t0 + ms 20))).updNor fun n => { n with
      fuseRun := none, fuseSt := if good then .done else .refused, journal := n.journal + 1
      fuses := if good then n.fuses.program cmd a else n.fuses })) ∧
  (∀ (q : Req) (img nonce : List Byte) (s : State), s.serves q 0x1B40 0x0B = true → img.length ≤ 256 →
    let r := s.upTo q.t
    (r.nor.fuses.killed = false → r.nor.nonce = some nonce → r.sigOk img kindDbg [] = true → imgBody img = nonce →
      leAt (imgTrailer img) 8 8 = Config.serial.toNat → exec (.secDebugUnlock q img) s = .next
        ((r.updNor fun n => { n with debugOpen := true }).accepted q 5 0x1B40 0x0B 15)) ∧
    (r.nor.fuses.killed = true ∨ r.nor.nonce = none →
      exec (.secDebugUnlock q img) s = .next (r.refusedWith q 5 0x1B40 0x0B 0x010A))) ∧
  (∀ (q : Req) (data : List Byte) (s : State), s.serves q 0x1B40 0x07 = true → data.length = 32 →
    exec (.secNonce q data) s = .next (((s.upTo q.t).updNor fun n => { n with nonce := some data }).accepted q 2 0x1B40 0x07 13)) ∧
  (∀ (q : Req) (s : State), s.serves q 0x1B40 0x08 = true →
    let r := s.upTo q.t
    let n := r.nor
    let fuses := n.fuses.ownerCtrl % 256 + n.fuses.fwRb % 256 * 2 ^ 8 + n.fuses.ownRb % 256 * 2 ^ 16 + b2n n.fuses.killed * 2 ^ 24 +
      b2n n.debugOpen * 2 ^ 25
    (n.nonce = none → exec (.secAttest q) s = .next (r.answer (q.msg 1 0x1B40 0x08 []) (.refuse 0x010A))) ∧
    (∀ nonce, n.nonce = some nonce →
      let body := fitTo 32 nonce ++ (n.slot n.running).digest ++ r.cfgDigest ++ leBytes 8 Config.serial.toNat ++ leBytes 8 fuses ++
        leBytes 14 (timeCode r.sysNow) ++ leBytes 2 0
      let d := body ++ fitTo 114 (Config.idSign body)
      (d.length ≤ pathLimit q.path → exec (.secAttest q) s = .next
        ((r.updNor fun n => { n with nonce := none }).answer (q.msg 1 0x1B40 0x08 []) { typ := 13, total := d.length, data := d })) ∧
      (pathLimit q.path < d.length → exec (.secAttest q) s = .next (r.answer (q.msg 1 0x1B40 0x08 []) (.refuse abLength))))) ∧
  (∀ (q : Req) (s : State), s.serves q 0x1C00 0x01 = true →
    let r := s.upTo q.t
    let x := r.rd Od.BIST_TARGET
    let y := r.draw.2
    let may := bistDur x ≠ 0 ∧ y.bistMay x y.bist.idle (r.draw.1 % 2 = 1) = true
    let go := y.updBist fun b => { b with st := .running, run := some (x, y.now), runs := up32 b.runs, failAddr := 0xFFFFFFFF }
    let go' := if bistDom x = 6 then go.linkDown else if bistDom x = 5 then go.measStop else go
    (r.bist.run = none → may → bistTakes x = false →
      exec (.bistRun q) s = .next (go.accepted q 2 0x1C00 0x01 2).clkSettle.serveStalled) ∧
    (r.bist.run = none → may → bistTakes x = true → exec (.bistRun q) s = .next
      ((go'.updPwr fun p => { p with doms := p.doms.set (bistDom x) .test }).accepted q 2 0x1C00 0x01 2).clkSettle.serveStalled) ∧
    (r.bist.run = none → ¬may → exec (.bistRun q) s = .next (r.refusedWith q 2 0x1C00 0x01 0x010A).clkSettle.serveStalled) ∧
    (r.bist.run ≠ none → exec (.bistRun q) s = .next (r.refusedWith q 2 0x1C00 0x01 0x010B).clkSettle.serveStalled) ∧
    (r.bist.run = none → exec (.bistAbort q) s = .next (r.accepted q 2 0x1C00 0x01 2).clkSettle.serveStalled) ∧
    (∀ x t0, r.bist.run = some (x, t0) →
      let dur := (r.now - t0) / 1000000 % 2 ^ 32
      let z := (r.updBist fun b => { b with run := none, st := .aborted, time := dur }).updMgr fun m => { m with rcLeft := [], rcRun := false }
      exec (.bistAbort q) s = .next (State.accepted (((z.bistLog x .aborted 0 dur).bistBack x false).raise Flt.BIST_ABORT x)
        q 2 0x1C00 0x01 2).clkSettle.serveStalled)) ∧
  (∀ (sig : BitVec 64) (addr : BitVec 32) (s : State) (x t0 : Nat), s.runs = true → s.bist.run = some (x, t0) →
    let r := s.at_ (t0 + s.bistTime x)
    let dur := (r.now - t0) / 1000000 % 2 ^ 32
    (Config.golden x = some sig →
      let y := r.updBist fun b => { b with run := none, st := .pass, sig := sig.toNat, time := dur, fails := b.fails, held := b.held ||| 0, failAddr := 0xFFFFFFFF }
      exec (.bistRunEnd sig addr) s = .next ((y.bistLog x .pass sig.toNat dur).bistBack x false).rcNote.serveStalled) ∧
    (Config.golden x ≠ some sig →
      let y := r.updBist fun b => { b with
        run := none, st := .fail, sig := sig.toNat, time := dur, fails := up32 b.fails, held := b.held ||| bistWithdraws x
        failAddr := if bistMem x then addr.toNat % 2 ^ 32 else 0xFFFFFFFF }
      let z := (y.bistLog x .fail sig.toNat dur).bistBack x (bistWithdraws x ≠ 0 && bistWhole x)
      let z := if bistWithdraws x ≠ 0 && bistDom x = 6 && !bistWhole x then z.laneOff (bistSlice x) else z
      let z := if bistWithdraws x ≠ 0 && bistWhole x then z.reqBit (bistDom x) false else z
      exec (.bistRunEnd sig addr) s = .next (z.raise Flt.BIST_FAIL x).rcNote.serveStalled))

/-- CEL_CMD triggers, protects, releases and uploads a dump, CEL_READ reads it, and its pages, windows and uploads
end. Rests on R530, R531, R532, R533, R534, R535. Says that these complete: trigger, protect, unprotect, upload,
celRead, celLogPageWrite, preWindowWritten, celDumpEnd, uploadDone. -/
def Obligations.CellarCommandsAndDumps : Prop :=
  (∀ (q : Req) (s : State), s.serves q 0x1B20 0x02 = true →
    let r := s.upTo q.t
    let no : State := r.updNor fun n => { n with celSt := .refused }
    let done (x : State) : State := x.updNor fun n => { n with celSt := .done }
    let freed (x : State) : State := x.updNor fun n => { n with full := n.full && n.dumps.all fun d => d.isProtected || d.uploading }
    (r.nor.nand = true →
      let x := r.dumpTrigger 4 0
      exec (.trigger q) s = .next ((x.updNor fun n => { n with celSt := if n.full then .refused else .done }).accepted q 2 0x1B20 0x02 2)) ∧
    (∀ d, r.nor.nand = true → r.selDump = some d →
      exec (.protect q) s = .next ((done (r.updDump d.number fun d => { d with isProtected := true })).accepted q 2 0x1B20 0x02 2) ∧
      exec (.unprotect q) s = .next ((done (freed (r.updDump d.number fun d => { d with isProtected := false }))).accepted q 2 0x1B20 0x02 2) ∧
      (r.nor.dumps.any (·.uploading) = false → d.state ≠ 3 → exec (.upload q) s = .next
        (((r.updDump d.number fun d => { d with uploading := true }).updNor fun n => { n with celSt := .pending, upDone := 0 }).accepted
          q 2 0x1B20 0x02 2)) ∧
      (r.nor.dumps.any (·.uploading) = false → d.state = 3 → exec (.upload q) s = .next (no.refusedWith q 2 0x1B20 0x02 0x010A)) ∧
      (r.nor.dumps.any (·.uploading) = true → exec (.upload q) s = .next (r.refusedWith q 2 0x1B20 0x02 0x010B))) ∧
    (r.nor.nand = false → exec (.trigger q) s = .next (no.refusedWith q 2 0x1B20 0x02 0x010A)) ∧
    (r.nor.nand = false ∨ r.selDump = none →
      exec (.protect q) s = .next (no.refusedWith q 2 0x1B20 0x02 0x010A) ∧
      exec (.unprotect q) s = .next (no.refusedWith q 2 0x1B20 0x02 0x010A) ∧
      exec (.upload q) s = .next (no.refusedWith q 2 0x1B20 0x02 0x010A))) ∧
  (∀ (q : Req) (offset : BitVec 32) (len : BitVec 16) (s : State), s.serves q 0x1B20 0x0B = true →
    let r := s.upTo q.t
    r.acc.snaps = [] →
    let v := match r.selDump with
      | none => []
      | some d => (d.readable.drop (r.rd Od.CEL_READ_OFS)).take 33554432
    exec (.celRead q offset len) s = .next (r.answer ⟨q, 4, 0x1B20, 0x0B, false, false, false, offset.toNat, len.toNat, []⟩
      { typ := 15, total := v.length, data := cut v offset.toNat len.toNat (pathLimit q.path) })) ∧
  (∀ (s : State), s.runs = true → s.nor.page ≠ [] →
    let r := s.at_ (s.nor.pageAt + ms 100)
    exec .celLogPageWrite s = .next (s.seeWear (r.updNor fun n => { n with pages := (n.page :: n.pages).take logRoom, page := [], written := n.written + 4096 }))) ∧
  (∀ (s : State) (t : Nat), s.runs = true → s.nor.frozen = some t →
    let r := s.at_ (t + ms 100)
    let pre (d : Dump) := match d.preWin with
      | none => []
      | some (a, b) => (r.nor.traceRam.filter fun x => decide (a ≤ x.1) && decide (x.1 ≤ b)).reverse.flatMap (·.2)
    exec .preWindowWritten s = .next (r.updNor fun n => { n with
      frozen := none
      written := n.written + (n.dumps.map fun d => (pre d).length).sum
      dumps := n.dumps.map fun d => { d with data := pre d ++ d.data, preWin := none } })) ∧
  (∀ (s : State) (t : Nat), s.runs = true → s.nor.dumpAt = some t →
    let r := (s.at_ (t + ms (s.rd Od.CEL_POST))).updNor fun n => { n with
      dumpAt := none, dumps := n.dumps.map fun d => if d.state = 3 then { d with state := 1 } else d }
    exec .celDumpEnd s = .next (s.seeWear (r.logEvent logDump (r.nor.nextDump - 1)))) ∧
  (∀ (s : State) (d : Dump), s.runs = true → s.nor.dumps.find? (·.uploading) = some d → d.readable.length ≤ s.nor.upDone →
    (s.ring.waiting.any fun w => w.frame.typ = 0x0B && w.item = 5) = false →
    let r := (s.updDump d.number fun d => { d with uploading := false }).updNor fun n => { n with
      full := n.full && n.dumps.all fun d => d.isProtected || d.uploading }
    exec .uploadDone s = .next (r.updNor fun n => { n with celSt := if n.celSt = .pending then .done else n.celSt }))

/-- A WRITE that fails a check changes nothing but its answer, which carries the first failing check's code. Rests on
R8, R447, R448, R456, R457, R461, R462. Says that these complete: odWrite. -/
def Obligations.EntryWritesAreCheckedInOrder : Prop :=
  (∀ (q : Req) (idx : BitVec 16) (sub : BitVec 8) (d : List Byte) (row : OdRow) (s : State),
    s.serves q idx.toNat sub.toNat = true → Od.lookup idx.toNat sub.toNat = .ok row → idx.toNat ≠ 0x1C00 → idx.toNat ≠ 0x1A00 →
    let r := s.upTo q.t
    let refused (a : Nat) : Host.Outcome State Fault Refusal := .next (r.refusedWith q 2 idx.toNat sub.toNat a)
    let open_ := row.acc ≠ .ro ∧ row.acc ≠ .const
    (¬open_ → exec (.odWrite q idx sub d) s = refused 0x0103) ∧
    (open_ → pathLimit q.path < d.length →
      exec (.odWrite q idx sub d) s = .next (r.answer (q.msg 2 idx.toNat sub.toNat []) (.refuse 0x0109))) ∧
    (open_ → d.length ≤ pathLimit q.path → row.check d ≠ 0 → exec (.odWrite q idx sub d) s = refused (row.check d)) ∧
    (open_ → d.length ≤ pathLimit q.path → row.check d = 0 → row.acc = .rws → r.legsEnabled ≠ 0 →
      exec (.odWrite q idx sub d) s = refused 0x0106) ∧
    (open_ → d.length ≤ pathLimit q.path → row.check d = 0 → row.acc ≠ .rws ∨ r.legsEnabled = 0 → row.divides (leNat d) = false →
      exec (.odWrite q idx sub d) s = refused 0x0104) ∧
    (open_ → d.length ≤ pathLimit q.path → row.check d = 0 → row.acc ≠ .rws ∨ r.legsEnabled = 0 → row.divides (leNat d) = true →
      let a := r.writeOwned row idx.toNat sub.toNat d
      exec (.odWrite q idx sub d) s = .next ((a.1.answer (q.msg 2 idx.toNat sub.toNat [])
        (if a.2 = 0 then { typ := r.typeOf row idx.toNat sub.toNat } else .refuse a.2)).settleReset))) ∧
  (∀ (row : OdRow) (d : List Byte),
    (row.lenOk d = false → row.check d = 0x0109) ∧
    (row.lenOk d = true → row.ty.scalar = true ∨ row.var = false → (row.rsvOk (leNat d) && row.fieldsOk (leNat d)) = false → row.check d = 0x0105) ∧
    (row.lenOk d = true → row.ty.scalar = true ∨ row.var = false → (row.rsvOk (leNat d) && row.fieldsOk (leNat d)) = true →
      row.check d = if row.rangeOk (leNat d) then 0 else 0x0104)) ∧
  (∀ (q : Req) (idx : BitVec 16) (sub : BitVec 8) (d : List Byte) (a : Nat) (s : State),
    s.serves q idx.toNat sub.toNat = true → Od.lookup idx.toNat sub.toNat = .error a → idx.toNat ≠ 0x1C00 → idx.toNat ≠ 0x1A00 →
    exec (.odWrite q idx sub d) s = .next ((s.upTo q.t).answer (q.msg 2 idx.toNat sub.toNat []) (.refuse a))) ∧
  (∀ (c : Instr) (q : Req) (i u : Nat) (d : List Byte) (idx : BitVec 16) (sub : BitVec 8) (s : State),
    valueWrite c = some (q, i, u, d) → idx.toNat = i → sub.toNat = u → exec c s = exec (.odWrite q idx sub d) s)

/-- READ, DESCRIBE, READ_SEG, WRITE_SEG, ABORT_SEG and HELLO answer and change what they say. Rests on R456, R457,
R458, R459, R460, R462. Says that these complete: odRead, describe, readSeg, abortSeg, writeSeg, hello. -/
def Obligations.EntryReadsAndSegmentsAreServed : Prop :=
  (∀ (q : Req) (idx : BitVec 16) (sub : BitVec 8) (offset : BitVec 32) (len : BitVec 16) (row : OdRow) (s : State),
    s.serves q idx.toNat sub.toNat = true → Od.lookup idx.toNat sub.toNat = .ok row → idx.toNat ≠ 0x1C00 → idx.toNat ≠ 0x1A00 →
    let r := s.upTo q.t
    let i := idx.toNat
    let u := sub.toNat
    let typ := r.typeOf row i u
    let lim := pathLimit q.path
    let mine (x : Snapshot) : Bool := x.path = q.path && x.who = q.who && x.idx = i && x.sub = u
    (∀ v y, r.readEntry row i u = .ok (v, y) →
      let d := if len.toNat = 0 then v else v.take len.toNat
      (d.length ≤ lim → exec (.odRead q idx sub len) s = .next (y.answer (q.msg 1 i u []) { typ := typ, total := v.length, data := d })) ∧
      (lim < d.length → exec (.odRead q idx sub len) s = .next (r.answer (q.msg 1 i u []) (.refuse 0x0109)))) ∧
    (∀ a, r.readEntry row i u = .error a → exec (.odRead q idx sub len) s = .next (r.answer (q.msg 1 i u []) (.refuse a))) ∧
    (let v := row.describe i u
     exec (.describe q idx sub offset len) s = .next (r.answer (q.msg 3 i u []) { typ := 0x0D, total := v.length, data := cut v offset.toNat len.toNat lim })) ∧
    (∀ v y, r.acc.snaps.find? (fun x => mine x) = none → r.readEntry row i u = .ok (v, y) →
      exec (.readSeg q idx sub false offset len) s =
        .next (y.answer (q.msg 4 i u []) { typ := typ, total := v.length, data := cut v offset.toNat len.toNat lim })) ∧
    (∀ v y, offset.toNat = 0 → r.readEntry row i u = .ok (v, y) →
      let rest := r.acc.snaps.filter fun x => !mine x
      let buf := y.updAcc fun a => { a with snaps := ⟨q.path, q.who, i, u, v, y.now⟩ :: rest }
      (65536 < v.length → exec (.readSeg q idx sub true offset len) s = .next (r.answer (q.msg 4 i u []) (.refuse 0x0109))) ∧
      (v.length ≤ 65536 → 4 ≤ rest.length → exec (.readSeg q idx sub true offset len) s = .next (r.answer (q.msg 4 i u []) (.refuse 0x010B))) ∧
      (v.length ≤ 65536 → rest.length < 4 → exec (.readSeg q idx sub true offset len) s =
        .next (buf.serveSnap ⟨q, 4, i, u, false, false, true, offset.toNat, len.toNat, []⟩ (buf.typeOf row i u) v))) ∧
    (∀ x, r.acc.snaps.find? (fun x => mine x) = some x →
      let d := cut x.data offset.toNat len.toNat lim
      (x.data.length ≤ offset.toNat + d.length → exec (.readSeg q idx sub false offset len) s =
        .next ((r.updAcc fun a => { a with snaps := a.snaps.filter fun x => !mine x }).answer (q.msg 4 i u [])
          { typ := typ, total := x.data.length, data := d })) ∧
      (offset.toNat + d.length < x.data.length → exec (.readSeg q idx sub false offset len) s =
        .next ((r.updAcc fun a => { a with snaps := a.snaps.map fun x => if mine x then { x with at_ := r.now } else x }).answer (q.msg 4 i u [])
          { typ := typ, total := x.data.length, data := d }))) ∧
    exec (.abortSeg q idx sub) s = .next (r.answer (q.msg 6 i u []) (.refuse 0x010A)) ∧
    (∀ (first last : Bool) (d : List Byte),
      let c : Instr := .writeSeg q idx sub first last offset d
      let x := if row.base = 0x1B00 ∧ u = 0x10 then r.fwErase else r
      (row.acc = .ro ∨ row.acc = .const → exec c s = .next (r.answer (q.msg 5 i u []) (.refuse 0x0103))) ∧
      (row.acc ≠ .ro → row.acc ≠ .const →
        (lim < d.length → exec c s = .next (r.answer (q.msg 5 i u []) (.refuse 0x0109))) ∧
        (d.length ≤ lim → first = false ∨ offset.toNat ≠ 0 → exec c s = .next (r.answer (q.msg 5 i u []) (.refuse 0x010C))) ∧
        (d.length ≤ lim → first = true → offset.toNat = 0 → last = false → exec c s =
          .next (((x.endSeg i u).updAcc fun a => { a with segs := ⟨q.path, q.who, i, u, d, (x.endSeg i u).now⟩ :: a.segs }).answer
            (q.msg 5 i u []) { typ := typ })) ∧
        (d.length ≤ lim → first = true → offset.toNat = 0 → last = true →
          let a := (x.endSeg i u).writeEntry row i u d
          exec c s = .next ((a.1.answer (q.msg 5 i u []) (if a.2 = 0 then { typ := typ } else .refuse a.2)).settleReset))))) ∧
  (∀ (q : Req) (idx : BitVec 16) (sub : BitVec 8) (offset : BitVec 32) (d : List Byte) (row : OdRow) (s : State) (x : SegXfer),
    let i := idx.toNat
    let u := sub.toNat
    let r := s.upTo q.t
    let shut : State := s.updAcc fun a => { a with segs := [] }
    let mine : Bool := x.path = q.path && x.who = q.who && x.idx = i && x.sub = u
    shut.serves q i u = true → s.segOpen i u = some x → Od.lookup i u = .ok row → i ≠ 0x1C00 → i ≠ 0x1A00 → row.acc ≠ .ro → row.acc ≠ .const →
    d.length ≤ pathLimit q.path →
    (mine = true →
      (exec (.abortSeg q idx sub) s = .next ((r.endSeg i u).answer (q.msg 6 i u []) {})) ∧
      (offset.toNat = x.data.length → exec (.writeSeg q idx sub false false offset d) s =
        .next (((r.endSeg i u).updAcc fun a => { a with segs := ⟨q.path, q.who, i, u, x.data ++ d, (r.endSeg i u).now⟩ :: a.segs }).answer
          (q.msg 5 i u []) { typ := r.typeOf row i u })) ∧
      (offset.toNat = x.data.length →
        let a := (r.endSeg i u).writeEntry row i u (x.data ++ d)
        exec (.writeSeg q idx sub false true offset d) s = .next ((a.1.answer (q.msg 5 i u []) (if a.2 = 0 then
          { typ := r.typeOf row i u } else .refuse a.2)).settleReset)) ∧
      (∀ last, offset.toNat ≠ x.data.length →
        exec (.writeSeg q idx sub false last offset d) s = .next ((r.endSeg i u).answer (q.msg 5 i u []) (.refuse 0x010C)))) ∧
    (mine = false → ∀ last,
      exec (.writeSeg q idx sub true last offset d) s = .next (r.answer (q.msg 5 i u []) (.refuse 0x010B)) ∧
      exec (.writeSeg q idx sub false last offset d) s = .next (r.answer (q.msg 5 i u []) (.refuse 0x010C)) ∧
      exec (.abortSeg q idx sub) s = .next (r.answer (q.msg 6 i u []) (.refuse 0x010A)))) ∧
  (∀ (q : Req) (len : BitVec 16) (s : State), s.serves q 0 0 = true →
    let r := s.upTo q.t
    let d := leBytes 2 0x0101 ++ leBytes 2 1 ++ leBytes 4 Config.odMapVersion.toNat ++ leBytes 4 (r.nor.slot r.nor.running).fwVersion ++
      leBytes 2 (pathLimit q.path) ++ leBytes 2 0
    exec (.hello q len) s = .next (r.answer (q.msg 7 0 0 []) { typ := 0x0D, total := 16, data := d.take (if len.toNat = 0 then 16 else len.toNat) }))

/-- Requests are forwarded, stalled or refused by their node and domain, and timers, links and the SPI port act as
they say. Rests on R457, R458, R463, R464, R465, R466, R467, R469, R470, R473, R498. Says that these complete: odRead,
segmentTimeout, snapshotRelease, odResponseRx, odRemoteTmo, writeReq, readResp, readStatus, spiIrqPendRead, canBusOff,
canBusOffRecovery, ethLinkDown, ethLinkUp, arpIcmpRequest, trPeriodCopy. -/
def Obligations.PathsForwardStallTimeOutAndReport : Prop :=
  (∀ (q : Req) (idx : BitVec 16) (sub : BitVec 8) (len : BitVec 16) (s : State),
    s.pathOpen q.path = true → q.proto = 1 → s.queueFull q = false → s.acc.timedOut.contains (q.path, q.who) = false →
    q.isLocal = false → q.node ≠ s.ring.nodeId → idx.toNat ≠ 0x1C00 → idx.toNat ≠ 0x1A00 →
    let r := s.upTo q.t
    let m : Msg := ⟨q, 1, idx.toNat, sub.toNat, false, false, false, 0, len.toNat, []⟩
    let tag := freeTag (r.acc.fwd.map (·.ownTag)) r.acc.nextTag
    (r.ring.nodes.contains q.node = false → exec (.odRead q idx sub len) s = .next (r.answer m (.refuse 0x0111))) ∧
    (r.ring.nodes.contains q.node = true → r.acc.fwd.length < 64 → exec (.odRead q idx sub len) s = .next
      ((r.updAcc fun a => { a with fwd := a.fwd ++ [⟨tag, m, r.now⟩], nextTag := (tag + 1) % 256 }).send 5 0 0 q.node (m.bytesAs tag len.toNat)))) ∧
  (∀ (q : Req) (idx : BitVec 16) (sub : BitVec 8) (len : BitVec 16) (row : OdRow) (s : State),
    let d := domainOf idx.toNat sub.toNat
    s.pathOpen q.path = true → q.proto = 1 → s.queueFull q = false → s.acc.timedOut.contains (q.path, q.who) = false → q.isLocal = true →
    (s.acc.stalled.any fun x => x.2.req.path = q.path && x.2.req.who = q.who) = false → Od.lookup idx.toNat sub.toNat = .ok row →
    s.domOn d = false → idx.toNat ≠ 0x1C00 → idx.toNat ≠ 0x1A00 →
    let r := s.upTo q.t
    let m : Msg := ⟨q, 1, idx.toNat, sub.toNat, false, false, false, 0, len.toNat, []⟩
    (d ≠ domLink → r.bist.held.testBit d = false → exec (.odRead q idx sub len) s = .next
      ((r.accessWake d (pathMaster q.path)).updAcc fun a => { a with stalled := a.stalled ++ [(d, m)] })) ∧
    (d = domLink → exec (.odRead q idx sub len) s = .next (r.answer m (.refuse 0x0110)))) ∧
  (∀ (idx : BitVec 16) (sub : BitVec 8) (x : SegXfer) (s : State), s.runs = true → s.segOpen idx.toNat sub.toNat = some x →
    exec (.segmentTimeout idx sub) s = .next (((s.at_ (x.at_ + secs 10)).updAcc fun a => { a with
      segs := a.segs.filter fun x => !(x.idx = idx.toNat && x.sub = sub.toNat) }).updAcc fun a => { a with
        timedOut := (x.path, x.who) :: a.timedOut.erase (x.path, x.who) })) ∧
  (∀ (x : Snapshot) (s : State), s.runs = true → s.acc.snaps = [x] →
    exec .snapshotRelease s = .next ((s.at_ (x.at_ + secs 1)).updAcc fun a => { a with snaps := a.snaps.erase x })) ∧
  (∀ (t : Nat) (src : Fin 1024) (p : List Byte) (f : Forward) (s : State), s.runs = true →
    (s.acc.fwd.find? fun f => f.ownTag = leAt p 1 1 && f.msg.req.node = src.val) = some f → 16 + leAt p 12 2 ≤ p.length →
    let r := (s.at_ t).updAcc fun a => { a with fwd := a.fwd.erase f }
    (leAt p 12 2 ≤ pathLimit f.msg.req.path → exec (.odResponseRx t src p) s = .next (r.answerFrom f.msg src.val
      { typ := leAt p 7 1, total := leAt p 8 4, abort := leAt p 14 2, data := seg p 16 (leAt p 12 2) })) ∧
    (pathLimit f.msg.req.path < leAt p 12 2 → exec (.odResponseRx t src p) s = .next (r.answerFrom f.msg src.val (.refuse 0x0109)))) ∧
  (∀ (f : Forward) (rest : List Forward) (s : State), s.runs = true → s.acc.fwd = f :: rest →
    exec .odRemoteTmo s = .next ((((s.at_ (f.sentAt + ms (s.rd Od.OD_REMOTE_TMO))).updAcc fun a => { a with fwd := rest }).answer
      f.msg (.refuse 0x0112)).raiseBy Flt.OD_REMOTE_TMO f.msg.req.node 0 (Msg.access f.msg))) ∧
  (∀ (t : Nat) (l : List Byte) (s : State), s.pathOpen .spi = true →
    let r := s.upTo t
    let body := l.take (l.length - 2)
    (∀ m, l.drop (l.length - 2) = crcBytes body → parseMsg t .spi 0 body = some m → exec (.writeReq t l true) s = .next (r.takeAll m)) ∧
    (exec (.writeReq t l false) s = .next ((r.updAcc fun a => { a with drops := up32 a.drops }).raise Flt.OD_FRAME_BAD 2)) ∧
    (l.drop (l.length - 2) ≠ crcBytes body →
      exec (.writeReq t l true) s = .next ((r.updAcc fun a => { a with drops := up32 a.drops }).raise Flt.OD_FRAME_BAD 2)) ∧
    (∀ w, s.acc.spiReady = [] → exec (.readResp t w) s = .next (r.emit (.spi (List.replicate 16 0)))) ∧
    (∀ x rest, s.acc.spiReady = x :: rest →
      exec (.readResp t true) s = .next ((r.updAcc fun a => { a with spiReady := rest }).emit (.spi (x ++ crcBytes x))) ∧
      exec (.readResp t false) s = .next r) ∧
    exec (.readStatus t) s = .next (r.emit (.spi (leBytes 4 (packBits [r.acc.spiReady != [], r.hostIrq, decide (r.outstanding .spi ≥ 16)] +
      (r.acc.spiReady.headD []).length % 65536 * 65536))))) ∧
  (∀ (q : Req) (row : OdRow) (s : State), s.serves q 0x1100 0x0F = true → Od.lookup 0x1100 0x0F = .ok row →
    let r := s.upTo q.t
    let v := r.entryValue row 0x1100 0x0F
    v.length ≤ pathLimit q.path → exec (.spiIrqPendRead q) s = .next ((r.updAcc fun a => { a with irqAlarm := false }).answer
      (q.msg 1 0x1100 0x0F []) { typ := row.ty.code, total := v.length, data := v })) ∧
  (∀ (t : Nat) (fast : Bool) (s : State), s.runs = true → s.domOn domNet = true →
    let r := s.at_ t
    ((s.rd Od.NET_CTRL).testBit 1 = true → s.acc.canSt ≠ 2 →
      exec (.canBusOff t) s = .next ((r.updAcc fun a => { a with canSt := 2 }).raise Flt.CAN_BUS_OFF 0)) ∧
    (s.acc.canSt = 2 → exec (.canBusOffRecovery t) s = .next (r.updAcc fun a => { a with canSt := 0 })) ∧
    (let y := r.updAcc fun a => { a with ethUp := false, ethLink := 0 }
     s.acc.ethUp = true → exec (.ethLinkDown t) s = .next (if (s.rd Od.NET_CTRL).testBit 0 then y.raise Flt.ETH_LINK_DOWN 0 else y)) ∧
    exec (.ethLinkUp t fast) s = .next (r.updAcc fun a => { a with ethUp := true, ethLink := if fast then 11 else 7 })) ∧
  (∀ (t : Nat) (icmp : Bool) (ip : BitVec 32) (who : Nat) (s : State),
    (s.pathOpen .eth = true → ip.toNat = s.rd Od.ETH_IPV4 → exec (.arpIcmpRequest t icmp ip who) s = .next ((s.at_ t).emit (.net icmp who))) ∧
    (s.pathOpen .eth = false ∨ ip.toNat ≠ s.rd Od.ETH_IPV4 → exec (.arpIcmpRequest t icmp ip who) s = .next s)) ∧
  (∀ (g : Fin 32768) (x : Trace) (row : OdRow) (s : State), s.runs = true →
    let b := s.rd (Od.TR_BIND g.val)
    let idx := bits b 23 8
    let sub := bits b 7 0
    bits b 31 28 = 1 → s.trace g.val = some x → Od.lookup idx sub = .ok row → s.domOn (domainOf idx sub) = true →
    let r := s.upTo (s.localOf (x.time + sysUs (s.rd (Od.TR_PERIOD g.val))))
    exec (.trPeriodCopy g) s = .next (r.traceSet g.val row.ty.code (leNat (r.entryValue row idx sub)) r.sysNow))

/-- The state after reset keeps every invariant, holds every gate low, runs nothing and waits at the first stage of
start-up. Rests on R92, R418, R497, R503, R509, 02_cell_slots, 06_loop_engine. -/
def Obligations.ResetStateIsTheMachineAtRest : Prop :=
  State.reset.sound = true ∧ State.reset.interlocked = true ∧
  (∀ l, (State.reset.gg l).gh = false ∧ (State.reset.gg l).gl = false ∧ (State.reset.leg l).enabled = false) ∧
  (∀ c u, State.reset.ust c u = .stopped) ∧ (∀ k, (State.reset.car k).st = .stopped) ∧ (∀ n, (State.reset.ls n).st = .empty) ∧
  State.reset.domOn 0 = true ∧ (∀ d, 0 < d → State.reset.domOn d = false) ∧ State.reset.pwr.stage = .caretaker ∧
  State.reset.clk.sysLock = false ∧ State.reset.clk.pwmGated = true ∧ State.reset.sysNow = 0 ∧ State.reset.tb.st = .freerun ∧
  State.reset.flt.insts = [] ∧ State.reset.flt.raised = [] ∧ State.reset.pending = [] ∧ (∀ r, State.reset.rd r = r.dflt)

/-- Short lows on RST_N and PORST_N are ignored, long ones reset the device, and the retention registers hold over
RST_N. Formalises R504. Says that these complete: rstN, porstN. -/
def Obligations.ResetPulsesAreFilteredAndKeepTheRetention : Prop :=
  (∀ (t w c : Nat) (s : State), s.pwr.held = false → w < us 10 →
    exec (.rstN t w) s = .next (s.at_ t) ∧ exec (.porstN t ⟨w, c⟩) s = .next (s.at_ t)) ∧
  (∀ (t w c : Nat) (s : State) (cold : Bool), s.pwr.held = false → us 50 ≤ w → w ≤ secs 10 → s.od.wf = true →
    ∃ x, exec (if cold then .porstN t ⟨w, c⟩ else .rstN t w) s = .next x ∧
      x.now = max (max s.now t) (t + w) + us 100 ∧ x.pwr.resetAt = max (max s.now t) (t + w) ∧
      x.legs = State.reset.legs ∧ x.cars = State.reset.cars ∧ x.slots = State.reset.slots ∧ x.strings = State.reset.strings ∧
      x.mdats = State.reset.mdats ∧ x.le = State.reset.le ∧ (∀ g ∈ x.gates, g.gh = false ∧ g.gl = false) ∧ x.clk.active = {} ∧
      x.clk.relock = none ∧ x.pwr.stage = .caretaker ∧ x.pwr.sleep = false ∧ x.pwr.doms = State.reset.pwr.doms ∧ x.pending = s.pending ∧
      (cold = true → (∀ r, x.rd r = r.dflt) ∧ x.ret = { rstCause := 1 }) ∧
      (cold = false → x.ret = { s.ret with
          rstCause := 2, rstCounts := s.ret.rstCounts.mapIdx fun i n => if (2 : Nat).testBit i then up32 n else n } ∧
        x.rd Od.SLEEP_WAKE = s.rd Od.SLEEP_WAKE ∧ x.rd Od.SLEEP_TIMER = s.rd Od.SLEEP_TIMER ∧
        ∀ r, r.key ≠ Od.SLEEP_WAKE.key → r.key ≠ Od.SLEEP_TIMER.key → x.rd r = r.dflt))

/-- An entry reads the value last written to it, a write changes no other entry, and the store keeps its one form.
Rests on R9, R445, R448. -/
def Obligations.EntriesReadWhatWasWritten : Prop :=
  (∀ (s : State) (r : Reg) (v : Nat), s.od.wf = true →
    (s.wr r v).rd r = v ∧ (∀ r' : Reg, r'.key ≠ r.key → (s.wr r v).rd r' = s.rd r') ∧ (s.wr r v).od.wf = true ∧
    (s.wr r v) = { s with od := (s.wr r v).od } ∧ ((s.wr r v).wr r (s.rd r)).rd r = s.rd r) ∧
  (∀ (s : State) (r : Reg), s.od.find r.key = none → s.rd r = r.dflt)
end

