-- ==== Sys2Proof/Laws/Access.lean ====
section
/-! SUPPORT. What a request that the device serves at once runs: the owner of its entry, and then the response. -/

namespace Sys2Proof.Machine

set_option Elab.async false

/-! ### What reaches its clock before a request is served -/

/-- A state that differs in its time, its legs and their guards, the faults it has raised and the edges it has noted. -/
def State.Near (s t : State) : Prop :=
  ∃ n l g o f m, t = { s with now := n, legs := l, gates := g, soon := o, flt := f, meas := m }

theorem near_refl (s : State) : s.Near s := ⟨_, _, _, _, _, _, rfl⟩
theorem near_trans {s t u : State} (h : s.Near t) (k : t.Near u) : s.Near u := by
  obtain ⟨n, l, g, o, f, m, rfl⟩ := h
  obtain ⟨n, l, g, o, f, m, rfl⟩ := k
  exact ⟨_, _, _, _, _, _, rfl⟩
theorem near_ite {s t u : State} {c : Prop} [Decidable c] (h : s.Near t) (k : s.Near u) : s.Near (if c then t else u) := by
  split <;> assumption
theorem near_xholdEnd (s : State) (l : Nat) : s.Near (s.xholdEnd l) := near_ite ⟨_, _, _, _, _, _, rfl⟩ (near_refl s)
theorem near_followCmd (s : State) (l : Nat) : s.Near (s.followCmd l) := by
  unfold State.followCmd
  have h : s.Near ((s.updGg l fun g => g.follow (s.leg l).cmd (s.edge s.now) (s.edge s.now + s.tclk)).xholdEnd l) :=
    near_trans ⟨_, _, _, _, _, _, rfl⟩ (near_xholdEnd _ _)
  exact near_ite (near_trans h ⟨_, _, _, _, _, _, rfl⟩) h
theorem near_settleLeg (s : State) (l : Nat) : s.Near (s.settleLeg l) := by
  unfold State.settleLeg
  exact near_trans (near_trans (near_ite (near_refl s) ⟨_, _, _, _, _, _, rfl⟩) ⟨_, _, _, _, _, _, rfl⟩) (near_followCmd _ _)
theorem near_settleBarred (s : State) (l : Nat) : s.Near (s.settleBarred l) := by
  unfold State.settleBarred
  exact near_trans (near_settleLeg s l) (near_ite ⟨_, _, _, _, _, _, rfl⟩ (near_refl _))
theorem near_doSoon (s : State) (x : Soon) : s.Near (s.doSoon x) := by
  cases x with
  | force l f => exact near_trans ⟨_, _, _, _, _, _, rfl⟩ (near_settleBarred _ _)
  | cut l hi lo => exact near_ite (near_trans ⟨_, _, _, _, _, _, rfl⟩ (near_settleLeg _ _)) (near_refl s)

/-- What waits for its clock changes no more than that (R74, R78). -/
theorem near_upTo (s : State) (t : Nat) : s.Near (s.upTo t) := by
  have h : ∀ (l : List (Nat × Soon)) (u : State), s.Near u → s.Near (l.foldl (fun s x => (s.at_ x.1).doSoon x.2) u) := by
    intro l
    induction l with
    | nil => exact fun _ h => h
    | cons x l ih => exact fun u h => ih _ (near_trans (near_trans h ⟨_, _, _, _, _, _, rfl⟩) (near_doSoon _ _))
  exact near_trans (h _ _ ⟨_, _, _, _, _, _, rfl⟩) ⟨_, _, _, _, _, _, rfl⟩

@[simp] theorem State.upTo_od (s : State) (t : Nat) : (s.upTo t).od = s.od := by
  obtain ⟨n, l, g, o, f, m, e⟩ := near_upTo s t; rw [e]
@[simp] theorem State.upTo_cars (s : State) (t : Nat) : (s.upTo t).cars = s.cars := by
  obtain ⟨n, l, g, o, f, m, e⟩ := near_upTo s t; rw [e]
@[simp] theorem State.upTo_slots (s : State) (t : Nat) : (s.upTo t).slots = s.slots := by
  obtain ⟨n, l, g, o, f, m, e⟩ := near_upTo s t; rw [e]
@[simp] theorem State.upTo_records (s : State) (t : Nat) : (s.upTo t).records = s.records := by
  obtain ⟨n, l, g, o, f, m, e⟩ := near_upTo s t; rw [e]
@[simp] theorem State.upTo_stringTrips (s : State) (t : Nat) : (s.upTo t).stringTrips = s.stringTrips := by
  obtain ⟨n, l, g, o, f, m, e⟩ := near_upTo s t; rw [e]
@[simp] theorem State.upTo_strings (s : State) (t : Nat) : (s.upTo t).strings = s.strings := by
  obtain ⟨n, l, g, o, f, m, e⟩ := near_upTo s t; rw [e]
@[simp] theorem State.upTo_glideSteps (s : State) (t : Nat) : (s.upTo t).glideSteps = s.glideSteps := by
  obtain ⟨n, l, g, o, f, m, e⟩ := near_upTo s t; rw [e]
@[simp] theorem State.upTo_strRecords (s : State) (t : Nat) : (s.upTo t).strRecords = s.strRecords := by
  obtain ⟨n, l, g, o, f, m, e⟩ := near_upTo s t; rw [e]
@[simp] theorem State.upTo_mdats (s : State) (t : Nat) : (s.upTo t).mdats = s.mdats := by
  obtain ⟨n, l, g, o, f, m, e⟩ := near_upTo s t; rw [e]
@[simp] theorem State.upTo_le (s : State) (t : Nat) : (s.upTo t).le = s.le := by
  obtain ⟨n, l, g, o, f, m, e⟩ := near_upTo s t; rw [e]
@[simp] theorem State.upTo_fb (s : State) (t : Nat) : (s.upTo t).fb = s.fb := by
  obtain ⟨n, l, g, o, f, m, e⟩ := near_upTo s t; rw [e]
@[simp] theorem State.upTo_th (s : State) (t : Nat) : (s.upTo t).th = s.th := by
  obtain ⟨n, l, g, o, f, m, e⟩ := near_upTo s t; rw [e]
@[simp] theorem State.upTo_lv (s : State) (t : Nat) : (s.upTo t).lv = s.lv := by
  obtain ⟨n, l, g, o, f, m, e⟩ := near_upTo s t; rw [e]
@[simp] theorem State.upTo_sf (s : State) (t : Nat) : (s.upTo t).sf = s.sf := by
  obtain ⟨n, l, g, o, f, m, e⟩ := near_upTo s t; rw [e]
@[simp] theorem State.upTo_acc (s : State) (t : Nat) : (s.upTo t).acc = s.acc := by
  obtain ⟨n, l, g, o, f, m, e⟩ := near_upTo s t; rw [e]
@[simp] theorem State.upTo_clk (s : State) (t : Nat) : (s.upTo t).clk = s.clk := by
  obtain ⟨n, l, g, o, f, m, e⟩ := near_upTo s t; rw [e]
@[simp] theorem State.upTo_pwr (s : State) (t : Nat) : (s.upTo t).pwr = s.pwr := by
  obtain ⟨n, l, g, o, f, m, e⟩ := near_upTo s t; rw [e]
@[simp] theorem State.upTo_ret (s : State) (t : Nat) : (s.upTo t).ret = s.ret := by
  obtain ⟨n, l, g, o, f, m, e⟩ := near_upTo s t; rw [e]
@[simp] theorem State.upTo_nor (s : State) (t : Nat) : (s.upTo t).nor = s.nor := by
  obtain ⟨n, l, g, o, f, m, e⟩ := near_upTo s t; rw [e]
@[simp] theorem State.upTo_bist (s : State) (t : Nat) : (s.upTo t).bist = s.bist := by
  obtain ⟨n, l, g, o, f, m, e⟩ := near_upTo s t; rw [e]
@[simp] theorem State.upTo_lanes (s : State) (t : Nat) : (s.upTo t).lanes = s.lanes := by
  obtain ⟨n, l, g, o, f, m, e⟩ := near_upTo s t; rw [e]
@[simp] theorem State.upTo_tb (s : State) (t : Nat) : (s.upTo t).tb = s.tb := by
  obtain ⟨n, l, g, o, f, m, e⟩ := near_upTo s t; rw [e]
@[simp] theorem State.upTo_ring (s : State) (t : Nat) : (s.upTo t).ring = s.ring := by
  obtain ⟨n, l, g, o, f, m, e⟩ := near_upTo s t; rw [e]
@[simp] theorem State.upTo_mgr (s : State) (t : Nat) : (s.upTo t).mgr = s.mgr := by
  obtain ⟨n, l, g, o, f, m, e⟩ := near_upTo s t; rw [e]
@[simp] theorem State.upTo_out (s : State) (t : Nat) : (s.upTo t).out = s.out := by
  obtain ⟨n, l, g, o, f, m, e⟩ := near_upTo s t; rw [e]
@[simp] theorem State.upTo_free (s : State) (t : Nat) : (s.upTo t).free = s.free := by
  obtain ⟨n, l, g, o, f, m, e⟩ := near_upTo s t; rw [e]
@[simp] theorem State.upTo_cellAt (s : State) (t : Nat) : (s.upTo t).cellAt = s.cellAt := by
  obtain ⟨n, l, g, o, f, m, e⟩ := near_upTo s t; rw [e]
@[simp] theorem State.upTo_pending (s : State) (t : Nat) : (s.upTo t).pending = s.pending := by
  obtain ⟨n, l, g, o, f, m, e⟩ := near_upTo s t; rw [e]

/-- Nothing waits: only the time goes on. -/
theorem upTo_idle {s : State} {t : Nat} (h : s.soon = []) : s.upTo t = s.at_ t := by
  unfold State.upTo State.at_; rw [h]; rfl

/-- The parts of `serves`. -/
theorem serves_iff {s : State} {q : Req} {idx sub : Nat} : s.serves q idx sub = true ↔
    s.pathOpen q.path = true ∧ q.proto = 1 ∧ s.queueFull q = false ∧ s.acc.timedOut.contains (q.path, q.who) = false ∧
      (q.isLocal = true ∨ q.node = s.ring.nodeId) ∧
      (s.acc.stalled.any fun x => x.2.req.path = q.path && x.2.req.who = q.who) = false ∧
      s.domOn (domainOf idx sub) = true ∧ s.segOpen idx sub = none := by
  simp only [State.serves, Bool.and_eq_true, Bool.not_eq_true', Bool.or_eq_true, decide_eq_true_eq, and_assoc,
    Option.isNone_iff_eq_none]

theorem queueFull_upTo (s : State) (t : Nat) (q : Req) : (s.upTo t).queueFull q = s.queueFull q := by
  obtain ⟨n, l, g, o, f, m, e⟩ := near_upTo s t; rw [e]; rfl
theorem domOn_upTo (s : State) (t d : Nat) : (s.upTo t).domOn d = s.domOn d := by simp only [State.domOn, State.upTo_pwr]
theorem segOpen_upTo (s : State) (t idx sub : Nat) : (s.upTo t).segOpen idx sub = s.segOpen idx sub := by
  simp only [State.segOpen, State.upTo_acc]

/-- No transfer is open on the entry of a request that the device serves. -/
theorem seg_upTo {s : State} {q : Req} {idx sub : Nat} (h : s.serves q idx sub = true) (t : Nat) :
    (s.upTo t).segOpen idx sub = none := by
  rw [segOpen_upTo]; exact (serves_iff.mp h).2.2.2.2.2.2.2

/-- A request of one of the entry operations 1 to 6 that the device serves reaches its entry at its time of arrival. -/
theorem takeReq_served {s : State} {m : Msg} {r : OdRow} (h : s.serves m.req m.idx m.sub = true) (ho : 0 < m.op)
    (ho' : m.op < 7) (hl : Od.lookup m.idx m.sub = .ok r) : (s.upTo m.req.t).takeReq m = (s.upTo m.req.t).serveAt m r := by
  obtain ⟨-, hp, hq, ht, hn, hs, hd, -⟩ := serves_iff.mp h
  have e1 : (s.upTo m.req.t).queueFull m.req = false := by rw [queueFull_upTo]; exact hq
  have e2 : (s.upTo m.req.t).acc = s.acc := State.upTo_acc _ _
  have e3 : (s.upTo m.req.t).ring = s.ring := State.upTo_ring _ _
  have e4 : (s.upTo m.req.t).domOn (domainOf m.idx m.sub) = true := by rw [domOn_upTo]; exact hd
  have e5 : (s.acc.stalled.find? fun x => x.2.req.path = m.req.path && x.2.req.who = m.req.who) = none := by
    rw [List.find?_eq_none]
    intro x hx
    have := List.any_eq_false.mp hs x hx
    simpa using this
  have e6 : ¬ (m.op = 0 ∨ m.op > 7) := by omega
  have e7 : ¬ m.op = 7 := by omega
  unfold State.takeReq State.serveHere
  simp only [hp, e1, e2, e3, ht, e5, e7, hl, e4]
  rcases hn with hn | hn <;> simp [hn, e6]

/-- The same over the path it arrives on. The entries of the clocks and of the self-test also settle what the test stalled. -/
theorem request_served {s : State} {m : Msg} {r : OdRow} (h : s.serves m.req m.idx m.sub = true) (ho : 0 < m.op)
    (ho' : m.op < 7) (hl : Od.lookup m.idx m.sub = .ok r) : s.request m =
      if m.idx = 0x1C00 ∨ m.idx = 0x1A00 then ((s.upTo m.req.t).serveAt m r).clkSettle.serveStalled
      else (s.upTo m.req.t).serveAt m r := by
  have hp := (serves_iff.mp h).1
  unfold State.request State.takeAll
  rw [takeReq_served h ho ho' hl]
  simp [hp]

/-- The checks of order 4 to 8 of R462 are met. -/
def OdRow.takes (s : State) (r : OdRow) (idx sub : Nat) (d : List Byte) : Bool :=
  r.acc ≠ .ro && r.acc ≠ .const && r.check d = 0 && (r.acc ≠ .rws || s.legsEnabled = 0) && (s.segOpen idx sub).isNone &&
    r.divides (leNat d)

/-- The groups other than 0x1B00 have their owner in one table. -/
theorem writeOwned_plain {s : State} {r : OdRow} {idx sub : Nat} {d : List Byte} (h : r.base ≠ 0x1B00) :
    s.writeOwned r idx sub d = s.writeOwned0 r idx sub d := by simp [State.writeOwned, h]

/-- A write whose value passes the checks reaches the owner of the entry. -/
theorem writeEntry_takes {s : State} {r : OdRow} {idx sub : Nat} {d : List Byte} (h : r.takes s idx sub d = true) :
    s.writeEntry r idx sub d = s.writeOwned r idx sub d := by
  simp only [OdRow.takes, Bool.and_eq_true, decide_eq_true_eq, Bool.or_eq_true, ne_eq, decide_not, Bool.not_eq_true',
    decide_eq_false_iff_not, Option.isNone_iff_eq_none] at h
  obtain ⟨⟨⟨⟨⟨h1, h2⟩, h3⟩, h4⟩, h5⟩, h6⟩ := h
  unfold State.writeEntry
  have h4' : ¬(r.acc = .rws ∧ s.legsEnabled ≠ 0) := fun e => h4.elim (fun n => n e.1) e.2
  simp [h1, h2, h3, h5, h6, h4']

/-- A WRITE that the device serves and whose value the entry takes: the owner's effect, and the answer. -/
theorem writeCmd_served {s : State} {q : Req} {idx sub : Nat} {d : List Byte} {r : OdRow} (h : s.serves q idx sub = true)
    (hl : Od.lookup idx sub = .ok r) (hi : idx ≠ 0x1C00) (hj : idx ≠ 0x1A00) (hb : r.base ≠ 0x8000)
    (hd : d.length ≤ pathLimit q.path) (ht : r.takes (s.upTo q.t) idx sub d = true) :
    s.writeCmd q idx sub d = State.finish ((s.upTo q.t).writeOwned r idx sub d) (q.msg 2 idx sub []) r.ty.code := by
  have hr := request_served (m := q.msg 2 idx sub d) h (show 0 < 2 by decide) (show 2 < 7 by decide) hl
  unfold State.writeCmd
  rw [hr]
  have e : ∀ t : State, t.serveAt (q.msg 2 idx sub d) r = t.doWrite (q.msg 2 idx sub d) r := fun _ => rfl
  have ht' : (s.upTo q.t).typeOf r idx sub = r.ty.code := by simp [State.typeOf, hb]
  simp only [Req.msg, hi, hj, or_self, if_false] at hr ⊢
  show (s.upTo q.t).doWrite _ r = _
  unfold State.doWrite
  simp only [Nat.not_lt.mpr hd, decide_false, Bool.and_false, Bool.false_eq_true, if_false, ht']
  rw [writeEntry_takes ht]
  rfl

/-- The same for the entries of the clocks and of the self-test. -/
theorem writeCmd_settles {s : State} {q : Req} {idx sub : Nat} {d : List Byte} {r : OdRow} (h : s.serves q idx sub = true)
    (hl : Od.lookup idx sub = .ok r) (hi : idx = 0x1C00 ∨ idx = 0x1A00) (hb : r.base ≠ 0x8000)
    (hd : d.length ≤ pathLimit q.path) (ht : r.takes (s.upTo q.t) idx sub d = true) :
    s.writeCmd q idx sub d =
      (State.finish ((s.upTo q.t).writeOwned r idx sub d) (q.msg 2 idx sub []) r.ty.code).clkSettle.serveStalled := by
  have hr := request_served (m := q.msg 2 idx sub d) h (show 0 < 2 by decide) (show 2 < 7 by decide) hl
  unfold State.writeCmd
  rw [hr]
  have ht' : (s.upTo q.t).typeOf r idx sub = r.ty.code := by simp [State.typeOf, hb]
  simp only [Req.msg, hi, if_true] at hr ⊢
  show ((s.upTo q.t).doWrite _ r).clkSettle.serveStalled = _
  unfold State.doWrite
  simp only [Nat.not_lt.mpr hd, decide_false, Bool.and_false, Bool.false_eq_true, if_false, ht']
  rw [writeEntry_takes ht]
  rfl

/-- A whole value of type DOMAIN, as one segment. -/
theorem writeWhole_served {s : State} {q : Req} {idx sub : Nat} {d : List Byte} {r : OdRow} (h : s.serves q idx sub = true)
    (hl : Od.lookup idx sub = .ok r) (hf : ¬(r.base = 0x1B00 ∧ sub = 0x10)) (ht : r.takes (s.upTo q.t) idx sub d = true) :
    s.writeWhole q idx sub d = State.finish ((s.upTo q.t).writeOwned r idx sub d) (q.msg 5 idx sub []) r.ty.code := by
  obtain ⟨hp, hv, hq, ho, hn, hw, hd, hs⟩ := serves_iff.mp h
  have e3 : (s.upTo q.t).ring = s.ring := State.upTo_ring _ _
  have e6 : (s.upTo q.t).queueFull q = false := by rw [queueFull_upTo]; exact hq
  have e7 : (s.upTo q.t).acc = s.acc := State.upTo_acc _ _
  have e4 : (s.upTo q.t).domOn (domainOf idx sub) = true := by rw [domOn_upTo]; exact hd
  have e5 : (s.upTo q.t).segOpen idx sub = none := by rw [segOpen_upTo]; exact hs
  unfold State.writeWhole
  rcases hn with hn | hn <;> simp only [hp, hv, hl, e3, e4, e5, e6, e7, ho, hw, hn] <;> simp [hf, writeEntry_takes ht] <;> rfl

/-- FW_IMAGE erases its slot first (R525). -/
theorem writeWhole_fw {s : State} {q : Req} {d : List Byte} {r : OdRow} (h : s.serves q 0x1B00 0x10 = true)
    (hl : Od.lookup 0x1B00 0x10 = .ok r) (hb : r.base = 0x1B00) (ht : r.takes (s.upTo q.t).fwErase 0x1B00 0x10 d = true) :
    s.writeWhole q 0x1B00 0x10 d =
      State.finish ((s.upTo q.t).fwErase.writeOwned r 0x1B00 0x10 d) (q.msg 5 0x1B00 0x10 []) r.ty.code := by
  obtain ⟨hp, hv, hq, ho, hn, hw, hd, hs⟩ := serves_iff.mp h
  have e3 : (s.upTo q.t).ring = s.ring := State.upTo_ring _ _
  have e6 : (s.upTo q.t).queueFull q = false := by rw [queueFull_upTo]; exact hq
  have e7 : (s.upTo q.t).acc = s.acc := State.upTo_acc _ _
  have e4 : (s.upTo q.t).domOn (domainOf 0x1B00 0x10) = true := by rw [domOn_upTo]; exact hd
  have e5 : (s.upTo q.t).segOpen 0x1B00 0x10 = none := by rw [segOpen_upTo]; exact hs
  unfold State.writeWhole
  rcases hn with hn | hn <;> simp only [hp, hv, hl, e3, e4, e5, e6, e7, ho, hw, hn] <;> simp [hb, writeEntry_takes ht] <;> rfl

theorem finish_ok {t : State} {m : Msg} {typ : Nat} : State.finish (t, 0) m typ = (t.answer m { typ := typ }).settleReset := rfl
theorem finish_error {t : State} {m : Msg} {typ a : Nat} (h : a ≠ 0) :
    State.finish (t, a) m typ = (t.answer m (.refuse a)).settleReset := by simp [State.finish, h]

/-! ### Looking up a row -/

/-- The first row that shares an entry with a block of indices and subs, where it holds the whole block. -/
def Od.pick (l : List OdRow) (b n s m : Nat) : Option OdRow :=
  match l with
  | [] => none
  | r :: l =>
    bif Nat.blt r.base (b + n) && Nat.blt b (r.base + r.count) && Nat.blt r.sub (s + m) && Nat.blt s (r.sub + r.nsub) then
      bif Nat.ble r.base b && Nat.ble (b + n) (r.base + r.count) && Nat.ble r.sub s && Nat.ble (s + m) (r.sub + r.nsub)
      then some r else none
    else Od.pick l b n s m
theorem pick_find {l : List OdRow} {b n s m i j : Nat} {r : OdRow} (h : Od.pick l b n s m = some r) (hi : i < n)
    (hj : j < m) : (l.find? fun r => r.has (b + i) (s + j)) = some r := by
  induction l with
  | nil => simp [Od.pick] at h
  | cons a l ih =>
    unfold Od.pick at h
    simp only [cond_eq_ite, Bool.and_eq_true, Nat.blt_eq, Nat.ble_eq] at h
    rw [List.find?_cons]
    split at h
    · split at h
      · next c =>
        have : a.has (b + i) (s + j) = true := by
          simp only [OdRow.has, Bool.and_eq_true, decide_eq_true_eq]; omega
        simp only [Option.some.injEq] at h
        subst h; simp [this]
      · simp at h
    · next c =>
      have : a.has (b + i) (s + j) = false := by
        rw [← Bool.not_eq_true]
        simp only [OdRow.has, Bool.and_eq_true, decide_eq_true_eq]; omega
      simp [this, ih h]
theorem lookup_of_pick {b n s m i j : Nat} {r : OdRow} (h : Od.pick Od.rows b n s m = some r) (hi : i < n) (hj : j < m)
    (hb : b + n ≤ 0x1821 ∨ 0x1834 ≤ b) (hs : s ≠ 0) : Od.lookup (b + i) (s + j) = .ok r := by
  have hf : Od.find (b + i) (s + j) = some r := by
    unfold Od.find
    have : ¬(0x1821 ≤ b + i ∧ b + i ≤ 0x1833) := by omega
    simp [this, pick_find h hi hj]
  have h0 : s + j ≠ 0 := by omega
  unfold Od.lookup
  rw [if_neg (by simp only [Bool.and_eq_true, decide_eq_true_eq]; omega), hf]

end Sys2Proof.Machine
end

