-- ==== Sys2Proof/Laws/Good.lean ====
section
/-! SUPPORT. What every operation keeps: it leaves the queue of waiting commands alone, keeps a sound state sound and an
interlocked one interlocked, raises no gate and clears no fuse. `Good` says this of a state in terms of a claim about the
state before, and there is one lemma for each operation on states. -/

namespace Sys2Proof.Machine

set_option Elab.async false

/-- What is claimed of a state: its queue, the premises under which it is sound and interlocked, the gates that may be
high, the fuses that are programmed. -/
structure Claim where
  queue : List Instr
  wasSound : Prop
  wasLocked : Prop
  top : Nat → Bool → Bool
  fuses : Fuses

/-- A state meets a claim. -/
def State.Good (P : Claim) (s : State) : Prop :=
  s.pending = P.queue ∧ (P.wasSound → s.sound = true) ∧ (P.wasLocked → s.interlocked = true) ∧ s.gatesUnder P.top ∧
    P.fuses.below s.nor.fuses

/-- The same of an owner's answer, where it admits the write. -/
def goodOwn (P : Claim) (r : Own) : Prop :=
  match r with
  | .ok s => s.Good P
  | .error _ => True

/-- The same of a read, where it is served, and of what may not be there. -/
def goodRead (P : Claim) (r : Except Nat (List Byte × State)) : Prop :=
  match r with
  | .ok x => x.2.Good P
  | .error _ => True
def goodOpt (P : Claim) (r : Option (List Byte × State)) : Prop :=
  match r with
  | some x => x.2.Good P
  | none => True

theorem goodRead_ok {P : Claim} {l : List Byte} {s : State} (h : s.Good P) : goodRead P (.ok (l, s)) := h
theorem goodRead_error {P : Claim} {a : Nat} : goodRead P (.error a) := trivial
theorem goodOpt_some {P : Claim} {l : List Byte} {s : State} (h : s.Good P) : goodOpt P (some (l, s)) := h
theorem goodOpt_none {P : Claim} : goodOpt P none := trivial
theorem goodRead_of {P : Claim} {o : Except Nat (List Byte × State)} {l : List Byte} {s : State} (e : o = .ok (l, s))
    (h : goodRead P o) : s.Good P := by
  rw [e] at h; exact h
theorem goodOpt_of {P : Claim} {o : Option (List Byte × State)} {l : List Byte} {s : State} (e : o = some (l, s))
    (h : goodOpt P o) : s.Good P := by
  rw [e] at h; exact h

theorem below_refl (f : Fuses) : f.below f := ⟨Nat.and_self _, Nat.and_self _, Nat.le_refl _, Nat.le_refl _⟩
theorem below_trans {f g h : Fuses} (a : f.below g) (b : g.below h) : f.below h := by
  refine ⟨?_, ?_, Nat.le_trans a.2.2.1 b.2.2.1, Nat.le_trans a.2.2.2 b.2.2.2⟩
  · rw [← a.1, Nat.and_assoc, b.1]
  · rw [← a.2.1, Nat.and_assoc, b.2.1]

/-- A state meets the claim that speaks of itself. -/
theorem good_self (s : State) :
    s.Good ⟨s.pending, s.sound = true, s.interlocked = true,
      fun l h => if h then (s.gg l).gh else (s.gg l).gl, s.nor.fuses⟩ :=
  ⟨rfl, id, id, fun l g e => by simp [State.gg, List.getD_eq_getElem?_getD, e], below_refl _⟩

theorem good_with {P : Claim} {s : State} {now : Nat} {soon : List (Nat × Soon)} {records : List SoRecord} {stringTrips : Nat} {glideSteps : Nat} {strRecords : Nat} {meas : Meas}
    {le : LoopEng} {fb : Feedback} {th : Thermal} {lv : LvPort} {flt : Faults} {sf : Safety} {acc : Access} {clk :
    Clocks} {pwr : Power} {ret : Retention} {nor : Stores} {bist : Bist} {tb : TimeBase} {ring : Ring} {mgr : Mgr}
    {out : List Out} {free : Nat} {cellAt : Nat}
    (h : s.Good P) (hn : nor.fuses = s.nor.fuses) :
    State.Good P ⟨now, s.od, s.legs, s.gates, s.cars, soon, s.slots, records, stringTrips, s.strings, glideSteps, strRecords, s.mdats,
      meas, le, fb, th, lv, flt, sf, acc, clk, pwr, ret, nor, bist, s.lanes, tb, ring, mgr, out, free, cellAt,
      s.pending⟩ :=
  ⟨h.1, h.2.1, h.2.2.1, h.2.2.2.1, by show P.fuses.below nor.fuses; rw [hn]; exact h.2.2.2.2⟩

theorem goodOwn_ok {P : Claim} {s : State} (h : s.Good P) : goodOwn P (.ok s) := h
theorem goodOwn_error {P : Claim} (a : Nat) : goodOwn P (.error a) := trivial
theorem goodOwn_ok_eq {P : Claim} (s : State) : goodOwn P (.ok s) = s.Good P := rfl
theorem goodOwn_error_eq {P : Claim} (a : Nat) : goodOwn P (.error a) = True := rfl
theorem good_fst_of {β : Type} {P : Claim} {o : State × β} {s : State} {b : β} (e : o = (s, b)) (h : o.1.Good P) :
    s.Good P := by
  rw [e] at h; exact h
theorem good_snd_of {β : Type} {P : Claim} {o : β × State} {s : State} {b : β} (e : o = (b, s)) (h : o.2.Good P) :
    s.Good P := by
  rw [e] at h; exact h
theorem goodOwn_of {P : Claim} {o : Own} {s : State} (e : o = .ok s) (h : goodOwn P o) : s.Good P := by
  rw [e] at h; exact h
theorem goodOwn_done {P : Claim} {s : State} {r : Own} (h : s.Good P) (hr : goodOwn P r) : (s.done r).1.Good P := by
  cases r <;> assumption

theorem good_ite {P : Claim} {c : Prop} {d : Decidable c} {s t : State} (hs : s.Good P) (ht : t.Good P) :
    (if c then s else t).Good P := by
  split <;> assumption
theorem goodOwn_ite {P : Claim} {c : Prop} {d : Decidable c} {s t : Own} (hs : goodOwn P s) (ht : goodOwn P t) :
    goodOwn P (if c then s else t) := by
  split <;> assumption

theorem good_foldl {α : Type} {P : Claim} (l : List α) (f : State → α → State)
    (hf : ∀ s x, s.Good P → (f s x).Good P) (s : State) (h : s.Good P) : (l.foldl f s).Good P := by
  induction l generalizing s with
  | nil => exact h
  | cons x l ih => exact ih _ (hf _ _ h)
theorem good_foldl_fst {α β : Type} {P : Claim} (l : List α) (f : State × β → α → State × β)
    (hf : ∀ a x, a.1.Good P → (f a x).1.Good P) (a : State × β) (h : a.1.Good P) : (l.foldl f a).1.Good P := by
  induction l generalizing a with
  | nil => exact h
  | cons x l ih => exact ih _ (hf _ _ h)
theorem State.each_good {α : Type} {P : Claim} (s : State) (l : List α) (f : State → α → State)
    (hf : ∀ s x, s.Good P → (f s x).Good P) (h : s.Good P) : (s.each l f).Good P := good_foldl l f hf s h
theorem iter_good {P : Claim} (f : State → State) (hf : ∀ s, s.Good P → (f s).Good P) (n : Nat) (s : State)
    (h : s.Good P) : (iter f n s).Good P := by
  induction n generalizing s with
  | zero => exact h
  | succ n ih => exact ih _ (hf _ h)
theorem State.inNextClk_good {P : Claim} (s : State) (f : State → State) (hf : ∀ s, s.Good P → (f s).Good P)
    (h : s.Good P) : (s.inNextClk f).Good P := hf _ h
theorem State.asAt_good {P : Claim} (s : State) (e : Nat) (f : State → State) (hf : ∀ s, s.Good P → (f s).Good P)
    (h : s.Good P) : (s.asAt e f).Good P := good_with (hf _ (good_with h rfl)) rfl
theorem State.awake_good {P : Claim} (s : State) (f : State → State) (hf : ∀ s, s.Good P → (f s).Good P)
    (h : s.Good P) : (s.awake f).Good P := by
  unfold State.awake; split
  · exact hf _ h
  · exact h

/-! ### The store keeps its canonical form -/

/-- Every key of the store is above k. -/
theorem wf_cons {a : Nat × Nat} {m : OdStore} :
    OdStore.wf (a :: m) = true ↔ (∀ b ∈ m, a.1 < b.1) ∧ OdStore.wf m = true := by
  induction m generalizing a with
  | nil => simp [OdStore.wf]
  | cons b m ih =>
    simp only [OdStore.wf, Bool.and_eq_true, decide_eq_true_eq, List.mem_cons, forall_eq_or_imp]
    constructor
    · rintro ⟨h, hm⟩
      exact ⟨⟨h, fun c hc => Nat.lt_trans h ((ih.mp hm).1 c hc)⟩, hm⟩
    · rintro ⟨⟨h, _⟩, hm⟩
      exact ⟨h, hm⟩

theorem insert_mem {m : OdStore} {k v : Nat} {b : Nat × Nat} (h : b ∈ m.insert k v) : b = (k, v) ∨ b ∈ m := by
  induction m with
  | nil => simpa [OdStore.insert] using h
  | cons a m ih =>
    unfold OdStore.insert at h
    split at h
    · simp only [List.mem_cons] at h ⊢
      exact h.imp id .inr
    · split at h
      · simpa only [List.mem_cons] using h
      · simp only [List.mem_cons] at h ⊢
        rcases h with h | h
        · exact .inr (.inl h)
        · exact (ih h).imp id .inr

theorem erase_mem {m : OdStore} {k : Nat} {b : Nat × Nat} (h : b ∈ m.erase k) : b ∈ m := by
  induction m with
  | nil => simp [OdStore.erase] at h
  | cons a m ih =>
    unfold OdStore.erase at h
    split at h
    · exact List.mem_cons_of_mem _ h
    · split at h
      · exact h
      · simp only [List.mem_cons] at h ⊢
        rcases h with h | h
        · exact .inl h
        · exact .inr (ih h)

theorem insert_wf {m : OdStore} (k v : Nat) (h : m.wf = true) : (m.insert k v).wf = true := by
  induction m with
  | nil => rfl
  | cons a m ih =>
    rw [wf_cons] at h
    unfold OdStore.insert
    split
    · next e => exact wf_cons.mpr ⟨fun b hb => e ▸ h.1 b hb, h.2⟩
    · split
      · next hlt =>
        refine wf_cons.mpr ⟨fun b hb => ?_, wf_cons.mpr h⟩
        rcases List.mem_cons.mp hb with rfl | hb
        · exact hlt
        · exact Nat.lt_trans hlt (h.1 b hb)
      · refine wf_cons.mpr ⟨fun b hb => ?_, ih h.2⟩
        rcases insert_mem hb with rfl | hb
        · show a.1 < k; omega
        · exact h.1 b hb

theorem erase_wf {m : OdStore} (k : Nat) (h : m.wf = true) : (m.erase k).wf = true := by
  induction m with
  | nil => rfl
  | cons a m ih =>
    rw [wf_cons] at h
    unfold OdStore.erase
    split
    · exact h.2
    · split
      · exact wf_cons.mpr h
      · exact wf_cons.mpr ⟨fun b hb => h.1 b (erase_mem hb), ih h.2⟩

theorem put_wf {m : OdStore} (r : Reg) (v : Nat) (h : m.wf = true) : (m.put r v).wf = true := by
  unfold OdStore.put; split
  · exact erase_wf _ h
  · exact insert_wf _ _ h

theorem filter_wf {m : OdStore} (f : Nat × Nat → Bool) (h : m.wf = true) : OdStore.wf (m.filter f) = true := by
  induction m with
  | nil => rfl
  | cons a m ih =>
    rw [wf_cons] at h
    rw [List.filter_cons]; split
    · exact wf_cons.mpr ⟨fun b hb => h.1 b (List.mem_filter.mp hb).1, ih h.2⟩
    · exact ih h.2

theorem foldl_insert_wf (l : OdStore) {m : OdStore} (h : m.wf = true) :
    OdStore.wf (l.foldl (fun (m : OdStore) e => m.insert e.1 e.2) m) = true := by
  induction l generalizing m with
  | nil => exact h
  | cons e l ih => exact ih (insert_wf _ _ h)

/-! ### The fields it speaks of -/

theorem sound_fields {s : State} : s.sound = true ↔
    s.od.wf = true ∧ s.legs.length = 192 ∧ s.gates.length = 192 ∧ s.cars.length = 64 ∧
      s.slots.length = 32 ∧ s.strings.length = 32 ∧ s.mdats.length = 96 ∧ s.lanes.length = 4 := by
  simp only [State.sound, soundParts, Bool.and_eq_true, decide_eq_true_eq, and_assoc]

theorem good_od {P : Claim} {s : State} {m : OdStore} (h : s.Good P) (hm : s.od.wf = true → m.wf = true) :
    State.Good P { s with od := m } := by
  refine ⟨h.1, fun a => ?_, h.2.2⟩
  have hs := h.2.1 a
  rw [sound_fields] at hs ⊢
  exact ⟨hm hs.1, hs.2⟩

theorem State.wr_good {P : Claim} (s : State) (r : Reg) (v : Nat) (h : s.Good P) : (s.wr r v).Good P :=
  good_od h (put_wf r v)

theorem good_legs {P : Claim} {s : State} {l : List Leg} (h : s.Good P) (hl : l.length = s.legs.length) :
    State.Good P { s with legs := l } := by
  refine ⟨h.1, fun a => ?_, h.2.2⟩
  have hs := h.2.1 a
  simp only [sound_fields, hl] at hs ⊢
  exact hs

theorem good_cars {P : Claim} {s : State} {l : List Carrier} (h : s.Good P) (hl : l.length = s.cars.length) :
    State.Good P { s with cars := l } := by
  refine ⟨h.1, fun a => ?_, h.2.2⟩
  have hs := h.2.1 a
  simp only [sound_fields, hl] at hs ⊢
  exact hs

theorem good_slots {P : Claim} {s : State} {l : List Slot} (h : s.Good P) (hl : l.length = s.slots.length) :
    State.Good P { s with slots := l } := by
  refine ⟨h.1, fun a => ?_, h.2.2⟩
  have hs := h.2.1 a
  simp only [sound_fields, hl] at hs ⊢
  exact hs

theorem good_strings {P : Claim} {s : State} {l : List StringSt} (h : s.Good P) (hl : l.length = s.strings.length) :
    State.Good P { s with strings := l } := by
  refine ⟨h.1, fun a => ?_, h.2.2⟩
  have hs := h.2.1 a
  simp only [sound_fields, hl] at hs ⊢
  exact hs

theorem good_mdats {P : Claim} {s : State} {l : List Mdat} (h : s.Good P) (hl : l.length = s.mdats.length) :
    State.Good P { s with mdats := l } := by
  refine ⟨h.1, fun a => ?_, h.2.2⟩
  have hs := h.2.1 a
  simp only [sound_fields, hl] at hs ⊢
  exact hs

theorem good_lanes {P : Claim} {s : State} {l : List Lane} (h : s.Good P) (hl : l.length = s.lanes.length) :
    State.Good P { s with lanes := l } := by
  refine ⟨h.1, fun a => ?_, h.2.2⟩
  have hs := h.2.1 a
  simp only [sound_fields, hl] at hs ⊢
  exact hs
theorem State.updLeg_good {P : Claim} (s : State) (l : Nat) (f : Leg → Leg) (h : s.Good P) : (s.updLeg l f).Good P :=
  good_legs h (List.length_modify ..)
theorem State.updCar_good {P : Claim} (s : State) (k : Nat) (f : Carrier → Carrier) (h : s.Good P) : (s.updCar k f).Good P :=
  good_cars h (List.length_modify ..)
theorem State.updSlot_good {P : Claim} (s : State) (c : Nat) (f : Slot → Slot) (h : s.Good P) : (s.updSlot c f).Good P :=
  good_slots h (List.length_modify ..)
theorem State.updMd_good {P : Claim} (s : State) (m : Nat) (f : Mdat → Mdat) (h : s.Good P) : (s.updMd m f).Good P :=
  good_mdats h (List.length_modify ..)
theorem State.updLane_good {P : Claim} (s : State) (n : Nat) (f : Lane → Lane) (h : s.Good P) : (s.updLane n f).Good P :=
  good_lanes h (List.length_modify ..)
theorem State.updStr_good {P : Claim} (s : State) (i : Nat) (f : StringSt → StringSt) (h : s.Good P) : (s.updStr i f).Good P :=
  good_strings h (List.length_modify ..)

/-! ### Gates -/

/-- A change of a gate guard that raises no gate and keeps what R15 asks. -/
def Guard.lowers (f : Guard → Guard) : Prop :=
  ∀ g, (g.obeys = true → (f g).obeys = true) ∧ ((f g).gh = true → g.gh = true) ∧ ((f g).gl = true → g.gl = true)

/-- A change that touches neither a gate nor what holds one. -/
theorem lowers_of {f : Guard → Guard} (hh : ∀ g, (f g).gh = g.gh) (hl : ∀ g, (f g).gl = g.gl)
    (ho : ∀ g, (g.latched || g.stoLow || g.xhold) = false → ((f g).latched || (f g).stoLow || (f g).xhold) = false) :
    Guard.lowers f := by
  intro g
  refine ⟨fun h => ?_, by rw [hh]; exact id, by rw [hl]; exact id⟩
  have := ho g
  unfold Guard.obeys at h ⊢
  rw [hh, hl]
  revert this h
  generalize (g.latched || g.stoLow || g.xhold) = a
  generalize ((f g).latched || (f g).stoLow || (f g).xhold) = b
  generalize g.gh = x
  generalize g.gl = y
  cases a <;> cases b <;> cases x <;> cases y <;> simp

theorem lowers_id {f : Guard → Guard} (hh : ∀ g, (f g).gh = g.gh) (hl : ∀ g, (f g).gl = g.gl)
    (h1 : ∀ g, (f g).latched = g.latched) (h2 : ∀ g, (f g).stoLow = g.stoLow) (h3 : ∀ g, (f g).xhold = g.xhold) :
    Guard.lowers f :=
  lowers_of hh hl fun g => by rw [h1, h2, h3]; exact id

/-- A change after which both gates are low. -/
theorem lowers_low {f : Guard → Guard} (hh : ∀ g, (f g).gh = false) (hl : ∀ g, (f g).gl = false) : Guard.lowers f := by
  intro g
  refine ⟨fun _ => ?_, by rw [hh]; simp, by rw [hl]; simp⟩
  unfold Guard.obeys
  rw [hh, hl]; simp

theorem lowers_comp {f g : Guard → Guard} (hf : Guard.lowers f) (hg : Guard.lowers g) : Guard.lowers fun x => g (f x) :=
  fun _ => ⟨fun h => (hg _).1 ((hf _).1 h), fun h => (hf _).2.1 ((hg _).2.1 h), fun h => (hf _).2.2 ((hg _).2.2 h)⟩

theorem Guard.drop_gh (g : Guard) (t : Nat) : (g.drop t).gh = false := by
  unfold Guard.drop Guard.dropL Guard.dropH
  cases h : g.gh <;> simp <;> split <;> simp_all
theorem Guard.drop_gl (g : Guard) (t : Nat) : (g.drop t).gl = false := by
  unfold Guard.drop Guard.dropL
  cases h : (g.dropH t).gl <;> simp_all

/-- GH and GL going low, and the taking in of a command, raise no gate. -/
theorem dropH_lowers (t : Nat) : Guard.lowers fun g => g.dropH t := by
  intro g
  dsimp only [Guard.dropH]
  split
  · next e =>
    refine ⟨fun h => ?_, fun h => by simp at h, id⟩
    revert h; simp only [Guard.obeys, e]
    cases g.gl <;> simp_all
  · exact ⟨id, id, id⟩
theorem dropL_lowers (t : Nat) : Guard.lowers fun g => g.dropL t := by
  intro g
  dsimp only [Guard.dropL]
  split
  · next e =>
    refine ⟨fun h => ?_, id, fun h => by simp at h⟩
    revert h; simp only [Guard.obeys, e]
    cases g.gh <;> simp_all
  · exact ⟨id, id, id⟩
theorem drop_lowers (t : Nat) : Guard.lowers fun g => g.drop t := lowers_comp (dropH_lowers t) (dropL_lowers t)
theorem lowers_ite {c : Prop} {d : Decidable c} {f f' : Guard → Guard} (hf : Guard.lowers f) (hf' : Guard.lowers f') :
    Guard.lowers fun g => if c then f g else f' g := by
  intro g
  dsimp only
  split
  · exact hf g
  · exact hf' g
theorem lowers_refl : Guard.lowers fun g => g := fun _ => ⟨id, id, id⟩
theorem follow_lowers (c : Cmd) (t next : Nat) : Guard.lowers fun g => g.follow c t next := by
  intro g
  dsimp only [Guard.follow]
  obtain ⟨h, l⟩ := c.requests
  have h1 : Guard.lowers fun g => if h = true then g else g.dropH next := lowers_ite lowers_refl (dropH_lowers next)
  have h2 : Guard.lowers fun g => if (h && l) = true then g.drop t else
      if l = true then (if h = true then g else g.dropH next) else (if h = true then g else g.dropH next).dropL next :=
    lowers_ite (drop_lowers t) (lowers_ite h1 (lowers_comp h1 (dropL_lowers next)))
  exact ⟨fun o => (h2 _).1 (id o), (h2 _).2.1, (h2 _).2.2⟩

theorem State.updGg_good {P : Claim} (s : State) (l : Nat) (f : Guard → Guard) (hf : Guard.lowers f) (h : s.Good P) :
    (s.updGg l f).Good P := by
  refine ⟨h.1, fun a => ?_, fun a => ?_, fun k g e => ?_, h.2.2.2.2⟩
  · have hs := h.2.1 a
    rw [sound_fields] at hs ⊢
    exact ⟨hs.1, hs.2.1, (List.length_modify ..).trans hs.2.2.1, hs.2.2.2⟩
  · have hs := h.2.2.1 a
    simp only [State.interlocked, List.all_eq_true] at hs ⊢
    intro g hg
    obtain ⟨i, hi⟩ := List.mem_iff_getElem?.mp hg
    simp only [State.updGg, List.getElem?_modify] at hi
    cases e : s.gates[i]? with
    | none => simp [e] at hi
    | some g0 =>
      have h0 := hs g0 (List.mem_iff_getElem?.mpr ⟨i, e⟩)
      simp only [e, Option.map_eq_map, Option.map_some, Option.some.injEq] at hi
      rw [← hi]
      split
      · exact (hf g0).1 h0
      · exact h0
  · simp only [State.updGg, List.getElem?_modify] at e
    cases e0 : s.gates[k]? with
    | none => simp [e0] at e
    | some g0 =>
      have h0 := h.2.2.2.1 k g0 e0
      simp only [e0, Option.map_eq_map, Option.map_some, Option.some.injEq] at e
      rw [← e]
      split
      · exact ⟨fun e => h0.1 ((hf g0).2.1 e), fun e => h0.2 ((hf g0).2.2 e)⟩
      · exact h0

/-- GATE_RELEASE's own change: one gate may go high where R15 allows it. -/
theorem updGg_raise {P : Claim} (s : State) (l : Nat) (gh : Bool) (f : Guard → Guard) (ht : P.top l gh = true)
    (ho : (s.gg l).obeys = true → (f (s.gg l)).obeys = true) (hh : ∀ g : Guard, (f g).gh = (g.gh || gh))
    (hl : ∀ g : Guard, (f g).gl = (g.gl || !gh)) (h : s.Good P) : (s.updGg l f).Good P := by
  refine ⟨h.1, fun a => ?_, fun a => ?_, fun k g e => ?_, h.2.2.2.2⟩
  · have hs := h.2.1 a
    rw [sound_fields] at hs ⊢
    exact ⟨hs.1, hs.2.1, (List.length_modify ..).trans hs.2.2.1, hs.2.2.2⟩
  · have hs := h.2.2.1 a
    simp only [State.interlocked, List.all_eq_true] at hs ⊢
    intro g hg
    obtain ⟨i, hi⟩ := List.mem_iff_getElem?.mp hg
    simp only [State.updGg, List.getElem?_modify] at hi
    cases e : s.gates[i]? with
    | none => simp [e] at hi
    | some g0 =>
      have h0 := hs g0 (List.mem_iff_getElem?.mpr ⟨i, e⟩)
      simp only [e, Option.map_eq_map, Option.map_some, Option.some.injEq] at hi
      rw [← hi]
      split
      · next el =>
        have hg : s.gg l = g0 := by subst el; simp [State.gg, List.getD_eq_getElem?_getD, e]
        rw [hg] at ho
        exact ho h0
      · exact h0
  · simp only [State.updGg, List.getElem?_modify] at e
    cases e0 : s.gates[k]? with
    | none => simp [e0] at e
    | some g0 =>
      have h0 := h.2.2.2.1 k g0 e0
      simp only [e0, Option.map_eq_map, Option.map_some, Option.some.injEq] at e
      rw [← e]
      split
      · next el =>
        subst el
        rw [hh, hl]
        refine ⟨fun e => ?_, fun e => ?_⟩
        · cases gh
          · exact h0.1 (by simpa using e)
          · exact ht
        · cases gh
          · exact ht
          · exact h0.2 (by simpa using e)
      · exact h0

/-! ### Fuses -/

theorem State.updNor_good {P : Claim} (s : State) (f : Stores → Stores) (hf : ∀ n : Stores, n.fuses.below (f n).fuses) (h : s.Good P) :
    (s.updNor f).Good P := ⟨h.1, h.2.1, h.2.2.1, h.2.2.2.1, below_trans h.2.2.2.2 (hf _)⟩

theorem and_or_self (a b : Nat) : a &&& (a ||| b) = a := by
  apply Nat.eq_of_testBit_eq
  intro i
  simp only [Nat.testBit_and, Nat.testBit_or]
  cases a.testBit i <;> cases b.testBit i <;> rfl
/-- What a fuse command programs. -/
theorem program_below (f : Fuses) (cmd : Nat) (a : List Byte) : f.below (f.program cmd a) := by
  have r := below_refl f
  unfold Fuses.program
  split
  · split
    · exact ⟨and_or_self _ _, r.2⟩
    · exact ⟨and_or_self _ _, r.2⟩
    · exact r
  · exact ⟨and_or_self _ _, r.2⟩
  · exact ⟨r.1, r.2.1, r.2.2.1, Nat.le_max_left _ _⟩
  · exact ⟨r.1, and_or_self _ _, r.2.2⟩
theorem fwRb_below (f : Fuses) (b : Nat) : f.below { f with fwRb := max f.fwRb b } :=
  ⟨Nat.and_self _, Nat.and_self _, Nat.le_max_left _ _, Nat.le_refl _⟩
theorem setBank_fuses (n : Stores) (i : Nat) (b : Option Bank) : (n.setBank i b).fuses = n.fuses := by
  unfold Stores.setBank; split <;> rfl
theorem setBank_below {n : Stores} (i : Nat) (b : Option Bank) : n.fuses.below (n.setBank i b).fuses := by
  rw [setBank_fuses]; exact below_refl _
/-- What a reset in the middle of a fuse command leaves programmed. -/
theorem afterReset_below (n : Stores) (v : Nat) : n.fuses.below (n.afterReset v).fuses := by
  have r := below_refl n.fuses
  unfold Stores.afterReset
  dsimp only
  split
  · exact ⟨r.1, r.2.1, r.2.2.1, Nat.le_max_left _ _⟩
  · exact ⟨r.1, and_or_self _ _, r.2.2⟩
  · exact r

/-- A change after which every gate is low. -/
theorem good_low {P : Claim} {s t : State} (h : s.Good P) (hp : t.pending = s.pending) (hs : s.sound = true → t.sound = true)
    (hg : ∀ g ∈ t.gates, g.gh = false ∧ g.gl = false) (hn : s.nor.fuses.below t.nor.fuses) : t.Good P := by
  refine ⟨hp.trans h.1, fun a => hs (h.2.1 a), fun _ => ?_, fun l g e => ?_, below_trans h.2.2.2.2 hn⟩
  · simp only [State.interlocked, List.all_eq_true]
    intro g m
    simp [Guard.obeys, hg g m]
  · have := hg g (List.mem_of_getElem? e)
    simp [this]

end Sys2Proof.Machine
end

