-- ==== Sys2Proof/Laws/GoodOps.lean ====
section
/-! SUPPORT. What shared operations, gate guards, leg outputs and legs keep, one lemma each (see Laws/Good.lean). -/

namespace Sys2Proof.Machine

theorem State.updUnit_good {Q : Claim} (s : State) (c : Nat) (u : Nat) (f : UnitSt → UnitSt) (h : s.Good Q) :
    (State.updUnit s c u f).Good Q := by
  unfold State.updUnit; try dsimp only
  repeat' (first
    | with_reducible assumption | with_reducible refine State.updSlot_good _ _ _ ?_)
theorem State.updTrg_good {Q : Claim} (s : State) (te : Nat) (f : Trg → Trg) (h : s.Good Q) :
    (State.updTrg s te f).Good Q := by
  unfold State.updTrg; try dsimp only
  repeat' (first
    | with_reducible assumption | with_reducible refine good_with ?_ ?_ | exact (rfl : (_ : Fuses) = _))
theorem State.updSlice_good {Q : Claim} (s : State) (i : Nat) (f : Slice → Slice) (h : s.Good Q) :
    (State.updSlice s i f).Good Q := by
  unfold State.updSlice; try dsimp only
  repeat' (first
    | with_reducible assumption | with_reducible refine good_with ?_ ?_ | exact (rfl : (_ : Fuses) = _))
theorem State.updLs_good {Q : Claim} (s : State) (n : Nat) (f : LoopSlot → LoopSlot) (h : s.Good Q) :
    (State.updLs s n f).Good Q := by
  unfold State.updLs; try dsimp only
  repeat' (first
    | with_reducible assumption | with_reducible refine good_with ?_ ?_ | exact (rfl : (_ : Fuses) = _))
theorem State.updIn_good {Q : Claim} (s : State) (n : Nat) (i : Nat) (f : LoopIn → LoopIn) (h : s.Good Q) :
    (State.updIn s n i f).Good Q := by
  unfold State.updIn; try dsimp only
  repeat' (first
    | with_reducible assumption | with_reducible refine State.updLs_good _ _ _ ?_)
theorem State.at__good {Q : Claim} (s : State) (t : Nat) (h : s.Good Q) :
    (State.at_ s t).Good Q := by
  unfold State.at_; try dsimp only
  repeat' (first
    | with_reducible assumption | with_reducible refine good_with ?_ ?_ | exact (rfl : (_ : Fuses) = _))
theorem State.emit_good {Q : Claim} (s : State) (o : Out) (h : s.Good Q) :
    (State.emit s o).Good Q := by
  unfold State.emit; try dsimp only
  repeat' (first
    | with_reducible assumption | with_reducible refine good_with ?_ ?_ | exact (rfl : (_ : Fuses) = _))
theorem State.draw_good {Q : Claim} (s : State) (h : s.Good Q) :
    (State.draw s).2.Good Q := by
  unfold State.draw; try dsimp only
  repeat' (first
    | with_reducible assumption | with_reducible refine good_with ?_ ?_ | exact (rfl : (_ : Fuses) = _))
theorem State.raiseBy_good {Q : Claim} (s : State) (code : Nat) (inst : Nat) (detail : Nat) (a : FltAccess) (h : s.Good Q) :
    (State.raiseBy s code inst detail a).Good Q := by
  unfold State.raiseBy; try dsimp only
  repeat' (first
    | with_reducible assumption | with_reducible refine good_with ?_ ?_ | exact (rfl : (_ : Fuses) = _))
theorem State.raise_good {Q : Claim} (s : State) (code : Nat) (inst : Nat) (h : s.Good Q) :
    (State.raise s code inst).Good Q := by
  unfold State.raise; try dsimp only
  repeat' (first
    | with_reducible assumption | with_reducible refine State.raiseBy_good _ _ _ _ _ ?_)
theorem State.updRing_good {Q : Claim} (s : State) (f : Ring → Ring) (h : s.Good Q) :
    (State.updRing s f).Good Q := by
  unfold State.updRing; try dsimp only
  repeat' (first
    | with_reducible assumption | with_reducible refine good_with ?_ ?_ | exact (rfl : (_ : Fuses) = _))
theorem State.toLane_good {Q : Claim} (s : State) (lane : Nat) (item : Nat) (f : Frame) (h : s.Good Q) :
    (State.toLane s lane item f).Good Q := by
  unfold State.toLane; try dsimp only
  repeat' (first
    | with_reducible assumption | with_reducible refine State.updRing_good _ _ ?_ | split)
theorem State.bothWays_good {Q : Claim} (s : State) (f : Frame) (h : s.Good Q) :
    (State.bothWays s f).Good Q := by
  unfold State.bothWays; try dsimp only
  repeat' (first
    | with_reducible assumption | with_reducible refine State.toLane_good _ _ _ _ ?_
    | with_reducible refine good_foldl _ _ (fun _ _ _ => ?_) _ ?_)
theorem State.send_good {Q : Claim} (s : State) (typ : Nat) (num : Nat) (scope : Nat) (dst : Nat) (payload : List Byte) (h : s.Good Q) :
    (State.send s typ num scope dst payload).Good Q := by
  unfold State.send; try dsimp only
  repeat' (first
    | with_reducible assumption | with_reducible refine State.bothWays_good _ _ ?_
    | with_reducible refine State.updRing_good _ _ ?_ | split)
theorem State.arrive_good {Q : Claim} (s : State) (n : Nat) (i : Nat) (v : Nat) (st : Nat) (h : s.Good Q) :
    (State.arrive s n i v st).Good Q := by
  unfold State.arrive; try dsimp only
  repeat' (first
    | with_reducible assumption | with_reducible refine State.updIn_good _ _ _ _ ?_)
theorem State.hostIn_good {Q : Claim} (s : State) (n : Nat) (i : Nat) (v : Nat) (h : s.Good Q) :
    (State.hostIn s n i v).Good Q := by
  unfold State.hostIn; try dsimp only
  repeat' (first
    | with_reducible assumption | with_reducible refine State.wr_good _ _ _ ?_
    | with_reducible refine State.arrive_good _ _ _ _ _ ?_ | split)
theorem State.traceRecord_good {Q : Claim} (s : State) (sig : Nat) (rec : List Byte) (h : s.Good Q) :
    (State.traceRecord s sig rec).Good Q := by
  unfold State.traceRecord; try dsimp only
  repeat' (first
    | with_reducible assumption | split | with_reducible refine good_with ?_ ?_ | exact (rfl : (_ : Fuses) = _))
theorem State.traceSet_good {Q : Claim} (s : State) (sig : Nat) (typ : Nat) (value : Nat) (T : Nat) (h : s.Good Q) :
    (State.traceSet s sig typ value T).Good Q := by
  unfold State.traceSet; try dsimp only
  repeat' (first
    | with_reducible assumption | with_reducible refine State.traceRecord_good _ _ _ ?_
    | with_reducible refine State.send_good _ _ _ _ _ _ ?_ | with_reducible refine State.emit_good _ _ ?_ | split
    | with_reducible refine good_with ?_ ?_ | exact (rfl : (_ : Fuses) = _))
theorem State.traceAll_good {Q : Claim} (s : State) (kind : Nat) (sel : Nat) (typ : Nat) (value : Nat) (T : Nat) (h : s.Good Q) :
    (State.traceAll s kind sel typ value T).Good Q := by
  unfold State.traceAll; try dsimp only
  repeat' (first
    | with_reducible assumption | with_reducible refine State.traceSet_good _ _ _ _ _ ?_
    | with_reducible refine good_foldl _ _ (fun _ _ _ => ?_) _ ?_)
theorem State.startDump_good {Q : Claim} (s : State) (code : Nat) (h : s.Good Q) :
    (State.startDump s code).Good Q := by
  unfold State.startDump; try dsimp only
  repeat' (first
    | with_reducible assumption | with_reducible refine State.raise_good _ _ _ ?_ | split
    | with_reducible refine good_with ?_ ?_ | exact (rfl : (_ : Fuses) = _))
theorem State.spillDump_good {Q : Claim} (s : State) (p : List Byte) (h : s.Good Q) :
    (State.spillDump s p).Good Q := by
  unfold State.spillDump; try dsimp only
  repeat' (first
    | with_reducible assumption | with_reducible refine State.raise_good _ _ _ ?_ | split
    | with_reducible refine good_with ?_ ?_ | exact (rfl : (_ : Fuses) = _))
theorem State.dumpTrigger_good {Q : Claim} (s : State) (b : Nat) (code : Nat) (h : s.Good Q) :
    (State.dumpTrigger s b code).Good Q := by
  unfold State.dumpTrigger; try dsimp only
  repeat' (first
    | with_reducible assumption | with_reducible refine State.startDump_good _ _ ?_ | split)
theorem State.sigFail_good {Q : Claim} (s : State) (h : s.Good Q) :
    (State.sigFail s).Good Q := by
  unfold State.sigFail; try dsimp only
  repeat' (first
    | with_reducible assumption | with_reducible refine good_with ?_ ?_ | exact (rfl : (_ : Fuses) = _))
theorem State.noteEdge_good {Q : Claim} (s : State) (l : Nat) (h : s.Good Q) :
    (State.noteEdge s l).Good Q := by
  unfold State.noteEdge; try dsimp only
  repeat' (first
    | with_reducible assumption | with_reducible refine good_with ?_ ?_ | exact (rfl : (_ : Fuses) = _))
theorem State.lowerLeg_good {Q : Claim} (s : State) (l : Nat) (h : s.Good Q) :
    (State.lowerLeg s l).Good Q := by
  unfold State.lowerLeg; try dsimp only
  repeat' (first
    | with_reducible assumption | with_reducible refine State.noteEdge_good _ _ ?_
    | with_reducible refine State.updGg_good _ _ _ ?_ ?_
    | exact lowers_low (fun _ => Guard.drop_gh _ _) (fun _ => Guard.drop_gl _ _)
    | exact lowers_of (fun _ => rfl) (fun _ => rfl) (fun g h => by simp only [Bool.or_eq_false_iff] at h ⊢; simp [h])
    | dsimp only | split)
theorem State.xcmd_good {Q : Claim} (s : State) (l : Nat) (h : s.Good Q) :
    (State.xcmd s l).Good Q := by
  unfold State.xcmd; try dsimp only
  repeat' (first
    | with_reducible assumption | with_reducible refine State.raise_good _ _ _ ?_
    | with_reducible refine State.updGg_good _ _ _ ?_ ?_
    | exact lowers_low (fun _ => Guard.drop_gh _ _) (fun _ => Guard.drop_gl _ _)
    | exact lowers_of (fun _ => rfl) (fun _ => rfl) (fun g h => by simp only [Bool.or_eq_false_iff] at h ⊢; simp [h])
    | dsimp only | split)
theorem State.xholdEnd_good {Q : Claim} (s : State) (l : Nat) (h : s.Good Q) :
    (State.xholdEnd s l).Good Q := by
  unfold State.xholdEnd; try dsimp only
  repeat' (first
    | with_reducible assumption | with_reducible refine State.updGg_good _ _ _ ?_ ?_
    | exact lowers_id (fun _ => rfl) (fun _ => rfl) (fun _ => rfl) (fun _ => rfl) (fun _ => rfl)
    | exact lowers_low (fun _ => Guard.drop_gh _ _) (fun _ => Guard.drop_gl _ _) | exact follow_lowers _ _ _ | exact lowers_of (fun _ => rfl) (fun _ => rfl) (fun g h => by simp only [Bool.or_eq_false_iff] at h ⊢; simp [h]) | dsimp only
    | split)
theorem State.followCmd_good {Q : Claim} (s : State) (l : Nat) (h : s.Good Q) :
    (State.followCmd s l).Good Q := by
  unfold State.followCmd; try dsimp only
  repeat' (first
    | with_reducible assumption | with_reducible refine State.xholdEnd_good _ _ ?_
    | with_reducible refine State.xcmd_good _ _ ?_ | with_reducible refine State.updGg_good _ _ _ ?_ ?_
    | exact follow_lowers _ _ _ | split)
theorem State.startSupply_good {Q : Claim} (s : State) (l : Nat) (h : s.Good Q) :
    (State.startSupply s l).Good Q := by
  unfold State.startSupply; try dsimp only
  repeat' (first
    | with_reducible assumption | with_reducible refine State.updGg_good _ _ _ ?_ ?_
    | exact lowers_id (fun _ => rfl) (fun _ => rfl) (fun _ => rfl) (fun _ => rfl) (fun _ => rfl)
    | exact lowers_low (fun _ => Guard.drop_gh _ _) (fun _ => Guard.drop_gl _ _) | exact follow_lowers _ _ _ | exact lowers_of (fun _ => rfl) (fun _ => rfl) (fun g h => by simp only [Bool.or_eq_false_iff] at h ⊢; simp [h]) | dsimp only
    | split)
theorem State.resetDt_good {Q : Claim} (s : State) (l : Nat) (h : s.Good Q) :
    (State.resetDt s l).Good Q := by
  unfold State.resetDt; try dsimp only
  repeat' (first
    | with_reducible assumption | with_reducible refine State.updGg_good _ _ _ ?_ ?_
    | exact lowers_id (fun _ => rfl) (fun _ => rfl) (fun _ => rfl) (fun _ => rfl) (fun _ => rfl)
    | exact lowers_low (fun _ => Guard.drop_gh _ _) (fun _ => Guard.drop_gl _ _) | exact follow_lowers _ _ _ | exact lowers_of (fun _ => rfl) (fun _ => rfl) (fun g h => by simp only [Bool.or_eq_false_iff] at h ⊢; simp [h]) | dsimp only
    | split)
theorem State.unlatch_good {Q : Claim} (s : State) (l : Nat) (h : s.Good Q) :
    (State.unlatch s l).Good Q := by
  unfold State.unlatch; try dsimp only
  repeat' (first
    | with_reducible assumption | with_reducible refine State.resetDt_good _ _ ?_
    | with_reducible refine State.updGg_good _ _ _ ?_ ?_
    | exact lowers_of (fun _ => rfl) (fun _ => rfl) (fun g h => by simp only [Bool.or_eq_false_iff] at h ⊢; simp [h])
    | dsimp only | split)
theorem State.fkFresh_good {Q : Claim} (s : State) (l : Nat) (h : s.Good Q) :
    (State.fkFresh s l).Good Q := by
  unfold State.fkFresh; try dsimp only
  repeat' (first
    | with_reducible assumption | with_reducible refine State.updGg_good _ _ _ ?_ ?_
    | exact lowers_id (fun _ => rfl) (fun _ => rfl) (fun _ => rfl) (fun _ => rfl) (fun _ => rfl)
    | exact lowers_low (fun _ => Guard.drop_gh _ _) (fun _ => Guard.drop_gl _ _) | exact follow_lowers _ _ _ | exact lowers_of (fun _ => rfl) (fun _ => rfl) (fun g h => by simp only [Bool.or_eq_false_iff] at h ⊢; simp [h]) | dsimp only
    | split)
theorem State.settleLeg_good {Q : Claim} (s : State) (l : Nat) (h : s.Good Q) :
    (State.settleLeg s l).Good Q := by
  unfold State.settleLeg; try dsimp only
  repeat' (first
    | with_reducible assumption | with_reducible refine State.noteEdge_good _ _ ?_
    | with_reducible refine State.followCmd_good _ _ ?_ | with_reducible refine State.updLeg_good _ _ _ ?_ | split)
theorem State.settleBarred_good {Q : Claim} (s : State) (l : Nat) (h : s.Good Q) :
    (State.settleBarred s l).Good Q := by
  unfold State.settleBarred; try dsimp only
  repeat' (first
    | with_reducible assumption | with_reducible refine State.settleLeg_good _ _ ?_
    | with_reducible refine State.updGg_good _ _ _ ?_ ?_
    | exact lowers_of (fun _ => rfl) (fun _ => rfl) (fun g h => by simp only [Bool.or_eq_false_iff] at h ⊢; simp [h])
    | dsimp only | split)
theorem State.compareLeg_good {Q : Claim} (s : State) (l : Nat) (h : s.Good Q) :
    (State.compareLeg s l).Good Q := by
  unfold State.compareLeg; try dsimp only
  repeat' (first
    | with_reducible assumption | with_reducible refine State.updLeg_good _ _ _ ?_ | split)
theorem State.noteLate_good {Q : Claim} (s : State) (k : Nat) (h : s.Good Q) :
    (State.noteLate s k).Good Q := by
  unfold State.noteLate; try dsimp only
  repeat' (first
    | with_reducible assumption | with_reducible refine State.updCar_good _ _ _ ?_ | split)
theorem State.keepOld_good {Q : Claim} (s : State) (k : Nat) (r : Reg) (flag : Bool) (h : s.Good Q) :
    (State.keepOld s k r flag).Good Q := by
  unfold State.keepOld; try dsimp only
  repeat' (first
    | with_reducible assumption | with_reducible refine State.updCar_good _ _ _ ?_ | split)
theorem State.stagePeriod_good {Q : Claim} (s : State) (k : Nat) (v : Nat) (h : s.Good Q) :
    (State.stagePeriod s k v).Good Q := by
  unfold State.stagePeriod; try dsimp only
  repeat' (first
    | with_reducible assumption | with_reducible refine State.keepOld_good _ _ _ _ ?_
    | with_reducible refine State.noteLate_good _ _ ?_ | with_reducible refine State.wr_good _ _ _ ?_
    | with_reducible refine State.updCar_good _ _ _ ?_ | split)
theorem State.stageDuty_good {Q : Claim} (s : State) (l : Nat) (v : Nat) (h : s.Good Q) :
    (State.stageDuty s l v).Good Q := by
  unfold State.stageDuty; try dsimp only
  repeat' (first
    | with_reducible assumption | with_reducible refine State.keepOld_good _ _ _ _ ?_
    | with_reducible refine State.noteLate_good _ _ ?_ | with_reducible refine State.wr_good _ _ _ ?_
    | with_reducible refine State.updLeg_good _ _ _ ?_ | split)
theorem State.stagePhase_good {Q : Claim} (s : State) (l : Nat) (v : Nat) (h : s.Good Q) :
    (State.stagePhase s l v).Good Q := by
  unfold State.stagePhase; try dsimp only
  repeat' (first
    | with_reducible assumption | with_reducible refine State.keepOld_good _ _ _ _ ?_
    | with_reducible refine State.noteLate_good _ _ ?_ | with_reducible refine State.wr_good _ _ _ ?_
    | with_reducible refine State.updLeg_good _ _ _ ?_ | split)
theorem State.requestCommit_good {Q : Claim} (s : State) (k : Nat) (h : s.Good Q) :
    (State.requestCommit s k).Good Q := by
  unfold State.requestCommit; try dsimp only
  repeat' (first
    | with_reducible assumption | with_reducible refine State.noteLate_good _ _ ?_
    | with_reducible refine State.updCar_good _ _ _ ?_ | split)
theorem State.commit_good {Q : Claim} (s : State) (k : Nat) (n : Nat) (start : Bool) (h : s.Good Q) :
    (State.commit s k n start).Good Q := by
  unfold State.commit; try dsimp only
  repeat' (first
    | with_reducible assumption | with_reducible refine State.updCar_good _ _ _ ?_
    | with_reducible refine State.raise_good _ _ _ ?_
    | with_reducible refine State.each_good _ _ _ (fun _ _ _ => ?_) ?_ | refine good_legs ?_ (by simp))
theorem State.discardStaged_good {Q : Claim} (s : State) (k : Nat) (h : s.Good Q) :
    (State.discardStaged s k).Good Q := by
  unfold State.discardStaged; try dsimp only
  repeat' (first
    | with_reducible assumption | with_reducible refine State.updCar_good _ _ _ ?_
    | with_reducible refine State.wr_good _ _ _ ?_ | with_reducible refine State.updLeg_good _ _ _ ?_
    | with_reducible refine State.each_good _ _ _ (fun _ _ _ => ?_) ?_)
theorem State.endLate_good {Q : Claim} (s : State) (k : Nat) (h : s.Good Q) :
    (State.endLate s k).Good Q := by
  unfold State.endLate; try dsimp only
  repeat' (first
    | with_reducible assumption | with_reducible refine State.discardStaged_good _ _ ?_
    | with_reducible refine State.updCar_good _ _ _ ?_ | split)
theorem State.takeForce_good {Q : Claim} (s : State) (l : Nat) (h : s.Good Q) :
    (State.takeForce s l).Good Q := by
  unfold State.takeForce; try dsimp only
  repeat' (first
    | with_reducible assumption | with_reducible refine State.updLeg_good _ _ _ ?_)
theorem State.lateForce_good {Q : Claim} (s : State) (l : Nat) (h : s.Good Q) :
    (State.lateForce s l).Good Q := by
  unfold State.lateForce; try dsimp only
  repeat' (first
    | with_reducible assumption | with_reducible refine State.updCar_good _ _ _ ?_
    | with_reducible refine State.noteLate_good _ _ ?_ | split)
theorem State.dropForces_good {Q : Claim} (s : State) (l : Nat) (h : s.Good Q) :
    (State.dropForces s l).Good Q := by
  unfold State.dropForces; try dsimp only
  repeat' (first
    | with_reducible assumption | with_reducible refine State.updLeg_good _ _ _ ?_
    | with_reducible refine good_with ?_ ?_ | exact (rfl : (_ : Fuses) = _))
theorem State.inNext_good {Q : Claim} (s : State) (x : Soon) (h : s.Good Q) :
    (State.inNext s x).Good Q := by
  unfold State.inNext; try dsimp only
  repeat' (first
    | with_reducible assumption | with_reducible refine good_with ?_ ?_ | exact (rfl : (_ : Fuses) = _))
theorem State.forceLeg_good {Q : Claim} (s : State) (l : Nat) (f : Force) (nowBit : Bool) (h : s.Good Q) :
    (State.forceLeg s l f nowBit).Good Q := by
  unfold State.forceLeg; try dsimp only
  repeat' (first
    | with_reducible assumption | with_reducible refine State.inNext_good _ _ ?_
    | with_reducible refine State.dropForces_good _ _ ?_ | with_reducible refine State.updLeg_good _ _ _ ?_
    | with_reducible refine State.lateForce_good _ _ ?_ | split)
theorem State.forceNow_good {Q : Claim} (s : State) (l : Nat) (f : Force) (h : s.Good Q) :
    (State.forceNow s l f).Good Q := by
  unfold State.forceNow; try dsimp only
  repeat' (first
    | with_reducible assumption | with_reducible refine State.settleBarred_good _ _ ?_
    | with_reducible refine State.updLeg_good _ _ _ ?_ | with_reducible refine State.dropForces_good _ _ ?_)
theorem State.startCuts_good {Q : Claim} (s : State) (l : Nat) (hi : Bool) (lo : Bool) (h : s.Good Q) :
    (State.startCuts s l hi lo).Good Q := by
  unfold State.startCuts; try dsimp only
  repeat' (first
    | with_reducible assumption | with_reducible refine State.settleLeg_good _ _ ?_
    | with_reducible refine State.updLeg_good _ _ _ ?_ | split)
theorem State.doSoon_good {Q : Claim} (s : State) (x : Soon) (h : s.Good Q) :
    (State.doSoon s x).Good Q := by
  unfold State.doSoon; try dsimp only
  repeat' (first
    | with_reducible assumption | with_reducible refine State.forceNow_good _ _ _ ?_
    | with_reducible refine State.startCuts_good _ _ _ _ ?_ | split)
theorem State.upTo_good {Q : Claim} (s : State) (t : Nat) (h : s.Good Q) :
    (State.upTo s t).Good Q := by
  unfold State.upTo; try dsimp only
  repeat' (first
    | with_reducible assumption | with_reducible refine State.at__good _ _ ?_
    | with_reducible refine State.doSoon_good _ _ ?_ | with_reducible refine good_foldl _ _ (fun _ _ _ => ?_) _ ?_
    | with_reducible refine good_with ?_ ?_ | exact (rfl : (_ : Fuses) = _))
theorem State.enableLeg_good {Q : Claim} (s : State) (l : Nat) (h : s.Good Q) :
    (State.enableLeg s l).Good Q := by
  unfold State.enableLeg; try dsimp only
  repeat' (first
    | with_reducible assumption | with_reducible refine State.startSupply_good _ _ ?_
    | with_reducible refine State.updLeg_good _ _ _ ?_ | with_reducible refine State.settleLeg_good _ _ ?_
    | with_reducible refine State.compareLeg_good _ _ ?_ | split)
theorem State.disableLeg_good {Q : Claim} (s : State) (l : Nat) (h : s.Good Q) :
    (State.disableLeg s l).Good Q := by
  unfold State.disableLeg; try dsimp only
  repeat' (first
    | with_reducible assumption | with_reducible refine State.dropForces_good _ _ ?_
    | with_reducible refine State.wr_good _ _ _ ?_ | with_reducible refine State.settleLeg_good _ _ ?_
    | with_reducible refine State.updLeg_good _ _ _ ?_ | with_reducible refine State.updGg_good _ _ _ ?_ ?_
    | exact lowers_id (fun _ => rfl) (fun _ => rfl) (fun _ => rfl) (fun _ => rfl) (fun _ => rfl)
    | exact lowers_low (fun _ => Guard.drop_gh _ _) (fun _ => Guard.drop_gl _ _) | exact follow_lowers _ _ _ | exact lowers_of (fun _ => rfl) (fun _ => rfl) (fun g h => by simp only [Bool.or_eq_false_iff] at h ⊢; simp [h]) | dsimp only
    | split)
theorem State.latchLeg_good {Q : Claim} (s : State) (l : Nat) (h : s.Good Q) :
    (State.latchLeg s l).Good Q := by
  unfold State.latchLeg; try dsimp only
  repeat' (first
    | with_reducible assumption | with_reducible refine State.lowerLeg_good _ _ ?_
    | with_reducible refine State.disableLeg_good _ _ ?_ | with_reducible refine State.updGg_good _ _ _ ?_ ?_
    | exact lowers_low (fun _ => Guard.drop_gh _ _) (fun _ => Guard.drop_gl _ _))

end Sys2Proof.Machine
end

