-- ==== Sys2Proof/Laws/GoodSlots.lean ====
section
/-! SUPPORT. What slots, measurement, feedback and thermal operations keep, one lemma each (see Laws/Good.lean). -/

namespace Sys2Proof.Machine

theorem State.sendString_good {Q : Claim} (s : State) (i : Nat) (kind : Nat) (slot : Nat) (flag : Nat) (T : Nat) (h : s.Good Q) :
    (State.sendString s i kind slot flag T).Good Q := by
  unfold State.sendString; try dsimp only
  repeat' (first
    | with_reducible assumption | with_reducible refine State.send_good _ _ _ _ _ _ ?_)
theorem State.updLv_good {Q : Claim} (s : State) (e : Nat) (f : LvEntry → LvEntry) (h : s.Good Q) :
    (State.updLv s e f).Good Q := by
  unfold State.updLv; try dsimp only
  repeat' (first
    | with_reducible assumption | with_reducible refine good_with ?_ ?_ | exact (rfl : (_ : Fuses) = _))
theorem State.drvLeft_good {Q : Claim} (s : State) (c : Nat) (u : Nat) (fault : Bool) (h : s.Good Q) :
    (State.drvLeft s c u fault).Good Q := by
  unfold State.drvLeft; try dsimp only
  repeat' (first
    | with_reducible assumption | with_reducible refine State.updLv_good _ _ _ ?_ | split)
theorem State.drvUndo_good {Q : Claim} (s : State) (c : Nat) (u : Nat) (h : s.Good Q) :
    (State.drvUndo s c u).Good Q := by
  unfold State.drvUndo; try dsimp only
  repeat' (first
    | with_reducible assumption | with_reducible refine State.updLv_good _ _ _ ?_
    | with_reducible refine State.updLeg_good _ _ _ ?_ | with_reducible refine State.dropForces_good _ _ ?_
    | with_reducible refine State.wr_good _ _ _ ?_
    | with_reducible refine State.each_good _ _ _ (fun _ _ _ => ?_) ?_ | split)
theorem State.discardCmd_good {Q : Claim} (s : State) (c : Nat) (us : List Nat) (h : s.Good Q) :
    (State.discardCmd s c us).Good Q := by
  unfold State.discardCmd; try dsimp only
  repeat' (first
    | with_reducible assumption | with_reducible refine State.updSlot_good _ _ _ ?_
    | with_reducible refine State.drvUndo_good _ _ _ ?_
    | with_reducible refine State.each_good _ _ _ (fun _ _ _ => ?_) ?_ | split)
theorem State.discardAll_good {Q : Claim} (s : State) (c : Nat) (h : s.Good Q) :
    (State.discardAll s c).Good Q := by
  unfold State.discardAll; try dsimp only
  repeat' (first
    | with_reducible assumption | with_reducible refine State.discardCmd_good _ _ _ ?_)
theorem State.discardStart_good {Q : Claim} (s : State) (c : Nat) (u : Nat) (h : s.Good Q) :
    (State.discardStart s c u).Good Q := by
  unfold State.discardStart; try dsimp only
  repeat' (first
    | with_reducible assumption | with_reducible refine State.discardCmd_good _ _ _ ?_ | split)
theorem State.enterBypass_good {Q : Claim} (s : State) (c : Nat) (i : Nat) (h : s.Good Q) :
    (State.enterBypass s c i).Good Q := by
  unfold State.enterBypass; try dsimp only
  repeat' (first
    | with_reducible assumption | with_reducible refine State.updStr_good _ _ _ ?_
    | with_reducible refine State.updUnit_good _ _ _ _ ?_)
theorem State.autoBypass_good {Q : Claim} (s : State) (c : Nat) (h : s.Good Q) :
    (State.autoBypass s c).Good Q := by
  unfold State.autoBypass; try dsimp only
  repeat' (first
    | with_reducible assumption | with_reducible refine State.enterBypass_good _ _ _ ?_ | split)
theorem State.endSeq_good {Q : Claim} (s : State) (c : Nat) (u : Nat) (q : Seq) (h : s.Good Q) :
    (State.endSeq s c u q).Good Q := by
  unfold State.endSeq; try dsimp only
  repeat' (first
    | with_reducible assumption | with_reducible refine State.drvLeft_good _ _ _ _ ?_
    | with_reducible refine State.updUnit_good _ _ _ _ ?_ | with_reducible refine State.updSlot_good _ _ _ ?_
    | with_reducible refine State.autoBypass_good _ _ ?_ | split)
theorem State.seqStep_good {Q : Claim} (s : State) (c : Nat) (u : Nat) (h : s.Good Q) :
    (State.seqStep s c u).Good Q := by
  unfold State.seqStep; try dsimp only
  repeat' (first
    | with_reducible assumption | with_reducible refine State.endSeq_good _ _ _ _ ?_
    | with_reducible refine State.latchLeg_good _ _ ?_ | with_reducible refine State.disableLeg_good _ _ ?_
    | with_reducible refine State.lowerLeg_good _ _ ?_ | with_reducible refine State.updUnit_good _ _ _ _ ?_
    | with_reducible refine State.each_good _ _ _ (fun _ _ _ => ?_) ?_ | split)
theorem State.seqStepDue_good {Q : Claim} (s : State) (c : Nat) (u : Nat) (h : s.Good Q) :
    (State.seqStepDue s c u).Good Q := by
  unfold State.seqStepDue; try dsimp only
  repeat' (first
    | with_reducible assumption | with_reducible refine State.seqStep_good _ _ _ ?_
    | with_reducible refine State.upTo_good _ _ ?_ | split)
theorem State.seqStart_good {Q : Claim} (s : State) (c : Nat) (u : Nat) (h : s.Good Q) :
    (State.seqStart s c u).Good Q := by
  unfold State.seqStart; try dsimp only
  repeat' (first
    | with_reducible assumption | with_reducible refine State.seqStep_good _ _ _ ?_ | split)
theorem State.stopUnitNow_good {Q : Claim} (s : State) (c : Nat) (u : Nat) (h : s.Good Q) :
    (State.stopUnitNow s c u).Good Q := by
  unfold State.stopUnitNow; try dsimp only
  repeat' (first
    | with_reducible assumption | with_reducible refine State.updUnit_good _ _ _ _ ?_
    | with_reducible refine State.seqStart_good _ _ _ ?_ | split)
theorem State.stopUnitFrom_good {Q : Claim} (s : State) (c : Nat) (u : Nat) (clk : Nat) (h : s.Good Q) :
    (State.stopUnitFrom s c u clk).Good Q := by
  unfold State.stopUnitFrom; try dsimp only
  repeat' (first
    | with_reducible assumption | with_reducible refine State.stopUnitNow_good _ _ _ ?_
    | with_reducible refine State.updUnit_good _ _ _ _ ?_ | split)
theorem State.stopUnit_good {Q : Claim} (s : State) (c : Nat) (u : Nat) (h : s.Good Q) :
    (State.stopUnit s c u).Good Q := by
  unfold State.stopUnit; try dsimp only
  repeat' (first
    | with_reducible assumption | with_reducible refine State.stopUnitFrom_good _ _ _ _ ?_)
theorem State.stageGlide_good {Q : Claim} (s : State) (i : Nat) (g : Glide) (h : s.Good Q) :
    (State.stageGlide s i g).1.Good Q := by
  unfold State.stageGlide; try dsimp only
  repeat' (first
    | with_reducible assumption | with_reducible refine State.updCar_good _ _ _ ?_
    | with_reducible refine State.wr_good _ _ _ ?_ | split | with_reducible refine good_with ?_ ?_
    | exact (rfl : (_ : Fuses) = _))
theorem State.glideTo_good {Q : Claim} (s : State) (i : Nat) (c : Nat) (target : Nat) (h : s.Good Q) :
    (State.glideTo s i c target).Good Q := by
  unfold State.glideTo; try dsimp only
  repeat' (first
    | with_reducible assumption | with_reducible refine State.updStr_good _ _ _ ?_
    | with_reducible refine State.stageGlide_good _ _ _ ?_ | split)
theorem State.glideStep_good {Q : Claim} (s : State) (i : Nat) (c : Nat) (h : s.Good Q) :
    (State.glideStep s i c).Good Q := by
  unfold State.glideStep; try dsimp only
  repeat' (first
    | with_reducible assumption | with_reducible refine State.updStr_good _ _ _ ?_
    | with_reducible refine State.stageGlide_good _ _ _ ?_ | split)
theorem State.chbForce_good {Q : Claim} (s : State) (c : Nat) (v : Nat) (h : s.Good Q) :
    (State.chbForce s c v).Good Q := by
  unfold State.chbForce; try dsimp only
  repeat' (first
    | with_reducible assumption | with_reducible refine State.forceLeg_good _ _ _ _ ?_
    | with_reducible refine State.wr_good _ _ _ ?_
    | with_reducible refine State.each_good _ _ _ (fun _ _ _ => ?_) ?_ | split)
theorem State.stopMembers_good {Q : Claim} (s : State) (i : Nat) (st : StrState) (h : s.Good Q) :
    (State.stopMembers s i st).Good Q := by
  unfold State.stopMembers; try dsimp only
  repeat' (first
    | with_reducible assumption | with_reducible refine State.discardAll_good _ _ ?_
    | with_reducible refine State.updUnit_good _ _ _ _ ?_ | with_reducible refine State.stopUnitNow_good _ _ _ ?_
    | with_reducible refine State.updStr_good _ _ _ ?_
    | with_reducible refine State.each_good _ _ _ (fun _ _ _ => ?_) ?_ | split)
theorem State.stopString_good {Q : Claim} (s : State) (i : Nat) (h : s.Good Q) :
    (State.stopString s i).Good Q := by
  unfold State.stopString; try dsimp only
  repeat' (first
    | with_reducible assumption | with_reducible refine State.sendString_good _ _ _ _ _ _ ?_
    | with_reducible refine State.stopMembers_good _ _ _ ?_)
theorem State.tripString_good {Q : Claim} (s : State) (i : Nat) (tell : Bool) (h : s.Good Q) :
    (State.tripString s i tell).Good Q := by
  unfold State.tripString; try dsimp only
  repeat' (first
    | with_reducible assumption | with_reducible refine State.stopUnitNow_good _ _ _ ?_
    | with_reducible refine State.discardAll_good _ _ ?_ | with_reducible refine State.updStr_good _ _ _ ?_
    | with_reducible refine State.sendString_good _ _ _ _ _ _ ?_
    | with_reducible refine State.dumpTrigger_good _ _ _ ?_ | with_reducible refine State.raise_good _ _ _ ?_
    | with_reducible refine State.each_good _ _ _ (fun _ _ _ => ?_) ?_ | split
    | with_reducible refine good_with ?_ ?_ | exact (rfl : (_ : Fuses) = _))
theorem State.tellN_good {Q : Claim} (s : State) (i : Nat) (h : s.Good Q) :
    (State.tellN s i).Good Q := by
  unfold State.tellN; try dsimp only
  repeat' (first
    | with_reducible assumption | with_reducible refine State.hostIn_good _ _ _ _ ?_ | split)
theorem State.issueInsert_good {Q : Claim} (s : State) (c : Nat) (h : s.Good Q) :
    (State.issueInsert s c).Good Q := by
  unfold State.issueInsert; try dsimp only
  repeat' (first
    | with_reducible assumption | with_reducible refine State.updSlot_good _ _ _ ?_
    | with_reducible refine State.discardAll_good _ _ ?_)
theorem State.applyLoss_good {Q : Claim} (s : State) (i : Nat) (x : Loss) (h : s.Good Q) :
    (State.applyLoss s i x).Good Q := by
  unfold State.applyLoss; try dsimp only
  repeat' (first
    | with_reducible assumption | with_reducible refine State.updStr_good _ _ _ ?_
    | with_reducible refine State.raise_good _ _ _ ?_ | with_reducible refine State.issueInsert_good _ _ ?_
    | with_reducible refine State.glideTo_good _ _ _ _ ?_ | with_reducible refine State.tellN_good _ _ ?_
    | with_reducible refine State.stopString_good _ _ ?_
    | with_reducible refine State.each_good _ _ _ (fun _ _ _ => ?_) ?_ | split)
theorem State.addRecord_good {Q : Claim} (s : State) (r : SoRecord) (pos : Nat) (h : s.Good Q) :
    (State.addRecord s r pos).Good Q := by
  unfold State.addRecord; try dsimp only
  repeat' (first
    | with_reducible assumption | with_reducible refine State.applyLoss_good _ _ _ ?_
    | with_reducible refine State.tripString_good _ _ _ ?_ | split | with_reducible refine good_with ?_ ?_
    | exact (rfl : (_ : Fuses) = _))
theorem State.safeOff_good {Q : Claim} (s : State) (c : Nat) (u : Nat) (trig : List Nat) (code : Nat) (die : Bool) (h : s.Good Q) :
    (State.safeOff s c u trig code die).Good Q := by
  unfold State.safeOff; try dsimp only
  repeat' (first
    | with_reducible assumption | with_reducible refine State.latchLeg_good _ _ ?_
    | with_reducible refine State.updSlot_good _ _ _ ?_ | with_reducible refine State.discardCmd_good _ _ _ ?_
    | with_reducible refine State.updUnit_good _ _ _ _ ?_ | with_reducible refine State.drvLeft_good _ _ _ _ ?_
    | with_reducible refine State.seqStart_good _ _ _ ?_ | with_reducible refine State.dumpTrigger_good _ _ _ ?_
    | with_reducible refine State.sendString_good _ _ _ _ _ _ ?_
    | with_reducible refine State.autoBypass_good _ _ ?_ | with_reducible refine State.addRecord_good _ _ _ ?_
    | with_reducible refine State.each_good _ _ _ (fun _ _ _ => ?_) ?_ | split)
theorem State.safeOffUnit_good {Q : Claim} (s : State) (c : Nat) (u : Nat) (code : Nat) (die : Bool) (h : s.Good Q) :
    (State.safeOffUnit s c u code die).Good Q := by
  unfold State.safeOffUnit; try dsimp only
  repeat' (first
    | with_reducible assumption | with_reducible refine State.safeOff_good _ _ _ _ _ _ ?_ | split)
theorem State.allStop_good {Q : Claim} (s : State) (h : s.Good Q) :
    (State.allStop s).Good Q := by
  unfold State.allStop; try dsimp only
  repeat' (first
    | with_reducible assumption | with_reducible refine State.discardAll_good _ _ ?_
    | with_reducible refine State.stopString_good _ _ ?_ | with_reducible refine State.stopUnit_good _ _ _ ?_
    | with_reducible refine State.each_good _ _ _ (fun _ _ _ => ?_) ?_ | split)
theorem State.keepThr_good {Q : Claim} (s : State) (m : Nat) (r : Reg) (signed : Bool) (h : s.Good Q) :
    (State.keepThr s m r signed).Good Q := by
  unfold State.keepThr; try dsimp only
  repeat' (first
    | with_reducible assumption | with_reducible refine State.updMd_good _ _ _ ?_)
theorem State.compareMd_good {Q : Claim} (s : State) (m : Nat) (v : Int) (h : s.Good Q) :
    (State.compareMd s m v).Good Q := by
  unfold State.compareMd; try dsimp only
  repeat' (first
    | with_reducible assumption | with_reducible refine State.updMd_good _ _ _ ?_ | split)
theorem State.mdRestart_good {Q : Claim} (s : State) (m : Nat) (h : s.Good Q) :
    (State.mdRestart s m).Good Q := by
  unfold State.mdRestart; try dsimp only
  repeat' (first
    | with_reducible assumption | with_reducible refine State.updMd_good _ _ _ ?_)
theorem State.endTrip_good {Q : Claim} (s : State) (m : Nat) (h : s.Good Q) :
    (State.endTrip s m).Good Q := by
  unfold State.endTrip; try dsimp only
  repeat' (first
    | with_reducible assumption | with_reducible refine State.updMd_good _ _ _ ?_
    | with_reducible refine State.updLv_good _ _ _ ?_
    | with_reducible refine State.each_good _ _ _ (fun _ _ _ => ?_) ?_)
theorem State.mdDisable_good {Q : Claim} (s : State) (m : Nat) (h : s.Good Q) :
    (State.mdDisable s m).Good Q := by
  unfold State.mdDisable; try dsimp only
  repeat' (first
    | with_reducible assumption | with_reducible refine State.endTrip_good _ _ ?_
    | with_reducible refine State.updMd_good _ _ _ ?_ | with_reducible refine good_with ?_ ?_
    | exact (rfl : (_ : Fuses) = _))
theorem State.mdPublish_good {Q : Claim} (s : State) (m : Nat) (stream : List Bool) (h : s.Good Q) :
    (State.mdPublish s m stream).Good Q := by
  unfold State.mdPublish; try dsimp only
  repeat' (first
    | with_reducible assumption | with_reducible refine State.updMd_good _ _ _ ?_)
theorem State.launch_good {Q : Claim} (s : State) (due : Nat) (e : QEntry) (h : s.Good Q) :
    (State.launch s due e).Good Q := by
  unfold State.launch; try dsimp only
  repeat' (first
    | with_reducible assumption | with_reducible refine good_with ?_ ?_ | exact (rfl : (_ : Fuses) = _))
theorem State.noteConverted_good {Q : Claim} (s : State) (te : Nat) (v : Nat) (h : s.Good Q) :
    (State.noteConverted s te v).Good Q := by
  unfold State.noteConverted; try dsimp only
  repeat' (first
    | with_reducible assumption | with_reducible refine State.updTrg_good _ _ _ ?_)
theorem State.launchInvalid_good {Q : Claim} (s : State) (te : Nat) (f : Firing) (due : Nat) (tag : Nat) (h : s.Good Q) :
    (State.launchInvalid s te f due tag).Good Q := by
  unfold State.launchInvalid; try dsimp only [State.draw]
  repeat' (first
    | with_reducible assumption | with_reducible refine State.updTrg_good _ _ _ ?_
    | with_reducible refine State.launch_good _ _ _ ?_ | with_reducible refine good_with ?_ ?_
    | exact (rfl : (_ : Fuses) = _))
theorem State.skip_good {Q : Claim} (s : State) (te : Nat) (f : Firing) (due : Nat) (h : s.Good Q) :
    (State.skip s te f due).Good Q := by
  unfold State.skip; try dsimp only [State.draw]
  repeat' (first
    | with_reducible assumption | with_reducible refine State.updTrg_good _ _ _ ?_
    | with_reducible refine State.raise_good _ _ _ ?_ | with_reducible refine State.launch_good _ _ _ ?_
    | with_reducible refine State.launchInvalid_good _ _ _ _ _ ?_ | split | with_reducible refine good_with ?_ ?_
    | exact (rfl : (_ : Fuses) = _))
theorem State.fireTrg_good {Q : Claim} (s : State) (te : Nat) (t : Nat) (h : s.Good Q) :
    (State.fireTrg s te t).Good Q := by
  unfold State.fireTrg; try dsimp only
  repeat' (first
    | with_reducible assumption | with_reducible refine State.updTrg_good _ _ _ ?_
    | with_reducible refine State.raise_good _ _ _ ?_ | split)
theorem State.carrierTriggers_good {Q : Claim} (s : State) (k : Nat) (peak : Bool) (h : s.Good Q) :
    (State.carrierTriggers s k peak).Good Q := by
  unfold State.carrierTriggers; try dsimp only
  repeat' (first
    | with_reducible assumption | with_reducible refine State.fireTrg_good _ _ _ ?_
    | with_reducible refine State.each_good _ _ _ (fun _ _ _ => ?_) ?_ | split)
theorem State.bellTriggers_good {Q : Claim} (s : State) (b : Nat) (t : Nat) (h : s.Good Q) :
    (State.bellTriggers s b t).Good Q := by
  unfold State.bellTriggers; try dsimp only
  repeat' (first
    | with_reducible assumption | with_reducible refine State.fireTrg_good _ _ _ ?_
    | with_reducible refine State.each_good _ _ _ (fun _ _ _ => ?_) ?_ | split)
theorem State.watchFor_good {Q : Claim} (s : State) (te : Nat) (f : Firing) (h : s.Good Q) :
    (State.watchFor s te f).Good Q := by
  unfold State.watchFor; try dsimp only
  repeat' (first
    | with_reducible assumption | split | with_reducible refine good_with ?_ ?_ | exact (rfl : (_ : Fuses) = _))
theorem State.thSee_good {Q : Claim} (s : State) (e : QEntry) (h : s.Good Q) :
    (State.thSee s e).Good Q := by
  unfold State.thSee; try dsimp only
  repeat' (first
    | with_reducible assumption | split | with_reducible refine good_with ?_ ?_ | exact (rfl : (_ : Fuses) = _))
theorem State.enqueue_good {Q : Claim} (s : State) (e : QEntry) (h : s.Good Q) :
    (State.enqueue s e).Good Q := by
  unfold State.enqueue; try dsimp only
  repeat' (first
    | with_reducible assumption | with_reducible refine State.traceAll_good _ _ _ _ _ _ ?_
    | with_reducible refine State.thSee_good _ _ ?_ | with_reducible refine State.raise_good _ _ _ ?_ | split
    | with_reducible refine good_with ?_ ?_ | exact (rfl : (_ : Fuses) = _))
theorem State.mdViolation_good {Q : Claim} (s : State) (m : Nat) (t : Nat) (h : s.Good Q) :
    (State.mdViolation s m t).Good Q := by
  unfold State.mdViolation; try dsimp only
  repeat' (first
    | with_reducible assumption | with_reducible refine State.at__good _ _ ?_
    | with_reducible refine State.updMd_good _ _ _ ?_ | with_reducible refine State.raise_good _ _ _ ?_ | split)
theorem State.mdRecover_good {Q : Claim} (s : State) (m : Nat) (h : s.Good Q) :
    (State.mdRecover s m).Good Q := by
  unfold State.mdRecover; try dsimp only
  repeat' (first
    | with_reducible assumption | with_reducible refine State.updMd_good _ _ _ ?_
    | with_reducible refine State.at__good _ _ ?_ | split)
theorem State.mdRun_good {Q : Claim} (s : State) (m : Nat) (t : Nat) (run : Nat) (h : s.Good Q) :
    (State.mdRun s m t run).Good Q := by
  unfold State.mdRun; try dsimp only
  repeat' (first
    | with_reducible assumption | with_reducible refine State.at__good _ _ ?_
    | with_reducible refine State.raise_good _ _ _ ?_ | with_reducible refine State.updMd_good _ _ _ ?_ | split)
theorem State.mdFilled_good {Q : Claim} (s : State) (m : Nat) (t : Nat) (ctrl : Bool) (h : s.Good Q) :
    (State.mdFilled s m t ctrl).Good Q := by
  unfold State.mdFilled; try dsimp only
  repeat' (first
    | with_reducible assumption | with_reducible refine State.at__good _ _ ?_
    | with_reducible refine State.updMd_good _ _ _ ?_ | split)
theorem State.measStop_good {Q : Claim} (s : State) (h : s.Good Q) :
    (State.measStop s).Good Q := by
  unfold State.measStop; try dsimp only
  repeat' (first
    | with_reducible assumption | refine good_mdats ?_ (by simp))
theorem State.mdOutput_good {Q : Claim} (s : State) (stream : List Bool) (h : s.Good Q) :
    (State.mdOutput s stream).Good Q := by
  unfold State.mdOutput; try dsimp only
  repeat' (first
    | with_reducible assumption | with_reducible refine State.at__good _ _ ?_
    | with_reducible refine State.mdPublish_good _ _ _ ?_
    | with_reducible refine State.launchInvalid_good _ _ _ _ _ ?_
    | with_reducible refine State.updMd_good _ _ _ ?_ | with_reducible refine State.noteConverted_good _ _ _ ?_
    | with_reducible refine State.launch_good _ _ _ ?_ | split | with_reducible refine good_with ?_ ?_
    | exact (rfl : (_ : Fuses) = _))
theorem State.sampleMd_good {Q : Claim} (s : State) (te : Nat) (f : Firing) (h : s.Good Q) :
    (State.sampleMd s te f).Good Q := by
  unfold State.sampleMd; try dsimp only
  repeat' (first
    | with_reducible assumption | with_reducible refine State.launchInvalid_good _ _ _ _ _ ?_ | split
    | with_reducible refine good_with ?_ ?_ | exact (rfl : (_ : Fuses) = _))
theorem State.sampleSar_good {Q : Claim} (s : State) (te : Nat) (f : Firing) (h : s.Good Q) :
    (State.sampleSar s te f).Good Q := by
  unfold State.sampleSar; try dsimp only
  repeat' (first
    | with_reducible assumption | with_reducible refine State.launchInvalid_good _ _ _ _ _ ?_
    | with_reducible refine State.skip_good _ _ _ _ ?_ | with_reducible refine State.updSlice_good _ _ _ ?_
    | with_reducible refine State.watchFor_good _ _ _ ?_ | split | with_reducible refine good_with ?_ ?_
    | exact (rfl : (_ : Fuses) = _))
theorem State.trgSample_good {Q : Claim} (s : State) (h : s.Good Q) :
    (State.trgSample s).Good Q := by
  unfold State.trgSample; try dsimp only
  repeat' (first
    | with_reducible assumption | with_reducible refine State.updTrg_good _ _ _ ?_
    | with_reducible refine State.at__good _ _ ?_ | with_reducible refine State.sampleMd_good _ _ _ ?_
    | with_reducible refine State.sampleSar_good _ _ _ ?_ | split)
theorem State.sarDone_good {Q : Claim} (s : State) (codes : List Int) (h : s.Good Q) :
    (State.sarDone s codes).Good Q := by
  unfold State.sarDone; try dsimp only [State.draw]
  repeat' (first
    | with_reducible assumption | with_reducible refine State.at__good _ _ ?_
    | with_reducible refine State.noteConverted_good _ _ _ ?_ | with_reducible refine State.launch_good _ _ _ ?_
    | split | with_reducible refine good_with ?_ ?_ | exact (rfl : (_ : Fuses) = _))
theorem State.streamUpdate_good {Q : Claim} (s : State) (i : Nat) (e : Int) (o : Int) (e2 : Int) (h : s.Good Q) :
    (State.streamUpdate s i e o e2).Good Q := by
  unfold State.streamUpdate; try dsimp only
  repeat' (first
    | with_reducible assumption | with_reducible refine State.updSlice_good _ _ _ ?_
    | with_reducible refine State.raise_good _ _ _ ?_ | split)
theorem State.streamConverged_good {Q : Claim} (s : State) (i : Nat) (skew : Bool) (h : s.Good Q) :
    (State.streamConverged s i skew).Good Q := by
  unfold State.streamConverged; try dsimp only
  repeat' (first
    | with_reducible assumption | with_reducible refine State.updSlice_good _ _ _ ?_
    | with_reducible refine State.at__good _ _ ?_ | split)
theorem State.queueEntry_good {Q : Claim} (s : State) (h : s.Good Q) :
    (State.queueEntry s).Good Q := by
  unfold State.queueEntry; try dsimp only
  repeat' (first
    | with_reducible assumption | with_reducible refine State.at__good _ _ ?_
    | with_reducible refine State.enqueue_good _ _ ?_ | split | with_reducible refine good_with ?_ ?_
    | exact (rfl : (_ : Fuses) = _))
theorem State.popHost_good {Q : Claim} (s : State) (h : s.Good Q) :
    (State.popHost s).2.Good Q := by
  unfold State.popHost; try dsimp only
  repeat' (first
    | with_reducible assumption | split | with_reducible refine good_with ?_ ?_ | exact (rfl : (_ : Fuses) = _))
theorem State.ageHost_good {Q : Claim} (s : State) (h : s.Good Q) :
    (State.ageHost s).Good Q := by
  unfold State.ageHost; try dsimp only
  repeat' (first
    | with_reducible assumption | with_reducible refine State.at__good _ _ ?_ | split
    | with_reducible refine good_with ?_ ?_ | exact (rfl : (_ : Fuses) = _))
theorem State.qClr_good {Q : Claim} (s : State) (h : s.Good Q) :
    (State.qClr s).Good Q := by
  unfold State.qClr; try dsimp only
  repeat' (first
    | with_reducible assumption | with_reducible refine good_with ?_ ?_ | exact (rfl : (_ : Fuses) = _))
theorem State.ownMd_good {Q : Claim} (s : State) (m : Nat) (r : Reg) (v : Nat) (h : s.Good Q) :
    goodOwn Q (State.ownMd s m r v) := by
  unfold State.ownMd; try dsimp only
  repeat' (first
    | with_reducible assumption | simp only [goodOwn_error_eq] | simp only [goodOwn_ok_eq]
    | with_reducible refine State.wr_good _ _ _ ?_ | with_reducible refine State.updMd_good _ _ _ ?_
    | with_reducible refine State.mdDisable_good _ _ ?_ | with_reducible refine State.mdRestart_good _ _ ?_
    | split)
theorem State.ownMclk_good {Q : Claim} (s : State) (v : Nat) (h : s.Good Q) :
    goodOwn Q (State.ownMclk s v) := by
  unfold State.ownMclk; try dsimp only
  repeat' (first
    | with_reducible assumption | simp only [goodOwn_error_eq] | simp only [goodOwn_ok_eq]
    | with_reducible refine State.wr_good _ _ _ ?_ | split)
theorem State.ownThr_good {Q : Claim} (s : State) (m : Nat) (r : Reg) (signed : Bool) (v : Nat) (h : s.Good Q) :
    goodOwn Q (State.ownThr s m r signed v) := by
  unfold State.ownThr; try dsimp only
  repeat' (first
    | with_reducible assumption | simp only [goodOwn_ok_eq] | with_reducible refine State.wr_good _ _ _ ?_
    | with_reducible refine State.keepThr_good _ _ _ _ ?_)
theorem State.ownMdClr_good {Q : Claim} (s : State) (m : Nat) (v : Nat) (h : s.Good Q) :
    goodOwn Q (State.ownMdClr s m v) := by
  unfold State.ownMdClr; try dsimp only
  repeat' (first
    | with_reducible assumption | simp only [goodOwn_ok_eq] | with_reducible refine State.updMd_good _ _ _ ?_)
theorem State.ownSarClr_good {Q : Claim} (s : State) (a : Nat) (v : Nat) (h : s.Good Q) :
    goodOwn Q (State.ownSarClr s a v) := by
  unfold State.ownSarClr; try dsimp only
  repeat' (first
    | with_reducible assumption | simp only [goodOwn_ok_eq] | with_reducible refine good_with ?_ ?_)
theorem State.streamStart_good {Q : Claim} (s : State) (i : Nat) (h : s.Good Q) :
    (State.streamStart s i).Good Q := by
  unfold State.streamStart; try dsimp only
  repeat' (first
    | with_reducible assumption | with_reducible refine State.updSlice_good _ _ _ ?_)
theorem State.ownSliceMode_good {Q : Claim} (s : State) (i : Nat) (v : Nat) (h : s.Good Q) :
    goodOwn Q (State.ownSliceMode s i v) := by
  unfold State.ownSliceMode; try dsimp only
  repeat' (first
    | with_reducible assumption | simp only [goodOwn_error_eq] | simp only [goodOwn_ok_eq]
    | with_reducible refine State.wr_good _ _ _ ?_ | with_reducible refine State.streamStart_good _ _ ?_ | split)
theorem State.ownSliceEven_good {Q : Claim} (s : State) (i : Nat) (r : Reg) (v : Nat) (h : s.Good Q) :
    goodOwn Q (State.ownSliceEven s i r v) := by
  unfold State.ownSliceEven; try dsimp only
  repeat' (first
    | with_reducible assumption | simp only [goodOwn_error_eq] | simp only [goodOwn_ok_eq]
    | with_reducible refine State.wr_good _ _ _ ?_ | split)
theorem State.ownSliceClr_good {Q : Claim} (s : State) (i : Nat) (h : s.Good Q) :
    goodOwn Q (State.ownSliceClr s i) := by
  unfold State.ownSliceClr; try dsimp only
  repeat' (first
    | with_reducible assumption | simp only [goodOwn_ok_eq] | with_reducible refine State.updSlice_good _ _ _ ?_)
theorem State.ownTrgSrc_good {Q : Claim} (s : State) (te : Nat) (v : Nat) (h : s.Good Q) :
    goodOwn Q (State.ownTrgSrc s te v) := by
  unfold State.ownTrgSrc; try dsimp only
  repeat' (first
    | with_reducible assumption | simp only [goodOwn_ok_eq] | with_reducible refine State.wr_good _ _ _ ?_)
theorem State.ownTrg_good {Q : Claim} (s : State) (te : Nat) (r : Reg) (v : Nat) (h : s.Good Q) :
    goodOwn Q (State.ownTrg s te r v) := by
  unfold State.ownTrg; try dsimp only
  repeat' (first
    | with_reducible assumption | simp only [goodOwn_error_eq] | simp only [goodOwn_ok_eq]
    | with_reducible refine State.wr_good _ _ _ ?_ | split)
theorem State.updFbSrc_good {Q : Claim} (s : State) (i : Nat) (f : FbSource → FbSource) (h : s.Good Q) :
    (State.updFbSrc s i f).Good Q := by
  unfold State.updFbSrc; try dsimp only
  repeat' (first
    | with_reducible assumption | with_reducible refine good_with ?_ ?_ | exact (rfl : (_ : Fuses) = _))
theorem State.fbStep_good {Q : Claim} (s : State) (i : Nat) (d : Int) (h : s.Good Q) :
    (State.fbStep s i d).Good Q := by
  unfold State.fbStep; try dsimp only
  repeat' (first
    | with_reducible assumption | with_reducible refine State.updFbSrc_good _ _ _ ?_ | split
    | with_reducible refine good_with ?_ ?_ | exact (rfl : (_ : Fuses) = _))
theorem State.fbWrote_good {Q : Claim} (s : State) (i : Nat) (h : s.Good Q) :
    (State.fbWrote s i).Good Q := by
  unfold State.fbWrote; try dsimp only
  repeat' (first
    | with_reducible assumption | split | with_reducible refine good_with ?_ ?_ | exact (rfl : (_ : Fuses) = _))
theorem State.scTake_good {Q : Claim} (s : State) (sv : Int) (cv : Int) (h : s.Good Q) :
    (State.scTake s sv cv).Good Q := by
  unfold State.scTake; try dsimp only
  repeat' (first
    | with_reducible assumption | with_reducible refine good_with ?_ ?_ | exact (rfl : (_ : Fuses) = _))
theorem State.scStep_good {Q : Claim} (s : State) (d : Int) (h : s.Good Q) :
    (State.scStep s d).Good Q := by
  unfold State.scStep; try dsimp only
  repeat' (first
    | with_reducible assumption | with_reducible refine State.fbStep_good _ _ _ ?_ | split
    | with_reducible refine good_with ?_ ?_ | exact (rfl : (_ : Fuses) = _))
theorem State.scSample_good {Q : Claim} (s : State) (t : Nat) (sv : Int) (cv : Int) (h : s.Good Q) :
    (State.scSample s t sv cv).Good Q := by
  unfold State.scSample
  split
  · assumption
  extract_lets s1 q old f2 s2 f3
  have h1 : s1.Good Q := State.scTake_good _ _ _ (State.at__good _ _ h)
  have h2 : s2.Good Q := good_with h1 rfl
  clear_value f3 s2 f2 old q s1
  repeat' (first
    | with_reducible assumption | split | with_reducible refine State.scStep_good _ _ ?_
    | with_reducible refine State.raise_good _ _ _ ?_ | with_reducible refine good_with ?_ ?_
    | exact (rfl : (_ : Fuses) = _))
theorem State.scSamples_good {Q : Claim} (s : State) (t : Nat) (samples : List (Int × Int)) (h : s.Good Q) :
    (State.scSamples s t samples).Good Q := by
  unfold State.scSamples; try dsimp only
  repeat' (first
    | with_reducible assumption | with_reducible refine State.scSample_good _ _ _ _ ?_
    | with_reducible refine State.each_good _ _ _ (fun _ _ _ => ?_) ?_)
theorem State.scBad_good {Q : Claim} (s : State) (t : Nat) (samples : List (Int × Int)) (h : s.Good Q) :
    (State.scBad s t samples).Good Q := by
  unfold State.scBad; try dsimp only
  repeat' (first
    | with_reducible assumption | with_reducible refine State.scSamples_good _ _ _ ?_
    | with_reducible refine State.raise_good _ _ _ ?_ | split | with_reducible refine good_with ?_ ?_
    | exact (rfl : (_ : Fuses) = _))
theorem State.scGoodAgain_good {Q : Claim} (s : State) (t : Nat) (samples : List (Int × Int)) (h : s.Good Q) :
    (State.scGoodAgain s t samples).Good Q := by
  unfold State.scGoodAgain; try dsimp only
  repeat' (first
    | with_reducible assumption | with_reducible refine State.scSamples_good _ _ _ ?_ | split
    | with_reducible refine good_with ?_ ?_ | exact (rfl : (_ : Fuses) = _))
theorem State.hallTake_good {Q : Claim} (s : State) (code : Nat) (h : s.Good Q) :
    (State.hallTake s code).Good Q := by
  unfold State.hallTake; try dsimp only
  repeat' (first
    | with_reducible assumption | with_reducible refine State.raise_good _ _ _ ?_
    | with_reducible refine State.fbStep_good _ _ _ ?_ | split | with_reducible refine good_with ?_ ?_
    | exact (rfl : (_ : Fuses) = _))
theorem State.hallAccept_good {Q : Claim} (s : State) (t : Nat) (h : s.Good Q) :
    (State.hallAccept s t).Good Q := by
  unfold State.hallAccept; try dsimp only
  repeat' (first
    | with_reducible assumption | with_reducible refine State.hallTake_good _ _ ?_
    | with_reducible refine State.at__good _ _ ?_ | split)
theorem State.hallChange_good {Q : Claim} (s : State) (t : Nat) (code : Nat) (h : s.Good Q) :
    (State.hallChange s t code).Good Q := by
  unfold State.hallChange; try dsimp only
  repeat' (first
    | with_reducible assumption | with_reducible refine State.at__good _ _ ?_
    | with_reducible refine State.hallAccept_good _ _ ?_ | with_reducible refine good_with ?_ ?_
    | exact (rfl : (_ : Fuses) = _))
theorem State.plsTake_good {Q : Claim} (s : State) (code : Nat) (h : s.Good Q) :
    (State.plsTake s code).Good Q := by
  unfold State.plsTake; try dsimp only
  repeat' (first
    | with_reducible assumption | with_reducible refine State.fbStep_good _ _ _ ?_ | split
    | with_reducible refine good_with ?_ ?_ | exact (rfl : (_ : Fuses) = _))
theorem State.plsAccept_good {Q : Claim} (s : State) (t : Nat) (h : s.Good Q) :
    (State.plsAccept s t).Good Q := by
  unfold State.plsAccept; try dsimp only
  repeat' (first
    | with_reducible assumption | with_reducible refine State.plsTake_good _ _ ?_
    | with_reducible refine State.at__good _ _ ?_ | split)
theorem State.plsStep_good {Q : Claim} (s : State) (t : Nat) (a : Bool) (b : Bool) (hold : Nat) (h : s.Good Q) :
    (State.plsStep s t a b hold).Good Q := by
  unfold State.plsStep; try dsimp only
  repeat' (first
    | with_reducible assumption | with_reducible refine State.at__good _ _ ?_
    | with_reducible refine State.plsAccept_good _ _ ?_ | with_reducible refine good_with ?_ ?_
    | exact (rfl : (_ : Fuses) = _))
theorem State.fbTimeout_good {Q : Claim} (s : State) (i : Nat) (h : s.Good Q) :
    (State.fbTimeout s i).Good Q := by
  unfold State.fbTimeout; try dsimp only
  repeat' (first
    | with_reducible assumption | with_reducible refine State.at__good _ _ ?_ | split)
theorem State.ownFbCtrl_good {Q : Claim} (s : State) (v : Nat) (h : s.Good Q) :
    goodOwn Q (State.ownFbCtrl s v) := by
  unfold State.ownFbCtrl; try dsimp only
  repeat' (first
    | with_reducible assumption | simp only [goodOwn_error_eq] | simp only [goodOwn_ok_eq]
    | with_reducible refine State.wr_good _ _ _ ?_ | split | with_reducible refine good_with ?_ ?_)
theorem State.ownScCount_good {Q : Claim} (s : State) (v : Nat) (h : s.Good Q) :
    goodOwn Q (State.ownScCount s v) := by
  unfold State.ownScCount; try dsimp only
  repeat' (first
    | with_reducible assumption | simp only [goodOwn_ok_eq] | with_reducible refine State.fbWrote_good _ _ ?_
    | with_reducible refine good_with ?_ ?_)
theorem State.ownPlsCount_good {Q : Claim} (s : State) (v : Nat) (h : s.Good Q) :
    goodOwn Q (State.ownPlsCount s v) := by
  unfold State.ownPlsCount; try dsimp only
  repeat' (first
    | with_reducible assumption | simp only [goodOwn_ok_eq] | with_reducible refine State.fbWrote_good _ _ ?_
    | with_reducible refine good_with ?_ ?_)
theorem State.ownIrqClr_good {Q : Claim} (s : State) (v : Nat) (h : s.Good Q) :
    goodOwn Q (State.ownIrqClr s v) := by
  unfold State.ownIrqClr; try dsimp only
  repeat' (first
    | with_reducible assumption | simp only [goodOwn_ok_eq] | with_reducible refine good_with ?_ ?_)
theorem State.ownFbStatusClr_good {Q : Claim} (s : State) (v : Nat) (h : s.Good Q) :
    goodOwn Q (State.ownFbStatusClr s v) := by
  unfold State.ownFbStatusClr; try dsimp only
  repeat' (first
    | with_reducible assumption | simp only [goodOwn_ok_eq] | with_reducible refine good_with ?_ ?_)
theorem State.feedWake_good {Q : Claim} (s : State) (h : s.Good Q) :
    (State.feedWake s).Good Q := by
  unfold State.feedWake; try dsimp only
  repeat' (first
    | with_reducible assumption | with_reducible refine good_with ?_ ?_ | exact (rfl : (_ : Fuses) = _))
theorem State.updTh_good {Q : Claim} (s : State) (c : Nat) (f : ThSlot → ThSlot) (h : s.Good Q) :
    (State.updTh s c f).Good Q := by
  unfold State.updTh; try dsimp only
  repeat' (first
    | with_reducible assumption | with_reducible refine good_with ?_ ?_ | exact (rfl : (_ : Fuses) = _))
theorem State.thNetwork_good {Q : Claim} (s : State) (c : Nat) (h : s.Good Q) :
    (State.thNetwork s c).Good Q := by
  unfold State.thNetwork; try dsimp only
  repeat' (first
    | with_reducible assumption | with_reducible refine State.updTh_good _ _ _ ?_
    | with_reducible refine State.raise_good _ _ _ ?_ | split)
theorem State.thWrite_good {Q : Claim} (s : State) (r : ShutRec) (ok : Bool) (h : s.Good Q) :
    (State.thWrite s r ok).Good Q := by
  unfold State.thWrite; try dsimp only
  repeat' (first
    | with_reducible assumption | with_reducible refine State.raise_good _ _ _ ?_ | split
    | with_reducible refine good_with ?_ ?_ | exact (rfl : (_ : Fuses) = _))
theorem State.thRecord_good {Q : Claim} (s : State) (c : Nat) (sw : Nat) (die : Bool) (ok : Bool) (h : s.Good Q) :
    (State.thRecord s c sw die ok).Good Q := by
  unfold State.thRecord; try dsimp only
  repeat' (first
    | with_reducible assumption | with_reducible refine State.thWrite_good _ _ _ ?_
    | with_reducible refine good_with ?_ ?_ | exact (rfl : (_ : Fuses) = _))
theorem State.thShut_good {Q : Claim} (s : State) (c : Nat) (ok : Bool) (h : s.Good Q) :
    (State.thShut s c ok).Good Q := by
  unfold State.thShut; try dsimp only
  repeat' (first
    | with_reducible assumption | with_reducible refine State.thRecord_good _ _ _ _ _ ?_
    | with_reducible refine State.updSlot_good _ _ _ ?_
    | with_reducible refine State.safeOffUnit_good _ _ _ _ _ ?_ | with_reducible refine State.raise_good _ _ _ ?_
    | with_reducible refine State.each_good _ _ _ (fun _ _ _ => ?_) ?_)
theorem State.thSlotTick_good {Q : Claim} (s : State) (c : Nat) (ok : Bool) (h : s.Good Q) :
    (State.thSlotTick s c ok).Good Q := by
  unfold State.thSlotTick; try dsimp only
  repeat' (first
    | with_reducible assumption | with_reducible refine good_ite ?_ ?_
    | with_reducible refine State.updTh_good _ _ _ ?_ | with_reducible refine State.raise_good _ _ _ ?_
    | with_reducible refine State.arrive_good _ _ _ _ _ ?_ | with_reducible refine State.thShut_good _ _ _ ?_
    | with_reducible refine State.each_good _ _ _ (fun _ _ _ => ?_) ?_)
theorem State.thInterval_good {Q : Claim} (s : State) (ok : Bool) (h : s.Good Q) :
    (State.thInterval s ok).Good Q := by
  unfold State.thInterval; try dsimp only
  repeat' (first
    | with_reducible assumption | with_reducible refine State.at__good _ _ ?_
    | with_reducible refine State.thNetwork_good _ _ ?_ | with_reducible refine State.thSlotTick_good _ _ _ ?_
    | with_reducible refine State.each_good _ _ _ (fun _ _ _ => ?_) ?_ | split
    | with_reducible refine good_with ?_ ?_ | exact (rfl : (_ : Fuses) = _))
theorem State.dieShut_good {Q : Claim} (s : State) (ok : Bool) (h : s.Good Q) :
    (State.dieShut s ok).Good Q := by
  unfold State.dieShut; try dsimp only
  repeat' (first
    | with_reducible assumption | with_reducible refine State.thRecord_good _ _ _ _ _ ?_
    | with_reducible refine State.safeOffUnit_good _ _ _ _ _ ?_
    | with_reducible refine State.stopUnit_good _ _ _ ?_ | with_reducible refine State.raise_good _ _ _ ?_
    | with_reducible refine State.each_good _ _ _ (fun _ _ _ => ?_) ?_ | split)
theorem State.dieConvert_good {Q : Claim} (s : State) (temps : List Nat) (ok : Bool) (h : s.Good Q) :
    (State.dieConvert s temps ok).Good Q := by
  unfold State.dieConvert; try dsimp only
  repeat' (first
    | with_reducible assumption | with_reducible refine State.at__good _ _ ?_
    | with_reducible refine State.updSlice_good _ _ _ ?_ | with_reducible refine State.raise_good _ _ _ ?_
    | with_reducible refine State.dieShut_good _ _ ?_
    | with_reducible refine State.each_good _ _ _ (fun _ _ _ => ?_) ?_ | split
    | with_reducible refine good_with ?_ ?_ | exact (rfl : (_ : Fuses) = _))
theorem State.rebuildShut_good {Q : Claim} (s : State) (h : s.Good Q) :
    (State.rebuildShut s).Good Q := by
  unfold State.rebuildShut; try dsimp only
  repeat' (first
    | with_reducible assumption | with_reducible refine good_with ?_ ?_ | exact (rfl : (_ : Fuses) = _))
theorem State.thRetry_good {Q : Claim} (s : State) (ok : Bool) (h : s.Good Q) :
    (State.thRetry s ok).Good Q := by
  unfold State.thRetry; try dsimp only
  repeat' (first
    | with_reducible assumption | with_reducible refine State.at__good _ _ ?_
    | with_reducible refine State.raise_good _ _ _ ?_
    | with_reducible refine State.each_good _ _ _ (fun _ _ _ => ?_) ?_ | split
    | with_reducible refine good_with ?_ ?_ | exact (rfl : (_ : Fuses) = _))
theorem State.ownShutClr_good {Q : Claim} (s : State) (v : Nat) (h : s.Good Q) :
    goodOwn Q (State.ownShutClr s v) := by
  unfold State.ownShutClr; try dsimp only
  repeat' (first
    | with_reducible assumption | simp only [goodOwn_error_eq] | simp only [goodOwn_ok_eq]
    | with_reducible refine State.each_good _ _ _ (fun _ _ _ => ?_) ?_ | split
    | with_reducible refine good_with ?_ ?_)
theorem State.ownSensorClr_good {Q : Claim} (s : State) (c : Nat) (h : s.Good Q) :
    goodOwn Q (State.ownSensorClr s c) := by
  unfold State.ownSensorClr; try dsimp only
  repeat' (first
    | with_reducible assumption | simp only [goodOwn_error_eq] | simp only [goodOwn_ok_eq]
    | with_reducible refine State.updTh_good _ _ _ ?_ | split)
theorem State.ownThStatusClr_good {Q : Claim} (s : State) (v : Nat) (h : s.Good Q) :
    goodOwn Q (State.ownThStatusClr s v) := by
  unfold State.ownThStatusClr; try dsimp only
  repeat' (first
    | with_reducible assumption | simp only [goodOwn_ok_eq] | with_reducible refine good_with ?_ ?_)
theorem State.ownTh_good {Q : Claim} (s : State) (c : Nat) (r : Reg) (v : Nat) (h : s.Good Q) :
    goodOwn Q (State.ownTh s c r v) := by
  unfold State.ownTh; try dsimp only
  repeat' (first
    | with_reducible assumption | simp only [goodOwn_error_eq] | simp only [goodOwn_ok_eq]
    | with_reducible refine State.updTh_good _ _ _ ?_ | with_reducible refine State.wr_good _ _ _ ?_ | split)
theorem State.ownDieShut_good {Q : Claim} (s : State) (v : Nat) (h : s.Good Q) :
    goodOwn Q (State.ownDieShut s v) := by
  unfold State.ownDieShut; try dsimp only
  repeat' (first
    | with_reducible assumption | simp only [goodOwn_error_eq] | simp only [goodOwn_ok_eq]
    | with_reducible refine State.wr_good _ _ _ ?_ | split)

end Sys2Proof.Machine
end

