-- ==== Sys2Proof/Laws/GoodLoops.lean ====
section
/-! SUPPORT. What loop slots, runs, LV and carrier operations keep, one lemma each (see Laws/Good.lean). -/

namespace Sys2Proof.Machine

theorem State.loadProg_good {Q : Claim} (s : State) (n : Nat) (p : LProg) (h : s.Good Q) :
    (State.loadProg s n p).Good Q := by
  unfold State.loadProg; try dsimp only
  repeat' (first
    | with_reducible assumption | with_reducible refine State.updLs_good _ _ _ ?_)
theorem State.ownLsProgram_good {Q : Claim} (s : State) (n : Nat) (img : List Byte) (h : s.Good Q) :
    goodOwn Q (State.ownLsProgram s n img) := by
  unfold State.ownLsProgram; try dsimp only
  repeat' (first
    | with_reducible assumption | simp only [goodOwn_error_eq] | simp only [goodOwn_ok_eq]
    | with_reducible refine State.loadProg_good _ _ _ ?_ | split)
theorem State.resumed_good {Q : Claim} (s : State) (n : Nat) (h : s.Good Q) :
    (State.resumed s n).Good Q := by
  unfold State.resumed; try dsimp only
  repeat' (first
    | with_reducible assumption | with_reducible refine State.updLs_good _ _ _ ?_)
theorem State.release_good {Q : Claim} (s : State) (n : Nat) (h : s.Good Q) :
    (State.release s n).Good Q := by
  unfold State.release; try dsimp only
  repeat' (first
    | with_reducible assumption | with_reducible refine State.resumed_good _ _ ?_
    | with_reducible refine State.updLs_good _ _ _ ?_ | split)
theorem State.carrierReleases_good {Q : Claim} (s : State) (k : Nat) (peak : Bool) (h : s.Good Q) :
    (State.carrierReleases s k peak).Good Q := by
  unfold State.carrierReleases; try dsimp only
  repeat' (first
    | with_reducible assumption | with_reducible refine State.release_good _ _ ?_
    | with_reducible refine State.each_good _ _ _ (fun _ _ _ => ?_) ?_)
theorem State.bellReleases_good {Q : Claim} (s : State) (b : Nat) (i : Nat) (h : s.Good Q) :
    (State.bellReleases s b i).Good Q := by
  unfold State.bellReleases; try dsimp only
  repeat' (first
    | with_reducible assumption | with_reducible refine State.release_good _ _ ?_
    | with_reducible refine State.each_good _ _ _ (fun _ _ _ => ?_) ?_)
theorem State.updRun_good {Q : Claim} (s : State) (n : Nat) (f : LRun → LRun) (h : s.Good Q) :
    (State.updRun s n f).Good Q := by
  unfold State.updRun; try dsimp only
  repeat' (first
    | with_reducible assumption | with_reducible refine State.updLs_good _ _ _ ?_)
theorem State.settleCmd_good {Q : Claim} (s : State) (n : Nat) (h : s.Good Q) :
    (State.settleCmd s n).Good Q := by
  unfold State.settleCmd; try dsimp only
  repeat' (first
    | with_reducible assumption | with_reducible refine State.updLs_good _ _ _ ?_ | split)
theorem State.toHolding_good {Q : Claim} (s : State) (n : Nat) (h : s.Good Q) :
    (State.toHolding s n).Good Q := by
  unfold State.toHolding; try dsimp only
  repeat' (first
    | with_reducible assumption | with_reducible refine State.updLs_good _ _ _ ?_)
theorem State.countMissRun_good {Q : Claim} (s : State) (n : Nat) (h : s.Good Q) :
    (State.countMissRun s n).Good Q := by
  unfold State.countMissRun; try dsimp only
  repeat' (first
    | with_reducible assumption | with_reducible refine State.updLs_good _ _ _ ?_
    | with_reducible refine State.toHolding_good _ _ ?_ | with_reducible refine State.raise_good _ _ _ ?_ | split)
theorem State.dropRun_good {Q : Claim} (s : State) (n : Nat) (h : s.Good Q) :
    (State.dropRun s n).Good Q := by
  unfold State.dropRun; try dsimp only
  repeat' (first
    | with_reducible assumption | with_reducible refine State.updLs_good _ _ _ ?_)
theorem State.missRun_good {Q : Claim} (s : State) (n : Nat) (h : s.Good Q) :
    (State.missRun s n).Good Q := by
  unfold State.missRun; try dsimp only
  repeat' (first
    | with_reducible assumption | with_reducible refine State.updLs_good _ _ _ ?_
    | with_reducible refine State.dropRun_good _ _ ?_ | with_reducible refine State.settleCmd_good _ _ ?_
    | with_reducible refine State.countMissRun_good _ _ ?_ | with_reducible refine State.raise_good _ _ _ ?_)
theorem State.nanRun_good {Q : Claim} (s : State) (n : Nat) (h : s.Good Q) :
    (State.nanRun s n).Good Q := by
  unfold State.nanRun; try dsimp only
  repeat' (first
    | with_reducible assumption | with_reducible refine State.updLs_good _ _ _ ?_
    | with_reducible refine State.dropRun_good _ _ ?_ | with_reducible refine State.settleCmd_good _ _ ?_
    | with_reducible refine State.countMissRun_good _ _ ?_ | with_reducible refine State.raise_good _ _ _ ?_)
theorem State.advance_good {Q : Claim} (s : State) (n : Nat) (h : s.Good Q) :
    (State.advance s n).Good Q := by
  unfold State.advance; try dsimp only
  repeat' (first
    | with_reducible assumption | with_reducible refine State.updLs_good _ _ _ ?_ | split)
theorem State.startRun_good {Q : Claim} (s : State) (n : Nat) (h : s.Good Q) :
    (State.startRun s n).Good Q := by
  unfold State.startRun; try dsimp only
  repeat' (first
    | with_reducible assumption | with_reducible refine State.updLs_good _ _ _ ?_ | split)
theorem State.takePipe_good {Q : Claim} (s : State) (p : Nat) (h : s.Good Q) :
    (State.takePipe s p).Good Q := by
  unfold State.takePipe; try dsimp only
  repeat' (first
    | with_reducible assumption | with_reducible refine State.at__good _ _ ?_
    | with_reducible refine State.updRun_good _ _ _ ?_ | with_reducible refine State.startRun_good _ _ ?_
    | with_reducible refine State.nanRun_good _ _ ?_ | with_reducible refine State.advance_good _ _ ?_ | split
    | with_reducible refine good_with ?_ ?_ | exact (rfl : (_ : Fuses) = _))
theorem State.handOver_good {Q : Claim} (s : State) (n : Nat) (vals : List (Nat × Bool × Nat)) (h : s.Good Q) :
    (State.handOver s n vals).Good Q := by
  unfold State.handOver; try dsimp only
  repeat' (first
    | with_reducible assumption | with_reducible refine State.updLs_good _ _ _ ?_ | split
    | with_reducible refine good_with ?_ ?_ | exact (rfl : (_ : Fuses) = _))
theorem State.publish_good {Q : Claim} (s : State) (n : Nat) (o : Nat) (v : Nat) (h : s.Good Q) :
    (State.publish s n o v).Good Q := by
  unfold State.publish; try dsimp only
  repeat' (first
    | with_reducible assumption | with_reducible refine State.updLs_good _ _ _ ?_
    | with_reducible refine State.arrive_good _ _ _ _ _ ?_
    | with_reducible refine State.traceAll_good _ _ _ _ _ _ ?_
    | with_reducible refine State.each_good _ _ _ (fun _ _ _ => ?_) ?_)
theorem State.commitRun_good {Q : Claim} (s : State) (n : Nat) (p : LProg) (r : LRun) (absent : Bool) (h : s.Good Q) :
    (State.commitRun s n p r absent).Good Q := by
  unfold State.commitRun; try dsimp only
  repeat' (first
    | with_reducible assumption | with_reducible refine State.updLs_good _ _ _ ?_
    | with_reducible refine State.publish_good _ _ _ _ ?_ | with_reducible refine State.handOver_good _ _ _ ?_
    | with_reducible refine State.raise_good _ _ _ ?_ | with_reducible refine State.toHolding_good _ _ ?_
    | with_reducible refine State.settleCmd_good _ _ ?_
    | with_reducible refine State.each_good _ _ _ (fun _ _ _ => ?_) ?_ | split)
theorem State.readyStage_good {Q : Claim} (s : State) (n : Nat) (h : s.Good Q) :
    (State.readyStage s n).Good Q := by
  unfold State.readyStage; try dsimp only
  repeat' (first
    | with_reducible assumption | with_reducible refine State.updRun_good _ _ _ ?_)
theorem State.endRun_good {Q : Claim} (s : State) (n : Nat) (h : s.Good Q) :
    (State.endRun s n).Good Q := by
  unfold State.endRun; try dsimp only
  repeat' (first
    | with_reducible assumption | with_reducible refine State.nanRun_good _ _ ?_
    | with_reducible refine State.at__good _ _ ?_ | with_reducible refine State.updRun_good _ _ _ ?_
    | with_reducible refine State.readyStage_good _ _ ?_ | with_reducible refine State.commitRun_good _ _ _ _ _ ?_
    | with_reducible refine State.updLs_good _ _ _ ?_ | split)
theorem State.deadline_good {Q : Claim} (s : State) (n : Nat) (h : s.Good Q) :
    (State.deadline s n).Good Q := by
  unfold State.deadline; try dsimp only
  repeat' (first
    | with_reducible assumption | with_reducible refine State.nanRun_good _ _ ?_
    | with_reducible refine State.at__good _ _ ?_ | with_reducible refine State.missRun_good _ _ ?_ | split)
theorem State.noteResiduals_good {Q : Claim} (s : State) (n : Nat) (res : List (Nat × Nat)) (h : s.Good Q) :
    (State.noteResiduals s n res).Good Q := by
  unfold State.noteResiduals; try dsimp only
  repeat' (first
    | with_reducible assumption | with_reducible refine State.updLs_good _ _ _ ?_)
theorem State.squash_good {Q : Claim} (s : State) (n : Nat) (p : LProg) (r : LRun) (h : s.Good Q) :
    (State.squash s n p r).Good Q := by
  unfold State.squash; try dsimp only
  repeat' (first
    | with_reducible assumption | with_reducible refine State.updLs_good _ _ _ ?_
    | with_reducible refine State.raise_good _ _ _ ?_ | with_reducible refine State.updRun_good _ _ _ ?_
    | with_reducible refine State.missRun_good _ _ ?_ | split | with_reducible refine good_with ?_ ?_
    | exact (rfl : (_ : Fuses) = _))
theorem State.makeWay_good {Q : Claim} (s : State) (p : Nat) (e : Nat) (h : s.Good Q) :
    (State.makeWay s p e).Good Q := by
  unfold State.makeWay; try dsimp only
  repeat' (first
    | with_reducible assumption | with_reducible refine State.updRun_good _ _ _ ?_ | split)
theorem State.commitStage_good {Q : Claim} (s : State) (p : Nat) (h : s.Good Q) :
    (State.commitStage s p).Good Q := by
  unfold State.commitStage; try dsimp only
  repeat' (first
    | with_reducible assumption | with_reducible refine good_ite ?_ ?_
    | with_reducible refine State.at__good _ _ ?_ | with_reducible refine State.nanRun_good _ _ ?_
    | with_reducible refine State.makeWay_good _ _ _ ?_ | with_reducible refine State.missRun_good _ _ ?_
    | with_reducible refine State.noteResiduals_good _ _ _ ?_ | with_reducible refine State.squash_good _ _ _ _ ?_
    | with_reducible refine State.updLs_good _ _ _ ?_ | with_reducible refine State.commitRun_good _ _ _ _ _ ?_
    | with_reducible refine State.asAt_good _ _ _ (fun _ _ => ?_) ?_ | split
    | with_reducible refine good_with ?_ ?_ | exact (rfl : (_ : Fuses) = _))
theorem State.late_good {Q : Claim} (s : State) (n : Nat) (h : s.Good Q) :
    (State.late s n).Good Q := by
  unfold State.late; try dsimp only
  repeat' (first
    | with_reducible assumption | with_reducible refine State.readyStage_good _ _ ?_
    | with_reducible refine State.at__good _ _ ?_ | split)
theorem State.placeEntry_good {Q : Claim} (s : State) (n : Nat) (i : Nat) (e : QEntry) (h : s.Good Q) :
    (State.placeEntry s n i e).Good Q := by
  unfold State.placeEntry; try dsimp only
  repeat' (first
    | with_reducible assumption | with_reducible refine State.updIn_good _ _ _ _ ?_
    | with_reducible refine State.updLs_good _ _ _ ?_ | with_reducible refine State.readyStage_good _ _ ?_
    | with_reducible refine State.arrive_good _ _ _ _ _ ?_ | split)
theorem State.intake_good {Q : Claim} (s : State) (h : s.Good Q) :
    (State.intake s).Good Q := by
  unfold State.intake; try dsimp only
  repeat' (first
    | with_reducible assumption | with_reducible refine State.at__good _ _ ?_
    | with_reducible refine State.updLs_good _ _ _ ?_ | with_reducible refine State.placeEntry_good _ _ _ _ ?_
    | with_reducible refine State.each_good _ _ _ (fun _ _ _ => ?_) ?_ | split
    | with_reducible refine good_with ?_ ?_ | exact (rfl : (_ : Fuses) = _))
theorem State.runReady_good {Q : Claim} (s : State) (n : Nat) (h : s.Good Q) :
    (State.runReady s n).Good Q := by
  unfold State.runReady; try dsimp only
  repeat' (first
    | with_reducible assumption | with_reducible refine State.updRun_good _ _ _ ?_ | split)
theorem State.inTimeout_good {Q : Claim} (s : State) (n : Nat) (h : s.Good Q) :
    (State.inTimeout s n).Good Q := by
  unfold State.inTimeout; try dsimp only
  repeat' (first
    | with_reducible assumption | with_reducible refine State.updRun_good _ _ _ ?_
    | with_reducible refine State.at__good _ _ ?_ | split)
theorem State.deliver_good {Q : Claim} (s : State) (h : s.Good Q) :
    (State.deliver s).Good Q := by
  unfold State.deliver; try dsimp only
  repeat' (first
    | with_reducible assumption | with_reducible refine State.at__good _ _ ?_
    | with_reducible refine State.stagePhase_good _ _ _ ?_ | with_reducible refine State.stageDuty_good _ _ _ ?_
    | with_reducible refine State.requestCommit_good _ _ ?_
    | with_reducible refine State.each_good _ _ _ (fun _ _ _ => ?_) ?_ | split
    | with_reducible refine good_with ?_ ?_ | exact (rfl : (_ : Fuses) = _))
theorem State.lsRun_good {Q : Claim} (s : State) (n : Nat) (h : s.Good Q) :
    goodOwn Q (State.lsRun s n) := by
  unfold State.lsRun; try dsimp only
  repeat' (first
    | with_reducible assumption | simp only [goodOwn_error_eq] | simp only [goodOwn_ok_eq]
    | with_reducible refine State.updLs_good _ _ _ ?_ | split)
theorem State.lsLeave_good {Q : Claim} (s : State) (n : Nat) (stop : Bool) (h : s.Good Q) :
    goodOwn Q (State.lsLeave s n stop) := by
  unfold State.lsLeave; try dsimp only
  repeat' (first
    | with_reducible assumption | simp only [goodOwn_error_eq] | simp only [goodOwn_ok_eq]
    | with_reducible refine State.updLs_good _ _ _ ?_ | with_reducible refine State.dropRun_good _ _ ?_
    | with_reducible refine State.settleCmd_good _ _ ?_ | split)
theorem State.lsResume_good {Q : Claim} (s : State) (n : Nat) (h : s.Good Q) :
    goodOwn Q (State.lsResume s n) := by
  unfold State.lsResume; try dsimp only
  repeat' (first
    | with_reducible assumption | simp only [goodOwn_error_eq] | simp only [goodOwn_ok_eq]
    | with_reducible refine State.updLs_good _ _ _ ?_ | split)
theorem State.lsUnload_good {Q : Claim} (s : State) (n : Nat) (h : s.Good Q) :
    goodOwn Q (State.lsUnload s n) := by
  unfold State.lsUnload; try dsimp only
  repeat' (first
    | with_reducible assumption | simp only [goodOwn_error_eq] | simp only [goodOwn_ok_eq]
    | with_reducible refine State.updLs_good _ _ _ ?_ | split)
theorem State.ownLsCmd_good {Q : Claim} (s : State) (n : Nat) (v : Nat) (h : s.Good Q) :
    goodOwn Q (State.ownLsCmd s n v) := by
  unfold State.ownLsCmd; try dsimp only
  repeat' (first
    | with_reducible assumption | simp only [goodOwn_error_eq] | with_reducible refine State.lsRun_good _ _ ?_
    | with_reducible refine State.lsLeave_good _ _ _ ?_ | with_reducible refine State.lsResume_good _ _ ?_
    | with_reducible refine State.lsUnload_good _ _ ?_ | split)
theorem State.ownSwap_good {Q : Claim} (s : State) (n : Nat) (h : s.Good Q) :
    goodOwn Q (State.ownSwap s n) := by
  unfold State.ownSwap; try dsimp only
  repeat' (first
    | with_reducible assumption | simp only [goodOwn_error_eq] | simp only [goodOwn_ok_eq]
    | with_reducible refine State.updLs_good _ _ _ ?_ | split)
theorem State.ownCoefImage_good {Q : Claim} (s : State) (n : Nat) (d : List Byte) (h : s.Good Q) :
    goodOwn Q (State.ownCoefImage s n d) := by
  unfold State.ownCoefImage; try dsimp only
  repeat' (first
    | with_reducible assumption | simp only [goodOwn_error_eq] | simp only [goodOwn_ok_eq]
    | with_reducible refine State.updLs_good _ _ _ ?_ | split)
theorem State.bumpAddr_good {Q : Claim} (s : State) (n : Nat) (h : s.Good Q) :
    (State.bumpAddr s n).Good Q := by
  unfold State.bumpAddr; try dsimp only
  repeat' (first
    | with_reducible assumption | with_reducible refine State.wr_good _ _ _ ?_)
theorem State.ownCoefWord_good {Q : Claim} (s : State) (n : Nat) (v : Nat) (h : s.Good Q) :
    goodOwn Q (State.ownCoefWord s n v) := by
  unfold State.ownCoefWord; try dsimp only
  repeat' (first
    | with_reducible assumption | simp only [goodOwn_error_eq] | simp only [goodOwn_ok_eq]
    | with_reducible refine State.bumpAddr_good _ _ ?_ | with_reducible refine State.updLs_good _ _ _ ?_ | split)
theorem State.ownDirect_good {Q : Claim} (s : State) (n : Nat) (v : Nat) (h : s.Good Q) :
    goodOwn Q (State.ownDirect s n v) := by
  unfold State.ownDirect; try dsimp only
  repeat' (first
    | with_reducible assumption | simp only [goodOwn_error_eq] | simp only [goodOwn_ok_eq]
    | with_reducible refine State.updLs_good _ _ _ ?_ | with_reducible refine State.advance_good _ _ ?_ | split)
theorem State.ownLsCfg_good {Q : Claim} (s : State) (n : Nat) (r : Reg) (v : Nat) (h : s.Good Q) :
    goodOwn Q (State.ownLsCfg s n r v) := by
  unfold State.ownLsCfg; try dsimp only
  repeat' (first
    | with_reducible assumption | simp only [goodOwn_error_eq] | simp only [goodOwn_ok_eq]
    | with_reducible refine State.wr_good _ _ _ ?_ | split)
theorem State.ownRelease_good {Q : Claim} (s : State) (n : Nat) (v : Nat) (h : s.Good Q) :
    goodOwn Q (State.ownRelease s n v) := by
  unfold State.ownRelease; try dsimp only
  repeat' (first
    | with_reducible assumption | with_reducible refine State.ownLsCfg_good _ _ _ _ ?_)
theorem State.ownLsIn_good {Q : Claim} (s : State) (n : Nat) (i : Nat) (v : Nat) (h : s.Good Q) :
    goodOwn Q (State.ownLsIn s n i v) := by
  unfold State.ownLsIn; try dsimp only
  repeat' (first
    | with_reducible assumption | simp only [goodOwn_error_eq] | simp only [goodOwn_ok_eq]
    | with_reducible refine State.ownLsCfg_good _ _ _ _ ?_ | with_reducible refine State.updIn_good _ _ _ _ ?_
    | split | refine goodOwn_of (by with_reducible assumption) ?_)
theorem State.ownInTimeout_good {Q : Claim} (s : State) (n : Nat) (v : Nat) (h : s.Good Q) :
    goodOwn Q (State.ownInTimeout s n v) := by
  unfold State.ownInTimeout; try dsimp only
  repeat' (first
    | with_reducible assumption | simp only [goodOwn_error_eq] | simp only [goodOwn_ok_eq]
    | with_reducible refine State.wr_good _ _ _ ?_ | split)
theorem State.ownInVal_good {Q : Claim} (s : State) (n : Nat) (i : Nat) (v : Nat) (h : s.Good Q) :
    goodOwn Q (State.ownInVal s n i v) := by
  unfold State.ownInVal; try dsimp only
  repeat' (first
    | with_reducible assumption | simp only [goodOwn_error_eq] | simp only [goodOwn_ok_eq]
    | with_reducible refine State.hostIn_good _ _ _ _ ?_ | split)
theorem State.ownRa_good {Q : Claim} (s : State) (n : Nat) (r : Reg) (v : Nat) (h : s.Good Q) :
    goodOwn Q (State.ownRa s n r v) := by
  unfold State.ownRa; try dsimp only
  repeat' (first
    | with_reducible assumption | with_reducible refine State.ownLsCfg_good _ _ _ _ ?_)
theorem State.ownRaPred_good {Q : Claim} (s : State) (n : Nat) (p : Nat) (r : Reg) (v : Nat) (h : s.Good Q) :
    goodOwn Q (State.ownRaPred s n p r v) := by
  unfold State.ownRaPred; try dsimp only
  repeat' (first
    | with_reducible assumption | simp only [goodOwn_error_eq] | simp only [goodOwn_ok_eq]
    | with_reducible refine State.ownLsCfg_good _ _ _ _ ?_ | with_reducible refine State.wr_good _ _ _ ?_ | split)
theorem State.ownLsStatusClr_good {Q : Claim} (s : State) (n : Nat) (v : Nat) (h : s.Good Q) :
    goodOwn Q (State.ownLsStatusClr s n v) := by
  unfold State.ownLsStatusClr; try dsimp only
  repeat' (first
    | with_reducible assumption | simp only [goodOwn_ok_eq] | with_reducible refine State.updLs_good _ _ _ ?_)
theorem State.ownRaStatusClr_good {Q : Claim} (s : State) (n : Nat) (v : Nat) (h : s.Good Q) :
    goodOwn Q (State.ownRaStatusClr s n v) := by
  unfold State.ownRaStatusClr; try dsimp only
  repeat' (first
    | with_reducible assumption | simp only [goodOwn_ok_eq] | with_reducible refine State.updLs_good _ _ _ ?_)
theorem State.loopEcc_good {Q : Claim} (s : State) (n : Nat) (correctable : Bool) (h : s.Good Q) :
    (State.loopEcc s n correctable).Good Q := by
  unfold State.loopEcc; try dsimp only
  repeat' (first
    | with_reducible assumption | with_reducible refine State.updLs_good _ _ _ ?_
    | with_reducible refine State.raise_good _ _ _ ?_ | with_reducible refine State.missRun_good _ _ ?_
    | with_reducible refine State.settleCmd_good _ _ ?_ | with_reducible refine State.toHolding_good _ _ ?_
    | split | with_reducible refine good_with ?_ ?_ | exact (rfl : (_ : Fuses) = _))
theorem State.updCmp_good {Q : Claim} (s : State) (a : Nat) (f : LvComp → LvComp) (h : s.Good Q) :
    (State.updCmp s a f).Good Q := by
  unfold State.updCmp; try dsimp only
  repeat' (first
    | with_reducible assumption | with_reducible refine good_with ?_ ?_ | exact (rfl : (_ : Fuses) = _))
theorem State.ownCmpThr_good {Q : Claim} (s : State) (a : Nat) (r : Reg) (v : Nat) (h : s.Good Q) :
    goodOwn Q (State.ownCmpThr s a r v) := by
  unfold State.ownCmpThr; try dsimp only
  repeat' (first
    | with_reducible assumption | simp only [goodOwn_ok_eq] | with_reducible refine State.wr_good _ _ _ ?_
    | with_reducible refine State.updCmp_good _ _ _ ?_)
theorem State.compareCmp_good {Q : Claim} (s : State) (a : Nat) (v : Int) (h : s.Good Q) :
    (State.compareCmp s a v).Good Q := by
  unfold State.compareCmp; try dsimp only
  repeat' (first
    | with_reducible assumption | with_reducible refine State.updCmp_good _ _ _ ?_ | split)
theorem State.cmpTrip_good {Q : Claim} (s : State) (a : Nat) (v : Int) (t : Nat) (h : s.Good Q) :
    (State.cmpTrip s a v t).Good Q := by
  unfold State.cmpTrip; try dsimp only
  repeat' (first
    | with_reducible assumption | with_reducible refine State.upTo_good _ _ ?_
    | with_reducible refine State.updCmp_good _ _ _ ?_ | with_reducible refine State.raise_good _ _ _ ?_
    | with_reducible refine State.safeOffUnit_good _ _ _ _ _ ?_
    | with_reducible refine State.each_good _ _ _ (fun _ _ _ => ?_) ?_ | split)
theorem State.cmpRelease_good {Q : Claim} (s : State) (a : Nat) (v : Int) (h : s.Good Q) :
    (State.cmpRelease s a v).Good Q := by
  unfold State.cmpRelease; try dsimp only
  repeat' (first
    | with_reducible assumption | with_reducible refine State.updCmp_good _ _ _ ?_ | split)
theorem State.ownCmpCtrl_good {Q : Claim} (s : State) (a : Nat) (v : Nat) (h : s.Good Q) :
    goodOwn Q (State.ownCmpCtrl s a v) := by
  unfold State.ownCmpCtrl; try dsimp only
  repeat' (first
    | with_reducible assumption | simp only [goodOwn_error_eq] | simp only [goodOwn_ok_eq]
    | with_reducible refine State.wr_good _ _ _ ?_ | with_reducible refine State.updCmp_good _ _ _ ?_ | split)
theorem State.ownCmpClr_good {Q : Claim} (s : State) (a : Nat) (v : Nat) (h : s.Good Q) :
    goodOwn Q (State.ownCmpClr s a v) := by
  unfold State.ownCmpClr; try dsimp only
  repeat' (first
    | with_reducible assumption | simp only [goodOwn_ok_eq] | with_reducible refine State.updCmp_good _ _ _ ?_)
theorem State.busTick_good {Q : Claim} (s : State) (b : Nat) (h : s.Good Q) :
    (State.busTick s b).Good Q := by
  unfold State.busTick; try dsimp only
  repeat' (first
    | with_reducible assumption | with_reducible refine good_ite ?_ ?_
    | with_reducible refine State.updLv_good _ _ _ ?_ | with_reducible refine State.raise_good _ _ _ ?_
    | with_reducible refine State.hostIn_good _ _ _ _ ?_ | with_reducible refine State.stopUnit_good _ _ _ ?_
    | with_reducible refine State.discardStart_good _ _ _ ?_
    | with_reducible refine State.each_good _ _ _ (fun _ _ _ => ?_) ?_ | split
    | with_reducible refine good_with ?_ ?_ | exact (rfl : (_ : Fuses) = _))
theorem State.ov3Decide_good {Q : Claim} (s : State) (b : Nat) (h : s.Good Q) :
    (State.ov3Decide s b).Good Q := by
  unfold State.ov3Decide; try dsimp only
  repeat' (first
    | with_reducible assumption | with_reducible refine State.safeOffUnit_good _ _ _ _ _ ?_
    | with_reducible refine State.raise_good _ _ _ ?_ | with_reducible refine State.updLv_good _ _ _ ?_
    | with_reducible refine State.each_good _ _ _ (fun _ _ _ => ?_) ?_ | split
    | with_reducible refine good_with ?_ ?_ | exact (rfl : (_ : Fuses) = _))
theorem State.ov3Cut_good {Q : Claim} (s : State) (b : Nat) (h : s.Good Q) :
    (State.ov3Cut s b).Good Q := by
  unfold State.ov3Cut; try dsimp only
  repeat' (first
    | with_reducible assumption | with_reducible refine State.ov3Decide_good _ _ ?_
    | with_reducible refine State.updLv_good _ _ _ ?_)
theorem State.ov3Join_good {Q : Claim} (s : State) (c : Nat) (u : Nat) (h : s.Good Q) :
    (State.ov3Join s c u).Good Q := by
  unfold State.ov3Join; try dsimp only
  repeat' (first
    | with_reducible assumption | with_reducible refine State.ov3Decide_good _ _ ?_ | split)
theorem State.mdTrip_good {Q : Claim} (s : State) (m : Nat) (t : Nat) (stream : List Bool) (h : s.Good Q) :
    (State.mdTrip s m t stream).Good Q := by
  unfold State.mdTrip; try dsimp only
  repeat' (first
    | with_reducible assumption | with_reducible refine State.upTo_good _ _ ?_
    | with_reducible refine State.mdPublish_good _ _ _ ?_ | with_reducible refine State.updMd_good _ _ _ ?_
    | with_reducible refine State.raise_good _ _ _ ?_ | with_reducible refine State.safeOffUnit_good _ _ _ _ _ ?_
    | with_reducible refine State.ov3Cut_good _ _ ?_
    | with_reducible refine State.each_good _ _ _ (fun _ _ _ => ?_) ?_ | split)
theorem State.mdTripEnd_good {Q : Claim} (s : State) (m : Nat) (t : Nat) (stream : List Bool) (h : s.Good Q) :
    (State.mdTripEnd s m t stream).Good Q := by
  unfold State.mdTripEnd; try dsimp only
  repeat' (first
    | with_reducible assumption | with_reducible refine State.upTo_good _ _ ?_
    | with_reducible refine State.endTrip_good _ _ ?_ | with_reducible refine State.updMd_good _ _ _ ?_
    | with_reducible refine State.mdPublish_good _ _ _ ?_ | split)
theorem State.acTick_good {Q : Claim} (s : State) (e : Nat) (h : s.Good Q) :
    (State.acTick s e).Good Q := by
  unfold State.acTick; try dsimp only
  repeat' (first
    | with_reducible assumption | with_reducible refine State.hostIn_good _ _ _ _ ?_
    | with_reducible refine State.each_good _ _ _ (fun _ _ _ => ?_) ?_ | split)
theorem State.drvForce_good {Q : Claim} (s : State) (c : Nat) (u : Nat) (v : Nat) (h : s.Good Q) :
    (State.drvForce s c u v).Good Q := by
  unfold State.drvForce; try dsimp only
  repeat' (first
    | with_reducible assumption | with_reducible refine State.forceLeg_good _ _ _ _ ?_
    | with_reducible refine State.wr_good _ _ _ ?_
    | with_reducible refine State.each_good _ _ _ (fun _ _ _ => ?_) ?_ | split)
theorem State.drvBegin_good {Q : Claim} (s : State) (c : Nat) (u : Nat) (h : s.Good Q) :
    (State.drvBegin s c u).Good Q := by
  unfold State.drvBegin; try dsimp only
  repeat' (first
    | with_reducible assumption | with_reducible refine State.updLv_good _ _ _ ?_
    | with_reducible refine State.drvForce_good _ _ _ _ ?_ | split)
theorem State.drvEnabled_good {Q : Claim} (s : State) (c : Nat) (u : Nat) (h : s.Good Q) :
    (State.drvEnabled s c u).Good Q := by
  unfold State.drvEnabled; try dsimp only
  repeat' (first
    | with_reducible assumption | with_reducible refine State.updLs_good _ _ _ ?_ | split)
theorem State.drvFail_good {Q : Claim} (s : State) (e : Nat) (cu : Nat × Nat) (h : s.Good Q) :
    (State.drvFail s e cu).Good Q := by
  unfold State.drvFail; try dsimp only
  repeat' (first
    | with_reducible assumption | with_reducible refine State.stopUnit_good _ _ _ ?_
    | with_reducible refine State.updLv_good _ _ _ ?_ | with_reducible refine State.raise_good _ _ _ ?_)
theorem State.drvStep_good {Q : Claim} (s : State) (n : Nat) (e : Nat) (cu : Nat × Nat) (old : LoopSlot) (h : s.Good Q) :
    (State.drvStep s n e cu old).Good Q := by
  unfold State.drvStep
  extract_lets x t fs cm named isFs isCm ph mode was cnt lock decided dirF act done s1 w s2 s3
  have h1 : s1.Good Q := State.updLv_good _ _ _ h
  have h2 : s2.Good Q := good_ite (good_with h1 rfl) h1
  have h3 : s3.Good Q := good_ite (State.drvForce_good _ _ _ _ h2) h2
  exact good_ite (State.drvFail_good _ _ _ h3) h3
theorem State.chopStep_good {Q : Claim} (s : State) (n : Nat) (e : Nat) (cu : Nat × Nat) (old : LoopSlot) (h : s.Good Q) :
    (State.chopStep s n e cu old).Good Q := by
  unfold State.chopStep; try dsimp only
  repeat' (first
    | with_reducible assumption | with_reducible refine State.raise_good _ _ _ ?_
    | with_reducible refine State.stopUnit_good _ _ _ ?_ | with_reducible refine State.updLv_good _ _ _ ?_ | split)
theorem State.lvAfterRun_good {Q : Claim} (s : State) (n : Nat) (old : LoopSlot) (h : s.Good Q) :
    (State.lvAfterRun s n old).Good Q := by
  unfold State.lvAfterRun; try dsimp only
  repeat' (first
    | with_reducible assumption | with_reducible refine State.drvStep_good _ _ _ _ _ ?_
    | with_reducible refine State.chopStep_good _ _ _ _ _ ?_
    | with_reducible refine State.each_good _ _ _ (fun _ _ _ => ?_) ?_ | split)
theorem State.ownLv_good {Q : Claim} (s : State) (e : Nat) (r : Reg) (v : Nat) (h : s.Good Q) :
    goodOwn Q (State.ownLv s e r v) := by
  unfold State.ownLv; try dsimp only
  repeat' (first
    | with_reducible assumption | simp only [goodOwn_error_eq] | simp only [goodOwn_ok_eq]
    | with_reducible refine State.wr_good _ _ _ ?_ | split)
theorem State.ownLvClr_good {Q : Claim} (s : State) (e : Nat) (v : Nat) (h : s.Good Q) :
    goodOwn Q (State.ownLvClr s e v) := by
  unfold State.ownLvClr; try dsimp only
  repeat' (first
    | with_reducible assumption | simp only [goodOwn_ok_eq] | with_reducible refine State.updLv_good _ _ _ ?_)
theorem State.armCar_good {Q : Claim} (s : State) (k : Nat) (h : s.Good Q) :
    (State.armCar s k).Good Q := by
  unfold State.armCar; try dsimp only
  repeat' (first
    | with_reducible assumption | with_reducible refine State.updCar_good _ _ _ ?_)
theorem State.carRun_good {Q : Claim} (s : State) (k : Nat) (h : s.Good Q) :
    goodOwn Q (State.carRun s k) := by
  unfold State.carRun; try dsimp only
  repeat' (first
    | with_reducible assumption | simp only [goodOwn_error_eq] | simp only [goodOwn_ok_eq]
    | with_reducible refine State.armCar_good _ _ ?_ | split)
theorem State.bindLeg_good {Q : Claim} (s : State) (l : Nat) (h : s.Good Q) :
    (State.bindLeg s l).Good Q := by
  unfold State.bindLeg; try dsimp only
  repeat' (first
    | with_reducible assumption | with_reducible refine State.updLeg_good _ _ _ ?_)
theorem State.carLeft_good {Q : Claim} (s : State) (k : Nat) (h : s.Good Q) :
    (State.carLeft s k).Good Q := by
  unfold State.carLeft; try dsimp only
  repeat' (first
    | with_reducible assumption | with_reducible refine State.xholdEnd_good _ _ ?_
    | with_reducible refine State.bindLeg_good _ _ ?_
    | with_reducible refine State.each_good _ _ _ (fun _ _ _ => ?_) ?_)
theorem State.haltCar_good {Q : Claim} (s : State) (k : Nat) (h : s.Good Q) :
    (State.haltCar s k).Good Q := by
  unfold State.haltCar; try dsimp only
  repeat' (first
    | with_reducible assumption | with_reducible refine State.updCar_good _ _ _ ?_
    | with_reducible refine State.carLeft_good _ _ ?_ | split)
theorem State.discardStarts_good {Q : Claim} (s : State) (h : s.Good Q) :
    (State.discardStarts s).Good Q := by
  unfold State.discardStarts; try dsimp only
  repeat' (first
    | with_reducible assumption | with_reducible refine State.discardAll_good _ _ ?_
    | with_reducible refine State.each_good _ _ _ (fun _ _ _ => ?_) ?_ | split)
theorem State.carStop_good {Q : Claim} (s : State) (k : Nat) (h : s.Good Q) :
    goodOwn Q (State.carStop s k) := by
  unfold State.carStop; try dsimp only
  repeat' (first
    | with_reducible assumption | simp only [goodOwn_error_eq] | simp only [goodOwn_ok_eq]
    | with_reducible refine State.haltCar_good _ _ ?_ | split)
theorem State.ownCarRun_good {Q : Claim} (s : State) (k : Nat) (v : Nat) (h : s.Good Q) :
    goodOwn Q (State.ownCarRun s k v) := by
  unfold State.ownCarRun; try dsimp only
  repeat' (first
    | with_reducible assumption | with_reducible refine State.carRun_good _ _ ?_
    | with_reducible refine State.carStop_good _ _ ?_ | split)
theorem State.ownCommit_good {Q : Claim} (s : State) (k : Nat) (v : Nat) (h : s.Good Q) :
    goodOwn Q (State.ownCommit s k v) := by
  unfold State.ownCommit; try dsimp only
  repeat' (first
    | with_reducible assumption | simp only [goodOwn_ok_eq]
    | with_reducible refine State.requestCommit_good _ _ ?_ | with_reducible refine State.noteLate_good _ _ ?_
    | with_reducible refine State.updCar_good _ _ _ ?_ | with_reducible refine State.discardStaged_good _ _ ?_
    | split)
theorem State.ownCarCfg_good {Q : Claim} (s : State) (k : Nat) (r : Reg) (v : Nat) (h : s.Good Q) :
    goodOwn Q (State.ownCarCfg s k r v) := by
  unfold State.ownCarCfg; try dsimp only
  repeat' (first
    | with_reducible assumption | simp only [goodOwn_error_eq] | simp only [goodOwn_ok_eq]
    | with_reducible refine State.wr_good _ _ _ ?_ | split)
theorem State.bypassSlot_good {Q : Claim} (s : State) (c : Nat) (h : s.Good Q) :
    (State.bypassSlot s c).Good Q := by
  unfold State.bypassSlot; try dsimp only
  repeat' (first
    | with_reducible assumption | with_reducible refine State.latchLeg_good _ _ ?_
    | with_reducible refine State.updSlot_good _ _ _ ?_ | with_reducible refine State.enterBypass_good _ _ _ ?_
    | with_reducible refine State.updUnit_good _ _ _ _ ?_
    | with_reducible refine State.each_good _ _ _ (fun _ _ _ => ?_) ?_ | split)
theorem State.chbForceNow_good {Q : Claim} (s : State) (c : Nat) (v : Nat) (h : s.Good Q) :
    (State.chbForceNow s c v).Good Q := by
  unfold State.chbForceNow; try dsimp only
  repeat' (first
    | with_reducible assumption | with_reducible refine State.forceNow_good _ _ _ ?_
    | with_reducible refine State.wr_good _ _ _ ?_
    | with_reducible refine State.each_good _ _ _ (fun _ _ _ => ?_) ?_)
theorem State.cutNext_good {Q : Claim} (s : State) (l : Nat) (h : s.Good Q) :
    (State.cutNext s l).Good Q := by
  unfold State.cutNext; try dsimp only
  repeat' (first
    | with_reducible assumption | with_reducible refine State.inNext_good _ _ ?_ | split)
theorem State.enableUnit_good {Q : Claim} (s : State) (c : Nat) (u : Nat) (h : s.Good Q) :
    (State.enableUnit s c u).Good Q := by
  unfold State.enableUnit; try dsimp only
  repeat' (first
    | with_reducible assumption | with_reducible refine State.wr_good _ _ _ ?_
    | with_reducible refine State.cutNext_good _ _ ?_ | with_reducible refine State.enableLeg_good _ _ ?_
    | with_reducible refine State.drvEnabled_good _ _ _ ?_
    | with_reducible refine State.each_good _ _ _ (fun _ _ _ => ?_) ?_)
theorem State.insertSpare_good {Q : Claim} (s : State) (c : Nat) (h : s.Good Q) :
    (State.insertSpare s c).Good Q := by
  unfold State.insertSpare; try dsimp only
  repeat' (first
    | with_reducible assumption | with_reducible refine State.updUnit_good _ _ _ _ ?_
    | with_reducible refine State.chbForceNow_good _ _ _ ?_)
theorem State.clearUnit_good {Q : Claim} (s : State) (c : Nat) (u : Nat) (h : s.Good Q) :
    (State.clearUnit s c u).Good Q := by
  unfold State.clearUnit; try dsimp only
  repeat' (first
    | with_reducible assumption | with_reducible refine State.unlatch_good _ _ ?_
    | with_reducible refine State.updStr_good _ _ _ ?_ | with_reducible refine State.enableUnit_good _ _ _ ?_
    | with_reducible refine State.chbForceNow_good _ _ _ ?_ | with_reducible refine State.updUnit_good _ _ _ _ ?_
    | with_reducible refine State.each_good _ _ _ (fun _ _ _ => ?_) ?_ | split)
theorem State.slotAct_good {Q : Claim} (s : State) (c : Nat) (m : SlotCmd) (h : s.Good Q) :
    (State.slotAct s c m).Good Q := by
  unfold State.slotAct; try dsimp only
  repeat' (first
    | with_reducible assumption | with_reducible refine State.updSlot_good _ _ _ ?_
    | with_reducible refine State.enableUnit_good _ _ _ ?_ | with_reducible refine State.chbForceNow_good _ _ _ ?_
    | with_reducible refine State.ov3Join_good _ _ _ ?_ | with_reducible refine State.updUnit_good _ _ _ _ ?_
    | with_reducible refine State.stopUnitNow_good _ _ _ ?_
    | with_reducible refine State.stopUnitFrom_good _ _ _ _ ?_
    | with_reducible refine State.bypassSlot_good _ _ ?_ | with_reducible refine State.insertSpare_good _ _ ?_
    | with_reducible refine State.clearUnit_good _ _ _ ?_
    | with_reducible refine State.each_good _ _ _ (fun _ _ _ => ?_) ?_ | split)
theorem State.actStops_good {Q : Claim} (s : State) (k : Nat) (h : s.Good Q) :
    (State.actStops s k).Good Q := by
  unfold State.actStops; try dsimp only
  repeat' (first
    | with_reducible assumption | with_reducible refine State.stopUnitNow_good _ _ _ ?_
    | with_reducible refine State.each_good _ _ _ (fun _ _ _ => ?_) ?_ | split)
theorem State.actCmds_good {Q : Claim} (s : State) (k : Nat) (h : s.Good Q) :
    (State.actCmds s k).Good Q := by
  unfold State.actCmds; try dsimp only
  repeat' (first
    | with_reducible assumption | with_reducible refine State.actStops_good _ _ ?_
    | with_reducible refine State.slotAct_good _ _ _ ?_
    | with_reducible refine State.each_good _ _ _ (fun _ _ _ => ?_) ?_ | split)
theorem State.commitPoint_good {Q : Claim} (s : State) (k : Nat) (n : Nat) (start : Bool) (h : s.Good Q) :
    (State.commitPoint s k n start).Good Q := by
  unfold State.commitPoint; try dsimp only
  repeat' (first
    | with_reducible assumption | with_reducible refine State.commit_good _ _ _ _ ?_
    | with_reducible refine State.updCar_good _ _ _ ?_ | with_reducible refine State.endLate_good _ _ ?_
    | with_reducible refine State.takeForce_good _ _ ?_ | with_reducible refine State.compareLeg_good _ _ ?_
    | with_reducible refine State.bindLeg_good _ _ ?_ | with_reducible refine State.settleBarred_good _ _ ?_
    | with_reducible refine State.settleLeg_good _ _ ?_ | with_reducible refine State.actCmds_good _ _ ?_
    | with_reducible refine State.glideStep_good _ _ _ ?_
    | with_reducible refine State.each_good _ _ _ (fun _ _ _ => ?_) ?_ | split)
theorem State.carrierStart_good {Q : Claim} (s : State) (k : Nat) (h : s.Good Q) :
    (State.carrierStart s k).Good Q := by
  unfold State.carrierStart; try dsimp only
  repeat' (first
    | with_reducible assumption | with_reducible refine State.upTo_good _ _ ?_
    | with_reducible refine State.updCar_good _ _ _ ?_ | with_reducible refine State.updLeg_good _ _ _ ?_
    | with_reducible refine State.commitPoint_good _ _ _ _ ?_
    | with_reducible refine State.carrierReleases_good _ _ _ ?_
    | with_reducible refine State.carrierTriggers_good _ _ _ ?_
    | with_reducible refine State.each_good _ _ _ (fun _ _ _ => ?_) ?_ | split)
theorem State.rearm_good {Q : Claim} (s : State) (i : Nat) (k : Nat) (h : s.Good Q) :
    (State.rearm s i k).Good Q := by
  unfold State.rearm; try dsimp only
  repeat' (first
    | with_reducible assumption | with_reducible refine State.armCar_good _ _ ?_
    | with_reducible refine State.wr_good _ _ _ ?_)
theorem State.carrierValley_good {Q : Claim} (s : State) (k : Nat) (h : s.Good Q) :
    (State.carrierValley s k).Good Q := by
  unfold State.carrierValley; try dsimp only
  repeat' (first
    | with_reducible assumption | with_reducible refine State.upTo_good _ _ ?_
    | with_reducible refine State.updCar_good _ _ _ ?_ | with_reducible refine State.commitPoint_good _ _ _ _ ?_
    | with_reducible refine State.carrierReleases_good _ _ _ ?_
    | with_reducible refine State.carrierTriggers_good _ _ _ ?_ | with_reducible refine State.rearm_good _ _ _ ?_
    | split)
theorem State.carrierPeak_good {Q : Claim} (s : State) (k : Nat) (h : s.Good Q) :
    (State.carrierPeak s k).Good Q := by
  unfold State.carrierPeak; try dsimp only
  repeat' (first
    | with_reducible assumption | with_reducible refine State.upTo_good _ _ ?_
    | with_reducible refine State.updCar_good _ _ _ ?_ | with_reducible refine State.commitPoint_good _ _ _ _ ?_
    | with_reducible refine State.carrierReleases_good _ _ _ ?_
    | with_reducible refine State.carrierTriggers_good _ _ _ ?_ | split)
theorem State.applyOwn_good {Q : Claim} (s : State) (l : Nat) (h : s.Good Q) :
    (State.applyOwn s l).Good Q := by
  unfold State.applyOwn; try dsimp only
  repeat' (first
    | with_reducible assumption | with_reducible refine State.updLeg_good _ _ _ ?_
    | with_reducible refine State.takeForce_good _ _ ?_ | split)
theorem State.legOwnPeak_good {Q : Claim} (s : State) (l : Nat) (h : s.Good Q) :
    (State.legOwnPeak s l).Good Q := by
  unfold State.legOwnPeak; try dsimp only
  repeat' (first
    | with_reducible assumption | with_reducible refine good_ite ?_ ?_
    | with_reducible refine State.upTo_good _ _ ?_ | with_reducible refine State.updLeg_good _ _ _ ?_
    | with_reducible refine State.applyOwn_good _ _ ?_ | with_reducible refine State.compareLeg_good _ _ ?_
    | with_reducible refine State.settleBarred_good _ _ ?_ | with_reducible refine State.settleLeg_good _ _ ?_
    | with_reducible refine State.doSoon_good _ _ ?_ | with_reducible refine State.cutNext_good _ _ ?_
    | with_reducible refine State.updGg_good _ _ _ ?_ ?_
    | exact lowers_id (fun _ => rfl) (fun _ => rfl) (fun _ => rfl) (fun _ => rfl) (fun _ => rfl)
    | exact lowers_low (fun _ => Guard.drop_gh _ _) (fun _ => Guard.drop_gl _ _) | exact follow_lowers _ _ _ | exact lowers_of (fun _ => rfl) (fun _ => rfl) (fun g h => by simp only [Bool.or_eq_false_iff] at h ⊢; simp [h]) | with_reducible refine State.each_good _ _ _ (fun _ _ _ => ?_) ?_
    | dsimp only | split | with_reducible refine good_with ?_ ?_ | exact (rfl : (_ : Fuses) = _))
theorem State.legOwnValley_good {Q : Claim} (s : State) (l : Nat) (h : s.Good Q) :
    (State.legOwnValley s l).Good Q := by
  unfold State.legOwnValley; try dsimp only
  repeat' (first
    | with_reducible assumption | with_reducible refine State.updLeg_good _ _ _ ?_
    | with_reducible refine State.upTo_good _ _ ?_ | with_reducible refine State.applyOwn_good _ _ ?_
    | with_reducible refine State.compareLeg_good _ _ ?_ | with_reducible refine State.settleBarred_good _ _ ?_
    | with_reducible refine State.settleLeg_good _ _ ?_ | split)
theorem State.legEdge_good {Q : Claim} (s : State) (l : Nat) (h : s.Good Q) :
    (State.legEdge s l).Good Q := by
  unfold State.legEdge; try dsimp only
  repeat' (first
    | with_reducible assumption | with_reducible refine State.upTo_good _ _ ?_
    | with_reducible refine State.settleLeg_good _ _ ?_ | with_reducible refine State.compareLeg_good _ _ ?_
    | split)
theorem State.bootEnd_good {Q : Claim} (s : State) (l : Nat) (h : s.Good Q) :
    (State.bootEnd s l).Good Q := by
  unfold State.bootEnd; try dsimp only
  repeat' (first
    | with_reducible assumption | with_reducible refine State.settleLeg_good _ _ ?_
    | with_reducible refine State.updLeg_good _ _ _ ?_ | with_reducible refine State.upTo_good _ _ ?_ | split)
theorem State.pklCut_good {Q : Claim} (s : State) (src : Nat) (stream : List Bool) (v : Int) (t : Nat) (h : s.Good Q) :
    (State.pklCut s src stream v t).Good Q := by
  unfold State.pklCut; try dsimp only
  repeat' (first
    | with_reducible assumption | with_reducible refine State.upTo_good _ _ ?_
    | with_reducible refine State.compareMd_good _ _ _ ?_ | with_reducible refine State.mdPublish_good _ _ _ ?_
    | with_reducible refine State.compareCmp_good _ _ _ ?_ | with_reducible refine State.cutNext_good _ _ ?_
    | with_reducible refine State.each_good _ _ _ (fun _ _ _ => ?_) ?_ | split)
theorem State.pwmParity_good {Q : Claim} (s : State) (carrier : Bool) (i : Nat) (h : s.Good Q) :
    (State.pwmParity s carrier i).Good Q := by
  unfold State.pwmParity; try dsimp only
  repeat' (first
    | with_reducible assumption | with_reducible refine State.updCar_good _ _ _ ?_
    | with_reducible refine State.raise_good _ _ _ ?_ | with_reducible refine State.settleLeg_good _ _ ?_
    | with_reducible refine State.updLeg_good _ _ _ ?_
    | with_reducible refine State.each_good _ _ _ (fun _ _ _ => ?_) ?_ | split)
theorem State.ownForce_good {Q : Claim} (s : State) (l : Nat) (v : Nat) (h : s.Good Q) :
    goodOwn Q (State.ownForce s l v) := by
  unfold State.ownForce; try dsimp only
  repeat' (first
    | with_reducible assumption | simp only [goodOwn_error_eq] | simp only [goodOwn_ok_eq]
    | with_reducible refine State.forceLeg_good _ _ _ _ ?_ | with_reducible refine State.wr_good _ _ _ ?_ | split)
theorem State.ownDuty_good {Q : Claim} (s : State) (l : Nat) (v : Nat) (h : s.Good Q) :
    goodOwn Q (State.ownDuty s l v) := by
  unfold State.ownDuty; try dsimp only
  repeat' (first
    | with_reducible assumption | simp only [goodOwn_error_eq] | simp only [goodOwn_ok_eq]
    | with_reducible refine State.stageDuty_good _ _ _ ?_ | split)
theorem State.ownPhase_good {Q : Claim} (s : State) (l : Nat) (v : Nat) (h : s.Good Q) :
    goodOwn Q (State.ownPhase s l v) := by
  unfold State.ownPhase; try dsimp only
  repeat' (first
    | with_reducible assumption | simp only [goodOwn_error_eq] | simp only [goodOwn_ok_eq]
    | with_reducible refine State.stagePhase_good _ _ _ ?_ | split)
theorem State.ownLegCfg_good {Q : Claim} (s : State) (l : Nat) (r : Reg) (v : Nat) (h : s.Good Q) :
    goodOwn Q (State.ownLegCfg s l r v) := by
  unfold State.ownLegCfg; try dsimp only
  repeat' (first
    | with_reducible assumption | simp only [goodOwn_error_eq] | simp only [goodOwn_ok_eq]
    | with_reducible refine State.wr_good _ _ _ ?_ | split)
theorem State.ownPklSrc_good {Q : Claim} (s : State) (l : Nat) (v : Nat) (h : s.Good Q) :
    goodOwn Q (State.ownPklSrc s l v) := by
  unfold State.ownPklSrc; try dsimp only
  repeat' (first
    | with_reducible assumption | simp only [goodOwn_ok_eq] | with_reducible refine State.cutNext_good _ _ ?_
    | with_reducible refine State.wr_good _ _ _ ?_)
theorem State.ownLegClr_good {Q : Claim} (s : State) (l : Nat) (v : Nat) (h : s.Good Q) :
    goodOwn Q (State.ownLegClr s l v) := by
  unfold State.ownLegClr; try dsimp only
  repeat' (first
    | with_reducible assumption | simp only [goodOwn_ok_eq] | with_reducible refine State.updLeg_good _ _ _ ?_)

end Sys2Proof.Machine
end

