-- ==== Sys2Proof/Laws/GoodGuards.lean ====
section
/-! SUPPORT. What gate-guard events, strings, lanes and time keep, one lemma each (see Laws/Good.lean). -/

namespace Sys2Proof.Machine

theorem State.fkDecide_good {Q : Claim} (s : State) (l : Nat) (h : s.Good Q) :
    (State.fkDecide s l).Good Q := by
  unfold State.fkDecide; try dsimp only
  repeat' (first
    | with_reducible assumption | with_reducible refine State.safeOff_good _ _ _ _ _ _ ?_
    | with_reducible refine State.raise_good _ _ _ ?_ | with_reducible refine State.updGg_good _ _ _ ?_ ?_
    | exact lowers_of (fun _ => rfl) (fun _ => rfl) (fun g h => by simp only [Bool.or_eq_false_iff] at h ⊢; simp [h])
    | split)
theorem State.fkJudge_good {Q : Claim} (s : State) (l : Nat) (h : s.Good Q) :
    (State.fkJudge s l).Good Q := by
  unfold State.fkJudge; try dsimp only
  repeat' (first
    | with_reducible assumption | with_reducible refine State.fkDecide_good _ _ ?_
    | with_reducible refine State.raise_good _ _ _ ?_ | with_reducible refine State.updGg_good _ _ _ ?_ ?_
    | exact lowers_of (fun _ => rfl) (fun _ => rfl) (fun g h => by simp only [Bool.or_eq_false_iff] at h ⊢; simp [h])
    | split)
theorem State.fkAssert_good {Q : Claim} (s : State) (l : Nat) (t : Nat) (h : s.Good Q) :
    (State.fkAssert s l t).Good Q := by
  unfold State.fkAssert; try dsimp only
  repeat' (first
    | with_reducible assumption | with_reducible refine State.upTo_good _ _ ?_
    | with_reducible refine State.updGg_good _ _ _ ?_ ?_
    | exact lowers_of (fun _ => rfl) (fun _ => rfl) (fun g h => by simp only [Bool.or_eq_false_iff] at h ⊢; simp [h])
    | dsimp only | split)
theorem State.fkRelease_good {Q : Claim} (s : State) (l : Nat) (t : Nat) (h : s.Good Q) :
    (State.fkRelease s l t).Good Q := by
  unfold State.fkRelease; try dsimp only
  repeat' (first
    | with_reducible assumption | with_reducible refine State.upTo_good _ _ ?_
    | with_reducible refine State.raise_good _ _ _ ?_ | with_reducible refine State.updGg_good _ _ _ ?_ ?_
    | exact lowers_of (fun _ => rfl) (fun _ => rfl) (fun g h => by simp only [Bool.or_eq_false_iff] at h ⊢; simp [h])
    | split)
theorem State.fkDecision_good {Q : Claim} (s : State) (l : Nat) (h : s.Good Q) :
    (State.fkDecision s l).Good Q := by
  unfold State.fkDecision; try dsimp only
  repeat' (first
    | with_reducible assumption | with_reducible refine State.fkJudge_good _ _ ?_
    | with_reducible refine State.upTo_good _ _ ?_ | with_reducible refine State.fkDecide_good _ _ ?_ | split)
theorem State.fkHard_good {Q : Claim} (s : State) (l : Nat) (h : s.Good Q) :
    (State.fkHard s l).Good Q := by
  unfold State.fkHard; try dsimp only
  repeat' (first
    | with_reducible assumption | with_reducible refine State.fkJudge_good _ _ ?_
    | with_reducible refine State.upTo_good _ _ ?_ | split)
theorem State.blankingEnd_good {Q : Claim} (s : State) (l : Nat) (h : s.Good Q) :
    (State.blankingEnd s l).Good Q := by
  unfold State.blankingEnd; try dsimp only
  repeat' (first
    | with_reducible assumption | with_reducible refine State.fkJudge_good _ _ ?_
    | with_reducible refine State.upTo_good _ _ ?_ | split)
theorem State.supplyExpiry_good {Q : Claim} (s : State) (l : Nat) (h : s.Good Q) :
    (State.supplyExpiry s l).Good Q := by
  unfold State.supplyExpiry; try dsimp only
  repeat' (first
    | with_reducible assumption | with_reducible refine State.upTo_good _ _ ?_
    | with_reducible refine State.fkJudge_good _ _ ?_ | with_reducible refine State.updGg_good _ _ _ ?_ ?_
    | exact lowers_of (fun _ => rfl) (fun _ => rfl) (fun g h => by simp only [Bool.or_eq_false_iff] at h ⊢; simp [h])
    | split)
theorem State.fkNowLive_good {Q : Claim} (s : State) (ls : List Nat) (h : s.Good Q) :
    (State.fkNowLive s ls).Good Q := by
  unfold State.fkNowLive; try dsimp only
  repeat' (first
    | with_reducible assumption | with_reducible refine State.fkDecide_good _ _ ?_
    | with_reducible refine State.each_good _ _ _ (fun _ _ _ => ?_) ?_ | split)
theorem State.gateRelease_good {Q : Claim} (s : State) (l : Nat) (gh : Bool) (ht : Q.top l gh = true) (h : s.Good Q) :
    (s.gateRelease l gh).Good Q := by
  unfold State.gateRelease
  dsimp only
  replace h := State.upTo_good s (s.riseAt l gh) h
  generalize s.upTo (s.riseAt l gh) = s at h ⊢
  cases gh
  all_goals
    simp only [Bool.false_eq_true, if_false, if_true]
    split
    · next c =>
      simp only [Bool.and_eq_true, Bool.not_eq_true', State.gateFree, decide_eq_true_eq] at c
      refine updGg_raise _ l _ _ ht (fun o => ?_) (fun _ => rfl) (fun _ => rfl) (State.at__good _ _ h)
      rw [show ∀ t, (s.at_ t).gg l = s.gg l from fun _ => rfl] at o ⊢
      revert o
      simp only [Guard.obeys, c]
      simp_all
    · exact h
theorem State.snTransition_good {Q : Claim} (s : State) (l : Nat) (t : Nat) (high : Bool) (h : s.Good Q) :
    (State.snTransition s l t high).Good Q := by
  unfold State.snTransition; try dsimp only
  repeat' (first
    | with_reducible assumption | with_reducible refine State.upTo_good _ _ ?_
    | with_reducible refine State.updGg_good _ _ _ ?_ ?_
    | exact lowers_of (fun _ => rfl) (fun _ => rfl) (fun g h => by simp only [Bool.or_eq_false_iff] at h ⊢; simp [h])
    | dsimp only | split)
theorem State.snExpiry_good {Q : Claim} (s : State) (l : Nat) (h : s.Good Q) :
    (State.snExpiry s l).Good Q := by
  unfold State.snExpiry; try dsimp only
  repeat' (first
    | with_reducible assumption | with_reducible refine State.upTo_good _ _ ?_
    | with_reducible refine State.raise_good _ _ _ ?_ | with_reducible refine State.updGg_good _ _ _ ?_ ?_
    | exact lowers_of (fun _ => rfl) (fun _ => rfl) (fun g h => by simp only [Bool.or_eq_false_iff] at h ⊢; simp [h])
    | split)
theorem State.ggParity_good {Q : Claim} (s : State) (l : Nat) (word : Bool) (h : s.Good Q) :
    (State.ggParity s l word).Good Q := by
  unfold State.ggParity; try dsimp only
  repeat' (first
    | with_reducible assumption | with_reducible refine State.xholdEnd_good _ _ ?_
    | with_reducible refine State.xcmd_good _ _ ?_ | with_reducible refine State.raise_good _ _ _ ?_
    | with_reducible refine State.safeOff_good _ _ _ _ _ _ ?_ | with_reducible refine State.lowerLeg_good _ _ ?_
    | split)
theorem State.carriersOff_good {Q : Claim} (s : State) (h : s.Good Q) :
    (State.carriersOff s).Good Q := by
  unfold State.carriersOff; try dsimp only
  repeat' (first
    | with_reducible assumption | with_reducible refine State.carLeft_good _ _ ?_
    | with_reducible refine State.updCar_good _ _ _ ?_ | with_reducible refine State.discardStarts_good _ ?_
    | with_reducible refine State.each_good _ _ _ (fun _ _ _ => ?_) ?_ | split)
theorem State.pwmLost_good {Q : Claim} (s : State) (h : s.Good Q) :
    (State.pwmLost s).Good Q := by
  unfold State.pwmLost; try dsimp only
  repeat' (first
    | with_reducible assumption | with_reducible refine State.lowerLeg_good _ _ ?_
    | with_reducible refine State.latchLeg_good _ _ ?_ | with_reducible refine State.raise_good _ _ _ ?_
    | with_reducible refine State.carriersOff_good _ ?_ | with_reducible refine State.updGg_good _ _ _ ?_ ?_
    | exact lowers_id (fun _ => rfl) (fun _ => rfl) (fun _ => rfl) (fun _ => rfl) (fun _ => rfl)
    | exact lowers_low (fun _ => Guard.drop_gh _ _) (fun _ => Guard.drop_gl _ _) | exact follow_lowers _ _ _ | exact lowers_of (fun _ => rfl) (fun _ => rfl) (fun g h => by simp only [Bool.or_eq_false_iff] at h ⊢; simp [h]) | with_reducible refine State.each_good _ _ _ (fun _ _ _ => ?_) ?_
    | dsimp only | split | with_reducible refine good_with ?_ ?_ | exact (rfl : (_ : Fuses) = _))
theorem State.ownDt_good {Q : Claim} (s : State) (l : Nat) (r : Reg) (v : Nat) (h : s.Good Q) :
    goodOwn Q (State.ownDt s l r v) := by
  unfold State.ownDt; try dsimp only
  repeat' (first
    | with_reducible assumption | simp only [goodOwn_error_eq] | simp only [goodOwn_ok_eq]
    | with_reducible refine goodOwn_ite ?_ ?_ | with_reducible refine State.wr_good _ _ _ ?_
    | with_reducible refine State.resetDt_good _ _ ?_ | with_reducible refine State.fkRelease_good _ _ _ ?_
    | with_reducible refine State.fkAssert_good _ _ _ ?_ | with_reducible refine State.updGg_good _ _ _ ?_ ?_
    | exact lowers_low (fun _ => Guard.drop_gh _ _) (fun _ => Guard.drop_gl _ _)
    | exact follow_lowers _ _ _ | exact lowers_of (fun _ => rfl) (fun _ => rfl) (fun g h => by simp only [Bool.or_eq_false_iff] at h ⊢; simp [h]) | dsimp only | split)
theorem State.ownBlank_good {Q : Claim} (s : State) (l : Nat) (v : Nat) (h : s.Good Q) :
    goodOwn Q (State.ownBlank s l v) := by
  unfold State.ownBlank; try dsimp only
  repeat' (first
    | with_reducible assumption | simp only [goodOwn_error_eq] | simp only [goodOwn_ok_eq]
    | with_reducible refine State.wr_good _ _ _ ?_ | split)
theorem State.ownSlotTime_good {Q : Claim} (s : State) (c : Nat) (r : Reg) (v : Nat) (h : s.Good Q) :
    goodOwn Q (State.ownSlotTime s c r v) := by
  unfold State.ownSlotTime; try dsimp only
  repeat' (first
    | with_reducible assumption | simp only [goodOwn_error_eq] | simp only [goodOwn_ok_eq]
    | with_reducible refine State.wr_good _ _ _ ?_ | split)
theorem State.ownGgClr_good {Q : Claim} (s : State) (l : Nat) (v : Nat) (h : s.Good Q) :
    goodOwn Q (State.ownGgClr s l v) := by
  unfold State.ownGgClr; try dsimp only
  repeat' (first
    | with_reducible assumption | simp only [goodOwn_ok_eq] | with_reducible refine State.updGg_good _ _ _ ?_ ?_
    | exact lowers_low (fun _ => Guard.drop_gh _ _) (fun _ => Guard.drop_gl _ _)
    | exact follow_lowers _ _ _ | exact lowers_of (fun _ => rfl) (fun _ => rfl) (fun g h => by simp only [Bool.or_eq_false_iff] at h ⊢; simp [h]) | dsimp only | split)
theorem State.setMembers_good {Q : Claim} (s : State) (i : Nat) (ms : List Member) (ok : Bool) (h : s.Good Q) :
    (State.setMembers s i ms ok).Good Q := by
  unfold State.setMembers; try dsimp only
  repeat' (first
    | with_reducible assumption | with_reducible refine State.updStr_good _ _ _ ?_
    | with_reducible refine State.raise_good _ _ _ ?_ | split)
theorem State.rollStrings_good {Q : Claim} (s : State) (others : List StrReport) (h : s.Good Q) :
    (State.rollStrings s others).Good Q := by
  unfold State.rollStrings; try dsimp only
  repeat' (first
    | with_reducible assumption | with_reducible refine State.setMembers_good _ _ _ _ ?_
    | with_reducible refine State.each_good _ _ _ (fun _ _ _ => ?_) ?_ | split)
theorem State.formMean_good {Q : Claim} (s : State) (i : Nat) (h : s.Good Q) :
    (State.formMean s i).Good Q := by
  unfold State.formMean; try dsimp only
  repeat' (first
    | with_reducible assumption | with_reducible refine State.updStr_good _ _ _ ?_ | split)
theorem State.pcAbort_good {Q : Claim} (s : State) (i : Nat) (h : s.Good Q) :
    (State.pcAbort s i).Good Q := by
  unfold State.pcAbort; try dsimp only
  repeat' (first
    | with_reducible assumption | with_reducible refine State.stopString_good _ _ ?_
    | with_reducible refine State.raise_good _ _ _ ?_)
theorem State.pcWatch_good {Q : Claim} (s : State) (h : s.Good Q) :
    (State.pcWatch s).Good Q := by
  unfold State.pcWatch; try dsimp only
  repeat' (first
    | with_reducible assumption | with_reducible refine State.pcAbort_good _ _ ?_
    | with_reducible refine State.each_good _ _ _ (fun _ _ _ => ?_) ?_ | split)
theorem State.restartCar_good {Q : Claim} (s : State) (i : Nat) (k : Nat) (T : Nat) (h : s.Good Q) :
    (State.restartCar s i k T).Good Q := by
  unfold State.restartCar; try dsimp only
  repeat' (first
    | with_reducible assumption | with_reducible refine State.wr_good _ _ _ ?_
    | with_reducible refine State.armCar_good _ _ ?_ | with_reducible refine State.haltCar_good _ _ ?_ | split)
theorem State.strPrecharge_good {Q : Claim} (s : State) (i : Nat) (T : Nat) (h : s.Good Q) :
    (State.strPrecharge s i T).Good Q := by
  unfold State.strPrecharge; try dsimp only
  repeat' (first
    | with_reducible assumption | with_reducible refine State.updStr_good _ _ _ ?_
    | with_reducible refine State.updUnit_good _ _ _ _ ?_ | with_reducible refine State.wr_good _ _ _ ?_
    | with_reducible refine State.restartCar_good _ _ _ _ ?_ | with_reducible refine State.tellN_good _ _ ?_
    | with_reducible refine State.each_good _ _ _ (fun _ _ _ => ?_) ?_)
theorem State.strMain_good {Q : Claim} (s : State) (i : Nat) (h : s.Good Q) :
    (State.strMain s i).Good Q := by
  unfold State.strMain; try dsimp only
  repeat' (first
    | with_reducible assumption | with_reducible refine State.formMean_good _ _ ?_
    | with_reducible refine State.updStr_good _ _ _ ?_
    | with_reducible refine State.sendString_good _ _ _ _ _ _ ?_
    | with_reducible refine State.updSlot_good _ _ _ ?_ | with_reducible refine State.discardAll_good _ _ ?_
    | with_reducible refine State.each_good _ _ _ (fun _ _ _ => ?_) ?_ | split)
theorem State.pcFree_good {Q : Claim} (s : State) (i : Nat) (h : s.Good Q) :
    (State.pcFree s i).Good Q := by
  unfold State.pcFree; try dsimp only
  repeat' (first
    | with_reducible assumption | with_reducible refine State.updStr_good _ _ _ ?_
    | with_reducible refine State.chbForce_good _ _ _ ?_
    | with_reducible refine State.each_good _ _ _ (fun _ _ _ => ?_) ?_ | split)
theorem State.pcDone_good {Q : Claim} (s : State) (i : Nat) (h : s.Good Q) :
    (State.pcDone s i).Good Q := by
  unfold State.pcDone; try dsimp only
  repeat' (first
    | with_reducible assumption | with_reducible refine State.updStr_good _ _ _ ?_
    | with_reducible refine State.updUnit_good _ _ _ _ ?_
    | with_reducible refine State.each_good _ _ _ (fun _ _ _ => ?_) ?_ | split)
theorem State.pcSet_good {Q : Claim} (s : State) (i : Nat) (h : s.Good Q) :
    (State.pcSet s i).Good Q := by
  unfold State.pcSet; try dsimp only
  repeat' (first
    | with_reducible assumption | with_reducible refine State.hostIn_good _ _ _ _ ?_ | split)
theorem State.strTick_good {Q : Claim} (s : State) (i : Nat) (h : s.Good Q) :
    (State.strTick s i).Good Q := by
  unfold State.strTick; try dsimp only
  repeat' (first
    | with_reducible assumption | with_reducible refine State.pcAbort_good _ _ ?_
    | with_reducible refine State.updStr_good _ _ _ ?_ | with_reducible refine State.pcSet_good _ _ ?_
    | with_reducible refine State.pcDone_good _ _ ?_ | split)
theorem State.ownStrCmd_good {Q : Claim} (s : State) (i : Nat) (v : Nat) (h : s.Good Q) :
    goodOwn Q (State.ownStrCmd s i v) := by
  unfold State.ownStrCmd; try dsimp only
  repeat' (first
    | with_reducible assumption | simp only [goodOwn_error_eq] | simp only [goodOwn_ok_eq]
    | with_reducible refine State.sendString_good _ _ _ _ _ _ ?_
    | with_reducible refine State.updStr_good _ _ _ ?_ | split)
theorem State.strApply_good {Q : Claim} (s : State) (i : Nat) (h : s.Good Q) :
    (State.strApply s i).Good Q := by
  unfold State.strApply; try dsimp only
  repeat' (first
    | with_reducible assumption | with_reducible refine State.at__good _ _ ?_
    | with_reducible refine State.updStr_good _ _ _ ?_ | with_reducible refine State.strPrecharge_good _ _ _ ?_
    | with_reducible refine State.strMain_good _ _ ?_ | with_reducible refine State.stopMembers_good _ _ _ ?_
    | split)
theorem State.strBlock_good {Q : Claim} (s : State) (i : Nat) (h : s.Good Q) :
    (State.strBlock s i).Good Q := by
  unfold State.strBlock; try dsimp only
  repeat' (first
    | with_reducible assumption | with_reducible refine State.updStr_good _ _ _ ?_
    | with_reducible refine State.chbForce_good _ _ _ ?_
    | with_reducible refine State.each_good _ _ _ (fun _ _ _ => ?_) ?_ | split)
theorem State.strRelease_good {Q : Claim} (s : State) (i : Nat) (h : s.Good Q) :
    (State.strRelease s i).Good Q := by
  unfold State.strRelease; try dsimp only
  repeat' (first
    | with_reducible assumption | with_reducible refine State.updStr_good _ _ _ ?_
    | with_reducible refine State.chbForce_good _ _ _ ?_ | with_reducible refine State.pcFree_good _ _ ?_
    | with_reducible refine State.each_good _ _ _ (fun _ _ _ => ?_) ?_ | split)
theorem State.trackStep_good {Q : Claim} (s : State) (i : Nat) (n : Nat) (old : List Nat) (h : s.Good Q) :
    (State.trackStep s i n old).Good Q := by
  unfold State.trackStep; try dsimp only
  repeat' (first
    | with_reducible assumption | with_reducible refine good_ite ?_ ?_
    | with_reducible refine State.updStr_good _ _ _ ?_ | with_reducible refine State.raise_good _ _ _ ?_
    | with_reducible refine State.sendString_good _ _ _ _ _ _ ?_ | with_reducible refine State.pcFree_good _ _ ?_
    | with_reducible refine State.pcAbort_good _ _ ?_ | with_reducible refine State.strBlock_good _ _ ?_
    | with_reducible refine State.strRelease_good _ _ ?_)
theorem State.strAfterRun_good {Q : Claim} (s : State) (n : Nat) (old : List Nat) (h : s.Good Q) :
    (State.strAfterRun s n old).Good Q := by
  unfold State.strAfterRun; try dsimp only
  repeat' (first
    | with_reducible assumption | with_reducible refine State.trackStep_good _ _ _ _ ?_
    | with_reducible refine State.each_good _ _ _ (fun _ _ _ => ?_) ?_)
theorem State.afterRun_good {Q : Claim} (s0 : State) (s : State) (n : Nat) (h : s0.Good Q) (h1 : s.Good Q) :
    (State.afterRun s0 s n).Good Q := by
  unfold State.afterRun; try dsimp only
  repeat' (first
    | with_reducible assumption | with_reducible refine State.strAfterRun_good _ _ _ ?_
    | with_reducible refine State.lvAfterRun_good _ _ _ ?_ | split)
theorem State.listenOver_good {Q : Claim} (s : State) (e : Nat) (h : s.Good Q) :
    (State.listenOver s e).Good Q := by
  unfold State.listenOver; try dsimp only
  repeat' (first
    | with_reducible assumption | with_reducible refine State.afterRun_good _ _ _ ?_ ?_
    | with_reducible refine State.endRun_good _ _ ?_ | with_reducible refine State.drvFail_good _ _ _ ?_
    | with_reducible refine State.at__good _ _ ?_ | split)
theorem State.pcTimeout_good {Q : Claim} (s : State) (i : Nat) (h : s.Good Q) :
    (State.pcTimeout s i).Good Q := by
  unfold State.pcTimeout; try dsimp only
  repeat' (first
    | with_reducible assumption | with_reducible refine State.pcAbort_good _ _ ?_
    | with_reducible refine State.at__good _ _ ?_ | split)
theorem State.bypCheck_good {Q : Claim} (s : State) (i : Nat) (h : s.Good Q) :
    (State.bypCheck s i).Good Q := by
  unfold State.bypCheck; try dsimp only
  repeat' (first
    | with_reducible assumption | with_reducible refine State.at__good _ _ ?_
    | with_reducible refine State.updStr_good _ _ _ ?_ | with_reducible refine State.stopString_good _ _ ?_
    | with_reducible refine State.raise_good _ _ _ ?_ | split)
theorem State.homeLost_good {Q : Claim} (s : State) (i : Nat) (h : s.Good Q) :
    (State.homeLost s i).Good Q := by
  unfold State.homeLost; try dsimp only
  repeat' (first
    | with_reducible assumption | with_reducible refine State.raise_good _ _ _ ?_
    | with_reducible refine State.updStr_good _ _ _ ?_ | with_reducible refine State.stopMembers_good _ _ _ ?_
    | split)
theorem State.rideOut_good {Q : Claim} (s : State) (i : Nat) (h : s.Good Q) :
    (State.rideOut s i).Good Q := by
  unfold State.rideOut; try dsimp only
  repeat' (first
    | with_reducible assumption | with_reducible refine State.at__good _ _ ?_
    | with_reducible refine State.stopString_good _ _ ?_ | with_reducible refine State.raise_good _ _ _ ?_ | split)
theorem State.balance_good {Q : Claim} (s : State) (i : Nat) (c : Nat) (h : s.Good Q) :
    (State.balance s i c).Good Q := by
  unfold State.balance; try dsimp only
  repeat' (first
    | with_reducible assumption | with_reducible refine State.updStr_good _ _ _ ?_
    | with_reducible refine State.raise_good _ _ _ ?_ | split)
theorem State.safeOffRecord_good {Q : Claim} (s : State) (i : Nat) (node : Nat) (slot : Nat) (T : Nat) (die : Bool) (h : s.Good Q) :
    (State.safeOffRecord s i node slot T die).Good Q := by
  unfold State.safeOffRecord; try dsimp only
  repeat' (first
    | with_reducible assumption | with_reducible refine State.addRecord_good _ _ _ ?_
    | with_reducible refine State.pcAbort_good _ _ ?_ | split)
theorem State.recordExpiry_good {Q : Claim} (s : State) (h : s.Good Q) :
    (State.recordExpiry s).Good Q := by
  unfold State.recordExpiry; try dsimp only
  repeat' (first
    | with_reducible assumption | with_reducible refine State.at__good _ _ ?_ | split
    | with_reducible refine good_with ?_ ?_ | exact (rfl : (_ : Fuses) = _))
theorem State.stringRecord_good {Q : Claim} (s : State) (node : Nat) (kind : Nat) (id : Nat) (slot : Nat) (flag : Nat) (T : Nat) (h : s.Good Q) :
    (State.stringRecord s node kind id slot flag T).Good Q := by
  unfold State.stringRecord; try dsimp only
  repeat' (first
    | with_reducible assumption | with_reducible refine State.safeOffRecord_good _ _ _ _ _ _ ?_
    | with_reducible refine State.tripString_good _ _ _ ?_ | with_reducible refine State.updStr_good _ _ _ ?_
    | with_reducible refine State.stopMembers_good _ _ _ ?_ | with_reducible refine State.strBlock_good _ _ ?_
    | with_reducible refine State.strRelease_good _ _ ?_
    | with_reducible refine State.each_good _ _ _ (fun _ _ _ => ?_) ?_ | split
    | with_reducible refine good_with ?_ ?_ | exact (rfl : (_ : Fuses) = _))
theorem State.stringState_good {Q : Claim} (s : State) (i : Nat) (node : Nat) (states : List (Nat × Nat)) (sum : Nat) (n : Nat) (passive : Bool) (tol : Bool) (h : s.Good Q) :
    (State.stringState s i node states sum n passive tol).Good Q := by
  unfold State.stringState; try dsimp only
  repeat' (first
    | with_reducible assumption | with_reducible refine State.updStr_good _ _ _ ?_
    | with_reducible refine State.formMean_good _ _ ?_ | with_reducible refine State.applyLoss_good _ _ _ ?_
    | with_reducible refine State.each_good _ _ _ (fun _ _ _ => ?_) ?_ | split)
theorem State.strCycle_good {Q : Claim} (s : State) (i : Nat) (h : s.Good Q) :
    (State.strCycle s i).Good Q := by
  unfold State.strCycle; try dsimp only
  repeat' (first
    | with_reducible assumption | with_reducible refine State.formMean_good _ _ ?_
    | with_reducible refine State.updStr_good _ _ _ ?_ | with_reducible refine State.balance_good _ _ _ ?_
    | with_reducible refine State.each_good _ _ _ (fun _ _ _ => ?_) ?_ | split)
theorem State.seeUpstream_good {Q : Claim} (s : State) (h : s.Good Q) :
    (State.seeUpstream s).Good Q := by
  unfold State.seeUpstream; try dsimp only
  repeat' (first
    | with_reducible assumption | with_reducible refine good_with ?_ ?_ | exact (rfl : (_ : Fuses) = _))
theorem State.seeRing_good {Q : Claim} (s : State) (h : s.Good Q) :
    (State.seeRing s).Good Q := by
  unfold State.seeRing; try dsimp only
  repeat' (first
    | with_reducible assumption | with_reducible refine State.updRing_good _ _ ?_ | split)
theorem State.errOut_good {Q : Claim} (s : State) (cause : Nat) (mask : Nat) (h : s.Good Q) :
    (State.errOut s cause mask).Good Q := by
  unfold State.errOut; try dsimp only
  repeat' (first
    | with_reducible assumption | with_reducible refine State.emit_good _ _ ?_
    | with_reducible refine State.updLane_good _ _ _ ?_
    | with_reducible refine good_foldl _ _ (fun _ _ _ => ?_) _ ?_ | split)
theorem State.leaveUp_good {Q : Claim} (s : State) (n : Nat) (h : s.Good Q) :
    (State.leaveUp s n).Good Q := by
  unfold State.leaveUp; try dsimp only
  repeat' (first
    | with_reducible assumption | with_reducible refine State.raise_good _ _ _ ?_
    | with_reducible refine State.updRing_good _ _ ?_ | split)
theorem State.laneTo_good {Q : Claim} (s : State) (n : Nat) (st : LaneState) (h : s.Good Q) :
    (State.laneTo s n st).Good Q := by
  unfold State.laneTo; try dsimp only
  repeat' (first
    | with_reducible assumption | with_reducible refine State.seeRing_good _ ?_
    | with_reducible refine State.seeUpstream_good _ ?_ | with_reducible refine State.updLane_good _ _ _ ?_
    | with_reducible refine State.leaveUp_good _ _ ?_ | split)
theorem State.toLocking_good {Q : Claim} (s : State) (n : Nat) (h : s.Good Q) :
    (State.toLocking s n).Good Q := by
  unfold State.toLocking; try dsimp only
  repeat' (first
    | with_reducible assumption | with_reducible refine State.updLane_good _ _ _ ?_
    | with_reducible refine State.laneTo_good _ _ _ ?_)
theorem State.laneStart_good {Q : Claim} (s : State) (n : Nat) (h : s.Good Q) :
    (State.laneStart s n).Good Q := by
  unfold State.laneStart; try dsimp only
  repeat' (first
    | with_reducible assumption | with_reducible refine State.laneTo_good _ _ _ ?_
    | with_reducible refine State.toLocking_good _ _ ?_ | split)
theorem State.laneOff_good {Q : Claim} (s : State) (n : Nat) (h : s.Good Q) :
    (State.laneOff s n).Good Q := by
  unfold State.laneOff; try dsimp only
  repeat' (first
    | with_reducible assumption | with_reducible refine State.updLane_good _ _ _ ?_
    | with_reducible refine State.laneTo_good _ _ _ ?_)
theorem State.linkUp_good {Q : Claim} (s : State) (h : s.Good Q) :
    (State.linkUp s).Good Q := by
  unfold State.linkUp; try dsimp only
  repeat' (first
    | with_reducible assumption | with_reducible refine State.laneStart_good _ _ ?_
    | with_reducible refine State.each_good _ _ _ (fun _ _ _ => ?_) ?_ | split)
theorem State.linkDown_good {Q : Claim} (s : State) (h : s.Good Q) :
    (State.linkDown s).Good Q := by
  unfold State.linkDown; try dsimp only
  repeat' (first
    | with_reducible assumption | with_reducible refine State.laneOff_good _ _ ?_
    | with_reducible refine State.each_good _ _ _ (fun _ _ _ => ?_) ?_)
theorem State.linkRestart_good {Q : Claim} (s : State) (h : s.Good Q) :
    (State.linkRestart s).Good Q := by
  unfold State.linkRestart; try dsimp only
  repeat' (first
    | with_reducible assumption | with_reducible refine State.updLane_good _ _ _ ?_
    | with_reducible refine State.toLocking_good _ _ ?_
    | with_reducible refine State.each_good _ _ _ (fun _ _ _ => ?_) ?_ | split)
theorem State.ownLaneCtrl_good {Q : Claim} (s : State) (n : Nat) (v : Nat) (h : s.Good Q) :
    goodOwn Q (State.ownLaneCtrl s n v) := by
  unfold State.ownLaneCtrl; try dsimp only
  repeat' (first
    | with_reducible assumption | simp only [goodOwn_error_eq] | simp only [goodOwn_ok_eq]
    | with_reducible refine State.wr_good _ _ _ ?_ | with_reducible refine State.updLane_good _ _ _ ?_
    | with_reducible refine State.laneOff_good _ _ ?_ | with_reducible refine State.laneStart_good _ _ ?_
    | with_reducible refine State.laneTo_good _ _ _ ?_ | with_reducible refine State.toLocking_good _ _ ?_ | split)
theorem State.laneCntClr_good {Q : Claim} (s : State) (n : Nat) (h : s.Good Q) :
    (State.laneCntClr s n).Good Q := by
  unfold State.laneCntClr; try dsimp only
  repeat' (first
    | with_reducible assumption | with_reducible refine State.updLane_good _ _ _ ?_)
theorem State.ownLaneClr_good {Q : Claim} (s : State) (n : Nat) (v : Nat) (h : s.Good Q) :
    goodOwn Q (State.ownLaneClr s n v) := by
  unfold State.ownLaneClr; try dsimp only
  repeat' (first
    | with_reducible assumption | simp only [goodOwn_ok_eq] | with_reducible refine State.updLane_good _ _ _ ?_
    | split)
theorem State.moduleDetect_good {Q : Claim} (s : State) (n : Nat) (page : List Byte) (h : s.Good Q) :
    (State.moduleDetect s n page).Good Q := by
  unfold State.moduleDetect; try dsimp only
  repeat' (first
    | with_reducible assumption | with_reducible refine State.updLane_good _ _ _ ?_
    | with_reducible refine State.raise_good _ _ _ ?_ | split)
theorem State.moduleAbsent_good {Q : Claim} (s : State) (n : Nat) (h : s.Good Q) :
    (State.moduleAbsent s n).Good Q := by
  unfold State.moduleAbsent; try dsimp only
  repeat' (first
    | with_reducible assumption | with_reducible refine State.updLane_good _ _ _ ?_
    | with_reducible refine State.raise_good _ _ _ ?_ | split)
theorem State.blockLock_good {Q : Claim} (s : State) (n : Nat) (h : s.Good Q) :
    (State.blockLock s n).Good Q := by
  unfold State.blockLock; try dsimp only
  repeat' (first
    | with_reducible assumption | with_reducible refine State.updLane_good _ _ _ ?_ | split)
theorem State.blockLockLoss_good {Q : Claim} (s : State) (n : Nat) (passing : Nat) (h : s.Good Q) :
    (State.blockLockLoss s n passing).Good Q := by
  unfold State.blockLockLoss; try dsimp only
  repeat' (first
    | with_reducible assumption | with_reducible refine State.updLane_good _ _ _ ?_
    | with_reducible refine State.toLocking_good _ _ ?_ | with_reducible refine State.errOut_good _ _ _ ?_ | split)
theorem State.hiBerSpan_good {Q : Claim} (s : State) (n : Nat) (bad : Nat) (passing : Nat) (h : s.Good Q) :
    (State.hiBerSpan s n bad passing).Good Q := by
  unfold State.hiBerSpan; try dsimp only
  repeat' (first
    | with_reducible assumption | with_reducible refine State.updLane_good _ _ _ ?_
    | with_reducible refine State.raise_good _ _ _ ?_ | with_reducible refine State.toLocking_good _ _ ?_
    | with_reducible refine State.errOut_good _ _ _ ?_ | split)
theorem State.elasticError_good {Q : Claim} (s : State) (n : Nat) (passing : Nat) (h : s.Good Q) :
    (State.elasticError s n passing).Good Q := by
  unfold State.elasticError; try dsimp only
  repeat' (first
    | with_reducible assumption | with_reducible refine State.updLane_good _ _ _ ?_
    | with_reducible refine State.errOut_good _ _ _ ?_ | with_reducible refine State.raise_good _ _ _ ?_)
theorem State.ppmMeasure_good {Q : Claim} (s : State) (n : Nat) (ins : Nat) (del : Nat) (blocks : Nat) (fill : Nat) (h : s.Good Q) :
    (State.ppmMeasure s n ins del blocks fill).Good Q := by
  unfold State.ppmMeasure; try dsimp only
  repeat' (first
    | with_reducible assumption | with_reducible refine State.updLane_good _ _ _ ?_
    | with_reducible refine State.raise_good _ _ _ ?_ | split)
theorem State.rxLine_good {Q : Claim} (s : State) (n : Nat) (before : Nat) (line : Nat) (h : s.Good Q) :
    (State.rxLine s n before line).Good Q := by
  unfold State.rxLine; try dsimp only
  repeat' (first
    | with_reducible assumption | with_reducible refine State.updLane_good _ _ _ ?_ | split)
theorem State.txTime_good {Q : Claim} (s : State) (n : Nat) (p : Nat) (h : s.Good Q) :
    (State.txTime s n p).Good Q := by
  unfold State.txTime; try dsimp only [State.draw]
  repeat' (first
    | with_reducible assumption | with_reducible refine State.emit_good _ _ ?_
    | with_reducible refine State.updLane_good _ _ _ ?_ | with_reducible refine good_with ?_ ?_
    | exact (rfl : (_ : Fuses) = _))
theorem State.noteJoin_good {Q : Claim} (s : State) (tag : Nat) (h : s.Good Q) :
    (State.noteJoin s tag).Good Q := by
  unfold State.noteJoin; try dsimp only
  repeat' (first
    | with_reducible assumption | with_reducible refine State.updRing_good _ _ ?_ | split)
theorem State.reportJoin_good {Q : Claim} (s : State) (n : Nat) (h : s.Good Q) :
    (State.reportJoin s n).Good Q := by
  unfold State.reportJoin; try dsimp only
  repeat' (first
    | with_reducible assumption | with_reducible refine State.noteJoin_good _ _ ?_
    | with_reducible refine State.send_good _ _ _ _ _ _ ?_ | split)
theorem State.laneUp_good {Q : Claim} (s : State) (n : Nat) (v : Nat) (h : s.Good Q) :
    (State.laneUp s n v).Good Q := by
  unfold State.laneUp; try dsimp only
  repeat' (first
    | with_reducible assumption | with_reducible refine State.reportJoin_good _ _ ?_
    | with_reducible refine State.seeRing_good _ ?_ | with_reducible refine State.seeUpstream_good _ ?_
    | with_reducible refine State.updLane_good _ _ _ ?_)
theorem State.trainBlock_good {Q : Claim} (s : State) (n : Nat) (p : Nat) (passing : Nat) (h : s.Good Q) :
    (State.trainBlock s n p passing).Good Q := by
  unfold State.trainBlock; try dsimp only
  repeat' (first
    | with_reducible assumption | with_reducible refine good_ite ?_ ?_
    | with_reducible refine State.updLane_good _ _ _ ?_ | with_reducible refine State.toLocking_good _ _ ?_
    | with_reducible refine State.errOut_good _ _ _ ?_ | with_reducible refine State.laneUp_good _ _ _ ?_
    | with_reducible refine State.raise_good _ _ _ ?_ | split)
theorem State.holdBlock_good {Q : Claim} (s : State) (n : Nat) (passing : Nat) (h : s.Good Q) :
    (State.holdBlock s n passing).Good Q := by
  unfold State.holdBlock; try dsimp only
  repeat' (first
    | with_reducible assumption | with_reducible refine State.toLocking_good _ _ ?_
    | with_reducible refine State.errOut_good _ _ _ ?_ | split)
theorem State.errBlock_good {Q : Claim} (s : State) (n : Nat) (passing : Nat) (h : s.Good Q) :
    (State.errBlock s n passing).Good Q := by
  unfold State.errBlock; try dsimp only
  repeat' (first
    | with_reducible assumption | with_reducible refine State.errOut_good _ _ _ ?_
    | with_reducible refine State.updLane_good _ _ _ ?_)
theorem State.sfpLos_good {Q : Claim} (s : State) (n : Nat) (on : Bool) (passing : Nat) (h : s.Good Q) :
    (State.sfpLos s n on passing).Good Q := by
  unfold State.sfpLos; try dsimp only
  repeat' (first
    | with_reducible assumption | with_reducible refine State.updLane_good _ _ _ ?_
    | with_reducible refine State.toLocking_good _ _ ?_ | with_reducible refine State.errOut_good _ _ _ ?_ | split)
theorem State.inputLost_good {Q : Claim} (s : State) (n : Nat) (passing : Nat) (h : s.Good Q) :
    (State.inputLost s n passing).Good Q := by
  unfold State.inputLost; try dsimp only
  repeat' (first
    | with_reducible assumption | with_reducible refine State.updLane_good _ _ _ ?_
    | with_reducible refine State.errOut_good _ _ _ ?_ | with_reducible refine State.toLocking_good _ _ ?_ | split)
theorem State.trainTimeout_good {Q : Claim} (s : State) (n : Nat) (h : s.Good Q) :
    (State.trainTimeout s n).Good Q := by
  unfold State.trainTimeout; try dsimp only
  repeat' (first
    | with_reducible assumption | with_reducible refine State.at__good _ _ ?_
    | with_reducible refine State.updLane_good _ _ _ ?_ | with_reducible refine State.raise_good _ _ _ ?_
    | with_reducible refine State.toLocking_good _ _ ?_ | split)
theorem State.prbsSeen_good {Q : Claim} (s : State) (n : Nat) (checked : Nat) (errs : Nat) (h : s.Good Q) :
    (State.prbsSeen s n checked errs).Good Q := by
  unfold State.prbsSeen; try dsimp only
  repeat' (first
    | with_reducible assumption | with_reducible refine State.updLane_good _ _ _ ?_ | split)
theorem State.badBlock_good {Q : Claim} (s : State) (n : Nat) (hdr : Bool) (passing : Nat) (h : s.Good Q) :
    (State.badBlock s n hdr passing).Good Q := by
  unfold State.badBlock; try dsimp only
  repeat' (first
    | with_reducible assumption | with_reducible refine State.errOut_good _ _ _ ?_
    | with_reducible refine State.updLane_good _ _ _ ?_)
theorem State.updTb_good {Q : Claim} (s : State) (f : TimeBase → TimeBase) (h : s.Good Q) :
    (State.updTb s f).Good Q := by
  unfold State.updTb; try dsimp only
  repeat' (first
    | with_reducible assumption | with_reducible refine good_with ?_ ?_ | exact (rfl : (_ : Fuses) = _))
theorem State.updPtp_good {Q : Claim} (s : State) (d : Nat) (f : Ptp → Ptp) (h : s.Good Q) :
    (State.updPtp s d f).Good Q := by
  unfold State.updPtp; try dsimp only
  repeat' (first
    | with_reducible assumption | with_reducible refine State.updTb_good _ _ ?_)
theorem State.updBell_good {Q : Claim} (s : State) (b : Nat) (f : Bell → Bell) (h : s.Good Q) :
    (State.updBell s b f).Good Q := by
  unfold State.updBell; try dsimp only
  repeat' (first
    | with_reducible assumption | with_reducible refine State.updTb_good _ _ ?_)
theorem State.updTrig_good {Q : Claim} (s : State) (n : Nat) (f : Trig → Trig) (h : s.Good Q) :
    (State.updTrig s n f).Good Q := by
  unfold State.updTrig; try dsimp only
  repeat' (first
    | with_reducible assumption | with_reducible refine State.updTb_good _ _ ?_)
theorem State.setRate_good {Q : Claim} (s : State) (rho : Int) (h : s.Good Q) :
    (State.setRate s rho).Good Q := by
  unfold State.setRate; try dsimp only
  repeat' (first
    | with_reducible assumption | with_reducible refine State.updTb_good _ _ ?_)
theorem State.bellsAfterStep_good {Q : Claim} (s : State) (T : Nat) (h : s.Good Q) :
    (State.bellsAfterStep s T).Good Q := by
  unfold State.bellsAfterStep; try dsimp only
  repeat' (first
    | with_reducible assumption | with_reducible refine State.updTb_good _ _ ?_
    | with_reducible refine State.updBell_good _ _ _ ?_
    | with_reducible refine State.each_good _ _ _ (fun _ _ _ => ?_) ?_ | split)
theorem State.stepTo_good {Q : Claim} (s : State) (T : Nat) (h : s.Good Q) :
    (State.stepTo s T).Good Q := by
  unfold State.stepTo; try dsimp only
  repeat' (first
    | with_reducible assumption | with_reducible refine State.discardStarts_good _ ?_
    | with_reducible refine State.haltCar_good _ _ ?_ | with_reducible refine State.updTb_good _ _ ?_
    | with_reducible refine State.bellsAfterStep_good _ _ ?_
    | with_reducible refine State.each_good _ _ _ (fun _ _ _ => ?_) ?_)
theorem State.stepBy_good {Q : Claim} (s : State) (o : Int) (h : s.Good Q) :
    (State.stepBy s o).Good Q := by
  unfold State.stepBy; try dsimp only
  repeat' (first
    | with_reducible assumption | with_reducible refine State.stepTo_good _ _ ?_)
theorem State.toFreerun_good {Q : Claim} (s : State) (h : s.Good Q) :
    (State.toFreerun s).Good Q := by
  unfold State.toFreerun; try dsimp only
  repeat' (first
    | with_reducible assumption | with_reducible refine State.updTb_good _ _ ?_
    | with_reducible refine State.setRate_good _ _ ?_)
theorem State.toHoldover_good {Q : Claim} (s : State) (h : s.Good Q) :
    (State.toHoldover s).Good Q := by
  unfold State.toHoldover; try dsimp only
  repeat' (first
    | with_reducible assumption | with_reducible refine State.updTb_good _ _ ?_
    | with_reducible refine State.setRate_good _ _ ?_ | with_reducible refine State.raise_good _ _ _ ?_)
theorem State.seeSource_good {Q : Claim} (s : State) (h : s.Good Q) :
    (State.seeSource s).Good Q := by
  unfold State.seeSource; try dsimp only
  repeat' (first
    | with_reducible assumption | with_reducible refine State.toHoldover_good _ ?_
    | with_reducible refine State.updTb_good _ _ ?_ | split)
theorem State.refLost_good {Q : Claim} (s : State) (h : s.Good Q) :
    (State.refLost s).Good Q := by
  unfold State.refLost; try dsimp only
  repeat' (first
    | with_reducible assumption | with_reducible refine State.at__good _ _ ?_
    | with_reducible refine State.seeSource_good _ ?_ | split)
theorem State.becomeSource_good {Q : Claim} (s : State) (h : s.Good Q) :
    (State.becomeSource s).Good Q := by
  unfold State.becomeSource; try dsimp only
  repeat' (first
    | with_reducible assumption | with_reducible refine State.seeSource_good _ ?_
    | with_reducible refine State.setRate_good _ _ ?_ | with_reducible refine State.toHoldover_good _ ?_ | split)
theorem State.toSlewing_good {Q : Claim} (s : State) (h : s.Good Q) :
    (State.toSlewing s).Good Q := by
  unfold State.toSlewing; try dsimp only
  repeat' (first
    | with_reducible assumption | with_reducible refine State.raise_good _ _ _ ?_
    | with_reducible refine State.updTb_good _ _ ?_)
theorem State.servo_good {Q : Claim} (s : State) (o : Int) (h : s.Good Q) :
    (State.servo s o).Good Q := by
  unfold State.servo; try dsimp only
  repeat' (first
    | with_reducible assumption | with_reducible refine State.updTb_good _ _ ?_
    | with_reducible refine State.setRate_good _ _ ?_)
theorem State.judge_good {Q : Claim} (s : State) (o : Int) (h : s.Good Q) :
    (State.judge s o).Good Q := by
  unfold State.judge; try dsimp only
  repeat' (first
    | with_reducible assumption | with_reducible refine State.updTb_good _ _ ?_
    | with_reducible refine State.raise_good _ _ _ ?_ | split)
theorem State.takeOffset_good {Q : Claim} (s : State) (o : Int) (h : s.Good Q) :
    (State.takeOffset s o).Good Q := by
  unfold State.takeOffset; try dsimp only
  repeat' (first
    | with_reducible assumption | with_reducible refine State.toSlewing_good _ ?_
    | with_reducible refine State.setRate_good _ _ ?_ | with_reducible refine State.updTb_good _ _ ?_
    | with_reducible refine State.judge_good _ _ ?_ | with_reducible refine State.stepBy_good _ _ ?_
    | with_reducible refine State.servo_good _ _ ?_ | split)
theorem State.servoTick_good {Q : Claim} (s : State) (h : s.Good Q) :
    (State.servoTick s).Good Q := by
  unfold State.servoTick; try dsimp only
  repeat' (first
    | with_reducible assumption | with_reducible refine State.updTb_good _ _ ?_
    | with_reducible refine State.at__good _ _ ?_ | with_reducible refine State.seeSource_good _ ?_
    | with_reducible refine State.updLane_good _ _ _ ?_ | with_reducible refine State.takeOffset_good _ _ ?_
    | with_reducible refine State.each_good _ _ _ (fun _ _ _ => ?_) ?_ | split)
theorem State.timeBlockTx_good {Q : Claim} (s : State) (n : Nat) (h : s.Good Q) :
    (State.timeBlockTx s n).Good Q := by
  unfold State.timeBlockTx; try dsimp only
  repeat' (first
    | with_reducible assumption | with_reducible refine State.at__good _ _ ?_
    | with_reducible refine State.updLane_good _ _ _ ?_ | with_reducible refine State.txTime_good _ _ _ ?_ | split)
theorem State.timeBlockRx_good {Q : Claim} (s : State) (n : Nat) (p : Nat) (t : Nat) (h : s.Good Q) :
    (State.timeBlockRx s n p t).Good Q := by
  unfold State.timeBlockRx; try dsimp only
  repeat' (first
    | with_reducible assumption | with_reducible refine State.at__good _ _ ?_
    | with_reducible refine State.updLane_good _ _ _ ?_ | with_reducible refine State.updTb_good _ _ ?_ | split)
theorem State.ptpLose_good {Q : Claim} (s : State) (d : Nat) (h : s.Good Q) :
    (State.ptpLose s d).Good Q := by
  unfold State.ptpLose; try dsimp only
  repeat' (first
    | with_reducible assumption | with_reducible refine State.updPtp_good _ _ _ ?_
    | with_reducible refine State.seeSource_good _ ?_ | with_reducible refine State.raise_good _ _ _ ?_ | split)
theorem State.ptpSync_good {Q : Claim} (s : State) (d : Nat) (o : Int) (delay : Nat) (logSync : Int) (h : s.Good Q) :
    (State.ptpSync s d o delay logSync).Good Q := by
  unfold State.ptpSync; try dsimp only
  repeat' (first
    | with_reducible assumption | with_reducible refine State.updPtp_good _ _ _ ?_
    | with_reducible refine State.seeSource_good _ ?_ | split)
theorem State.ptpLost_good {Q : Claim} (s : State) (d : Nat) (h : s.Good Q) :
    (State.ptpLost s d).Good Q := by
  unfold State.ptpLost; try dsimp only
  repeat' (first
    | with_reducible assumption | with_reducible refine State.ptpLose_good _ _ ?_
    | with_reducible refine State.at__good _ _ ?_ | split)
theorem State.ptpAnnounce_good {Q : Claim} (s : State) (d : Nat) (gm : List Byte) (arb : Bool) (steps : Nat) (h : s.Good Q) :
    (State.ptpAnnounce s d gm arb steps).Good Q := by
  unfold State.ptpAnnounce; try dsimp only
  repeat' (first
    | with_reducible assumption | with_reducible refine State.updPtp_good _ _ _ ?_
    | with_reducible refine State.ptpLose_good _ _ ?_ | split)
theorem State.ownPtp_good {Q : Claim} (s : State) (d : Nat) (r : Reg) (v : Nat) (h : s.Good Q) :
    goodOwn Q (State.ownPtp s d r v) := by
  unfold State.ownPtp; try dsimp only
  repeat' (first
    | with_reducible assumption | simp only [goodOwn_ok_eq] | with_reducible refine State.seeSource_good _ ?_
    | with_reducible refine State.updPtp_good _ _ _ ?_ | with_reducible refine State.wr_good _ _ _ ?_)
theorem State.ppsEdge_good {Q : Claim} (s : State) (t : Nat) (falling : Bool) (h : s.Good Q) :
    (State.ppsEdge s t falling).Good Q := by
  unfold State.ppsEdge; try dsimp only
  repeat' (first
    | with_reducible assumption | with_reducible refine State.at__good _ _ ?_
    | with_reducible refine State.seeSource_good _ ?_ | with_reducible refine State.updTb_good _ _ ?_ | split)
theorem State.ppsLost_good {Q : Claim} (s : State) (h : s.Good Q) :
    (State.ppsLost s).Good Q := by
  unfold State.ppsLost; try dsimp only
  repeat' (first
    | with_reducible assumption | with_reducible refine State.seeSource_good _ ?_
    | with_reducible refine State.updTb_good _ _ ?_ | with_reducible refine State.at__good _ _ ?_ | split)
theorem State.ownTmSrc_good {Q : Claim} (s : State) (v : Nat) (h : s.Good Q) :
    goodOwn Q (State.ownTmSrc s v) := by
  unfold State.ownTmSrc; try dsimp only
  repeat' (first
    | with_reducible assumption | simp only [goodOwn_ok_eq] | with_reducible refine State.seeSource_good _ ?_
    | with_reducible refine State.wr_good _ _ _ ?_)
theorem State.ownTmSet_good {Q : Claim} (s : State) (v : Nat) (h : s.Good Q) :
    goodOwn Q (State.ownTmSet s v) := by
  unfold State.ownTmSet; try dsimp only
  repeat' (first
    | with_reducible assumption | simp only [goodOwn_error_eq] | simp only [goodOwn_ok_eq]
    | with_reducible refine State.stepTo_good _ _ ?_ | split)
theorem State.ownTmClr_good {Q : Claim} (s : State) (v : Nat) (h : s.Good Q) :
    goodOwn Q (State.ownTmClr s v) := by
  unfold State.ownTmClr; try dsimp only
  repeat' (first
    | with_reducible assumption | simp only [goodOwn_ok_eq] | with_reducible refine State.updTb_good _ _ ?_)
theorem State.pwmPhase_good {Q : Claim} (s : State) (e : Int) (steps : Int) (lasts : Bool) (h : s.Good Q) :
    (State.pwmPhase s e steps lasts).Good Q := by
  unfold State.pwmPhase; try dsimp only
  repeat' (first
    | with_reducible assumption | with_reducible refine State.updTb_good _ _ ?_
    | with_reducible refine State.raise_good _ _ _ ?_ | split | with_reducible refine good_with ?_ ?_
    | exact (rfl : (_ : Fuses) = _))
theorem State.ownBellCfg_good {Q : Claim} (s : State) (b : Nat) (r : Reg) (v : Nat) (h : s.Good Q) :
    goodOwn Q (State.ownBellCfg s b r v) := by
  unfold State.ownBellCfg; try dsimp only
  repeat' (first
    | with_reducible assumption | simp only [goodOwn_error_eq] | simp only [goodOwn_ok_eq]
    | with_reducible refine State.wr_good _ _ _ ?_ | split)
theorem State.trigPulse_good {Q : Claim} (s : State) (b : Nat) (h : s.Good Q) :
    (State.trigPulse s b).Good Q := by
  unfold State.trigPulse; try dsimp only
  repeat' (first
    | with_reducible assumption | with_reducible refine State.updTrig_good _ _ _ ?_
    | with_reducible refine State.each_good _ _ _ (fun _ _ _ => ?_) ?_ | split)
theorem State.bellRing_good {Q : Claim} (s : State) (b : Nat) (h : s.Good Q) :
    (State.bellRing s b).Good Q := by
  unfold State.bellRing; try dsimp only
  repeat' (first
    | with_reducible assumption | with_reducible refine State.updTb_good _ _ ?_
    | with_reducible refine State.updBell_good _ _ _ ?_ | with_reducible refine State.at__good _ _ ?_
    | with_reducible refine State.trigPulse_good _ _ ?_ | with_reducible refine State.bellReleases_good _ _ _ ?_
    | with_reducible refine State.bellTriggers_good _ _ _ ?_ | split)
theorem State.ownBellCmd_good {Q : Claim} (s : State) (b : Nat) (v : Nat) (h : s.Good Q) :
    goodOwn Q (State.ownBellCmd s b v) := by
  unfold State.ownBellCmd; try dsimp only
  repeat' (first
    | with_reducible assumption | simp only [goodOwn_error_eq] | simp only [goodOwn_ok_eq]
    | with_reducible refine State.updBell_good _ _ _ ?_ | with_reducible refine State.bellRing_good _ _ ?_ | split)
theorem State.trigEdge_good {Q : Claim} (s : State) (n : Nat) (t : Nat) (rising : Bool) (held : Nat) (h : s.Good Q) :
    (State.trigEdge s n t rising held).Good Q := by
  unfold State.trigEdge; try dsimp only
  repeat' (first
    | with_reducible assumption | with_reducible refine State.at__good _ _ ?_
    | with_reducible refine State.updTrig_good _ _ _ ?_ | split)
theorem State.ppsOut_good {Q : Claim} (s : State) (h : s.Good Q) :
    (State.ppsOut s).Good Q := by
  unfold State.ppsOut; try dsimp only
  repeat' (first
    | with_reducible assumption | with_reducible refine State.at__good _ _ ?_
    | with_reducible refine State.updTb_good _ _ ?_)
theorem State.pulseEnd_good {Q : Claim} (s : State) (h : s.Good Q) :
    (State.pulseEnd s).Good Q := by
  unfold State.pulseEnd; try dsimp only
  repeat' (first
    | with_reducible assumption | with_reducible refine State.updTb_good _ _ ?_
    | with_reducible refine State.at__good _ _ ?_ | split)
theorem State.ownTrigMode_good {Q : Claim} (s : State) (n : Nat) (v : Nat) (h : s.Good Q) :
    goodOwn Q (State.ownTrigMode s n v) := by
  unfold State.ownTrigMode; try dsimp only
  repeat' (first
    | with_reducible assumption | simp only [goodOwn_ok_eq] | with_reducible refine State.updTrig_good _ _ _ ?_
    | with_reducible refine State.wr_good _ _ _ ?_)

end Sys2Proof.Machine
end

