-- ==== Sys2Proof/Laws/GoodRing.lean ====
section
/-! SUPPORT. What ring, safety functions, stores, clocks and managers keep, one lemma each (see Laws/Good.lean). -/

namespace Sys2Proof.Machine

theorem State.refill_good {Q : Claim} (s : State) (h : s.Good Q) :
    (State.refill s).Good Q := by
  unfold State.refill; try dsimp only
  repeat' (first
    | with_reducible assumption | with_reducible refine State.updRing_good _ _ ?_)
theorem State.txStart_good {Q : Claim} (s : State) (lane : Nat) (h : s.Good Q) :
    (State.txStart s lane).Good Q := by
  unfold State.txStart; try dsimp only
  repeat' (first
    | with_reducible assumption | with_reducible refine State.refill_good _ ?_
    | with_reducible refine State.at__good _ _ ?_ | with_reducible refine State.updRing_good _ _ ?_
    | with_reducible refine State.emit_good _ _ ?_ | split)
theorem State.tc3Expiry_good {Q : Claim} (s : State) (h : s.Good Q) :
    (State.tc3Expiry s).Good Q := by
  unfold State.tc3Expiry; try dsimp only
  repeat' (first
    | with_reducible assumption | with_reducible refine State.at__good _ _ ?_
    | with_reducible refine State.spillDump_good _ _ ?_ | with_reducible refine State.updRing_good _ _ ?_ | split)
theorem State.takeFields_good {Q : Claim} (s : State) (src : Nat) (num : Nat) (p : List Byte) (h : s.Good Q) :
    (State.takeFields s src num p).Good Q := by
  unfold State.takeFields; try dsimp only
  repeat' (first
    | with_reducible assumption | with_reducible refine State.updRing_good _ _ ?_)
theorem State.applyFields_good {Q : Claim} (s : State) (h : s.Good Q) :
    (State.applyFields s).Good Q := by
  unfold State.applyFields; try dsimp only
  repeat' (first
    | with_reducible assumption | with_reducible refine State.updRing_good _ _ ?_
    | with_reducible refine State.arrive_good _ _ _ _ _ ?_
    | with_reducible refine State.each_good _ _ _ (fun _ _ _ => ?_) ?_ | split)
theorem State.ageFields_good {Q : Claim} (s : State) (h : s.Good Q) :
    (State.ageFields s).Good Q := by
  unfold State.ageFields; try dsimp only
  repeat' (first
    | with_reducible assumption | with_reducible refine State.updRing_good _ _ ?_
    | with_reducible refine State.updIn_good _ _ _ _ ?_
    | with_reducible refine State.each_good _ _ _ (fun _ _ _ => ?_) ?_)
theorem State.latchOuts_good {Q : Claim} (s : State) (h : s.Good Q) :
    (State.latchOuts s).Good Q := by
  unfold State.latchOuts; try dsimp only
  repeat' (first
    | with_reducible assumption | with_reducible refine State.updRing_good _ _ ?_)
theorem State.ownFields_good {Q : Claim} (s : State) (t : Nat) (p : List Byte) (h : s.Good Q) :
    (State.ownFields s t p).Good Q := by
  unfold State.ownFields; try dsimp only
  repeat' (first
    | with_reducible assumption | with_reducible refine State.takeFields_good _ _ _ _ ?_ | split)
theorem State.tc0Send_good {Q : Claim} (s : State) (t : Nat) (h : s.Good Q) :
    (State.tc0Send s t).Good Q := by
  unfold State.tc0Send; try dsimp only
  repeat' (first
    | with_reducible assumption | with_reducible refine State.at__good _ _ ?_
    | with_reducible refine State.ownFields_good _ _ _ ?_ | with_reducible refine State.bothWays_good _ _ ?_
    | with_reducible refine State.updRing_good _ _ ?_ | split | with_reducible refine good_with ?_ ?_
    | exact (rfl : (_ : Fuses) = _))
theorem State.hearTc0_good {Q : Claim} (s : State) (src : Nat) (lane : Nat) (h : s.Good Q) :
    (State.hearTc0 s src lane).Good Q := by
  unfold State.hearTc0; try dsimp only
  repeat' (first
    | with_reducible assumption | with_reducible refine State.updRing_good _ _ ?_)
theorem State.judgeHealth_good {Q : Claim} (s : State) (h : s.Good Q) :
    (State.judgeHealth s).Good Q := by
  unfold State.judgeHealth; try dsimp only
  repeat' (first
    | with_reducible assumption | with_reducible refine State.updRing_good _ _ ?_
    | with_reducible refine State.raise_good _ _ _ ?_
    | with_reducible refine State.each_good _ _ _ (fun _ _ _ => ?_) ?_ | split)
theorem State.noteTc1_good {Q : Claim} (s : State) (h : s.Good Q) :
    (State.noteTc1 s).Good Q := by
  unfold State.noteTc1; try dsimp only
  repeat' (first
    | with_reducible assumption | with_reducible refine State.updRing_good _ _ ?_)
theorem State.rollStart_good {Q : Claim} (s : State) (h : s.Good Q) :
    (State.rollStart s).Good Q := by
  unfold State.rollStart; try dsimp only
  repeat' (first
    | with_reducible assumption | with_reducible refine State.send_good _ _ _ _ _ _ ?_
    | with_reducible refine State.updRing_good _ _ ?_)
theorem State.ownRingCmd_good {Q : Claim} (s : State) (h : s.Good Q) :
    goodOwn Q (State.ownRingCmd s) := by
  unfold State.ownRingCmd; try dsimp only
  repeat' (first
    | with_reducible assumption | simp only [goodOwn_error_eq] | simp only [goodOwn_ok_eq]
    | with_reducible refine State.rollStart_good _ ?_ | split)
theorem State.mgrListen_good {Q : Claim} (s : State) (h : s.Good Q) :
    (State.mgrListen s).Good Q := by
  unfold State.mgrListen; try dsimp only
  repeat' (first
    | with_reducible assumption | with_reducible refine good_with ?_ ?_ | exact (rfl : (_ : Fuses) = _))
theorem State.takeRole_good {Q : Claim} (s : State) (h : s.Good Q) :
    (State.takeRole s).Good Q := by
  unfold State.takeRole; try dsimp only
  repeat' (first
    | with_reducible assumption | with_reducible refine State.updRing_good _ _ ?_
    | with_reducible refine State.mgrListen_good _ ?_ | with_reducible refine State.laneStart_good _ _ ?_
    | with_reducible refine State.laneOff_good _ _ ?_
    | with_reducible refine State.each_good _ _ _ (fun _ _ _ => ?_) ?_ | split
    | with_reducible refine good_with ?_ ?_ | exact (rfl : (_ : Fuses) = _))
theorem State.rollFailed_good {Q : Claim} (s : State) (h : s.Good Q) :
    (State.rollFailed s).Good Q := by
  unfold State.rollFailed; try dsimp only
  repeat' (first
    | with_reducible assumption | with_reducible refine State.raise_good _ _ _ ?_
    | with_reducible refine State.updRing_good _ _ ?_)
theorem State.setRates_good {Q : Claim} (s : State) (n : Nat) (h : s.Good Q) :
    (State.setRates s n).Good Q := by
  unfold State.setRates; try dsimp only
  repeat' (first
    | with_reducible assumption | with_reducible refine State.updRing_good _ _ ?_
    | with_reducible refine State.wr_good _ _ _ ?_)
theorem State.recordIds_good {Q : Claim} (s : State) (ids : List (Nat × Nat)) (noId : Nat) (missing : Nat) (h : s.Good Q) :
    (State.recordIds s ids noId missing).Good Q := by
  unfold State.recordIds; try dsimp only
  repeat' (first
    | with_reducible assumption | with_reducible refine State.updRing_good _ _ ?_
    | with_reducible refine State.wr_good _ _ _ ?_ | with_reducible refine State.raise_good _ _ _ ?_ | split)
theorem State.joinCommit_good {Q : Claim} (s : State) (T : Nat) (q : Roll) (h : s.Good Q) :
    (State.joinCommit s T q).Good Q := by
  unfold State.joinCommit; try dsimp only
  repeat' (first
    | with_reducible assumption | with_reducible refine State.at__good _ _ ?_
    | with_reducible refine State.updRing_good _ _ ?_ | with_reducible refine State.recordIds_good _ _ _ _ ?_
    | with_reducible refine State.setRates_good _ _ ?_ | split)
theorem State.rollAnswer_good {Q : Claim} (s : State) (rot : Nat) (hops : Nat) (h : s.Good Q) :
    (State.rollAnswer s rot hops).Good Q := by
  unfold State.rollAnswer; try dsimp only
  repeat' (first
    | with_reducible assumption | with_reducible refine State.updRing_good _ _ ?_
    | with_reducible refine State.send_good _ _ _ _ _ _ ?_ | with_reducible refine State.bothWays_good _ _ ?_
    | split)
theorem State.rollCommit_good {Q : Claim} (s : State) (T : Nat) (q : Roll) (h : s.Good Q) :
    (State.rollCommit s T q).Good Q := by
  unfold State.rollCommit
  split
  · exact State.joinCommit_good _ _ _ h
  extract_lets s0
  have h0 : s0.Good Q := State.at__good _ _ h
  clear_value s0
  split
  · exact good_ite (State.rollFailed_good _ h0) h0
  rename_i ids missing s1 s2 id known _ c e
  extract_lets s3 s4 s5 s6 s7 w
  have h1 : s1.Good Q := good_ite (State.recordIds_good _ _ _ _ h0) h0
  have h2 : s2.Good Q := State.setRates_good _ _ (State.takeRole_good _ h1)
  have h6 : s6.Good Q := State.seeUpstream_good _ (State.updTb_good _ _ (State.updRing_good _ _ (State.updRing_good _ _ h2)))
  have h7 : s7.Good Q := State.rollStrings_good _ _ h6
  exact good_ite (good_ite (good_with h7 rfl) h7) (good_ite (good_with h7 rfl) h7)
theorem State.rollTimeout_good {Q : Claim} (s : State) (h : s.Good Q) :
    (State.rollTimeout s).Good Q := by
  unfold State.rollTimeout; try dsimp only
  repeat' (first
    | with_reducible assumption | with_reducible refine State.send_good _ _ _ _ _ _ ?_
    | with_reducible refine State.rollFailed_good _ ?_ | with_reducible refine State.at__good _ _ ?_ | split)
theorem State.ownTcRate_good {Q : Claim} (s : State) (r : Reg) (most : Nat) (v : Nat) (h : s.Good Q) :
    goodOwn Q (State.ownTcRate s r most v) := by
  unfold State.ownTcRate; try dsimp only
  repeat' (first
    | with_reducible assumption | simp only [goodOwn_error_eq] | simp only [goodOwn_ok_eq]
    | with_reducible refine State.wr_good _ _ _ ?_ | split)
theorem State.updSf_good {Q : Claim} (s : State) (f : Safety → Safety) (h : s.Good Q) :
    (State.updSf s f).Good Q := by
  unfold State.updSf; try dsimp only
  repeat' (first
    | with_reducible assumption | with_reducible refine good_with ?_ ?_ | exact (rfl : (_ : Fuses) = _))
theorem State.updCon_good {Q : Claim} (s : State) (c : Nat) (f : Consumer → Consumer) (h : s.Good Q) :
    (State.updCon s c f).Good Q := by
  unfold State.updCon; try dsimp only
  repeat' (first
    | with_reducible assumption | with_reducible refine State.updSf_good _ _ ?_)
theorem State.updSo_good {Q : Claim} (s : State) (n : Nat) (f : SafeOut → SafeOut) (h : s.Good Q) :
    (State.updSo s n f).Good Q := by
  unfold State.updSo; try dsimp only
  repeat' (first
    | with_reducible assumption | with_reducible refine State.updSf_good _ _ ?_)
theorem State.updPin_good {Q : Claim} (s : State) (g : Nat) (f : StoPin → StoPin) (h : s.Good Q) :
    (State.updPin s g f).Good Q := by
  unfold State.updPin; try dsimp only
  repeat' (first
    | with_reducible assumption | with_reducible refine State.updSf_good _ _ ?_)
theorem State.holdLegs_good {Q : Claim} (s : State) (c : Nat) (h : s.Good Q) :
    (State.holdLegs s c).Good Q := by
  unfold State.holdLegs; try dsimp only
  repeat' (first
    | with_reducible assumption | with_reducible refine State.lowerLeg_good _ _ ?_
    | with_reducible refine State.updGg_good _ _ _ ?_ ?_
    | exact lowers_low (fun _ => Guard.drop_gh _ _) (fun _ => Guard.drop_gl _ _)
    | exact lowers_of (fun _ => rfl) (fun _ => rfl) (fun g h => by simp only [Bool.or_eq_false_iff] at h ⊢; simp [h])
    | with_reducible refine State.each_good _ _ _ (fun _ _ _ => ?_) ?_ | dsimp only | split)
theorem State.sfHold_good {Q : Claim} (s : State) (c : Nat) (h : s.Good Q) :
    (State.sfHold s c).Good Q := by
  unfold State.sfHold; try dsimp only
  repeat' (first
    | with_reducible assumption | with_reducible refine State.updSf_good _ _ ?_
    | with_reducible refine State.holdLegs_good _ _ ?_ | split)
theorem State.sfRelease_good {Q : Claim} (s : State) (c : Nat) (h : s.Good Q) :
    (State.sfRelease s c).Good Q := by
  unfold State.sfRelease; try dsimp only
  repeat' (first
    | with_reducible assumption | with_reducible refine State.updSf_good _ _ ?_
    | with_reducible refine State.startSupply_good _ _ ?_ | with_reducible refine State.fkNowLive_good _ _ ?_
    | with_reducible refine State.updGg_good _ _ _ ?_ ?_
    | exact lowers_low (fun _ => Guard.drop_gh _ _) (fun _ => Guard.drop_gl _ _)
    | exact follow_lowers _ _ _ | exact lowers_of (fun _ => rfl) (fun _ => rfl) (fun g h => by simp only [Bool.or_eq_false_iff] at h ⊢; simp [h]) | with_reducible refine State.each_good _ _ _ (fun _ _ _ => ?_) ?_ | dsimp only
    | split)
theorem State.soUpdate_good {Q : Claim} (s : State) (h : s.Good Q) :
    (State.soUpdate s).Good Q := by
  unfold State.soUpdate; try dsimp only
  repeat' (first
    | with_reducible assumption | with_reducible refine State.updSo_good _ _ _ ?_
    | with_reducible refine State.each_good _ _ _ (fun _ _ _ => ?_) ?_ | split)
theorem State.sfJudge_good {Q : Claim} (s : State) (h : s.Good Q) :
    (State.sfJudge s).Good Q := by
  unfold State.sfJudge; try dsimp only
  repeat' (first
    | with_reducible assumption | with_reducible refine State.sfHold_good _ _ ?_
    | with_reducible refine State.sfRelease_good _ _ ?_ | with_reducible refine State.soUpdate_good _ ?_
    | with_reducible refine State.each_good _ _ _ (fun _ _ _ => ?_) ?_ | split)
theorem State.soFault_good {Q : Claim} (s : State) (n : Nat) (rb : Bool) (h : s.Good Q) :
    (State.soFault s n rb).Good Q := by
  unfold State.soFault; try dsimp only
  repeat' (first
    | with_reducible assumption | with_reducible refine State.raise_good _ _ _ ?_
    | with_reducible refine State.updSo_good _ _ _ ?_)
theorem State.soPulse_good {Q : Claim} (s : State) (n : Nat) (low : Bool) (h : s.Good Q) :
    (State.soPulse s n low).Good Q := by
  unfold State.soPulse; try dsimp only
  repeat' (first
    | with_reducible assumption | with_reducible refine State.at__good _ _ ?_
    | with_reducible refine State.updSo_good _ _ _ ?_ | with_reducible refine State.soFault_good _ _ _ ?_ | split)
theorem State.soPulseEnd_good {Q : Claim} (s : State) (n : Nat) (high : Bool) (h : s.Good Q) :
    (State.soPulseEnd s n high).Good Q := by
  unfold State.soPulseEnd; try dsimp only
  repeat' (first
    | with_reducible assumption | with_reducible refine State.at__good _ _ ?_
    | with_reducible refine State.updSo_good _ _ _ ?_ | with_reducible refine State.soFault_good _ _ _ ?_ | split)
theorem State.hwHold_good {Q : Claim} (s : State) (g : Nat) (h : s.Good Q) :
    (State.hwHold s g).Good Q := by
  unfold State.hwHold; try dsimp only
  repeat' (first
    | with_reducible assumption | with_reducible refine State.holdLegs_good _ _ ?_
    | with_reducible refine State.each_good _ _ _ (fun _ _ _ => ?_) ?_)
theorem State.pairStep_good {Q : Claim} (s : State) (t : Nat) (h : s.Good Q) :
    (State.pairStep s t).Good Q := by
  unfold State.pairStep; try dsimp only
  repeat' (first
    | with_reducible assumption | with_reducible refine State.updSf_good _ _ ?_)
theorem State.stoSeen_good {Q : Claim} (s : State) (width : Nat) (h : s.Good Q) :
    (State.stoSeen s width).2.Good Q := by
  unfold State.stoSeen; try dsimp only [State.draw]
  repeat' (first
    | with_reducible assumption | split | with_reducible refine good_with ?_ ?_ | exact (rfl : (_ : Fuses) = _))
theorem State.stoAssert_good {Q : Claim} (s : State) (g : Nat) (t : Nat) (width : Nat) (h : s.Good Q) :
    (State.stoAssert s g t width).Good Q := by
  unfold State.stoAssert; try dsimp only
  repeat' (first
    | with_reducible assumption | with_reducible refine State.stoSeen_good _ _ ?_
    | with_reducible refine State.at__good _ _ ?_ | with_reducible refine State.pairStep_good _ _ ?_
    | with_reducible refine State.updPin_good _ _ _ ?_ | with_reducible refine State.hwHold_good _ _ ?_
    | with_reducible refine State.sfJudge_good _ ?_ | split)
theorem State.stoPinLow_good {Q : Claim} (s : State) (g : Nat) (t : Nat) (width : Nat) (h : s.Good Q) :
    (State.stoPinLow s g t width).Good Q := by
  unfold State.stoPinLow; try dsimp only
  repeat' (first
    | with_reducible assumption | with_reducible refine State.stoSeen_good _ _ ?_
    | with_reducible refine State.at__good _ _ ?_ | with_reducible refine State.updPin_good _ _ _ ?_ | split)
theorem State.stoRelease_good {Q : Claim} (s : State) (g : Nat) (t : Nat) (h : s.Good Q) :
    (State.stoRelease s g t).Good Q := by
  unfold State.stoRelease; try dsimp only
  repeat' (first
    | with_reducible assumption | with_reducible refine State.at__good _ _ ?_
    | with_reducible refine State.updPin_good _ _ _ ?_ | with_reducible refine State.pairStep_good _ _ ?_
    | with_reducible refine State.sfJudge_good _ ?_)
theorem State.stoQualified_good {Q : Claim} (s : State) (g : Nat) (h : s.Good Q) :
    (State.stoQualified s g).Good Q := by
  unfold State.stoQualified; try dsimp only
  repeat' (first
    | with_reducible assumption | with_reducible refine State.sfJudge_good _ ?_
    | with_reducible refine State.updPin_good _ _ _ ?_ | with_reducible refine State.at__good _ _ ?_ | split)
theorem State.sessionAbort_good {Q : Claim} (s : State) (h : s.Good Q) :
    (State.sessionAbort s).Good Q := by
  unfold State.sessionAbort; try dsimp only
  repeat' (first
    | with_reducible assumption | with_reducible refine State.updSf_good _ _ ?_)
theorem State.sfFail_good {Q : Claim} (s : State) (h : s.Good Q) :
    (State.sfFail s).Good Q := by
  unfold State.sfFail; try dsimp only
  repeat' (first
    | with_reducible assumption | with_reducible refine State.sfJudge_good _ ?_
    | with_reducible refine State.updSf_good _ _ ?_)
theorem State.sfWd_good {Q : Claim} (s : State) (h : s.Good Q) :
    (State.sfWd s).Good Q := by
  unfold State.sfWd; try dsimp only
  repeat' (first
    | with_reducible assumption | with_reducible refine State.updSf_good _ _ ?_
    | with_reducible refine State.hwHold_good _ _ ?_ | with_reducible refine State.raise_good _ _ _ ?_
    | with_reducible refine State.sessionAbort_good _ ?_ | with_reducible refine State.sfFail_good _ ?_)
theorem State.sfMismatch_good {Q : Claim} (s : State) (g : Nat) (h : s.Good Q) :
    (State.sfMismatch s g).Good Q := by
  unfold State.sfMismatch; try dsimp only
  repeat' (first
    | with_reducible assumption | with_reducible refine State.sfFail_good _ ?_
    | with_reducible refine State.raise_good _ _ _ ?_)
theorem State.stoDisc_good {Q : Claim} (s : State) (h : s.Good Q) :
    (State.stoDisc s).Good Q := by
  unfold State.stoDisc; try dsimp only
  repeat' (first
    | with_reducible assumption | with_reducible refine State.at__good _ _ ?_
    | with_reducible refine State.sfJudge_good _ ?_ | with_reducible refine State.raise_good _ _ _ ?_
    | with_reducible refine State.updSf_good _ _ ?_ | split)
theorem State.ownStoAck_good {Q : Claim} (s : State) (v : Nat) (h : s.Good Q) :
    goodOwn Q (State.ownStoAck s v) := by
  unfold State.ownStoAck; try dsimp only
  repeat' (first
    | with_reducible assumption | simp only [goodOwn_error_eq] | simp only [goodOwn_ok_eq]
    | with_reducible refine State.sfJudge_good _ ?_ | with_reducible refine State.updSf_good _ _ ?_ | split)
theorem State.proofTest_good {Q : Claim} (s : State) (g : Nat) (pass : Bool) (h : s.Good Q) :
    (State.proofTest s g pass).Good Q := by
  unfold State.proofTest; try dsimp only
  repeat' (first
    | with_reducible assumption | with_reducible refine State.updSf_good _ _ ?_
    | with_reducible refine State.sfMismatch_good _ _ ?_ | split)
theorem State.testDue_good {Q : Claim} (s : State) (g : Nat) (h : s.Good Q) :
    (State.testDue s g).Good Q := by
  unfold State.testDue; try dsimp only
  repeat' (first
    | with_reducible assumption | with_reducible refine State.at__good _ _ ?_
    | with_reducible refine State.raise_good _ _ _ ?_ | with_reducible refine State.updSf_good _ _ ?_ | split)
theorem State.sdpSend_good {Q : Claim} (s : State) (p : Nat) (h : s.Good Q) :
    (State.sdpSend s p).Good Q := by
  unfold State.sdpSend; try dsimp only
  repeat' (first
    | with_reducible assumption | with_reducible refine State.at__good _ _ ?_
    | with_reducible refine State.send_good _ _ _ _ _ _ ?_ | with_reducible refine State.updSf_good _ _ ?_ | split)
theorem State.sdReject_good {Q : Claim} (s : State) (c : Nat) (h : s.Good Q) :
    (State.sdReject s c).Good Q := by
  unfold State.sdReject; try dsimp only
  repeat' (first
    | with_reducible assumption | with_reducible refine State.raise_good _ _ _ ?_
    | with_reducible refine State.updCon_good _ _ _ ?_)
theorem State.sdAccept_good {Q : Claim} (s : State) (c : Nat) (tel : List Byte) (h : s.Good Q) :
    (State.sdAccept s c tel).Good Q := by
  unfold State.sdAccept; try dsimp only
  repeat' (first
    | with_reducible assumption | with_reducible refine State.sfJudge_good _ ?_
    | with_reducible refine State.updCon_good _ _ _ ?_)
theorem State.sdSingle_good {Q : Claim} (s : State) (c : Nat) (h : s.Good Q) :
    (State.sdSingle s c).Good Q := by
  unfold State.sdSingle; try dsimp only
  repeat' (first
    | with_reducible assumption | with_reducible refine State.updCon_good _ _ _ ?_
    | with_reducible refine State.sdAccept_good _ _ _ ?_ | with_reducible refine State.raise_good _ _ _ ?_ | split)
theorem State.skewExpiry_good {Q : Claim} (s : State) (c : Nat) (h : s.Good Q) :
    (State.skewExpiry s c).Good Q := by
  unfold State.skewExpiry; try dsimp only
  repeat' (first
    | with_reducible assumption | with_reducible refine State.sdSingle_good _ _ ?_
    | with_reducible refine State.at__good _ _ ?_ | split)
theorem State.sdCopy_good {Q : Claim} (s : State) (c : Nat) (tel : List Byte) (h : s.Good Q) :
    (State.sdCopy s c tel).Good Q := by
  unfold State.sdCopy; try dsimp only
  repeat' (first
    | with_reducible assumption | with_reducible refine State.sdSingle_good _ _ ?_
    | with_reducible refine State.updCon_good _ _ _ ?_ | with_reducible refine State.sdAccept_good _ _ _ ?_
    | with_reducible refine State.raise_good _ _ _ ?_ | split)
theorem State.telegram_good {Q : Claim} (s : State) (src : Nat) (t : Nat) (tel : List Byte) (h : s.Good Q) :
    (State.telegram s src t tel).Good Q := by
  unfold State.telegram; try dsimp only
  repeat' (first
    | with_reducible assumption | with_reducible refine State.at__good _ _ ?_
    | with_reducible refine State.sdCopy_good _ _ _ ?_ | with_reducible refine State.sdReject_good _ _ ?_
    | with_reducible refine State.each_good _ _ _ (fun _ _ _ => ?_) ?_ | split)
theorem State.sdcExpiry_good {Q : Claim} (s : State) (c : Nat) (h : s.Good Q) :
    (State.sdcExpiry s c).Good Q := by
  unfold State.sdcExpiry; try dsimp only
  repeat' (first
    | with_reducible assumption | with_reducible refine State.at__good _ _ ?_
    | with_reducible refine State.updCon_good _ _ _ ?_ | with_reducible refine State.sfJudge_good _ ?_
    | with_reducible refine State.raise_good _ _ _ ?_ | split)
theorem State.sdcStart_good {Q : Claim} (s : State) (h : s.Good Q) :
    (State.sdcStart s).Good Q := by
  unfold State.sdcStart; try dsimp only
  repeat' (first
    | with_reducible assumption | with_reducible refine State.updCon_good _ _ _ ?_
    | with_reducible refine State.each_good _ _ _ (fun _ _ _ => ?_) ?_)
theorem State.sessionTouch_good {Q : Claim} (s : State) (h : s.Good Q) :
    (State.sessionTouch s).Good Q := by
  unfold State.sessionTouch; try dsimp only
  repeat' (first
    | with_reducible assumption | with_reducible refine State.updSf_good _ _ ?_)
theorem State.sfOpen_good {Q : Claim} (s : State) (h : s.Good Q) :
    goodOwn Q (State.sfOpen s) := by
  unfold State.sfOpen; try dsimp only
  repeat' (first
    | with_reducible assumption | simp only [goodOwn_error_eq] | simp only [goodOwn_ok_eq]
    | with_reducible refine State.sessionTouch_good _ ?_ | with_reducible refine State.updSf_good _ _ ?_ | split)
theorem State.sfVerify_good {Q : Claim} (s : State) (h : s.Good Q) :
    goodOwn Q (State.sfVerify s) := by
  unfold State.sfVerify; try dsimp only
  repeat' (first
    | with_reducible assumption | simp only [goodOwn_error_eq] | simp only [goodOwn_ok_eq]
    | with_reducible refine State.sessionTouch_good _ ?_ | with_reducible refine State.updSf_good _ _ ?_ | split)
theorem State.sfAbort_good {Q : Claim} (s : State) (h : s.Good Q) :
    goodOwn Q (State.sfAbort s) := by
  unfold State.sfAbort; try dsimp only
  repeat' (first
    | with_reducible assumption | simp only [goodOwn_error_eq] | simp only [goodOwn_ok_eq]
    | with_reducible refine State.sessionAbort_good _ ?_ | split)
theorem State.sessionTimeout_good {Q : Claim} (s : State) (h : s.Good Q) :
    (State.sessionTimeout s).Good Q := by
  unfold State.sessionTimeout; try dsimp only
  repeat' (first
    | with_reducible assumption | with_reducible refine State.sessionAbort_good _ ?_
    | with_reducible refine State.at__good _ _ ?_ | split)
theorem State.ownSafeParam_good {Q : Claim} (s : State) (r : Reg) (v : Nat) (h : s.Good Q) :
    goodOwn Q (State.ownSafeParam s r v) := by
  unfold State.ownSafeParam; try dsimp only
  repeat' (first
    | with_reducible assumption | simp only [goodOwn_error_eq] | simp only [goodOwn_ok_eq]
    | with_reducible refine State.sessionTouch_good _ ?_ | with_reducible refine State.updSf_good _ _ ?_ | split)
theorem State.activateSafe_good {Q : Claim} (s : State) (h : s.Good Q) :
    (State.activateSafe s).Good Q := by
  unfold State.activateSafe; try dsimp only
  repeat' (first
    | with_reducible assumption | with_reducible refine State.updSf_good _ _ ?_
    | with_reducible refine State.sfJudge_good _ ?_ | with_reducible refine State.sdcStart_good _ ?_
    | refine good_od ?_ (fun w => foldl_insert_wf _ (filter_wf _ w)))
theorem State.writePage_good {Q : Claim} (s : State) (h : s.Good Q) :
    (State.writePage s).Good Q := by
  unfold State.writePage; try dsimp only
  repeat' (first
    | with_reducible assumption | with_reducible refine State.updNor_good _ _ (fun _ => below_refl _) ?_ | split)
theorem State.logRecord_good {Q : Claim} (s : State) (rec : List Byte) (h : s.Good Q) :
    (State.logRecord s rec).Good Q := by
  unfold State.logRecord; try dsimp only
  repeat' (first
    | with_reducible assumption | with_reducible refine State.raise_good _ _ _ ?_
    | with_reducible refine State.writePage_good _ ?_
    | with_reducible refine State.updNor_good _ _ (fun _ => below_refl _) ?_ | split)
theorem State.logEvent_good {Q : Claim} (s : State) (kind : Nat) (arg : Nat) (h : s.Good Q) :
    (State.logEvent s kind arg).Good Q := by
  unfold State.logEvent; try dsimp only
  repeat' (first
    | with_reducible assumption | with_reducible refine State.logRecord_good _ _ ?_)
theorem State.logPage_good {Q : Claim} (s : State) (h : s.Good Q) :
    (State.logPage s).Good Q := by
  unfold State.logPage; try dsimp only
  repeat' (first
    | with_reducible assumption | with_reducible refine State.writePage_good _ ?_
    | with_reducible refine State.at__good _ _ ?_ | split)
theorem State.seeWear_good {Q : Claim} (s0 : State) (s : State) (h : s0.Good Q) (h1 : s.Good Q) :
    (State.seeWear s0 s).Good Q := by
  unfold State.seeWear; try dsimp only
  repeat' (first
    | with_reducible assumption | with_reducible refine State.raise_good _ _ _ ?_ | split)
theorem State.beginCommit_good {Q : Claim} (s : State) (h : s.Good Q) :
    (State.beginCommit s).Good Q := by
  unfold State.beginCommit; try dsimp only
  repeat' (first
    | with_reducible assumption | with_reducible refine State.updNor_good _ _ (fun _ => below_refl _) ?_ | split)
theorem State.askCommit_good {Q : Claim} (s : State) (sf : Bool) (h : s.Good Q) :
    goodOwn Q (State.askCommit s sf) := by
  unfold State.askCommit; try dsimp only
  repeat' (first
    | with_reducible assumption | simp only [goodOwn_error_eq] | simp only [goodOwn_ok_eq]
    | with_reducible refine State.beginCommit_good _ ?_
    | with_reducible refine State.updNor_good _ _ (fun _ => below_refl _) ?_ | split)
theorem State.cfgCommit_good {Q : Claim} (s : State) (h : s.Good Q) :
    goodOwn Q (State.cfgCommit s) := by
  unfold State.cfgCommit; try dsimp only
  repeat' (first
    | with_reducible assumption | simp only [goodOwn_error_eq] | simp only [goodOwn_ok_eq]
    | with_reducible refine State.askCommit_good _ _ ?_
    | with_reducible refine State.updNor_good _ _ (fun _ => below_refl _) ?_ | split
    | refine goodOwn_of (by with_reducible assumption) ?_)
theorem State.commitDone_good {Q : Claim} (s : State) (t : Nat) (good : Bool) (h : s.Good Q) :
    (State.commitDone s t good).Good Q := by
  unfold State.commitDone; try dsimp only
  repeat' (first
    | with_reducible assumption | with_reducible refine State.at__good _ _ ?_
    | with_reducible refine State.logEvent_good _ _ _ ?_ | with_reducible refine State.raise_good _ _ _ ?_
    | with_reducible refine State.updNor_good _ _ (fun _ => below_refl _) ?_ | split
    | refine State.updNor_good _ _ (fun _ => setBank_below _ _) ?_)
theorem State.bootRom_good {Q : Claim} (s : State) (i : Nat) (h : s.Good Q) :
    (State.bootRom s i).Good Q := by
  unfold State.bootRom; try dsimp only
  repeat' (first
    | with_reducible assumption | with_reducible refine State.raise_good _ _ _ ?_
    | with_reducible refine State.updNor_good _ _ (fun _ => below_refl _) ?_ | split)
theorem State.fwErase_good {Q : Claim} (s : State) (h : s.Good Q) :
    (State.fwErase s).Good Q := by
  unfold State.fwErase; try dsimp only
  repeat' (first
    | with_reducible assumption | with_reducible refine State.updNor_good _ _ (fun _ => below_refl _) ?_)
theorem State.ownFwImage_good {Q : Claim} (s : State) (img : List Byte) (h : s.Good Q) :
    goodOwn Q (State.ownFwImage s img) := by
  unfold State.ownFwImage; try dsimp only
  repeat' (first
    | with_reducible assumption | simp only [goodOwn_error_eq] | simp only [goodOwn_ok_eq]
    | with_reducible refine State.updNor_good _ _ (fun _ => below_refl _) ?_ | split)
theorem State.fwActivate_good {Q : Claim} (s : State) (h : s.Good Q) :
    goodOwn Q (State.fwActivate s) := by
  unfold State.fwActivate; try dsimp only
  repeat' (first
    | with_reducible assumption | simp only [goodOwn_error_eq] | simp only [goodOwn_ok_eq]
    | with_reducible refine State.logEvent_good _ _ _ ?_ | with_reducible refine State.allStop_good _ ?_
    | with_reducible refine State.updNor_good _ _ (fun _ => below_refl _) ?_ | split
    | with_reducible refine good_with ?_ ?_)
theorem State.fwConfirm_good {Q : Claim} (s : State) (h : s.Good Q) :
    goodOwn Q (State.fwConfirm s) := by
  unfold State.fwConfirm; try dsimp only
  repeat' (first
    | with_reducible assumption | simp only [goodOwn_error_eq] | simp only [goodOwn_ok_eq]
    | with_reducible refine State.logEvent_good _ _ _ ?_ | split
    | refine State.updNor_good _ _ (fun _ => fwRb_below _ _) ?_)
theorem State.fuseCmd_good {Q : Claim} (s : State) (cmd : Nat) (h : s.Good Q) :
    goodOwn Q (State.fuseCmd s cmd) := by
  unfold State.fuseCmd; try dsimp only
  repeat' (first
    | with_reducible assumption | simp only [goodOwn_error_eq] | simp only [goodOwn_ok_eq]
    | with_reducible refine State.logEvent_good _ _ _ ?_
    | with_reducible refine State.updNor_good _ _ (fun _ => below_refl _) ?_ | split)
theorem State.fuseDone_good {Q : Claim} (s : State) (t : Nat) (good : Bool) (h : s.Good Q) :
    (State.fuseDone s t good).Good Q := by
  unfold State.fuseDone; try dsimp only
  repeat' (first
    | with_reducible assumption | with_reducible refine State.at__good _ _ ?_
    | with_reducible refine State.updNor_good _ _ (fun _ => below_refl _) ?_ | split
    | refine State.updNor_good _ _ (fun _ => program_below _ _ _) ?_)
theorem State.ownDebug_good {Q : Claim} (s : State) (img : List Byte) (h : s.Good Q) :
    goodOwn Q (State.ownDebug s img) := by
  unfold State.ownDebug; try dsimp only
  repeat' (first
    | with_reducible assumption | simp only [goodOwn_error_eq] | simp only [goodOwn_ok_eq]
    | with_reducible refine goodOwn_ite ?_ ?_
    | with_reducible refine State.updNor_good _ _ (fun _ => below_refl _) ?_ | split)
theorem State.ownNonce_good {Q : Claim} (s : State) (v : List Byte) (h : s.Good Q) :
    goodOwn Q (State.ownNonce s v) := by
  unfold State.ownNonce; try dsimp only
  repeat' (first
    | with_reducible assumption | simp only [goodOwn_ok_eq]
    | with_reducible refine State.updNor_good _ _ (fun _ => below_refl _) ?_)
theorem State.attest_good {Q : Claim} (s : State) (h : s.Good Q) :
    goodRead Q (State.attest s) := by
  unfold State.attest; try dsimp only
  repeat' (first
    | with_reducible exact goodRead_error | with_reducible refine goodRead_ok ?_ | with_reducible assumption
    | with_reducible refine State.updNor_good _ _ (fun _ => below_refl _) ?_ | split)
theorem State.updDump_good {Q : Claim} (s : State) (k : Nat) (f : Dump → Dump) (h : s.Good Q) :
    (State.updDump s k f).Good Q := by
  unfold State.updDump; try dsimp only
  repeat' (first
    | with_reducible assumption | with_reducible refine State.updNor_good _ _ (fun _ => below_refl _) ?_)
theorem State.preWritten_good {Q : Claim} (s : State) (h : s.Good Q) :
    (State.preWritten s).Good Q := by
  unfold State.preWritten; try dsimp only
  repeat' (first
    | with_reducible assumption | with_reducible refine State.at__good _ _ ?_
    | with_reducible refine State.updNor_good _ _ (fun _ => below_refl _) ?_ | split)
theorem State.dumpEnd_good {Q : Claim} (s : State) (h : s.Good Q) :
    (State.dumpEnd s).Good Q := by
  unfold State.dumpEnd; try dsimp only
  repeat' (first
    | with_reducible assumption | with_reducible refine State.at__good _ _ ?_
    | with_reducible refine State.seeWear_good _ _ ?_ ?_ | with_reducible refine State.logEvent_good _ _ _ ?_
    | with_reducible refine State.updNor_good _ _ (fun _ => below_refl _) ?_ | split)
theorem State.ownCelCmd_good {Q : Claim} (s : State) (v : Nat) (h : s.Good Q) :
    goodOwn Q (State.ownCelCmd s v) := by
  unfold State.ownCelCmd; try dsimp only
  repeat' (first
    | with_reducible assumption | simp only [goodOwn_error_eq] | simp only [goodOwn_ok_eq]
    | with_reducible refine State.dumpTrigger_good _ _ _ ?_ | with_reducible refine State.updDump_good _ _ _ ?_
    | with_reducible refine State.updNor_good _ _ (fun _ => below_refl _) ?_ | split)
theorem State.upNext_good {Q : Claim} (s : State) (h : s.Good Q) :
    (State.upNext s).Good Q := by
  unfold State.upNext; try dsimp only
  repeat' (first
    | with_reducible assumption | with_reducible refine State.send_good _ _ _ _ _ _ ?_
    | with_reducible refine State.updNor_good _ _ (fun _ => below_refl _) ?_ | split)
theorem State.uploadDone_good {Q : Claim} (s : State) (h : s.Good Q) :
    (State.uploadDone s).Good Q := by
  unfold State.uploadDone; try dsimp only
  repeat' (first
    | with_reducible assumption | with_reducible refine State.updDump_good _ _ _ ?_
    | with_reducible refine State.updNor_good _ _ (fun _ => below_refl _) ?_ | split)
theorem State.updClk_good {Q : Claim} (s : State) (f : Clocks → Clocks) (h : s.Good Q) :
    (State.updClk s f).Good Q := by
  unfold State.updClk; try dsimp only
  repeat' (first
    | with_reducible assumption | with_reducible refine good_with ?_ ?_ | exact (rfl : (_ : Fuses) = _))
theorem State.unstage_good {Q : Claim} (s : State) (h : s.Good Q) :
    (State.unstage s).Good Q := by
  unfold State.unstage; try dsimp only
  repeat' (first
    | with_reducible assumption | with_reducible refine State.wr_good _ _ _ ?_)
theorem State.gatePwm_good {Q : Claim} (s : State) (h : s.Good Q) :
    (State.gatePwm s).Good Q := by
  unfold State.gatePwm; try dsimp only
  repeat' (first
    | with_reducible assumption | with_reducible refine State.updClk_good _ _ ?_
    | with_reducible refine State.pwmLost_good _ ?_ | with_reducible refine State.carriersOff_good _ ?_
    | with_reducible refine State.measStop_good _ ?_ | split)
theorem State.relock_good {Q : Claim} (s : State) (set : ClkSet) (h : s.Good Q) :
    (State.relock s set).Good Q := by
  unfold State.relock; try dsimp only
  repeat' (first
    | with_reducible assumption | with_reducible refine State.updClk_good _ _ ?_
    | with_reducible refine State.sfJudge_good _ ?_ | with_reducible refine State.gatePwm_good _ ?_)
theorem State.relocked_good {Q : Claim} (s : State) (h : s.Good Q) :
    (State.relocked s).Good Q := by
  unfold State.relocked; try dsimp only
  repeat' (first
    | with_reducible assumption | with_reducible refine State.at__good _ _ ?_
    | with_reducible refine State.updClk_good _ _ ?_ | with_reducible refine State.mdRestart_good _ _ ?_
    | with_reducible refine State.sfRelease_good _ _ ?_ | with_reducible refine State.sfJudge_good _ ?_
    | with_reducible refine State.each_good _ _ _ (fun _ _ _ => ?_) ?_ | split)
theorem State.lockWindow_good {Q : Claim} (s : State) (t : Nat) (count : Nat) (h : s.Good Q) :
    (State.lockWindow s t count).Good Q := by
  unfold State.lockWindow; try dsimp only
  repeat' (first
    | with_reducible assumption | with_reducible refine State.at__good _ _ ?_
    | with_reducible refine State.updClk_good _ _ ?_ | with_reducible refine State.relock_good _ _ ?_
    | with_reducible refine State.raise_good _ _ _ ?_ | with_reducible refine State.relocked_good _ ?_ | split)
theorem State.relockTimeout_good {Q : Claim} (s : State) (h : s.Good Q) :
    (State.relockTimeout s).Good Q := by
  unfold State.relockTimeout; try dsimp only
  repeat' (first
    | with_reducible assumption | with_reducible refine State.at__good _ _ ?_
    | with_reducible refine State.raise_good _ _ _ ?_ | with_reducible refine State.updClk_good _ _ ?_ | split)
theorem State.ownClkApply_good {Q : Claim} (s : State) (v : Nat) (h : s.Good Q) :
    goodOwn Q (State.ownClkApply s v) := by
  unfold State.ownClkApply; try dsimp only
  repeat' (first
    | with_reducible assumption | simp only [goodOwn_error_eq] | simp only [goodOwn_ok_eq]
    | with_reducible refine State.relock_good _ _ ?_ | with_reducible refine State.updClk_good _ _ ?_
    | with_reducible refine State.unstage_good _ ?_ | split)
theorem State.linkLockChange_good {Q : Claim} (s : State) (on : Bool) (err : Int) (h : s.Good Q) :
    (State.linkLockChange s on err).Good Q := by
  unfold State.linkLockChange; try dsimp only
  repeat' (first
    | with_reducible assumption | with_reducible refine State.updClk_good _ _ ?_
    | with_reducible refine State.linkRestart_good _ ?_ | with_reducible refine State.raise_good _ _ _ ?_ | split)
theorem State.refLostClk_good {Q : Claim} (s : State) (h : s.Good Q) :
    (State.refLostClk s).Good Q := by
  unfold State.refLostClk; try dsimp only
  repeat' (first
    | with_reducible assumption | with_reducible refine State.updClk_good _ _ ?_
    | with_reducible refine State.updTb_good _ _ ?_ | with_reducible refine State.raise_good _ _ _ ?_
    | with_reducible refine State.gatePwm_good _ ?_)
theorem State.refReturn_good {Q : Claim} (s : State) (h : s.Good Q) :
    (State.refReturn s).Good Q := by
  unfold State.refReturn; try dsimp only
  repeat' (first
    | with_reducible assumption | with_reducible refine State.updClk_good _ _ ?_
    | with_reducible refine State.updTb_good _ _ ?_ | with_reducible refine State.relock_good _ _ ?_ | split)
theorem State.linkclkLost_good {Q : Claim} (s : State) (h : s.Good Q) :
    (State.linkclkLost s).Good Q := by
  unfold State.linkclkLost; try dsimp only
  repeat' (first
    | with_reducible assumption | with_reducible refine State.raise_good _ _ _ ?_
    | with_reducible refine State.updClk_good _ _ ?_)
theorem State.clkFreq_good {Q : Claim} (s : State) (i : Nat) (hz : Nat) (h : s.Good Q) :
    (State.clkFreq s i hz).Good Q := by
  unfold State.clkFreq; try dsimp only
  repeat' (first
    | with_reducible assumption | with_reducible refine State.updClk_good _ _ ?_
    | with_reducible refine State.raise_good _ _ _ ?_ | split)
theorem State.periodGuard_good {Q : Claim} (s : State) (i : Nat) (h : s.Good Q) :
    (State.periodGuard s i).Good Q := by
  unfold State.periodGuard; try dsimp only
  repeat' (first
    | with_reducible assumption | with_reducible refine State.raise_good _ _ _ ?_
    | with_reducible refine State.updClk_good _ _ ?_)
theorem State.ownClkClr_good {Q : Claim} (s : State) (v : Nat) (h : s.Good Q) :
    goodOwn Q (State.ownClkClr s v) := by
  unfold State.ownClkClr; try dsimp only
  repeat' (first
    | with_reducible assumption | simp only [goodOwn_ok_eq] | with_reducible refine State.updClk_good _ _ ?_)
theorem State.updMgr_good {Q : Claim} (s : State) (f : Mgr → Mgr) (h : s.Good Q) :
    (State.updMgr s f).Good Q := by
  unfold State.updMgr; try dsimp only
  repeat' (first
    | with_reducible assumption | with_reducible refine good_with ?_ ?_ | exact (rfl : (_ : Fuses) = _))
theorem State.seeGrade_good {Q : Claim} (s : State) (h : s.Good Q) :
    (State.seeGrade s).Good Q := by
  unfold State.seeGrade; try dsimp only
  repeat' (first
    | with_reducible assumption | with_reducible refine State.updMgr_good _ _ ?_)
theorem State.setUnfit_good {Q : Claim} (s : State) (bitNo : Nat) (h : s.Good Q) :
    (State.setUnfit s bitNo).Good Q := by
  unfold State.setUnfit; try dsimp only
  repeat' (first
    | with_reducible assumption | with_reducible refine State.updMgr_good _ _ ?_
    | with_reducible refine State.seeGrade_good _ ?_ | with_reducible refine State.raise_good _ _ _ ?_ | split)
theorem State.tellPeer_good {Q : Claim} (s : State) (kind : Nat) (body : List Byte) (h : s.Good Q) :
    (State.tellPeer s kind body).Good Q := by
  unfold State.tellPeer; try dsimp only
  repeat' (first
    | with_reducible assumption | with_reducible refine State.send_good _ _ _ _ _ _ ?_)
theorem State.heartbeat_good {Q : Claim} (s : State) (h : s.Good Q) :
    (State.heartbeat s).Good Q := by
  unfold State.heartbeat; try dsimp only
  repeat' (first
    | with_reducible assumption | with_reducible refine State.send_good _ _ _ _ _ _ ?_ | split)
theorem State.formDigests_good {Q : Claim} (s : State) (k : Nat) (h : s.Good Q) :
    (State.formDigests s k).Good Q := by
  unfold State.formDigests; try dsimp only
  repeat' (first
    | with_reducible assumption | with_reducible refine State.updMgr_good _ _ ?_)
theorem State.startTransfer_good {Q : Claim} (s : State) (h : s.Good Q) :
    (State.startTransfer s).Good Q := by
  unfold State.startTransfer; try dsimp only
  repeat' (first
    | with_reducible assumption | with_reducible refine State.tellPeer_good _ _ _ ?_
    | with_reducible refine State.updMgr_good _ _ ?_)
theorem State.toStandby_good {Q : Claim} (s : State) (h : s.Good Q) :
    (State.toStandby s).Good Q := by
  unfold State.toStandby; try dsimp only
  repeat' (first
    | with_reducible assumption | with_reducible refine State.updMgr_good _ _ ?_
    | with_reducible refine State.seeGrade_good _ ?_ | with_reducible refine State.startTransfer_good _ ?_
    | with_reducible refine State.raise_good _ _ _ ?_ | split)
theorem State.takePass_good {Q : Claim} (s : State) (epoch : Nat) (h : s.Good Q) :
    (State.takePass s epoch).Good Q := by
  unfold State.takePass; try dsimp only
  repeat' (first
    | with_reducible assumption | with_reducible refine State.updMgr_good _ _ ?_
    | with_reducible refine State.becomeSource_good _ ?_)
theorem State.listenExpiry_good {Q : Claim} (s : State) (h : s.Good Q) :
    (State.listenExpiry s).Good Q := by
  unfold State.listenExpiry; try dsimp only
  repeat' (first
    | with_reducible assumption | with_reducible refine State.at__good _ _ ?_
    | with_reducible refine State.seeSource_good _ ?_ | with_reducible refine State.toStandby_good _ ?_
    | with_reducible refine State.rollStart_good _ ?_ | with_reducible refine State.takePass_good _ _ ?_ | split)
theorem State.mgrTake_good {Q : Claim} (s : State) (h : s.Good Q) :
    (State.mgrTake s).Good Q := by
  unfold State.mgrTake; try dsimp only
  repeat' (first
    | with_reducible assumption | with_reducible refine State.takePass_good _ _ ?_
    | with_reducible refine State.updMgr_good _ _ ?_ | with_reducible refine State.heartbeat_good _ ?_
    | with_reducible refine State.raise_good _ _ _ ?_ | with_reducible refine State.rollStart_good _ ?_ | split)
theorem State.endHandback_good {Q : Claim} (s : State) (reason : Nat) (h : s.Good Q) :
    (State.endHandback s reason).Good Q := by
  unfold State.endHandback; try dsimp only
  repeat' (first
    | with_reducible assumption | with_reducible refine State.raise_good _ _ _ ?_
    | with_reducible refine State.updMgr_good _ _ ?_)
theorem State.abortHandback_good {Q : Claim} (s : State) (reason : Nat) (h : s.Good Q) :
    (State.abortHandback s reason).Good Q := by
  unfold State.abortHandback; try dsimp only
  repeat' (first
    | with_reducible assumption | with_reducible refine State.endHandback_good _ _ ?_
    | with_reducible refine State.tellPeer_good _ _ _ ?_ | split)
theorem State.acceptHandback_good {Q : Claim} (s : State) (h : s.Good Q) :
    (State.acceptHandback s).Good Q := by
  unfold State.acceptHandback; try dsimp only
  repeat' (first
    | with_reducible assumption | with_reducible refine State.tellPeer_good _ _ _ ?_
    | with_reducible refine State.updMgr_good _ _ ?_)
theorem State.handbackReq_good {Q : Claim} (s : State) (h : s.Good Q) :
    (State.handbackReq s).Good Q := by
  unfold State.handbackReq; try dsimp only
  repeat' (first
    | with_reducible assumption | with_reducible refine State.acceptHandback_good _ ?_ | split)
theorem State.handbackAccept_good {Q : Claim} (s : State) (kh : Nat) (h : s.Good Q) :
    (State.handbackAccept s kh).Good Q := by
  unfold State.handbackAccept; try dsimp only
  repeat' (first
    | with_reducible assumption | with_reducible refine State.updMgr_good _ _ ?_ | split)
theorem State.handbackAbort_good {Q : Claim} (s : State) (reason : Nat) (h : s.Good Q) :
    (State.handbackAbort s reason).Good Q := by
  unfold State.handbackAbort; try dsimp only
  repeat' (first
    | with_reducible assumption | with_reducible refine State.endHandback_good _ _ ?_ | split)
theorem State.handbackSwitch_good {Q : Claim} (s : State) (h : s.Good Q) :
    (State.handbackSwitch s).Good Q := by
  unfold State.handbackSwitch; try dsimp only
  repeat' (first
    | with_reducible assumption | with_reducible refine State.at__good _ _ ?_
    | with_reducible refine State.updMgr_good _ _ ?_ | with_reducible refine State.takePass_good _ _ ?_
    | with_reducible refine State.seeSource_good _ ?_ | with_reducible refine State.toStandby_good _ ?_ | split)
theorem State.overlapEnd_good {Q : Claim} (s : State) (h : s.Good Q) :
    (State.overlapEnd s).Good Q := by
  unfold State.overlapEnd; try dsimp only
  repeat' (first
    | with_reducible assumption | with_reducible refine State.updMgr_good _ _ ?_
    | with_reducible refine State.at__good _ _ ?_ | split)
theorem State.reclaim_good {Q : Claim} (s : State) (h : s.Good Q) :
    (State.reclaim s).Good Q := by
  unfold State.reclaim; try dsimp only
  repeat' (first
    | with_reducible assumption | with_reducible refine State.tellPeer_good _ _ _ ?_
    | with_reducible refine State.updMgr_good _ _ ?_ | with_reducible refine State.at__good _ _ ?_ | split)
theorem State.ownMgrCmd_good {Q : Claim} (s : State) (v : Nat) (h : s.Good Q) :
    goodOwn Q (State.ownMgrCmd s v) := by
  unfold State.ownMgrCmd; try dsimp only
  repeat' (first
    | with_reducible assumption | simp only [goodOwn_error_eq] | simp only [goodOwn_ok_eq]
    | with_reducible refine State.tellPeer_good _ _ _ ?_ | with_reducible refine State.updMgr_good _ _ ?_
    | with_reducible refine State.acceptHandback_good _ ?_ | with_reducible refine State.startTransfer_good _ ?_
    | split)
theorem State.transferReq_good {Q : Claim} (s : State) (h : s.Good Q) :
    (State.transferReq s).Good Q := by
  unfold State.transferReq; try dsimp only
  repeat' (first
    | with_reducible assumption | with_reducible refine State.updMgr_good _ _ ?_ | split)
theorem State.sendSnap_good {Q : Claim} (s : State) (k : Nat) (h : s.Good Q) :
    (State.sendSnap s k).Good Q := by
  unfold State.sendSnap; try dsimp only
  repeat' (first
    | with_reducible assumption | with_reducible refine State.updMgr_good _ _ ?_
    | with_reducible refine State.raise_good _ _ _ ?_ | with_reducible refine State.tellPeer_good _ _ _ ?_
    | with_reducible refine State.each_good _ _ _ (fun _ _ _ => ?_) ?_ | split)
theorem State.loadSnap_good {Q : Claim} (s : State) (img : List Byte) (h : s.Good Q) :
    (State.loadSnap s img).Good Q := by
  unfold State.loadSnap; try dsimp only
  repeat' (first
    | with_reducible assumption | with_reducible refine State.updLs_good _ _ _ ?_
    | with_reducible refine good_foldl_fst _ _ (fun _ _ _ => ?_) _ ?_)
theorem State.catchUp_good {Q : Claim} (s : State) (n : Nat) (ins : List (Nat × Nat)) (h : s.Good Q) :
    (State.catchUp s n ins).Good Q := by
  unfold State.catchUp; try dsimp only
  repeat' (first
    | with_reducible assumption | with_reducible refine State.updLs_good _ _ _ ?_ | split)
theorem State.stateRx_good {Q : Claim} (s : State) (ks : Nat) (ofs : Nat) (total : Nat) (chunk : List Byte) (h : s.Good Q) :
    (State.stateRx s ks ofs total chunk).Good Q := by
  unfold State.stateRx; try dsimp only
  repeat' (first
    | with_reducible assumption | with_reducible refine State.updMgr_good _ _ ?_
    | with_reducible refine State.loadSnap_good _ _ ?_ | with_reducible refine State.catchUp_good _ _ _ ?_
    | with_reducible refine State.each_good _ _ _ (fun _ _ _ => ?_) ?_ | split)
theorem State.transferTimeout_good {Q : Claim} (s : State) (h : s.Good Q) :
    (State.transferTimeout s).Good Q := by
  unfold State.transferTimeout; try dsimp only
  repeat' (first
    | with_reducible assumption | with_reducible refine State.startTransfer_good _ ?_
    | with_reducible refine State.at__good _ _ ?_ | split)
theorem State.diverge_good {Q : Claim} (s : State) (h : s.Good Q) :
    (State.diverge s).Good Q := by
  unfold State.diverge; try dsimp only
  repeat' (first
    | with_reducible assumption | with_reducible refine State.updMgr_good _ _ ?_
    | with_reducible refine State.abortHandback_good _ _ ?_ | with_reducible refine State.raise_good _ _ _ ?_
    | with_reducible refine State.setUnfit_good _ _ ?_ | with_reducible refine State.seeGrade_good _ ?_
    | with_reducible refine State.startTransfer_good _ ?_ | split)
theorem State.compareDigests_good {Q : Claim} (s : State) (cycle : Nat) (inD : Nat) (outD : Nat) (h : s.Good Q) :
    (State.compareDigests s cycle inD outD).Good Q := by
  unfold State.compareDigests; try dsimp only
  repeat' (first
    | with_reducible assumption | with_reducible refine State.seeGrade_good _ ?_
    | with_reducible refine State.updMgr_good _ _ ?_ | with_reducible refine State.diverge_good _ ?_ | split)
theorem State.heartbeatRx_good {Q : Claim} (s : State) (src : Nat) (p : List Byte) (h : s.Good Q) :
    (State.heartbeatRx s src p).Good Q := by
  unfold State.heartbeatRx; try dsimp only
  repeat' (first
    | with_reducible assumption | with_reducible refine good_ite ?_ ?_
    | with_reducible refine State.updMgr_good _ _ ?_ | with_reducible refine State.toStandby_good _ ?_
    | with_reducible refine State.raise_good _ _ _ ?_ | with_reducible refine State.seeSource_good _ ?_
    | with_reducible refine State.compareDigests_good _ _ _ _ ?_)
theorem State.mgrFrame_good {Q : Claim} (s : State) (src : Nat) (p : List Byte) (h : s.Good Q) :
    (State.mgrFrame s src p).Good Q := by
  unfold State.mgrFrame; try dsimp only
  repeat' (first
    | with_reducible assumption | with_reducible refine State.heartbeatRx_good _ _ _ ?_
    | with_reducible refine State.transferReq_good _ ?_ | with_reducible refine State.stateRx_good _ _ _ _ _ ?_
    | with_reducible refine State.handbackReq_good _ ?_ | with_reducible refine State.handbackAccept_good _ _ ?_
    | with_reducible refine State.handbackAbort_good _ _ ?_ | split)
theorem State.mgrCycle_good {Q : Claim} (s : State) (k : Nat) (h : s.Good Q) :
    (State.mgrCycle s k).Good Q := by
  unfold State.mgrCycle; try dsimp only
  repeat' (first
    | with_reducible assumption | with_reducible refine State.formDigests_good _ _ ?_
    | with_reducible refine State.updMgr_good _ _ ?_ | with_reducible refine State.raise_good _ _ _ ?_
    | with_reducible refine State.abortHandback_good _ _ ?_ | with_reducible refine State.seeGrade_good _ ?_
    | with_reducible refine State.sendSnap_good _ _ ?_ | with_reducible refine State.heartbeat_good _ ?_ | split)
theorem State.wkFrame_good {Q : Claim} (s : State) (h : s.Good Q) :
    (State.wkFrame s).Good Q := by
  unfold State.wkFrame; try dsimp only
  repeat' (first
    | with_reducible assumption | with_reducible refine State.updMgr_good _ _ ?_)
theorem State.wkCycle_good {Q : Claim} (s : State) (h : s.Good Q) :
    (State.wkCycle s).Good Q := by
  unfold State.wkCycle; try dsimp only
  repeat' (first
    | with_reducible assumption | with_reducible refine State.updMgr_good _ _ ?_)
theorem State.wkHold_good {Q : Claim} (s : State) (h : s.Good Q) :
    (State.wkHold s).Good Q := by
  unfold State.wkHold; try dsimp only
  repeat' (first
    | with_reducible assumption | with_reducible refine State.raise_good _ _ _ ?_
    | with_reducible refine State.updMgr_good _ _ ?_ | with_reducible refine State.at__good _ _ ?_ | split)
theorem State.wkDroop_good {Q : Claim} (s : State) (h : s.Good Q) :
    (State.wkDroop s).Good Q := by
  unfold State.wkDroop; try dsimp only
  repeat' (first
    | with_reducible assumption | with_reducible refine State.at__good _ _ ?_
    | with_reducible refine State.raise_good _ _ _ ?_ | with_reducible refine State.updMgr_good _ _ ?_ | split)
theorem State.wkInputs_good {Q : Claim} (s : State) (h : s.Good Q) :
    (State.wkInputs s).Good Q := by
  unfold State.wkInputs; try dsimp only
  repeat' (first
    | with_reducible assumption | with_reducible refine State.hostIn_good _ _ _ _ ?_
    | with_reducible refine State.each_good _ _ _ (fun _ _ _ => ?_) ?_ | split)
theorem State.ownMgrClr_good {Q : Claim} (s : State) (v : Nat) (h : s.Good Q) :
    goodOwn Q (State.ownMgrClr s v) := by
  unfold State.ownMgrClr; try dsimp only
  repeat' (first
    | with_reducible assumption | simp only [goodOwn_ok_eq] | with_reducible refine State.updMgr_good _ _ ?_)

end Sys2Proof.Machine
end

