-- ==== Sys2Proof/Laws/GoodPower.lean ====
section
/-! SUPPORT. What power, BIST, fault reactions, slot commands keep, one lemma each (see Laws/Good.lean). -/

namespace Sys2Proof.Machine

theorem State.updPwr_good {Q : Claim} (s : State) (f : Power → Power) (h : s.Good Q) :
    (State.updPwr s f).Good Q := by
  unfold State.updPwr; try dsimp only
  repeat' (first
    | with_reducible assumption | with_reducible refine good_ite ?_ ?_ | dsimp only | split
    | with_reducible refine good_with ?_ ?_ | exact (rfl : (_ : Fuses) = _))
theorem State.reqBit_good {Q : Claim} (s : State) (d : Nat) (on : Bool) (h : s.Good Q) :
    (State.reqBit s d on).Good Q := by
  unfold State.reqBit; try dsimp only
  repeat' (first
    | with_reducible assumption | with_reducible refine good_ite ?_ ?_ | with_reducible refine State.wr_good _ _ _ ?_ | dsimp only
    | split)
theorem State.wakeRecord_good {Q : Claim} (s : State) (d : Nat) (source : Nat) (master : Nat) (h : s.Good Q) :
    (State.wakeRecord s d source master).Good Q := by
  unfold State.wakeRecord; try dsimp only
  repeat' (first
    | with_reducible assumption | with_reducible refine good_ite ?_ ?_ | dsimp only | split
    | with_reducible refine good_with ?_ ?_ | exact (rfl : (_ : Fuses) = _))
theorem State.wake_good {Q : Claim} (s : State) (d : Nat) (source : Nat) (master : Nat) (h : s.Good Q) :
    (State.wake s d source master).Good Q := by
  unfold State.wake; try dsimp only
  repeat' (first
    | with_reducible assumption | with_reducible refine good_ite ?_ ?_ | with_reducible refine State.wakeRecord_good _ _ _ _ ?_ | with_reducible refine State.reqBit_good _ _ _ ?_
    | with_reducible refine State.updPwr_good _ _ ?_ | dsimp only | split)
theorem State.domainOff_good {Q : Claim} (s : State) (d : Nat) (h : s.Good Q) :
    (State.domainOff s d).Good Q := by
  unfold State.domainOff; try dsimp only
  repeat' (first
    | with_reducible assumption | with_reducible refine good_ite ?_ ?_ | with_reducible refine State.updPwr_good _ _ ?_ | with_reducible refine State.measStop_good _ ?_
    | with_reducible refine State.linkDown_good _ ?_ | dsimp only | split | with_reducible refine good_with ?_ ?_
    | exact (rfl : (_ : Fuses) = _) | refine goodOwn_of (by with_reducible assumption) ?_)
theorem State.pwrReq_good {Q : Claim} (s : State) (v : Nat) (h : s.Good Q) :
    (State.pwrReq s v).1.Good Q := by
  unfold State.pwrReq; try dsimp only
  repeat' (first
    | with_reducible assumption | with_reducible refine good_ite ?_ ?_ | with_reducible refine State.updPwr_good _ _ ?_ | with_reducible refine State.wake_good _ _ _ _ ?_
    | with_reducible refine State.reqBit_good _ _ _ ?_ | with_reducible refine State.domainOff_good _ _ ?_ | with_reducible refine good_foldl _ _ (fun _ _ _ => ?_) _ ?_ | with_reducible refine good_foldl_fst _ _ (fun _ _ _ => ?_) _ ?_
    | dsimp only | split)
theorem State.domainUp_good {Q : Claim} (s : State) (d : Nat) (h : s.Good Q) :
    (State.domainUp s d).Good Q := by
  unfold State.domainUp
  split
  · exact good_with h rfl
  · refine good_low h rfl (fun w => ?_) (fun g m => ?_) (below_refl _)
    · rw [sound_fields] at w ⊢
      exact ⟨w.1, List.length_replicate, (List.length_mapIdx).trans w.2.2.1, List.length_replicate,
        List.length_replicate, List.length_replicate, w.2.2.2.2.2.2⟩
    · obtain ⟨i, _, e⟩ := List.mem_mapIdx.mp m
      rw [← e]
      exact ⟨rfl, rfl⟩
  · refine State.each_good _ _ _ (fun s m h => ?_) ?_
    · exact good_ite (State.mdRestart_good _ _ h) h
    · refine State.each_good _ _ _ (fun s i h => State.streamStart_good _ _ h) ?_
      refine ⟨h.1, fun a => ?_, h.2.2⟩
      have w := h.2.1 a
      rw [sound_fields] at w ⊢
      exact ⟨w.1, w.2.1, w.2.2.1, w.2.2.2.1, w.2.2.2.2.1, w.2.2.2.2.2.1, List.length_replicate, w.2.2.2.2.2.2.2⟩
  · exact State.linkUp_good _ (State.toFreerun_good _ h)
  · exact good_with (State.feedWake_good _ h) rfl
  · exact h
theorem State.domainReady_good {Q : Claim} (s : State) (d : Nat) (t : Nat) (h : s.Good Q) :
    (State.domainReady s d t).Good Q := by
  unfold State.domainReady; try dsimp only
  repeat' (first
    | with_reducible assumption | with_reducible refine good_ite ?_ ?_ | with_reducible refine State.at__good _ _ ?_ | with_reducible refine State.updPwr_good _ _ ?_
    | with_reducible refine State.wakeRecord_good _ _ _ _ ?_ | with_reducible refine State.domainUp_good _ _ ?_ | dsimp only | split)
theorem State.wakeAccess_good {Q : Claim} (s : State) (d : Nat) (source : Nat) (master : Nat) (h : s.Good Q) :
    (State.wakeAccess s d source master).2.Good Q := by
  unfold State.wakeAccess; try dsimp only [State.draw]
  repeat' (first
    | with_reducible assumption | with_reducible refine good_ite ?_ ?_ | with_reducible refine State.draw_good _ ?_ | dsimp only
    | split | with_reducible refine good_with ?_ ?_ | exact (rfl : (_ : Fuses) = _))
theorem State.wakeTimeout_good {Q : Claim} (s : State) (d : Nat) (h : s.Good Q) :
    (State.wakeTimeout s d).Good Q := by
  unfold State.wakeTimeout; try dsimp only
  repeat' (first
    | with_reducible assumption | with_reducible refine good_ite ?_ ?_ | with_reducible refine State.at__good _ _ ?_ | with_reducible refine State.wakeAccess_good _ _ _ _ ?_
    | with_reducible refine State.raiseBy_good _ _ _ _ _ ?_ | with_reducible refine State.reqBit_good _ _ _ ?_ | with_reducible refine State.domainOff_good _ _ ?_ | dsimp only
    | split | refine good_snd_of (by with_reducible assumption) ?_)
theorem State.accessWake_good {Q : Claim} (s : State) (d : Nat) (master : Nat) (h : s.Good Q) :
    (State.accessWake s d master).Good Q := by
  unfold State.accessWake; try dsimp only
  repeat' (first
    | with_reducible assumption | with_reducible refine good_ite ?_ ?_ | with_reducible refine State.wake_good _ _ _ _ ?_ | dsimp only
    | split)
theorem State.busAccess_good {Q : Claim} (s : State) (d : Nat) (master : Nat) (write : Bool) (h : s.Good Q) :
    (State.busAccess s d master write).Good Q := by
  unfold State.busAccess; try dsimp only [State.draw]
  repeat' (first
    | with_reducible assumption | with_reducible refine good_ite ?_ ?_ | with_reducible refine State.raiseBy_good _ _ _ _ _ ?_
    | with_reducible refine State.accessWake_good _ _ _ ?_ | dsimp only | split | with_reducible refine good_with ?_ ?_ | exact (rfl : (_ : Fuses) = _))
theorem State.supplySet_good {Q : Claim} (s : State) (b : Nat) (ok : Bool) (h : s.Good Q) :
    (State.supplySet s b ok).Good Q := by
  unfold State.supplySet; try dsimp only
  repeat' (first
    | with_reducible assumption | with_reducible refine good_ite ?_ ?_ | with_reducible refine State.updPwr_good _ _ ?_ | dsimp only
    | split)
theorem State.pwrBank_good {Q : Claim} (s : State) (b : Nat) (h : s.Good Q) :
    (State.pwrBank s b).Good Q := by
  unfold State.pwrBank; try dsimp only
  repeat' (first
    | with_reducible assumption | with_reducible refine good_ite ?_ ?_ | with_reducible refine State.supplySet_good _ _ _ ?_ | with_reducible refine State.safeOffUnit_good _ _ _ _ _ ?_
    | with_reducible refine State.raise_good _ _ _ ?_ | with_reducible refine State.each_good _ _ _ (fun _ _ _ => ?_) ?_ | dsimp only | split)
theorem State.pwrAnalog_good {Q : Claim} (s : State) (h : s.Good Q) :
    (State.pwrAnalog s).Good Q := by
  unfold State.pwrAnalog; try dsimp only
  repeat' (first
    | with_reducible assumption | with_reducible refine good_ite ?_ ?_ | with_reducible refine State.supplySet_good _ _ _ ?_ | with_reducible refine State.updCmp_good _ _ _ ?_
    | with_reducible refine State.raise_good _ _ _ ?_ | with_reducible refine State.each_good _ _ _ (fun _ _ _ => ?_) ?_ | dsimp only | split)
theorem State.pwrIo_good {Q : Claim} (s : State) (b : Nat) (h : s.Good Q) :
    (State.pwrIo s b).Good Q := by
  unfold State.pwrIo; try dsimp only
  repeat' (first
    | with_reducible assumption | with_reducible refine good_ite ?_ ?_ | with_reducible refine State.raise_good _ _ _ ?_ | with_reducible refine State.supplySet_good _ _ _ ?_
    | dsimp only | split)
theorem State.hwReset_good {Q : Claim} (s : State) (cause : Nat) (cold : Bool) (h : s.Good Q) :
    (State.hwReset s cause cold).Good Q := by
  unfold State.hwReset State.draw
  dsimp only
  refine iter_good _ (fun r h => State.raise_good _ _ _ h) _ _ ?_
  refine good_low h rfl (fun w => ?_) (fun g m => ?_) (afterReset_below _ _)
  · rw [sound_fields] at w ⊢
    refine ⟨?_, List.length_replicate, List.length_map .. |>.trans w.2.2.1, List.length_replicate, List.length_replicate,
      List.length_replicate, List.length_replicate, List.length_map .. |>.trans w.2.2.2.2.2.2.2⟩
    dsimp only
    split
    · rfl
    · exact filter_wf _ w.1
  · obtain ⟨x, _, e⟩ := List.mem_map.mp m
    rw [← e]
    exact ⟨rfl, rfl⟩
theorem State.settleReset_good {Q : Claim} (s : State) (h : s.Good Q) :
    (State.settleReset s).Good Q := by
  unfold State.settleReset; try dsimp only
  repeat' (first
    | with_reducible assumption | with_reducible refine good_ite ?_ ?_ | with_reducible refine State.hwReset_good _ _ _ ?_ | dsimp only
    | split)
theorem State.pulseActs_good {Q : Claim} (s : State) (width : Nat) (h : s.Good Q) :
    (State.pulseActs s width).2.Good Q := by
  unfold State.pulseActs; try dsimp only [State.draw]
  repeat' (first
    | with_reducible assumption | with_reducible refine good_ite ?_ ?_ | with_reducible refine State.draw_good _ ?_ | dsimp only
    | split | with_reducible refine good_with ?_ ?_ | exact (rfl : (_ : Fuses) = _))
theorem State.rstN_good {Q : Claim} (s : State) (t : Nat) (width : Nat) (h : s.Good Q) :
    (State.rstN s t width).Good Q := by
  unfold State.rstN; try dsimp only
  repeat' (first
    | with_reducible assumption | with_reducible refine good_ite ?_ ?_ | with_reducible refine State.at__good _ _ ?_ | with_reducible refine State.updPwr_good _ _ ?_
    | with_reducible refine State.raise_good _ _ _ ?_ | with_reducible refine State.pulseActs_good _ _ ?_ | with_reducible refine State.hwReset_good _ _ _ ?_ | dsimp only
    | split | with_reducible refine good_with ?_ ?_ | exact (rfl : (_ : Fuses) = _) | refine good_snd_of (by with_reducible assumption) ?_)
theorem State.rstHeldLow_good {Q : Claim} (s : State) (t : Nat) (h : s.Good Q) :
    (State.rstHeldLow s t).Good Q := by
  unfold State.rstHeldLow; try dsimp only
  repeat' (first
    | with_reducible assumption | with_reducible refine good_ite ?_ ?_ | with_reducible refine State.hwReset_good _ _ _ ?_ | with_reducible refine State.at__good _ _ ?_
    | dsimp only | split | with_reducible refine good_with ?_ ?_ | exact (rfl : (_ : Fuses) = _))
theorem State.porstN_good {Q : Claim} (s : State) (t : Nat) (width : Nat) (core : Nat) (h : s.Good Q) :
    (State.porstN s t width core).Good Q := by
  unfold State.porstN; try dsimp only
  repeat' (first
    | with_reducible assumption | with_reducible refine good_ite ?_ ?_ | with_reducible refine State.at__good _ _ ?_ | with_reducible refine State.pulseActs_good _ _ ?_
    | with_reducible refine State.hwReset_good _ _ _ ?_ | with_reducible refine State.updPwr_good _ _ ?_ | dsimp only | split
    | refine good_snd_of (by with_reducible assumption) ?_)
theorem State.hostWdExpiry_good {Q : Claim} (s : State) (h : s.Good Q) :
    (State.hostWdExpiry s).Good Q := by
  unfold State.hostWdExpiry; try dsimp only
  repeat' (first
    | with_reducible assumption | with_reducible refine good_ite ?_ ?_ | with_reducible refine State.hwReset_good _ _ _ ?_ | with_reducible refine State.at__good _ _ ?_
    | dsimp only | split)
theorem State.sleepCmd_good {Q : Claim} (s : State) (h : s.Good Q) :
    goodOwn Q (State.sleepCmd s) := by
  unfold State.sleepCmd; try dsimp only
  repeat' (first
    | with_reducible assumption | simp only [goodOwn_error_eq] | simp only [goodOwn_ok_eq] | with_reducible refine goodOwn_ite ?_ ?_
    | with_reducible refine good_ite ?_ ?_ | with_reducible refine State.measStop_good _ ?_ | with_reducible refine State.linkDown_good _ ?_ | with_reducible refine State.updPwr_good _ _ ?_
    | dsimp only | split | refine goodOwn_of (by with_reducible assumption) ?_)
theorem State.sleepEnds_good {Q : Claim} (s : State) (source : Nat) (h : s.Good Q) :
    (State.sleepEnds s source).Good Q := by
  unfold State.sleepEnds; try dsimp only
  repeat' (first
    | with_reducible assumption | with_reducible refine good_ite ?_ ?_ | with_reducible refine State.hwReset_good _ _ _ ?_ | with_reducible refine State.wakeRecord_good _ _ _ _ ?_
    | with_reducible refine State.updPwr_good _ _ ?_ | dsimp only | split)
theorem State.wakeN_good {Q : Claim} (s : State) (t : Nat) (width : Nat) (h : s.Good Q) :
    (State.wakeN s t width).Good Q := by
  unfold State.wakeN; try dsimp only
  repeat' (first
    | with_reducible assumption | with_reducible refine good_ite ?_ ?_ | with_reducible refine State.sleepEnds_good _ _ ?_ | with_reducible refine State.at__good _ _ ?_
    | dsimp only | split)
theorem State.sleepTimer_good {Q : Claim} (s : State) (h : s.Good Q) :
    (State.sleepTimer s).Good Q := by
  unfold State.sleepTimer; try dsimp only
  repeat' (first
    | with_reducible assumption | with_reducible refine good_ite ?_ ?_ | with_reducible refine State.sleepEnds_good _ _ ?_ | with_reducible refine State.at__good _ _ ?_
    | dsimp only | split)
theorem State.retLost_good {Q : Claim} (s : State) (bad : Nat) (h : s.Good Q) :
    (State.retLost s bad).Good Q := by
  unfold State.retLost; try dsimp only
  repeat' (first
    | with_reducible assumption | with_reducible refine good_ite ?_ ?_ | with_reducible refine State.wr_good _ _ _ ?_ | dsimp only
    | split | with_reducible refine good_with ?_ ?_ | exact (rfl : (_ : Fuses) = _))
theorem State.ownRstFlagsClr_good {Q : Claim} (s : State) (v : Nat) (h : s.Good Q) :
    goodOwn Q (State.ownRstFlagsClr s v) := by
  unfold State.ownRstFlagsClr; try dsimp only
  repeat' (first
    | with_reducible assumption | simp only [goodOwn_error_eq] | simp only [goodOwn_ok_eq] | with_reducible refine goodOwn_ite ?_ ?_
    | with_reducible refine good_ite ?_ ?_ | dsimp only | split | with_reducible refine good_with ?_ ?_
    | exact (rfl : (_ : Fuses) = _))
theorem State.rstCmd_good {Q : Claim} (s : State) (h : s.Good Q) :
    goodOwn Q (State.rstCmd s) := by
  unfold State.rstCmd; try dsimp only
  repeat' (first
    | with_reducible assumption | simp only [goodOwn_error_eq] | simp only [goodOwn_ok_eq] | with_reducible refine goodOwn_ite ?_ ?_
    | with_reducible refine good_ite ?_ ?_ | with_reducible refine State.updPwr_good _ _ ?_ | with_reducible refine State.allStop_good _ ?_ | dsimp only
    | split)
theorem State.hostWdService_good {Q : Claim} (s : State) (h : s.Good Q) :
    goodOwn Q (State.hostWdService s) := by
  unfold State.hostWdService; try dsimp only
  repeat' (first
    | with_reducible assumption | simp only [goodOwn_error_eq] | simp only [goodOwn_ok_eq] | with_reducible refine goodOwn_ite ?_ ?_
    | with_reducible refine good_ite ?_ ?_ | with_reducible refine State.updPwr_good _ _ ?_ | dsimp only | split)
theorem State.updBist_good {Q : Claim} (s : State) (f : Bist → Bist) (h : s.Good Q) :
    (State.updBist s f).Good Q := by
  unfold State.updBist; try dsimp only
  repeat' (first
    | with_reducible assumption | with_reducible refine good_with ?_ ?_ | exact (rfl : (_ : Fuses) = _))
theorem State.ownBistTarget_good {Q : Claim} (s : State) (v : Nat) (h : s.Good Q) :
    goodOwn Q (State.ownBistTarget s v) := by
  unfold State.ownBistTarget; try dsimp only [State.draw]
  repeat' (first
    | with_reducible assumption | simp only [goodOwn_error_eq] | simp only [goodOwn_ok_eq]
    | with_reducible refine State.updBist_good _ _ ?_ | with_reducible refine State.wr_good _ _ _ ?_ | split
    | with_reducible refine good_with ?_ ?_)
theorem State.bistStart_good {Q : Claim} (s : State) (t : Nat) (h : s.Good Q) :
    (State.bistStart s t).Good Q := by
  unfold State.bistStart; try dsimp only
  repeat' (first
    | with_reducible assumption | with_reducible refine State.updBist_good _ _ ?_)
theorem State.bistRun_good {Q : Claim} (s : State) (h : s.Good Q) :
    goodOwn Q (State.bistRun s) := by
  unfold State.bistRun; try dsimp only [State.draw]
  repeat' (first
    | with_reducible assumption | simp only [goodOwn_error_eq] | simp only [goodOwn_ok_eq]
    | with_reducible refine State.bistStart_good _ _ ?_ | with_reducible refine State.linkDown_good _ ?_
    | with_reducible refine State.measStop_good _ ?_ | with_reducible refine State.updPwr_good _ _ ?_ | split
    | with_reducible refine good_with ?_ ?_)
theorem State.bistBack_good {Q : Claim} (s : State) (t : Nat) (off : Bool) (h : s.Good Q) :
    (State.bistBack s t off).Good Q := by
  unfold State.bistBack; try dsimp only
  repeat' (first
    | with_reducible assumption | with_reducible refine State.updPwr_good _ _ ?_
    | with_reducible refine State.linkUp_good _ ?_ | with_reducible refine State.domainUp_good _ _ ?_ | split)
theorem State.bistLog_good {Q : Claim} (s : State) (t : Nat) (st : BistSt) (sig : Nat) (dur : Nat) (h : s.Good Q) :
    (State.bistLog s t st sig dur).Good Q := by
  unfold State.bistLog; try dsimp only
  repeat' (first
    | with_reducible assumption | with_reducible refine State.updBist_good _ _ ?_)
theorem State.bistEnd_good {Q : Claim} (s : State) (sig : BitVec 64) (addr : Nat) (h : s.Good Q) :
    (State.bistEnd s sig addr).Good Q := by
  unfold State.bistEnd; try dsimp only
  repeat' (first
    | with_reducible assumption | with_reducible refine State.at__good _ _ ?_
    | with_reducible refine State.updBist_good _ _ ?_ | with_reducible refine State.bistLog_good _ _ _ _ _ ?_
    | with_reducible refine State.bistBack_good _ _ _ ?_ | with_reducible refine State.laneOff_good _ _ ?_
    | with_reducible refine State.reqBit_good _ _ _ ?_ | with_reducible refine State.raise_good _ _ _ ?_ | split)
theorem State.rcStart_good {Q : Claim} (s : State) (idle : Option Nat) (h : s.Good Q) :
    (State.rcStart s idle).Good Q := by
  unfold State.rcStart; try dsimp only [State.draw]
  repeat' (first
    | with_reducible assumption | with_reducible refine State.updMgr_good _ _ ?_
    | with_reducible refine State.bistStart_good _ _ ?_
    | with_reducible refine State.each_good _ _ _ (fun _ _ _ => ?_) ?_ | split
    | with_reducible refine good_with ?_ ?_ | exact (rfl : (_ : Fuses) = _))
theorem State.rcTick_good {Q : Claim} (s : State) (idle : Nat) (h : s.Good Q) :
    (State.rcTick s idle).Good Q := by
  unfold State.rcTick; try dsimp only
  repeat' (first
    | with_reducible assumption | with_reducible refine State.updMgr_good _ _ ?_
    | with_reducible refine State.seeGrade_good _ ?_ | with_reducible refine State.rcStart_good _ _ ?_ | split)
theorem State.rcNote_good {Q : Claim} (s : State) (h : s.Good Q) :
    (State.rcNote s).Good Q := by
  unfold State.rcNote; try dsimp only
  repeat' (first
    | with_reducible assumption | with_reducible refine State.updMgr_good _ _ ?_
    | with_reducible refine State.rcStart_good _ _ ?_ | with_reducible refine State.setUnfit_good _ _ ?_ | split)
theorem State.bistDone_good {Q : Claim} (s : State) (sig : BitVec 64) (addr : Nat) (h : s.Good Q) :
    (State.bistDone s sig addr).Good Q := by
  unfold State.bistDone; try dsimp only
  repeat' (first
    | with_reducible assumption | with_reducible refine State.rcNote_good _ ?_
    | with_reducible refine State.bistEnd_good _ _ _ ?_ | split)
theorem State.bistAbort_good {Q : Claim} (s : State) (h : s.Good Q) :
    (State.bistAbort s).Good Q := by
  unfold State.bistAbort; try dsimp only
  repeat' (first
    | with_reducible assumption | with_reducible refine State.updMgr_good _ _ ?_
    | with_reducible refine State.updBist_good _ _ ?_ | with_reducible refine State.raise_good _ _ _ ?_
    | with_reducible refine State.bistBack_good _ _ _ ?_ | with_reducible refine State.bistLog_good _ _ _ _ _ ?_
    | split)
theorem State.updFlt_good {Q : Claim} (s : State) (f : Faults → Faults) (h : s.Good Q) :
    (State.updFlt s f).Good Q := by
  unfold State.updFlt; try dsimp only
  repeat' (first
    | with_reducible assumption | with_reducible refine good_with ?_ ?_ | exact (rfl : (_ : Fuses) = _))
theorem State.reactStop_good {Q : Claim} (s : State) (code : Nat) (cu : Nat × Nat) (h : s.Good Q) :
    (State.reactStop s code cu).Good Q := by
  unfold State.reactStop; try dsimp only
  repeat' (first
    | with_reducible assumption | with_reducible refine State.safeOffUnit_good _ _ _ _ _ ?_
    | with_reducible refine State.stopUnit_good _ _ _ ?_ | split)
theorem State.safeOffAll_good {Q : Claim} (s : State) (l : List (Nat × Nat)) (code : Nat) (h : s.Good Q) :
    (State.safeOffAll s l code).Good Q := by
  unfold State.safeOffAll; try dsimp only
  repeat' (first
    | with_reducible assumption | with_reducible refine State.safeOffUnit_good _ _ _ _ _ ?_
    | with_reducible refine State.each_good _ _ _ (fun _ _ _ => ?_) ?_)
theorem State.react_good {Q : Claim} (s : State) (r : Nat) (src : FltSrc) (i : Nat) (h : s.Good Q) :
    (State.react s r src i).Good Q := by
  unfold State.react; try dsimp only
  repeat' (first
    | with_reducible assumption | with_reducible refine State.updFlt_good _ _ ?_
    | with_reducible refine State.reactStop_good _ _ _ ?_ | with_reducible refine State.safeOffAll_good _ _ _ ?_
    | with_reducible refine State.allStop_good _ ?_ | with_reducible refine State.sfJudge_good _ ?_
    | with_reducible refine State.updSf_good _ _ ?_
    | with_reducible refine State.each_good _ _ _ (fun _ _ _ => ?_) ?_ | split)
theorem State.almLost_good {Q : Claim} (s : State) (a : Alarm) (h : s.Good Q) :
    (State.almLost s a).Good Q := by
  unfold State.almLost; try dsimp only
  repeat' (first
    | with_reducible assumption | with_reducible refine State.updRing_good _ _ ?_)
theorem State.almQueue_good {Q : Claim} (s : State) (a : Alarm) (h : s.Good Q) :
    (State.almQueue s a).Good Q := by
  unfold State.almQueue; try dsimp only
  repeat' (first
    | with_reducible assumption | with_reducible refine State.updRing_good _ _ ?_
    | with_reducible refine State.almLost_good _ _ ?_ | split)
theorem State.emitAlarm_good {Q : Claim} (s : State) (src : FltSrc) (i : Nat) (detail : Nat) (count : Nat) (first : Nat) (last : Nat) (lasting : Bool) (isFirst : Bool) (h : s.Good Q) :
    (State.emitAlarm s src i detail count first last lasting isFirst).Good Q := by
  unfold State.emitAlarm; try dsimp only
  repeat' (first
    | with_reducible assumption | with_reducible refine State.updFlt_good _ _ ?_
    | with_reducible refine State.logRecord_good _ _ ?_ | with_reducible refine State.almQueue_good _ _ ?_ | split
    | with_reducible refine good_with ?_ ?_ | exact (rfl : (_ : Fuses) = _))
theorem State.setInst_good {Q : Claim} (s : State) (x : FltInst) (h : s.Good Q) :
    (State.setInst s x).Good Q := by
  unfold State.setInst; try dsimp only
  repeat' (first
    | with_reducible assumption | with_reducible refine State.updFlt_good _ _ ?_)
theorem State.capture_good {Q : Claim} (s : State) (src : FltSrc) (r : Raised) (h : s.Good Q) :
    (State.capture s src r).Good Q := by
  unfold State.capture; try dsimp only
  repeat' (first
    | with_reducible assumption | with_reducible refine State.updFlt_good _ _ ?_ | split
    | with_reducible refine good_with ?_ ?_ | exact (rfl : (_ : Fuses) = _))
theorem State.alarmEvent_good {Q : Claim} (s : State) (src : FltSrc) (r : Raised) (T : Nat) (lasting : Bool) (h : s.Good Q) :
    (State.alarmEvent s src r T lasting).Good Q := by
  unfold State.alarmEvent; try dsimp only
  repeat' (first
    | with_reducible assumption | with_reducible refine State.updFlt_good _ _ ?_
    | with_reducible refine State.emitAlarm_good _ _ _ _ _ _ _ _ _ ?_ | split)
theorem State.takeEvent_good {Q : Claim} (s : State) (src : FltSrc) (r : Raised) (T : Nat) (h : s.Good Q) :
    (State.takeEvent s src r T).Good Q := by
  unfold State.takeEvent; try dsimp only
  repeat' (first
    | with_reducible assumption | with_reducible refine State.setInst_good _ _ ?_
    | with_reducible refine State.capture_good _ _ _ ?_ | with_reducible refine State.react_good _ _ _ _ ?_
    | with_reducible refine State.alarmEvent_good _ _ _ _ _ ?_ | with_reducible refine State.setUnfit_good _ _ ?_
    | with_reducible refine State.dumpTrigger_good _ _ _ ?_ | split)
theorem State.takeRaised_good {Q : Claim} (s : State) (r : Raised) (h : s.Good Q) :
    (State.takeRaised s r).Good Q := by
  unfold State.takeRaised; try dsimp only
  repeat' (first
    | with_reducible assumption | with_reducible refine State.takeEvent_good _ _ _ _ ?_
    | with_reducible refine good_foldl _ _ (fun _ _ _ => ?_) _ ?_ | split)
theorem State.takeWaiting_good {Q : Claim} (s : State) (f : Raised → Bool) (h : s.Good Q) :
    (State.takeWaiting s f).Good Q := by
  unfold State.takeWaiting; try dsimp only
  repeat' (first
    | with_reducible assumption | with_reducible refine State.updFlt_good _ _ ?_
    | with_reducible refine State.takeRaised_good _ _ ?_
    | with_reducible refine State.each_good _ _ _ (fun _ _ _ => ?_) ?_)
theorem State.fltIntake_good {Q : Claim} (s : State) (h : s.Good Q) :
    (State.fltIntake s).Good Q := by
  unfold State.fltIntake; try dsimp only
  repeat' (first
    | with_reducible assumption | with_reducible refine State.settleReset_good _ ?_
    | with_reducible refine State.takeRaised_good _ _ ?_ | with_reducible refine State.updFlt_good _ _ ?_ | split)
theorem State.fltExpiry_good {Q : Claim} (s : State) (code : Nat) (i : Nat) (h : s.Good Q) :
    (State.fltExpiry s code i).Good Q := by
  unfold State.fltExpiry; try dsimp only
  repeat' (first
    | with_reducible assumption | with_reducible refine State.sfJudge_good _ ?_
    | with_reducible refine State.setInst_good _ _ ?_ | with_reducible refine State.at__good _ _ ?_ | split)
theorem State.coalEnd_good {Q : Claim} (s : State) (code : Nat) (i : Nat) (h : s.Good Q) :
    (State.coalEnd s code i).Good Q := by
  unfold State.coalEnd; try dsimp only
  repeat' (first
    | with_reducible assumption | with_reducible refine State.at__good _ _ ?_
    | with_reducible refine State.updFlt_good _ _ ?_
    | with_reducible refine State.emitAlarm_good _ _ _ _ _ _ _ _ _ ?_ | split)
theorem State.clearInsts_good {Q : Claim} (s : State) (f : FltInst → Bool) (h : s.Good Q) :
    (State.clearInsts s f).Good Q := by
  unfold State.clearInsts; try dsimp only
  repeat' (first
    | with_reducible assumption | with_reducible refine State.sfJudge_good _ ?_
    | with_reducible refine State.updFlt_good _ _ ?_)
theorem State.fltClr_good {Q : Claim} (s : State) (v : Nat) (h : s.Good Q) :
    (State.fltClr s v).1.Good Q := by
  unfold State.fltClr; try dsimp only
  repeat' (first
    | with_reducible assumption | with_reducible refine State.updFlt_good _ _ ?_
    | with_reducible refine State.takeWaiting_good _ _ ?_ | with_reducible refine State.clearInsts_good _ _ ?_
    | split)
theorem State.clearTransient_good {Q : Claim} (s : State) (c : Nat) (us : List Nat) (h : s.Good Q) :
    (State.clearTransient s c us).Good Q := by
  unfold State.clearTransient; try dsimp only
  repeat' (first
    | with_reducible assumption | with_reducible refine State.takeWaiting_good _ _ ?_
    | with_reducible refine State.clearInsts_good _ _ ?_)
theorem State.ownFirstClr_good {Q : Claim} (s : State) (v : Nat) (h : s.Good Q) :
    goodOwn Q (State.ownFirstClr s v) := by
  unfold State.ownFirstClr; try dsimp only
  repeat' (first
    | with_reducible assumption | simp only [goodOwn_ok_eq] | with_reducible refine State.updFlt_good _ _ ?_
    | with_reducible refine good_with ?_ ?_)
theorem State.ownFltCfg_good {Q : Claim} (s : State) (src : FltSrc) (v : Nat) (h : s.Good Q) :
    goodOwn Q (State.ownFltCfg s src v) := by
  unfold State.ownFltCfg; try dsimp only
  repeat' (first
    | with_reducible assumption | simp only [goodOwn_error_eq] | simp only [goodOwn_ok_eq]
    | with_reducible refine State.wr_good _ _ _ ?_ | split)
theorem State.eccCard_good {Q : Claim} (s : State) (corrected : Bool) (h : s.Good Q) :
    (State.eccCard s corrected).Good Q := by
  unfold State.eccCard; try dsimp only
  repeat' (first
    | with_reducible assumption | with_reducible refine State.seeGrade_good _ ?_
    | with_reducible refine State.updMgr_good _ _ ?_ | with_reducible refine State.setUnfit_good _ _ ?_ | split)
theorem State.sramEcc_good {Q : Claim} (s : State) (safe : Bool) (corrected : Bool) (h : s.Good Q) :
    (State.sramEcc s safe corrected).Good Q := by
  unfold State.sramEcc; try dsimp only
  repeat' (first
    | with_reducible assumption | with_reducible refine State.eccCard_good _ _ ?_
    | with_reducible refine State.raise_good _ _ _ ?_)
theorem State.nextAlarms_good {Q : Claim} (s : State) (h : s.Good Q) :
    goodOpt Q (State.nextAlarms s) := by
  unfold State.nextAlarms; try dsimp only
  repeat' (first
    | with_reducible exact goodOpt_none | with_reducible refine goodOpt_some ?_ | with_reducible assumption
    | with_reducible refine State.updRing_good _ _ ?_ | with_reducible refine State.updFlt_good _ _ ?_ | split)
theorem State.ownAlmAck_good {Q : Claim} (s : State) (v : Nat) (h : s.Good Q) :
    goodOwn Q (State.ownAlmAck s v) := by
  unfold State.ownAlmAck; try dsimp only
  repeat' (first
    | with_reducible assumption | simp only [goodOwn_ok_eq] | with_reducible refine State.updRing_good _ _ ?_)
theorem State.slotCmd_good {Q : Claim} (s : State) (c : Nat) (op : SlotOp) (mask : Nat) (h : s.Good Q) :
    (State.slotCmd s c op mask).1.Good Q := by
  unfold State.slotCmd; try dsimp only
  repeat' (first
    | with_reducible assumption | with_reducible refine State.updSlot_good _ _ _ ?_
    | with_reducible refine State.clearTransient_good _ _ _ ?_
    | with_reducible refine State.drvBegin_good _ _ _ ?_ | with_reducible refine State.slotAct_good _ _ _ ?_
    | with_reducible refine State.each_good _ _ _ (fun _ _ _ => ?_) ?_ | split)
theorem State.ownSlotCmd_good {Q : Claim} (s : State) (c : Nat) (v : Nat) (h : s.Good Q) :
    (State.ownSlotCmd s c v).1.Good Q := by
  unfold State.ownSlotCmd; try dsimp only
  repeat' (first
    | with_reducible assumption | with_reducible refine State.slotCmd_good _ _ _ _ ?_ | split)
theorem State.ownTemplate_good {Q : Claim} (s : State) (c : Nat) (v : Nat) (h : s.Good Q) :
    goodOwn Q (State.ownTemplate s c v) := by
  unfold State.ownTemplate; try dsimp only
  repeat' (first
    | with_reducible assumption | simp only [goodOwn_error_eq] | simp only [goodOwn_ok_eq]
    | with_reducible refine State.wr_good _ _ _ ?_ | with_reducible refine State.updLeg_good _ _ _ ?_
    | with_reducible refine State.fkFresh_good _ _ ?_ | with_reducible refine State.updSlot_good _ _ _ ?_
    | with_reducible refine State.each_good _ _ _ (fun _ _ _ => ?_) ?_ | split)
theorem State.ownUnitLoop_good {Q : Claim} (s : State) (c : Nat) (u : Nat) (v : Nat) (h : s.Good Q) :
    goodOwn Q (State.ownUnitLoop s c u v) := by
  unfold State.ownUnitLoop; try dsimp only
  repeat' (first
    | with_reducible assumption | simp only [goodOwn_error_eq] | simp only [goodOwn_ok_eq]
    | with_reducible refine State.wr_good _ _ _ ?_ | with_reducible refine State.bindLeg_good _ _ ?_
    | with_reducible refine State.each_good _ _ _ (fun _ _ _ => ?_) ?_ | split)
theorem State.ownUnitLv_good {Q : Claim} (s : State) (c : Nat) (u : Nat) (v : Nat) (h : s.Good Q) :
    goodOwn Q (State.ownUnitLv s c u v) := by
  unfold State.ownUnitLv; try dsimp only
  repeat' (first
    | with_reducible assumption | simp only [goodOwn_error_eq] | simp only [goodOwn_ok_eq]
    | with_reducible refine State.wr_good _ _ _ ?_ | split)
theorem State.ownUnitFn_good {Q : Claim} (s : State) (c : Nat) (u : Nat) (v : Nat) (h : s.Good Q) :
    goodOwn Q (State.ownUnitFn s c u v) := by
  unfold State.ownUnitFn; try dsimp only
  repeat' (first
    | with_reducible assumption | simp only [goodOwn_error_eq] | simp only [goodOwn_ok_eq]
    | with_reducible refine State.wr_good _ _ _ ?_ | split)
theorem State.ownSlotString_good {Q : Claim} (s : State) (c : Nat) (r : Reg) (v : Nat) (h : s.Good Q) :
    goodOwn Q (State.ownSlotString s c r v) := by
  unfold State.ownSlotString; try dsimp only
  repeat' (first
    | with_reducible assumption | simp only [goodOwn_error_eq] | simp only [goodOwn_ok_eq]
    | with_reducible refine State.wr_good _ _ _ ?_ | split)
theorem State.ownLvCmd_good {Q : Claim} (s : State) (e : Nat) (v : Nat) (h : s.Good Q) :
    (State.ownLvCmd s e v).1.Good Q := by
  unfold State.ownLvCmd; try dsimp only
  repeat' (first
    | with_reducible assumption | with_reducible refine State.updLv_good _ _ _ ?_
    | with_reducible refine State.slotCmd_good _ _ _ _ ?_ | split)
theorem State.ownSfImage_good {Q : Claim} (s : State) (img : List Byte) (h : s.Good Q) :
    goodOwn Q (State.ownSfImage s img) := by
  unfold State.ownSfImage; try dsimp only
  repeat' (first
    | with_reducible assumption | simp only [goodOwn_error_eq] | simp only [goodOwn_ok_eq]
    | with_reducible refine State.sessionTouch_good _ ?_ | with_reducible refine State.updSf_good _ _ ?_ | split)
theorem State.ownSfConfirm_good {Q : Claim} (s : State) (v : Nat) (h : s.Good Q) :
    goodOwn Q (State.ownSfConfirm s v) := by
  unfold State.ownSfConfirm; try dsimp only
  repeat' (first
    | with_reducible assumption | simp only [goodOwn_error_eq] | with_reducible refine State.askCommit_good _ _ ?_
    | with_reducible refine State.activateSafe_good _ ?_ | split)
theorem State.ownSignoff_good {Q : Claim} (s : State) (v : Nat) (h : s.Good Q) :
    goodOwn Q (State.ownSignoff s v) := by
  unfold State.ownSignoff; try dsimp only
  repeat' (first
    | with_reducible assumption | with_reducible refine State.sfOpen_good _ ?_
    | with_reducible refine State.sfVerify_good _ ?_ | with_reducible refine State.sfAbort_good _ ?_ | split)

end Sys2Proof.Machine
end

