-- ==== Sys2Proof/Laws/GoodWrites.lean ====
section
/-! SUPPORT. What register writes, boot, access and frame reception keep, one lemma each (see Laws/Good.lean). -/

namespace Sys2Proof.Machine

theorem State.doneCmd_good {Q : Claim} (s : State) (r : Own) (refuse : State → State) (h : s.Good Q)
    (hr : goodOwn Q r) (hf : ∀ s, s.Good Q → (refuse s).Good Q) : (s.doneCmd r refuse).1.Good Q := by
  unfold State.doneCmd; split
  · exact hr
  · exact good_ite h (hf _ h)
theorem countSig_good {Q : Claim} (a : Done) (h : a.1.Good Q) :
    (countSig a).1.Good Q := by
  unfold countSig; try dsimp only
  repeat' (first
    | with_reducible assumption | with_reducible refine good_ite ?_ ?_ | with_reducible refine State.sigFail_good _ ?_ | dsimp only
    | split)
theorem State.writeSlot_good {Q : Claim} (s : State) (base : Nat) (c : Nat) (sub : Nat) (r : Reg) (v : Nat) (h : s.Good Q) :
    (State.writeSlot s base c sub r v).1.Good Q := by
  unfold State.writeSlot; try dsimp only
  repeat' (first
    | with_reducible assumption | with_reducible refine good_ite ?_ ?_ | with_reducible refine State.allStop_good _ ?_ | with_reducible refine State.ownTemplate_good _ _ _ ?_
    | with_reducible refine State.ownSlotCmd_good _ _ _ ?_ | with_reducible refine State.ownSlotTime_good _ _ _ _ ?_ | with_reducible refine State.ownSlotString_good _ _ _ _ ?_ | with_reducible refine State.ownUnitLoop_good _ _ _ _ ?_
    | with_reducible refine State.ownUnitLv_good _ _ _ _ ?_ | with_reducible refine State.ownUnitFn_good _ _ _ _ ?_ | with_reducible refine State.wr_good _ _ _ ?_ | with_reducible refine goodOwn_done ?_ ?_
    | with_reducible refine goodOwn_ite ?_ ?_ | simp only [goodOwn_error_eq] | simp only [goodOwn_ok_eq] | dsimp only
    | split | refine good_fst_of (by with_reducible assumption) ?_ | refine goodOwn_of (by with_reducible assumption) ?_)
theorem State.writeLeg_good {Q : Claim} (s : State) (l : Nat) (sub : Nat) (r : Reg) (v : Nat) (h : s.Good Q) :
    (State.writeLeg s l sub r v).1.Good Q := by
  unfold State.writeLeg; try dsimp only
  repeat' (first
    | with_reducible assumption | with_reducible refine good_ite ?_ ?_ | with_reducible refine State.ownBlank_good _ _ _ ?_ | with_reducible refine State.ownGgClr_good _ _ _ ?_
    | with_reducible refine State.ownLegCfg_good _ _ _ _ ?_ | with_reducible refine State.ownDuty_good _ _ _ ?_ | with_reducible refine State.ownPhase_good _ _ _ ?_ | with_reducible refine State.ownForce_good _ _ _ ?_
    | with_reducible refine State.ownPklSrc_good _ _ _ ?_ | with_reducible refine State.ownLegClr_good _ _ _ ?_ | with_reducible refine State.ownDt_good _ _ _ _ ?_ | with_reducible refine State.wr_good _ _ _ ?_
    | with_reducible refine goodOwn_done ?_ ?_ | with_reducible refine goodOwn_ite ?_ ?_ | simp only [goodOwn_error_eq] | simp only [goodOwn_ok_eq]
    | dsimp only | split | refine good_fst_of (by with_reducible assumption) ?_ | refine goodOwn_of (by with_reducible assumption) ?_)
theorem State.ownPeriod_good {Q : Claim} (s : State) (k : Nat) (v : Nat) (h : s.Good Q) :
    goodOwn Q (State.ownPeriod s k v) := by
  unfold State.ownPeriod; try dsimp only
  repeat' (first
    | with_reducible assumption | simp only [goodOwn_error_eq] | simp only [goodOwn_ok_eq] | with_reducible refine goodOwn_ite ?_ ?_
    | with_reducible refine good_ite ?_ ?_ | with_reducible refine State.stagePeriod_good _ _ _ ?_ | dsimp only | split)
theorem State.writeCar_good {Q : Claim} (s : State) (k : Nat) (sub : Nat) (r : Reg) (v : Nat) (h : s.Good Q) :
    (State.writeCar s k sub r v).1.Good Q := by
  unfold State.writeCar; try dsimp only
  repeat' (first
    | with_reducible assumption | with_reducible refine good_ite ?_ ?_ | with_reducible refine State.ownPeriod_good _ _ _ ?_ | with_reducible refine State.ownCarCfg_good _ _ _ _ ?_
    | with_reducible refine State.ownCommit_good _ _ _ ?_ | with_reducible refine State.ownCarRun_good _ _ _ ?_ | with_reducible refine State.wr_good _ _ _ ?_ | with_reducible refine goodOwn_done ?_ ?_
    | with_reducible refine goodOwn_ite ?_ ?_ | simp only [goodOwn_error_eq] | simp only [goodOwn_ok_eq] | dsimp only
    | split | refine good_fst_of (by with_reducible assumption) ?_ | refine goodOwn_of (by with_reducible assumption) ?_)
theorem State.writeInput_good {Q : Claim} (s : State) (base : Nat) (n : Nat) (sub : Nat) (r : Reg) (v : Nat) (h : s.Good Q) :
    (State.writeInput s base n sub r v).1.Good Q := by
  unfold State.writeInput; try dsimp only
  repeat' (first
    | with_reducible assumption | with_reducible refine good_ite ?_ ?_ | with_reducible refine State.ownMd_good _ _ _ _ ?_ | with_reducible refine State.ownThr_good _ _ _ _ _ ?_
    | with_reducible refine State.ownMdClr_good _ _ _ ?_ | with_reducible refine State.ownSarClr_good _ _ _ ?_ | with_reducible refine State.ownCmpCtrl_good _ _ _ ?_ | with_reducible refine State.ownCmpThr_good _ _ _ _ ?_
    | with_reducible refine State.ownCmpClr_good _ _ _ ?_ | with_reducible refine State.wr_good _ _ _ ?_ | with_reducible refine goodOwn_done ?_ ?_ | with_reducible refine goodOwn_ite ?_ ?_
    | simp only [goodOwn_error_eq] | simp only [goodOwn_ok_eq] | dsimp only | split
    | refine good_fst_of (by with_reducible assumption) ?_ | refine goodOwn_of (by with_reducible assumption) ?_)
theorem State.writeMeas_good {Q : Claim} (s : State) (base : Nat) (n : Nat) (sub : Nat) (r : Reg) (v : Nat) (h : s.Good Q) :
    (State.writeMeas s base n sub r v).1.Good Q := by
  unfold State.writeMeas; try dsimp only
  repeat' (first
    | with_reducible assumption | with_reducible refine good_ite ?_ ?_ | with_reducible refine State.ownMclk_good _ _ ?_ | with_reducible refine State.qClr_good _ ?_
    | with_reducible refine State.ownSliceMode_good _ _ _ ?_ | with_reducible refine State.ownSliceEven_good _ _ _ _ ?_ | with_reducible refine State.ownSliceClr_good _ _ ?_ | with_reducible refine State.ownTrgSrc_good _ _ _ ?_
    | with_reducible refine State.ownTrg_good _ _ _ _ ?_ | with_reducible refine State.wr_good _ _ _ ?_ | with_reducible refine goodOwn_done ?_ ?_ | with_reducible refine goodOwn_ite ?_ ?_
    | simp only [goodOwn_error_eq] | simp only [goodOwn_ok_eq] | dsimp only | split
    | refine good_fst_of (by with_reducible assumption) ?_ | refine goodOwn_of (by with_reducible assumption) ?_)
theorem State.ownCoefAddr_good {Q : Claim} (s : State) (n : Nat) (v : Nat) (h : s.Good Q) :
    goodOwn Q (State.ownCoefAddr s n v) := by
  unfold State.ownCoefAddr; try dsimp only
  repeat' (first
    | with_reducible assumption | simp only [goodOwn_error_eq] | simp only [goodOwn_ok_eq] | with_reducible refine goodOwn_ite ?_ ?_
    | with_reducible refine good_ite ?_ ?_ | with_reducible refine State.wr_good _ _ _ ?_ | dsimp only | split)
theorem State.writeLs_good {Q : Claim} (s : State) (n : Nat) (sub : Nat) (r : Reg) (v : Nat) (d : List Byte) (h : s.Good Q) :
    (State.writeLs s n sub r v d).1.Good Q := by
  unfold State.writeLs; try dsimp only
  repeat' (first
    | with_reducible assumption | with_reducible refine good_ite ?_ ?_ | with_reducible refine State.ownLsCmd_good _ _ _ ?_ | with_reducible refine countSig_good _ ?_
    | with_reducible refine State.ownLsProgram_good _ _ _ ?_ | with_reducible refine State.ownRelease_good _ _ _ ?_ | with_reducible refine State.ownLsCfg_good _ _ _ _ ?_ | with_reducible refine State.ownInTimeout_good _ _ _ ?_
    | with_reducible refine State.ownLsStatusClr_good _ _ _ ?_ | with_reducible refine State.ownSwap_good _ _ ?_ | with_reducible refine State.ownCoefImage_good _ _ _ ?_ | with_reducible refine State.ownCoefAddr_good _ _ _ ?_
    | with_reducible refine State.ownCoefWord_good _ _ _ ?_ | with_reducible refine State.ownDirect_good _ _ _ ?_ | with_reducible refine State.ownLsIn_good _ _ _ _ ?_ | with_reducible refine State.ownInVal_good _ _ _ _ ?_
    | with_reducible refine State.wr_good _ _ _ ?_ | with_reducible refine goodOwn_done ?_ ?_ | with_reducible refine goodOwn_ite ?_ ?_ | simp only [goodOwn_error_eq]
    | simp only [goodOwn_ok_eq] | dsimp only | split | refine good_fst_of (by with_reducible assumption) ?_
    | refine goodOwn_of (by with_reducible assumption) ?_)
theorem State.writeRa_good {Q : Claim} (s : State) (n : Nat) (sub : Nat) (r : Reg) (v : Nat) (h : s.Good Q) :
    (State.writeRa s n sub r v).1.Good Q := by
  unfold State.writeRa; try dsimp only
  repeat' (first
    | with_reducible assumption | with_reducible refine good_ite ?_ ?_ | with_reducible refine State.ownRa_good _ _ _ _ ?_ | with_reducible refine State.ownRaStatusClr_good _ _ _ ?_
    | with_reducible refine State.ownRaPred_good _ _ _ _ _ ?_ | with_reducible refine State.wr_good _ _ _ ?_ | with_reducible refine goodOwn_done ?_ ?_ | with_reducible refine goodOwn_ite ?_ ?_
    | simp only [goodOwn_error_eq] | simp only [goodOwn_ok_eq] | dsimp only | split
    | refine good_fst_of (by with_reducible assumption) ?_ | refine goodOwn_of (by with_reducible assumption) ?_)
theorem State.writeString_good {Q : Claim} (s : State) (i : Nat) (sub : Nat) (r : Reg) (v : Nat) (h : s.Good Q) :
    (State.writeString s i sub r v).1.Good Q := by
  unfold State.writeString; try dsimp only
  repeat' (first
    | with_reducible assumption | with_reducible refine good_ite ?_ ?_ | with_reducible refine State.ownStrCmd_good _ _ _ ?_ | with_reducible refine State.updStr_good _ _ _ ?_
    | with_reducible refine State.wr_good _ _ _ ?_ | dsimp only | split | with_reducible refine State.doneCmd_good _ _ _ ?_ ?_ (fun _ _ => ?_)
    | refine good_fst_of (by with_reducible assumption) ?_ | refine goodOwn_of (by with_reducible assumption) ?_)
theorem State.writeLv_good {Q : Claim} (s : State) (e : Nat) (sub : Nat) (r : Reg) (v : Nat) (h : s.Good Q) :
    (State.writeLv s e sub r v).1.Good Q := by
  unfold State.writeLv; try dsimp only
  repeat' (first
    | with_reducible assumption | with_reducible refine good_ite ?_ ?_ | with_reducible refine State.ownLvCmd_good _ _ _ ?_ | with_reducible refine State.ownLvClr_good _ _ _ ?_
    | with_reducible refine State.ownLv_good _ _ _ _ ?_ | with_reducible refine goodOwn_done ?_ ?_ | with_reducible refine goodOwn_ite ?_ ?_ | simp only [goodOwn_error_eq]
    | simp only [goodOwn_ok_eq] | dsimp only | split | refine good_fst_of (by with_reducible assumption) ?_
    | refine goodOwn_of (by with_reducible assumption) ?_)
theorem State.writeFb_good {Q : Claim} (s : State) (sub : Nat) (r : Reg) (v : Nat) (h : s.Good Q) :
    (State.writeFb s sub r v).1.Good Q := by
  unfold State.writeFb; try dsimp only
  repeat' (first
    | with_reducible assumption | with_reducible refine good_ite ?_ ?_ | with_reducible refine State.ownFbCtrl_good _ _ ?_ | with_reducible refine State.ownIrqClr_good _ _ ?_
    | with_reducible refine State.ownFbStatusClr_good _ _ ?_ | with_reducible refine State.ownScCount_good _ _ ?_ | with_reducible refine State.ownPlsCount_good _ _ ?_ | with_reducible refine State.wr_good _ _ _ ?_
    | with_reducible refine goodOwn_done ?_ ?_ | with_reducible refine goodOwn_ite ?_ ?_ | simp only [goodOwn_error_eq] | simp only [goodOwn_ok_eq]
    | dsimp only | split | refine good_fst_of (by with_reducible assumption) ?_ | refine goodOwn_of (by with_reducible assumption) ?_)
theorem State.writeTh_good {Q : Claim} (s : State) (base : Nat) (c : Nat) (sub : Nat) (r : Reg) (v : Nat) (h : s.Good Q) :
    (State.writeTh s base c sub r v).1.Good Q := by
  unfold State.writeTh; try dsimp only
  repeat' (first
    | with_reducible assumption | with_reducible refine good_ite ?_ ?_ | with_reducible refine State.ownDieShut_good _ _ ?_ | with_reducible refine State.ownShutClr_good _ _ ?_
    | with_reducible refine State.ownThStatusClr_good _ _ ?_ | with_reducible refine State.ownSensorClr_good _ _ ?_ | with_reducible refine State.ownTh_good _ _ _ _ ?_ | with_reducible refine State.wr_good _ _ _ ?_
    | with_reducible refine goodOwn_done ?_ ?_ | with_reducible refine goodOwn_ite ?_ ?_ | simp only [goodOwn_error_eq] | simp only [goodOwn_ok_eq]
    | dsimp only | split | refine good_fst_of (by with_reducible assumption) ?_ | refine goodOwn_of (by with_reducible assumption) ?_)
theorem State.writeFlt_good {Q : Claim} (s : State) (sub : Nat) (r : Reg) (v : Nat) (h : s.Good Q) :
    (State.writeFlt s sub r v).1.Good Q := by
  unfold State.writeFlt; try dsimp only
  repeat' (first
    | with_reducible assumption | with_reducible refine good_ite ?_ ?_ | with_reducible refine State.ownFirstClr_good _ _ ?_ | with_reducible refine State.fltClr_good _ _ ?_
    | with_reducible refine State.wr_good _ _ _ ?_ | with_reducible refine goodOwn_done ?_ ?_ | with_reducible refine goodOwn_ite ?_ ?_ | simp only [goodOwn_error_eq]
    | simp only [goodOwn_ok_eq] | dsimp only | split | refine good_fst_of (by with_reducible assumption) ?_
    | refine goodOwn_of (by with_reducible assumption) ?_)
theorem State.writeSafe_good {Q : Claim} (s : State) (base : Nat) (sub : Nat) (r : Reg) (v : Nat) (d : List Byte) (h : s.Good Q) :
    (State.writeSafe s base sub r v d).1.Good Q := by
  unfold State.writeSafe; try dsimp only
  repeat' (first
    | with_reducible assumption | with_reducible refine good_ite ?_ ?_ | with_reducible refine State.ownSignoff_good _ _ ?_ | with_reducible refine State.ownSfConfirm_good _ _ ?_
    | with_reducible refine countSig_good _ ?_ | with_reducible refine State.ownSfImage_good _ _ ?_ | with_reducible refine State.ownStoAck_good _ _ ?_ | with_reducible refine State.ownSafeParam_good _ _ _ ?_
    | with_reducible refine goodOwn_done ?_ ?_ | with_reducible refine goodOwn_ite ?_ ?_ | simp only [goodOwn_error_eq] | simp only [goodOwn_ok_eq]
    | dsimp only | split | refine good_fst_of (by with_reducible assumption) ?_ | refine goodOwn_of (by with_reducible assumption) ?_)
theorem State.writeLane_good {Q : Claim} (s : State) (n : Nat) (sub : Nat) (v : Nat) (h : s.Good Q) :
    (State.writeLane s n sub v).1.Good Q := by
  unfold State.writeLane; try dsimp only
  repeat' (first
    | with_reducible assumption | with_reducible refine good_ite ?_ ?_ | with_reducible refine State.ownLaneCtrl_good _ _ _ ?_ | with_reducible refine State.ownLaneClr_good _ _ _ ?_
    | with_reducible refine State.laneCntClr_good _ _ ?_ | with_reducible refine goodOwn_done ?_ ?_ | with_reducible refine goodOwn_ite ?_ ?_ | simp only [goodOwn_error_eq]
    | simp only [goodOwn_ok_eq] | dsimp only | split | refine good_fst_of (by with_reducible assumption) ?_
    | refine goodOwn_of (by with_reducible assumption) ?_)
theorem State.writeRing_good {Q : Claim} (s : State) (base : Nat) (sub : Nat) (r : Reg) (v : Nat) (d : List Byte) (h : s.Good Q) :
    (State.writeRing s base sub r v d).1.Good Q := by
  unfold State.writeRing; try dsimp only
  repeat' (first
    | with_reducible assumption | with_reducible refine good_ite ?_ ?_ | with_reducible refine State.ownRingCmd_good _ ?_ | with_reducible refine State.ownTcRate_good _ _ _ _ ?_
    | with_reducible refine State.wr_good _ _ _ ?_ | with_reducible refine State.ownAlmAck_good _ _ ?_ | with_reducible refine goodOwn_done ?_ ?_ | with_reducible refine goodOwn_ite ?_ ?_
    | simp only [goodOwn_error_eq] | simp only [goodOwn_ok_eq] | dsimp only | split
    | refine good_fst_of (by with_reducible assumption) ?_ | refine goodOwn_of (by with_reducible assumption) ?_)
theorem State.ownPpsIn_good {Q : Claim} (s : State) (v : Nat) (h : s.Good Q) :
    goodOwn Q (State.ownPpsIn s v) := by
  unfold State.ownPpsIn; try dsimp only
  repeat' (first
    | with_reducible assumption | simp only [goodOwn_error_eq] | simp only [goodOwn_ok_eq] | with_reducible refine goodOwn_ite ?_ ?_
    | with_reducible refine good_ite ?_ ?_ | with_reducible refine State.wr_good _ _ _ ?_ | with_reducible refine State.seeSource_good _ ?_ | with_reducible refine State.updTb_good _ _ ?_
    | dsimp only | split)
theorem State.writeTime_good {Q : Claim} (s : State) (base : Nat) (n : Nat) (sub : Nat) (r : Reg) (v : Nat) (h : s.Good Q) :
    (State.writeTime s base n sub r v).1.Good Q := by
  unfold State.writeTime; try dsimp only
  repeat' (first
    | with_reducible assumption | with_reducible refine good_ite ?_ ?_ | with_reducible refine State.ownTmSrc_good _ _ ?_ | with_reducible refine State.ownTmSet_good _ _ ?_
    | with_reducible refine State.ownPpsIn_good _ _ ?_ | with_reducible refine State.ownTmClr_good _ _ ?_ | with_reducible refine State.ownPtp_good _ _ _ _ ?_ | with_reducible refine State.ownBellCfg_good _ _ _ _ ?_
    | with_reducible refine State.ownBellCmd_good _ _ _ ?_ | with_reducible refine State.ownTrigMode_good _ _ _ ?_ | with_reducible refine State.wr_good _ _ _ ?_ | with_reducible refine goodOwn_done ?_ ?_
    | with_reducible refine goodOwn_ite ?_ ?_ | simp only [goodOwn_error_eq] | simp only [goodOwn_ok_eq] | dsimp only
    | split | refine good_fst_of (by with_reducible assumption) ?_ | refine goodOwn_of (by with_reducible assumption) ?_)
theorem State.writeMgr_good {Q : Claim} (s : State) (sub : Nat) (r : Reg) (v : Nat) (h : s.Good Q) :
    (State.writeMgr s sub r v).1.Good Q := by
  unfold State.writeMgr; try dsimp only
  repeat' (first
    | with_reducible assumption | with_reducible refine good_ite ?_ ?_ | with_reducible refine State.ownMgrCmd_good _ _ ?_ | with_reducible refine State.updMgr_good _ _ ?_
    | with_reducible refine State.ownMgrClr_good _ _ ?_ | with_reducible refine State.wr_good _ _ _ ?_ | with_reducible refine goodOwn_done ?_ ?_ | with_reducible refine goodOwn_ite ?_ ?_
    | simp only [goodOwn_error_eq] | simp only [goodOwn_ok_eq] | dsimp only | split
    | with_reducible refine State.doneCmd_good _ _ _ ?_ ?_ (fun _ _ => ?_) | refine good_fst_of (by with_reducible assumption) ?_ | refine goodOwn_of (by with_reducible assumption) ?_)
theorem State.ownNetCtrl_good {Q : Claim} (s : State) (v : Nat) (h : s.Good Q) :
    goodOwn Q (State.ownNetCtrl s v) := by
  unfold State.ownNetCtrl; try dsimp only
  repeat' (first
    | with_reducible assumption | simp only [goodOwn_error_eq] | simp only [goodOwn_ok_eq] | with_reducible refine goodOwn_ite ?_ ?_
    | with_reducible refine good_ite ?_ ?_ | with_reducible refine State.wr_good _ _ _ ?_ | with_reducible refine State.wake_good _ _ _ _ ?_ | dsimp only
    | split)
theorem State.ownTrBind_good {Q : Claim} (s : State) (sig : Nat) (v : Nat) (h : s.Good Q) :
    goodOwn Q (State.ownTrBind s sig v) := by
  unfold State.ownTrBind; try dsimp only
  repeat' (first
    | with_reducible assumption | simp only [goodOwn_error_eq] | simp only [goodOwn_ok_eq] | with_reducible refine goodOwn_ite ?_ ?_
    | with_reducible refine good_ite ?_ ?_ | with_reducible refine State.wr_good _ _ _ ?_ | dsimp only | split
    | with_reducible refine good_with ?_ ?_ | exact (rfl : (_ : Fuses) = _))
theorem State.writeClk_good {Q : Claim} (s : State) (sub : Nat) (r : Reg) (v : Nat) (h : s.Good Q) :
    (State.writeClk s sub r v).1.Good Q := by
  unfold State.writeClk; try dsimp only
  repeat' (first
    | with_reducible assumption | with_reducible refine good_ite ?_ ?_ | with_reducible refine State.ownClkClr_good _ _ ?_ | with_reducible refine State.ownClkApply_good _ _ ?_
    | with_reducible refine State.updClk_good _ _ ?_ | with_reducible refine State.wr_good _ _ _ ?_ | with_reducible refine goodOwn_done ?_ ?_ | with_reducible refine goodOwn_ite ?_ ?_
    | simp only [goodOwn_error_eq] | simp only [goodOwn_ok_eq] | dsimp only | split
    | with_reducible refine State.doneCmd_good _ _ _ ?_ ?_ (fun _ _ => ?_) | refine good_fst_of (by with_reducible assumption) ?_ | refine goodOwn_of (by with_reducible assumption) ?_)
theorem State.writePwr_good {Q : Claim} (s : State) (sub : Nat) (r : Reg) (v : Nat) (h : s.Good Q) :
    (State.writePwr s sub r v).1.Good Q := by
  unfold State.writePwr; try dsimp only
  repeat' (first
    | with_reducible assumption | with_reducible refine good_ite ?_ ?_ | with_reducible refine State.pwrReq_good _ _ ?_ | with_reducible refine State.ownRstFlagsClr_good _ _ ?_
    | with_reducible refine State.rstCmd_good _ ?_ | with_reducible refine State.sleepCmd_good _ ?_ | with_reducible refine State.hostWdService_good _ ?_ | with_reducible refine State.wr_good _ _ _ ?_
    | with_reducible refine goodOwn_done ?_ ?_ | with_reducible refine goodOwn_ite ?_ ?_ | simp only [goodOwn_error_eq] | simp only [goodOwn_ok_eq]
    | dsimp only | split | refine good_fst_of (by with_reducible assumption) ?_ | refine goodOwn_of (by with_reducible assumption) ?_)
theorem State.writeStore_good {Q : Claim} (s : State) (base : Nat) (sub : Nat) (r : Reg) (v : Nat) (d : List Byte) (h : s.Good Q) :
    (State.writeStore s base sub r v d).1.Good Q := by
  unfold State.writeStore; try dsimp only
  repeat' (first
    | with_reducible assumption | with_reducible refine good_ite ?_ ?_ | with_reducible refine State.cfgCommit_good _ ?_ | with_reducible refine countSig_good _ ?_
    | with_reducible refine State.ownFwImage_good _ _ ?_ | with_reducible refine State.fwActivate_good _ ?_ | with_reducible refine State.fwConfirm_good _ ?_ | with_reducible refine State.seeWear_good _ _ ?_ ?_
    | with_reducible refine State.wr_good _ _ _ ?_ | with_reducible refine State.ownCelCmd_good _ _ ?_ | with_reducible refine State.fuseCmd_good _ _ ?_ | with_reducible refine State.ownNonce_good _ _ ?_
    | with_reducible refine State.ownDebug_good _ _ ?_ | with_reducible refine State.updNor_good _ _ (fun _ => below_refl _) ?_ | with_reducible refine goodOwn_done ?_ ?_ | with_reducible refine goodOwn_ite ?_ ?_
    | simp only [goodOwn_error_eq] | simp only [goodOwn_ok_eq] | dsimp only | split
    | with_reducible refine State.doneCmd_good _ _ _ ?_ ?_ (fun _ _ => ?_) | refine good_fst_of (by with_reducible assumption) ?_ | refine goodOwn_of (by with_reducible assumption) ?_)
theorem State.writeBist_good {Q : Claim} (s : State) (sub : Nat) (v : Nat) (h : s.Good Q) :
    (State.writeBist s sub v).1.Good Q := by
  unfold State.writeBist; try dsimp only
  repeat' (first
    | with_reducible assumption | with_reducible refine good_ite ?_ ?_ | with_reducible refine State.bistRun_good _ ?_ | with_reducible refine State.bistAbort_good _ ?_
    | with_reducible refine State.ownBistTarget_good _ _ ?_ | with_reducible refine goodOwn_done ?_ ?_ | with_reducible refine goodOwn_ite ?_ ?_ | simp only [goodOwn_error_eq]
    | simp only [goodOwn_ok_eq] | dsimp only | split | refine good_fst_of (by with_reducible assumption) ?_
    | refine goodOwn_of (by with_reducible assumption) ?_)
theorem State.writeOwned0_good {Q : Claim} (s : State) (r : OdRow) (idx : Nat) (sub : Nat) (d : List Byte) (h : s.Good Q) :
    (State.writeOwned0 s r idx sub d).1.Good Q := by
  unfold State.writeOwned0; try dsimp only
  repeat' (first
    | with_reducible assumption | with_reducible refine good_ite ?_ ?_ | with_reducible refine State.writeSlot_good _ _ _ _ _ _ ?_ | with_reducible refine State.writeLeg_good _ _ _ _ _ ?_
    | with_reducible refine State.writeCar_good _ _ _ _ _ ?_ | with_reducible refine State.writeInput_good _ _ _ _ _ _ ?_ | with_reducible refine State.writeMeas_good _ _ _ _ _ _ ?_ | with_reducible refine State.writeLs_good _ _ _ _ _ _ ?_
    | with_reducible refine State.writeRa_good _ _ _ _ _ ?_ | with_reducible refine State.writeString_good _ _ _ _ _ ?_ | with_reducible refine State.writeLv_good _ _ _ _ _ ?_ | with_reducible refine State.writeFb_good _ _ _ _ ?_
    | with_reducible refine State.writeTh_good _ _ _ _ _ _ ?_ | with_reducible refine State.writeFlt_good _ _ _ _ ?_ | with_reducible refine State.writeSafe_good _ _ _ _ _ _ ?_ | with_reducible refine State.writeLane_good _ _ _ _ ?_
    | with_reducible refine State.writeRing_good _ _ _ _ _ _ ?_ | with_reducible refine State.writeTime_good _ _ _ _ _ _ ?_ | with_reducible refine State.writeMgr_good _ _ _ _ ?_ | with_reducible refine State.ownNetCtrl_good _ _ ?_
    | with_reducible refine State.wr_good _ _ _ ?_ | with_reducible refine State.ownTrBind_good _ _ _ ?_ | with_reducible refine State.writeClk_good _ _ _ _ ?_ | with_reducible refine State.writePwr_good _ _ _ _ ?_
    | with_reducible refine State.writeStore_good _ _ _ _ _ _ ?_ | with_reducible refine State.writeBist_good _ _ _ ?_ | with_reducible refine State.ownFltCfg_good _ _ _ ?_ | with_reducible refine goodOwn_done ?_ ?_
    | with_reducible refine goodOwn_ite ?_ ?_ | simp only [goodOwn_error_eq] | simp only [goodOwn_ok_eq] | dsimp only
    | split | refine good_fst_of (by with_reducible assumption) ?_ | refine goodOwn_of (by with_reducible assumption) ?_)
theorem State.restoreVal_good {Q : Claim} (s : State) (idx : Nat) (sub : Nat) (v : List Byte) (h : s.Good Q) :
    (State.restoreVal s idx sub v).Good Q := by
  unfold State.restoreVal; try dsimp only
  repeat' (first
    | with_reducible assumption | with_reducible refine good_ite ?_ ?_ | with_reducible refine State.wr_good _ _ _ ?_ | with_reducible refine State.writeOwned0_good _ _ _ _ _ ?_
    | dsimp only | split | refine good_fst_of (by with_reducible assumption) ?_)
theorem State.restoreRec_good {Q : Claim} (s : State) (warm : Bool) (rec : Nat × Nat × Nat × List Byte) (h : s.Good Q) :
    (State.restoreRec s warm rec).1.Good Q := by
  unfold State.restoreRec; try dsimp only
  repeat' (first
    | with_reducible assumption | with_reducible refine good_ite ?_ ?_ | with_reducible refine State.updSf_good _ _ ?_ | with_reducible refine State.ownLsProgram_good _ _ _ ?_
    | with_reducible refine State.restoreVal_good _ _ _ _ ?_ | dsimp only | split | refine goodOwn_of (by with_reducible assumption) ?_)
theorem State.restoreConfig_good {Q : Claim} (s : State) (warm : Bool) (h : s.Good Q) :
    (State.restoreConfig s warm).Good Q := by
  unfold State.restoreConfig; try dsimp only
  repeat' (first
    | with_reducible assumption | with_reducible refine good_ite ?_ ?_ | with_reducible refine State.raise_good _ _ _ ?_ | with_reducible refine State.restoreRec_good _ _ _ ?_
    | with_reducible refine State.updNor_good _ _ (fun _ => below_refl _) ?_ | with_reducible refine State.each_good _ _ _ (fun _ _ _ => ?_) ?_ | with_reducible refine good_foldl _ _ (fun _ _ _ => ?_) _ ?_ | with_reducible refine good_foldl_fst _ _ (fun _ _ _ => ?_) _ ?_
    | dsimp only | split | refine good_fst_of (by with_reducible assumption) ?_)
theorem State.ownCfgImage_good {Q : Claim} (s : State) (img : List Byte) (h : s.Good Q) :
    goodOwn Q (State.ownCfgImage s img) := by
  unfold State.ownCfgImage; try dsimp only
  repeat' (first
    | with_reducible assumption | simp only [goodOwn_error_eq] | simp only [goodOwn_ok_eq] | with_reducible refine goodOwn_ite ?_ ?_
    | with_reducible refine good_ite ?_ ?_ | with_reducible refine State.ownLsProgram_good _ _ _ ?_ | with_reducible refine State.restoreRec_good _ _ _ ?_ | with_reducible refine State.askCommit_good _ _ ?_
    | with_reducible refine good_foldl _ _ (fun _ _ _ => ?_) _ ?_ | with_reducible refine good_foldl_fst _ _ (fun _ _ _ => ?_) _ ?_ | dsimp only | split
    | refine good_fst_of (by with_reducible assumption) ?_ | refine goodOwn_of (by with_reducible assumption) ?_)
theorem State.loadDefaults_good {Q : Claim} (s : State) (h : s.Good Q) :
    (State.loadDefaults s).Good Q := by
  unfold State.loadDefaults; try dsimp only
  repeat' (first
    | with_reducible assumption | with_reducible refine good_ite ?_ ?_ | with_reducible refine State.restoreVal_good _ _ _ _ ?_ | with_reducible refine good_foldl _ _ (fun _ _ _ => ?_) _ ?_
    | with_reducible refine good_foldl_fst _ _ (fun _ _ _ => ?_) _ ?_ | dsimp only | split | with_reducible refine good_with ?_ ?_
    | exact (rfl : (_ : Fuses) = _) | refine good_od ?_ (fun w => filter_wf _ w))
theorem State.cfgDefaults_good {Q : Claim} (s : State) (h : s.Good Q) :
    goodOwn Q (State.cfgDefaults s) := by
  unfold State.cfgDefaults; try dsimp only
  repeat' (first
    | with_reducible assumption | simp only [goodOwn_error_eq] | simp only [goodOwn_ok_eq] | with_reducible refine goodOwn_ite ?_ ?_
    | with_reducible refine good_ite ?_ ?_ | with_reducible refine State.loadDefaults_good _ ?_ | with_reducible refine State.updNor_good _ _ (fun _ => below_refl _) ?_ | dsimp only
    | split)
theorem State.endConfig_good {Q : Claim} (s : State) (h : s.Good Q) :
    (State.endConfig s).Good Q := by
  unfold State.endConfig; try dsimp only
  repeat' (first
    | with_reducible assumption | with_reducible refine good_ite ?_ ?_ | with_reducible refine State.restoreConfig_good _ _ ?_ | with_reducible refine State.updRing_good _ _ ?_
    | with_reducible refine State.sfJudge_good _ ?_ | with_reducible refine State.sdcStart_good _ ?_ | with_reducible refine State.updSf_good _ _ ?_ | with_reducible refine State.raise_good _ _ _ ?_
    | dsimp only | split)
theorem State.bootDomains_good {Q : Claim} (s : State) (h : s.Good Q) :
    (State.bootDomains s).Good Q := by
  unfold State.bootDomains; try dsimp only
  repeat' (first
    | with_reducible assumption | with_reducible refine good_ite ?_ ?_ | with_reducible refine State.wake_good _ _ _ _ ?_ | with_reducible refine State.each_good _ _ _ (fun _ _ _ => ?_) ?_
    | dsimp only | split)
theorem State.bootStage_good {Q : Claim} (s : State) (t : Nat) (bad : Nat) (h : s.Good Q) :
    (State.bootStage s t bad).Good Q := by
  unfold State.bootStage; try dsimp only
  repeat' (first
    | with_reducible assumption | with_reducible refine good_ite ?_ ?_ | with_reducible refine State.updPwr_good _ _ ?_ | with_reducible refine State.retLost_good _ _ ?_
    | with_reducible refine State.at__good _ _ ?_ | with_reducible refine State.bootRom_good _ _ ?_ | with_reducible refine State.raise_good _ _ _ ?_ | with_reducible refine State.logEvent_good _ _ _ ?_
    | with_reducible refine State.rebuildShut_good _ ?_ | with_reducible refine State.bootDomains_good _ ?_ | with_reducible refine State.endConfig_good _ ?_ | with_reducible refine State.mgrListen_good _ ?_
    | with_reducible refine State.updNor_good _ _ (fun _ => below_refl _) ?_ | dsimp only | split)
theorem State.writeOwned_good {Q : Claim} (s : State) (r : OdRow) (idx : Nat) (sub : Nat) (d : List Byte) (h : s.Good Q) :
    (State.writeOwned s r idx sub d).1.Good Q := by
  unfold State.writeOwned; try dsimp only
  repeat' (first
    | with_reducible assumption | with_reducible refine good_ite ?_ ?_ | with_reducible refine countSig_good _ ?_ | with_reducible refine State.ownCfgImage_good _ _ ?_
    | with_reducible refine State.cfgDefaults_good _ ?_ | with_reducible refine State.writeOwned0_good _ _ _ _ _ ?_ | with_reducible refine State.updNor_good _ _ (fun _ => below_refl _) ?_ | with_reducible refine goodOwn_done ?_ ?_
    | with_reducible refine goodOwn_ite ?_ ?_ | simp only [goodOwn_error_eq] | simp only [goodOwn_ok_eq] | dsimp only
    | split | with_reducible refine State.doneCmd_good _ _ _ ?_ ?_ (fun _ _ => ?_) | refine good_fst_of (by with_reducible assumption) ?_ | refine goodOwn_of (by with_reducible assumption) ?_)
theorem State.writeEntry_good {Q : Claim} (s : State) (r : OdRow) (idx : Nat) (sub : Nat) (d : List Byte) (h : s.Good Q) :
    (State.writeEntry s r idx sub d).1.Good Q := by
  unfold State.writeEntry; try dsimp only
  repeat' (first
    | with_reducible assumption | with_reducible refine good_ite ?_ ?_ | with_reducible refine State.writeOwned_good _ _ _ _ _ ?_ | dsimp only
    | split | refine good_fst_of (by with_reducible assumption) ?_)
theorem State.updAcc_good {Q : Claim} (s : State) (f : Access → Access) (h : s.Good Q) :
    (State.updAcc s f).Good Q := by
  unfold State.updAcc; try dsimp only
  repeat' (first
    | with_reducible assumption | with_reducible refine good_ite ?_ ?_ | dsimp only | split
    | with_reducible refine good_with ?_ ?_ | exact (rfl : (_ : Fuses) = _))
theorem State.answerFrom_good {Q : Claim} (s : State) (m : Msg) (node : Nat) (r : Resp) (h : s.Good Q) :
    (State.answerFrom s m node r).Good Q := by
  unfold State.answerFrom; try dsimp only
  repeat' (first
    | with_reducible assumption | with_reducible refine good_ite ?_ ?_ | with_reducible refine State.updAcc_good _ _ ?_ | with_reducible refine State.send_good _ _ _ _ _ _ ?_
    | with_reducible refine State.emit_good _ _ ?_ | dsimp only | split)
theorem State.answer_good {Q : Claim} (s : State) (m : Msg) (r : Resp) (h : s.Good Q) :
    (State.answer s m r).Good Q := by
  unfold State.answer; try dsimp only
  repeat' (first
    | with_reducible assumption | with_reducible refine good_ite ?_ ?_ | with_reducible refine State.answerFrom_good _ _ _ _ ?_ | dsimp only
    | split)
theorem State.dropReq_good {Q : Claim} (s : State) (p : Path) (h : s.Good Q) :
    (State.dropReq s p).Good Q := by
  unfold State.dropReq; try dsimp only
  repeat' (first
    | with_reducible assumption | with_reducible refine good_ite ?_ ?_ | with_reducible refine State.raise_good _ _ _ ?_ | with_reducible refine State.updAcc_good _ _ ?_
    | dsimp only | split)
theorem State.readEntry_good {Q : Claim} (s : State) (r : OdRow) (idx : Nat) (sub : Nat) (h : s.Good Q) :
    goodRead Q (State.readEntry s r idx sub) := by
  unfold State.readEntry; try dsimp only
  repeat' (first
    | with_reducible exact goodRead_error | with_reducible refine goodRead_ok ?_ | with_reducible assumption | with_reducible refine good_ite ?_ ?_
    | with_reducible refine State.updAcc_good _ _ ?_ | with_reducible refine State.popHost_good _ ?_ | with_reducible refine State.bumpAddr_good _ _ ?_ | with_reducible refine State.attest_good _ ?_
    | dsimp only | split | refine good_snd_of (by with_reducible assumption) ?_ | refine goodRead_of (by with_reducible assumption) ?_)
theorem State.doRead_good {Q : Claim} (s : State) (m : Msg) (r : OdRow) (h : s.Good Q) :
    (State.doRead s m r).Good Q := by
  unfold State.doRead; try dsimp only
  repeat' (first
    | with_reducible assumption | with_reducible refine good_ite ?_ ?_ | with_reducible refine State.readEntry_good _ _ _ _ ?_ | with_reducible refine State.answer_good _ _ _ ?_
    | dsimp only | split | refine goodRead_of (by with_reducible assumption) ?_)
theorem State.serveSnap_good {Q : Claim} (s : State) (m : Msg) (typ : Nat) (v : List Byte) (h : s.Good Q) :
    (State.serveSnap s m typ v).Good Q := by
  unfold State.serveSnap; try dsimp only
  repeat' (first
    | with_reducible assumption | with_reducible refine good_ite ?_ ?_ | with_reducible refine State.updAcc_good _ _ ?_ | with_reducible refine State.answer_good _ _ _ ?_
    | dsimp only | split)
theorem State.doReadSeg_good {Q : Claim} (s : State) (m : Msg) (r : OdRow) (h : s.Good Q) :
    (State.doReadSeg s m r).Good Q := by
  unfold State.doReadSeg; try dsimp only
  repeat' (first
    | with_reducible assumption | with_reducible refine good_ite ?_ ?_ | with_reducible refine State.readEntry_good _ _ _ _ ?_ | with_reducible refine State.answer_good _ _ _ ?_
    | with_reducible refine State.updAcc_good _ _ ?_ | with_reducible refine State.serveSnap_good _ _ _ _ ?_ | dsimp only | split
    | refine goodRead_of (by with_reducible assumption) ?_)
theorem State.doDescribe_good {Q : Claim} (s : State) (m : Msg) (r : OdRow) (h : s.Good Q) :
    (State.doDescribe s m r).Good Q := by
  unfold State.doDescribe; try dsimp only
  repeat' (first
    | with_reducible assumption | with_reducible refine good_ite ?_ ?_ | with_reducible refine State.answer_good _ _ _ ?_ | dsimp only
    | split)
theorem State.finish_good {Q : Claim} (a : Done) (m : Msg) (typ : Nat) (h : a.1.Good Q) :
    (State.finish a m typ).Good Q := by
  unfold State.finish; try dsimp only
  repeat' (first
    | with_reducible assumption | with_reducible refine good_ite ?_ ?_ | with_reducible refine State.settleReset_good _ ?_ | with_reducible refine State.answer_good _ _ _ ?_
    | dsimp only | split)
theorem State.doWrite_good {Q : Claim} (s : State) (m : Msg) (r : OdRow) (h : s.Good Q) :
    (State.doWrite s m r).Good Q := by
  unfold State.doWrite; try dsimp only
  repeat' (first
    | with_reducible assumption | with_reducible refine good_ite ?_ ?_ | with_reducible refine State.answer_good _ _ _ ?_ | with_reducible refine State.finish_good _ _ _ ?_
    | with_reducible refine State.writeEntry_good _ _ _ _ _ ?_ | dsimp only | split | refine good_fst_of (by with_reducible assumption) ?_)
theorem State.endSeg_good {Q : Claim} (s : State) (idx : Nat) (sub : Nat) (h : s.Good Q) :
    (State.endSeg s idx sub).Good Q := by
  unfold State.endSeg; try dsimp only
  repeat' (first
    | with_reducible assumption | with_reducible refine good_ite ?_ ?_ | with_reducible refine State.updAcc_good _ _ ?_ | dsimp only
    | split)
theorem State.doWriteSeg_good {Q : Claim} (s : State) (m : Msg) (r : OdRow) (h : s.Good Q) :
    (State.doWriteSeg s m r).Good Q := by
  unfold State.doWriteSeg; try dsimp only
  repeat' (first
    | with_reducible assumption | with_reducible refine good_ite ?_ ?_ | with_reducible refine State.endSeg_good _ _ _ ?_ | with_reducible refine State.finish_good _ _ _ ?_
    | with_reducible refine State.writeEntry_good _ _ _ _ _ ?_ | with_reducible refine State.answer_good _ _ _ ?_ | with_reducible refine State.updAcc_good _ _ ?_ | with_reducible refine State.fwErase_good _ ?_
    | dsimp only | split | refine good_fst_of (by with_reducible assumption) ?_)
theorem State.doAbort_good {Q : Claim} (s : State) (m : Msg) (h : s.Good Q) :
    (State.doAbort s m).Good Q := by
  unfold State.doAbort; try dsimp only
  repeat' (first
    | with_reducible assumption | with_reducible refine good_ite ?_ ?_ | with_reducible refine State.answer_good _ _ _ ?_ | with_reducible refine State.endSeg_good _ _ _ ?_
    | dsimp only | split)
theorem State.doHello_good {Q : Claim} (s : State) (m : Msg) (h : s.Good Q) :
    (State.doHello s m).Good Q := by
  unfold State.doHello; try dsimp only
  repeat' (first
    | with_reducible assumption | with_reducible refine good_ite ?_ ?_ | with_reducible refine State.answer_good _ _ _ ?_ | dsimp only
    | split)
theorem State.serveAt_good {Q : Claim} (s : State) (m : Msg) (r : OdRow) (h : s.Good Q) :
    (State.serveAt s m r).Good Q := by
  unfold State.serveAt; try dsimp only
  repeat' (first
    | with_reducible assumption | with_reducible refine good_ite ?_ ?_ | with_reducible refine State.doRead_good _ _ _ ?_ | with_reducible refine State.doWrite_good _ _ _ ?_
    | with_reducible refine State.doDescribe_good _ _ _ ?_ | with_reducible refine State.doReadSeg_good _ _ _ ?_ | with_reducible refine State.doWriteSeg_good _ _ _ ?_ | with_reducible refine State.doAbort_good _ _ ?_
    | dsimp only | split)
theorem State.serveHere_good {Q : Claim} (s : State) (m : Msg) (h : s.Good Q) :
    (State.serveHere s m).Good Q := by
  unfold State.serveHere; try dsimp only
  repeat' (first
    | with_reducible assumption | with_reducible refine good_ite ?_ ?_ | with_reducible refine State.doHello_good _ _ ?_ | with_reducible refine State.answer_good _ _ _ ?_
    | with_reducible refine State.serveAt_good _ _ _ ?_ | with_reducible refine State.updAcc_good _ _ ?_ | with_reducible refine State.accessWake_good _ _ _ ?_ | dsimp only
    | split)
theorem State.forward_good {Q : Claim} (s : State) (m : Msg) (h : s.Good Q) :
    (State.forward s m).Good Q := by
  unfold State.forward; try dsimp only
  repeat' (first
    | with_reducible assumption | with_reducible refine good_ite ?_ ?_ | with_reducible refine State.answer_good _ _ _ ?_ | with_reducible refine State.updAcc_good _ _ ?_
    | with_reducible refine State.send_good _ _ _ _ _ _ ?_ | dsimp only | split)
theorem State.takeReq_good {Q : Claim} (s : State) (m : Msg) (h : s.Good Q) :
    (State.takeReq s m).Good Q := by
  unfold State.takeReq; try dsimp only
  repeat' (first
    | with_reducible assumption | with_reducible refine good_ite ?_ ?_ | with_reducible refine State.answer_good _ _ _ ?_ | with_reducible refine State.updAcc_good _ _ ?_
    | with_reducible refine State.forward_good _ _ ?_ | with_reducible refine State.serveHere_good _ _ ?_ | dsimp only | split)
theorem State.serveStalled_good {Q : Claim} (s : State) (h : s.Good Q) :
    (State.serveStalled s).Good Q := by
  unfold State.serveStalled; try dsimp only
  repeat' (first
    | with_reducible assumption | with_reducible refine good_ite ?_ ?_ | with_reducible refine State.updAcc_good _ _ ?_ | with_reducible refine State.serveHere_good _ _ ?_
    | with_reducible refine State.updPwr_good _ _ ?_ | with_reducible refine State.reqBit_good _ _ _ ?_ | with_reducible refine State.domainOff_good _ _ ?_ | with_reducible refine State.each_good _ _ _ (fun _ _ _ => ?_) ?_
    | dsimp only | split)
theorem State.clkSettle_good {Q : Claim} (s : State) (h : s.Good Q) :
    (State.clkSettle s).Good Q := by
  unfold State.clkSettle; try dsimp only
  repeat' (first
    | with_reducible assumption | with_reducible refine good_ite ?_ ?_ | with_reducible refine State.bistAbort_good _ ?_ | dsimp only
    | split)
theorem State.takeAll_good {Q : Claim} (s : State) (m : Msg) (h : s.Good Q) :
    (State.takeAll s m).Good Q := by
  unfold State.takeAll; try dsimp only
  repeat' (first
    | with_reducible assumption | with_reducible refine good_ite ?_ ?_ | with_reducible refine State.takeReq_good _ _ ?_ | with_reducible refine State.serveStalled_good _ ?_
    | with_reducible refine State.clkSettle_good _ ?_ | dsimp only | split)
theorem State.request_good {Q : Claim} (s : State) (m : Msg) (h : s.Good Q) :
    (State.request s m).Good Q := by
  unfold State.request; try dsimp only
  repeat' (first
    | with_reducible assumption | with_reducible refine good_ite ?_ ?_ | with_reducible refine State.takeAll_good _ _ ?_ | with_reducible refine State.upTo_good _ _ ?_
    | dsimp only | split)
theorem State.writeCmd_good {Q : Claim} (s : State) (q : Req) (idx : Nat) (sub : Nat) (d : List Byte) (h : s.Good Q) :
    (State.writeCmd s q idx sub d).Good Q := by
  unfold State.writeCmd; try dsimp only
  repeat' (first
    | with_reducible assumption | with_reducible refine good_ite ?_ ?_ | with_reducible refine State.request_good _ _ ?_ | dsimp only
    | split)
theorem State.writeWhole_good {Q : Claim} (s : State) (q : Req) (idx : Nat) (sub : Nat) (d : List Byte) (h : s.Good Q) :
    (State.writeWhole s q idx sub d).Good Q := by
  unfold State.writeWhole; try dsimp only
  repeat' (first
    | with_reducible assumption | with_reducible refine good_ite ?_ ?_ | with_reducible refine State.upTo_good _ _ ?_ | with_reducible refine State.takeReq_good _ _ ?_
    | with_reducible refine State.answer_good _ _ _ ?_ | with_reducible refine State.fwErase_good _ ?_ | with_reducible refine State.finish_good _ _ _ ?_ | with_reducible refine State.writeEntry_good _ _ _ _ _ ?_
    | dsimp only | split | refine good_fst_of (by with_reducible assumption) ?_)
theorem State.readCmd_good {Q : Claim} (s : State) (q : Req) (idx : Nat) (sub : Nat) (h : s.Good Q) :
    (State.readCmd s q idx sub).Good Q := by
  unfold State.readCmd; try dsimp only
  repeat' (first
    | with_reducible assumption | with_reducible refine good_ite ?_ ?_ | with_reducible refine State.request_good _ _ ?_ | dsimp only
    | split)
theorem State.refuseStalled_good {Q : Claim} (s : State) (d : Nat) (h : s.Good Q) :
    (State.refuseStalled s d).Good Q := by
  unfold State.refuseStalled; try dsimp only
  repeat' (first
    | with_reducible assumption | with_reducible refine good_ite ?_ ?_ | with_reducible refine State.updAcc_good _ _ ?_ | with_reducible refine State.answer_good _ _ _ ?_
    | with_reducible refine State.each_good _ _ _ (fun _ _ _ => ?_) ?_ | dsimp only | split)
theorem State.segTimeout_good {Q : Claim} (s : State) (idx : Nat) (sub : Nat) (h : s.Good Q) :
    (State.segTimeout s idx sub).Good Q := by
  unfold State.segTimeout; try dsimp only
  repeat' (first
    | with_reducible assumption | with_reducible refine good_ite ?_ ?_ | with_reducible refine State.updAcc_good _ _ ?_ | with_reducible refine State.endSeg_good _ _ _ ?_
    | with_reducible refine State.at__good _ _ ?_ | dsimp only | split)
theorem State.snapRelease_good {Q : Claim} (s : State) (h : s.Good Q) :
    (State.snapRelease s).Good Q := by
  unfold State.snapRelease; try dsimp only
  repeat' (first
    | with_reducible assumption | with_reducible refine good_ite ?_ ?_ | with_reducible refine State.updAcc_good _ _ ?_ | with_reducible refine State.at__good _ _ ?_
    | with_reducible refine good_foldl _ _ (fun _ _ _ => ?_) _ ?_ | with_reducible refine good_foldl_fst _ _ (fun _ _ _ => ?_) _ ?_ | dsimp only | split)
theorem State.responseRx_good {Q : Claim} (s : State) (src : Nat) (p : List Byte) (h : s.Good Q) :
    (State.responseRx s src p).Good Q := by
  unfold State.responseRx; try dsimp only
  repeat' (first
    | with_reducible assumption | with_reducible refine good_ite ?_ ?_ | with_reducible refine State.updAcc_good _ _ ?_ | with_reducible refine State.dropReq_good _ _ ?_
    | with_reducible refine State.answerFrom_good _ _ _ _ ?_ | dsimp only | split)
theorem State.remoteTmo_good {Q : Claim} (s : State) (h : s.Good Q) :
    (State.remoteTmo s).Good Q := by
  unfold State.remoteTmo; try dsimp only
  repeat' (first
    | with_reducible assumption | with_reducible refine good_ite ?_ ?_ | with_reducible refine State.at__good _ _ ?_ | with_reducible refine State.updAcc_good _ _ ?_
    | with_reducible refine State.raiseBy_good _ _ _ _ _ ?_ | with_reducible refine State.answer_good _ _ _ ?_ | dsimp only | split)
theorem State.requestRx_good {Q : Claim} (s : State) (src : Nat) (p : List Byte) (h : s.Good Q) :
    (State.requestRx s src p).Good Q := by
  unfold State.requestRx; try dsimp only
  repeat' (first
    | with_reducible assumption | with_reducible refine good_ite ?_ ?_ | with_reducible refine State.request_good _ _ ?_ | with_reducible refine State.dropReq_good _ _ ?_
    | dsimp only | split)
theorem State.spiWrite_good {Q : Claim} (s : State) (t : Nat) (l : List Byte) (whole : Bool) (h : s.Good Q) :
    (State.spiWrite s t l whole).Good Q := by
  unfold State.spiWrite; try dsimp only
  repeat' (first
    | with_reducible assumption | with_reducible refine good_ite ?_ ?_ | with_reducible refine State.upTo_good _ _ ?_ | with_reducible refine State.dropReq_good _ _ ?_
    | with_reducible refine State.takeAll_good _ _ ?_ | dsimp only | split)
theorem State.spiRead_good {Q : Claim} (s : State) (t : Nat) (whole : Bool) (h : s.Good Q) :
    (State.spiRead s t whole).Good Q := by
  unfold State.spiRead; try dsimp only
  repeat' (first
    | with_reducible assumption | with_reducible refine good_ite ?_ ?_ | with_reducible refine State.upTo_good _ _ ?_ | with_reducible refine State.emit_good _ _ ?_
    | with_reducible refine State.updAcc_good _ _ ?_ | dsimp only | split)
theorem State.spiStatus_good {Q : Claim} (s : State) (t : Nat) (h : s.Good Q) :
    (State.spiStatus s t).Good Q := by
  unfold State.spiStatus; try dsimp only
  repeat' (first
    | with_reducible assumption | with_reducible refine good_ite ?_ ?_ | with_reducible refine State.upTo_good _ _ ?_ | with_reducible refine State.emit_good _ _ ?_
    | dsimp only | split)
theorem State.canBusOff_good {Q : Claim} (s : State) (t : Nat) (h : s.Good Q) :
    (State.canBusOff s t).Good Q := by
  unfold State.canBusOff; try dsimp only
  repeat' (first
    | with_reducible assumption | with_reducible refine good_ite ?_ ?_ | with_reducible refine State.raise_good _ _ _ ?_ | with_reducible refine State.updAcc_good _ _ ?_
    | with_reducible refine State.at__good _ _ ?_ | dsimp only | split)
theorem State.canRecover_good {Q : Claim} (s : State) (t : Nat) (h : s.Good Q) :
    (State.canRecover s t).Good Q := by
  unfold State.canRecover; try dsimp only
  repeat' (first
    | with_reducible assumption | with_reducible refine good_ite ?_ ?_ | with_reducible refine State.updAcc_good _ _ ?_ | with_reducible refine State.at__good _ _ ?_
    | dsimp only | split)
theorem State.ethDown_good {Q : Claim} (s : State) (t : Nat) (h : s.Good Q) :
    (State.ethDown s t).Good Q := by
  unfold State.ethDown; try dsimp only
  repeat' (first
    | with_reducible assumption | with_reducible refine good_ite ?_ ?_ | with_reducible refine State.updAcc_good _ _ ?_ | with_reducible refine State.at__good _ _ ?_
    | with_reducible refine State.raise_good _ _ _ ?_ | dsimp only | split)
theorem State.ethComesUp_good {Q : Claim} (s : State) (t : Nat) (speed : Nat) (h : s.Good Q) :
    (State.ethComesUp s t speed).Good Q := by
  unfold State.ethComesUp; try dsimp only
  repeat' (first
    | with_reducible assumption | with_reducible refine good_ite ?_ ?_ | with_reducible refine State.updAcc_good _ _ ?_ | with_reducible refine State.at__good _ _ ?_
    | dsimp only | split)
theorem State.arpIcmp_good {Q : Claim} (s : State) (t : Nat) (icmp : Bool) (ip : BitVec 32) (who : Nat) (h : s.Good Q) :
    (State.arpIcmp s t icmp ip who).Good Q := by
  unfold State.arpIcmp; try dsimp only
  repeat' (first
    | with_reducible assumption | with_reducible refine good_ite ?_ ?_ | with_reducible refine State.emit_good _ _ ?_ | with_reducible refine State.at__good _ _ ?_
    | dsimp only | split)
theorem State.trCopy_good {Q : Claim} (s : State) (sig : Nat) (h : s.Good Q) :
    (State.trCopy s sig).Good Q := by
  unfold State.trCopy; try dsimp only
  repeat' (first
    | with_reducible assumption | with_reducible refine good_ite ?_ ?_ | with_reducible refine State.upTo_good _ _ ?_ | with_reducible refine State.traceSet_good _ _ _ _ _ ?_
    | dsimp only | split)
theorem State.almIntake_good {Q : Claim} (s : State) (src : Nat) (l : List Alarm) (h : s.Good Q) :
    (State.almIntake s src l).Good Q := by
  unfold State.almIntake; try dsimp only
  repeat' (first
    | with_reducible assumption | with_reducible refine good_ite ?_ ?_ | with_reducible refine State.updRing_good _ _ ?_ | with_reducible refine good_foldl _ _ (fun _ _ _ => ?_) _ ?_
    | with_reducible refine good_foldl_fst _ _ (fun _ _ _ => ?_) _ ?_ | dsimp only | split)
theorem State.almAcks_good {Q : Claim} (s : State) (h : s.Good Q) :
    (State.almAcks s).Good Q := by
  unfold State.almAcks; try dsimp only
  repeat' (first
    | with_reducible assumption | with_reducible refine good_ite ?_ ?_ | with_reducible refine State.updRing_good _ _ ?_ | with_reducible refine State.send_good _ _ _ _ _ _ ?_
    | with_reducible refine State.each_good _ _ _ (fun _ _ _ => ?_) ?_ | dsimp only | split)
theorem State.sendSums_good {Q : Claim} (s : State) (l : List AlmSum) (h : s.Good Q) :
    (State.sendSums s l).Good Q := by
  unfold State.sendSums; try dsimp only
  repeat' (first
    | with_reducible assumption | with_reducible refine good_ite ?_ ?_ | with_reducible refine State.send_good _ _ _ _ _ _ ?_ | with_reducible refine State.updFlt_good _ _ ?_
    | with_reducible refine State.each_good _ _ _ (fun _ _ _ => ?_) ?_ | dsimp only | split)
theorem State.foldAlarm_good {Q : Claim} (s : State) (a : Alarm) (h : s.Good Q) :
    (State.foldAlarm s a).Good Q := by
  unfold State.foldAlarm; try dsimp only
  repeat' (first
    | with_reducible assumption | with_reducible refine good_ite ?_ ?_ | with_reducible refine State.updRing_good _ _ ?_ | with_reducible refine State.sendSums_good _ _ ?_
    | dsimp only | split)
theorem State.sumPeriod_good {Q : Claim} (s : State) (h : s.Good Q) :
    (State.sumPeriod s).Good Q := by
  unfold State.sumPeriod; try dsimp only
  repeat' (first
    | with_reducible assumption | with_reducible refine good_ite ?_ ?_ | with_reducible refine State.at__good _ _ ?_ | with_reducible refine State.sendSums_good _ _ ?_
    | with_reducible refine State.updRing_good _ _ ?_ | dsimp only | split)
theorem State.alarmFrame_good {Q : Claim} (s : State) (h : s.Good Q) :
    (State.alarmFrame s).Good Q := by
  unfold State.alarmFrame; try dsimp only
  repeat' (first
    | with_reducible assumption | with_reducible refine good_ite ?_ ?_ | with_reducible refine State.nextAlarms_good _ ?_ | with_reducible refine State.emit_good _ _ ?_
    | with_reducible refine State.almIntake_good _ _ _ ?_ | with_reducible refine State.send_good _ _ _ _ _ _ ?_ | dsimp only | split
    | refine goodOpt_of (by with_reducible assumption) ?_)
theorem State.stateRecordRx_good {Q : Claim} (s : State) (src : Nat) (p : List Byte) (h : s.Good Q) :
    (State.stateRecordRx s src p).Good Q := by
  unfold State.stateRecordRx; try dsimp only
  repeat' (first
    | with_reducible assumption | with_reducible refine good_ite ?_ ?_ | with_reducible refine State.stringState_good _ _ _ _ _ _ _ _ ?_ | with_reducible refine State.each_good _ _ _ (fun _ _ _ => ?_) ?_
    | dsimp only | split)
theorem State.silentMembers_good {Q : Claim} (s : State) (i : Nat) (h : s.Good Q) :
    (State.silentMembers s i).Good Q := by
  unfold State.silentMembers; try dsimp only
  repeat' (first
    | with_reducible assumption | with_reducible refine good_ite ?_ ?_ | with_reducible refine State.updStr_good _ _ _ ?_ | with_reducible refine State.applyLoss_good _ _ _ ?_
    | with_reducible refine State.each_good _ _ _ (fun _ _ _ => ?_) ?_ | dsimp only | split)
theorem State.stringCycle_good {Q : Claim} (s : State) (i : Nat) (h : s.Good Q) :
    (State.stringCycle s i).Good Q := by
  unfold State.stringCycle; try dsimp only
  repeat' (first
    | with_reducible assumption | with_reducible refine good_ite ?_ ?_ | with_reducible refine State.silentMembers_good _ _ ?_ | with_reducible refine State.strCycle_good _ _ ?_
    | with_reducible refine State.send_good _ _ _ _ _ _ ?_ | dsimp only | split)
theorem State.actTc1_good {Q : Claim} (s : State) (f : Frame) (h : s.Good Q) :
    (State.actTc1 s f).Good Q := by
  unfold State.actTc1; try dsimp only
  repeat' (first
    | with_reducible assumption | with_reducible refine good_ite ?_ ?_ | with_reducible refine State.mgrFrame_good _ _ _ ?_ | with_reducible refine State.stateRecordRx_good _ _ _ ?_
    | with_reducible refine State.stringRecord_good _ _ _ _ _ _ _ ?_ | dsimp only | split)
theorem State.dup_good {Q : Claim} (s : State) (h : s.Good Q) :
    (State.dup s).Good Q := by
  unfold State.dup; try dsimp only
  repeat' (first
    | with_reducible assumption | with_reducible refine good_ite ?_ ?_ | with_reducible refine State.updRing_good _ _ ?_ | dsimp only
    | split)
theorem State.takeTc1_good {Q : Claim} (s : State) (f : Frame) (h : s.Good Q) :
    (State.takeTc1 s f).Good Q := by
  unfold State.takeTc1; try dsimp only
  repeat' (first
    | with_reducible assumption | with_reducible refine good_ite ?_ ?_ | with_reducible refine State.actTc1_good _ _ ?_ | with_reducible refine State.updRing_good _ _ ?_
    | with_reducible refine State.dup_good _ ?_ | with_reducible refine State.raise_good _ _ _ ?_ | dsimp only | split)
theorem State.actNew_good {Q : Claim} (s : State) (f : Frame) (h : s.Good Q) :
    (State.actNew s f).Good Q := by
  unfold State.actNew; try dsimp only
  repeat' (first
    | with_reducible assumption | with_reducible refine good_ite ?_ ?_ | with_reducible refine State.takeFields_good _ _ _ _ ?_ | with_reducible refine State.wkFrame_good _ ?_
    | with_reducible refine State.requestRx_good _ _ _ ?_ | with_reducible refine State.responseRx_good _ _ _ ?_ | with_reducible refine State.emit_good _ _ ?_ | with_reducible refine State.almIntake_good _ _ _ ?_
    | with_reducible refine State.noteJoin_good _ _ ?_ | dsimp only | split)
theorem State.seeRequest_good {Q : Claim} (s : State) (f : Frame) (h : s.Good Q) :
    (State.seeRequest s f).Good Q := by
  unfold State.seeRequest; try dsimp only
  repeat' (first
    | with_reducible assumption | with_reducible refine good_ite ?_ ?_ | with_reducible refine State.rollAnswer_good _ _ _ ?_ | dsimp only
    | split)
theorem State.take_good {Q : Claim} (s : State) (f : Frame) (h : s.Good Q) :
    (State.take s f).Good Q := by
  unfold State.take; try dsimp only
  repeat' (first
    | with_reducible assumption | with_reducible refine good_ite ?_ ?_ | with_reducible refine State.telegram_good _ _ _ _ ?_ | with_reducible refine State.takeTc1_good _ _ ?_
    | with_reducible refine State.actNew_good _ _ ?_ | with_reducible refine State.updRing_good _ _ ?_ | with_reducible refine State.dup_good _ ?_ | dsimp only
    | split)
theorem State.pass_good {Q : Claim} (s : State) (f : Frame) (lane : Nat) (h : s.Good Q) :
    (State.pass s f lane).Good Q := by
  unfold State.pass; try dsimp only
  repeat' (first
    | with_reducible assumption | with_reducible refine good_ite ?_ ?_ | with_reducible refine State.toLane_good _ _ _ _ ?_ | dsimp only
    | split)
theorem State.frameRx_good {Q : Claim} (s : State) (t : Nat) (lane : Nat) (l : List Byte) (h : s.Good Q) :
    (State.frameRx s t lane l).Good Q := by
  unfold State.frameRx; try dsimp only
  repeat' (first
    | with_reducible assumption | with_reducible refine good_ite ?_ ?_ | with_reducible refine State.at__good _ _ ?_ | with_reducible refine State.updRing_good _ _ ?_
    | with_reducible refine State.raise_good _ _ _ ?_ | with_reducible refine State.errOut_good _ _ _ ?_ | with_reducible refine State.hearTc0_good _ _ _ ?_ | with_reducible refine State.pass_good _ _ _ ?_
    | with_reducible refine State.foldAlarm_good _ _ ?_ | with_reducible refine State.dup_good _ ?_ | with_reducible refine State.seeRequest_good _ _ ?_ | with_reducible refine State.take_good _ _ ?_
    | with_reducible refine State.each_good _ _ _ (fun _ _ _ => ?_) ?_ | dsimp only | split)
theorem State.systemCycle_good {Q : Claim} (s : State) (h : s.Good Q) :
    (State.systemCycle s).Good Q := by
  unfold State.systemCycle; try dsimp only
  repeat' (first
    | with_reducible assumption | with_reducible refine good_ite ?_ ?_ | with_reducible refine State.updRing_good _ _ ?_ | with_reducible refine State.at__good _ _ ?_
    | with_reducible refine State.mgrCycle_good _ _ ?_ | with_reducible refine State.judgeHealth_good _ ?_ | with_reducible refine State.ageFields_good _ ?_ | with_reducible refine State.noteTc1_good _ ?_
    | with_reducible refine State.wkCycle_good _ ?_ | with_reducible refine State.almAcks_good _ ?_ | with_reducible refine State.stringCycle_good _ _ ?_ | with_reducible refine State.each_good _ _ _ (fun _ _ _ => ?_) ?_
    | dsimp only | split)
theorem State.cellCycle_good {Q : Claim} (s : State) (h : s.Good Q) :
    (State.cellCycle s).Good Q := by
  unfold State.cellCycle; try dsimp only
  repeat' (first
    | with_reducible assumption | with_reducible refine good_ite ?_ ?_ | with_reducible refine State.at__good _ _ ?_ | with_reducible refine State.applyFields_good _ ?_
    | with_reducible refine State.busTick_good _ _ ?_ | with_reducible refine State.acTick_good _ _ ?_ | with_reducible refine State.strTick_good _ _ ?_ | with_reducible refine State.latchOuts_good _ ?_
    | with_reducible refine State.wkInputs_good _ ?_ | with_reducible refine State.each_good _ _ _ (fun _ _ _ => ?_) ?_ | dsimp only | split
    | with_reducible refine good_with ?_ ?_ | exact (rfl : (_ : Fuses) = _))
theorem State.ringTx_good {Q : Claim} (s : State) (lane : Nat) (h : s.Good Q) :
    (State.ringTx s lane).Good Q := by
  unfold State.ringTx; try dsimp only
  repeat' (first
    | with_reducible assumption | with_reducible refine good_ite ?_ ?_ | with_reducible refine State.upNext_good _ ?_ | with_reducible refine State.txStart_good _ _ ?_
    | with_reducible refine State.alarmFrame_good _ ?_ | dsimp only | split)
theorem execOdRead_good {Q : Claim} (q : Req) (idx : BitVec 16) (sub : BitVec 8) (len : BitVec 16) (s : State) (h : s.Good Q) :
    ∃ s', (execOdRead q idx sub len s) = .next s' ∧ s'.Good Q := by
  refine ⟨_, rfl, ?_⟩
  repeat' (first
    | with_reducible assumption | with_reducible refine State.request_good _ _ ?_)
theorem execOdWrite_good {Q : Claim} (q : Req) (idx : BitVec 16) (sub : BitVec 8) (data : List Byte) (s : State) (h : s.Good Q) :
    ∃ s', (execOdWrite q idx sub data s) = .next s' ∧ s'.Good Q := by
  refine ⟨_, rfl, ?_⟩
  repeat' (first
    | with_reducible assumption | with_reducible refine State.writeCmd_good _ _ _ _ _ ?_)
theorem execDescribe_good {Q : Claim} (q : Req) (idx : BitVec 16) (sub : BitVec 8) (offset : BitVec 32) (len : BitVec 16) (s : State) (h : s.Good Q) :
    ∃ s', (execDescribe q idx sub offset len s) = .next s' ∧ s'.Good Q := by
  refine ⟨_, rfl, ?_⟩
  repeat' (first
    | with_reducible assumption | with_reducible refine State.request_good _ _ ?_)
theorem execReadSeg_good {Q : Claim} (q : Req) (idx : BitVec 16) (sub : BitVec 8) (snap : Bool) (offset : BitVec 32) (len : BitVec 16) (s : State) (h : s.Good Q) :
    ∃ s', (execReadSeg q idx sub snap offset len s) = .next s' ∧ s'.Good Q := by
  refine ⟨_, rfl, ?_⟩
  repeat' (first
    | with_reducible assumption | with_reducible refine State.request_good _ _ ?_)
theorem execWriteSeg_good {Q : Claim} (q : Req) (idx : BitVec 16) (sub : BitVec 8) (first : Bool) (last : Bool) (offset : BitVec 32) (data : List Byte) (s : State) (h : s.Good Q) :
    ∃ s', (execWriteSeg q idx sub first last offset data s) = .next s' ∧ s'.Good Q := by
  refine ⟨_, rfl, ?_⟩
  repeat' (first
    | with_reducible assumption | with_reducible refine State.request_good _ _ ?_)
theorem execAbortSeg_good {Q : Claim} (q : Req) (idx : BitVec 16) (sub : BitVec 8) (s : State) (h : s.Good Q) :
    ∃ s', (execAbortSeg q idx sub s) = .next s' ∧ s'.Good Q := by
  refine ⟨_, rfl, ?_⟩
  repeat' (first
    | with_reducible assumption | with_reducible refine State.request_good _ _ ?_)
theorem execHello_good {Q : Claim} (q : Req) (len : BitVec 16) (s : State) (h : s.Good Q) :
    ∃ s', (execHello q len s) = .next s' ∧ s'.Good Q := by
  refine ⟨_, rfl, ?_⟩
  repeat' (first
    | with_reducible assumption | with_reducible refine State.request_good _ _ ?_)
theorem execSegmentTimeout_good {Q : Claim} (idx : BitVec 16) (sub : BitVec 8) (s : State) (h : s.Good Q) :
    ∃ s', (execSegmentTimeout idx sub s) = .next s' ∧ s'.Good Q := by
  refine ⟨_, rfl, ?_⟩
  repeat' (first
    | with_reducible assumption | with_reducible refine State.segTimeout_good _ _ _ ?_
    | with_reducible refine State.awake_good _ _ (fun _ _ => ?_) ?_)
theorem execSnapshotRelease_good {Q : Claim} (s : State) (h : s.Good Q) :
    ∃ s', (execSnapshotRelease s) = .next s' ∧ s'.Good Q := by
  refine ⟨_, rfl, ?_⟩
  repeat' (first
    | with_reducible assumption | with_reducible refine State.snapRelease_good _ ?_
    | with_reducible refine State.awake_good _ _ (fun _ _ => ?_) ?_)
theorem execOdResponseRx_good {Q : Claim} (t : Nat) (src : Fin 1024) (p : List Byte) (s : State) (h : s.Good Q) :
    ∃ s', (execOdResponseRx t src p s) = .next s' ∧ s'.Good Q := by
  refine ⟨_, rfl, ?_⟩
  repeat' (first
    | with_reducible assumption | with_reducible refine State.responseRx_good _ _ _ ?_
    | with_reducible refine State.at__good _ _ ?_ | with_reducible refine State.awake_good _ _ (fun _ _ => ?_) ?_)
theorem execOdRemoteTmo_good {Q : Claim} (s : State) (h : s.Good Q) :
    ∃ s', (execOdRemoteTmo s) = .next s' ∧ s'.Good Q := by
  refine ⟨_, rfl, ?_⟩
  repeat' (first
    | with_reducible assumption | with_reducible refine State.remoteTmo_good _ ?_
    | with_reducible refine State.awake_good _ _ (fun _ _ => ?_) ?_)
theorem execWriteReq_good {Q : Claim} (t : Nat) (l : List Byte) (whole : Bool) (s : State) (h : s.Good Q) :
    ∃ s', (execWriteReq t l whole s) = .next s' ∧ s'.Good Q := by
  refine ⟨_, rfl, ?_⟩
  repeat' (first
    | with_reducible assumption | with_reducible refine State.spiWrite_good _ _ _ _ ?_)
theorem execReadResp_good {Q : Claim} (t : Nat) (whole : Bool) (s : State) (h : s.Good Q) :
    ∃ s', (execReadResp t whole s) = .next s' ∧ s'.Good Q := by
  refine ⟨_, rfl, ?_⟩
  repeat' (first
    | with_reducible assumption | with_reducible refine State.spiRead_good _ _ _ ?_)
theorem execReadStatus_good {Q : Claim} (t : Nat) (s : State) (h : s.Good Q) :
    ∃ s', (execReadStatus t s) = .next s' ∧ s'.Good Q := by
  refine ⟨_, rfl, ?_⟩
  repeat' (first
    | with_reducible assumption | with_reducible refine State.spiStatus_good _ _ ?_)
theorem execSpiIrqPendRead_good {Q : Claim} (q : Req) (s : State) (h : s.Good Q) :
    ∃ s', (execSpiIrqPendRead q s) = .next s' ∧ s'.Good Q := by
  refine ⟨_, rfl, ?_⟩
  repeat' (first
    | with_reducible assumption | with_reducible refine State.readCmd_good _ _ _ _ ?_)
theorem execCanBusOff_good {Q : Claim} (t : Nat) (s : State) (h : s.Good Q) :
    ∃ s', (execCanBusOff t s) = .next s' ∧ s'.Good Q := by
  refine ⟨_, rfl, ?_⟩
  repeat' (first
    | with_reducible assumption | with_reducible refine State.canBusOff_good _ _ ?_
    | with_reducible refine State.awake_good _ _ (fun _ _ => ?_) ?_)
theorem execEthLinkDown_good {Q : Claim} (t : Nat) (s : State) (h : s.Good Q) :
    ∃ s', (execEthLinkDown t s) = .next s' ∧ s'.Good Q := by
  refine ⟨_, rfl, ?_⟩
  repeat' (first
    | with_reducible assumption | with_reducible refine State.ethDown_good _ _ ?_
    | with_reducible refine State.awake_good _ _ (fun _ _ => ?_) ?_)
theorem execTrPeriodCopy_good {Q : Claim} (sig : Fin 32768) (s : State) (h : s.Good Q) :
    ∃ s', (execTrPeriodCopy sig s) = .next s' ∧ s'.Good Q := by
  refine ⟨_, rfl, ?_⟩
  repeat' (first
    | with_reducible assumption | with_reducible refine State.trCopy_good _ _ ?_
    | with_reducible refine State.awake_good _ _ (fun _ _ => ?_) ?_)
theorem execEthLinkUp_good {Q : Claim} (t : Nat) (fast : Bool) (s : State) (h : s.Good Q) :
    ∃ s', (execEthLinkUp t fast s) = .next s' ∧ s'.Good Q := by
  refine ⟨_, rfl, ?_⟩
  repeat' (first
    | with_reducible assumption | with_reducible refine State.ethComesUp_good _ _ _ ?_
    | with_reducible refine State.awake_good _ _ (fun _ _ => ?_) ?_)
theorem execCanBusOffRecovery_good {Q : Claim} (t : Nat) (s : State) (h : s.Good Q) :
    ∃ s', (execCanBusOffRecovery t s) = .next s' ∧ s'.Good Q := by
  refine ⟨_, rfl, ?_⟩
  repeat' (first
    | with_reducible assumption | with_reducible refine State.canRecover_good _ _ ?_
    | with_reducible refine State.awake_good _ _ (fun _ _ => ?_) ?_)
theorem execArpIcmpRequest_good {Q : Claim} (t : Nat) (icmp : Bool) (ip : BitVec 32) (who : Nat) (s : State) (h : s.Good Q) :
    ∃ s', (execArpIcmpRequest t icmp ip who s) = .next s' ∧ s'.Good Q := by
  refine ⟨_, rfl, ?_⟩
  repeat' (first
    | with_reducible assumption | with_reducible refine State.arpIcmp_good _ _ _ _ _ ?_)

end Sys2Proof.Machine
end

