-- ==== Sys2Proof/Laws/GoodCmdsA.lean ====
section
/-! SUPPORT. What the commands of slots, carriers, guards, measurement and loops keep, one lemma each (see Laws/Good.lean). -/

namespace Sys2Proof.Machine

theorem execStart_good {Q : Claim} (q : Req) (c : Fin 32) (mask : BitVec 6) (s : State) (h : s.Good Q) :
    ∃ s', (execStart q c mask s) = .next s' ∧ s'.Good Q := by
  refine ⟨_, rfl, ?_⟩
  repeat' (first
    | with_reducible assumption | with_reducible refine State.writeCmd_good _ _ _ _ _ ?_)
theorem execStop_good {Q : Claim} (q : Req) (c : Fin 32) (mask : BitVec 6) (s : State) (h : s.Good Q) :
    ∃ s', (execStop q c mask s) = .next s' ∧ s'.Good Q := by
  refine ⟨_, rfl, ?_⟩
  repeat' (first
    | with_reducible assumption | with_reducible refine State.writeCmd_good _ _ _ _ _ ?_)
theorem execBypass_good {Q : Claim} (q : Req) (c : Fin 32) (mask : BitVec 6) (s : State) (h : s.Good Q) :
    ∃ s', (execBypass q c mask s) = .next s' ∧ s'.Good Q := by
  refine ⟨_, rfl, ?_⟩
  repeat' (first
    | with_reducible assumption | with_reducible refine State.writeCmd_good _ _ _ _ _ ?_)
theorem execInsert_good {Q : Claim} (q : Req) (c : Fin 32) (mask : BitVec 6) (s : State) (h : s.Good Q) :
    ∃ s', (execInsert q c mask s) = .next s' ∧ s'.Good Q := by
  refine ⟨_, rfl, ?_⟩
  repeat' (first
    | with_reducible assumption | with_reducible refine State.writeCmd_good _ _ _ _ _ ?_)
theorem execClear_good {Q : Claim} (q : Req) (c : Fin 32) (mask : BitVec 6) (s : State) (h : s.Good Q) :
    ∃ s', (execClear q c mask s) = .next s' ∧ s'.Good Q := by
  refine ⟨_, rfl, ?_⟩
  repeat' (first
    | with_reducible assumption | with_reducible refine State.writeCmd_good _ _ _ _ _ ?_)
theorem execSlotTemplateWrite_good {Q : Claim} (q : Req) (c : Fin 32) (v : BitVec 8) (s : State) (h : s.Good Q) :
    ∃ s', (execSlotTemplateWrite q c v s) = .next s' ∧ s'.Good Q := by
  refine ⟨_, rfl, ?_⟩
  repeat' (first
    | with_reducible assumption | with_reducible refine State.writeCmd_good _ _ _ _ _ ?_)
theorem execAllStop_good {Q : Claim} (q : Req) (s : State) (h : s.Good Q) :
    ∃ s', (execAllStop q s) = .next s' ∧ s'.Good Q := by
  refine ⟨_, rfl, ?_⟩
  repeat' (first
    | with_reducible assumption | with_reducible refine State.writeCmd_good _ _ _ _ _ ?_)
theorem execUnitLoopBind_good {Q : Claim} (q : Req) (c : Fin 32) (u : Fin 6) (v : BitVec 8) (s : State) (h : s.Good Q) :
    ∃ s', (execUnitLoopBind q c u v s) = .next s' ∧ s'.Good Q := by
  refine ⟨_, rfl, ?_⟩
  repeat' (first
    | with_reducible assumption | with_reducible refine State.writeCmd_good _ _ _ _ _ ?_)
theorem execSafeoffStep_good {Q : Claim} (c : Fin 32) (u : Fin 6) (s : State) (h : s.Good Q) :
    ∃ s', (execSafeoffStep c u s) = .next s' ∧ s'.Good Q := by
  refine ⟨_, rfl, ?_⟩
  repeat' (first
    | with_reducible assumption | with_reducible refine State.settleReset_good _ ?_
    | with_reducible refine State.seqStepDue_good _ _ _ ?_
    | with_reducible refine State.awake_good _ _ (fun _ _ => ?_) ?_)
theorem execCarRunStart_good {Q : Claim} (q : Req) (k : Fin 64) (s : State) (h : s.Good Q) :
    ∃ s', (execCarRunStart q k s) = .next s' ∧ s'.Good Q := by
  refine ⟨_, rfl, ?_⟩
  repeat' (first
    | with_reducible assumption | with_reducible refine State.writeCmd_good _ _ _ _ _ ?_)
theorem execCarRunStop_good {Q : Claim} (q : Req) (k : Fin 64) (s : State) (h : s.Good Q) :
    ∃ s', (execCarRunStop q k s) = .next s' ∧ s'.Good Q := by
  refine ⟨_, rfl, ?_⟩
  repeat' (first
    | with_reducible assumption | with_reducible refine State.writeCmd_good _ _ _ _ _ ?_)
theorem execCarrierStart_good {Q : Claim} (k : Fin 64) (s : State) (h : s.Good Q) :
    ∃ s', (execCarrierStart k s) = .next s' ∧ s'.Good Q := by
  refine ⟨_, rfl, ?_⟩
  repeat' (first
    | with_reducible assumption | with_reducible refine State.settleReset_good _ ?_
    | with_reducible refine State.carrierStart_good _ _ ?_
    | with_reducible refine State.awake_good _ _ (fun _ _ => ?_) ?_)
theorem execCarrierValley_good {Q : Claim} (k : Fin 64) (s : State) (h : s.Good Q) :
    ∃ s', (execCarrierValley k s) = .next s' ∧ s'.Good Q := by
  refine ⟨_, rfl, ?_⟩
  repeat' (first
    | with_reducible assumption | with_reducible refine State.settleReset_good _ ?_
    | with_reducible refine State.carrierValley_good _ _ ?_
    | with_reducible refine State.awake_good _ _ (fun _ _ => ?_) ?_)
theorem execCarrierPeak_good {Q : Claim} (k : Fin 64) (s : State) (h : s.Good Q) :
    ∃ s', (execCarrierPeak k s) = .next s' ∧ s'.Good Q := by
  refine ⟨_, rfl, ?_⟩
  repeat' (first
    | with_reducible assumption | with_reducible refine State.settleReset_good _ ?_
    | with_reducible refine State.carrierPeak_good _ _ ?_
    | with_reducible refine State.awake_good _ _ (fun _ _ => ?_) ?_)
theorem execCarCommit_good {Q : Claim} (q : Req) (k : Fin 64) (s : State) (h : s.Good Q) :
    ∃ s', (execCarCommit q k s) = .next s' ∧ s'.Good Q := by
  refine ⟨_, rfl, ?_⟩
  repeat' (first
    | with_reducible assumption | with_reducible refine State.writeCmd_good _ _ _ _ _ ?_)
theorem execCarCommitDiscard_good {Q : Claim} (q : Req) (k : Fin 64) (s : State) (h : s.Good Q) :
    ∃ s', (execCarCommitDiscard q k s) = .next s' ∧ s'.Good Q := by
  refine ⟨_, rfl, ?_⟩
  repeat' (first
    | with_reducible assumption | with_reducible refine State.writeCmd_good _ _ _ _ _ ?_)
theorem execLegOwnPeak_good {Q : Claim} (l : Fin 192) (s : State) (h : s.Good Q) :
    ∃ s', (execLegOwnPeak l s) = .next s' ∧ s'.Good Q := by
  refine ⟨_, rfl, ?_⟩
  repeat' (first
    | with_reducible assumption | with_reducible refine State.legOwnPeak_good _ _ ?_
    | with_reducible refine State.awake_good _ _ (fun _ _ => ?_) ?_)
theorem execLegOwnValley_good {Q : Claim} (l : Fin 192) (s : State) (h : s.Good Q) :
    ∃ s', (execLegOwnValley l s) = .next s' ∧ s'.Good Q := by
  refine ⟨_, rfl, ?_⟩
  repeat' (first
    | with_reducible assumption | with_reducible refine State.legOwnValley_good _ _ ?_
    | with_reducible refine State.awake_good _ _ (fun _ _ => ?_) ?_)
theorem execLegCommandEdge_good {Q : Claim} (l : Fin 192) (s : State) (h : s.Good Q) :
    ∃ s', (execLegCommandEdge l s) = .next s' ∧ s'.Good Q := by
  refine ⟨_, rfl, ?_⟩
  repeat' (first
    | with_reducible assumption | with_reducible refine State.legEdge_good _ _ ?_
    | with_reducible refine State.awake_good _ _ (fun _ _ => ?_) ?_)
theorem execForceNone_good {Q : Claim} (q : Req) (l : Fin 192) (imm : Bool) (s : State) (h : s.Good Q) :
    ∃ s', (execForceNone q l imm s) = .next s' ∧ s'.Good Q := by
  refine ⟨_, rfl, ?_⟩
  repeat' (first
    | with_reducible assumption | with_reducible refine State.writeCmd_good _ _ _ _ _ ?_)
theorem execForceOff_good {Q : Claim} (q : Req) (l : Fin 192) (imm : Bool) (s : State) (h : s.Good Q) :
    ∃ s', (execForceOff q l imm s) = .next s' ∧ s'.Good Q := by
  refine ⟨_, rfl, ?_⟩
  repeat' (first
    | with_reducible assumption | with_reducible refine State.writeCmd_good _ _ _ _ _ ?_)
theorem execForceUpper_good {Q : Claim} (q : Req) (l : Fin 192) (imm : Bool) (s : State) (h : s.Good Q) :
    ∃ s', (execForceUpper q l imm s) = .next s' ∧ s'.Good Q := by
  refine ⟨_, rfl, ?_⟩
  repeat' (first
    | with_reducible assumption | with_reducible refine State.writeCmd_good _ _ _ _ _ ?_)
theorem execForceLower_good {Q : Claim} (q : Req) (l : Fin 192) (imm : Bool) (s : State) (h : s.Good Q) :
    ∃ s', (execForceLower q l imm s) = .next s' ∧ s'.Good Q := by
  refine ⟨_, rfl, ?_⟩
  repeat' (first
    | with_reducible assumption | with_reducible refine State.writeCmd_good _ _ _ _ _ ?_)
theorem execForceRaw_good {Q : Claim} (q : Req) (l : Fin 192) (imm : Bool) (gh : Bool) (gl : Bool) (s : State) (h : s.Good Q) :
    ∃ s', (execForceRaw q l imm gh gl s) = .next s' ∧ s'.Good Q := by
  refine ⟨_, rfl, ?_⟩
  repeat' (first
    | with_reducible assumption | with_reducible refine State.writeCmd_good _ _ _ _ _ ?_)
theorem execBootRefreshEnd_good {Q : Claim} (l : Fin 192) (s : State) (h : s.Good Q) :
    ∃ s', (execBootRefreshEnd l s) = .next s' ∧ s'.Good Q := by
  refine ⟨_, rfl, ?_⟩
  repeat' (first
    | with_reducible assumption | with_reducible refine State.bootEnd_good _ _ ?_
    | with_reducible refine State.awake_good _ _ (fun _ _ => ?_) ?_)
theorem execPklCut_good {Q : Claim} (src : BitVec 8) (stream : List Bool) (v : Int) (t : Nat) (s : State) (h : s.Good Q) :
    ∃ s', (execPklCut src stream v t s) = .next s' ∧ s'.Good Q := by
  refine ⟨_, rfl, ?_⟩
  repeat' (first
    | with_reducible assumption | with_reducible refine State.pklCut_good _ _ _ _ _ ?_
    | with_reducible refine State.awake_good _ _ (fun _ _ => ?_) ?_)
theorem execPwmParityError_good {Q : Claim} (t : Nat) (carrier : Bool) (i : Fin 192) (s : State) (h : s.Good Q) :
    ∃ s', (execPwmParityError t carrier i s) = .next s' ∧ s'.Good Q := by
  refine ⟨_, rfl, ?_⟩
  repeat' (first
    | with_reducible assumption | with_reducible refine State.pwmParity_good _ _ _ ?_
    | with_reducible refine State.upTo_good _ _ ?_ | with_reducible refine State.awake_good _ _ (fun _ _ => ?_) ?_)
theorem execClkPwmMissing_good {Q : Claim} (t : Nat) (s : State) (h : s.Good Q) :
    ∃ s', (execClkPwmMissing t s) = .next s' ∧ s'.Good Q := by
  refine ⟨_, rfl, ?_⟩
  repeat' (first
    | with_reducible assumption | with_reducible refine State.settleReset_good _ ?_
    | with_reducible refine State.pwmLost_good _ ?_ | with_reducible refine State.upTo_good _ _ ?_
    | with_reducible refine State.awake_good _ _ (fun _ _ => ?_) ?_)
theorem execGateRelease_good {Q : Claim} (l : Fin 192) (gh : Bool) (s : State) (ht : Q.top l.val gh = true) (h : s.Good Q) :
    ∃ t, execGateRelease l gh s = .next t ∧ t.Good Q := by
  refine ⟨_, rfl, ?_⟩
  exact State.awake_good _ _ (fun _ h => State.gateRelease_good _ _ _ ht h) h
theorem execSnTransition_good {Q : Claim} (l : Fin 192) (t : Nat) (high : Bool) (s : State) (h : s.Good Q) :
    ∃ s', (execSnTransition l t high s) = .next s' ∧ s'.Good Q := by
  refine ⟨_, rfl, ?_⟩
  repeat' (first
    | with_reducible assumption | with_reducible refine State.snTransition_good _ _ _ _ ?_
    | with_reducible refine State.awake_good _ _ (fun _ _ => ?_) ?_)
theorem execSnConfirmExpiry_good {Q : Claim} (l : Fin 192) (s : State) (h : s.Good Q) :
    ∃ s', (execSnConfirmExpiry l s) = .next s' ∧ s'.Good Q := by
  refine ⟨_, rfl, ?_⟩
  repeat' (first
    | with_reducible assumption | with_reducible refine State.snExpiry_good _ _ ?_
    | with_reducible refine State.awake_good _ _ (fun _ _ => ?_) ?_)
theorem execGgDtWrite_good {Q : Claim} (q : Req) (l : Fin 192) (which : Fin 6) (v : BitVec 16) (s : State) (h : s.Good Q) :
    ∃ s', (execGgDtWrite q l which v s) = .next s' ∧ s'.Good Q := by
  refine ⟨_, rfl, ?_⟩
  repeat' (first
    | with_reducible assumption | with_reducible refine State.writeCmd_good _ _ _ _ _ ?_)
theorem execFkAssert_good {Q : Claim} (l : Fin 192) (t : Nat) (s : State) (h : s.Good Q) :
    ∃ s', (execFkAssert l t s) = .next s' ∧ s'.Good Q := by
  refine ⟨_, rfl, ?_⟩
  repeat' (first
    | with_reducible assumption | with_reducible refine State.fkAssert_good _ _ _ ?_
    | with_reducible refine State.at__good _ _ ?_ | with_reducible refine State.updGg_good _ _ _ ?_ ?_
    | exact lowers_of (fun _ => rfl) (fun _ => rfl) (fun g h => by simp only [Bool.or_eq_false_iff] at h ⊢; simp [h])
    | split)
theorem execFkRelease_good {Q : Claim} (l : Fin 192) (t : Nat) (s : State) (h : s.Good Q) :
    ∃ s', (execFkRelease l t s) = .next s' ∧ s'.Good Q := by
  refine ⟨_, rfl, ?_⟩
  repeat' (first
    | with_reducible assumption | with_reducible refine State.fkRelease_good _ _ _ ?_
    | with_reducible refine State.at__good _ _ ?_ | with_reducible refine State.updGg_good _ _ _ ?_ ?_
    | exact lowers_of (fun _ => rfl) (fun _ => rfl) (fun g h => by simp only [Bool.or_eq_false_iff] at h ⊢; simp [h])
    | split)
theorem execFkDecision_good {Q : Claim} (l : Fin 192) (s : State) (h : s.Good Q) :
    ∃ s', (execFkDecision l s) = .next s' ∧ s'.Good Q := by
  refine ⟨_, rfl, ?_⟩
  repeat' (first
    | with_reducible assumption | with_reducible refine State.fkDecision_good _ _ ?_
    | with_reducible refine State.awake_good _ _ (fun _ _ => ?_) ?_)
theorem execFkHard_good {Q : Claim} (l : Fin 192) (s : State) (h : s.Good Q) :
    ∃ s', (execFkHard l s) = .next s' ∧ s'.Good Q := by
  refine ⟨_, rfl, ?_⟩
  repeat' (first
    | with_reducible assumption | with_reducible refine State.fkHard_good _ _ ?_
    | with_reducible refine State.awake_good _ _ (fun _ _ => ?_) ?_)
theorem execBlankingEnd_good {Q : Claim} (l : Fin 192) (s : State) (h : s.Good Q) :
    ∃ s', (execBlankingEnd l s) = .next s' ∧ s'.Good Q := by
  refine ⟨_, rfl, ?_⟩
  repeat' (first
    | with_reducible assumption | with_reducible refine State.blankingEnd_good _ _ ?_
    | with_reducible refine State.awake_good _ _ (fun _ _ => ?_) ?_)
theorem execSupplyWakeExpiry_good {Q : Claim} (l : Fin 192) (s : State) (h : s.Good Q) :
    ∃ s', (execSupplyWakeExpiry l s) = .next s' ∧ s'.Good Q := by
  refine ⟨_, rfl, ?_⟩
  repeat' (first
    | with_reducible assumption | with_reducible refine State.supplyExpiry_good _ _ ?_
    | with_reducible refine State.awake_good _ _ (fun _ _ => ?_) ?_)
theorem execGgParityError_good {Q : Claim} (t : Nat) (w : GuardWord) (s : State) (h : s.Good Q) :
    ∃ s', (execGgParityError t w s) = .next s' ∧ s'.Good Q := by
  refine ⟨_, rfl, ?_⟩
  repeat' (first
    | with_reducible assumption | with_reducible refine State.ggParity_good _ _ _ ?_
    | with_reducible refine State.upTo_good _ _ ?_ | with_reducible refine State.awake_good _ _ (fun _ _ => ?_) ?_)
theorem execSafeoffRecordRx_good {Q : Claim} (t : Nat) (node : Fin 1024) (id : BitVec 16) (slot : Fin 32) (die : Bool) (t0 : BitVec 112) (s : State) (h : s.Good Q) :
    ∃ s', (execSafeoffRecordRx t node id slot die t0 s) = .next s' ∧ s'.Good Q := by
  refine ⟨_, rfl, ?_⟩
  repeat' (first
    | with_reducible assumption | with_reducible refine State.stringRecord_good _ _ _ _ _ _ _ ?_
    | with_reducible refine State.at__good _ _ ?_ | with_reducible refine State.awake_good _ _ (fun _ _ => ?_) ?_)
theorem execSafeoffRecordExpiry_good {Q : Claim} (s : State) (h : s.Good Q) :
    ∃ s', (execSafeoffRecordExpiry s) = .next s' ∧ s'.Good Q := by
  refine ⟨_, rfl, ?_⟩
  repeat' (first
    | with_reducible assumption | with_reducible refine State.recordExpiry_good _ ?_
    | with_reducible refine State.awake_good _ _ (fun _ _ => ?_) ?_)
theorem execStringTripRecordRx_good {Q : Claim} (t : Nat) (node : Fin 1024) (id : BitVec 16) (s : State) (h : s.Good Q) :
    ∃ s', (execStringTripRecordRx t node id s) = .next s' ∧ s'.Good Q := by
  refine ⟨_, rfl, ?_⟩
  repeat' (first
    | with_reducible assumption | with_reducible refine State.stringRecord_good _ _ _ _ _ _ _ ?_
    | with_reducible refine State.at__good _ _ ?_ | with_reducible refine State.awake_good _ _ (fun _ _ => ?_) ?_)
theorem execStoAssert_good {Q : Claim} (g : Fin 2) (t : Nat) (width : Nat) (s : State) (h : s.Good Q) :
    ∃ s', (execStoAssert g t width s) = .next s' ∧ s'.Good Q := by
  refine ⟨_, rfl, ?_⟩
  repeat' (first
    | with_reducible assumption | with_reducible refine State.stoAssert_good _ _ _ _ ?_
    | with_reducible refine State.stoPinLow_good _ _ _ _ ?_ | split)
theorem execStoRelease_good {Q : Claim} (g : Fin 2) (t : Nat) (s : State) (h : s.Good Q) :
    ∃ s', (execStoRelease g t s) = .next s' ∧ s'.Good Q := by
  refine ⟨_, rfl, ?_⟩
  repeat' (first
    | with_reducible assumption | with_reducible refine State.stoRelease_good _ _ _ ?_
    | with_reducible refine State.updPin_good _ _ _ ?_ | with_reducible refine State.at__good _ _ ?_ | split)
theorem execMdCtrlWrite_good {Q : Claim} (q : Req) (m : Fin 96) (which : Fin 4) (v : BitVec 16) (s : State) (h : s.Good Q) :
    ∃ s', (execMdCtrlWrite q m which v s) = .next s' ∧ s'.Good Q := by
  refine ⟨_, rfl, ?_⟩
  repeat' (first
    | with_reducible assumption | with_reducible refine State.writeCmd_good _ _ _ _ _ ?_)
theorem execMdTimingViolation_good {Q : Claim} (m : Fin 96) (t : Nat) (s : State) (h : s.Good Q) :
    ∃ s', (execMdTimingViolation m t s) = .next s' ∧ s'.Good Q := by
  refine ⟨_, rfl, ?_⟩
  repeat' (first
    | with_reducible assumption | with_reducible refine State.mdViolation_good _ _ _ ?_
    | with_reducible refine State.awake_good _ _ (fun _ _ => ?_) ?_)
theorem execMdClockRecover_good {Q : Claim} (m : Fin 96) (s : State) (h : s.Good Q) :
    ∃ s', (execMdClockRecover m s) = .next s' ∧ s'.Good Q := by
  refine ⟨_, rfl, ?_⟩
  repeat' (first
    | with_reducible assumption | with_reducible refine State.mdRecover_good _ _ ?_
    | with_reducible refine State.awake_good _ _ (fun _ _ => ?_) ?_)
theorem execMdRunLimit_good {Q : Claim} (m : Fin 96) (t : Nat) (run : Nat) (s : State) (h : s.Good Q) :
    ∃ s', (execMdRunLimit m t run s) = .next s' ∧ s'.Good Q := by
  refine ⟨_, rfl, ?_⟩
  repeat' (first
    | with_reducible assumption | with_reducible refine State.mdRun_good _ _ _ _ ?_
    | with_reducible refine State.awake_good _ _ (fun _ _ => ?_) ?_)
theorem execMdFilterFilled_good {Q : Claim} (m : Fin 96) (t : Nat) (ctrl : Bool) (s : State) (h : s.Good Q) :
    ∃ s', (execMdFilterFilled m t ctrl s) = .next s' ∧ s'.Good Q := by
  refine ⟨_, rfl, ?_⟩
  repeat' (first
    | with_reducible assumption | with_reducible refine State.mdFilled_good _ _ _ _ ?_
    | with_reducible refine State.awake_good _ _ (fun _ _ => ?_) ?_)
theorem execMdTrip_good {Q : Claim} (m : Fin 96) (t : Nat) (stream : List Bool) (s : State) (h : s.Good Q) :
    ∃ s', (execMdTrip m t stream s) = .next s' ∧ s'.Good Q := by
  refine ⟨_, rfl, ?_⟩
  repeat' (first
    | with_reducible assumption | with_reducible refine State.mdTrip_good _ _ _ _ ?_
    | with_reducible refine State.awake_good _ _ (fun _ _ => ?_) ?_)
theorem execMdTripRelease_good {Q : Claim} (m : Fin 96) (t : Nat) (stream : List Bool) (s : State) (h : s.Good Q) :
    ∃ s', (execMdTripRelease m t stream s) = .next s' ∧ s'.Good Q := by
  refine ⟨_, rfl, ?_⟩
  repeat' (first
    | with_reducible assumption | with_reducible refine State.mdTripEnd_good _ _ _ _ ?_
    | with_reducible refine State.awake_good _ _ (fun _ _ => ?_) ?_)
theorem execMdCtrlOutput_good {Q : Claim} (stream : List Bool) (s : State) (h : s.Good Q) :
    ∃ s', (execMdCtrlOutput stream s) = .next s' ∧ s'.Good Q := by
  refine ⟨_, rfl, ?_⟩
  repeat' (first
    | with_reducible assumption | with_reducible refine State.mdOutput_good _ _ ?_
    | with_reducible refine State.awake_good _ _ (fun _ _ => ?_) ?_)
theorem execTrgSample_good {Q : Claim} (s : State) (h : s.Good Q) :
    ∃ s', (execTrgSample s) = .next s' ∧ s'.Good Q := by
  refine ⟨_, rfl, ?_⟩
  repeat' (first
    | with_reducible assumption | with_reducible refine State.trgSample_good _ ?_
    | with_reducible refine State.awake_good _ _ (fun _ _ => ?_) ?_)
theorem execSarConversionDone_good {Q : Claim} (codes : List Int) (s : State) (h : s.Good Q) :
    ∃ s', (execSarConversionDone codes s) = .next s' ∧ s'.Good Q := by
  refine ⟨_, rfl, ?_⟩
  repeat' (first
    | with_reducible assumption | with_reducible refine State.sarDone_good _ _ ?_
    | with_reducible refine State.awake_good _ _ (fun _ _ => ?_) ?_)
theorem execSliceStreamUpdate_good {Q : Claim} (i : Fin 8) (e : Int) (o : Int) (e2 : Int) (s : State) (h : s.Good Q) :
    ∃ s', (execSliceStreamUpdate i e o e2 s) = .next s' ∧ s'.Good Q := by
  refine ⟨_, rfl, ?_⟩
  repeat' (first
    | with_reducible assumption | with_reducible refine State.streamUpdate_good _ _ _ _ _ ?_
    | with_reducible refine State.awake_good _ _ (fun _ _ => ?_) ?_)
theorem execSliceConverged_good {Q : Claim} (i : Fin 8) (skew : Bool) (s : State) (h : s.Good Q) :
    ∃ s', (execSliceConverged i skew s) = .next s' ∧ s'.Good Q := by
  refine ⟨_, rfl, ?_⟩
  repeat' (first
    | with_reducible assumption | with_reducible refine State.streamConverged_good _ _ _ ?_
    | with_reducible refine State.awake_good _ _ (fun _ _ => ?_) ?_)
theorem execQueueEntry_good {Q : Claim} (s : State) (h : s.Good Q) :
    ∃ s', (execQueueEntry s) = .next s' ∧ s'.Good Q := by
  refine ⟨_, rfl, ?_⟩
  repeat' (first
    | with_reducible assumption | with_reducible refine State.queueEntry_good _ ?_
    | with_reducible refine State.awake_good _ _ (fun _ _ => ?_) ?_)
theorem execQHostPop_good {Q : Claim} (q : Req) (s : State) (h : s.Good Q) :
    ∃ s', (execQHostPop q s) = .next s' ∧ s'.Good Q := by
  refine ⟨_, rfl, ?_⟩
  repeat' (first
    | with_reducible assumption | with_reducible refine State.readCmd_good _ _ _ _ ?_)
theorem execQHostAgeExpiry_good {Q : Claim} (s : State) (h : s.Good Q) :
    ∃ s', (execQHostAgeExpiry s) = .next s' ∧ s'.Good Q := by
  refine ⟨_, rfl, ?_⟩
  repeat' (first
    | with_reducible assumption | with_reducible refine State.ageHost_good _ ?_
    | with_reducible refine State.awake_good _ _ (fun _ _ => ?_) ?_)
theorem execQClr_good {Q : Claim} (q : Req) (s : State) (h : s.Good Q) :
    ∃ s', (execQClr q s) = .next s' ∧ s'.Good Q := by
  refine ⟨_, rfl, ?_⟩
  repeat' (first
    | with_reducible assumption | with_reducible refine State.writeCmd_good _ _ _ _ _ ?_)
theorem State.afterRuns_good {Q : Claim} (s0 : State) (s : State) (h : s0.Good Q) (h1 : s.Good Q) :
    (State.afterRuns s0 s).Good Q := by
  unfold State.afterRuns; try dsimp only
  repeat' (first
    | with_reducible assumption | with_reducible refine State.afterRun_good _ _ _ ?_ ?_
    | with_reducible refine State.each_good _ _ _ (fun _ _ _ => ?_) ?_)
theorem execLoopQueueIntake_good {Q : Claim} (s : State) (h : s.Good Q) :
    ∃ s', (execLoopQueueIntake s) = .next s' ∧ s'.Good Q := by
  refine ⟨_, rfl, ?_⟩
  repeat' (first
    | with_reducible assumption | with_reducible refine State.intake_good _ ?_
    | with_reducible refine State.awake_good _ _ (fun _ _ => ?_) ?_)
theorem execLsProgramWrite_good {Q : Claim} (q : Req) (n : Fin 128) (img : List Byte) (s : State) (h : s.Good Q) :
    ∃ s', (execLsProgramWrite q n img s) = .next s' ∧ s'.Good Q := by
  refine ⟨_, rfl, ?_⟩
  repeat' (first
    | with_reducible assumption | with_reducible refine State.writeWhole_good _ _ _ _ _ ?_)
theorem execLsRun_good {Q : Claim} (q : Req) (n : Fin 128) (s : State) (h : s.Good Q) :
    ∃ s', (execLsRun q n s) = .next s' ∧ s'.Good Q := by
  refine ⟨_, rfl, ?_⟩
  repeat' (first
    | with_reducible assumption | with_reducible refine State.writeCmd_good _ _ _ _ _ ?_)
theorem execLsStop_good {Q : Claim} (q : Req) (n : Fin 128) (s : State) (h : s.Good Q) :
    ∃ s', (execLsStop q n s) = .next s' ∧ s'.Good Q := by
  refine ⟨_, rfl, ?_⟩
  repeat' (first
    | with_reducible assumption | with_reducible refine State.writeCmd_good _ _ _ _ _ ?_)
theorem execLsHold_good {Q : Claim} (q : Req) (n : Fin 128) (s : State) (h : s.Good Q) :
    ∃ s', (execLsHold q n s) = .next s' ∧ s'.Good Q := by
  refine ⟨_, rfl, ?_⟩
  repeat' (first
    | with_reducible assumption | with_reducible refine State.writeCmd_good _ _ _ _ _ ?_)
theorem execLsResume_good {Q : Claim} (q : Req) (n : Fin 128) (s : State) (h : s.Good Q) :
    ∃ s', (execLsResume q n s) = .next s' ∧ s'.Good Q := by
  refine ⟨_, rfl, ?_⟩
  repeat' (first
    | with_reducible assumption | with_reducible refine State.writeCmd_good _ _ _ _ _ ?_)
theorem execLsUnload_good {Q : Claim} (q : Req) (n : Fin 128) (s : State) (h : s.Good Q) :
    ∃ s', (execLsUnload q n s) = .next s' ∧ s'.Good Q := by
  refine ⟨_, rfl, ?_⟩
  repeat' (first
    | with_reducible assumption | with_reducible refine State.writeCmd_good _ _ _ _ _ ?_)
theorem execLsRunReady_good {Q : Claim} (n : Fin 128) (s : State) (h : s.Good Q) :
    ∃ s', (execLsRunReady n s) = .next s' ∧ s'.Good Q := by
  refine ⟨_, rfl, ?_⟩
  repeat' (first
    | with_reducible assumption | with_reducible refine State.runReady_good _ _ ?_
    | with_reducible refine State.awake_good _ _ (fun _ _ => ?_) ?_)
theorem execLsInTimeout_good {Q : Claim} (n : Fin 128) (s : State) (h : s.Good Q) :
    ∃ s', (execLsInTimeout n s) = .next s' ∧ s'.Good Q := by
  refine ⟨_, rfl, ?_⟩
  repeat' (first
    | with_reducible assumption | with_reducible refine State.inTimeout_good _ _ ?_
    | with_reducible refine State.awake_good _ _ (fun _ _ => ?_) ?_)
theorem execLsRunStart_good {Q : Claim} (p : Fin 4) (s : State) (h : s.Good Q) :
    ∃ s', (execLsRunStart p s) = .next s' ∧ s'.Good Q := by
  refine ⟨_, rfl, ?_⟩
  repeat' (first
    | with_reducible assumption | with_reducible refine State.takePipe_good _ _ ?_
    | with_reducible refine State.awake_good _ _ (fun _ _ => ?_) ?_)
theorem execLsRunEnd_good {Q : Claim} (n : Fin 128) (s : State) (h : s.Good Q) :
    ∃ s', (execLsRunEnd n s) = .next s' ∧ s'.Good Q := by
  refine ⟨_, rfl, ?_⟩
  repeat' (first
    | with_reducible assumption | with_reducible refine State.afterRuns_good _ _ ?_ ?_
    | with_reducible refine State.endRun_good _ _ ?_
    | with_reducible refine State.awake_good _ _ (fun _ _ => ?_) ?_)
theorem execLegDelivery_good {Q : Claim} (s : State) (h : s.Good Q) :
    ∃ s', (execLegDelivery s) = .next s' ∧ s'.Good Q := by
  refine ⟨_, rfl, ?_⟩
  repeat' (first
    | with_reducible assumption | with_reducible refine State.deliver_good _ ?_
    | with_reducible refine State.awake_good _ _ (fun _ _ => ?_) ?_)
theorem execLsDeadline_good {Q : Claim} (n : Fin 128) (s : State) (h : s.Good Q) :
    ∃ s', (execLsDeadline n s) = .next s' ∧ s'.Good Q := by
  refine ⟨_, rfl, ?_⟩
  repeat' (first
    | with_reducible assumption | with_reducible refine State.deadline_good _ _ ?_
    | with_reducible refine State.awake_good _ _ (fun _ _ => ?_) ?_)
theorem execLsBankSwap_good {Q : Claim} (q : Req) (n : Fin 128) (s : State) (h : s.Good Q) :
    ∃ s', (execLsBankSwap q n s) = .next s' ∧ s'.Good Q := by
  refine ⟨_, rfl, ?_⟩
  repeat' (first
    | with_reducible assumption | with_reducible refine State.writeCmd_good _ _ _ _ _ ?_)
theorem execLsCoefImageWrite_good {Q : Claim} (q : Req) (n : Fin 128) (img : List Byte) (s : State) (h : s.Good Q) :
    ∃ s', (execLsCoefImageWrite q n img s) = .next s' ∧ s'.Good Q := by
  refine ⟨_, rfl, ?_⟩
  repeat' (first
    | with_reducible assumption | with_reducible refine State.writeWhole_good _ _ _ _ _ ?_)
theorem execLsCoefWordWrite_good {Q : Claim} (q : Req) (n : Fin 128) (v : BitVec 32) (s : State) (h : s.Good Q) :
    ∃ s', (execLsCoefWordWrite q n v s) = .next s' ∧ s'.Good Q := by
  refine ⟨_, rfl, ?_⟩
  repeat' (first
    | with_reducible assumption | with_reducible refine State.writeCmd_good _ _ _ _ _ ?_)
theorem execLsCoefDirect_good {Q : Claim} (q : Req) (n : Fin 128) (w : BitVec 16) (v : BitVec 32) (s : State) (h : s.Good Q) :
    ∃ s', (execLsCoefDirect q n w v s) = .next s' ∧ s'.Good Q := by
  refine ⟨_, rfl, ?_⟩
  repeat' (first
    | with_reducible assumption | with_reducible refine State.writeCmd_good _ _ _ _ _ ?_)
theorem execLsInValWrite_good {Q : Claim} (q : Req) (n : Fin 128) (i : Fin 16) (v : BitVec 32) (s : State) (h : s.Good Q) :
    ∃ s', (execLsInValWrite q n i v s) = .next s' ∧ s'.Good Q := by
  refine ⟨_, rfl, ?_⟩
  repeat' (first
    | with_reducible assumption | with_reducible refine State.writeCmd_good _ _ _ _ _ ?_)
theorem execLoopEccError_good {Q : Claim} (t : Nat) (n : Fin 128) (corrected : Bool) (s : State) (h : s.Good Q) :
    ∃ s', (execLoopEccError t n corrected s) = .next s' ∧ s'.Good Q := by
  refine ⟨_, rfl, ?_⟩
  repeat' (first
    | with_reducible assumption | with_reducible refine State.eccCard_good _ _ ?_
    | with_reducible refine State.loopEcc_good _ _ _ ?_ | with_reducible refine State.at__good _ _ ?_
    | with_reducible refine State.awake_good _ _ (fun _ _ => ?_) ?_)
theorem execRaCommitStage_good {Q : Claim} (p : Fin 4) (s : State) (h : s.Good Q) :
    ∃ s', (execRaCommitStage p s) = .next s' ∧ s'.Good Q := by
  refine ⟨_, rfl, ?_⟩
  repeat' (first
    | with_reducible assumption | with_reducible refine State.afterRuns_good _ _ ?_ ?_
    | with_reducible refine State.commitStage_good _ _ ?_
    | with_reducible refine State.awake_good _ _ (fun _ _ => ?_) ?_)
theorem execRaTLate_good {Q : Claim} (n : Fin 128) (s : State) (h : s.Good Q) :
    ∃ s', (execRaTLate n s) = .next s' ∧ s'.Good Q := by
  refine ⟨_, rfl, ?_⟩
  repeat' (first
    | with_reducible assumption | with_reducible refine State.late_good _ _ ?_
    | with_reducible refine State.awake_good _ _ (fun _ _ => ?_) ?_)

end Sys2Proof.Machine
end

