-- ==== Sys2Proof/Laws/GoodCmdsB.lean ====
section
/-! SUPPORT. What the commands of strings, LV, feedback, thermal, faults and safety keep, one lemma each (see Laws/Good.lean). -/

namespace Sys2Proof.Machine

theorem execCellCycleBoundary_good {Q : Claim} (s : State) (h : s.Good Q) :
    ∃ s', (execCellCycleBoundary s) = .next s' ∧ s'.Good Q := by
  refine ⟨_, rfl, ?_⟩
  repeat' (first
    | with_reducible assumption | with_reducible refine State.cellCycle_good _ ?_
    | with_reducible refine State.awake_good _ _ (fun _ _ => ?_) ?_)
theorem execPrecharge_good {Q : Claim} (q : Req) (i : Fin 32) (s : State) (h : s.Good Q) :
    ∃ s', (execPrecharge q i s) = .next s' ∧ s'.Good Q := by
  refine ⟨_, rfl, ?_⟩
  repeat' (first
    | with_reducible assumption | with_reducible refine State.writeCmd_good _ _ _ _ _ ?_)
theorem execMainClosed_good {Q : Claim} (q : Req) (i : Fin 32) (s : State) (h : s.Good Q) :
    ∃ s', (execMainClosed q i s) = .next s' ∧ s'.Good Q := by
  refine ⟨_, rfl, ?_⟩
  repeat' (first
    | with_reducible assumption | with_reducible refine State.writeCmd_good _ _ _ _ _ ?_)
theorem execStrStop_good {Q : Claim} (q : Req) (i : Fin 32) (s : State) (h : s.Good Q) :
    ∃ s', (execStrStop q i s) = .next s' ∧ s'.Good Q := by
  refine ⟨_, rfl, ?_⟩
  repeat' (first
    | with_reducible assumption | with_reducible refine State.writeCmd_good _ _ _ _ _ ?_)
theorem execStrClear_good {Q : Claim} (q : Req) (i : Fin 32) (s : State) (h : s.Good Q) :
    ∃ s', (execStrClear q i s) = .next s' ∧ s'.Good Q := by
  refine ⟨_, rfl, ?_⟩
  repeat' (first
    | with_reducible assumption | with_reducible refine State.writeCmd_good _ _ _ _ _ ?_)
theorem execStrCmdApply_good {Q : Claim} (i : Fin 32) (s : State) (h : s.Good Q) :
    ∃ s', (execStrCmdApply i s) = .next s' ∧ s'.Good Q := by
  refine ⟨_, rfl, ?_⟩
  repeat' (first
    | with_reducible assumption | with_reducible refine State.strApply_good _ _ ?_
    | with_reducible refine State.awake_good _ _ (fun _ _ => ?_) ?_)
theorem execStringRecordRx_good {Q : Claim} (t : Nat) (node : Fin 1024) (kind : Fin 4) (id : BitVec 16) (cmd : BitVec 8) (apply : BitVec 112) (s : State) (h : s.Good Q) :
    ∃ s', (execStringRecordRx t node kind id cmd apply s) = .next s' ∧ s'.Good Q := by
  refine ⟨_, rfl, ?_⟩
  repeat' (first
    | with_reducible assumption | with_reducible refine State.stringRecord_good _ _ _ _ _ _ _ ?_
    | with_reducible refine State.at__good _ _ ?_ | with_reducible refine State.awake_good _ _ (fun _ _ => ?_) ?_)
theorem execStrPcTimeout_good {Q : Claim} (i : Fin 32) (s : State) (h : s.Good Q) :
    ∃ s', (execStrPcTimeout i s) = .next s' ∧ s'.Good Q := by
  refine ⟨_, rfl, ?_⟩
  repeat' (first
    | with_reducible assumption | with_reducible refine State.pcTimeout_good _ _ ?_
    | with_reducible refine State.awake_good _ _ (fun _ _ => ?_) ?_)
theorem execStrBypCheck_good {Q : Claim} (i : Fin 32) (s : State) (h : s.Good Q) :
    ∃ s', (execStrBypCheck i s) = .next s' ∧ s'.Good Q := by
  refine ⟨_, rfl, ?_⟩
  repeat' (first
    | with_reducible assumption | with_reducible refine State.bypCheck_good _ _ ?_
    | with_reducible refine State.awake_good _ _ (fun _ _ => ?_) ?_)
theorem execStrHomeLost_good {Q : Claim} (i : Fin 32) (s : State) (h : s.Good Q) :
    ∃ s', (execStrHomeLost i s) = .next s' ∧ s'.Good Q := by
  refine ⟨_, rfl, ?_⟩
  repeat' (first
    | with_reducible assumption | with_reducible refine State.homeLost_good _ _ ?_
    | with_reducible refine State.awake_good _ _ (fun _ _ => ?_) ?_)
theorem execStrRideOut_good {Q : Claim} (i : Fin 32) (s : State) (h : s.Good Q) :
    ∃ s', (execStrRideOut i s) = .next s' ∧ s'.Good Q := by
  refine ⟨_, rfl, ?_⟩
  repeat' (first
    | with_reducible assumption | with_reducible refine State.rideOut_good _ _ ?_
    | with_reducible refine State.awake_good _ _ (fun _ _ => ?_) ?_)
theorem execLvcTrip_good {Q : Claim} (a : Fin 16) (v : Int) (t : Nat) (s : State) (h : s.Good Q) :
    ∃ s', (execLvcTrip a v t s) = .next s' ∧ s'.Good Q := by
  refine ⟨_, rfl, ?_⟩
  repeat' (first
    | with_reducible assumption | with_reducible refine State.cmpTrip_good _ _ _ _ ?_
    | with_reducible refine State.awake_good _ _ (fun _ _ => ?_) ?_)
theorem execLvcTripRelease_good {Q : Claim} (a : Fin 16) (t : Nat) (v : Int) (s : State) (h : s.Good Q) :
    ∃ s', (execLvcTripRelease a t v s) = .next s' ∧ s'.Good Q := by
  refine ⟨_, rfl, ?_⟩
  repeat' (first
    | with_reducible assumption | with_reducible refine State.cmpRelease_good _ _ _ ?_
    | with_reducible refine State.at__good _ _ ?_ | with_reducible refine State.awake_good _ _ (fun _ _ => ?_) ?_)
theorem execLvpStart_good {Q : Claim} (q : Req) (e : Fin 64) (s : State) (h : s.Good Q) :
    ∃ s', (execLvpStart q e s) = .next s' ∧ s'.Good Q := by
  refine ⟨_, rfl, ?_⟩
  repeat' (first
    | with_reducible assumption | with_reducible refine State.writeCmd_good _ _ _ _ _ ?_)
theorem execLvpStop_good {Q : Claim} (q : Req) (e : Fin 64) (s : State) (h : s.Good Q) :
    ∃ s', (execLvpStop q e s) = .next s' ∧ s'.Good Q := by
  refine ⟨_, rfl, ?_⟩
  repeat' (first
    | with_reducible assumption | with_reducible refine State.writeCmd_good _ _ _ _ _ ?_)
theorem execLvpClear_good {Q : Claim} (q : Req) (e : Fin 64) (s : State) (h : s.Good Q) :
    ∃ s', (execLvpClear q e s) = .next s' ∧ s'.Good Q := by
  refine ⟨_, rfl, ?_⟩
  repeat' (first
    | with_reducible assumption | with_reducible refine State.writeCmd_good _ _ _ _ _ ?_)
theorem execDrvListenTimeout_good {Q : Claim} (e : Fin 64) (s : State) (h : s.Good Q) :
    ∃ s', (execDrvListenTimeout e s) = .next s' ∧ s'.Good Q := by
  refine ⟨_, rfl, ?_⟩
  repeat' (first
    | with_reducible assumption | with_reducible refine State.listenOver_good _ _ ?_
    | with_reducible refine State.awake_good _ _ (fun _ _ => ?_) ?_)
theorem execFbScQuadrantStep_good {Q : Claim} (t : Nat) (sv : Int) (cv : Int) (s : State) (h : s.Good Q) :
    ∃ s', (execFbScQuadrantStep t sv cv s) = .next s' ∧ s'.Good Q := by
  refine ⟨_, rfl, ?_⟩
  repeat' (first
    | with_reducible assumption | with_reducible refine State.scSample_good _ _ _ _ ?_
    | with_reducible refine State.awake_good _ _ (fun _ _ => ?_) ?_)
theorem execScAmpBad_good {Q : Claim} (t : Nat) (samples : List (Int × Int)) (s : State) (h : s.Good Q) :
    ∃ s', (execScAmpBad t samples s) = .next s' ∧ s'.Good Q := by
  refine ⟨_, rfl, ?_⟩
  repeat' (first
    | with_reducible assumption | with_reducible refine State.scBad_good _ _ _ ?_
    | with_reducible refine State.awake_good _ _ (fun _ _ => ?_) ?_)
theorem execScAmpGood_good {Q : Claim} (t : Nat) (samples : List (Int × Int)) (s : State) (h : s.Good Q) :
    ∃ s', (execScAmpGood t samples s) = .next s' ∧ s'.Good Q := by
  refine ⟨_, rfl, ?_⟩
  repeat' (first
    | with_reducible assumption | with_reducible refine State.scGoodAgain_good _ _ _ ?_
    | with_reducible refine State.awake_good _ _ (fun _ _ => ?_) ?_)
theorem execHallChange_good {Q : Claim} (t : Nat) (code : BitVec 3) (s : State) (h : s.Good Q) :
    ∃ s', (execHallChange t code s) = .next s' ∧ s'.Good Q := by
  refine ⟨_, rfl, ?_⟩
  repeat' (first
    | with_reducible assumption | with_reducible refine State.hallChange_good _ _ _ ?_
    | with_reducible refine State.awake_good _ _ (fun _ _ => ?_) ?_)
theorem execPlsStep_good {Q : Claim} (t : Nat) (a : Bool) (b : Bool) (hold : Nat) (s : State) (h : s.Good Q) :
    ∃ s', (execPlsStep t a b hold s) = .next s' ∧ s'.Good Q := by
  refine ⟨_, rfl, ?_⟩
  repeat' (first
    | with_reducible assumption | with_reducible refine State.plsStep_good _ _ _ _ _ ?_
    | with_reducible refine State.awake_good _ _ (fun _ _ => ?_) ?_)
theorem execFbSpdTimeout_good {Q : Claim} (i : Fin 3) (s : State) (h : s.Good Q) :
    ∃ s', (execFbSpdTimeout i s) = .next s' ∧ s'.Good Q := by
  refine ⟨_, rfl, ?_⟩
  repeat' (first
    | with_reducible assumption | with_reducible refine State.fbTimeout_good _ _ ?_
    | with_reducible refine State.awake_good _ _ (fun _ _ => ?_) ?_)
theorem execFbScCountWrite_good {Q : Claim} (q : Req) (v : BitVec 64) (s : State) (h : s.Good Q) :
    ∃ s', (execFbScCountWrite q v s) = .next s' ∧ s'.Good Q := by
  refine ⟨_, rfl, ?_⟩
  repeat' (first
    | with_reducible assumption | with_reducible refine State.writeCmd_good _ _ _ _ _ ?_)
theorem execFbPlsCountWrite_good {Q : Claim} (q : Req) (v : BitVec 64) (s : State) (h : s.Good Q) :
    ∃ s', (execFbPlsCountWrite q v s) = .next s' ∧ s'.Good Q := by
  refine ⟨_, rfl, ?_⟩
  repeat' (first
    | with_reducible assumption | with_reducible refine State.writeCmd_good _ _ _ _ _ ?_)
theorem execFbIrqClr_good {Q : Claim} (q : Req) (v : BitVec 8) (s : State) (h : s.Good Q) :
    ∃ s', (execFbIrqClr q v s) = .next s' ∧ s'.Good Q := by
  refine ⟨_, rfl, ?_⟩
  repeat' (first
    | with_reducible assumption | with_reducible refine State.writeCmd_good _ _ _ _ _ ?_)
theorem execFbCtrlWrite_good {Q : Claim} (q : Req) (v : BitVec 16) (s : State) (h : s.Good Q) :
    ∃ s', (execFbCtrlWrite q v s) = .next s' ∧ s'.Good Q := by
  refine ⟨_, rfl, ?_⟩
  repeat' (first
    | with_reducible assumption | with_reducible refine State.writeCmd_good _ _ _ _ _ ?_)
theorem execThIntervalTick_good {Q : Claim} (ok : Bool) (s : State) (h : s.Good Q) :
    ∃ s', (execThIntervalTick ok s) = .next s' ∧ s'.Good Q := by
  refine ⟨_, rfl, ?_⟩
  repeat' (first
    | with_reducible assumption | with_reducible refine State.thInterval_good _ _ ?_
    | with_reducible refine State.awake_good _ _ (fun _ _ => ?_) ?_)
theorem execThDieConversion_good {Q : Claim} (d0 : BitVec 32) (d1 : BitVec 32) (d2 : BitVec 32) (d3 : BitVec 32) (ok : Bool) (s : State) (h : s.Good Q) :
    ∃ s', (execThDieConversion d0 d1 d2 d3 ok s) = .next s' ∧ s'.Good Q := by
  refine ⟨_, rfl, ?_⟩
  repeat' (first
    | with_reducible assumption | with_reducible refine State.dieConvert_good _ _ _ ?_
    | with_reducible refine State.awake_good _ _ (fun _ _ => ?_) ?_)
theorem execThRecRetry_good {Q : Claim} (ok : Bool) (s : State) (h : s.Good Q) :
    ∃ s', (execThRecRetry ok s) = .next s' ∧ s'.Good Q := by
  refine ⟨_, rfl, ?_⟩
  repeat' (first
    | with_reducible assumption | with_reducible refine State.thRetry_good _ _ ?_
    | with_reducible refine State.awake_good _ _ (fun _ _ => ?_) ?_)
theorem execThShutClr_good {Q : Claim} (q : Req) (v : BitVec 32) (s : State) (h : s.Good Q) :
    ∃ s', (execThShutClr q v s) = .next s' ∧ s'.Good Q := by
  refine ⟨_, rfl, ?_⟩
  repeat' (first
    | with_reducible assumption | with_reducible refine State.writeCmd_good _ _ _ _ _ ?_)
theorem execThSensorClr_good {Q : Claim} (q : Req) (c : Fin 32) (s : State) (h : s.Good Q) :
    ∃ s', (execThSensorClr q c s) = .next s' ∧ s'.Good Q := by
  refine ⟨_, rfl, ?_⟩
  repeat' (first
    | with_reducible assumption | with_reducible refine State.writeCmd_good _ _ _ _ _ ?_)
theorem execFaultIntake_good {Q : Claim} (s : State) (h : s.Good Q) :
    ∃ s', (execFaultIntake s) = .next s' ∧ s'.Good Q := by
  refine ⟨_, rfl, ?_⟩
  repeat' (first
    | with_reducible assumption | with_reducible refine State.fltIntake_good _ ?_
    | with_reducible refine State.awake_good _ _ (fun _ _ => ?_) ?_)
theorem execFaultTransientExpiry_good {Q : Claim} (code : BitVec 16) (i : BitVec 16) (s : State) (h : s.Good Q) :
    ∃ s', (execFaultTransientExpiry code i s) = .next s' ∧ s'.Good Q := by
  refine ⟨_, rfl, ?_⟩
  repeat' (first
    | with_reducible assumption | with_reducible refine State.fltExpiry_good _ _ _ ?_
    | with_reducible refine State.awake_good _ _ (fun _ _ => ?_) ?_)
theorem execAlmCoalesceEnd_good {Q : Claim} (code : BitVec 16) (i : BitVec 16) (s : State) (h : s.Good Q) :
    ∃ s', (execAlmCoalesceEnd code i s) = .next s' ∧ s'.Good Q := by
  refine ⟨_, rfl, ?_⟩
  repeat' (first
    | with_reducible assumption | with_reducible refine State.coalEnd_good _ _ _ ?_
    | with_reducible refine State.awake_good _ _ (fun _ _ => ?_) ?_)
theorem execFaultReset_good {Q : Claim} (s : State) (h : s.Good Q) :
    ∃ s', (execFaultReset s) = .next s' ∧ s'.Good Q := by
  refine ⟨_, rfl, ?_⟩
  repeat' (first
    | with_reducible assumption | with_reducible refine State.settleReset_good _ ?_
    | with_reducible refine State.awake_good _ _ (fun _ _ => ?_) ?_)
theorem execFltClr_good {Q : Claim} (q : Req) (code : BitVec 16) (i : BitVec 16) (s : State) (h : s.Good Q) :
    ∃ s', (execFltClr q code i s) = .next s' ∧ s'.Good Q := by
  refine ⟨_, rfl, ?_⟩
  repeat' (first
    | with_reducible assumption | with_reducible refine State.writeCmd_good _ _ _ _ _ ?_)
theorem execFltFirstClr_good {Q : Claim} (q : Req) (v : BitVec 8) (s : State) (h : s.Good Q) :
    ∃ s', (execFltFirstClr q v s) = .next s' ∧ s'.Good Q := by
  refine ⟨_, rfl, ?_⟩
  repeat' (first
    | with_reducible assumption | with_reducible refine State.writeCmd_good _ _ _ _ _ ?_)
theorem execFltCfgWrite_good {Q : Claim} (q : Req) (code : BitVec 16) (v : BitVec 64) (s : State) (h : s.Good Q) :
    ∃ s', (execFltCfgWrite q code v s) = .next s' ∧ s'.Good Q := by
  refine ⟨_, rfl, ?_⟩
  repeat' (first
    | with_reducible assumption | with_reducible refine State.writeCmd_good _ _ _ _ _ ?_)
theorem execSramEccError_good {Q : Claim} (t : Nat) (safe : Bool) (corrected : Bool) (s : State) (h : s.Good Q) :
    ∃ s', (execSramEccError t safe corrected s) = .next s' ∧ s'.Good Q := by
  refine ⟨_, rfl, ?_⟩
  repeat' (first
    | with_reducible assumption | with_reducible refine State.sramEcc_good _ _ _ ?_
    | with_reducible refine State.at__good _ _ ?_ | with_reducible refine State.awake_good _ _ (fun _ _ => ?_) ?_)
theorem execSfWdExpiry_good {Q : Claim} (t : Nat) (s : State) (h : s.Good Q) :
    ∃ s', (execSfWdExpiry t s) = .next s' ∧ s'.Good Q := by
  refine ⟨_, rfl, ?_⟩
  repeat' (first
    | with_reducible assumption | with_reducible refine State.sfWd_good _ ?_
    | with_reducible refine State.at__good _ _ ?_ | with_reducible refine State.awake_good _ _ (fun _ _ => ?_) ?_)
theorem execSfStoHwMismatch_good {Q : Claim} (t : Nat) (g : Fin 2) (s : State) (h : s.Good Q) :
    ∃ s', (execSfStoHwMismatch t g s) = .next s' ∧ s'.Good Q := by
  refine ⟨_, rfl, ?_⟩
  repeat' (first
    | with_reducible assumption | with_reducible refine State.sfMismatch_good _ _ ?_
    | with_reducible refine State.at__good _ _ ?_ | with_reducible refine State.awake_good _ _ (fun _ _ => ?_) ?_)
theorem execSafeWrite_good {Q : Claim} (q : Req) (idx : BitVec 16) (sub : BitVec 8) (data : List Byte) (s : State) (h : s.Good Q) :
    ∃ s', (execSafeWrite q idx sub data s) = .next s' ∧ s'.Good Q := by
  refine ⟨_, rfl, ?_⟩
  repeat' (first
    | with_reducible assumption | with_reducible refine State.writeCmd_good _ _ _ _ _ ?_)
theorem execSfStoDisc_good {Q : Claim} (s : State) (h : s.Good Q) :
    ∃ s', (execSfStoDisc s) = .next s' ∧ s'.Good Q := by
  refine ⟨_, rfl, ?_⟩
  repeat' (first
    | with_reducible assumption | with_reducible refine State.stoDisc_good _ ?_
    | with_reducible refine State.awake_good _ _ (fun _ _ => ?_) ?_)
theorem execStoReleaseQualified_good {Q : Claim} (g : Fin 2) (s : State) (h : s.Good Q) :
    ∃ s', (execStoReleaseQualified g s) = .next s' ∧ s'.Good Q := by
  refine ⟨_, rfl, ?_⟩
  repeat' (first
    | with_reducible assumption | with_reducible refine State.stoQualified_good _ _ ?_
    | with_reducible refine State.awake_good _ _ (fun _ _ => ?_) ?_)
theorem execSfStoAck_good {Q : Claim} (q : Req) (v : BitVec 32) (s : State) (h : s.Good Q) :
    ∃ s', (execSfStoAck q v s) = .next s' ∧ s'.Good Q := by
  refine ⟨_, rfl, ?_⟩
  repeat' (first
    | with_reducible assumption | with_reducible refine State.writeCmd_good _ _ _ _ _ ?_)
theorem execSfProofTest_good {Q : Claim} (g : Fin 2) (pass : Bool) (s : State) (h : s.Good Q) :
    ∃ s', (execSfProofTest g pass s) = .next s' ∧ s'.Good Q := by
  refine ⟨_, rfl, ?_⟩
  repeat' (first
    | with_reducible assumption | with_reducible refine State.proofTest_good _ _ _ ?_
    | with_reducible refine State.awake_good _ _ (fun _ _ => ?_) ?_)
theorem execSfStoTestDue_good {Q : Claim} (g : Fin 2) (s : State) (h : s.Good Q) :
    ∃ s', (execSfStoTestDue g s) = .next s' ∧ s'.Good Q := by
  refine ⟨_, rfl, ?_⟩
  repeat' (first
    | with_reducible assumption | with_reducible refine State.testDue_good _ _ ?_
    | with_reducible refine State.awake_good _ _ (fun _ _ => ?_) ?_)
theorem execSoTestPulse_good {Q : Claim} (n : Fin 4) (low : Bool) (s : State) (h : s.Good Q) :
    ∃ s', (execSoTestPulse n low s) = .next s' ∧ s'.Good Q := by
  refine ⟨_, rfl, ?_⟩
  repeat' (first
    | with_reducible assumption | with_reducible refine State.soPulse_good _ _ _ ?_
    | with_reducible refine State.awake_good _ _ (fun _ _ => ?_) ?_)
theorem execSoPulseEnd_good {Q : Claim} (n : Fin 4) (high : Bool) (s : State) (h : s.Good Q) :
    ∃ s', (execSoPulseEnd n high s) = .next s' ∧ s'.Good Q := by
  refine ⟨_, rfl, ?_⟩
  repeat' (first
    | with_reducible assumption | with_reducible refine State.soPulseEnd_good _ _ _ ?_
    | with_reducible refine State.awake_good _ _ (fun _ _ => ?_) ?_)
theorem execSoReadbackFault_good {Q : Claim} (t : Nat) (n : Fin 4) (rb : Bool) (s : State) (h : s.Good Q) :
    ∃ s', (execSoReadbackFault t n rb s) = .next s' ∧ s'.Good Q := by
  refine ⟨_, rfl, ?_⟩
  repeat' (first
    | with_reducible assumption | with_reducible refine State.soFault_good _ _ _ ?_
    | with_reducible refine State.at__good _ _ ?_ | with_reducible refine State.awake_good _ _ (fun _ _ => ?_) ?_)
theorem execSdpSend_good {Q : Claim} (p : Fin 4) (s : State) (h : s.Good Q) :
    ∃ s', (execSdpSend p s) = .next s' ∧ s'.Good Q := by
  refine ⟨_, rfl, ?_⟩
  repeat' (first
    | with_reducible assumption | with_reducible refine State.sdpSend_good _ _ ?_
    | with_reducible refine State.awake_good _ _ (fun _ _ => ?_) ?_)
theorem execSafeTelegramRx_good {Q : Claim} (src : Fin 1024) (t : Nat) (tel : List Byte) (s : State) (h : s.Good Q) :
    ∃ s', (execSafeTelegramRx src t tel s) = .next s' ∧ s'.Good Q := by
  refine ⟨_, rfl, ?_⟩
  repeat' (first
    | with_reducible assumption | with_reducible refine State.telegram_good _ _ _ _ ?_
    | with_reducible refine State.awake_good _ _ (fun _ _ => ?_) ?_)
theorem execSdcSkewExpiry_good {Q : Claim} (k : Fin 16) (s : State) (h : s.Good Q) :
    ∃ s', (execSdcSkewExpiry k s) = .next s' ∧ s'.Good Q := by
  refine ⟨_, rfl, ?_⟩
  repeat' (first
    | with_reducible assumption | with_reducible refine State.skewExpiry_good _ _ ?_
    | with_reducible refine State.awake_good _ _ (fun _ _ => ?_) ?_)
theorem execSdcWdExpiry_good {Q : Claim} (k : Fin 16) (s : State) (h : s.Good Q) :
    ∃ s', (execSdcWdExpiry k s) = .next s' ∧ s'.Good Q := by
  refine ⟨_, rfl, ?_⟩
  repeat' (first
    | with_reducible assumption | with_reducible refine State.sdcExpiry_good _ _ ?_
    | with_reducible refine State.awake_good _ _ (fun _ _ => ?_) ?_)
theorem execSfOpen_good {Q : Claim} (q : Req) (s : State) (h : s.Good Q) :
    ∃ s', (execSfOpen q s) = .next s' ∧ s'.Good Q := by
  refine ⟨_, rfl, ?_⟩
  repeat' (first
    | with_reducible assumption | with_reducible refine State.writeCmd_good _ _ _ _ _ ?_)
theorem execSfVerify_good {Q : Claim} (q : Req) (s : State) (h : s.Good Q) :
    ∃ s', (execSfVerify q s) = .next s' ∧ s'.Good Q := by
  refine ⟨_, rfl, ?_⟩
  repeat' (first
    | with_reducible assumption | with_reducible refine State.writeCmd_good _ _ _ _ _ ?_)
theorem execSfAbort_good {Q : Claim} (q : Req) (s : State) (h : s.Good Q) :
    ∃ s', (execSfAbort q s) = .next s' ∧ s'.Good Q := by
  refine ⟨_, rfl, ?_⟩
  repeat' (first
    | with_reducible assumption | with_reducible refine State.writeCmd_good _ _ _ _ _ ?_)
theorem execSfConfirm_good {Q : Claim} (q : Req) (v : BitVec 32) (s : State) (h : s.Good Q) :
    ∃ s', (execSfConfirm q v s) = .next s' ∧ s'.Good Q := by
  refine ⟨_, rfl, ?_⟩
  repeat' (first
    | with_reducible assumption | with_reducible refine State.writeCmd_good _ _ _ _ _ ?_)
theorem execSfImageWrite_good {Q : Claim} (q : Req) (img : List Byte) (s : State) (h : s.Good Q) :
    ∃ s', (execSfImageWrite q img s) = .next s' ∧ s'.Good Q := by
  refine ⟨_, rfl, ?_⟩
  repeat' (first
    | with_reducible assumption | with_reducible refine State.writeWhole_good _ _ _ _ _ ?_)
theorem execSfSignoffTimeout_good {Q : Claim} (s : State) (h : s.Good Q) :
    ∃ s', (execSfSignoffTimeout s) = .next s' ∧ s'.Good Q := by
  refine ⟨_, rfl, ?_⟩
  repeat' (first
    | with_reducible assumption | with_reducible refine State.sessionTimeout_good _ ?_
    | with_reducible refine State.awake_good _ _ (fun _ _ => ?_) ?_)

end Sys2Proof.Machine
end

