-- ==== Sys2Proof/Laws/GoodCmdsC.lean ====
section
/-! SUPPORT. What the commands of lanes, ring, time, managers, clocks, power, stores and BIST keep, one lemma each (see Laws/Good.lean). -/

namespace Sys2Proof.Machine

theorem State.ddmRead_good {Q : Claim} (s : State) (n : Nat) (bytes : List Byte) (h : s.Good Q) :
    (State.ddmRead s n bytes).Good Q := by
  unfold State.ddmRead; try dsimp only
  repeat' (first
    | with_reducible assumption | with_reducible refine State.updLane_good _ _ _ ?_ | split)
theorem execLaneEnable_good {Q : Claim} (q : Req) (n : Fin 4) (on : Bool) (s : State) (h : s.Good Q) :
    ∃ s', (execLaneEnable q n on s) = .next s' ∧ s'.Good Q := by
  refine ⟨_, rfl, ?_⟩
  repeat' (first
    | with_reducible assumption | with_reducible refine State.writeCmd_good _ _ _ _ _ ?_)
theorem execLaneHold_good {Q : Claim} (q : Req) (n : Fin 4) (on : Bool) (s : State) (h : s.Good Q) :
    ∃ s', (execLaneHold q n on s) = .next s' ∧ s'.Good Q := by
  refine ⟨_, rfl, ?_⟩
  repeat' (first
    | with_reducible assumption | with_reducible refine State.writeCmd_good _ _ _ _ _ ?_)
theorem execLaneTest_good {Q : Claim} (q : Req) (n : Fin 4) (v : BitVec 3) (s : State) (h : s.Good Q) :
    ∃ s', (execLaneTest q n v s) = .next s' ∧ s'.Good Q := by
  refine ⟨_, rfl, ?_⟩
  repeat' (first
    | with_reducible assumption | with_reducible refine State.writeCmd_good _ _ _ _ _ ?_)
theorem execLaneLoop_good {Q : Claim} (q : Req) (n : Fin 4) (v : BitVec 3) (s : State) (h : s.Good Q) :
    ∃ s', (execLaneLoop q n v s) = .next s' ∧ s'.Good Q := by
  refine ⟨_, rfl, ?_⟩
  repeat' (first
    | with_reducible assumption | with_reducible refine State.writeCmd_good _ _ _ _ _ ?_)
theorem execLaneCntClr_good {Q : Claim} (q : Req) (n : Fin 4) (s : State) (h : s.Good Q) :
    ∃ s', (execLaneCntClr q n s) = .next s' ∧ s'.Good Q := by
  refine ⟨_, rfl, ?_⟩
  repeat' (first
    | with_reducible assumption | with_reducible refine State.writeCmd_good _ _ _ _ _ ?_)
theorem execSfpModuleDetect_good {Q : Claim} (t : Nat) (n : Fin 4) (page : List Byte) (s : State) (h : s.Good Q) :
    ∃ s', (execSfpModuleDetect t n page s) = .next s' ∧ s'.Good Q := by
  refine ⟨_, rfl, ?_⟩
  repeat' (first
    | with_reducible assumption | with_reducible refine State.moduleDetect_good _ _ _ ?_
    | with_reducible refine State.at__good _ _ ?_ | with_reducible refine State.awake_good _ _ (fun _ _ => ?_) ?_)
theorem execModuleAbsent_good {Q : Claim} (t : Nat) (n : Fin 4) (s : State) (h : s.Good Q) :
    ∃ s', (execModuleAbsent t n s) = .next s' ∧ s'.Good Q := by
  refine ⟨_, rfl, ?_⟩
  repeat' (first
    | with_reducible assumption | with_reducible refine State.moduleAbsent_good _ _ ?_
    | with_reducible refine State.at__good _ _ ?_ | with_reducible refine State.awake_good _ _ (fun _ _ => ?_) ?_)
theorem execLaneDdmRead_good {Q : Claim} (t : Nat) (n : Fin 4) (bytes : List Byte) (s : State) (h : s.Good Q) :
    ∃ s', (execLaneDdmRead t n bytes s) = .next s' ∧ s'.Good Q := by
  refine ⟨_, rfl, ?_⟩
  repeat' (first
    | with_reducible assumption | with_reducible refine State.ddmRead_good _ _ _ ?_
    | with_reducible refine State.at__good _ _ ?_ | with_reducible refine State.awake_good _ _ (fun _ _ => ?_) ?_)
theorem execBlockLock_good {Q : Claim} (t : Nat) (n : Fin 4) (s : State) (h : s.Good Q) :
    ∃ s', (execBlockLock t n s) = .next s' ∧ s'.Good Q := by
  refine ⟨_, rfl, ?_⟩
  repeat' (first
    | with_reducible assumption | with_reducible refine State.blockLock_good _ _ ?_
    | with_reducible refine State.at__good _ _ ?_ | with_reducible refine State.awake_good _ _ (fun _ _ => ?_) ?_)
theorem execBlockLockLoss_good {Q : Claim} (t : Nat) (n : Fin 4) (passing : BitVec 4) (s : State) (h : s.Good Q) :
    ∃ s', (execBlockLockLoss t n passing s) = .next s' ∧ s'.Good Q := by
  refine ⟨_, rfl, ?_⟩
  repeat' (first
    | with_reducible assumption | with_reducible refine State.blockLockLoss_good _ _ _ ?_
    | with_reducible refine State.at__good _ _ ?_ | with_reducible refine State.awake_good _ _ (fun _ _ => ?_) ?_)
theorem execHiBer_good {Q : Claim} (t : Nat) (n : Fin 4) (bad : Nat) (passing : BitVec 4) (s : State) (h : s.Good Q) :
    ∃ s', (execHiBer t n bad passing s) = .next s' ∧ s'.Good Q := by
  refine ⟨_, rfl, ?_⟩
  repeat' (first
    | with_reducible assumption | with_reducible refine State.hiBerSpan_good _ _ _ _ ?_
    | with_reducible refine State.at__good _ _ ?_ | with_reducible refine State.awake_good _ _ (fun _ _ => ?_) ?_)
theorem execElasticError_good {Q : Claim} (t : Nat) (n : Fin 4) (passing : BitVec 4) (s : State) (h : s.Good Q) :
    ∃ s', (execElasticError t n passing s) = .next s' ∧ s'.Good Q := by
  refine ⟨_, rfl, ?_⟩
  repeat' (first
    | with_reducible assumption | with_reducible refine State.elasticError_good _ _ _ ?_
    | with_reducible refine State.at__good _ _ ?_ | with_reducible refine State.awake_good _ _ (fun _ _ => ?_) ?_)
theorem execLanePpmMeasure_good {Q : Claim} (t : Nat) (n : Fin 4) (ins : Nat) (del : Nat) (blocks : Nat) (fill : BitVec 6) (s : State) (h : s.Good Q) :
    ∃ s', (execLanePpmMeasure t n ins del blocks fill s) = .next s' ∧ s'.Good Q := by
  refine ⟨_, rfl, ?_⟩
  repeat' (first
    | with_reducible assumption | with_reducible refine State.ppmMeasure_good _ _ _ _ _ _ ?_
    | with_reducible refine State.at__good _ _ ?_ | with_reducible refine State.awake_good _ _ (fun _ _ => ?_) ?_)
theorem execTrainBlockRx_good {Q : Claim} (t : Nat) (n : Fin 4) (line : LineBits) (passing : BitVec 4) (s : State) (h : s.Good Q) :
    ∃ s', (execTrainBlockRx t n line passing s) = .next s' ∧ s'.Good Q := by
  refine ⟨_, rfl, ?_⟩
  repeat' (first
    | with_reducible assumption | with_reducible refine State.trainBlock_good _ _ _ _ ?_
    | with_reducible refine State.rxLine_good _ _ _ _ ?_ | with_reducible refine State.at__good _ _ ?_
    | with_reducible refine State.awake_good _ _ (fun _ _ => ?_) ?_)
theorem execHoldBlockRx_good {Q : Claim} (t : Nat) (n : Fin 4) (passing : BitVec 4) (s : State) (h : s.Good Q) :
    ∃ s', (execHoldBlockRx t n passing s) = .next s' ∧ s'.Good Q := by
  refine ⟨_, rfl, ?_⟩
  repeat' (first
    | with_reducible assumption | with_reducible refine State.holdBlock_good _ _ _ ?_
    | with_reducible refine State.at__good _ _ ?_ | with_reducible refine State.awake_good _ _ (fun _ _ => ?_) ?_)
theorem execErrBlockRx_good {Q : Claim} (t : Nat) (n : Fin 4) (kind : Fin 3) (passing : BitVec 4) (s : State) (h : s.Good Q) :
    ∃ s', (execErrBlockRx t n kind passing s) = .next s' ∧ s'.Good Q := by
  refine ⟨_, rfl, ?_⟩
  repeat' (first
    | with_reducible assumption | with_reducible refine State.errBlock_good _ _ _ ?_
    | with_reducible refine State.at__good _ _ ?_ | with_reducible refine State.badBlock_good _ _ _ _ ?_
    | with_reducible refine State.awake_good _ _ (fun _ _ => ?_) ?_ | split)
theorem execSfpLos_good {Q : Claim} (t : Nat) (n : Fin 4) (on : Bool) (passing : BitVec 4) (s : State) (h : s.Good Q) :
    ∃ s', (execSfpLos t n on passing s) = .next s' ∧ s'.Good Q := by
  refine ⟨_, rfl, ?_⟩
  repeat' (first
    | with_reducible assumption | with_reducible refine State.sfpLos_good _ _ _ _ ?_
    | with_reducible refine State.at__good _ _ ?_ | with_reducible refine State.awake_good _ _ (fun _ _ => ?_) ?_)
theorem execLaneInputLost_good {Q : Claim} (t : Nat) (n : Fin 4) (passing : BitVec 4) (s : State) (h : s.Good Q) :
    ∃ s', (execLaneInputLost t n passing s) = .next s' ∧ s'.Good Q := by
  refine ⟨_, rfl, ?_⟩
  repeat' (first
    | with_reducible assumption | with_reducible refine State.inputLost_good _ _ _ ?_
    | with_reducible refine State.at__good _ _ ?_ | with_reducible refine State.awake_good _ _ (fun _ _ => ?_) ?_)
theorem execLaneTrainTimeout_good {Q : Claim} (n : Fin 4) (s : State) (h : s.Good Q) :
    ∃ s', (execLaneTrainTimeout n s) = .next s' ∧ s'.Good Q := by
  refine ⟨_, rfl, ?_⟩
  repeat' (first
    | with_reducible assumption | with_reducible refine State.trainTimeout_good _ _ ?_
    | with_reducible refine State.awake_good _ _ (fun _ _ => ?_) ?_)
theorem execPrbsLock_good {Q : Claim} (t : Nat) (n : Fin 4) (checked : Nat) (errs : Nat) (s : State) (h : s.Good Q) :
    ∃ s', (execPrbsLock t n checked errs s) = .next s' ∧ s'.Good Q := by
  refine ⟨_, rfl, ?_⟩
  repeat' (first
    | with_reducible assumption | with_reducible refine State.prbsSeen_good _ _ _ _ ?_
    | with_reducible refine State.at__good _ _ ?_ | with_reducible refine State.awake_good _ _ (fun _ _ => ?_) ?_)
theorem execRingFrameRx_good {Q : Claim} (t : Nat) (n : Fin 4) (l : List Byte) (s : State) (h : s.Good Q) :
    ∃ s', (execRingFrameRx t n l s) = .next s' ∧ s'.Good Q := by
  refine ⟨_, rfl, ?_⟩
  repeat' (first
    | with_reducible assumption | with_reducible refine State.frameRx_good _ _ _ _ ?_
    | with_reducible refine State.awake_good _ _ (fun _ _ => ?_) ?_)
theorem execRingTxStart_good {Q : Claim} (n : Fin 4) (s : State) (h : s.Good Q) :
    ∃ s', (execRingTxStart n s) = .next s' ∧ s'.Good Q := by
  refine ⟨_, rfl, ?_⟩
  repeat' (first
    | with_reducible assumption | with_reducible refine State.ringTx_good _ _ ?_
    | with_reducible refine State.awake_good _ _ (fun _ _ => ?_) ?_)
theorem execTc0Send_good {Q : Claim} (i : Fin 16) (s : State) (h : s.Good Q) :
    ∃ s', (execTc0Send i s) = .next s' ∧ s'.Good Q := by
  refine ⟨_, rfl, ?_⟩
  repeat' (first
    | with_reducible assumption | with_reducible refine State.tc0Send_good _ _ ?_
    | with_reducible refine State.awake_good _ _ (fun _ _ => ?_) ?_)
theorem execSystemCycle_good {Q : Claim} (s : State) (h : s.Good Q) :
    ∃ s', (execSystemCycle s) = .next s' ∧ s'.Good Q := by
  refine ⟨_, rfl, ?_⟩
  repeat' (first
    | with_reducible assumption | with_reducible refine State.systemCycle_good _ ?_
    | with_reducible refine State.awake_good _ _ (fun _ _ => ?_) ?_)
theorem execRollCall_good {Q : Claim} (q : Req) (s : State) (h : s.Good Q) :
    ∃ s', (execRollCall q s) = .next s' ∧ s'.Good Q := by
  refine ⟨_, rfl, ?_⟩
  repeat' (first
    | with_reducible assumption | with_reducible refine State.writeCmd_good _ _ _ _ _ ?_)
theorem execRollCallCommit_good {Q : Claim} (apply : BitVec 112) (roll : Roll) (s : State) (h : s.Good Q) :
    ∃ s', (execRollCallCommit apply roll s) = .next s' ∧ s'.Good Q := by
  refine ⟨_, rfl, ?_⟩
  repeat' (first
    | with_reducible assumption | with_reducible refine State.abortHandback_good _ _ ?_
    | with_reducible refine State.rollCommit_good _ _ _ ?_
    | with_reducible refine State.awake_good _ _ (fun _ _ => ?_) ?_)
theorem execRollCallTimeout_good {Q : Claim} (s : State) (h : s.Good Q) :
    ∃ s', (execRollCallTimeout s) = .next s' ∧ s'.Good Q := by
  refine ⟨_, rfl, ?_⟩
  repeat' (first
    | with_reducible assumption | with_reducible refine State.rollTimeout_good _ ?_
    | with_reducible refine State.awake_good _ _ (fun _ _ => ?_) ?_)
theorem execTc3WaitExpiry_good {Q : Claim} (s : State) (h : s.Good Q) :
    ∃ s', (execTc3WaitExpiry s) = .next s' ∧ s'.Good Q := by
  refine ⟨_, rfl, ?_⟩
  repeat' (first
    | with_reducible assumption | with_reducible refine State.tc3Expiry_good _ ?_
    | with_reducible refine State.awake_good _ _ (fun _ _ => ?_) ?_)
theorem execAlmAck_good {Q : Claim} (q : Req) (seq : BitVec 32) (s : State) (h : s.Good Q) :
    ∃ s', (execAlmAck q seq s) = .next s' ∧ s'.Good Q := by
  refine ⟨_, rfl, ?_⟩
  repeat' (first
    | with_reducible assumption | with_reducible refine State.writeCmd_good _ _ _ _ _ ?_)
theorem execAlmRead_good {Q : Claim} (q : Req) (s : State) (h : s.Good Q) :
    ∃ s', (execAlmRead q s) = .next s' ∧ s'.Good Q := by
  refine ⟨_, rfl, ?_⟩
  repeat' (first
    | with_reducible assumption | with_reducible refine State.readCmd_good _ _ _ _ ?_)
theorem execAlmSumPeriod_good {Q : Claim} (s : State) (h : s.Good Q) :
    ∃ s', (execAlmSumPeriod s) = .next s' ∧ s'.Good Q := by
  refine ⟨_, rfl, ?_⟩
  repeat' (first
    | with_reducible assumption | with_reducible refine State.sumPeriod_good _ ?_
    | with_reducible refine State.awake_good _ _ (fun _ _ => ?_) ?_)
theorem execTimeBlockTx_good {Q : Claim} (n : Fin 4) (s : State) (h : s.Good Q) :
    ∃ s', (execTimeBlockTx n s) = .next s' ∧ s'.Good Q := by
  refine ⟨_, rfl, ?_⟩
  repeat' (first
    | with_reducible assumption | with_reducible refine State.timeBlockTx_good _ _ ?_
    | with_reducible refine State.awake_good _ _ (fun _ _ => ?_) ?_)
theorem execTimeBlockRx_good {Q : Claim} (n : Fin 4) (line : LineBits) (t : Nat) (s : State) (h : s.Good Q) :
    ∃ s', (execTimeBlockRx n line t s) = .next s' ∧ s'.Good Q := by
  refine ⟨_, rfl, ?_⟩
  repeat' (first
    | with_reducible assumption | with_reducible refine State.timeBlockRx_good _ _ _ _ ?_
    | with_reducible refine State.rxLine_good _ _ _ _ ?_
    | with_reducible refine State.awake_good _ _ (fun _ _ => ?_) ?_)
theorem execTmServoTick_good {Q : Claim} (s : State) (h : s.Good Q) :
    ∃ s', (execTmServoTick s) = .next s' ∧ s'.Good Q := by
  refine ⟨_, rfl, ?_⟩
  repeat' (first
    | with_reducible assumption | with_reducible refine State.servoTick_good _ ?_
    | with_reducible refine State.awake_good _ _ (fun _ _ => ?_) ?_)
theorem execTmRefLost_good {Q : Claim} (s : State) (h : s.Good Q) :
    ∃ s', (execTmRefLost s) = .next s' ∧ s'.Good Q := by
  refine ⟨_, rfl, ?_⟩
  repeat' (first
    | with_reducible assumption | with_reducible refine State.refLost_good _ ?_
    | with_reducible refine State.awake_good _ _ (fun _ _ => ?_) ?_)
theorem execPtpSyncRx_good {Q : Claim} (t : Nat) (d : Fin 2) (o : Int) (delay : BitVec 32) (logSync : Int) (s : State) (h : s.Good Q) :
    ∃ s', (execPtpSyncRx t d o delay logSync s) = .next s' ∧ s'.Good Q := by
  refine ⟨_, rfl, ?_⟩
  repeat' (first
    | with_reducible assumption | with_reducible refine State.ptpSync_good _ _ _ _ _ ?_
    | with_reducible refine State.at__good _ _ ?_ | with_reducible refine State.awake_good _ _ (fun _ _ => ?_) ?_)
theorem execPtpAnnounceRx_good {Q : Claim} (t : Nat) (d : Fin 2) (gm : BitVec 64) (arb : Bool) (steps : BitVec 16) (s : State) (h : s.Good Q) :
    ∃ s', (execPtpAnnounceRx t d gm arb steps s) = .next s' ∧ s'.Good Q := by
  refine ⟨_, rfl, ?_⟩
  repeat' (first
    | with_reducible assumption | with_reducible refine State.ptpAnnounce_good _ _ _ _ _ ?_
    | with_reducible refine State.at__good _ _ ?_ | with_reducible refine State.awake_good _ _ (fun _ _ => ?_) ?_)
theorem execPtpLost_good {Q : Claim} (d : Fin 2) (s : State) (h : s.Good Q) :
    ∃ s', (execPtpLost d s) = .next s' ∧ s'.Good Q := by
  refine ⟨_, rfl, ?_⟩
  repeat' (first
    | with_reducible assumption | with_reducible refine State.ptpLost_good _ _ ?_
    | with_reducible refine State.awake_good _ _ (fun _ _ => ?_) ?_)
theorem execPpsInEdge_good {Q : Claim} (t : Nat) (falling : Bool) (s : State) (h : s.Good Q) :
    ∃ s', (execPpsInEdge t falling s) = .next s' ∧ s'.Good Q := by
  refine ⟨_, rfl, ?_⟩
  repeat' (first
    | with_reducible assumption | with_reducible refine State.ppsEdge_good _ _ _ ?_
    | with_reducible refine State.awake_good _ _ (fun _ _ => ?_) ?_)
theorem execPpsInLost_good {Q : Claim} (s : State) (h : s.Good Q) :
    ∃ s', (execPpsInLost s) = .next s' ∧ s'.Good Q := by
  refine ⟨_, rfl, ?_⟩
  repeat' (first
    | with_reducible assumption | with_reducible refine State.ppsLost_good _ ?_
    | with_reducible refine State.awake_good _ _ (fun _ _ => ?_) ?_)
theorem execTmSet_good {Q : Claim} (q : Req) (v : BitVec 112) (s : State) (h : s.Good Q) :
    ∃ s', (execTmSet q v s) = .next s' ∧ s'.Good Q := by
  refine ⟨_, rfl, ?_⟩
  repeat' (first
    | with_reducible assumption | with_reducible refine State.writeCmd_good _ _ _ _ _ ?_)
theorem execBellArm_good {Q : Claim} (q : Req) (b : Fin 64) (s : State) (h : s.Good Q) :
    ∃ s', (execBellArm q b s) = .next s' ∧ s'.Good Q := by
  refine ⟨_, rfl, ?_⟩
  repeat' (first
    | with_reducible assumption | with_reducible refine State.writeCmd_good _ _ _ _ _ ?_)
theorem execBellStop_good {Q : Claim} (q : Req) (b : Fin 64) (s : State) (h : s.Good Q) :
    ∃ s', (execBellStop q b s) = .next s' ∧ s'.Good Q := by
  refine ⟨_, rfl, ?_⟩
  repeat' (first
    | with_reducible assumption | with_reducible refine State.writeCmd_good _ _ _ _ _ ?_)
theorem execBellRing_good {Q : Claim} (b : Fin 64) (s : State) (h : s.Good Q) :
    ∃ s', (execBellRing b s) = .next s' ∧ s'.Good Q := by
  refine ⟨_, rfl, ?_⟩
  repeat' (first
    | with_reducible assumption | with_reducible refine State.bellRing_good _ _ ?_
    | with_reducible refine State.awake_good _ _ (fun _ _ => ?_) ?_)
theorem execTrigInputEdge_good {Q : Claim} (n : Fin 4) (t : Nat) (rising : Bool) (held : Nat) (s : State) (h : s.Good Q) :
    ∃ s', (execTrigInputEdge n t rising held s) = .next s' ∧ s'.Good Q := by
  refine ⟨_, rfl, ?_⟩
  repeat' (first
    | with_reducible assumption | with_reducible refine State.trigEdge_good _ _ _ _ _ ?_
    | with_reducible refine State.awake_good _ _ (fun _ _ => ?_) ?_)
theorem execPpsOutSecond_good {Q : Claim} (s : State) (h : s.Good Q) :
    ∃ s', (execPpsOutSecond s) = .next s' ∧ s'.Good Q := by
  refine ⟨_, rfl, ?_⟩
  repeat' (first
    | with_reducible assumption | with_reducible refine State.ppsOut_good _ ?_
    | with_reducible refine State.awake_good _ _ (fun _ _ => ?_) ?_)
theorem execPulseWidthEnd_good {Q : Claim} (s : State) (h : s.Good Q) :
    ∃ s', (execPulseWidthEnd s) = .next s' ∧ s'.Good Q := by
  refine ⟨_, rfl, ?_⟩
  repeat' (first
    | with_reducible assumption | with_reducible refine State.pulseEnd_good _ ?_
    | with_reducible refine State.awake_good _ _ (fun _ _ => ?_) ?_)
theorem execPwmPhaseError_good {Q : Claim} (t : Nat) (e : Int) (steps : Int) (lasts : Bool) (s : State) (h : s.Good Q) :
    ∃ s', (execPwmPhaseError t e steps lasts s) = .next s' ∧ s'.Good Q := by
  refine ⟨_, rfl, ?_⟩
  repeat' (first
    | with_reducible assumption | with_reducible refine State.pwmPhase_good _ _ _ _ ?_
    | with_reducible refine State.at__good _ _ ?_ | with_reducible refine State.awake_good _ _ (fun _ _ => ?_) ?_)
theorem execMgrHeartbeatRx_good {Q : Claim} (t : Nat) (src : Fin 1024) (p : List Byte) (s : State) (h : s.Good Q) :
    ∃ s', (execMgrHeartbeatRx t src p s) = .next s' ∧ s'.Good Q := by
  refine ⟨_, rfl, ?_⟩
  repeat' (first
    | with_reducible assumption | with_reducible refine State.heartbeatRx_good _ _ _ ?_
    | with_reducible refine State.at__good _ _ ?_ | with_reducible refine State.awake_good _ _ (fun _ _ => ?_) ?_)
theorem execMgrListenExpiry_good {Q : Claim} (s : State) (h : s.Good Q) :
    ∃ s', (execMgrListenExpiry s) = .next s' ∧ s'.Good Q := by
  refine ⟨_, rfl, ?_⟩
  repeat' (first
    | with_reducible assumption | with_reducible refine State.listenExpiry_good _ ?_
    | with_reducible refine State.awake_good _ _ (fun _ _ => ?_) ?_)
theorem execMgrTakePass_good {Q : Claim} (s : State) (h : s.Good Q) :
    ∃ s', (execMgrTakePass s) = .next s' ∧ s'.Good Q := by
  refine ⟨_, rfl, ?_⟩
  repeat' (first
    | with_reducible assumption | with_reducible refine State.mgrTake_good _ ?_
    | with_reducible refine State.awake_good _ _ (fun _ _ => ?_) ?_)
theorem execTransferReqRx_good {Q : Claim} (t : Nat) (s : State) (h : s.Good Q) :
    ∃ s', (execTransferReqRx t s) = .next s' ∧ s'.Good Q := by
  refine ⟨_, rfl, ?_⟩
  repeat' (first
    | with_reducible assumption | with_reducible refine State.transferReq_good _ ?_
    | with_reducible refine State.at__good _ _ ?_ | with_reducible refine State.awake_good _ _ (fun _ _ => ?_) ?_)
theorem execStateRx_good {Q : Claim} (t : Nat) (ks : BitVec 64) (ofs : BitVec 32) (total : BitVec 32) (chunk : List Byte) (s : State) (h : s.Good Q) :
    ∃ s', (execStateRx t ks ofs total chunk s) = .next s' ∧ s'.Good Q := by
  refine ⟨_, rfl, ?_⟩
  repeat' (first
    | with_reducible assumption | with_reducible refine State.stateRx_good _ _ _ _ _ ?_
    | with_reducible refine State.at__good _ _ ?_ | with_reducible refine State.awake_good _ _ (fun _ _ => ?_) ?_)
theorem execTransferTimeout_good {Q : Claim} (s : State) (h : s.Good Q) :
    ∃ s', (execTransferTimeout s) = .next s' ∧ s'.Good Q := by
  refine ⟨_, rfl, ?_⟩
  repeat' (first
    | with_reducible assumption | with_reducible refine State.transferTimeout_good _ ?_
    | with_reducible refine State.awake_good _ _ (fun _ _ => ?_) ?_)
theorem execMgrTransfer_good {Q : Claim} (q : Req) (s : State) (h : s.Good Q) :
    ∃ s', (execMgrTransfer q s) = .next s' ∧ s'.Good Q := by
  refine ⟨_, rfl, ?_⟩
  repeat' (first
    | with_reducible assumption | with_reducible refine State.writeCmd_good _ _ _ _ _ ?_)
theorem execMgrHandback_good {Q : Claim} (q : Req) (s : State) (h : s.Good Q) :
    ∃ s', (execMgrHandback q s) = .next s' ∧ s'.Good Q := by
  refine ⟨_, rfl, ?_⟩
  repeat' (first
    | with_reducible assumption | with_reducible refine State.writeCmd_good _ _ _ _ _ ?_)
theorem execReclaimHoldExpiry_good {Q : Claim} (s : State) (h : s.Good Q) :
    ∃ s', (execReclaimHoldExpiry s) = .next s' ∧ s'.Good Q := by
  refine ⟨_, rfl, ?_⟩
  repeat' (first
    | with_reducible assumption | with_reducible refine State.reclaim_good _ ?_
    | with_reducible refine State.awake_good _ _ (fun _ _ => ?_) ?_)
theorem execHandbackReqRx_good {Q : Claim} (t : Nat) (s : State) (h : s.Good Q) :
    ∃ s', (execHandbackReqRx t s) = .next s' ∧ s'.Good Q := by
  refine ⟨_, rfl, ?_⟩
  repeat' (first
    | with_reducible assumption | with_reducible refine State.handbackReq_good _ ?_
    | with_reducible refine State.at__good _ _ ?_ | with_reducible refine State.awake_good _ _ (fun _ _ => ?_) ?_)
theorem execHandbackAcceptRx_good {Q : Claim} (t : Nat) (kh : BitVec 64) (s : State) (h : s.Good Q) :
    ∃ s', (execHandbackAcceptRx t kh s) = .next s' ∧ s'.Good Q := by
  refine ⟨_, rfl, ?_⟩
  repeat' (first
    | with_reducible assumption | with_reducible refine State.handbackAccept_good _ _ ?_
    | with_reducible refine State.at__good _ _ ?_ | with_reducible refine State.awake_good _ _ (fun _ _ => ?_) ?_)
theorem execHandbackAbortRx_good {Q : Claim} (t : Nat) (reason : BitVec 16) (s : State) (h : s.Good Q) :
    ∃ s', (execHandbackAbortRx t reason s) = .next s' ∧ s'.Good Q := by
  refine ⟨_, rfl, ?_⟩
  repeat' (first
    | with_reducible assumption | with_reducible refine State.handbackAbort_good _ _ ?_
    | with_reducible refine State.at__good _ _ ?_ | with_reducible refine State.awake_good _ _ (fun _ _ => ?_) ?_)
theorem execHandbackSwitch_good {Q : Claim} (s : State) (h : s.Good Q) :
    ∃ s', (execHandbackSwitch s) = .next s' ∧ s'.Good Q := by
  refine ⟨_, rfl, ?_⟩
  repeat' (first
    | with_reducible assumption | with_reducible refine State.handbackSwitch_good _ ?_
    | with_reducible refine State.awake_good _ _ (fun _ _ => ?_) ?_)
theorem execOverlapEnd_good {Q : Claim} (s : State) (h : s.Good Q) :
    ∃ s', (execOverlapEnd s) = .next s' ∧ s'.Good Q := by
  refine ⟨_, rfl, ?_⟩
  repeat' (first
    | with_reducible assumption | with_reducible refine State.overlapEnd_good _ ?_
    | with_reducible refine State.awake_good _ _ (fun _ _ => ?_) ?_)
theorem execWkHoldExpiry_good {Q : Claim} (s : State) (h : s.Good Q) :
    ∃ s', (execWkHoldExpiry s) = .next s' ∧ s'.Good Q := by
  refine ⟨_, rfl, ?_⟩
  repeat' (first
    | with_reducible assumption | with_reducible refine State.wkHold_good _ ?_
    | with_reducible refine State.awake_good _ _ (fun _ _ => ?_) ?_)
theorem execWkDroopExpiry_good {Q : Claim} (s : State) (h : s.Good Q) :
    ∃ s', (execWkDroopExpiry s) = .next s' ∧ s'.Good Q := by
  refine ⟨_, rfl, ?_⟩
  repeat' (first
    | with_reducible assumption | with_reducible refine State.wkDroop_good _ ?_
    | with_reducible refine State.awake_good _ _ (fun _ _ => ?_) ?_)
theorem execRcPeriodTick_good {Q : Claim} (t : Nat) (idle : BitVec 69) (s : State) (h : s.Good Q) :
    ∃ s', (execRcPeriodTick t idle s) = .next s' ∧ s'.Good Q := by
  refine ⟨_, rfl, ?_⟩
  repeat' (first
    | with_reducible assumption | with_reducible refine State.rcTick_good _ _ ?_
    | with_reducible refine State.at__good _ _ ?_ | with_reducible refine State.awake_good _ _ (fun _ _ => ?_) ?_)
theorem execClkApply_good {Q : Claim} (q : Req) (s : State) (h : s.Good Q) :
    ∃ s', (execClkApply q s) = .next s' ∧ s'.Good Q := by
  refine ⟨_, rfl, ?_⟩
  repeat' (first
    | with_reducible assumption | with_reducible refine good_ite ?_ ?_ | with_reducible refine State.writeCmd_good _ _ _ _ _ ?_ | dsimp only
    | split)
theorem execClkDiscard_good {Q : Claim} (q : Req) (s : State) (h : s.Good Q) :
    ∃ s', (execClkDiscard q s) = .next s' ∧ s'.Good Q := by
  refine ⟨_, rfl, ?_⟩
  repeat' (first
    | with_reducible assumption | with_reducible refine good_ite ?_ ?_ | with_reducible refine State.writeCmd_good _ _ _ _ _ ?_ | dsimp only
    | split)
theorem execPllSysLock_good {Q : Claim} (t : Nat) (count : BitVec 16) (s : State) (h : s.Good Q) :
    ∃ s', (execPllSysLock t count s) = .next s' ∧ s'.Good Q := by
  refine ⟨_, rfl, ?_⟩
  repeat' (first
    | with_reducible assumption | with_reducible refine good_ite ?_ ?_ | with_reducible refine State.serveStalled_good _ ?_ | with_reducible refine State.clkSettle_good _ ?_
    | with_reducible refine State.lockWindow_good _ _ _ ?_ | with_reducible refine State.awake_good _ _ (fun _ _ => ?_) ?_ | dsimp only | split)
theorem execPllSysUnlock_good {Q : Claim} (t : Nat) (count : BitVec 16) (s : State) (h : s.Good Q) :
    ∃ s', (execPllSysUnlock t count s) = .next s' ∧ s'.Good Q := by
  refine ⟨_, rfl, ?_⟩
  repeat' (first
    | with_reducible assumption | with_reducible refine good_ite ?_ ?_ | with_reducible refine State.serveStalled_good _ ?_ | with_reducible refine State.clkSettle_good _ ?_
    | with_reducible refine State.lockWindow_good _ _ _ ?_ | with_reducible refine State.awake_good _ _ (fun _ _ => ?_) ?_ | dsimp only | split)
theorem execRelockTimeout_good {Q : Claim} (s : State) (h : s.Good Q) :
    ∃ s', (execRelockTimeout s) = .next s' ∧ s'.Good Q := by
  refine ⟨_, rfl, ?_⟩
  repeat' (first
    | with_reducible assumption | with_reducible refine good_ite ?_ ?_ | with_reducible refine State.relockTimeout_good _ ?_ | with_reducible refine State.awake_good _ _ (fun _ _ => ?_) ?_
    | dsimp only | split)
theorem execPllLinkLockChange_good {Q : Claim} (t : Nat) (on : Bool) (err : Int) (s : State) (h : s.Good Q) :
    ∃ s', (execPllLinkLockChange t on err s) = .next s' ∧ s'.Good Q := by
  refine ⟨_, rfl, ?_⟩
  repeat' (first
    | with_reducible assumption | with_reducible refine good_ite ?_ ?_ | with_reducible refine State.linkLockChange_good _ _ _ ?_ | with_reducible refine State.at__good _ _ ?_
    | with_reducible refine State.awake_good _ _ (fun _ _ => ?_) ?_ | dsimp only | split)
theorem execRefclkLost_good {Q : Claim} (t : Nat) (s : State) (h : s.Good Q) :
    ∃ s', (execRefclkLost t s) = .next s' ∧ s'.Good Q := by
  refine ⟨_, rfl, ?_⟩
  repeat' (first
    | with_reducible assumption | with_reducible refine good_ite ?_ ?_ | with_reducible refine State.serveStalled_good _ ?_ | with_reducible refine State.clkSettle_good _ ?_
    | with_reducible refine State.refLostClk_good _ ?_ | with_reducible refine State.at__good _ _ ?_ | with_reducible refine State.awake_good _ _ (fun _ _ => ?_) ?_ | dsimp only
    | split)
theorem execRefclkReturn_good {Q : Claim} (t : Nat) (s : State) (h : s.Good Q) :
    ∃ s', (execRefclkReturn t s) = .next s' ∧ s'.Good Q := by
  refine ⟨_, rfl, ?_⟩
  repeat' (first
    | with_reducible assumption | with_reducible refine good_ite ?_ ?_ | with_reducible refine State.refReturn_good _ ?_ | with_reducible refine State.at__good _ _ ?_
    | with_reducible refine State.awake_good _ _ (fun _ _ => ?_) ?_ | dsimp only | split)
theorem execLinkclkLost_good {Q : Claim} (t : Nat) (s : State) (h : s.Good Q) :
    ∃ s', (execLinkclkLost t s) = .next s' ∧ s'.Good Q := by
  refine ⟨_, rfl, ?_⟩
  repeat' (first
    | with_reducible assumption | with_reducible refine good_ite ?_ ?_ | with_reducible refine State.linkclkLost_good _ ?_ | with_reducible refine State.at__good _ _ ?_
    | with_reducible refine State.awake_good _ _ (fun _ _ => ?_) ?_ | dsimp only | split)
theorem execClkFreqError_good {Q : Claim} (t : Nat) (i : Fin 8) (hz : BitVec 32) (s : State) (h : s.Good Q) :
    ∃ s', (execClkFreqError t i hz s) = .next s' ∧ s'.Good Q := by
  refine ⟨_, rfl, ?_⟩
  repeat' (first
    | with_reducible assumption | with_reducible refine good_ite ?_ ?_ | with_reducible refine State.clkFreq_good _ _ _ ?_ | with_reducible refine State.at__good _ _ ?_
    | with_reducible refine State.awake_good _ _ (fun _ _ => ?_) ?_ | dsimp only | split)
theorem execClkPeriodGuard_good {Q : Claim} (t : Nat) (i : Fin 3) (s : State) (h : s.Good Q) :
    ∃ s', (execClkPeriodGuard t i s) = .next s' ∧ s'.Good Q := by
  refine ⟨_, rfl, ?_⟩
  repeat' (first
    | with_reducible assumption | with_reducible refine good_ite ?_ ?_ | with_reducible refine State.periodGuard_good _ _ ?_ | with_reducible refine State.at__good _ _ ?_
    | with_reducible refine State.awake_good _ _ (fun _ _ => ?_) ?_ | dsimp only | split)
theorem execPwrReqWrite_good {Q : Claim} (q : Req) (v : BitVec 16) (s : State) (h : s.Good Q) :
    ∃ s', (execPwrReqWrite q v s) = .next s' ∧ s'.Good Q := by
  refine ⟨_, rfl, ?_⟩
  repeat' (first
    | with_reducible assumption | with_reducible refine good_ite ?_ ?_ | with_reducible refine State.writeCmd_good _ _ _ _ _ ?_ | dsimp only
    | split)
theorem execDomainWakeAccess_good {Q : Claim} (t : Nat) (d : Fin 10) (a : BusUse) (s : State) (h : s.Good Q) :
    ∃ s', (execDomainWakeAccess t d a s) = .next s' ∧ s'.Good Q := by
  refine ⟨_, rfl, ?_⟩
  repeat' (first
    | with_reducible assumption | with_reducible refine good_ite ?_ ?_ | with_reducible refine State.busAccess_good _ _ _ _ ?_ | with_reducible refine State.at__good _ _ ?_
    | with_reducible refine State.awake_good _ _ (fun _ _ => ?_) ?_ | dsimp only | split)
theorem execDomainReady_good {Q : Claim} (d : Fin 10) (t : Nat) (s : State) (h : s.Good Q) :
    ∃ s', (execDomainReady d t s) = .next s' ∧ s'.Good Q := by
  refine ⟨_, rfl, ?_⟩
  repeat' (first
    | with_reducible assumption | with_reducible refine good_ite ?_ ?_ | with_reducible refine State.serveStalled_good _ ?_ | with_reducible refine State.domainReady_good _ _ _ ?_
    | with_reducible refine State.awake_good _ _ (fun _ _ => ?_) ?_ | dsimp only | split)
theorem execPwrWakeTmo_good {Q : Claim} (d : Fin 10) (s : State) (h : s.Good Q) :
    ∃ s', (execPwrWakeTmo d s) = .next s' ∧ s'.Good Q := by
  refine ⟨_, rfl, ?_⟩
  repeat' (first
    | with_reducible assumption | with_reducible refine good_ite ?_ ?_ | with_reducible refine State.refuseStalled_good _ _ ?_ | with_reducible refine State.wakeTimeout_good _ _ ?_
    | with_reducible refine State.awake_good _ _ (fun _ _ => ?_) ?_ | dsimp only | split)
theorem execPwrBank_good {Q : Claim} (t : Nat) (b : Fin 8) (s : State) (h : s.Good Q) :
    ∃ s', (execPwrBank t b s) = .next s' ∧ s'.Good Q := by
  refine ⟨_, rfl, ?_⟩
  repeat' (first
    | with_reducible assumption | with_reducible refine good_ite ?_ ?_ | with_reducible refine State.settleReset_good _ ?_ | with_reducible refine State.pwrBank_good _ _ ?_
    | with_reducible refine State.at__good _ _ ?_ | with_reducible refine State.supplySet_good _ _ _ ?_ | dsimp only | split)
theorem execPwrAnalog_good {Q : Claim} (t : Nat) (s : State) (h : s.Good Q) :
    ∃ s', (execPwrAnalog t s) = .next s' ∧ s'.Good Q := by
  refine ⟨_, rfl, ?_⟩
  repeat' (first
    | with_reducible assumption | with_reducible refine good_ite ?_ ?_ | with_reducible refine State.pwrAnalog_good _ ?_ | with_reducible refine State.at__good _ _ ?_
    | with_reducible refine State.supplySet_good _ _ _ ?_ | dsimp only | split)
theorem execPwrIo_good {Q : Claim} (t : Nat) (i : Fin 3) (s : State) (h : s.Good Q) :
    ∃ s', (execPwrIo t i s) = .next s' ∧ s'.Good Q := by
  refine ⟨_, rfl, ?_⟩
  repeat' (first
    | with_reducible assumption | with_reducible refine good_ite ?_ ?_ | with_reducible refine State.pwrIo_good _ _ ?_ | with_reducible refine State.at__good _ _ ?_
    | with_reducible refine State.supplySet_good _ _ _ ?_ | dsimp only | split)
theorem execSupplyInRange_good {Q : Claim} (t : Nat) (i : Fin 12) (s : State) (h : s.Good Q) :
    ∃ s', (execSupplyInRange t i s) = .next s' ∧ s'.Good Q := by
  refine ⟨_, rfl, ?_⟩
  repeat' (first
    | with_reducible assumption | with_reducible refine good_ite ?_ ?_ | with_reducible refine State.supplySet_good _ _ _ ?_ | with_reducible refine State.at__good _ _ ?_
    | dsimp only | split)
theorem execSleep_good {Q : Claim} (q : Req) (s : State) (h : s.Good Q) :
    ∃ s', (execSleep q s) = .next s' ∧ s'.Good Q := by
  refine ⟨_, rfl, ?_⟩
  repeat' (first
    | with_reducible assumption | with_reducible refine good_ite ?_ ?_ | with_reducible refine State.writeCmd_good _ _ _ _ _ ?_ | dsimp only
    | split)
theorem execWakeN_good {Q : Claim} (t : Nat) (width : Nat) (s : State) (h : s.Good Q) :
    ∃ s', (execWakeN t width s) = .next s' ∧ s'.Good Q := by
  refine ⟨_, rfl, ?_⟩
  repeat' (first
    | with_reducible assumption | with_reducible refine good_ite ?_ ?_ | with_reducible refine State.wakeN_good _ _ _ ?_ | dsimp only
    | split)
theorem execSleepTimerExpiry_good {Q : Claim} (s : State) (h : s.Good Q) :
    ∃ s', (execSleepTimerExpiry s) = .next s' ∧ s'.Good Q := by
  refine ⟨_, rfl, ?_⟩
  repeat' (first
    | with_reducible assumption | with_reducible refine good_ite ?_ ?_ | with_reducible refine State.sleepTimer_good _ ?_ | dsimp only
    | split)
theorem execPorstN_good {Q : Claim} (t : Nat) (low : CoreLow) (s : State) (h : s.Good Q) :
    ∃ s', (execPorstN t low s) = .next s' ∧ s'.Good Q := by
  refine ⟨_, rfl, ?_⟩
  repeat' (first
    | with_reducible assumption | with_reducible refine good_ite ?_ ?_ | with_reducible refine State.porstN_good _ _ _ _ ?_ | dsimp only
    | split)
theorem execRstN_good {Q : Claim} (t : Nat) (width : Nat) (s : State) (h : s.Good Q) :
    ∃ s', (execRstN t width s) = .next s' ∧ s'.Good Q := by
  refine ⟨_, rfl, ?_⟩
  repeat' (first
    | with_reducible assumption | with_reducible refine good_ite ?_ ?_ | with_reducible refine State.rstN_good _ _ _ ?_ | dsimp only
    | split)
theorem execRstHeld_good {Q : Claim} (t : Nat) (s : State) (h : s.Good Q) :
    ∃ s', (execRstHeld t s) = .next s' ∧ s'.Good Q := by
  refine ⟨_, rfl, ?_⟩
  repeat' (first
    | with_reducible assumption | with_reducible refine good_ite ?_ ?_ | with_reducible refine State.rstHeldLow_good _ _ ?_ | dsimp only
    | split)
theorem execRstCmd_good {Q : Claim} (q : Req) (s : State) (h : s.Good Q) :
    ∃ s', (execRstCmd q s) = .next s' ∧ s'.Good Q := by
  refine ⟨_, rfl, ?_⟩
  repeat' (first
    | with_reducible assumption | with_reducible refine good_ite ?_ ?_ | with_reducible refine State.writeCmd_good _ _ _ _ _ ?_ | dsimp only
    | split)
theorem execHostWdService_good {Q : Claim} (q : Req) (s : State) (h : s.Good Q) :
    ∃ s', (execHostWdService q s) = .next s' ∧ s'.Good Q := by
  refine ⟨_, rfl, ?_⟩
  repeat' (first
    | with_reducible assumption | with_reducible refine good_ite ?_ ?_ | with_reducible refine State.writeCmd_good _ _ _ _ _ ?_ | dsimp only
    | split)
theorem execHostWdExpiry_good {Q : Claim} (s : State) (h : s.Good Q) :
    ∃ s', (execHostWdExpiry s) = .next s' ∧ s'.Good Q := by
  refine ⟨_, rfl, ?_⟩
  repeat' (first
    | with_reducible assumption | with_reducible refine good_ite ?_ ?_ | with_reducible refine State.hostWdExpiry_good _ ?_ | with_reducible refine State.awake_good _ _ (fun _ _ => ?_) ?_
    | dsimp only | split)
theorem execBootStageDone_good {Q : Claim} (t : Nat) (bad : Nat) (s : State) (h : s.Good Q) :
    ∃ s', (execBootStageDone t bad s) = .next s' ∧ s'.Good Q := by
  refine ⟨_, rfl, ?_⟩
  repeat' (first
    | with_reducible assumption | with_reducible refine good_ite ?_ ?_ | with_reducible refine State.bootStage_good _ _ _ ?_ | with_reducible refine State.awake_good _ _ (fun _ _ => ?_) ?_
    | dsimp only | split)
theorem execCfgCommit_good {Q : Claim} (q : Req) (s : State) (h : s.Good Q) :
    ∃ s', (execCfgCommit q s) = .next s' ∧ s'.Good Q := by
  refine ⟨_, rfl, ?_⟩
  repeat' (first
    | with_reducible assumption | with_reducible refine good_ite ?_ ?_ | with_reducible refine State.writeCmd_good _ _ _ _ _ ?_ | dsimp only
    | split)
theorem execCfgDefaults_good {Q : Claim} (q : Req) (s : State) (h : s.Good Q) :
    ∃ s', (execCfgDefaults q s) = .next s' ∧ s'.Good Q := by
  refine ⟨_, rfl, ?_⟩
  repeat' (first
    | with_reducible assumption | with_reducible refine good_ite ?_ ?_ | with_reducible refine State.writeCmd_good _ _ _ _ _ ?_ | dsimp only
    | split)
theorem execCfgCommitDone_good {Q : Claim} (t : Nat) (good : Bool) (s : State) (h : s.Good Q) :
    ∃ s', (execCfgCommitDone t good s) = .next s' ∧ s'.Good Q := by
  refine ⟨_, rfl, ?_⟩
  repeat' (first
    | with_reducible assumption | with_reducible refine good_ite ?_ ?_ | with_reducible refine State.commitDone_good _ _ _ ?_ | with_reducible refine State.awake_good _ _ (fun _ _ => ?_) ?_
    | dsimp only | split)
theorem execCfgImageWrite_good {Q : Claim} (q : Req) (img : List Byte) (s : State) (h : s.Good Q) :
    ∃ s', (execCfgImageWrite q img s) = .next s' ∧ s'.Good Q := by
  refine ⟨_, rfl, ?_⟩
  repeat' (first
    | with_reducible assumption | with_reducible refine good_ite ?_ ?_ | with_reducible refine State.writeWhole_good _ _ _ _ _ ?_ | dsimp only
    | split)
theorem execFwImageWrite_good {Q : Claim} (q : Req) (img : List Byte) (s : State) (h : s.Good Q) :
    ∃ s', (execFwImageWrite q img s) = .next s' ∧ s'.Good Q := by
  refine ⟨_, rfl, ?_⟩
  repeat' (first
    | with_reducible assumption | with_reducible refine good_ite ?_ ?_ | with_reducible refine State.writeWhole_good _ _ _ _ _ ?_ | dsimp only
    | split)
theorem execFwActivate_good {Q : Claim} (q : Req) (s : State) (h : s.Good Q) :
    ∃ s', (execFwActivate q s) = .next s' ∧ s'.Good Q := by
  refine ⟨_, rfl, ?_⟩
  repeat' (first
    | with_reducible assumption | with_reducible refine good_ite ?_ ?_ | with_reducible refine State.writeCmd_good _ _ _ _ _ ?_ | dsimp only
    | split)
theorem execFwConfirm_good {Q : Claim} (q : Req) (s : State) (h : s.Good Q) :
    ∃ s', (execFwConfirm q s) = .next s' ∧ s'.Good Q := by
  refine ⟨_, rfl, ?_⟩
  repeat' (first
    | with_reducible assumption | with_reducible refine good_ite ?_ ?_ | with_reducible refine State.writeCmd_good _ _ _ _ _ ?_ | dsimp only
    | split)
theorem execOwnerKey_good {Q : Claim} (q : Req) (s : State) (h : s.Good Q) :
    ∃ s', (execOwnerKey q s) = .next s' ∧ s'.Good Q := by
  refine ⟨_, rfl, ?_⟩
  repeat' (first
    | with_reducible assumption | with_reducible refine good_ite ?_ ?_ | with_reducible refine State.writeCmd_good _ _ _ _ _ ?_ | dsimp only
    | split)
theorem execRevokeKey0_good {Q : Claim} (q : Req) (s : State) (h : s.Good Q) :
    ∃ s', (execRevokeKey0 q s) = .next s' ∧ s'.Good Q := by
  refine ⟨_, rfl, ?_⟩
  repeat' (first
    | with_reducible assumption | with_reducible refine good_ite ?_ ?_ | with_reducible refine State.writeCmd_good _ _ _ _ _ ?_ | dsimp only
    | split)
theorem execOwnRb_good {Q : Claim} (q : Req) (s : State) (h : s.Good Q) :
    ∃ s', (execOwnRb q s) = .next s' ∧ s'.Good Q := by
  refine ⟨_, rfl, ?_⟩
  repeat' (first
    | with_reducible assumption | with_reducible refine good_ite ?_ ?_ | with_reducible refine State.writeCmd_good _ _ _ _ _ ?_ | dsimp only
    | split)
theorem execDebugKill_good {Q : Claim} (q : Req) (s : State) (h : s.Good Q) :
    ∃ s', (execDebugKill q s) = .next s' ∧ s'.Good Q := by
  refine ⟨_, rfl, ?_⟩
  repeat' (first
    | with_reducible assumption | with_reducible refine good_ite ?_ ?_ | with_reducible refine State.writeCmd_good _ _ _ _ _ ?_ | dsimp only
    | split)
theorem execSecDebugUnlock_good {Q : Claim} (q : Req) (img : List Byte) (s : State) (h : s.Good Q) :
    ∃ s', (execSecDebugUnlock q img s) = .next s' ∧ s'.Good Q := by
  refine ⟨_, rfl, ?_⟩
  repeat' (first
    | with_reducible assumption | with_reducible refine good_ite ?_ ?_ | with_reducible refine State.writeWhole_good _ _ _ _ _ ?_ | dsimp only
    | split)
theorem execSecNonce_good {Q : Claim} (q : Req) (data : List Byte) (s : State) (h : s.Good Q) :
    ∃ s', (execSecNonce q data s) = .next s' ∧ s'.Good Q := by
  refine ⟨_, rfl, ?_⟩
  repeat' (first
    | with_reducible assumption | with_reducible refine good_ite ?_ ?_ | with_reducible refine State.writeCmd_good _ _ _ _ _ ?_ | dsimp only
    | split)
theorem execSecAttest_good {Q : Claim} (q : Req) (s : State) (h : s.Good Q) :
    ∃ s', (execSecAttest q s) = .next s' ∧ s'.Good Q := by
  refine ⟨_, rfl, ?_⟩
  repeat' (first
    | with_reducible assumption | with_reducible refine good_ite ?_ ?_ | with_reducible refine State.readCmd_good _ _ _ _ ?_ | dsimp only
    | split)
theorem execCelLogPageWrite_good {Q : Claim} (s : State) (h : s.Good Q) :
    ∃ s', (execCelLogPageWrite s) = .next s' ∧ s'.Good Q := by
  refine ⟨_, rfl, ?_⟩
  repeat' (first
    | with_reducible assumption | with_reducible refine good_ite ?_ ?_ | with_reducible refine State.seeWear_good _ _ ?_ ?_ | with_reducible refine State.logPage_good _ ?_
    | with_reducible refine State.awake_good _ _ (fun _ _ => ?_) ?_ | dsimp only | split)
theorem execTrigger_good {Q : Claim} (q : Req) (s : State) (h : s.Good Q) :
    ∃ s', (execTrigger q s) = .next s' ∧ s'.Good Q := by
  refine ⟨_, rfl, ?_⟩
  repeat' (first
    | with_reducible assumption | with_reducible refine good_ite ?_ ?_ | with_reducible refine State.writeCmd_good _ _ _ _ _ ?_ | dsimp only
    | split)
theorem execProtect_good {Q : Claim} (q : Req) (s : State) (h : s.Good Q) :
    ∃ s', (execProtect q s) = .next s' ∧ s'.Good Q := by
  refine ⟨_, rfl, ?_⟩
  repeat' (first
    | with_reducible assumption | with_reducible refine good_ite ?_ ?_ | with_reducible refine State.writeCmd_good _ _ _ _ _ ?_ | dsimp only
    | split)
theorem execUnprotect_good {Q : Claim} (q : Req) (s : State) (h : s.Good Q) :
    ∃ s', (execUnprotect q s) = .next s' ∧ s'.Good Q := by
  refine ⟨_, rfl, ?_⟩
  repeat' (first
    | with_reducible assumption | with_reducible refine good_ite ?_ ?_ | with_reducible refine State.writeCmd_good _ _ _ _ _ ?_ | dsimp only
    | split)
theorem execUpload_good {Q : Claim} (q : Req) (s : State) (h : s.Good Q) :
    ∃ s', (execUpload q s) = .next s' ∧ s'.Good Q := by
  refine ⟨_, rfl, ?_⟩
  repeat' (first
    | with_reducible assumption | with_reducible refine good_ite ?_ ?_ | with_reducible refine State.writeCmd_good _ _ _ _ _ ?_ | dsimp only
    | split)
theorem execCelRead_good {Q : Claim} (q : Req) (offset : BitVec 32) (len : BitVec 16) (s : State) (h : s.Good Q) :
    ∃ s', (execCelRead q offset len s) = .next s' ∧ s'.Good Q := by
  refine ⟨_, rfl, ?_⟩
  repeat' (first
    | with_reducible assumption | with_reducible refine good_ite ?_ ?_ | with_reducible refine State.request_good _ _ ?_ | dsimp only
    | split)
theorem execCelDumpEnd_good {Q : Claim} (s : State) (h : s.Good Q) :
    ∃ s', (execCelDumpEnd s) = .next s' ∧ s'.Good Q := by
  refine ⟨_, rfl, ?_⟩
  repeat' (first
    | with_reducible assumption | with_reducible refine good_ite ?_ ?_ | with_reducible refine State.dumpEnd_good _ ?_ | with_reducible refine State.awake_good _ _ (fun _ _ => ?_) ?_
    | dsimp only | split)
theorem execPreWindowWritten_good {Q : Claim} (s : State) (h : s.Good Q) :
    ∃ s', (execPreWindowWritten s) = .next s' ∧ s'.Good Q := by
  refine ⟨_, rfl, ?_⟩
  repeat' (first
    | with_reducible assumption | with_reducible refine good_ite ?_ ?_ | with_reducible refine State.preWritten_good _ ?_ | with_reducible refine State.awake_good _ _ (fun _ _ => ?_) ?_
    | dsimp only | split)
theorem execUploadDone_good {Q : Claim} (s : State) (h : s.Good Q) :
    ∃ s', (execUploadDone s) = .next s' ∧ s'.Good Q := by
  refine ⟨_, rfl, ?_⟩
  repeat' (first
    | with_reducible assumption | with_reducible refine good_ite ?_ ?_ | with_reducible refine State.uploadDone_good _ ?_ | with_reducible refine State.awake_good _ _ (fun _ _ => ?_) ?_
    | dsimp only | split)
theorem execFuseCmdDone_good {Q : Claim} (t : Nat) (good : Bool) (s : State) (h : s.Good Q) :
    ∃ s', (execFuseCmdDone t good s) = .next s' ∧ s'.Good Q := by
  refine ⟨_, rfl, ?_⟩
  repeat' (first
    | with_reducible assumption | with_reducible refine good_ite ?_ ?_ | with_reducible refine State.fuseDone_good _ _ _ ?_ | with_reducible refine State.awake_good _ _ (fun _ _ => ?_) ?_
    | dsimp only | split)
theorem execBistRun_good {Q : Claim} (q : Req) (s : State) (h : s.Good Q) :
    ∃ s', (execBistRun q s) = .next s' ∧ s'.Good Q := by
  refine ⟨_, rfl, ?_⟩
  repeat' (first
    | with_reducible assumption | with_reducible refine good_ite ?_ ?_ | with_reducible refine State.writeCmd_good _ _ _ _ _ ?_ | dsimp only
    | split)
theorem execBistAbort_good {Q : Claim} (q : Req) (s : State) (h : s.Good Q) :
    ∃ s', (execBistAbort q s) = .next s' ∧ s'.Good Q := by
  refine ⟨_, rfl, ?_⟩
  repeat' (first
    | with_reducible assumption | with_reducible refine good_ite ?_ ?_ | with_reducible refine State.writeCmd_good _ _ _ _ _ ?_ | dsimp only
    | split)
theorem execBistRunEnd_good {Q : Claim} (sig : BitVec 64) (addr : BitVec 32) (s : State) (h : s.Good Q) :
    ∃ s', (execBistRunEnd sig addr s) = .next s' ∧ s'.Good Q := by
  refine ⟨_, rfl, ?_⟩
  repeat' (first
    | with_reducible assumption | with_reducible refine good_ite ?_ ?_ | with_reducible refine State.serveStalled_good _ ?_ | with_reducible refine State.bistDone_good _ _ _ ?_
    | with_reducible refine State.awake_good _ _ (fun _ _ => ?_) ?_ | dsimp only | split)

end Sys2Proof.Machine
end

