-- ==== Sys2Proof/Laws/PerInstr.lean ====
section
/-! SUPPORT. What holds of every command as syntax, one lemma for each constructor: the request that a well-formed command
carries fits the header fields of R454 and names a sender that its path has. -/

namespace Sys2Proof.Laws

set_option Elab.async false

/-- The request of a command that is one (R454). -/
def requestOf : Instr → Option Req
  | .odRead q _ _ _ => some q
  | .odWrite q _ _ _ => some q
  | .describe q _ _ _ _ => some q
  | .readSeg q _ _ _ _ _ => some q
  | .writeSeg q _ _ _ _ _ _ => some q
  | .abortSeg q _ _ => some q
  | .hello q _ => some q
  | .spiIrqPendRead q => some q
  | .slotTemplateWrite q _ _ => some q
  | .start q _ _ => some q
  | .stop q _ _ => some q
  | .bypass q _ _ => some q
  | .insert q _ _ => some q
  | .clear q _ _ => some q
  | .allStop q => some q
  | .unitLoopBind q _ _ _ => some q
  | .carRunStart q _ => some q
  | .carRunStop q _ => some q
  | .carCommit q _ => some q
  | .carCommitDiscard q _ => some q
  | .forceNone q _ _ => some q
  | .forceOff q _ _ => some q
  | .forceUpper q _ _ => some q
  | .forceLower q _ _ => some q
  | .forceRaw q _ _ _ _ => some q
  | .ggDtWrite q _ _ _ => some q
  | .mdCtrlWrite q _ _ _ => some q
  | .qHostPop q => some q
  | .qClr q => some q
  | .lsProgramWrite q _ _ => some q
  | .lsRun q _ => some q
  | .lsStop q _ => some q
  | .lsHold q _ => some q
  | .lsResume q _ => some q
  | .lsUnload q _ => some q
  | .lsBankSwap q _ => some q
  | .lsCoefImageWrite q _ _ => some q
  | .lsCoefWordWrite q _ _ => some q
  | .lsCoefDirect q _ _ _ => some q
  | .lsInValWrite q _ _ _ => some q
  | .precharge q _ => some q
  | .mainClosed q _ => some q
  | .strStop q _ => some q
  | .strClear q _ => some q
  | .lvpStart q _ => some q
  | .lvpStop q _ => some q
  | .lvpClear q _ => some q
  | .fbScCountWrite q _ => some q
  | .fbPlsCountWrite q _ => some q
  | .fbIrqClr q _ => some q
  | .fbCtrlWrite q _ => some q
  | .thShutClr q _ => some q
  | .thSensorClr q _ => some q
  | .fltClr q _ _ => some q
  | .fltFirstClr q _ => some q
  | .fltCfgWrite q _ _ => some q
  | .safeWrite q _ _ _ => some q
  | .sfStoAck q _ => some q
  | .sfOpen q => some q
  | .sfVerify q => some q
  | .sfAbort q => some q
  | .sfConfirm q _ => some q
  | .sfImageWrite q _ => some q
  | .laneEnable q _ _ => some q
  | .laneHold q _ _ => some q
  | .laneTest q _ _ => some q
  | .laneLoop q _ _ => some q
  | .laneCntClr q _ => some q
  | .rollCall q => some q
  | .almAck q _ => some q
  | .almRead q => some q
  | .tmSet q _ => some q
  | .bellArm q _ => some q
  | .bellStop q _ => some q
  | .mgrTransfer q => some q
  | .mgrHandback q => some q
  | .clkApply q => some q
  | .clkDiscard q => some q
  | .pwrReqWrite q _ => some q
  | .sleep q => some q
  | .rstCmd q => some q
  | .hostWdService q => some q
  | .cfgCommit q => some q
  | .cfgDefaults q => some q
  | .cfgImageWrite q _ => some q
  | .fwImageWrite q _ => some q
  | .fwActivate q => some q
  | .fwConfirm q => some q
  | .ownerKey q => some q
  | .revokeKey0 q => some q
  | .ownRb q => some q
  | .debugKill q => some q
  | .secDebugUnlock q _ => some q
  | .secNonce q _ => some q
  | .secAttest q => some q
  | .trigger q => some q
  | .protect q => some q
  | .unprotect q => some q
  | .upload q => some q
  | .celRead q _ _ => some q
  | .bistRun q => some q
  | .bistAbort q => some q
  | _ => none

namespace Fits

/-- Of a well-formed command, the request fits its header. -/
def Statement (i : Instr) : Prop := i.wf = true → ∀ q, requestOf i = some q → q.wf = true

theorem odRead (q : Req) (idx : BitVec 16) (sub : BitVec 8) (len : BitVec 16) : Statement (.odRead q idx sub len) := by
  intro h q' e; cases e; simp_all [Instr.wf]
theorem odWrite (q : Req) (idx : BitVec 16) (sub : BitVec 8) (data : List Byte) : Statement (.odWrite q idx sub data) := by
  intro h q' e; cases e; simp_all [Instr.wf]
theorem describe (q : Req) (idx : BitVec 16) (sub : BitVec 8) (offset : BitVec 32) (len : BitVec 16) : Statement (.describe q idx sub offset len) := by
  intro h q' e; cases e; simp_all [Instr.wf]
theorem readSeg (q : Req) (idx : BitVec 16) (sub : BitVec 8) (snap : Bool) (offset : BitVec 32) (len : BitVec 16) : Statement (.readSeg q idx sub snap offset len) := by
  intro h q' e; cases e; simp_all [Instr.wf]
theorem writeSeg (q : Req) (idx : BitVec 16) (sub : BitVec 8) (first : Bool) (last : Bool) (offset : BitVec 32) (data : List Byte) : Statement (.writeSeg q idx sub first last offset data) := by
  intro h q' e; cases e; simp_all [Instr.wf]
theorem abortSeg (q : Req) (idx : BitVec 16) (sub : BitVec 8) : Statement (.abortSeg q idx sub) := by
  intro h q' e; cases e; simp_all [Instr.wf]
theorem hello (q : Req) (len : BitVec 16) : Statement (.hello q len) := by
  intro h q' e; cases e; simp_all [Instr.wf]
theorem segmentTimeout (idx : BitVec 16) (sub : BitVec 8) : Statement (.segmentTimeout idx sub) := fun _ _ e => nomatch e
theorem snapshotRelease : Statement (.snapshotRelease) := fun _ _ e => nomatch e
theorem odResponseRx (t : Nat) (src : Fin 1024) (p : List Byte) : Statement (.odResponseRx t src p) := fun _ _ e => nomatch e
theorem odRemoteTmo : Statement (.odRemoteTmo) := fun _ _ e => nomatch e
theorem writeReq (t : Nat) (l : List Byte) (whole : Bool) : Statement (.writeReq t l whole) := fun _ _ e => nomatch e
theorem readResp (t : Nat) (whole : Bool) : Statement (.readResp t whole) := fun _ _ e => nomatch e
theorem readStatus (t : Nat) : Statement (.readStatus t) := fun _ _ e => nomatch e
theorem spiIrqPendRead (q : Req) : Statement (.spiIrqPendRead q) := by
  intro h q' e; cases e; simp_all [Instr.wf]
theorem canBusOff (t : Nat) : Statement (.canBusOff t) := fun _ _ e => nomatch e
theorem ethLinkDown (t : Nat) : Statement (.ethLinkDown t) := fun _ _ e => nomatch e
theorem trPeriodCopy (sig : Fin 32768) : Statement (.trPeriodCopy sig) := fun _ _ e => nomatch e
theorem slotTemplateWrite (q : Req) (c : Fin 32) (v : BitVec 8) : Statement (.slotTemplateWrite q c v) := by
  intro h q' e; cases e; simp_all [Instr.wf]
theorem start (q : Req) (c : Fin 32) (mask : BitVec 6) : Statement (.start q c mask) := by
  intro h q' e; cases e; simp_all [Instr.wf]
theorem stop (q : Req) (c : Fin 32) (mask : BitVec 6) : Statement (.stop q c mask) := by
  intro h q' e; cases e; simp_all [Instr.wf]
theorem bypass (q : Req) (c : Fin 32) (mask : BitVec 6) : Statement (.bypass q c mask) := by
  intro h q' e; cases e; simp_all [Instr.wf]
theorem insert (q : Req) (c : Fin 32) (mask : BitVec 6) : Statement (.insert q c mask) := by
  intro h q' e; cases e; simp_all [Instr.wf]
theorem clear (q : Req) (c : Fin 32) (mask : BitVec 6) : Statement (.clear q c mask) := by
  intro h q' e; cases e; simp_all [Instr.wf]
theorem allStop (q : Req) : Statement (.allStop q) := by
  intro h q' e; cases e; simp_all [Instr.wf]
theorem unitLoopBind (q : Req) (c : Fin 32) (u : Fin 6) (v : BitVec 8) : Statement (.unitLoopBind q c u v) := by
  intro h q' e; cases e; simp_all [Instr.wf]
theorem safeoffStep (c : Fin 32) (u : Fin 6) : Statement (.safeoffStep c u) := fun _ _ e => nomatch e
theorem carRunStart (q : Req) (k : Fin 64) : Statement (.carRunStart q k) := by
  intro h q' e; cases e; simp_all [Instr.wf]
theorem carRunStop (q : Req) (k : Fin 64) : Statement (.carRunStop q k) := by
  intro h q' e; cases e; simp_all [Instr.wf]
theorem carrierStart (k : Fin 64) : Statement (.carrierStart k) := fun _ _ e => nomatch e
theorem carrierValley (k : Fin 64) : Statement (.carrierValley k) := fun _ _ e => nomatch e
theorem carrierPeak (k : Fin 64) : Statement (.carrierPeak k) := fun _ _ e => nomatch e
theorem carCommit (q : Req) (k : Fin 64) : Statement (.carCommit q k) := by
  intro h q' e; cases e; simp_all [Instr.wf]
theorem carCommitDiscard (q : Req) (k : Fin 64) : Statement (.carCommitDiscard q k) := by
  intro h q' e; cases e; simp_all [Instr.wf]
theorem legOwnPeak (l : Fin 192) : Statement (.legOwnPeak l) := fun _ _ e => nomatch e
theorem forceNone (q : Req) (l : Fin 192) (imm : Bool) : Statement (.forceNone q l imm) := by
  intro h q' e; cases e; simp_all [Instr.wf]
theorem forceOff (q : Req) (l : Fin 192) (imm : Bool) : Statement (.forceOff q l imm) := by
  intro h q' e; cases e; simp_all [Instr.wf]
theorem forceUpper (q : Req) (l : Fin 192) (imm : Bool) : Statement (.forceUpper q l imm) := by
  intro h q' e; cases e; simp_all [Instr.wf]
theorem forceLower (q : Req) (l : Fin 192) (imm : Bool) : Statement (.forceLower q l imm) := by
  intro h q' e; cases e; simp_all [Instr.wf]
theorem forceRaw (q : Req) (l : Fin 192) (imm : Bool) (gh : Bool) (gl : Bool) : Statement (.forceRaw q l imm gh gl) := by
  intro h q' e; cases e; simp_all [Instr.wf]
theorem bootRefreshEnd (l : Fin 192) : Statement (.bootRefreshEnd l) := fun _ _ e => nomatch e
theorem pklCut (src : BitVec 8) (stream : List Bool) (v : Int) (t : Nat) : Statement (.pklCut src stream v t) := fun _ _ e => nomatch e
theorem pwmParityError (t : Nat) (carrier : Bool) (i : Fin 192) : Statement (.pwmParityError t carrier i) := fun _ _ e => nomatch e
theorem clkPwmMissing (t : Nat) : Statement (.clkPwmMissing t) := fun _ _ e => nomatch e
theorem gateRelease (l : Fin 192) (gh : Bool) : Statement (.gateRelease l gh) := fun _ _ e => nomatch e
theorem snTransition (l : Fin 192) (t : Nat) (high : Bool) : Statement (.snTransition l t high) := fun _ _ e => nomatch e
theorem snConfirmExpiry (l : Fin 192) : Statement (.snConfirmExpiry l) := fun _ _ e => nomatch e
theorem ggDtWrite (q : Req) (l : Fin 192) (which : Fin 6) (v : BitVec 16) : Statement (.ggDtWrite q l which v) := by
  intro h q' e; cases e; simp_all [Instr.wf]
theorem fkAssert (l : Fin 192) (t : Nat) : Statement (.fkAssert l t) := fun _ _ e => nomatch e
theorem fkRelease (l : Fin 192) (t : Nat) : Statement (.fkRelease l t) := fun _ _ e => nomatch e
theorem fkDecision (l : Fin 192) : Statement (.fkDecision l) := fun _ _ e => nomatch e
theorem fkHard (l : Fin 192) : Statement (.fkHard l) := fun _ _ e => nomatch e
theorem blankingEnd (l : Fin 192) : Statement (.blankingEnd l) := fun _ _ e => nomatch e
theorem supplyWakeExpiry (l : Fin 192) : Statement (.supplyWakeExpiry l) := fun _ _ e => nomatch e
theorem ggParityError (t : Nat) (w : GuardWord) : Statement (.ggParityError t w) := fun _ _ e => nomatch e
theorem safeoffRecordRx (t : Nat) (node : Fin 1024) (id : BitVec 16) (slot : Fin 32) (die : Bool) (t0 : BitVec 112) : Statement (.safeoffRecordRx t node id slot die t0) := fun _ _ e => nomatch e
theorem safeoffRecordExpiry : Statement (.safeoffRecordExpiry) := fun _ _ e => nomatch e
theorem stringTripRecordRx (t : Nat) (node : Fin 1024) (id : BitVec 16) : Statement (.stringTripRecordRx t node id) := fun _ _ e => nomatch e
theorem stoAssert (g : Fin 2) (t : Nat) (width : Nat) : Statement (.stoAssert g t width) := fun _ _ e => nomatch e
theorem stoRelease (g : Fin 2) (t : Nat) : Statement (.stoRelease g t) := fun _ _ e => nomatch e
theorem mdCtrlWrite (q : Req) (m : Fin 96) (which : Fin 4) (v : BitVec 16) : Statement (.mdCtrlWrite q m which v) := by
  intro h q' e; cases e; simp_all [Instr.wf]
theorem mdTimingViolation (m : Fin 96) (t : Nat) : Statement (.mdTimingViolation m t) := fun _ _ e => nomatch e
theorem mdClockRecover (m : Fin 96) : Statement (.mdClockRecover m) := fun _ _ e => nomatch e
theorem mdRunLimit (m : Fin 96) (t : Nat) (run : Nat) : Statement (.mdRunLimit m t run) := fun _ _ e => nomatch e
theorem mdFilterFilled (m : Fin 96) (t : Nat) (ctrl : Bool) : Statement (.mdFilterFilled m t ctrl) := fun _ _ e => nomatch e
theorem mdTrip (m : Fin 96) (t : Nat) (stream : List Bool) : Statement (.mdTrip m t stream) := fun _ _ e => nomatch e
theorem mdCtrlOutput (stream : List Bool) : Statement (.mdCtrlOutput stream) := fun _ _ e => nomatch e
theorem trgSample : Statement (.trgSample) := fun _ _ e => nomatch e
theorem sarConversionDone (codes : List Int) : Statement (.sarConversionDone codes) := fun _ _ e => nomatch e
theorem sliceStreamUpdate (i : Fin 8) (e : Int) (o : Int) (e2 : Int) : Statement (.sliceStreamUpdate i e o e2) := fun _ _ e => nomatch e
theorem sliceConverged (i : Fin 8) (skew : Bool) : Statement (.sliceConverged i skew) := fun _ _ e => nomatch e
theorem queueEntry : Statement (.queueEntry) := fun _ _ e => nomatch e
theorem qHostPop (q : Req) : Statement (.qHostPop q) := by
  intro h q' e; cases e; simp_all [Instr.wf]
theorem qHostAgeExpiry : Statement (.qHostAgeExpiry) := fun _ _ e => nomatch e
theorem qClr (q : Req) : Statement (.qClr q) := by
  intro h q' e; cases e; simp_all [Instr.wf]
theorem loopQueueIntake : Statement (.loopQueueIntake) := fun _ _ e => nomatch e
theorem lsProgramWrite (q : Req) (n : Fin 128) (img : List Byte) : Statement (.lsProgramWrite q n img) := by
  intro h q' e; cases e; simp_all [Instr.wf]
theorem lsRun (q : Req) (n : Fin 128) : Statement (.lsRun q n) := by
  intro h q' e; cases e; simp_all [Instr.wf]
theorem lsStop (q : Req) (n : Fin 128) : Statement (.lsStop q n) := by
  intro h q' e; cases e; simp_all [Instr.wf]
theorem lsHold (q : Req) (n : Fin 128) : Statement (.lsHold q n) := by
  intro h q' e; cases e; simp_all [Instr.wf]
theorem lsResume (q : Req) (n : Fin 128) : Statement (.lsResume q n) := by
  intro h q' e; cases e; simp_all [Instr.wf]
theorem lsUnload (q : Req) (n : Fin 128) : Statement (.lsUnload q n) := by
  intro h q' e; cases e; simp_all [Instr.wf]
theorem lsRunReady (n : Fin 128) : Statement (.lsRunReady n) := fun _ _ e => nomatch e
theorem lsInTimeout (n : Fin 128) : Statement (.lsInTimeout n) := fun _ _ e => nomatch e
theorem lsRunStart (p : Fin 4) : Statement (.lsRunStart p) := fun _ _ e => nomatch e
theorem lsRunEnd (n : Fin 128) : Statement (.lsRunEnd n) := fun _ _ e => nomatch e
theorem legDelivery : Statement (.legDelivery) := fun _ _ e => nomatch e
theorem lsDeadline (n : Fin 128) : Statement (.lsDeadline n) := fun _ _ e => nomatch e
theorem lsBankSwap (q : Req) (n : Fin 128) : Statement (.lsBankSwap q n) := by
  intro h q' e; cases e; simp_all [Instr.wf]
theorem lsCoefImageWrite (q : Req) (n : Fin 128) (img : List Byte) : Statement (.lsCoefImageWrite q n img) := by
  intro h q' e; cases e; simp_all [Instr.wf]
theorem lsCoefWordWrite (q : Req) (n : Fin 128) (v : BitVec 32) : Statement (.lsCoefWordWrite q n v) := by
  intro h q' e; cases e; simp_all [Instr.wf]
theorem lsCoefDirect (q : Req) (n : Fin 128) (w : BitVec 16) (v : BitVec 32) : Statement (.lsCoefDirect q n w v) := by
  intro h q' e; cases e; simp_all [Instr.wf]
theorem lsInValWrite (q : Req) (n : Fin 128) (i : Fin 16) (v : BitVec 32) : Statement (.lsInValWrite q n i v) := by
  intro h q' e; cases e; simp_all [Instr.wf]
theorem loopEccError (t : Nat) (n : Fin 128) (corrected : Bool) : Statement (.loopEccError t n corrected) := fun _ _ e => nomatch e
theorem raCommitStage (p : Fin 4) : Statement (.raCommitStage p) := fun _ _ e => nomatch e
theorem raTLate (n : Fin 128) : Statement (.raTLate n) := fun _ _ e => nomatch e
theorem cellCycleBoundary : Statement (.cellCycleBoundary) := fun _ _ e => nomatch e
theorem precharge (q : Req) (i : Fin 32) : Statement (.precharge q i) := by
  intro h q' e; cases e; simp_all [Instr.wf]
theorem mainClosed (q : Req) (i : Fin 32) : Statement (.mainClosed q i) := by
  intro h q' e; cases e; simp_all [Instr.wf]
theorem strStop (q : Req) (i : Fin 32) : Statement (.strStop q i) := by
  intro h q' e; cases e; simp_all [Instr.wf]
theorem strClear (q : Req) (i : Fin 32) : Statement (.strClear q i) := by
  intro h q' e; cases e; simp_all [Instr.wf]
theorem strCmdApply (i : Fin 32) : Statement (.strCmdApply i) := fun _ _ e => nomatch e
theorem stringRecordRx (t : Nat) (node : Fin 1024) (kind : Fin 4) (id : BitVec 16) (cmd : BitVec 8) (apply : BitVec 112) : Statement (.stringRecordRx t node kind id cmd apply) := fun _ _ e => nomatch e
theorem strPcTimeout (i : Fin 32) : Statement (.strPcTimeout i) := fun _ _ e => nomatch e
theorem strBypCheck (i : Fin 32) : Statement (.strBypCheck i) := fun _ _ e => nomatch e
theorem strHomeLost (i : Fin 32) : Statement (.strHomeLost i) := fun _ _ e => nomatch e
theorem strRideOut (i : Fin 32) : Statement (.strRideOut i) := fun _ _ e => nomatch e
theorem lvcTrip (a : Fin 16) (v : Int) (t : Nat) : Statement (.lvcTrip a v t) := fun _ _ e => nomatch e
theorem lvpStart (q : Req) (e : Fin 64) : Statement (.lvpStart q e) := by
  intro h q' e; cases e; simp_all [Instr.wf]
theorem lvpStop (q : Req) (e : Fin 64) : Statement (.lvpStop q e) := by
  intro h q' e; cases e; simp_all [Instr.wf]
theorem lvpClear (q : Req) (e : Fin 64) : Statement (.lvpClear q e) := by
  intro h q' e; cases e; simp_all [Instr.wf]
theorem drvListenTimeout (e : Fin 64) : Statement (.drvListenTimeout e) := fun _ _ e => nomatch e
theorem fbScQuadrantStep (t : Nat) (sv : Int) (cv : Int) : Statement (.fbScQuadrantStep t sv cv) := fun _ _ e => nomatch e
theorem scAmpBad (t : Nat) (samples : List (Int × Int)) : Statement (.scAmpBad t samples) := fun _ _ e => nomatch e
theorem hallChange (t : Nat) (code : BitVec 3) : Statement (.hallChange t code) := fun _ _ e => nomatch e
theorem plsStep (t : Nat) (a : Bool) (b : Bool) (hold : Nat) : Statement (.plsStep t a b hold) := fun _ _ e => nomatch e
theorem fbSpdTimeout (i : Fin 3) : Statement (.fbSpdTimeout i) := fun _ _ e => nomatch e
theorem fbScCountWrite (q : Req) (v : BitVec 64) : Statement (.fbScCountWrite q v) := by
  intro h q' e; cases e; simp_all [Instr.wf]
theorem fbPlsCountWrite (q : Req) (v : BitVec 64) : Statement (.fbPlsCountWrite q v) := by
  intro h q' e; cases e; simp_all [Instr.wf]
theorem fbIrqClr (q : Req) (v : BitVec 8) : Statement (.fbIrqClr q v) := by
  intro h q' e; cases e; simp_all [Instr.wf]
theorem fbCtrlWrite (q : Req) (v : BitVec 16) : Statement (.fbCtrlWrite q v) := by
  intro h q' e; cases e; simp_all [Instr.wf]
theorem thIntervalTick (ok : Bool) : Statement (.thIntervalTick ok) := fun _ _ e => nomatch e
theorem thDieConversion (d0 : BitVec 32) (d1 : BitVec 32) (d2 : BitVec 32) (d3 : BitVec 32) (ok : Bool) : Statement (.thDieConversion d0 d1 d2 d3 ok) := fun _ _ e => nomatch e
theorem thRecRetry (ok : Bool) : Statement (.thRecRetry ok) := fun _ _ e => nomatch e
theorem thShutClr (q : Req) (v : BitVec 32) : Statement (.thShutClr q v) := by
  intro h q' e; cases e; simp_all [Instr.wf]
theorem thSensorClr (q : Req) (c : Fin 32) : Statement (.thSensorClr q c) := by
  intro h q' e; cases e; simp_all [Instr.wf]
theorem faultIntake : Statement (.faultIntake) := fun _ _ e => nomatch e
theorem faultTransientExpiry (code : BitVec 16) (i : BitVec 16) : Statement (.faultTransientExpiry code i) := fun _ _ e => nomatch e
theorem almCoalesceEnd (code : BitVec 16) (i : BitVec 16) : Statement (.almCoalesceEnd code i) := fun _ _ e => nomatch e
theorem faultReset : Statement (.faultReset) := fun _ _ e => nomatch e
theorem fltClr (q : Req) (code : BitVec 16) (i : BitVec 16) : Statement (.fltClr q code i) := by
  intro h q' e; cases e; simp_all [Instr.wf]
theorem fltFirstClr (q : Req) (v : BitVec 8) : Statement (.fltFirstClr q v) := by
  intro h q' e; cases e; simp_all [Instr.wf]
theorem fltCfgWrite (q : Req) (code : BitVec 16) (v : BitVec 64) : Statement (.fltCfgWrite q code v) := by
  intro h q' e; cases e; simp_all [Instr.wf]
theorem sfWdExpiry (t : Nat) : Statement (.sfWdExpiry t) := fun _ _ e => nomatch e
theorem sfStoHwMismatch (t : Nat) (g : Fin 2) : Statement (.sfStoHwMismatch t g) := fun _ _ e => nomatch e
theorem safeWrite (q : Req) (idx : BitVec 16) (sub : BitVec 8) (data : List Byte) : Statement (.safeWrite q idx sub data) := by
  intro h q' e; cases e; simp_all [Instr.wf]
theorem sfStoDisc : Statement (.sfStoDisc) := fun _ _ e => nomatch e
theorem stoReleaseQualified (g : Fin 2) : Statement (.stoReleaseQualified g) := fun _ _ e => nomatch e
theorem sfStoAck (q : Req) (v : BitVec 32) : Statement (.sfStoAck q v) := by
  intro h q' e; cases e; simp_all [Instr.wf]
theorem sfProofTest (g : Fin 2) (pass : Bool) : Statement (.sfProofTest g pass) := fun _ _ e => nomatch e
theorem sfStoTestDue (g : Fin 2) : Statement (.sfStoTestDue g) := fun _ _ e => nomatch e
theorem soTestPulse (n : Fin 4) (low : Bool) : Statement (.soTestPulse n low) := fun _ _ e => nomatch e
theorem soReadbackFault (t : Nat) (n : Fin 4) (rb : Bool) : Statement (.soReadbackFault t n rb) := fun _ _ e => nomatch e
theorem sdpSend (p : Fin 4) : Statement (.sdpSend p) := fun _ _ e => nomatch e
theorem safeTelegramRx (src : Fin 1024) (t : Nat) (tel : List Byte) : Statement (.safeTelegramRx src t tel) := fun _ _ e => nomatch e
theorem sdcSkewExpiry (k : Fin 16) : Statement (.sdcSkewExpiry k) := fun _ _ e => nomatch e
theorem sdcWdExpiry (k : Fin 16) : Statement (.sdcWdExpiry k) := fun _ _ e => nomatch e
theorem sfOpen (q : Req) : Statement (.sfOpen q) := by
  intro h q' e; cases e; simp_all [Instr.wf]
theorem sfVerify (q : Req) : Statement (.sfVerify q) := by
  intro h q' e; cases e; simp_all [Instr.wf]
theorem sfAbort (q : Req) : Statement (.sfAbort q) := by
  intro h q' e; cases e; simp_all [Instr.wf]
theorem sfConfirm (q : Req) (v : BitVec 32) : Statement (.sfConfirm q v) := by
  intro h q' e; cases e; simp_all [Instr.wf]
theorem sfImageWrite (q : Req) (img : List Byte) : Statement (.sfImageWrite q img) := by
  intro h q' e; cases e; simp_all [Instr.wf]
theorem sfSignoffTimeout : Statement (.sfSignoffTimeout) := fun _ _ e => nomatch e
theorem laneEnable (q : Req) (n : Fin 4) (on : Bool) : Statement (.laneEnable q n on) := by
  intro h q' e; cases e; simp_all [Instr.wf]
theorem laneHold (q : Req) (n : Fin 4) (on : Bool) : Statement (.laneHold q n on) := by
  intro h q' e; cases e; simp_all [Instr.wf]
theorem laneTest (q : Req) (n : Fin 4) (v : BitVec 3) : Statement (.laneTest q n v) := by
  intro h q' e; cases e; simp_all [Instr.wf]
theorem laneLoop (q : Req) (n : Fin 4) (v : BitVec 3) : Statement (.laneLoop q n v) := by
  intro h q' e; cases e; simp_all [Instr.wf]
theorem laneCntClr (q : Req) (n : Fin 4) : Statement (.laneCntClr q n) := by
  intro h q' e; cases e; simp_all [Instr.wf]
theorem sfpModuleDetect (t : Nat) (n : Fin 4) (page : List Byte) : Statement (.sfpModuleDetect t n page) := fun _ _ e => nomatch e
theorem laneDdmRead (t : Nat) (n : Fin 4) (bytes : List Byte) : Statement (.laneDdmRead t n bytes) := fun _ _ e => nomatch e
theorem blockLock (t : Nat) (n : Fin 4) : Statement (.blockLock t n) := fun _ _ e => nomatch e
theorem blockLockLoss (t : Nat) (n : Fin 4) (passing : BitVec 4) : Statement (.blockLockLoss t n passing) := fun _ _ e => nomatch e
theorem hiBer (t : Nat) (n : Fin 4) (bad : Nat) (passing : BitVec 4) : Statement (.hiBer t n bad passing) := fun _ _ e => nomatch e
theorem elasticError (t : Nat) (n : Fin 4) (passing : BitVec 4) : Statement (.elasticError t n passing) := fun _ _ e => nomatch e
theorem lanePpmMeasure (t : Nat) (n : Fin 4) (ins : Nat) (del : Nat) (blocks : Nat) (fill : BitVec 6) : Statement (.lanePpmMeasure t n ins del blocks fill) := fun _ _ e => nomatch e
theorem trainBlockRx (t : Nat) (n : Fin 4) (line : LineBits) (passing : BitVec 4) : Statement (.trainBlockRx t n line passing) := fun _ _ e => nomatch e
theorem holdBlockRx (t : Nat) (n : Fin 4) (passing : BitVec 4) : Statement (.holdBlockRx t n passing) := fun _ _ e => nomatch e
theorem errBlockRx (t : Nat) (n : Fin 4) (kind : Fin 3) (passing : BitVec 4) : Statement (.errBlockRx t n kind passing) := fun _ _ e => nomatch e
theorem sfpLos (t : Nat) (n : Fin 4) (on : Bool) (passing : BitVec 4) : Statement (.sfpLos t n on passing) := fun _ _ e => nomatch e
theorem laneInputLost (t : Nat) (n : Fin 4) (passing : BitVec 4) : Statement (.laneInputLost t n passing) := fun _ _ e => nomatch e
theorem laneTrainTimeout (n : Fin 4) : Statement (.laneTrainTimeout n) := fun _ _ e => nomatch e
theorem ringFrameRx (t : Nat) (n : Fin 4) (l : List Byte) : Statement (.ringFrameRx t n l) := fun _ _ e => nomatch e
theorem ringTxStart (n : Fin 4) : Statement (.ringTxStart n) := fun _ _ e => nomatch e
theorem tc0Send (i : Fin 16) : Statement (.tc0Send i) := fun _ _ e => nomatch e
theorem systemCycle : Statement (.systemCycle) := fun _ _ e => nomatch e
theorem rollCall (q : Req) : Statement (.rollCall q) := by
  intro h q' e; cases e; simp_all [Instr.wf]
theorem rollCallCommit (apply : BitVec 112) (roll : Roll) : Statement (.rollCallCommit apply roll) := fun _ _ e => nomatch e
theorem rollCallTimeout : Statement (.rollCallTimeout) := fun _ _ e => nomatch e
theorem tc3WaitExpiry : Statement (.tc3WaitExpiry) := fun _ _ e => nomatch e
theorem almAck (q : Req) (seq : BitVec 32) : Statement (.almAck q seq) := by
  intro h q' e; cases e; simp_all [Instr.wf]
theorem almRead (q : Req) : Statement (.almRead q) := by
  intro h q' e; cases e; simp_all [Instr.wf]
theorem almSumPeriod : Statement (.almSumPeriod) := fun _ _ e => nomatch e
theorem timeBlockTx (n : Fin 4) : Statement (.timeBlockTx n) := fun _ _ e => nomatch e
theorem timeBlockRx (n : Fin 4) (line : LineBits) (t : Nat) : Statement (.timeBlockRx n line t) := fun _ _ e => nomatch e
theorem tmServoTick : Statement (.tmServoTick) := fun _ _ e => nomatch e
theorem tmRefLost : Statement (.tmRefLost) := fun _ _ e => nomatch e
theorem ptpSyncRx (t : Nat) (d : Fin 2) (o : Int) (delay : BitVec 32) (logSync : Int) : Statement (.ptpSyncRx t d o delay logSync) := fun _ _ e => nomatch e
theorem ptpLost (d : Fin 2) : Statement (.ptpLost d) := fun _ _ e => nomatch e
theorem ppsInEdge (t : Nat) (falling : Bool) : Statement (.ppsInEdge t falling) := fun _ _ e => nomatch e
theorem ppsInLost : Statement (.ppsInLost) := fun _ _ e => nomatch e
theorem tmSet (q : Req) (v : BitVec 112) : Statement (.tmSet q v) := by
  intro h q' e; cases e; simp_all [Instr.wf]
theorem bellArm (q : Req) (b : Fin 64) : Statement (.bellArm q b) := by
  intro h q' e; cases e; simp_all [Instr.wf]
theorem bellStop (q : Req) (b : Fin 64) : Statement (.bellStop q b) := by
  intro h q' e; cases e; simp_all [Instr.wf]
theorem bellRing (b : Fin 64) : Statement (.bellRing b) := fun _ _ e => nomatch e
theorem trigInputEdge (n : Fin 4) (t : Nat) (rising : Bool) (held : Nat) : Statement (.trigInputEdge n t rising held) := fun _ _ e => nomatch e
theorem mgrHeartbeatRx (t : Nat) (src : Fin 1024) (p : List Byte) : Statement (.mgrHeartbeatRx t src p) := fun _ _ e => nomatch e
theorem mgrListenExpiry : Statement (.mgrListenExpiry) := fun _ _ e => nomatch e
theorem mgrTakePass : Statement (.mgrTakePass) := fun _ _ e => nomatch e
theorem transferReqRx (t : Nat) : Statement (.transferReqRx t) := fun _ _ e => nomatch e
theorem stateRx (t : Nat) (ks : BitVec 64) (ofs : BitVec 32) (total : BitVec 32) (chunk : List Byte) : Statement (.stateRx t ks ofs total chunk) := fun _ _ e => nomatch e
theorem transferTimeout : Statement (.transferTimeout) := fun _ _ e => nomatch e
theorem mgrTransfer (q : Req) : Statement (.mgrTransfer q) := by
  intro h q' e; cases e; simp_all [Instr.wf]
theorem mgrHandback (q : Req) : Statement (.mgrHandback q) := by
  intro h q' e; cases e; simp_all [Instr.wf]
theorem reclaimHoldExpiry : Statement (.reclaimHoldExpiry) := fun _ _ e => nomatch e
theorem handbackReqRx (t : Nat) : Statement (.handbackReqRx t) := fun _ _ e => nomatch e
theorem handbackAcceptRx (t : Nat) (kh : BitVec 64) : Statement (.handbackAcceptRx t kh) := fun _ _ e => nomatch e
theorem handbackAbortRx (t : Nat) (reason : BitVec 16) : Statement (.handbackAbortRx t reason) := fun _ _ e => nomatch e
theorem handbackSwitch : Statement (.handbackSwitch) := fun _ _ e => nomatch e
theorem overlapEnd : Statement (.overlapEnd) := fun _ _ e => nomatch e
theorem wkHoldExpiry : Statement (.wkHoldExpiry) := fun _ _ e => nomatch e
theorem wkDroopExpiry : Statement (.wkDroopExpiry) := fun _ _ e => nomatch e
theorem rcPeriodTick (t : Nat) (idle : BitVec 69) : Statement (.rcPeriodTick t idle) := fun _ _ e => nomatch e
theorem clkApply (q : Req) : Statement (.clkApply q) := by
  intro h q' e; cases e; simp_all [Instr.wf]
theorem clkDiscard (q : Req) : Statement (.clkDiscard q) := by
  intro h q' e; cases e; simp_all [Instr.wf]
theorem pllSysLock (t : Nat) (count : BitVec 16) : Statement (.pllSysLock t count) := fun _ _ e => nomatch e
theorem pllSysUnlock (t : Nat) (count : BitVec 16) : Statement (.pllSysUnlock t count) := fun _ _ e => nomatch e
theorem relockTimeout : Statement (.relockTimeout) := fun _ _ e => nomatch e
theorem pllLinkLockChange (t : Nat) (on : Bool) (err : Int) : Statement (.pllLinkLockChange t on err) := fun _ _ e => nomatch e
theorem refclkLost (t : Nat) : Statement (.refclkLost t) := fun _ _ e => nomatch e
theorem refclkReturn (t : Nat) : Statement (.refclkReturn t) := fun _ _ e => nomatch e
theorem linkclkLost (t : Nat) : Statement (.linkclkLost t) := fun _ _ e => nomatch e
theorem clkFreqError (t : Nat) (i : Fin 8) (hz : BitVec 32) : Statement (.clkFreqError t i hz) := fun _ _ e => nomatch e
theorem clkPeriodGuard (t : Nat) (i : Fin 3) : Statement (.clkPeriodGuard t i) := fun _ _ e => nomatch e
theorem pwrReqWrite (q : Req) (v : BitVec 16) : Statement (.pwrReqWrite q v) := by
  intro h q' e; cases e; simp_all [Instr.wf]
theorem domainWakeAccess (t : Nat) (d : Fin 10) (a : BusUse) : Statement (.domainWakeAccess t d a) := fun _ _ e => nomatch e
theorem domainReady (d : Fin 10) (t : Nat) : Statement (.domainReady d t) := fun _ _ e => nomatch e
theorem pwrWakeTmo (d : Fin 10) : Statement (.pwrWakeTmo d) := fun _ _ e => nomatch e
theorem pwrBank (t : Nat) (b : Fin 8) : Statement (.pwrBank t b) := fun _ _ e => nomatch e
theorem pwrAnalog (t : Nat) : Statement (.pwrAnalog t) := fun _ _ e => nomatch e
theorem pwrIo (t : Nat) (i : Fin 3) : Statement (.pwrIo t i) := fun _ _ e => nomatch e
theorem sleep (q : Req) : Statement (.sleep q) := by
  intro h q' e; cases e; simp_all [Instr.wf]
theorem wakeN (t : Nat) (width : Nat) : Statement (.wakeN t width) := fun _ _ e => nomatch e
theorem sleepTimerExpiry : Statement (.sleepTimerExpiry) := fun _ _ e => nomatch e
theorem porstN (t : Nat) (low : CoreLow) : Statement (.porstN t low) := fun _ _ e => nomatch e
theorem rstN (t : Nat) (width : Nat) : Statement (.rstN t width) := fun _ _ e => nomatch e
theorem rstHeld (t : Nat) : Statement (.rstHeld t) := fun _ _ e => nomatch e
theorem rstCmd (q : Req) : Statement (.rstCmd q) := by
  intro h q' e; cases e; simp_all [Instr.wf]
theorem hostWdService (q : Req) : Statement (.hostWdService q) := by
  intro h q' e; cases e; simp_all [Instr.wf]
theorem hostWdExpiry : Statement (.hostWdExpiry) := fun _ _ e => nomatch e
theorem bootStageDone (t : Nat) (bad : Nat) : Statement (.bootStageDone t bad) := fun _ _ e => nomatch e
theorem cfgCommit (q : Req) : Statement (.cfgCommit q) := by
  intro h q' e; cases e; simp_all [Instr.wf]
theorem cfgDefaults (q : Req) : Statement (.cfgDefaults q) := by
  intro h q' e; cases e; simp_all [Instr.wf]
theorem cfgCommitDone (t : Nat) (good : Bool) : Statement (.cfgCommitDone t good) := fun _ _ e => nomatch e
theorem cfgImageWrite (q : Req) (img : List Byte) : Statement (.cfgImageWrite q img) := by
  intro h q' e; cases e; simp_all [Instr.wf]
theorem fwImageWrite (q : Req) (img : List Byte) : Statement (.fwImageWrite q img) := by
  intro h q' e; cases e; simp_all [Instr.wf]
theorem fwActivate (q : Req) : Statement (.fwActivate q) := by
  intro h q' e; cases e; simp_all [Instr.wf]
theorem fwConfirm (q : Req) : Statement (.fwConfirm q) := by
  intro h q' e; cases e; simp_all [Instr.wf]
theorem ownerKey (q : Req) : Statement (.ownerKey q) := by
  intro h q' e; cases e; simp_all [Instr.wf]
theorem revokeKey0 (q : Req) : Statement (.revokeKey0 q) := by
  intro h q' e; cases e; simp_all [Instr.wf]
theorem ownRb (q : Req) : Statement (.ownRb q) := by
  intro h q' e; cases e; simp_all [Instr.wf]
theorem debugKill (q : Req) : Statement (.debugKill q) := by
  intro h q' e; cases e; simp_all [Instr.wf]
theorem secDebugUnlock (q : Req) (img : List Byte) : Statement (.secDebugUnlock q img) := by
  intro h q' e; cases e; simp_all [Instr.wf]
theorem secNonce (q : Req) (data : List Byte) : Statement (.secNonce q data) := by
  intro h q' e; cases e; simp_all [Instr.wf]
theorem secAttest (q : Req) : Statement (.secAttest q) := by
  intro h q' e; cases e; simp_all [Instr.wf]
theorem celLogPageWrite : Statement (.celLogPageWrite) := fun _ _ e => nomatch e
theorem trigger (q : Req) : Statement (.trigger q) := by
  intro h q' e; cases e; simp_all [Instr.wf]
theorem protect (q : Req) : Statement (.protect q) := by
  intro h q' e; cases e; simp_all [Instr.wf]
theorem unprotect (q : Req) : Statement (.unprotect q) := by
  intro h q' e; cases e; simp_all [Instr.wf]
theorem upload (q : Req) : Statement (.upload q) := by
  intro h q' e; cases e; simp_all [Instr.wf]
theorem celRead (q : Req) (offset : BitVec 32) (len : BitVec 16) : Statement (.celRead q offset len) := by
  intro h q' e; cases e; simp_all [Instr.wf]
theorem celDumpEnd : Statement (.celDumpEnd) := fun _ _ e => nomatch e
theorem bistRun (q : Req) : Statement (.bistRun q) := by
  intro h q' e; cases e; simp_all [Instr.wf]
theorem bistAbort (q : Req) : Statement (.bistAbort q) := by
  intro h q' e; cases e; simp_all [Instr.wf]
theorem bistRunEnd (sig : BitVec 64) (addr : BitVec 32) : Statement (.bistRunEnd sig addr) := fun _ _ e => nomatch e
theorem legCommandEdge (l : Fin 192) : Statement (.legCommandEdge l) := fun _ _ e => nomatch e
theorem legOwnValley (l : Fin 192) : Statement (.legOwnValley l) := fun _ _ e => nomatch e
theorem mdTripRelease (m : Fin 96) (t : Nat) (stream : List Bool) : Statement (.mdTripRelease m t stream) := fun _ _ e => nomatch e
theorem lvcTripRelease (a : Fin 16) (t : Nat) (v : Int) : Statement (.lvcTripRelease a t v) := fun _ _ e => nomatch e
theorem supplyInRange (t : Nat) (i : Fin 12) : Statement (.supplyInRange t i) := fun _ _ e => nomatch e
theorem pwmPhaseError (t : Nat) (e : Int) (steps : Int) (lasts : Bool) : Statement (.pwmPhaseError t e steps lasts) := fun _ _ e => nomatch e
theorem prbsLock (t : Nat) (n : Fin 4) (checked : Nat) (errs : Nat) : Statement (.prbsLock t n checked errs) := fun _ _ e => nomatch e
theorem moduleAbsent (t : Nat) (n : Fin 4) : Statement (.moduleAbsent t n) := fun _ _ e => nomatch e
theorem scAmpGood (t : Nat) (samples : List (Int × Int)) : Statement (.scAmpGood t samples) := fun _ _ e => nomatch e
theorem uploadDone : Statement (.uploadDone) := fun _ _ e => nomatch e
theorem preWindowWritten : Statement (.preWindowWritten) := fun _ _ e => nomatch e
theorem fuseCmdDone (t : Nat) (good : Bool) : Statement (.fuseCmdDone t good) := fun _ _ e => nomatch e
theorem sramEccError (t : Nat) (safe : Bool) (corrected : Bool) : Statement (.sramEccError t safe corrected) := fun _ _ e => nomatch e
theorem ppsOutSecond : Statement (.ppsOutSecond) := fun _ _ e => nomatch e
theorem pulseWidthEnd : Statement (.pulseWidthEnd) := fun _ _ e => nomatch e
theorem ethLinkUp (t : Nat) (fast : Bool) : Statement (.ethLinkUp t fast) := fun _ _ e => nomatch e
theorem canBusOffRecovery (t : Nat) : Statement (.canBusOffRecovery t) := fun _ _ e => nomatch e
theorem soPulseEnd (n : Fin 4) (high : Bool) : Statement (.soPulseEnd n high) := fun _ _ e => nomatch e
theorem arpIcmpRequest (t : Nat) (icmp : Bool) (ip : BitVec 32) (who : Nat) : Statement (.arpIcmpRequest t icmp ip who) := fun _ _ e => nomatch e
theorem ptpAnnounceRx (t : Nat) (d : Fin 2) (gm : BitVec 64) (arb : Bool) (steps : BitVec 16) : Statement (.ptpAnnounceRx t d gm arb steps) := fun _ _ e => nomatch e

end Fits
end Sys2Proof.Laws
end

