-- ==== Sys2Proof/Laws/Served.lean ====
section
/-! SUPPORT. Where each command that is a WRITE of an entry leads: the entry's row (R446, R452), and the owner that a write
which the device serves reaches. -/

namespace Sys2Proof

theorem leBytes_length (n v : Nat) : (leBytes n v).length = n := by
  induction n generalizing v with
  | zero => rfl
  | succ n ih => simp [leBytes, ih]

/-- Bytes spell the number they were made from (R9, R447). -/
theorem leNat_leBytes_mod (n v : Nat) : leNat (leBytes n v) = v % 256 ^ n := by
  induction n generalizing v with
  | zero => simp [leBytes, leNat, Nat.mod_one]
  | succ n ih =>
    show (BitVec.ofNat 8 v).toNat + 256 * leNat (leBytes n (v / 256)) = _
    rw [ih, BitVec.toNat_ofNat, Nat.pow_succ 256 n, Nat.mul_comm (256 ^ n) 256, Nat.mod_mul]
theorem leNat_leBytes {n v : Nat} (h : v < 256 ^ n) : leNat (leBytes n v) = v := by
  rw [leNat_leBytes_mod, Nat.mod_eq_of_lt h]

theorem leNat_append (a b : List Byte) : leNat (a ++ b) = leNat a + 256 ^ a.length * leNat b := by
  induction a with
  | nil => simp [leNat]
  | cons x a ih =>
    simp only [List.cons_append, leNat, ih, List.length_cons, Nat.pow_succ]
    rw [Nat.mul_add, ← Nat.add_assoc, ← Nat.mul_assoc, Nat.mul_comm 256 (256 ^ a.length)]

namespace Machine

set_option Elab.async false

/-! ### Values that the shared checks let pass (R447, R448) -/

theorem check_any {r : OdRow} {d : List Byte} (h : d.length = r.size)
    (hp : r.var = false ∧ r.ty ≠ .bool ∧ r.ty ≠ .time ∧ r.rsvFrom = 0 ∧ r.rng = .any)
    (hf : r.fieldsOk (leNat d) = true) (hr : leNat d &&& r.rsv = 0) : r.check d = 0 := by
  obtain ⟨h1, h2, h3, h4, h5⟩ := hp
  simp [OdRow.check, OdRow.lenOk, OdRow.rsvOk, OdRow.rangeOk, h, h1, h2, h3, h4, h5, hf, hr]

theorem check_domain {r : OdRow} {d : List Byte} (h : d.length ≤ r.size)
    (hp : r.var = true ∧ r.ty.scalar = false ∧ r.ty ≠ .bool) : r.check d = 0 := by
  obtain ⟨h1, h2, h3⟩ := hp
  simp [OdRow.check, OdRow.lenOk, h, h1, h2, h3]

theorem check_octets {r : OdRow} {d : List Byte} (h : d.length = r.size)
    (hp : r.var = false ∧ r.ty = .octets ∧ r.rsvFrom = 0 ∧ r.rng = .any ∧ r.rsv = 0 ∧ r.base = 0x1B40) : r.check d = 0 := by
  obtain ⟨h1, h2, h3, h4, h5, h6⟩ := hp
  simp [OdRow.check, OdRow.lenOk, OdRow.rsvOk, OdRow.rangeOk, OdRow.fieldsOk, h, h1, h2, h3, h4, h5, h6]

/-- LS_COEF_DIRECT: word index, 16 reserved bits, value (R176). -/
theorem direct_val (w : BitVec 16) (v : BitVec 32) :
    leNat (leBytes 2 w.toNat ++ leBytes 2 0 ++ leBytes 4 v.toNat) = w.toNat + v.toNat * 2 ^ 32 := by
  have hw := w.isLt
  have hv := v.isLt
  simp only [leNat_append, List.length_append, leBytes_length]
  rw [leNat_leBytes (by omega), leNat_leBytes (by omega), leNat_leBytes (by omega)]
  omega
theorem direct_rsv (w : BitVec 16) (v : BitVec 32) :
    leNat (leBytes 2 w.toNat ++ leBytes 2 0 ++ leBytes 4 v.toNat) &&& 0xFFFF0000 = 0 := by
  rw [direct_val]
  have hw := w.isLt
  apply Nat.eq_of_testBit_eq
  intro i
  rw [Nat.testBit_and, Nat.zero_testBit]
  by_cases h : i < 32
  · by_cases h' : i < 16
    · have : (0xFFFF0000 : Nat).testBit i = false := by
        have : ∀ i : Fin 16, (0xFFFF0000 : Nat).testBit i.val = false := by decide
        exact this ⟨i, h'⟩
      rw [this, Bool.and_false]
    · have : (w.toNat + v.toNat * 2 ^ 32).testBit i = false := by
        have e : (w.toNat + v.toNat * 2 ^ 32) / 2 ^ i % 2 = 0 := by
          have h1 : (w.toNat + v.toNat * 2 ^ 32) / 2 ^ i = v.toNat * 2 ^ (32 - i) := by
            have h2 : v.toNat * 2 ^ 32 = v.toNat * 2 ^ (32 - i) * 2 ^ i := by
              rw [Nat.mul_assoc, ← Nat.pow_add, Nat.sub_add_cancel (Nat.le_of_lt h)]
            rw [h2, Nat.add_mul_div_right _ _ (Nat.two_pow_pos i), Nat.div_eq_of_lt, Nat.zero_add]
            exact Nat.lt_of_lt_of_le hw (Nat.pow_le_pow_right (by decide) (by omega))
          rw [h1]
          have h3 : 32 - i = (31 - i) + 1 := by omega
          rw [h3, Nat.pow_succ, ← Nat.mul_assoc]
          exact Nat.mul_mod_left _ _
        rw [Nat.testBit_eq_decide_div_mod_eq, e]; rfl
      rw [this, Bool.false_and]
  · have : (0xFFFF0000 : Nat).testBit i = false := Nat.testBit_lt_two_pow (Nat.lt_of_lt_of_le (by decide : 0xFFFF0000 < 2 ^ 32) (Nat.pow_le_pow_right (by decide) (by omega)))
    rw [this, Bool.and_false]

theorem takes_of {s : State} {r : OdRow} {idx sub : Nat} {d : List Byte} (ha : r.acc ≠ .ro ∧ r.acc ≠ .const)
    (hc : r.check d = 0) (hl : r.acc ≠ .rws ∨ s.legsEnabled = 0) (hs : s.segOpen idx sub = none)
    (hd : r.divides (leNat d) = true) : r.takes s idx sub d = true := by
  simp [OdRow.takes, ha.1, ha.2, hc, hs, hd]
  exact hl

theorem lookup_of_find {idx sub : Nat} {r : OdRow} (h : Od.find idx sub = some r) (hs : sub ≠ 0) :
    Od.lookup idx sub = .ok r := by
  simp [Od.lookup, hs, h]

theorem pathLimit_le (p : Path) : 48 ≤ pathLimit p := by cases p <;> decide

/-! ### Rows -/

def row_MGR_CMD : OdRow := ⟨0x1400, 1, 0x0D, 1, "MGR_CMD", .u8, .wo, 0, .int 1 2 1 none, 0, 0, 0, false, 1, false⟩
theorem pick_MGR_CMD : Od.pick Od.rows 0x1400 1 0xd 1 = some row_MGR_CMD := by decide +kernel
theorem look_MGR_CMD : Od.lookup 0x1400 0x0D = .ok row_MGR_CMD :=
  by simpa only [Nat.add_zero] using lookup_of_pick (b := 0x1400) (s := 0xd) (i := 0) (j := 0) pick_MGR_CMD Nat.zero_lt_one Nat.zero_lt_one (by decide) (by decide)
def row_RING_CMD : OdRow := ⟨0x1200, 1, 0x03, 1, "RING_CMD", .u8, .wo, 0, .int 1 1 1 none, 0, 0, 0, false, 1, false⟩
theorem pick_RING_CMD : Od.pick Od.rows 0x1200 1 0x3 1 = some row_RING_CMD := by decide +kernel
theorem look_RING_CMD : Od.lookup 0x1200 0x03 = .ok row_RING_CMD :=
  by simpa only [Nat.add_zero] using lookup_of_pick (b := 0x1200) (s := 0x3) (i := 0) (j := 0) pick_RING_CMD Nat.zero_lt_one Nat.zero_lt_one (by decide) (by decide)
def row_ALM_ACK : OdRow := ⟨0x1230, 1, 0x05, 1, "ALM_ACK", .u32, .wo, 0, .any, 0, 0, 0, false, 4, false⟩
theorem pick_ALM_ACK : Od.pick Od.rows 0x1230 1 0x5 1 = some row_ALM_ACK := by decide +kernel
theorem look_ALM_ACK : Od.lookup 0x1230 0x05 = .ok row_ALM_ACK :=
  by simpa only [Nat.add_zero] using lookup_of_pick (b := 0x1230) (s := 0x5) (i := 0) (j := 0) pick_ALM_ACK Nat.zero_lt_one Nat.zero_lt_one (by decide) (by decide)
def row_Q_CLR : OdRow := ⟨0x2A00, 1, 0x09, 1, "Q_CLR", .u8, .wo, 0, .int 1 1 1 none, 0, 0, 0, false, 1, false⟩
theorem pick_Q_CLR : Od.pick Od.rows 0x2a00 1 0x9 1 = some row_Q_CLR := by decide +kernel
theorem look_Q_CLR : Od.lookup 0x2A00 0x09 = .ok row_Q_CLR :=
  by simpa only [Nat.add_zero] using lookup_of_pick (b := 0x2a00) (s := 0x9) (i := 0) (j := 0) pick_Q_CLR Nat.zero_lt_one Nat.zero_lt_one (by decide) (by decide)
def row_FLT_CLR : OdRow := ⟨0x1800, 1, 0x08, 1, "FLT_CLR", .u32, .wo, 0, .any, 0, 0, 0, false, 4, false⟩
theorem pick_FLT_CLR : Od.pick Od.rows 0x1800 1 0x8 1 = some row_FLT_CLR := by decide +kernel
theorem look_FLT_CLR : Od.lookup 0x1800 0x08 = .ok row_FLT_CLR :=
  by simpa only [Nat.add_zero] using lookup_of_pick (b := 0x1800) (s := 0x8) (i := 0) (j := 0) pick_FLT_CLR Nat.zero_lt_one Nat.zero_lt_one (by decide) (by decide)
def row_FLT_FIRST_CLR : OdRow := ⟨0x1800, 1, 0x07, 1, "FLT_FIRST_CLR", .u8, .wo, 0, .any, 248, 0, 0, false, 1, false⟩
theorem pick_FLT_FIRST_CLR : Od.pick Od.rows 0x1800 1 0x7 1 = some row_FLT_FIRST_CLR := by decide +kernel
theorem look_FLT_FIRST_CLR : Od.lookup 0x1800 0x07 = .ok row_FLT_FIRST_CLR :=
  by simpa only [Nat.add_zero] using lookup_of_pick (b := 0x1800) (s := 0x7) (i := 0) (j := 0) pick_FLT_FIRST_CLR Nat.zero_lt_one Nat.zero_lt_one (by decide) (by decide)
def row_FB_SC_COUNT : OdRow := ⟨0x3500, 1, 0x11, 1, "FB_SC_COUNT", .i64, .rw, 0, .any, 0, 0, 0, false, 8, false⟩
theorem pick_FB_SC_COUNT : Od.pick Od.rows 0x3500 1 0x11 1 = some row_FB_SC_COUNT := by decide +kernel
theorem look_FB_SC_COUNT : Od.lookup 0x3500 0x11 = .ok row_FB_SC_COUNT :=
  by simpa only [Nat.add_zero] using lookup_of_pick (b := 0x3500) (s := 0x11) (i := 0) (j := 0) pick_FB_SC_COUNT Nat.zero_lt_one Nat.zero_lt_one (by decide) (by decide)
def row_FB_PLS_COUNT : OdRow := ⟨0x3500, 1, 0x18, 1, "FB_PLS_COUNT", .i64, .rw, 0, .any, 0, 0, 24, false, 8, false⟩
theorem pick_FB_PLS_COUNT : Od.pick Od.rows 0x3500 1 0x18 1 = some row_FB_PLS_COUNT := by decide +kernel
theorem look_FB_PLS_COUNT : Od.lookup 0x3500 0x18 = .ok row_FB_PLS_COUNT :=
  by simpa only [Nat.add_zero] using lookup_of_pick (b := 0x3500) (s := 0x18) (i := 0) (j := 0) pick_FB_PLS_COUNT Nat.zero_lt_one Nat.zero_lt_one (by decide) (by decide)
def row_FB_IRQ_CLR : OdRow := ⟨0x3500, 1, 0x0E, 1, "FB_IRQ_CLR", .u8, .wo, 0, .any, 0xF8, 0, 0, false, 1, false⟩
theorem pick_FB_IRQ_CLR : Od.pick Od.rows 0x3500 1 0xe 1 = some row_FB_IRQ_CLR := by decide +kernel
theorem look_FB_IRQ_CLR : Od.lookup 0x3500 0x0E = .ok row_FB_IRQ_CLR :=
  by simpa only [Nat.add_zero] using lookup_of_pick (b := 0x3500) (s := 0xe) (i := 0) (j := 0) pick_FB_IRQ_CLR Nat.zero_lt_one Nat.zero_lt_one (by decide) (by decide)
def row_FB_CTRL : OdRow := ⟨0x3500, 1, 0x01, 1, "FB_CTRL", .u16, .rw, 0, .any, 0xFF00, 0, 0, true, 2, false⟩
theorem pick_FB_CTRL : Od.pick Od.rows 0x3500 1 0x1 1 = some row_FB_CTRL := by decide +kernel
theorem look_FB_CTRL : Od.lookup 0x3500 0x01 = .ok row_FB_CTRL :=
  by simpa only [Nat.add_zero] using lookup_of_pick (b := 0x3500) (s := 0x1) (i := 0) (j := 0) pick_FB_CTRL Nat.zero_lt_one Nat.zero_lt_one (by decide) (by decide)
def row_CLK_APPLY : OdRow := ⟨0x1A00, 1, 0x0A, 1, "CLK_APPLY", .u8, .wo, 0, .int 1 2 1 none, 0, 0, 0, false, 1, false⟩
theorem pick_CLK_APPLY : Od.pick Od.rows 0x1a00 1 0xa 1 = some row_CLK_APPLY := by decide +kernel
theorem look_CLK_APPLY : Od.lookup 0x1A00 0x0A = .ok row_CLK_APPLY :=
  by simpa only [Nat.add_zero] using lookup_of_pick (b := 0x1a00) (s := 0xa) (i := 0) (j := 0) pick_CLK_APPLY Nat.zero_lt_one Nat.zero_lt_one (by decide) (by decide)
def row_LS_PROGRAM : OdRow := ⟨0x3000, 128, 0x03, 1, "LS_PROGRAM", .domain, .rw, 0, .any, 0, 0, 0, true, 33554432, true⟩
theorem pick_LS_PROGRAM : Od.pick Od.rows 0x3000 128 0x3 1 = some row_LS_PROGRAM := by decide +kernel
theorem look_LS_PROGRAM : ∀ n : Fin 128, Od.lookup (0x3000 + n.val) 0x03 = .ok row_LS_PROGRAM :=
  fun n => by simpa only [Nat.add_zero] using lookup_of_pick (b := 0x3000) (s := 0x3) (i := n.val) (j := 0) pick_LS_PROGRAM n.isLt Nat.zero_lt_one (by decide) (by decide)
def row_LS_CMD : OdRow := ⟨0x3000, 128, 0x02, 1, "LS_CMD", .u8, .wo, 0, .int 1 5 1 none, 0, 0, 0, false, 1, false⟩
theorem pick_LS_CMD : Od.pick Od.rows 0x3000 128 0x2 1 = some row_LS_CMD := by decide +kernel
theorem look_LS_CMD : ∀ n : Fin 128, Od.lookup (0x3000 + n.val) 0x02 = .ok row_LS_CMD :=
  fun n => by simpa only [Nat.add_zero] using lookup_of_pick (b := 0x3000) (s := 0x2) (i := n.val) (j := 0) pick_LS_CMD n.isLt Nat.zero_lt_one (by decide) (by decide)
def row_LS_BANK_SWAP : OdRow := ⟨0x3000, 128, 0x21, 1, "LS_BANK_SWAP", .u8, .wo, 0, .int 1 1 1 none, 0, 0, 0, false, 1, false⟩
theorem pick_LS_BANK_SWAP : Od.pick Od.rows 0x3000 128 0x21 1 = some row_LS_BANK_SWAP := by decide +kernel
theorem look_LS_BANK_SWAP : ∀ n : Fin 128, Od.lookup (0x3000 + n.val) 0x21 = .ok row_LS_BANK_SWAP :=
  fun n => by simpa only [Nat.add_zero] using lookup_of_pick (b := 0x3000) (s := 0x21) (i := n.val) (j := 0) pick_LS_BANK_SWAP n.isLt Nat.zero_lt_one (by decide) (by decide)
def row_LS_COEF_IMAGE : OdRow := ⟨0x3000, 128, 0x23, 1, "LS_COEF_IMAGE", .domain, .rw, 0, .any, 0, 0, 0, false, 33554432, true⟩
theorem pick_LS_COEF_IMAGE : Od.pick Od.rows 0x3000 128 0x23 1 = some row_LS_COEF_IMAGE := by decide +kernel
theorem look_LS_COEF_IMAGE : ∀ n : Fin 128, Od.lookup (0x3000 + n.val) 0x23 = .ok row_LS_COEF_IMAGE :=
  fun n => by simpa only [Nat.add_zero] using lookup_of_pick (b := 0x3000) (s := 0x23) (i := n.val) (j := 0) pick_LS_COEF_IMAGE n.isLt Nat.zero_lt_one (by decide) (by decide)
def row_LS_COEF_WORD : OdRow := ⟨0x3000, 128, 0x25, 1, "LS_COEF_WORD", .u32, .rw, 0, .any, 0, 0, 0, false, 4, false⟩
theorem pick_LS_COEF_WORD : Od.pick Od.rows 0x3000 128 0x25 1 = some row_LS_COEF_WORD := by decide +kernel
theorem look_LS_COEF_WORD : ∀ n : Fin 128, Od.lookup (0x3000 + n.val) 0x25 = .ok row_LS_COEF_WORD :=
  fun n => by simpa only [Nat.add_zero] using lookup_of_pick (b := 0x3000) (s := 0x25) (i := n.val) (j := 0) pick_LS_COEF_WORD n.isLt Nat.zero_lt_one (by decide) (by decide)
def row_LS_COEF_DIRECT : OdRow := ⟨0x3000, 128, 0x26, 1, "LS_COEF_DIRECT", .u64, .wo, 0, .any, 0xFFFF0000, 0, 0, false, 8, false⟩
theorem pick_LS_COEF_DIRECT : Od.pick Od.rows 0x3000 128 0x26 1 = some row_LS_COEF_DIRECT := by decide +kernel
theorem look_LS_COEF_DIRECT : ∀ n : Fin 128, Od.lookup (0x3000 + n.val) 0x26 = .ok row_LS_COEF_DIRECT :=
  fun n => by simpa only [Nat.add_zero] using lookup_of_pick (b := 0x3000) (s := 0x26) (i := n.val) (j := 0) pick_LS_COEF_DIRECT n.isLt Nat.zero_lt_one (by decide) (by decide)
def row_LS_IN_VAL : OdRow := ⟨0x3000, 128, 0x50, 16, "LS_IN_VAL", .f32, .rw, 0, .flt 0xFF7FFFFF 0x7F7FFFFF false, 0, 0, 0, false, 4, false⟩
theorem pick_LS_IN_VAL : Od.pick Od.rows 0x3000 128 0x50 16 = some row_LS_IN_VAL := by decide +kernel
theorem look_LS_IN_VAL : ∀ n : Fin 128, ∀ i : Fin 16, Od.lookup (0x3000 + n.val) (0x50 + i.val) = .ok row_LS_IN_VAL :=
  fun n i => by simpa only [Nat.add_zero] using lookup_of_pick (b := 0x3000) (s := 0x50) (i := n.val) (j := i.val) pick_LS_IN_VAL n.isLt i.isLt (by decide) (by decide)
def row_TH_SHUT_CLR : OdRow := ⟨0x3600, 1, 0x07, 1, "TH_SHUT_CLR", .u32, .wo, 0, .any, 0, 0, 0, false, 4, false⟩
theorem pick_TH_SHUT_CLR : Od.pick Od.rows 0x3600 1 0x7 1 = some row_TH_SHUT_CLR := by decide +kernel
theorem look_TH_SHUT_CLR : Od.lookup 0x3600 0x07 = .ok row_TH_SHUT_CLR :=
  by simpa only [Nat.add_zero] using lookup_of_pick (b := 0x3600) (s := 0x7) (i := 0) (j := 0) pick_TH_SHUT_CLR Nat.zero_lt_one Nat.zero_lt_one (by decide) (by decide)
def row_TH_SENSOR_CLR : OdRow := ⟨0x3620, 32, 0x1D, 1, "TH_SENSOR_CLR", .u8, .wo, 0, .int 1 1 1 none, 0, 0, 0, false, 1, false⟩
theorem pick_TH_SENSOR_CLR : Od.pick Od.rows 0x3620 32 0x1d 1 = some row_TH_SENSOR_CLR := by decide +kernel
theorem look_TH_SENSOR_CLR : ∀ c : Fin 32, Od.lookup (0x3620 + c.val) 0x1D = .ok row_TH_SENSOR_CLR :=
  fun c => by simpa only [Nat.add_zero] using lookup_of_pick (b := 0x3620) (s := 0x1d) (i := c.val) (j := 0) pick_TH_SENSOR_CLR c.isLt Nat.zero_lt_one (by decide) (by decide)
def row_SF_STO_ACK : OdRow := ⟨0x3800, 1, 0x14, 1, "SF_STO_ACK", .u32, .safe, 0, .any, 0xFFFC, 0, 0, false, 4, false⟩
theorem pick_SF_STO_ACK : Od.pick Od.rows 0x3800 1 0x14 1 = some row_SF_STO_ACK := by decide +kernel
theorem look_SF_STO_ACK : Od.lookup 0x3800 0x14 = .ok row_SF_STO_ACK :=
  by simpa only [Nat.add_zero] using lookup_of_pick (b := 0x3800) (s := 0x14) (i := 0) (j := 0) pick_SF_STO_ACK Nat.zero_lt_one Nat.zero_lt_one (by decide) (by decide)
def row_SF_SIGNOFF_CMD : OdRow := ⟨0x3800, 1, 0x02, 1, "SF_SIGNOFF_CMD", .u8, .safe, 0, .int 1 3 1 none, 0, 0, 0, false, 1, false⟩
theorem pick_SF_SIGNOFF_CMD : Od.pick Od.rows 0x3800 1 0x2 1 = some row_SF_SIGNOFF_CMD := by decide +kernel
theorem look_SF_SIGNOFF_CMD : Od.lookup 0x3800 0x02 = .ok row_SF_SIGNOFF_CMD :=
  by simpa only [Nat.add_zero] using lookup_of_pick (b := 0x3800) (s := 0x2) (i := 0) (j := 0) pick_SF_SIGNOFF_CMD Nat.zero_lt_one Nat.zero_lt_one (by decide) (by decide)
def row_SF_CONFIRM : OdRow := ⟨0x3800, 1, 0x05, 1, "SF_CONFIRM", .u32, .safe, 0, .any, 0, 0, 0, false, 4, false⟩
theorem pick_SF_CONFIRM : Od.pick Od.rows 0x3800 1 0x5 1 = some row_SF_CONFIRM := by decide +kernel
theorem look_SF_CONFIRM : Od.lookup 0x3800 0x05 = .ok row_SF_CONFIRM :=
  by simpa only [Nat.add_zero] using lookup_of_pick (b := 0x3800) (s := 0x5) (i := 0) (j := 0) pick_SF_CONFIRM Nat.zero_lt_one Nat.zero_lt_one (by decide) (by decide)
def row_SF_IMAGE : OdRow := ⟨0x3800, 1, 0x09, 1, "SF_IMAGE", .domain, .safe, 0, .any, 0, 0, 0, false, 33554432, true⟩
theorem pick_SF_IMAGE : Od.pick Od.rows 0x3800 1 0x9 1 = some row_SF_IMAGE := by decide +kernel
theorem look_SF_IMAGE : Od.lookup 0x3800 0x09 = .ok row_SF_IMAGE :=
  by simpa only [Nat.add_zero] using lookup_of_pick (b := 0x3800) (s := 0x9) (i := 0) (j := 0) pick_SF_IMAGE Nat.zero_lt_one Nat.zero_lt_one (by decide) (by decide)
def row_TM_SET : OdRow := ⟨0x1300, 1, 0x0F, 1, "TM_SET", .time, .wo, 0, .any, 0, 0, 0, false, 14, false⟩
theorem pick_TM_SET : Od.pick Od.rows 0x1300 1 0xf 1 = some row_TM_SET := by decide +kernel
theorem look_TM_SET : Od.lookup 0x1300 0x0F = .ok row_TM_SET :=
  by simpa only [Nat.add_zero] using lookup_of_pick (b := 0x1300) (s := 0xf) (i := 0) (j := 0) pick_TM_SET Nat.zero_lt_one Nat.zero_lt_one (by decide) (by decide)
def row_BELL_CMD : OdRow := ⟨0x1340, 64, 0x03, 1, "BELL_CMD", .u8, .wo, 0, .int 1 2 1 none, 0, 0, 0, false, 1, false⟩
theorem pick_BELL_CMD : Od.pick Od.rows 0x1340 64 0x3 1 = some row_BELL_CMD := by decide +kernel
theorem look_BELL_CMD : ∀ b : Fin 64, Od.lookup (0x1340 + b.val) 0x03 = .ok row_BELL_CMD :=
  fun b => by simpa only [Nat.add_zero] using lookup_of_pick (b := 0x1340) (s := 0x3) (i := b.val) (j := 0) pick_BELL_CMD b.isLt Nat.zero_lt_one (by decide) (by decide)
def row_LVP_CMD : OdRow := ⟨0x3440, 64, 0x04, 1, "LVP_CMD", .u8, .wo, 0, .int 1 3 1 none, 0, 0, 0, false, 1, false⟩
theorem pick_LVP_CMD : Od.pick Od.rows 0x3440 64 0x4 1 = some row_LVP_CMD := by decide +kernel
theorem look_LVP_CMD : ∀ e : Fin 64, Od.lookup (0x3440 + e.val) 0x04 = .ok row_LVP_CMD :=
  fun e => by simpa only [Nat.add_zero] using lookup_of_pick (b := 0x3440) (s := 0x4) (i := e.val) (j := 0) pick_LVP_CMD e.isLt Nat.zero_lt_one (by decide) (by decide)
def row_LANE_CTRL : OdRow := ⟨0x1280, 4, 0x01, 1, "LANE_CTRL", .u16, .rw, 1, .any, 0xF000, 0, 0, true, 2, false⟩
theorem pick_LANE_CTRL : Od.pick Od.rows 0x1280 4 0x1 1 = some row_LANE_CTRL := by decide +kernel
theorem look_LANE_CTRL : ∀ n : Fin 4, Od.lookup (0x1280 + n.val) 0x01 = .ok row_LANE_CTRL :=
  fun n => by simpa only [Nat.add_zero] using lookup_of_pick (b := 0x1280) (s := 0x1) (i := n.val) (j := 0) pick_LANE_CTRL n.isLt Nat.zero_lt_one (by decide) (by decide)
def row_LANE_CNT_CLR : OdRow := ⟨0x1280, 4, 0x19, 1, "LANE_CNT_CLR", .u8, .wo, 0, .int 1 1 1 none, 0, 0, 0, false, 1, false⟩
theorem pick_LANE_CNT_CLR : Od.pick Od.rows 0x1280 4 0x19 1 = some row_LANE_CNT_CLR := by decide +kernel
theorem look_LANE_CNT_CLR : ∀ n : Fin 4, Od.lookup (0x1280 + n.val) 0x19 = .ok row_LANE_CNT_CLR :=
  fun n => by simpa only [Nat.add_zero] using lookup_of_pick (b := 0x1280) (s := 0x19) (i := n.val) (j := 0) pick_LANE_CNT_CLR n.isLt Nat.zero_lt_one (by decide) (by decide)
def row_SLOT_CMD : OdRow := ⟨0x2100, 32, 0x03, 1, "SLOT_CMD", .u16, .wo, 0, .any, 0xC000, 0, 0, false, 2, false⟩
theorem pick_SLOT_CMD : Od.pick Od.rows 0x2100 32 0x3 1 = some row_SLOT_CMD := by decide +kernel
theorem look_SLOT_CMD : ∀ c : Fin 32, Od.lookup (0x2100 + c.val) 0x03 = .ok row_SLOT_CMD :=
  fun c => by simpa only [Nat.add_zero] using lookup_of_pick (b := 0x2100) (s := 0x3) (i := c.val) (j := 0) pick_SLOT_CMD c.isLt Nat.zero_lt_one (by decide) (by decide)
def row_SLOT_TEMPLATE : OdRow := ⟨0x2100, 32, 0x01, 1, "SLOT_TEMPLATE", .u8, .rw, 0, .int 0 5 1 none, 0, 6, 0, true, 1, false⟩
theorem pick_SLOT_TEMPLATE : Od.pick Od.rows 0x2100 32 0x1 1 = some row_SLOT_TEMPLATE := by decide +kernel
theorem look_SLOT_TEMPLATE : ∀ c : Fin 32, Od.lookup (0x2100 + c.val) 0x01 = .ok row_SLOT_TEMPLATE :=
  fun c => by simpa only [Nat.add_zero] using lookup_of_pick (b := 0x2100) (s := 0x1) (i := c.val) (j := 0) pick_SLOT_TEMPLATE c.isLt Nat.zero_lt_one (by decide) (by decide)
def row_ALL_STOP : OdRow := ⟨0x2000, 1, 0x04, 1, "ALL_STOP", .u8, .wo, 0, .int 1 1 1 none, 0, 0, 0, false, 1, false⟩
theorem pick_ALL_STOP : Od.pick Od.rows 0x2000 1 0x4 1 = some row_ALL_STOP := by decide +kernel
theorem look_ALL_STOP : Od.lookup 0x2000 0x04 = .ok row_ALL_STOP :=
  by simpa only [Nat.add_zero] using lookup_of_pick (b := 0x2000) (s := 0x4) (i := 0) (j := 0) pick_ALL_STOP Nat.zero_lt_one Nat.zero_lt_one (by decide) (by decide)
def row_UNIT_LOOP : OdRow := ⟨0x2100, 32, 0x10, 6, "UNIT_LOOP", .u8, .rw, 255, .int 0 127 1 (some 0xFF), 0, 0, 0, true, 1, false⟩
theorem pick_UNIT_LOOP : Od.pick Od.rows 0x2100 32 0x10 6 = some row_UNIT_LOOP := by decide +kernel
theorem look_UNIT_LOOP : ∀ c : Fin 32, ∀ u : Fin 6, Od.lookup (0x2100 + c.val) (0x10 + u.val) = .ok row_UNIT_LOOP :=
  fun c u => by simpa only [Nat.add_zero] using lookup_of_pick (b := 0x2100) (s := 0x10) (i := c.val) (j := u.val) pick_UNIT_LOOP c.isLt u.isLt (by decide) (by decide)
def row_STR_CMD : OdRow := ⟨0x3220, 32, 0x03, 1, "STR_CMD", .u8, .wo, 0, .int 1 4 1 none, 0, 0, 0, false, 1, false⟩
theorem pick_STR_CMD : Od.pick Od.rows 0x3220 32 0x3 1 = some row_STR_CMD := by decide +kernel
theorem look_STR_CMD : ∀ i : Fin 32, Od.lookup (0x3220 + i.val) 0x03 = .ok row_STR_CMD :=
  fun i => by simpa only [Nat.add_zero] using lookup_of_pick (b := 0x3220) (s := 0x3) (i := i.val) (j := 0) pick_STR_CMD i.isLt Nat.zero_lt_one (by decide) (by decide)
def row_PWR_REQ : OdRow := ⟨0x1900, 1, 0x02, 1, "PWR_REQ", .u16, .rw, 1023, .any, 0xFC00, 0, 0, true, 2, false⟩
theorem pick_PWR_REQ : Od.pick Od.rows 0x1900 1 0x2 1 = some row_PWR_REQ := by decide +kernel
theorem look_PWR_REQ : Od.lookup 0x1900 0x02 = .ok row_PWR_REQ :=
  by simpa only [Nat.add_zero] using lookup_of_pick (b := 0x1900) (s := 0x2) (i := 0) (j := 0) pick_PWR_REQ Nat.zero_lt_one Nat.zero_lt_one (by decide) (by decide)
def row_PWR_CMD : OdRow := ⟨0x1900, 1, 0x0B, 1, "PWR_CMD", .u8, .wo, 0, .int 1 1 1 none, 0, 0, 0, false, 1, false⟩
theorem pick_PWR_CMD : Od.pick Od.rows 0x1900 1 0xb 1 = some row_PWR_CMD := by decide +kernel
theorem look_PWR_CMD : Od.lookup 0x1900 0x0B = .ok row_PWR_CMD :=
  by simpa only [Nat.add_zero] using lookup_of_pick (b := 0x1900) (s := 0xb) (i := 0) (j := 0) pick_PWR_CMD Nat.zero_lt_one Nat.zero_lt_one (by decide) (by decide)
def row_RST_CMD : OdRow := ⟨0x1900, 1, 0x0A, 1, "RST_CMD", .u8, .wo, 0, .int 165 165 1 none, 0, 0, 0, false, 1, false⟩
theorem pick_RST_CMD : Od.pick Od.rows 0x1900 1 0xa 1 = some row_RST_CMD := by decide +kernel
theorem look_RST_CMD : Od.lookup 0x1900 0x0A = .ok row_RST_CMD :=
  by simpa only [Nat.add_zero] using lookup_of_pick (b := 0x1900) (s := 0xa) (i := 0) (j := 0) pick_RST_CMD Nat.zero_lt_one Nat.zero_lt_one (by decide) (by decide)
def row_HOST_WD_SERVICE : OdRow := ⟨0x1900, 1, 0x11, 1, "HOST_WD_SERVICE", .u8, .wo, 0, .int 1 1 1 none, 0, 0, 0, false, 1, false⟩
theorem pick_HOST_WD_SERVICE : Od.pick Od.rows 0x1900 1 0x11 1 = some row_HOST_WD_SERVICE := by decide +kernel
theorem look_HOST_WD_SERVICE : Od.lookup 0x1900 0x11 = .ok row_HOST_WD_SERVICE :=
  by simpa only [Nat.add_zero] using lookup_of_pick (b := 0x1900) (s := 0x11) (i := 0) (j := 0) pick_HOST_WD_SERVICE Nat.zero_lt_one Nat.zero_lt_one (by decide) (by decide)
def row_CAR_RUN : OdRow := ⟨0x2300, 64, 0x08, 1, "CAR_RUN", .u8, .wo, 0, .int 1 2 1 none, 0, 0, 0, false, 1, false⟩
theorem pick_CAR_RUN : Od.pick Od.rows 0x2300 64 0x8 1 = some row_CAR_RUN := by decide +kernel
theorem look_CAR_RUN : ∀ k : Fin 64, Od.lookup (0x2300 + k.val) 0x08 = .ok row_CAR_RUN :=
  fun k => by simpa only [Nat.add_zero] using lookup_of_pick (b := 0x2300) (s := 0x8) (i := k.val) (j := 0) pick_CAR_RUN k.isLt Nat.zero_lt_one (by decide) (by decide)
def row_CAR_COMMIT : OdRow := ⟨0x2300, 64, 0x05, 1, "CAR_COMMIT", .u8, .wo, 0, .int 1 2 1 none, 0, 0, 0, false, 1, false⟩
theorem pick_CAR_COMMIT : Od.pick Od.rows 0x2300 64 0x5 1 = some row_CAR_COMMIT := by decide +kernel
theorem look_CAR_COMMIT : ∀ k : Fin 64, Od.lookup (0x2300 + k.val) 0x05 = .ok row_CAR_COMMIT :=
  fun k => by simpa only [Nat.add_zero] using lookup_of_pick (b := 0x2300) (s := 0x5) (i := k.val) (j := 0) pick_CAR_COMMIT k.isLt Nat.zero_lt_one (by decide) (by decide)
def row_LEG_FORCE : OdRow := ⟨0x2200, 192, 0x16, 1, "LEG_FORCE", .u8, .rw, 0, .any, 192, 0, 0, true, 1, false⟩
theorem pick_LEG_FORCE : Od.pick Od.rows 0x2200 192 0x16 1 = some row_LEG_FORCE := by decide +kernel
theorem look_LEG_FORCE : ∀ l : Fin 192, Od.lookup (0x2200 + l.val) 0x16 = .ok row_LEG_FORCE :=
  fun l => by simpa only [Nat.add_zero] using lookup_of_pick (b := 0x2200) (s := 0x16) (i := l.val) (j := 0) pick_LEG_FORCE l.isLt Nat.zero_lt_one (by decide) (by decide)
def row_BIST_CMD : OdRow := ⟨0x1C00, 1, 0x01, 1, "BIST_CMD", .u8, .wo, 0, .int 1 2 1 none, 0, 0, 0, false, 1, false⟩
theorem pick_BIST_CMD : Od.pick Od.rows 0x1c00 1 0x1 1 = some row_BIST_CMD := by decide +kernel
theorem look_BIST_CMD : Od.lookup 0x1C00 0x01 = .ok row_BIST_CMD :=
  by simpa only [Nat.add_zero] using lookup_of_pick (b := 0x1c00) (s := 0x1) (i := 0) (j := 0) pick_BIST_CMD Nat.zero_lt_one Nat.zero_lt_one (by decide) (by decide)
def row_CFG_CMD : OdRow := ⟨0x1B00, 1, 0x03, 1, "CFG_CMD", .u8, .wo, 0, .int 1 2 1 none, 0, 0, 0, false, 1, false⟩
theorem pick_CFG_CMD : Od.pick Od.rows 0x1b00 1 0x3 1 = some row_CFG_CMD := by decide +kernel
theorem look_CFG_CMD : Od.lookup 0x1B00 0x03 = .ok row_CFG_CMD :=
  by simpa only [Nat.add_zero] using lookup_of_pick (b := 0x1b00) (s := 0x3) (i := 0) (j := 0) pick_CFG_CMD Nat.zero_lt_one Nat.zero_lt_one (by decide) (by decide)
def row_CFG_IMAGE : OdRow := ⟨0x1B00, 1, 0x05, 1, "CFG_IMAGE", .domain, .rw, 0, .any, 0, 0, 0, false, 520260, true⟩
theorem pick_CFG_IMAGE : Od.pick Od.rows 0x1b00 1 0x5 1 = some row_CFG_IMAGE := by decide +kernel
theorem look_CFG_IMAGE : Od.lookup 0x1B00 0x05 = .ok row_CFG_IMAGE :=
  by simpa only [Nat.add_zero] using lookup_of_pick (b := 0x1b00) (s := 0x5) (i := 0) (j := 0) pick_CFG_IMAGE Nat.zero_lt_one Nat.zero_lt_one (by decide) (by decide)
def row_FW_IMAGE : OdRow := ⟨0x1B00, 1, 0x10, 1, "FW_IMAGE", .domain, .wo, 0, .any, 0, 0, 0, false, 8388608, true⟩
theorem pick_FW_IMAGE : Od.pick Od.rows 0x1b00 1 0x10 1 = some row_FW_IMAGE := by decide +kernel
theorem look_FW_IMAGE : Od.lookup 0x1B00 0x10 = .ok row_FW_IMAGE :=
  by simpa only [Nat.add_zero] using lookup_of_pick (b := 0x1b00) (s := 0x10) (i := 0) (j := 0) pick_FW_IMAGE Nat.zero_lt_one Nat.zero_lt_one (by decide) (by decide)
def row_FW_CMD : OdRow := ⟨0x1B00, 1, 0x11, 1, "FW_CMD", .u8, .wo, 0, .int 1 2 1 none, 0, 0, 0, false, 1, false⟩
theorem pick_FW_CMD : Od.pick Od.rows 0x1b00 1 0x11 1 = some row_FW_CMD := by decide +kernel
theorem look_FW_CMD : Od.lookup 0x1B00 0x11 = .ok row_FW_CMD :=
  by simpa only [Nat.add_zero] using lookup_of_pick (b := 0x1b00) (s := 0x11) (i := 0) (j := 0) pick_FW_CMD Nat.zero_lt_one Nat.zero_lt_one (by decide) (by decide)
def row_SEC_FUSE_CMD : OdRow := ⟨0x1B40, 1, 0x04, 1, "SEC_FUSE_CMD", .u8, .wo, 0, .int 1 4 1 none, 0, 0, 0, false, 1, false⟩
theorem pick_SEC_FUSE_CMD : Od.pick Od.rows 0x1b40 1 0x4 1 = some row_SEC_FUSE_CMD := by decide +kernel
theorem look_SEC_FUSE_CMD : Od.lookup 0x1B40 0x04 = .ok row_SEC_FUSE_CMD :=
  by simpa only [Nat.add_zero] using lookup_of_pick (b := 0x1b40) (s := 0x4) (i := 0) (j := 0) pick_SEC_FUSE_CMD Nat.zero_lt_one Nat.zero_lt_one (by decide) (by decide)
def row_SEC_DEBUG_UNLOCK : OdRow := ⟨0x1B40, 1, 0x0B, 1, "SEC_DEBUG_UNLOCK", .domain, .wo, 0, .any, 0, 0, 0, false, 256, true⟩
theorem pick_SEC_DEBUG_UNLOCK : Od.pick Od.rows 0x1b40 1 0xb 1 = some row_SEC_DEBUG_UNLOCK := by decide +kernel
theorem look_SEC_DEBUG_UNLOCK : Od.lookup 0x1B40 0x0B = .ok row_SEC_DEBUG_UNLOCK :=
  by simpa only [Nat.add_zero] using lookup_of_pick (b := 0x1b40) (s := 0xb) (i := 0) (j := 0) pick_SEC_DEBUG_UNLOCK Nat.zero_lt_one Nat.zero_lt_one (by decide) (by decide)
def row_SEC_NONCE : OdRow := ⟨0x1B40, 1, 0x07, 1, "SEC_NONCE", .octets, .wo, 0, .any, 0, 0, 0, false, 32, false⟩
theorem pick_SEC_NONCE : Od.pick Od.rows 0x1b40 1 0x7 1 = some row_SEC_NONCE := by decide +kernel
theorem look_SEC_NONCE : Od.lookup 0x1B40 0x07 = .ok row_SEC_NONCE :=
  by simpa only [Nat.add_zero] using lookup_of_pick (b := 0x1b40) (s := 0x7) (i := 0) (j := 0) pick_SEC_NONCE Nat.zero_lt_one Nat.zero_lt_one (by decide) (by decide)
def row_CEL_CMD : OdRow := ⟨0x1B20, 1, 0x02, 1, "CEL_CMD", .u8, .wo, 0, .int 1 4 1 none, 0, 0, 0, false, 1, false⟩
theorem pick_CEL_CMD : Od.pick Od.rows 0x1b20 1 0x2 1 = some row_CEL_CMD := by decide +kernel
theorem look_CEL_CMD : Od.lookup 0x1B20 0x02 = .ok row_CEL_CMD :=
  by simpa only [Nat.add_zero] using lookup_of_pick (b := 0x1b20) (s := 0x2) (i := 0) (j := 0) pick_CEL_CMD Nat.zero_lt_one Nat.zero_lt_one (by decide) (by decide)

/-! ### Owners -/

theorem execMgrTransfer_served (q : Req) {s : State} (h : s.serves q 0x1400 0x0D = true) :
    execMgrTransfer q s = .next (State.finish ((s.upTo q.t).doneCmd ((s.upTo q.t).ownMgrCmd 2) fun s => s.updMgr fun m => { m with cmdSt := .refused })
      (q.msg 2 0x1400 0x0D []) 2) := by
  have ht : row_MGR_CMD.takes (s.upTo q.t) 0x1400 0x0D (leBytes 1 2) = true :=
    takes_of (by decide) (by decide) (.inl (by decide)) (seg_upTo h _) rfl
  unfold execMgrTransfer
  rw [writeCmd_served h (look_MGR_CMD) (by decide) (by decide) (by decide) (by have := pathLimit_le q.path; simp only [leBytes_length]; omega) ht]
  rw [writeOwned_plain (r := row_MGR_CMD) (by decide)]
  simp only [State.writeOwned0, row_MGR_CMD]
  rfl
theorem execMgrHandback_served (q : Req) {s : State} (h : s.serves q 0x1400 0x0D = true) :
    execMgrHandback q s = .next (State.finish ((s.upTo q.t).doneCmd ((s.upTo q.t).ownMgrCmd 1) fun s => s.updMgr fun m => { m with cmdSt := .refused })
      (q.msg 2 0x1400 0x0D []) 2) := by
  have ht : row_MGR_CMD.takes (s.upTo q.t) 0x1400 0x0D (leBytes 1 1) = true :=
    takes_of (by decide) (by decide) (.inl (by decide)) (seg_upTo h _) rfl
  unfold execMgrHandback
  rw [writeCmd_served h (look_MGR_CMD) (by decide) (by decide) (by decide) (by have := pathLimit_le q.path; simp only [leBytes_length]; omega) ht]
  rw [writeOwned_plain (r := row_MGR_CMD) (by decide)]
  simp only [State.writeOwned0, row_MGR_CMD]
  rfl
theorem execRollCall_served (q : Req) {s : State} (h : s.serves q 0x1200 0x03 = true) :
    execRollCall q s = .next (State.finish ((s.upTo q.t).done (s.upTo q.t).ownRingCmd)
      (q.msg 2 0x1200 0x03 []) 2) := by
  have ht : row_RING_CMD.takes (s.upTo q.t) 0x1200 0x03 (leBytes 1 1) = true :=
    takes_of (by decide) (by decide) (.inl (by decide)) (seg_upTo h _) rfl
  unfold execRollCall
  rw [writeCmd_served h (look_RING_CMD) (by decide) (by decide) (by decide) (by have := pathLimit_le q.path; simp only [leBytes_length]; omega) ht]
  rw [writeOwned_plain (r := row_RING_CMD) (by decide)]
  simp only [State.writeOwned0, row_RING_CMD]
  rfl
theorem execAlmAck_served (q : Req) (seq : BitVec 32) {s : State} (h : s.serves q 0x1230 0x05 = true) :
    execAlmAck q seq s = .next (State.finish ((s.upTo q.t).done ((s.upTo q.t).ownAlmAck seq.toNat))
      (q.msg 2 0x1230 0x05 []) 4) := by
  have ht : row_ALM_ACK.takes (s.upTo q.t) 0x1230 0x05 (leBytes 4 seq.toNat) = true :=
    takes_of (by decide) (check_any (by simp [row_ALM_ACK, leBytes_length]) (by decide) rfl (by simp [row_ALM_ACK])) (.inl (by decide)) (seg_upTo h _) rfl
  unfold execAlmAck
  rw [writeCmd_served h (look_ALM_ACK) (by decide) (by decide) (by decide) (by have := pathLimit_le q.path; simp only [leBytes_length]; omega) ht]
  have e : leNat (leBytes 4 seq.toNat) = seq.toNat := by
    have := seq.isLt; exact leNat_leBytes (by omega)
  rw [writeOwned_plain (r := row_ALM_ACK) (by decide)]
  simp only [State.writeOwned0, row_ALM_ACK, e]
  rfl
theorem execQClr_served (q : Req) {s : State} (h : s.serves q 0x2A00 0x09 = true) :
    execQClr q s = .next (State.finish (((s.upTo q.t).qClr, 0))
      (q.msg 2 0x2A00 0x09 []) 2) := by
  have ht : row_Q_CLR.takes (s.upTo q.t) 0x2A00 0x09 (leBytes 1 1) = true :=
    takes_of (by decide) (by decide) (.inl (by decide)) (seg_upTo h _) rfl
  unfold execQClr
  rw [writeCmd_served h (look_Q_CLR) (by decide) (by decide) (by decide) (by have := pathLimit_le q.path; simp only [leBytes_length]; omega) ht]
  rw [writeOwned_plain (r := row_Q_CLR) (by decide)]
  simp only [State.writeOwned0, row_Q_CLR]
  rfl
theorem execFltClr_served (q : Req) (code : BitVec 16) (i : BitVec 16) {s : State} (h : s.serves q 0x1800 0x08 = true) :
    execFltClr q code i s = .next (State.finish ((s.upTo q.t).fltClr (code.toNat + i.toNat * 2 ^ 16))
      (q.msg 2 0x1800 0x08 []) 4) := by
  have ht : row_FLT_CLR.takes (s.upTo q.t) 0x1800 0x08 (leBytes 2 code.toNat ++ leBytes 2 i.toNat) = true :=
    takes_of (by decide) (check_any (by simp [row_FLT_CLR, leBytes_length]) (by decide) rfl (by simp [row_FLT_CLR])) (.inl (by decide)) (seg_upTo h _) rfl
  unfold execFltClr
  rw [writeCmd_served h (look_FLT_CLR) (by decide) (by decide) (by decide) (by have := pathLimit_le q.path; simp only [List.length_append, leBytes_length]; omega) ht]
  have e : leNat (leBytes 2 code.toNat ++ leBytes 2 i.toNat) = code.toNat + i.toNat * 2 ^ 16 := by
    have := code.isLt; have := i.isLt
    rw [leNat_append, leBytes_length, leNat_leBytes (by omega), leNat_leBytes (by omega)]; omega
  rw [writeOwned_plain (r := row_FLT_CLR) (by decide)]
  simp only [State.writeOwned0, row_FLT_CLR, State.writeFlt, e]
  rfl
theorem execFltFirstClr_served (q : Req) (v : BitVec 8) {s : State} (h : s.serves q 0x1800 0x07 = true) (hv : v.toNat &&& 248 = 0) :
    execFltFirstClr q v s = .next (State.finish ((s.upTo q.t).done ((s.upTo q.t).ownFirstClr v.toNat))
      (q.msg 2 0x1800 0x07 []) 2) := by
  have ht : row_FLT_FIRST_CLR.takes (s.upTo q.t) 0x1800 0x07 (leBytes 1 v.toNat) = true :=
    takes_of (by decide) (check_any (by simp [row_FLT_FIRST_CLR, leBytes_length]) (by decide) rfl (by rw [leNat_leBytes (by have := v.isLt; omega)]; exact hv)) (.inl (by decide)) (seg_upTo h _) rfl
  unfold execFltFirstClr
  rw [writeCmd_served h (look_FLT_FIRST_CLR) (by decide) (by decide) (by decide) (by have := pathLimit_le q.path; simp only [leBytes_length]; omega) ht]
  have e : leNat (leBytes 1 v.toNat) = v.toNat := by
    have := v.isLt; exact leNat_leBytes (by omega)
  rw [writeOwned_plain (r := row_FLT_FIRST_CLR) (by decide)]
  simp only [State.writeOwned0, row_FLT_FIRST_CLR, e]
  rfl
theorem execFbScCountWrite_served (q : Req) (v : BitVec 64) {s : State} (h : s.serves q 0x3500 0x11 = true) :
    execFbScCountWrite q v s = .next (State.finish ((s.upTo q.t).done ((s.upTo q.t).ownScCount v.toNat))
      (q.msg 2 0x3500 0x11 []) 9) := by
  have ht : row_FB_SC_COUNT.takes (s.upTo q.t) 0x3500 0x11 (leBytes 8 v.toNat) = true :=
    takes_of (by decide) (check_any (by simp [row_FB_SC_COUNT, leBytes_length]) (by decide) rfl (by simp [row_FB_SC_COUNT])) (.inl (by decide)) (seg_upTo h _) rfl
  unfold execFbScCountWrite
  rw [writeCmd_served h (look_FB_SC_COUNT) (by decide) (by decide) (by decide) (by have := pathLimit_le q.path; simp only [leBytes_length]; omega) ht]
  have e : leNat (leBytes 8 v.toNat) = v.toNat := by
    have := v.isLt; exact leNat_leBytes (by omega)
  rw [writeOwned_plain (r := row_FB_SC_COUNT) (by decide)]
  simp only [State.writeOwned0, row_FB_SC_COUNT, e]
  rfl
theorem execFbPlsCountWrite_served (q : Req) (v : BitVec 64) {s : State} (h : s.serves q 0x3500 0x18 = true) :
    execFbPlsCountWrite q v s = .next (State.finish ((s.upTo q.t).done ((s.upTo q.t).ownPlsCount v.toNat))
      (q.msg 2 0x3500 0x18 []) 9) := by
  have ht : row_FB_PLS_COUNT.takes (s.upTo q.t) 0x3500 0x18 (leBytes 8 v.toNat) = true :=
    takes_of (by decide) (check_any (by simp [row_FB_PLS_COUNT, leBytes_length]) (by decide) rfl (by simp [row_FB_PLS_COUNT])) (.inl (by decide)) (seg_upTo h _) rfl
  unfold execFbPlsCountWrite
  rw [writeCmd_served h (look_FB_PLS_COUNT) (by decide) (by decide) (by decide) (by have := pathLimit_le q.path; simp only [leBytes_length]; omega) ht]
  have e : leNat (leBytes 8 v.toNat) = v.toNat := by
    have := v.isLt; exact leNat_leBytes (by omega)
  rw [writeOwned_plain (r := row_FB_PLS_COUNT) (by decide)]
  simp only [State.writeOwned0, row_FB_PLS_COUNT, e]
  rfl
theorem execFbIrqClr_served (q : Req) (v : BitVec 8) {s : State} (h : s.serves q 0x3500 0x0E = true) (hv : v.toNat &&& 248 = 0) :
    execFbIrqClr q v s = .next (State.finish ((s.upTo q.t).done ((s.upTo q.t).ownIrqClr v.toNat))
      (q.msg 2 0x3500 0x0E []) 2) := by
  have ht : row_FB_IRQ_CLR.takes (s.upTo q.t) 0x3500 0x0E (leBytes 1 v.toNat) = true :=
    takes_of (by decide) (check_any (by simp [row_FB_IRQ_CLR, leBytes_length]) (by decide) rfl (by rw [leNat_leBytes (by have := v.isLt; omega)]; exact hv)) (.inl (by decide)) (seg_upTo h _) rfl
  unfold execFbIrqClr
  rw [writeCmd_served h (look_FB_IRQ_CLR) (by decide) (by decide) (by decide) (by have := pathLimit_le q.path; simp only [leBytes_length]; omega) ht]
  have e : leNat (leBytes 1 v.toNat) = v.toNat := by
    have := v.isLt; exact leNat_leBytes (by omega)
  rw [writeOwned_plain (r := row_FB_IRQ_CLR) (by decide)]
  simp only [State.writeOwned0, row_FB_IRQ_CLR, e]
  rfl
theorem execFbCtrlWrite_served (q : Req) (v : BitVec 16) {s : State} (h : s.serves q 0x3500 0x01 = true) (hv : v.toNat &&& 65280 = 0) :
    execFbCtrlWrite q v s = .next (State.finish ((s.upTo q.t).done ((s.upTo q.t).ownFbCtrl v.toNat))
      (q.msg 2 0x3500 0x01 []) 3) := by
  have ht : row_FB_CTRL.takes (s.upTo q.t) 0x3500 0x01 (leBytes 2 v.toNat) = true :=
    takes_of (by decide) (check_any (by simp [row_FB_CTRL, leBytes_length]) (by decide) rfl (by rw [leNat_leBytes (by have := v.isLt; omega)]; exact hv)) (.inl (by decide)) (seg_upTo h _) rfl
  unfold execFbCtrlWrite
  rw [writeCmd_served h (look_FB_CTRL) (by decide) (by decide) (by decide) (by have := pathLimit_le q.path; simp only [leBytes_length]; omega) ht]
  have e : leNat (leBytes 2 v.toNat) = v.toNat := by
    have := v.isLt; exact leNat_leBytes (by omega)
  rw [writeOwned_plain (r := row_FB_CTRL) (by decide)]
  simp only [State.writeOwned0, row_FB_CTRL, e]
  rfl
theorem execClkApply_served (q : Req) {s : State} (h : s.serves q 0x1A00 0x0A = true) :
    execClkApply q s = .next ((State.finish ((s.upTo q.t).doneCmd ((s.upTo q.t).ownClkApply 1) fun s => s.updClk fun c => { c with applySt := .refused })
      (q.msg 2 0x1A00 0x0A []) 2).clkSettle.serveStalled) := by
  have ht : row_CLK_APPLY.takes (s.upTo q.t) 0x1A00 0x0A (leBytes 1 1) = true :=
    takes_of (by decide) (by decide) (.inl (by decide)) (seg_upTo h _) rfl
  unfold execClkApply
  rw [writeCmd_settles h (look_CLK_APPLY) (by decide) (by decide) (by have := pathLimit_le q.path; simp only [leBytes_length]; omega) ht]
  rw [writeOwned_plain (r := row_CLK_APPLY) (by decide)]
  simp only [State.writeOwned0, row_CLK_APPLY]
  rfl
theorem execClkDiscard_served (q : Req) {s : State} (h : s.serves q 0x1A00 0x0A = true) :
    execClkDiscard q s = .next ((State.finish ((s.upTo q.t).doneCmd ((s.upTo q.t).ownClkApply 2) fun s => s.updClk fun c => { c with applySt := .refused })
      (q.msg 2 0x1A00 0x0A []) 2).clkSettle.serveStalled) := by
  have ht : row_CLK_APPLY.takes (s.upTo q.t) 0x1A00 0x0A (leBytes 1 2) = true :=
    takes_of (by decide) (by decide) (.inl (by decide)) (seg_upTo h _) rfl
  unfold execClkDiscard
  rw [writeCmd_settles h (look_CLK_APPLY) (by decide) (by decide) (by have := pathLimit_le q.path; simp only [leBytes_length]; omega) ht]
  rw [writeOwned_plain (r := row_CLK_APPLY) (by decide)]
  simp only [State.writeOwned0, row_CLK_APPLY]
  rfl
theorem execLsProgramWrite_served (q : Req) (n : Fin 128) (img : List Byte) {s : State} (h : s.serves q (0x3000 + n.val) 0x03 = true) (hv : img.length ≤ 33554432) :
    execLsProgramWrite q n img s = .next (State.finish (countSig ((s.upTo q.t).done ((s.upTo q.t).ownLsProgram n.val img)))
      (q.msg 5 (0x3000 + n.val) 0x03 []) 15) := by
  have ht : row_LS_PROGRAM.takes (s.upTo q.t) (0x3000 + n.val) 0x03 img = true :=
    takes_of (by decide) (check_domain hv (by decide)) (.inl (by decide)) (seg_upTo h _) rfl
  unfold execLsProgramWrite
  rw [writeWhole_served h (look_LS_PROGRAM n) (by decide) ht]
  rw [writeOwned_plain (r := row_LS_PROGRAM) (by decide)]
  simp only [State.writeOwned0, row_LS_PROGRAM, Nat.add_sub_cancel_left]
  rfl
theorem execLsRun_served (q : Req) (n : Fin 128) {s : State} (h : s.serves q (0x3000 + n.val) 0x02 = true) :
    execLsRun q n s = .next (State.finish ((s.upTo q.t).done ((s.upTo q.t).ownLsCmd n.val 1))
      (q.msg 2 (0x3000 + n.val) 0x02 []) 2) := by
  have ht : row_LS_CMD.takes (s.upTo q.t) (0x3000 + n.val) 0x02 (leBytes 1 1) = true :=
    takes_of (by decide) (by decide) (.inl (by decide)) (seg_upTo h _) rfl
  unfold execLsRun
  rw [writeCmd_served h (look_LS_CMD n) (by omega) (by omega) (by decide) (by have := pathLimit_le q.path; simp only [leBytes_length]; omega) ht]
  rw [writeOwned_plain (r := row_LS_CMD) (by decide)]
  simp only [State.writeOwned0, row_LS_CMD, Nat.add_sub_cancel_left]
  rfl
theorem execLsStop_served (q : Req) (n : Fin 128) {s : State} (h : s.serves q (0x3000 + n.val) 0x02 = true) :
    execLsStop q n s = .next (State.finish ((s.upTo q.t).done ((s.upTo q.t).ownLsCmd n.val 2))
      (q.msg 2 (0x3000 + n.val) 0x02 []) 2) := by
  have ht : row_LS_CMD.takes (s.upTo q.t) (0x3000 + n.val) 0x02 (leBytes 1 2) = true :=
    takes_of (by decide) (by decide) (.inl (by decide)) (seg_upTo h _) rfl
  unfold execLsStop
  rw [writeCmd_served h (look_LS_CMD n) (by omega) (by omega) (by decide) (by have := pathLimit_le q.path; simp only [leBytes_length]; omega) ht]
  rw [writeOwned_plain (r := row_LS_CMD) (by decide)]
  simp only [State.writeOwned0, row_LS_CMD, Nat.add_sub_cancel_left]
  rfl
theorem execLsHold_served (q : Req) (n : Fin 128) {s : State} (h : s.serves q (0x3000 + n.val) 0x02 = true) :
    execLsHold q n s = .next (State.finish ((s.upTo q.t).done ((s.upTo q.t).ownLsCmd n.val 3))
      (q.msg 2 (0x3000 + n.val) 0x02 []) 2) := by
  have ht : row_LS_CMD.takes (s.upTo q.t) (0x3000 + n.val) 0x02 (leBytes 1 3) = true :=
    takes_of (by decide) (by decide) (.inl (by decide)) (seg_upTo h _) rfl
  unfold execLsHold
  rw [writeCmd_served h (look_LS_CMD n) (by omega) (by omega) (by decide) (by have := pathLimit_le q.path; simp only [leBytes_length]; omega) ht]
  rw [writeOwned_plain (r := row_LS_CMD) (by decide)]
  simp only [State.writeOwned0, row_LS_CMD, Nat.add_sub_cancel_left]
  rfl
theorem execLsResume_served (q : Req) (n : Fin 128) {s : State} (h : s.serves q (0x3000 + n.val) 0x02 = true) :
    execLsResume q n s = .next (State.finish ((s.upTo q.t).done ((s.upTo q.t).ownLsCmd n.val 4))
      (q.msg 2 (0x3000 + n.val) 0x02 []) 2) := by
  have ht : row_LS_CMD.takes (s.upTo q.t) (0x3000 + n.val) 0x02 (leBytes 1 4) = true :=
    takes_of (by decide) (by decide) (.inl (by decide)) (seg_upTo h _) rfl
  unfold execLsResume
  rw [writeCmd_served h (look_LS_CMD n) (by omega) (by omega) (by decide) (by have := pathLimit_le q.path; simp only [leBytes_length]; omega) ht]
  rw [writeOwned_plain (r := row_LS_CMD) (by decide)]
  simp only [State.writeOwned0, row_LS_CMD, Nat.add_sub_cancel_left]
  rfl
theorem execLsUnload_served (q : Req) (n : Fin 128) {s : State} (h : s.serves q (0x3000 + n.val) 0x02 = true) :
    execLsUnload q n s = .next (State.finish ((s.upTo q.t).done ((s.upTo q.t).ownLsCmd n.val 5))
      (q.msg 2 (0x3000 + n.val) 0x02 []) 2) := by
  have ht : row_LS_CMD.takes (s.upTo q.t) (0x3000 + n.val) 0x02 (leBytes 1 5) = true :=
    takes_of (by decide) (by decide) (.inl (by decide)) (seg_upTo h _) rfl
  unfold execLsUnload
  rw [writeCmd_served h (look_LS_CMD n) (by omega) (by omega) (by decide) (by have := pathLimit_le q.path; simp only [leBytes_length]; omega) ht]
  rw [writeOwned_plain (r := row_LS_CMD) (by decide)]
  simp only [State.writeOwned0, row_LS_CMD, Nat.add_sub_cancel_left]
  rfl
theorem execLsBankSwap_served (q : Req) (n : Fin 128) {s : State} (h : s.serves q (0x3000 + n.val) 0x21 = true) :
    execLsBankSwap q n s = .next (State.finish ((s.upTo q.t).done ((s.upTo q.t).ownSwap n.val))
      (q.msg 2 (0x3000 + n.val) 0x21 []) 2) := by
  have ht : row_LS_BANK_SWAP.takes (s.upTo q.t) (0x3000 + n.val) 0x21 (leBytes 1 1) = true :=
    takes_of (by decide) (by decide) (.inl (by decide)) (seg_upTo h _) rfl
  unfold execLsBankSwap
  rw [writeCmd_served h (look_LS_BANK_SWAP n) (by omega) (by omega) (by decide) (by have := pathLimit_le q.path; simp only [leBytes_length]; omega) ht]
  rw [writeOwned_plain (r := row_LS_BANK_SWAP) (by decide)]
  simp only [State.writeOwned0, row_LS_BANK_SWAP, Nat.add_sub_cancel_left]
  rfl
theorem execLsCoefImageWrite_served (q : Req) (n : Fin 128) (img : List Byte) {s : State} (h : s.serves q (0x3000 + n.val) 0x23 = true) (hv : img.length ≤ 33554432) :
    execLsCoefImageWrite q n img s = .next (State.finish ((s.upTo q.t).done ((s.upTo q.t).ownCoefImage n.val img))
      (q.msg 5 (0x3000 + n.val) 0x23 []) 15) := by
  have ht : row_LS_COEF_IMAGE.takes (s.upTo q.t) (0x3000 + n.val) 0x23 img = true :=
    takes_of (by decide) (check_domain hv (by decide)) (.inl (by decide)) (seg_upTo h _) rfl
  unfold execLsCoefImageWrite
  rw [writeWhole_served h (look_LS_COEF_IMAGE n) (by decide) ht]
  rw [writeOwned_plain (r := row_LS_COEF_IMAGE) (by decide)]
  simp only [State.writeOwned0, row_LS_COEF_IMAGE, Nat.add_sub_cancel_left]
  rfl
theorem execLsCoefWordWrite_served (q : Req) (n : Fin 128) (v : BitVec 32) {s : State} (h : s.serves q (0x3000 + n.val) 0x25 = true) :
    execLsCoefWordWrite q n v s = .next (State.finish ((s.upTo q.t).done ((s.upTo q.t).ownCoefWord n.val v.toNat))
      (q.msg 2 (0x3000 + n.val) 0x25 []) 4) := by
  have ht : row_LS_COEF_WORD.takes (s.upTo q.t) (0x3000 + n.val) 0x25 (leBytes 4 v.toNat) = true :=
    takes_of (by decide) (check_any (by simp [row_LS_COEF_WORD, leBytes_length]) (by decide) rfl (by simp [row_LS_COEF_WORD])) (.inl (by decide)) (seg_upTo h _) rfl
  unfold execLsCoefWordWrite
  rw [writeCmd_served h (look_LS_COEF_WORD n) (by omega) (by omega) (by decide) (by have := pathLimit_le q.path; simp only [leBytes_length]; omega) ht]
  have e : leNat (leBytes 4 v.toNat) = v.toNat := by
    have := v.isLt; exact leNat_leBytes (by omega)
  rw [writeOwned_plain (r := row_LS_COEF_WORD) (by decide)]
  simp only [State.writeOwned0, row_LS_COEF_WORD, Nat.add_sub_cancel_left, e]
  rfl
theorem execLsCoefDirect_served (q : Req) (n : Fin 128) (w : BitVec 16) (v : BitVec 32) {s : State} (h : s.serves q (0x3000 + n.val) 0x26 = true) :
    execLsCoefDirect q n w v s = .next (State.finish ((s.upTo q.t).done ((s.upTo q.t).ownDirect n.val (w.toNat + v.toNat * 2 ^ 32)))
      (q.msg 2 (0x3000 + n.val) 0x26 []) 5) := by
  have ht : row_LS_COEF_DIRECT.takes (s.upTo q.t) (0x3000 + n.val) 0x26 (leBytes 2 w.toNat ++ leBytes 2 0 ++ leBytes 4 v.toNat) = true :=
    takes_of (by decide) (check_any (by simp [row_LS_COEF_DIRECT, leBytes_length]) (by decide) rfl (direct_rsv w v)) (.inl (by decide)) (seg_upTo h _) rfl
  unfold execLsCoefDirect
  rw [writeCmd_served h (look_LS_COEF_DIRECT n) (by omega) (by omega) (by decide) (by have := pathLimit_le q.path; simp only [List.length_append, leBytes_length]; omega) ht]
  have e := direct_val w v
  rw [writeOwned_plain (r := row_LS_COEF_DIRECT) (by decide)]
  simp only [State.writeOwned0, row_LS_COEF_DIRECT, Nat.add_sub_cancel_left, e]
  rfl
theorem execLsInValWrite_served (q : Req) (n : Fin 128) (i : Fin 16) (v : BitVec 32) {s : State} (h : s.serves q (0x3000 + n.val) (0x50 + i.val) = true) (hv : row_LS_IN_VAL.check (leBytes 4 v.toNat) = 0) :
    execLsInValWrite q n i v s = .next (State.finish ((s.upTo q.t).done ((s.upTo q.t).ownInVal n.val i.val v.toNat))
      (q.msg 2 (0x3000 + n.val) (0x50 + i.val) []) 10) := by
  have ht : row_LS_IN_VAL.takes (s.upTo q.t) (0x3000 + n.val) (0x50 + i.val) (leBytes 4 v.toNat) = true :=
    takes_of (by decide) (hv) (.inl (by decide)) (seg_upTo h _) rfl
  unfold execLsInValWrite
  rw [writeCmd_served h (look_LS_IN_VAL n i) (by omega) (by omega) (by decide) (by have := pathLimit_le q.path; simp only [leBytes_length]; omega) ht]
  have e : leNat (leBytes 4 v.toNat) = v.toNat := by
    have := v.isLt; exact leNat_leBytes (by omega)
  rw [writeOwned_plain (r := row_LS_IN_VAL) (by decide)]
  simp only [State.writeOwned0, row_LS_IN_VAL, Nat.add_sub_cancel_left, e]
  have k : ∀ (j : Fin 16) (t : State) (g : Reg) (w : Nat) (d : List Byte),
      t.writeLs n.val (0x50 + j.val) g w d = t.done (t.ownInVal n.val j.val w) := fun j t g w d =>
    match j with
    | ⟨0, _⟩ => rfl
    | ⟨1, _⟩ => rfl
    | ⟨2, _⟩ => rfl
    | ⟨3, _⟩ => rfl
    | ⟨4, _⟩ => rfl
    | ⟨5, _⟩ => rfl
    | ⟨6, _⟩ => rfl
    | ⟨7, _⟩ => rfl
    | ⟨8, _⟩ => rfl
    | ⟨9, _⟩ => rfl
    | ⟨10, _⟩ => rfl
    | ⟨11, _⟩ => rfl
    | ⟨12, _⟩ => rfl
    | ⟨13, _⟩ => rfl
    | ⟨14, _⟩ => rfl
    | ⟨15, _⟩ => rfl
    | ⟨_ + 16, hj⟩ => absurd hj (by omega)
  rw [k]
  rfl
theorem execThShutClr_served (q : Req) (v : BitVec 32) {s : State} (h : s.serves q 0x3600 0x07 = true) :
    execThShutClr q v s = .next (State.finish ((s.upTo q.t).done ((s.upTo q.t).ownShutClr v.toNat))
      (q.msg 2 0x3600 0x07 []) 4) := by
  have ht : row_TH_SHUT_CLR.takes (s.upTo q.t) 0x3600 0x07 (leBytes 4 v.toNat) = true :=
    takes_of (by decide) (check_any (by simp [row_TH_SHUT_CLR, leBytes_length]) (by decide) rfl (by simp [row_TH_SHUT_CLR])) (.inl (by decide)) (seg_upTo h _) rfl
  unfold execThShutClr
  rw [writeCmd_served h (look_TH_SHUT_CLR) (by decide) (by decide) (by decide) (by have := pathLimit_le q.path; simp only [leBytes_length]; omega) ht]
  have e : leNat (leBytes 4 v.toNat) = v.toNat := by
    have := v.isLt; exact leNat_leBytes (by omega)
  rw [writeOwned_plain (r := row_TH_SHUT_CLR) (by decide)]
  simp only [State.writeOwned0, row_TH_SHUT_CLR, e]
  rfl
theorem execThSensorClr_served (q : Req) (c : Fin 32) {s : State} (h : s.serves q (0x3620 + c.val) 0x1D = true) :
    execThSensorClr q c s = .next (State.finish ((s.upTo q.t).done ((s.upTo q.t).ownSensorClr c.val))
      (q.msg 2 (0x3620 + c.val) 0x1D []) 2) := by
  have ht : row_TH_SENSOR_CLR.takes (s.upTo q.t) (0x3620 + c.val) 0x1D (leBytes 1 1) = true :=
    takes_of (by decide) (by decide) (.inl (by decide)) (seg_upTo h _) rfl
  unfold execThSensorClr
  rw [writeCmd_served h (look_TH_SENSOR_CLR c) (by omega) (by omega) (by decide) (by have := pathLimit_le q.path; simp only [leBytes_length]; omega) ht]
  rw [writeOwned_plain (r := row_TH_SENSOR_CLR) (by decide)]
  simp only [State.writeOwned0, row_TH_SENSOR_CLR, Nat.add_sub_cancel_left, State.writeTh, if_true]
  rfl
theorem execSfStoAck_served (q : Req) (v : BitVec 32) {s : State} (h : s.serves q 0x3800 0x14 = true) (hv : v.toNat &&& 65532 = 0) :
    execSfStoAck q v s = .next (State.finish ((s.upTo q.t).done ((s.upTo q.t).ownStoAck v.toNat))
      (q.msg 2 0x3800 0x14 []) 4) := by
  have ht : row_SF_STO_ACK.takes (s.upTo q.t) 0x3800 0x14 (leBytes 4 v.toNat) = true :=
    takes_of (by decide) (check_any (by simp [row_SF_STO_ACK, leBytes_length]) (by decide) rfl (by rw [leNat_leBytes (by have := v.isLt; omega)]; exact hv)) (.inl (by decide)) (seg_upTo h _) rfl
  unfold execSfStoAck
  rw [writeCmd_served h (look_SF_STO_ACK) (by decide) (by decide) (by decide) (by have := pathLimit_le q.path; simp only [leBytes_length]; omega) ht]
  have e : leNat (leBytes 4 v.toNat) = v.toNat := by
    have := v.isLt; exact leNat_leBytes (by omega)
  rw [writeOwned_plain (r := row_SF_STO_ACK) (by decide)]
  simp only [State.writeOwned0, row_SF_STO_ACK, e]
  rfl
theorem execSfOpen_served (q : Req) {s : State} (h : s.serves q 0x3800 0x02 = true) :
    execSfOpen q s = .next (State.finish ((s.upTo q.t).done ((s.upTo q.t).ownSignoff 1))
      (q.msg 2 0x3800 0x02 []) 2) := by
  have ht : row_SF_SIGNOFF_CMD.takes (s.upTo q.t) 0x3800 0x02 (leBytes 1 1) = true :=
    takes_of (by decide) (by decide) (.inl (by decide)) (seg_upTo h _) rfl
  unfold execSfOpen
  rw [writeCmd_served h (look_SF_SIGNOFF_CMD) (by decide) (by decide) (by decide) (by have := pathLimit_le q.path; simp only [leBytes_length]; omega) ht]
  rw [writeOwned_plain (r := row_SF_SIGNOFF_CMD) (by decide)]
  simp only [State.writeOwned0, row_SF_SIGNOFF_CMD]
  rfl
theorem execSfVerify_served (q : Req) {s : State} (h : s.serves q 0x3800 0x02 = true) :
    execSfVerify q s = .next (State.finish ((s.upTo q.t).done ((s.upTo q.t).ownSignoff 2))
      (q.msg 2 0x3800 0x02 []) 2) := by
  have ht : row_SF_SIGNOFF_CMD.takes (s.upTo q.t) 0x3800 0x02 (leBytes 1 2) = true :=
    takes_of (by decide) (by decide) (.inl (by decide)) (seg_upTo h _) rfl
  unfold execSfVerify
  rw [writeCmd_served h (look_SF_SIGNOFF_CMD) (by decide) (by decide) (by decide) (by have := pathLimit_le q.path; simp only [leBytes_length]; omega) ht]
  rw [writeOwned_plain (r := row_SF_SIGNOFF_CMD) (by decide)]
  simp only [State.writeOwned0, row_SF_SIGNOFF_CMD]
  rfl
theorem execSfAbort_served (q : Req) {s : State} (h : s.serves q 0x3800 0x02 = true) :
    execSfAbort q s = .next (State.finish ((s.upTo q.t).done ((s.upTo q.t).ownSignoff 3))
      (q.msg 2 0x3800 0x02 []) 2) := by
  have ht : row_SF_SIGNOFF_CMD.takes (s.upTo q.t) 0x3800 0x02 (leBytes 1 3) = true :=
    takes_of (by decide) (by decide) (.inl (by decide)) (seg_upTo h _) rfl
  unfold execSfAbort
  rw [writeCmd_served h (look_SF_SIGNOFF_CMD) (by decide) (by decide) (by decide) (by have := pathLimit_le q.path; simp only [leBytes_length]; omega) ht]
  rw [writeOwned_plain (r := row_SF_SIGNOFF_CMD) (by decide)]
  simp only [State.writeOwned0, row_SF_SIGNOFF_CMD]
  rfl
theorem execSfConfirm_served (q : Req) (v : BitVec 32) {s : State} (h : s.serves q 0x3800 0x05 = true) :
    execSfConfirm q v s = .next (State.finish ((s.upTo q.t).done ((s.upTo q.t).ownSfConfirm v.toNat))
      (q.msg 2 0x3800 0x05 []) 4) := by
  have ht : row_SF_CONFIRM.takes (s.upTo q.t) 0x3800 0x05 (leBytes 4 v.toNat) = true :=
    takes_of (by decide) (check_any (by simp [row_SF_CONFIRM, leBytes_length]) (by decide) rfl (by simp [row_SF_CONFIRM])) (.inl (by decide)) (seg_upTo h _) rfl
  unfold execSfConfirm
  rw [writeCmd_served h (look_SF_CONFIRM) (by decide) (by decide) (by decide) (by have := pathLimit_le q.path; simp only [leBytes_length]; omega) ht]
  have e : leNat (leBytes 4 v.toNat) = v.toNat := by
    have := v.isLt; exact leNat_leBytes (by omega)
  rw [writeOwned_plain (r := row_SF_CONFIRM) (by decide)]
  simp only [State.writeOwned0, row_SF_CONFIRM, e]
  rfl
theorem execSfImageWrite_served (q : Req) (img : List Byte) {s : State} (h : s.serves q 0x3800 0x09 = true) (hv : img.length ≤ 33554432) :
    execSfImageWrite q img s = .next (State.finish (countSig ((s.upTo q.t).done ((s.upTo q.t).ownSfImage img)))
      (q.msg 5 0x3800 0x09 []) 15) := by
  have ht : row_SF_IMAGE.takes (s.upTo q.t) 0x3800 0x09 img = true :=
    takes_of (by decide) (check_domain hv (by decide)) (.inl (by decide)) (seg_upTo h _) rfl
  unfold execSfImageWrite
  rw [writeWhole_served h (look_SF_IMAGE) (by decide) ht]
  rfl
theorem execTmSet_served (q : Req) (v : BitVec 112) {s : State} (h : s.serves q 0x1300 0x0F = true) (hv : row_TM_SET.check (leBytes 14 v.toNat) = 0) :
    execTmSet q v s = .next (State.finish ((s.upTo q.t).done ((s.upTo q.t).ownTmSet v.toNat))
      (q.msg 2 0x1300 0x0F []) 12) := by
  have ht : row_TM_SET.takes (s.upTo q.t) 0x1300 0x0F (leBytes 14 v.toNat) = true :=
    takes_of (by decide) (hv) (.inl (by decide)) (seg_upTo h _) rfl
  unfold execTmSet
  rw [writeCmd_served h (look_TM_SET) (by decide) (by decide) (by decide) (by have := pathLimit_le q.path; simp only [leBytes_length]; omega) ht]
  have e : leNat (leBytes 14 v.toNat) = v.toNat := by
    have := v.isLt; exact leNat_leBytes (by omega)
  rw [writeOwned_plain (r := row_TM_SET) (by decide)]
  simp only [State.writeOwned0, row_TM_SET, e]
  rfl
theorem execBellArm_served (q : Req) (b : Fin 64) {s : State} (h : s.serves q (0x1340 + b.val) 0x03 = true) :
    execBellArm q b s = .next (State.finish ((s.upTo q.t).done ((s.upTo q.t).ownBellCmd b.val 1))
      (q.msg 2 (0x1340 + b.val) 0x03 []) 2) := by
  have ht : row_BELL_CMD.takes (s.upTo q.t) (0x1340 + b.val) 0x03 (leBytes 1 1) = true :=
    takes_of (by decide) (by decide) (.inl (by decide)) (seg_upTo h _) rfl
  unfold execBellArm
  rw [writeCmd_served h (look_BELL_CMD b) (by omega) (by omega) (by decide) (by have := pathLimit_le q.path; simp only [leBytes_length]; omega) ht]
  rw [writeOwned_plain (r := row_BELL_CMD) (by decide)]
  simp only [State.writeOwned0, row_BELL_CMD, Nat.add_sub_cancel_left]
  rfl
theorem execBellStop_served (q : Req) (b : Fin 64) {s : State} (h : s.serves q (0x1340 + b.val) 0x03 = true) :
    execBellStop q b s = .next (State.finish ((s.upTo q.t).done ((s.upTo q.t).ownBellCmd b.val 2))
      (q.msg 2 (0x1340 + b.val) 0x03 []) 2) := by
  have ht : row_BELL_CMD.takes (s.upTo q.t) (0x1340 + b.val) 0x03 (leBytes 1 2) = true :=
    takes_of (by decide) (by decide) (.inl (by decide)) (seg_upTo h _) rfl
  unfold execBellStop
  rw [writeCmd_served h (look_BELL_CMD b) (by omega) (by omega) (by decide) (by have := pathLimit_le q.path; simp only [leBytes_length]; omega) ht]
  rw [writeOwned_plain (r := row_BELL_CMD) (by decide)]
  simp only [State.writeOwned0, row_BELL_CMD, Nat.add_sub_cancel_left]
  rfl
theorem execLvpStart_served (q : Req) (e : Fin 64) {s : State} (h : s.serves q (0x3440 + e.val) 0x04 = true) :
    execLvpStart q e s = .next (State.finish ((s.upTo q.t).ownLvCmd e.val 1)
      (q.msg 2 (0x3440 + e.val) 0x04 []) 2) := by
  have ht : row_LVP_CMD.takes (s.upTo q.t) (0x3440 + e.val) 0x04 (leBytes 1 1) = true :=
    takes_of (by decide) (by decide) (.inl (by decide)) (seg_upTo h _) rfl
  unfold execLvpStart
  rw [writeCmd_served h (look_LVP_CMD e) (by omega) (by omega) (by decide) (by have := pathLimit_le q.path; simp only [leBytes_length]; omega) ht]
  rw [writeOwned_plain (r := row_LVP_CMD) (by decide)]
  simp only [State.writeOwned0, row_LVP_CMD, Nat.add_sub_cancel_left]
  rfl
theorem execLvpStop_served (q : Req) (e : Fin 64) {s : State} (h : s.serves q (0x3440 + e.val) 0x04 = true) :
    execLvpStop q e s = .next (State.finish ((s.upTo q.t).ownLvCmd e.val 2)
      (q.msg 2 (0x3440 + e.val) 0x04 []) 2) := by
  have ht : row_LVP_CMD.takes (s.upTo q.t) (0x3440 + e.val) 0x04 (leBytes 1 2) = true :=
    takes_of (by decide) (by decide) (.inl (by decide)) (seg_upTo h _) rfl
  unfold execLvpStop
  rw [writeCmd_served h (look_LVP_CMD e) (by omega) (by omega) (by decide) (by have := pathLimit_le q.path; simp only [leBytes_length]; omega) ht]
  rw [writeOwned_plain (r := row_LVP_CMD) (by decide)]
  simp only [State.writeOwned0, row_LVP_CMD, Nat.add_sub_cancel_left]
  rfl
theorem execLvpClear_served (q : Req) (e : Fin 64) {s : State} (h : s.serves q (0x3440 + e.val) 0x04 = true) :
    execLvpClear q e s = .next (State.finish ((s.upTo q.t).ownLvCmd e.val 3)
      (q.msg 2 (0x3440 + e.val) 0x04 []) 2) := by
  have ht : row_LVP_CMD.takes (s.upTo q.t) (0x3440 + e.val) 0x04 (leBytes 1 3) = true :=
    takes_of (by decide) (by decide) (.inl (by decide)) (seg_upTo h _) rfl
  unfold execLvpClear
  rw [writeCmd_served h (look_LVP_CMD e) (by omega) (by omega) (by decide) (by have := pathLimit_le q.path; simp only [leBytes_length]; omega) ht]
  rw [writeOwned_plain (r := row_LVP_CMD) (by decide)]
  simp only [State.writeOwned0, row_LVP_CMD, Nat.add_sub_cancel_left]
  rfl
theorem execLaneEnable_served (q : Req) (n : Fin 4) (on : Bool) {s : State} (h : s.serves q (0x1280 + n.val) 0x01 = true) (hv : row_LANE_CTRL.check (leBytes 2 (withField (s.laneCtrl n.val) 0 1 (b2n on))) = 0) :
    execLaneEnable q n on s = .next (State.finish ((s.upTo q.t).done ((s.upTo q.t).ownLaneCtrl n.val (leNat (leBytes 2 (withField (s.laneCtrl n.val) 0 1 (b2n on))))))
      (q.msg 2 (0x1280 + n.val) 0x01 []) 3) := by
  have ht : row_LANE_CTRL.takes (s.upTo q.t) (0x1280 + n.val) 0x01 (leBytes 2 (withField (s.laneCtrl n.val) 0 1 (b2n on))) = true :=
    takes_of (by decide) (hv) (.inl (by decide)) (seg_upTo h _) rfl
  unfold execLaneEnable
  rw [writeCmd_served h (look_LANE_CTRL n) (by omega) (by omega) (by decide) (by have := pathLimit_le q.path; simp only [leBytes_length]; omega) ht]
  rw [writeOwned_plain (r := row_LANE_CTRL) (by decide)]
  simp only [State.writeOwned0, row_LANE_CTRL, Nat.add_sub_cancel_left]
  rfl
theorem execLaneHold_served (q : Req) (n : Fin 4) (on : Bool) {s : State} (h : s.serves q (0x1280 + n.val) 0x01 = true) (hv : row_LANE_CTRL.check (leBytes 2 (withField (s.laneCtrl n.val) 1 1 (b2n on))) = 0) :
    execLaneHold q n on s = .next (State.finish ((s.upTo q.t).done ((s.upTo q.t).ownLaneCtrl n.val (leNat (leBytes 2 (withField (s.laneCtrl n.val) 1 1 (b2n on))))))
      (q.msg 2 (0x1280 + n.val) 0x01 []) 3) := by
  have ht : row_LANE_CTRL.takes (s.upTo q.t) (0x1280 + n.val) 0x01 (leBytes 2 (withField (s.laneCtrl n.val) 1 1 (b2n on))) = true :=
    takes_of (by decide) (hv) (.inl (by decide)) (seg_upTo h _) rfl
  unfold execLaneHold
  rw [writeCmd_served h (look_LANE_CTRL n) (by omega) (by omega) (by decide) (by have := pathLimit_le q.path; simp only [leBytes_length]; omega) ht]
  rw [writeOwned_plain (r := row_LANE_CTRL) (by decide)]
  simp only [State.writeOwned0, row_LANE_CTRL, Nat.add_sub_cancel_left]
  rfl
theorem execLaneTest_served (q : Req) (n : Fin 4) (v : BitVec 3) {s : State} (h : s.serves q (0x1280 + n.val) 0x01 = true) (hv : row_LANE_CTRL.check (leBytes 2 (withField (s.laneCtrl n.val) 5 3 v.toNat)) = 0) :
    execLaneTest q n v s = .next (State.finish ((s.upTo q.t).done ((s.upTo q.t).ownLaneCtrl n.val (leNat (leBytes 2 (withField (s.laneCtrl n.val) 5 3 v.toNat)))))
      (q.msg 2 (0x1280 + n.val) 0x01 []) 3) := by
  have ht : row_LANE_CTRL.takes (s.upTo q.t) (0x1280 + n.val) 0x01 (leBytes 2 (withField (s.laneCtrl n.val) 5 3 v.toNat)) = true :=
    takes_of (by decide) (hv) (.inl (by decide)) (seg_upTo h _) rfl
  unfold execLaneTest
  rw [writeCmd_served h (look_LANE_CTRL n) (by omega) (by omega) (by decide) (by have := pathLimit_le q.path; simp only [leBytes_length]; omega) ht]
  rw [writeOwned_plain (r := row_LANE_CTRL) (by decide)]
  simp only [State.writeOwned0, row_LANE_CTRL, Nat.add_sub_cancel_left]
  rfl
theorem execLaneLoop_served (q : Req) (n : Fin 4) (v : BitVec 3) {s : State} (h : s.serves q (0x1280 + n.val) 0x01 = true) (hv : row_LANE_CTRL.check (leBytes 2 (withField (s.laneCtrl n.val) 2 3 v.toNat)) = 0) :
    execLaneLoop q n v s = .next (State.finish ((s.upTo q.t).done ((s.upTo q.t).ownLaneCtrl n.val (leNat (leBytes 2 (withField (s.laneCtrl n.val) 2 3 v.toNat)))))
      (q.msg 2 (0x1280 + n.val) 0x01 []) 3) := by
  have ht : row_LANE_CTRL.takes (s.upTo q.t) (0x1280 + n.val) 0x01 (leBytes 2 (withField (s.laneCtrl n.val) 2 3 v.toNat)) = true :=
    takes_of (by decide) (hv) (.inl (by decide)) (seg_upTo h _) rfl
  unfold execLaneLoop
  rw [writeCmd_served h (look_LANE_CTRL n) (by omega) (by omega) (by decide) (by have := pathLimit_le q.path; simp only [leBytes_length]; omega) ht]
  rw [writeOwned_plain (r := row_LANE_CTRL) (by decide)]
  simp only [State.writeOwned0, row_LANE_CTRL, Nat.add_sub_cancel_left]
  rfl
theorem execLaneCntClr_served (q : Req) (n : Fin 4) {s : State} (h : s.serves q (0x1280 + n.val) 0x19 = true) :
    execLaneCntClr q n s = .next (State.finish (((s.upTo q.t).laneCntClr n.val, 0))
      (q.msg 2 (0x1280 + n.val) 0x19 []) 2) := by
  have ht : row_LANE_CNT_CLR.takes (s.upTo q.t) (0x1280 + n.val) 0x19 (leBytes 1 1) = true :=
    takes_of (by decide) (by decide) (.inl (by decide)) (seg_upTo h _) rfl
  unfold execLaneCntClr
  rw [writeCmd_served h (look_LANE_CNT_CLR n) (by omega) (by omega) (by decide) (by have := pathLimit_le q.path; simp only [leBytes_length]; omega) ht]
  rw [writeOwned_plain (r := row_LANE_CNT_CLR) (by decide)]
  simp only [State.writeOwned0, row_LANE_CNT_CLR, Nat.add_sub_cancel_left]
  rfl
theorem execStart_served (q : Req) (c : Fin 32) (mask : BitVec 6) {s : State} (h : s.serves q (0x2100 + c.val) 0x03 = true) :
    execStart q c mask s = .next (State.finish ((s.upTo q.t).ownSlotCmd c.val (1 + mask.toNat * 256))
      (q.msg 2 (0x2100 + c.val) 0x03 []) 3) := by
  have ht : row_SLOT_CMD.takes (s.upTo q.t) (0x2100 + c.val) 0x03 (leBytes 2 (1 + mask.toNat * 256)) = true :=
    takes_of (by decide) ((show ∀ mask : BitVec 6, row_SLOT_CMD.check (leBytes 2 (1 + mask.toNat * 256)) = 0 by decide) mask) (.inl (by decide)) (seg_upTo h _) rfl
  unfold execStart
  rw [writeCmd_served h (look_SLOT_CMD c) (by omega) (by omega) (by decide) (by have := pathLimit_le q.path; simp only [leBytes_length]; omega) ht]
  have e : leNat (leBytes 2 (1 + mask.toNat * 256)) = (1 + mask.toNat * 256) := by
    have := mask.isLt; exact leNat_leBytes (by omega)
  rw [writeOwned_plain (r := row_SLOT_CMD) (by decide)]
  simp only [State.writeOwned0, row_SLOT_CMD, Nat.add_sub_cancel_left, e]
  rfl
theorem execStop_served (q : Req) (c : Fin 32) (mask : BitVec 6) {s : State} (h : s.serves q (0x2100 + c.val) 0x03 = true) :
    execStop q c mask s = .next (State.finish ((s.upTo q.t).ownSlotCmd c.val (2 + mask.toNat * 256))
      (q.msg 2 (0x2100 + c.val) 0x03 []) 3) := by
  have ht : row_SLOT_CMD.takes (s.upTo q.t) (0x2100 + c.val) 0x03 (leBytes 2 (2 + mask.toNat * 256)) = true :=
    takes_of (by decide) ((show ∀ mask : BitVec 6, row_SLOT_CMD.check (leBytes 2 (2 + mask.toNat * 256)) = 0 by decide) mask) (.inl (by decide)) (seg_upTo h _) rfl
  unfold execStop
  rw [writeCmd_served h (look_SLOT_CMD c) (by omega) (by omega) (by decide) (by have := pathLimit_le q.path; simp only [leBytes_length]; omega) ht]
  have e : leNat (leBytes 2 (2 + mask.toNat * 256)) = (2 + mask.toNat * 256) := by
    have := mask.isLt; exact leNat_leBytes (by omega)
  rw [writeOwned_plain (r := row_SLOT_CMD) (by decide)]
  simp only [State.writeOwned0, row_SLOT_CMD, Nat.add_sub_cancel_left, e]
  rfl
theorem execBypass_served (q : Req) (c : Fin 32) (mask : BitVec 6) {s : State} (h : s.serves q (0x2100 + c.val) 0x03 = true) :
    execBypass q c mask s = .next (State.finish ((s.upTo q.t).ownSlotCmd c.val (3 + mask.toNat * 256))
      (q.msg 2 (0x2100 + c.val) 0x03 []) 3) := by
  have ht : row_SLOT_CMD.takes (s.upTo q.t) (0x2100 + c.val) 0x03 (leBytes 2 (3 + mask.toNat * 256)) = true :=
    takes_of (by decide) ((show ∀ mask : BitVec 6, row_SLOT_CMD.check (leBytes 2 (3 + mask.toNat * 256)) = 0 by decide) mask) (.inl (by decide)) (seg_upTo h _) rfl
  unfold execBypass
  rw [writeCmd_served h (look_SLOT_CMD c) (by omega) (by omega) (by decide) (by have := pathLimit_le q.path; simp only [leBytes_length]; omega) ht]
  have e : leNat (leBytes 2 (3 + mask.toNat * 256)) = (3 + mask.toNat * 256) := by
    have := mask.isLt; exact leNat_leBytes (by omega)
  rw [writeOwned_plain (r := row_SLOT_CMD) (by decide)]
  simp only [State.writeOwned0, row_SLOT_CMD, Nat.add_sub_cancel_left, e]
  rfl
theorem execInsert_served (q : Req) (c : Fin 32) (mask : BitVec 6) {s : State} (h : s.serves q (0x2100 + c.val) 0x03 = true) :
    execInsert q c mask s = .next (State.finish ((s.upTo q.t).ownSlotCmd c.val (4 + mask.toNat * 256))
      (q.msg 2 (0x2100 + c.val) 0x03 []) 3) := by
  have ht : row_SLOT_CMD.takes (s.upTo q.t) (0x2100 + c.val) 0x03 (leBytes 2 (4 + mask.toNat * 256)) = true :=
    takes_of (by decide) ((show ∀ mask : BitVec 6, row_SLOT_CMD.check (leBytes 2 (4 + mask.toNat * 256)) = 0 by decide) mask) (.inl (by decide)) (seg_upTo h _) rfl
  unfold execInsert
  rw [writeCmd_served h (look_SLOT_CMD c) (by omega) (by omega) (by decide) (by have := pathLimit_le q.path; simp only [leBytes_length]; omega) ht]
  have e : leNat (leBytes 2 (4 + mask.toNat * 256)) = (4 + mask.toNat * 256) := by
    have := mask.isLt; exact leNat_leBytes (by omega)
  rw [writeOwned_plain (r := row_SLOT_CMD) (by decide)]
  simp only [State.writeOwned0, row_SLOT_CMD, Nat.add_sub_cancel_left, e]
  rfl
theorem execClear_served (q : Req) (c : Fin 32) (mask : BitVec 6) {s : State} (h : s.serves q (0x2100 + c.val) 0x03 = true) :
    execClear q c mask s = .next (State.finish ((s.upTo q.t).ownSlotCmd c.val (5 + mask.toNat * 256))
      (q.msg 2 (0x2100 + c.val) 0x03 []) 3) := by
  have ht : row_SLOT_CMD.takes (s.upTo q.t) (0x2100 + c.val) 0x03 (leBytes 2 (5 + mask.toNat * 256)) = true :=
    takes_of (by decide) ((show ∀ mask : BitVec 6, row_SLOT_CMD.check (leBytes 2 (5 + mask.toNat * 256)) = 0 by decide) mask) (.inl (by decide)) (seg_upTo h _) rfl
  unfold execClear
  rw [writeCmd_served h (look_SLOT_CMD c) (by omega) (by omega) (by decide) (by have := pathLimit_le q.path; simp only [leBytes_length]; omega) ht]
  have e : leNat (leBytes 2 (5 + mask.toNat * 256)) = (5 + mask.toNat * 256) := by
    have := mask.isLt; exact leNat_leBytes (by omega)
  rw [writeOwned_plain (r := row_SLOT_CMD) (by decide)]
  simp only [State.writeOwned0, row_SLOT_CMD, Nat.add_sub_cancel_left, e]
  rfl
theorem execSlotTemplateWrite_served (q : Req) (c : Fin 32) (v : BitVec 8) {s : State} (h : s.serves q (0x2100 + c.val) 0x01 = true) (hv : v.toNat < 6) :
    execSlotTemplateWrite q c v s = .next (State.finish ((s.upTo q.t).done ((s.upTo q.t).ownTemplate c.val v.toNat))
      (q.msg 2 (0x2100 + c.val) 0x01 []) 2) := by
  have ht : row_SLOT_TEMPLATE.takes (s.upTo q.t) (0x2100 + c.val) 0x01 (leBytes 1 v.toNat) = true :=
    takes_of (by decide) ((show ∀ v : BitVec 8, v.toNat < 6 → row_SLOT_TEMPLATE.check (leBytes 1 v.toNat) = 0 by decide) v hv) (.inl (by decide)) (seg_upTo h _) rfl
  unfold execSlotTemplateWrite
  rw [writeCmd_served h (look_SLOT_TEMPLATE c) (by omega) (by omega) (by decide) (by have := pathLimit_le q.path; simp only [leBytes_length]; omega) ht]
  have e : leNat (leBytes 1 v.toNat) = v.toNat := by
    have := v.isLt; exact leNat_leBytes (by omega)
  rw [writeOwned_plain (r := row_SLOT_TEMPLATE) (by decide)]
  simp only [State.writeOwned0, row_SLOT_TEMPLATE, Nat.add_sub_cancel_left, e]
  rfl
theorem execAllStop_served (q : Req) {s : State} (h : s.serves q 0x2000 0x04 = true) :
    execAllStop q s = .next (State.finish (((s.upTo q.t).allStop, 0))
      (q.msg 2 0x2000 0x04 []) 2) := by
  have ht : row_ALL_STOP.takes (s.upTo q.t) 0x2000 0x04 (leBytes 1 1) = true :=
    takes_of (by decide) (by decide) (.inl (by decide)) (seg_upTo h _) rfl
  unfold execAllStop
  rw [writeCmd_served h (look_ALL_STOP) (by decide) (by decide) (by decide) (by have := pathLimit_le q.path; simp only [leBytes_length]; omega) ht]
  rw [writeOwned_plain (r := row_ALL_STOP) (by decide)]
  simp only [State.writeOwned0, row_ALL_STOP]
  rfl
theorem execUnitLoopBind_served (q : Req) (c : Fin 32) (u : Fin 6) (v : BitVec 8) {s : State} (h : s.serves q (0x2100 + c.val) (0x10 + u.val) = true) (hv : v.toNat < 128 ∨ v.toNat = 255) :
    execUnitLoopBind q c u v s = .next (State.finish ((s.upTo q.t).done ((s.upTo q.t).ownUnitLoop c.val u.val v.toNat))
      (q.msg 2 (0x2100 + c.val) (0x10 + u.val) []) 2) := by
  have ht : row_UNIT_LOOP.takes (s.upTo q.t) (0x2100 + c.val) (0x10 + u.val) (leBytes 1 v.toNat) = true :=
    takes_of (by decide) ((show ∀ v : BitVec 8, v.toNat < 128 ∨ v.toNat = 255 → row_UNIT_LOOP.check (leBytes 1 v.toNat) = 0 by decide) v hv) (.inl (by decide)) (seg_upTo h _) rfl
  unfold execUnitLoopBind
  rw [writeCmd_served h (look_UNIT_LOOP c u) (by omega) (by omega) (by decide) (by have := pathLimit_le q.path; simp only [leBytes_length]; omega) ht]
  have e : leNat (leBytes 1 v.toNat) = v.toNat := by
    have := v.isLt; exact leNat_leBytes (by omega)
  rw [writeOwned_plain (r := row_UNIT_LOOP) (by decide)]
  simp only [State.writeOwned0, row_UNIT_LOOP, Nat.add_sub_cancel_left, e]
  have k : ∀ (j : Fin 6) (t : State) (g : Reg) (w : Nat),
      t.writeSlot 0x2100 c.val (0x10 + j.val) g w = t.done (t.ownUnitLoop c.val j.val w) := fun j t g w =>
    match j with
    | ⟨0, _⟩ => rfl
    | ⟨1, _⟩ => rfl
    | ⟨2, _⟩ => rfl
    | ⟨3, _⟩ => rfl
    | ⟨4, _⟩ => rfl
    | ⟨5, _⟩ => rfl
  rw [k]
  rfl
theorem execPrecharge_served (q : Req) (i : Fin 32) {s : State} (h : s.serves q (0x3220 + i.val) 0x03 = true) :
    execPrecharge q i s = .next (State.finish ((s.upTo q.t).doneCmd ((s.upTo q.t).ownStrCmd i.val 1) fun s => s.updStr i.val fun t => { t with cmdSt := .refused })
      (q.msg 2 (0x3220 + i.val) 0x03 []) 2) := by
  have ht : row_STR_CMD.takes (s.upTo q.t) (0x3220 + i.val) 0x03 (leBytes 1 1) = true :=
    takes_of (by decide) (by decide) (.inl (by decide)) (seg_upTo h _) rfl
  unfold execPrecharge
  rw [writeCmd_served h (look_STR_CMD i) (by omega) (by omega) (by decide) (by have := pathLimit_le q.path; simp only [leBytes_length]; omega) ht]
  rw [writeOwned_plain (r := row_STR_CMD) (by decide)]
  simp only [State.writeOwned0, row_STR_CMD, Nat.add_sub_cancel_left]
  rfl
theorem execMainClosed_served (q : Req) (i : Fin 32) {s : State} (h : s.serves q (0x3220 + i.val) 0x03 = true) :
    execMainClosed q i s = .next (State.finish ((s.upTo q.t).doneCmd ((s.upTo q.t).ownStrCmd i.val 2) fun s => s.updStr i.val fun t => { t with cmdSt := .refused })
      (q.msg 2 (0x3220 + i.val) 0x03 []) 2) := by
  have ht : row_STR_CMD.takes (s.upTo q.t) (0x3220 + i.val) 0x03 (leBytes 1 2) = true :=
    takes_of (by decide) (by decide) (.inl (by decide)) (seg_upTo h _) rfl
  unfold execMainClosed
  rw [writeCmd_served h (look_STR_CMD i) (by omega) (by omega) (by decide) (by have := pathLimit_le q.path; simp only [leBytes_length]; omega) ht]
  rw [writeOwned_plain (r := row_STR_CMD) (by decide)]
  simp only [State.writeOwned0, row_STR_CMD, Nat.add_sub_cancel_left]
  rfl
theorem execStrStop_served (q : Req) (i : Fin 32) {s : State} (h : s.serves q (0x3220 + i.val) 0x03 = true) :
    execStrStop q i s = .next (State.finish ((s.upTo q.t).doneCmd ((s.upTo q.t).ownStrCmd i.val 3) fun s => s.updStr i.val fun t => { t with cmdSt := .refused })
      (q.msg 2 (0x3220 + i.val) 0x03 []) 2) := by
  have ht : row_STR_CMD.takes (s.upTo q.t) (0x3220 + i.val) 0x03 (leBytes 1 3) = true :=
    takes_of (by decide) (by decide) (.inl (by decide)) (seg_upTo h _) rfl
  unfold execStrStop
  rw [writeCmd_served h (look_STR_CMD i) (by omega) (by omega) (by decide) (by have := pathLimit_le q.path; simp only [leBytes_length]; omega) ht]
  rw [writeOwned_plain (r := row_STR_CMD) (by decide)]
  simp only [State.writeOwned0, row_STR_CMD, Nat.add_sub_cancel_left]
  rfl
theorem execStrClear_served (q : Req) (i : Fin 32) {s : State} (h : s.serves q (0x3220 + i.val) 0x03 = true) :
    execStrClear q i s = .next (State.finish ((s.upTo q.t).doneCmd ((s.upTo q.t).ownStrCmd i.val 4) fun s => s.updStr i.val fun t => { t with cmdSt := .refused })
      (q.msg 2 (0x3220 + i.val) 0x03 []) 2) := by
  have ht : row_STR_CMD.takes (s.upTo q.t) (0x3220 + i.val) 0x03 (leBytes 1 4) = true :=
    takes_of (by decide) (by decide) (.inl (by decide)) (seg_upTo h _) rfl
  unfold execStrClear
  rw [writeCmd_served h (look_STR_CMD i) (by omega) (by omega) (by decide) (by have := pathLimit_le q.path; simp only [leBytes_length]; omega) ht]
  rw [writeOwned_plain (r := row_STR_CMD) (by decide)]
  simp only [State.writeOwned0, row_STR_CMD, Nat.add_sub_cancel_left]
  rfl
theorem execPwrReqWrite_served (q : Req) (v : BitVec 16) {s : State} (h : s.serves q 0x1900 0x02 = true) (hv : v.toNat &&& 64512 = 0) :
    execPwrReqWrite q v s = .next (State.finish ((((s.upTo q.t).pwrReq v.toNat).1, if ((s.upTo q.t).pwrReq v.toNat).2 then abState else 0))
      (q.msg 2 0x1900 0x02 []) 3) := by
  have ht : row_PWR_REQ.takes (s.upTo q.t) 0x1900 0x02 (leBytes 2 v.toNat) = true :=
    takes_of (by decide) (check_any (by simp [row_PWR_REQ, leBytes_length]) (by decide) rfl (by rw [leNat_leBytes (by have := v.isLt; omega)]; exact hv)) (.inl (by decide)) (seg_upTo h _) rfl
  unfold execPwrReqWrite
  rw [writeCmd_served h (look_PWR_REQ) (by decide) (by decide) (by decide) (by have := pathLimit_le q.path; simp only [leBytes_length]; omega) ht]
  have e : leNat (leBytes 2 v.toNat) = v.toNat := by
    have := v.isLt; exact leNat_leBytes (by omega)
  rw [writeOwned_plain (r := row_PWR_REQ) (by decide)]
  simp only [State.writeOwned0, row_PWR_REQ, e]
  rfl
theorem execSleep_served (q : Req) {s : State} (h : s.serves q 0x1900 0x0B = true) :
    execSleep q s = .next (State.finish ((s.upTo q.t).done (s.upTo q.t).sleepCmd)
      (q.msg 2 0x1900 0x0B []) 2) := by
  have ht : row_PWR_CMD.takes (s.upTo q.t) 0x1900 0x0B (leBytes 1 1) = true :=
    takes_of (by decide) (by decide) (.inl (by decide)) (seg_upTo h _) rfl
  unfold execSleep
  rw [writeCmd_served h (look_PWR_CMD) (by decide) (by decide) (by decide) (by have := pathLimit_le q.path; simp only [leBytes_length]; omega) ht]
  rw [writeOwned_plain (r := row_PWR_CMD) (by decide)]
  simp only [State.writeOwned0, row_PWR_CMD]
  rfl
theorem execRstCmd_served (q : Req) {s : State} (h : s.serves q 0x1900 0x0A = true) :
    execRstCmd q s = .next (State.finish ((s.upTo q.t).done (s.upTo q.t).rstCmd)
      (q.msg 2 0x1900 0x0A []) 2) := by
  have ht : row_RST_CMD.takes (s.upTo q.t) 0x1900 0x0A (leBytes 1 0xA5) = true :=
    takes_of (by decide) (by decide) (.inl (by decide)) (seg_upTo h _) rfl
  unfold execRstCmd
  rw [writeCmd_served h (look_RST_CMD) (by decide) (by decide) (by decide) (by have := pathLimit_le q.path; simp only [leBytes_length]; omega) ht]
  rw [writeOwned_plain (r := row_RST_CMD) (by decide)]
  simp only [State.writeOwned0, row_RST_CMD]
  rfl
theorem execHostWdService_served (q : Req) {s : State} (h : s.serves q 0x1900 0x11 = true) :
    execHostWdService q s = .next (State.finish ((s.upTo q.t).done (s.upTo q.t).hostWdService)
      (q.msg 2 0x1900 0x11 []) 2) := by
  have ht : row_HOST_WD_SERVICE.takes (s.upTo q.t) 0x1900 0x11 (leBytes 1 1) = true :=
    takes_of (by decide) (by decide) (.inl (by decide)) (seg_upTo h _) rfl
  unfold execHostWdService
  rw [writeCmd_served h (look_HOST_WD_SERVICE) (by decide) (by decide) (by decide) (by have := pathLimit_le q.path; simp only [leBytes_length]; omega) ht]
  rw [writeOwned_plain (r := row_HOST_WD_SERVICE) (by decide)]
  simp only [State.writeOwned0, row_HOST_WD_SERVICE]
  rfl
theorem execCarRunStart_served (q : Req) (k : Fin 64) {s : State} (h : s.serves q (0x2300 + k.val) 0x08 = true) :
    execCarRunStart q k s = .next (State.finish ((s.upTo q.t).done ((s.upTo q.t).ownCarRun k.val 1))
      (q.msg 2 (0x2300 + k.val) 0x08 []) 2) := by
  have ht : row_CAR_RUN.takes (s.upTo q.t) (0x2300 + k.val) 0x08 (leBytes 1 1) = true :=
    takes_of (by decide) (by decide) (.inl (by decide)) (seg_upTo h _) rfl
  unfold execCarRunStart
  rw [writeCmd_served h (look_CAR_RUN k) (by omega) (by omega) (by decide) (by have := pathLimit_le q.path; simp only [leBytes_length]; omega) ht]
  rw [writeOwned_plain (r := row_CAR_RUN) (by decide)]
  simp only [State.writeOwned0, row_CAR_RUN, Nat.add_sub_cancel_left]
  rfl
theorem execCarRunStop_served (q : Req) (k : Fin 64) {s : State} (h : s.serves q (0x2300 + k.val) 0x08 = true) :
    execCarRunStop q k s = .next (State.finish ((s.upTo q.t).done ((s.upTo q.t).ownCarRun k.val 2))
      (q.msg 2 (0x2300 + k.val) 0x08 []) 2) := by
  have ht : row_CAR_RUN.takes (s.upTo q.t) (0x2300 + k.val) 0x08 (leBytes 1 2) = true :=
    takes_of (by decide) (by decide) (.inl (by decide)) (seg_upTo h _) rfl
  unfold execCarRunStop
  rw [writeCmd_served h (look_CAR_RUN k) (by omega) (by omega) (by decide) (by have := pathLimit_le q.path; simp only [leBytes_length]; omega) ht]
  rw [writeOwned_plain (r := row_CAR_RUN) (by decide)]
  simp only [State.writeOwned0, row_CAR_RUN, Nat.add_sub_cancel_left]
  rfl
theorem execCarCommit_served (q : Req) (k : Fin 64) {s : State} (h : s.serves q (0x2300 + k.val) 0x05 = true) :
    execCarCommit q k s = .next (State.finish ((s.upTo q.t).done ((s.upTo q.t).ownCommit k.val 1))
      (q.msg 2 (0x2300 + k.val) 0x05 []) 2) := by
  have ht : row_CAR_COMMIT.takes (s.upTo q.t) (0x2300 + k.val) 0x05 (leBytes 1 1) = true :=
    takes_of (by decide) (by decide) (.inl (by decide)) (seg_upTo h _) rfl
  unfold execCarCommit
  rw [writeCmd_served h (look_CAR_COMMIT k) (by omega) (by omega) (by decide) (by have := pathLimit_le q.path; simp only [leBytes_length]; omega) ht]
  rw [writeOwned_plain (r := row_CAR_COMMIT) (by decide)]
  simp only [State.writeOwned0, row_CAR_COMMIT, Nat.add_sub_cancel_left]
  rfl
theorem execCarCommitDiscard_served (q : Req) (k : Fin 64) {s : State} (h : s.serves q (0x2300 + k.val) 0x05 = true) :
    execCarCommitDiscard q k s = .next (State.finish ((s.upTo q.t).done ((s.upTo q.t).ownCommit k.val 2))
      (q.msg 2 (0x2300 + k.val) 0x05 []) 2) := by
  have ht : row_CAR_COMMIT.takes (s.upTo q.t) (0x2300 + k.val) 0x05 (leBytes 1 2) = true :=
    takes_of (by decide) (by decide) (.inl (by decide)) (seg_upTo h _) rfl
  unfold execCarCommitDiscard
  rw [writeCmd_served h (look_CAR_COMMIT k) (by omega) (by omega) (by decide) (by have := pathLimit_le q.path; simp only [leBytes_length]; omega) ht]
  rw [writeOwned_plain (r := row_CAR_COMMIT) (by decide)]
  simp only [State.writeOwned0, row_CAR_COMMIT, Nat.add_sub_cancel_left]
  rfl
theorem execForceNone_served (q : Req) (l : Fin 192) (imm : Bool) {s : State} (h : s.serves q (0x2200 + l.val) 0x16 = true) :
    execForceNone q l imm s = .next (State.finish ((s.upTo q.t).done ((s.upTo q.t).ownForce l.val (0 + 8 * b2n imm)))
      (q.msg 2 (0x2200 + l.val) 0x16 []) 2) := by
  have ht : row_LEG_FORCE.takes (s.upTo q.t) (0x2200 + l.val) 0x16 (leBytes 1 (0 + 8 * b2n imm)) = true :=
    takes_of (by decide) ((show ∀ imm : Bool, row_LEG_FORCE.check (leBytes 1 (0 + 8 * b2n imm)) = 0 by decide) imm) (.inl (by decide)) (seg_upTo h _) rfl
  unfold execForceNone
  rw [writeCmd_served h (look_LEG_FORCE l) (by omega) (by omega) (by decide) (by have := pathLimit_le q.path; simp only [leBytes_length]; omega) ht]
  have e : leNat (leBytes 1 (0 + 8 * b2n imm)) = (0 + 8 * b2n imm) := by
    cases imm <;> decide
  rw [writeOwned_plain (r := row_LEG_FORCE) (by decide)]
  simp only [State.writeOwned0, row_LEG_FORCE, Nat.add_sub_cancel_left, e]
  rfl
theorem execForceOff_served (q : Req) (l : Fin 192) (imm : Bool) {s : State} (h : s.serves q (0x2200 + l.val) 0x16 = true) :
    execForceOff q l imm s = .next (State.finish ((s.upTo q.t).done ((s.upTo q.t).ownForce l.val (1 + 8 * b2n imm)))
      (q.msg 2 (0x2200 + l.val) 0x16 []) 2) := by
  have ht : row_LEG_FORCE.takes (s.upTo q.t) (0x2200 + l.val) 0x16 (leBytes 1 (1 + 8 * b2n imm)) = true :=
    takes_of (by decide) ((show ∀ imm : Bool, row_LEG_FORCE.check (leBytes 1 (1 + 8 * b2n imm)) = 0 by decide) imm) (.inl (by decide)) (seg_upTo h _) rfl
  unfold execForceOff
  rw [writeCmd_served h (look_LEG_FORCE l) (by omega) (by omega) (by decide) (by have := pathLimit_le q.path; simp only [leBytes_length]; omega) ht]
  have e : leNat (leBytes 1 (1 + 8 * b2n imm)) = (1 + 8 * b2n imm) := by
    cases imm <;> decide
  rw [writeOwned_plain (r := row_LEG_FORCE) (by decide)]
  simp only [State.writeOwned0, row_LEG_FORCE, Nat.add_sub_cancel_left, e]
  rfl
theorem execForceUpper_served (q : Req) (l : Fin 192) (imm : Bool) {s : State} (h : s.serves q (0x2200 + l.val) 0x16 = true) :
    execForceUpper q l imm s = .next (State.finish ((s.upTo q.t).done ((s.upTo q.t).ownForce l.val (2 + 8 * b2n imm)))
      (q.msg 2 (0x2200 + l.val) 0x16 []) 2) := by
  have ht : row_LEG_FORCE.takes (s.upTo q.t) (0x2200 + l.val) 0x16 (leBytes 1 (2 + 8 * b2n imm)) = true :=
    takes_of (by decide) ((show ∀ imm : Bool, row_LEG_FORCE.check (leBytes 1 (2 + 8 * b2n imm)) = 0 by decide) imm) (.inl (by decide)) (seg_upTo h _) rfl
  unfold execForceUpper
  rw [writeCmd_served h (look_LEG_FORCE l) (by omega) (by omega) (by decide) (by have := pathLimit_le q.path; simp only [leBytes_length]; omega) ht]
  have e : leNat (leBytes 1 (2 + 8 * b2n imm)) = (2 + 8 * b2n imm) := by
    cases imm <;> decide
  rw [writeOwned_plain (r := row_LEG_FORCE) (by decide)]
  simp only [State.writeOwned0, row_LEG_FORCE, Nat.add_sub_cancel_left, e]
  rfl
theorem execForceLower_served (q : Req) (l : Fin 192) (imm : Bool) {s : State} (h : s.serves q (0x2200 + l.val) 0x16 = true) :
    execForceLower q l imm s = .next (State.finish ((s.upTo q.t).done ((s.upTo q.t).ownForce l.val (3 + 8 * b2n imm)))
      (q.msg 2 (0x2200 + l.val) 0x16 []) 2) := by
  have ht : row_LEG_FORCE.takes (s.upTo q.t) (0x2200 + l.val) 0x16 (leBytes 1 (3 + 8 * b2n imm)) = true :=
    takes_of (by decide) ((show ∀ imm : Bool, row_LEG_FORCE.check (leBytes 1 (3 + 8 * b2n imm)) = 0 by decide) imm) (.inl (by decide)) (seg_upTo h _) rfl
  unfold execForceLower
  rw [writeCmd_served h (look_LEG_FORCE l) (by omega) (by omega) (by decide) (by have := pathLimit_le q.path; simp only [leBytes_length]; omega) ht]
  have e : leNat (leBytes 1 (3 + 8 * b2n imm)) = (3 + 8 * b2n imm) := by
    cases imm <;> decide
  rw [writeOwned_plain (r := row_LEG_FORCE) (by decide)]
  simp only [State.writeOwned0, row_LEG_FORCE, Nat.add_sub_cancel_left, e]
  rfl
theorem execForceRaw_served (q : Req) (l : Fin 192) (imm : Bool) (gh : Bool) (gl : Bool) {s : State} (h : s.serves q (0x2200 + l.val) 0x16 = true) :
    execForceRaw q l imm gh gl s = .next (State.finish ((s.upTo q.t).done ((s.upTo q.t).ownForce l.val (4 + 8 * b2n imm + 16 * b2n gh + 32 * b2n gl)))
      (q.msg 2 (0x2200 + l.val) 0x16 []) 2) := by
  have ht : row_LEG_FORCE.takes (s.upTo q.t) (0x2200 + l.val) 0x16 (leBytes 1 (4 + 8 * b2n imm + 16 * b2n gh + 32 * b2n gl)) = true :=
    takes_of (by decide) ((show ∀ imm gh gl : Bool, row_LEG_FORCE.check (leBytes 1 (4 + 8 * b2n imm + 16 * b2n gh + 32 * b2n gl)) = 0 by decide) imm gh gl) (.inl (by decide)) (seg_upTo h _) rfl
  unfold execForceRaw
  rw [writeCmd_served h (look_LEG_FORCE l) (by omega) (by omega) (by decide) (by have := pathLimit_le q.path; simp only [leBytes_length]; omega) ht]
  have e : leNat (leBytes 1 (4 + 8 * b2n imm + 16 * b2n gh + 32 * b2n gl)) = (4 + 8 * b2n imm + 16 * b2n gh + 32 * b2n gl) := by
    cases imm <;> cases gh <;> cases gl <;> decide
  rw [writeOwned_plain (r := row_LEG_FORCE) (by decide)]
  simp only [State.writeOwned0, row_LEG_FORCE, Nat.add_sub_cancel_left, e]
  rfl
theorem execBistRun_served (q : Req) {s : State} (h : s.serves q 0x1C00 0x01 = true) :
    execBistRun q s = .next ((State.finish ((s.upTo q.t).done (s.upTo q.t).bistRun)
      (q.msg 2 0x1C00 0x01 []) 2).clkSettle.serveStalled) := by
  have ht : row_BIST_CMD.takes (s.upTo q.t) 0x1C00 0x01 (leBytes 1 1) = true :=
    takes_of (by decide) (by decide) (.inl (by decide)) (seg_upTo h _) rfl
  unfold execBistRun
  rw [writeCmd_settles h (look_BIST_CMD) (by decide) (by decide) (by have := pathLimit_le q.path; simp only [leBytes_length]; omega) ht]
  rw [writeOwned_plain (r := row_BIST_CMD) (by decide)]
  simp only [State.writeOwned0, row_BIST_CMD]
  rfl
theorem execBistAbort_served (q : Req) {s : State} (h : s.serves q 0x1C00 0x01 = true) :
    execBistAbort q s = .next ((State.finish (((s.upTo q.t).bistAbort, 0))
      (q.msg 2 0x1C00 0x01 []) 2).clkSettle.serveStalled) := by
  have ht : row_BIST_CMD.takes (s.upTo q.t) 0x1C00 0x01 (leBytes 1 2) = true :=
    takes_of (by decide) (by decide) (.inl (by decide)) (seg_upTo h _) rfl
  unfold execBistAbort
  rw [writeCmd_settles h (look_BIST_CMD) (by decide) (by decide) (by have := pathLimit_le q.path; simp only [leBytes_length]; omega) ht]
  rw [writeOwned_plain (r := row_BIST_CMD) (by decide)]
  simp only [State.writeOwned0, row_BIST_CMD]
  rfl
theorem execCfgCommit_served (q : Req) {s : State} (h : s.serves q 0x1B00 0x03 = true) :
    execCfgCommit q s = .next (State.finish ((s.upTo q.t).doneCmd ((s.upTo q.t).cfgCommit) fun s => s.updNor fun n => { n with cfgSt := .refused })
      (q.msg 2 0x1B00 0x03 []) 2) := by
  have ht : row_CFG_CMD.takes (s.upTo q.t) 0x1B00 0x03 (leBytes 1 1) = true :=
    takes_of (by decide) (by decide) (.inl (by decide)) (seg_upTo h _) rfl
  unfold execCfgCommit
  rw [writeCmd_served h (look_CFG_CMD) (by decide) (by decide) (by decide) (by have := pathLimit_le q.path; simp only [leBytes_length]; omega) ht]
  simp only [State.writeOwned, State.writeOwned0, row_CFG_CMD]
  rfl
theorem execCfgDefaults_served (q : Req) {s : State} (h : s.serves q 0x1B00 0x03 = true) :
    execCfgDefaults q s = .next (State.finish ((s.upTo q.t).doneCmd ((s.upTo q.t).cfgDefaults) fun s => s.updNor fun n => { n with cfgSt := .refused })
      (q.msg 2 0x1B00 0x03 []) 2) := by
  have ht : row_CFG_CMD.takes (s.upTo q.t) 0x1B00 0x03 (leBytes 1 2) = true :=
    takes_of (by decide) (by decide) (.inl (by decide)) (seg_upTo h _) rfl
  unfold execCfgDefaults
  rw [writeCmd_served h (look_CFG_CMD) (by decide) (by decide) (by decide) (by have := pathLimit_le q.path; simp only [leBytes_length]; omega) ht]
  simp only [State.writeOwned, State.writeOwned0, row_CFG_CMD]
  rfl
theorem execCfgImageWrite_served (q : Req) (img : List Byte) {s : State} (h : s.serves q 0x1B00 0x05 = true) (hv : img.length ≤ 520260) :
    execCfgImageWrite q img s = .next (State.finish (countSig ((s.upTo q.t).done ((s.upTo q.t).ownCfgImage img)))
      (q.msg 5 0x1B00 0x05 []) 15) := by
  have ht : row_CFG_IMAGE.takes (s.upTo q.t) 0x1B00 0x05 img = true :=
    takes_of (by decide) (check_domain hv (by decide)) (.inl (by decide)) (seg_upTo h _) rfl
  unfold execCfgImageWrite
  rw [writeWhole_served h (look_CFG_IMAGE) (by decide) ht]
  rfl
theorem execFwImageWrite_served (q : Req) (img : List Byte) {s : State} (h : s.serves q 0x1B00 0x10 = true) (hv : img.length ≤ 8388608) :
    execFwImageWrite q img s = .next (State.finish (countSig ((s.upTo q.t).fwErase.done ((s.upTo q.t).fwErase.ownFwImage img)))
      (q.msg 5 0x1B00 0x10 []) 15) := by
  have ht : row_FW_IMAGE.takes (s.upTo q.t).fwErase 0x1B00 0x10 img = true :=
    takes_of (by decide) (check_domain hv (by decide)) (.inl (by decide)) (seg_upTo h _) rfl
  unfold execFwImageWrite
  rw [writeWhole_fw h look_FW_IMAGE rfl ht]
  rfl
theorem execFwActivate_served (q : Req) {s : State} (h : s.serves q 0x1B00 0x11 = true) :
    execFwActivate q s = .next (State.finish ((s.upTo q.t).doneCmd ((s.upTo q.t).fwActivate) fun s => s.updNor fun n => { n with fwSt := .refused })
      (q.msg 2 0x1B00 0x11 []) 2) := by
  have ht : row_FW_CMD.takes (s.upTo q.t) 0x1B00 0x11 (leBytes 1 1) = true :=
    takes_of (by decide) (by decide) (.inl (by decide)) (seg_upTo h _) rfl
  unfold execFwActivate
  rw [writeCmd_served h (look_FW_CMD) (by decide) (by decide) (by decide) (by have := pathLimit_le q.path; simp only [leBytes_length]; omega) ht]
  simp only [State.writeOwned, State.writeOwned0, row_FW_CMD]
  rfl
theorem execFwConfirm_served (q : Req) {s : State} (h : s.serves q 0x1B00 0x11 = true) :
    execFwConfirm q s = .next (State.finish ((s.upTo q.t).doneCmd ((s.upTo q.t).fwConfirm) fun s => s.updNor fun n => { n with fwSt := .refused })
      (q.msg 2 0x1B00 0x11 []) 2) := by
  have ht : row_FW_CMD.takes (s.upTo q.t) 0x1B00 0x11 (leBytes 1 2) = true :=
    takes_of (by decide) (by decide) (.inl (by decide)) (seg_upTo h _) rfl
  unfold execFwConfirm
  rw [writeCmd_served h (look_FW_CMD) (by decide) (by decide) (by decide) (by have := pathLimit_le q.path; simp only [leBytes_length]; omega) ht]
  simp only [State.writeOwned, State.writeOwned0, row_FW_CMD]
  rfl
theorem execOwnerKey_served (q : Req) {s : State} (h : s.serves q 0x1B40 0x04 = true) :
    execOwnerKey q s = .next (State.finish (countSig ((s.upTo q.t).doneCmd ((s.upTo q.t).fuseCmd 1) fun s => s.updNor fun n => { n with fuseSt := .refused }))
      (q.msg 2 0x1B40 0x04 []) 2) := by
  have ht : row_SEC_FUSE_CMD.takes (s.upTo q.t) 0x1B40 0x04 (leBytes 1 1) = true :=
    takes_of (by decide) (by decide) (.inl (by decide)) (seg_upTo h _) rfl
  unfold execOwnerKey
  rw [writeCmd_served h (look_SEC_FUSE_CMD) (by decide) (by decide) (by decide) (by have := pathLimit_le q.path; simp only [leBytes_length]; omega) ht]
  rw [writeOwned_plain (r := row_SEC_FUSE_CMD) (by decide)]
  simp only [State.writeOwned0, row_SEC_FUSE_CMD]
  rfl
theorem execRevokeKey0_served (q : Req) {s : State} (h : s.serves q 0x1B40 0x04 = true) :
    execRevokeKey0 q s = .next (State.finish (countSig ((s.upTo q.t).doneCmd ((s.upTo q.t).fuseCmd 2) fun s => s.updNor fun n => { n with fuseSt := .refused }))
      (q.msg 2 0x1B40 0x04 []) 2) := by
  have ht : row_SEC_FUSE_CMD.takes (s.upTo q.t) 0x1B40 0x04 (leBytes 1 2) = true :=
    takes_of (by decide) (by decide) (.inl (by decide)) (seg_upTo h _) rfl
  unfold execRevokeKey0
  rw [writeCmd_served h (look_SEC_FUSE_CMD) (by decide) (by decide) (by decide) (by have := pathLimit_le q.path; simp only [leBytes_length]; omega) ht]
  rw [writeOwned_plain (r := row_SEC_FUSE_CMD) (by decide)]
  simp only [State.writeOwned0, row_SEC_FUSE_CMD]
  rfl
theorem execOwnRb_served (q : Req) {s : State} (h : s.serves q 0x1B40 0x04 = true) :
    execOwnRb q s = .next (State.finish (countSig ((s.upTo q.t).doneCmd ((s.upTo q.t).fuseCmd 3) fun s => s.updNor fun n => { n with fuseSt := .refused }))
      (q.msg 2 0x1B40 0x04 []) 2) := by
  have ht : row_SEC_FUSE_CMD.takes (s.upTo q.t) 0x1B40 0x04 (leBytes 1 3) = true :=
    takes_of (by decide) (by decide) (.inl (by decide)) (seg_upTo h _) rfl
  unfold execOwnRb
  rw [writeCmd_served h (look_SEC_FUSE_CMD) (by decide) (by decide) (by decide) (by have := pathLimit_le q.path; simp only [leBytes_length]; omega) ht]
  rw [writeOwned_plain (r := row_SEC_FUSE_CMD) (by decide)]
  simp only [State.writeOwned0, row_SEC_FUSE_CMD]
  rfl
theorem execDebugKill_served (q : Req) {s : State} (h : s.serves q 0x1B40 0x04 = true) :
    execDebugKill q s = .next (State.finish (countSig ((s.upTo q.t).doneCmd ((s.upTo q.t).fuseCmd 4) fun s => s.updNor fun n => { n with fuseSt := .refused }))
      (q.msg 2 0x1B40 0x04 []) 2) := by
  have ht : row_SEC_FUSE_CMD.takes (s.upTo q.t) 0x1B40 0x04 (leBytes 1 4) = true :=
    takes_of (by decide) (by decide) (.inl (by decide)) (seg_upTo h _) rfl
  unfold execDebugKill
  rw [writeCmd_served h (look_SEC_FUSE_CMD) (by decide) (by decide) (by decide) (by have := pathLimit_le q.path; simp only [leBytes_length]; omega) ht]
  rw [writeOwned_plain (r := row_SEC_FUSE_CMD) (by decide)]
  simp only [State.writeOwned0, row_SEC_FUSE_CMD]
  rfl
theorem execSecDebugUnlock_served (q : Req) (img : List Byte) {s : State} (h : s.serves q 0x1B40 0x0B = true) (hv : img.length ≤ 256) :
    execSecDebugUnlock q img s = .next (State.finish (countSig ((s.upTo q.t).done ((s.upTo q.t).ownDebug img)))
      (q.msg 5 0x1B40 0x0B []) 15) := by
  have ht : row_SEC_DEBUG_UNLOCK.takes (s.upTo q.t) 0x1B40 0x0B img = true :=
    takes_of (by decide) (check_domain hv (by decide)) (.inl (by decide)) (seg_upTo h _) rfl
  unfold execSecDebugUnlock
  rw [writeWhole_served h (look_SEC_DEBUG_UNLOCK) (by decide) ht]
  rfl
theorem execSecNonce_served (q : Req) (data : List Byte) {s : State} (h : s.serves q 0x1B40 0x07 = true) (hv : data.length = 32) :
    execSecNonce q data s = .next (State.finish ((s.upTo q.t).done ((s.upTo q.t).ownNonce data))
      (q.msg 2 0x1B40 0x07 []) 13) := by
  have ht : row_SEC_NONCE.takes (s.upTo q.t) 0x1B40 0x07 data = true :=
    takes_of (by decide) (check_octets hv (by decide)) (.inl (by decide)) (seg_upTo h _) rfl
  unfold execSecNonce
  rw [writeCmd_served h (look_SEC_NONCE) (by decide) (by decide) (by decide) (by have := pathLimit_le q.path; omega) ht]
  rfl
theorem execTrigger_served (q : Req) {s : State} (h : s.serves q 0x1B20 0x02 = true) :
    execTrigger q s = .next (State.finish ((s.upTo q.t).doneCmd ((s.upTo q.t).ownCelCmd 1) fun s => s.updNor fun n => { n with celSt := .refused })
      (q.msg 2 0x1B20 0x02 []) 2) := by
  have ht : row_CEL_CMD.takes (s.upTo q.t) 0x1B20 0x02 (leBytes 1 1) = true :=
    takes_of (by decide) (by decide) (.inl (by decide)) (seg_upTo h _) rfl
  unfold execTrigger
  rw [writeCmd_served h (look_CEL_CMD) (by decide) (by decide) (by decide) (by have := pathLimit_le q.path; simp only [leBytes_length]; omega) ht]
  rw [writeOwned_plain (r := row_CEL_CMD) (by decide)]
  simp only [State.writeOwned0, row_CEL_CMD]
  rfl
theorem execProtect_served (q : Req) {s : State} (h : s.serves q 0x1B20 0x02 = true) :
    execProtect q s = .next (State.finish ((s.upTo q.t).doneCmd ((s.upTo q.t).ownCelCmd 2) fun s => s.updNor fun n => { n with celSt := .refused })
      (q.msg 2 0x1B20 0x02 []) 2) := by
  have ht : row_CEL_CMD.takes (s.upTo q.t) 0x1B20 0x02 (leBytes 1 2) = true :=
    takes_of (by decide) (by decide) (.inl (by decide)) (seg_upTo h _) rfl
  unfold execProtect
  rw [writeCmd_served h (look_CEL_CMD) (by decide) (by decide) (by decide) (by have := pathLimit_le q.path; simp only [leBytes_length]; omega) ht]
  rw [writeOwned_plain (r := row_CEL_CMD) (by decide)]
  simp only [State.writeOwned0, row_CEL_CMD]
  rfl
theorem execUnprotect_served (q : Req) {s : State} (h : s.serves q 0x1B20 0x02 = true) :
    execUnprotect q s = .next (State.finish ((s.upTo q.t).doneCmd ((s.upTo q.t).ownCelCmd 3) fun s => s.updNor fun n => { n with celSt := .refused })
      (q.msg 2 0x1B20 0x02 []) 2) := by
  have ht : row_CEL_CMD.takes (s.upTo q.t) 0x1B20 0x02 (leBytes 1 3) = true :=
    takes_of (by decide) (by decide) (.inl (by decide)) (seg_upTo h _) rfl
  unfold execUnprotect
  rw [writeCmd_served h (look_CEL_CMD) (by decide) (by decide) (by decide) (by have := pathLimit_le q.path; simp only [leBytes_length]; omega) ht]
  rw [writeOwned_plain (r := row_CEL_CMD) (by decide)]
  simp only [State.writeOwned0, row_CEL_CMD]
  rfl
theorem execUpload_served (q : Req) {s : State} (h : s.serves q 0x1B20 0x02 = true) :
    execUpload q s = .next (State.finish ((s.upTo q.t).doneCmd ((s.upTo q.t).ownCelCmd 4) fun s => s.updNor fun n => { n with celSt := .refused })
      (q.msg 2 0x1B20 0x02 []) 2) := by
  have ht : row_CEL_CMD.takes (s.upTo q.t) 0x1B20 0x02 (leBytes 1 4) = true :=
    takes_of (by decide) (by decide) (.inl (by decide)) (seg_upTo h _) rfl
  unfold execUpload
  rw [writeCmd_served h (look_CEL_CMD) (by decide) (by decide) (by decide) (by have := pathLimit_le q.path; simp only [leBytes_length]; omega) ht]
  rw [writeOwned_plain (r := row_CEL_CMD) (by decide)]
  simp only [State.writeOwned0, row_CEL_CMD]
  rfl
def row_LEG_DT_MIN : OdRow := ⟨0x2200, 192, 0x01, 1, "LEG_DT_MIN", .u16, .rw, 20, .int 10 4094 2 none, 0, 0, 11, true, 2, false⟩
def row_LEG_DT_INIT : OdRow := ⟨0x2200, 192, 0x02, 1, "LEG_DT_INIT", .u16, .rw, 100, .int 10 4094 2 none, 0, 0, 11, true, 2, false⟩
def row_LEG_DT_MAX : OdRow := ⟨0x2200, 192, 0x03, 1, "LEG_DT_MAX", .u16, .rw, 300, .int 10 4094 2 none, 0, 0, 11, true, 2, false⟩
def row_LEG_DT_MARGIN : OdRow := ⟨0x2200, 192, 0x04, 1, "LEG_DT_MARGIN", .u16, .rw, 20, .int 0 200 2 none, 0, 0, 11, true, 2, false⟩
def row_LEG_DT_FILT : OdRow := ⟨0x2200, 192, 0x05, 1, "LEG_DT_FILT", .u8, .rw, 3, .int 0 7 1 none, 0, 0, 0, true, 1, false⟩
def row_LEG_GG_CTRL : OdRow := ⟨0x2200, 192, 0x06, 1, "LEG_GG_CTRL", .u16, .rw, 1, .any, 0xFFE0, 0, 0, true, 2, false⟩
theorem pick_LEG_DT_MIN : Od.pick Od.rows 0x2200 192 0x01 1 = some row_LEG_DT_MIN := by decide +kernel
theorem pick_LEG_DT_INIT : Od.pick Od.rows 0x2200 192 0x02 1 = some row_LEG_DT_INIT := by decide +kernel
theorem pick_LEG_DT_MAX : Od.pick Od.rows 0x2200 192 0x03 1 = some row_LEG_DT_MAX := by decide +kernel
theorem pick_LEG_DT_MARGIN : Od.pick Od.rows 0x2200 192 0x04 1 = some row_LEG_DT_MARGIN := by decide +kernel
theorem pick_LEG_DT_FILT : Od.pick Od.rows 0x2200 192 0x05 1 = some row_LEG_DT_FILT := by decide +kernel
theorem pick_LEG_GG_CTRL : Od.pick Od.rows 0x2200 192 0x06 1 = some row_LEG_GG_CTRL := by decide +kernel
def row_DT (which : Nat) : OdRow := [row_LEG_DT_MIN, row_LEG_DT_INIT, row_LEG_DT_MAX, row_LEG_DT_MARGIN, row_LEG_DT_FILT, row_LEG_GG_CTRL].getD which row_LEG_DT_MIN
theorem look_LEG_DT_MIN (l : Fin 192) : Od.lookup (0x2200 + l.val) 0x01 = .ok row_LEG_DT_MIN := by
  simpa only [Nat.add_zero] using lookup_of_pick (b := 0x2200) (s := 0x01) (i := l.val) (j := 0) pick_LEG_DT_MIN l.isLt Nat.zero_lt_one (by decide) (by decide)
theorem look_LEG_DT_INIT (l : Fin 192) : Od.lookup (0x2200 + l.val) 0x02 = .ok row_LEG_DT_INIT := by
  simpa only [Nat.add_zero] using lookup_of_pick (b := 0x2200) (s := 0x02) (i := l.val) (j := 0) pick_LEG_DT_INIT l.isLt Nat.zero_lt_one (by decide) (by decide)
theorem look_LEG_DT_MAX (l : Fin 192) : Od.lookup (0x2200 + l.val) 0x03 = .ok row_LEG_DT_MAX := by
  simpa only [Nat.add_zero] using lookup_of_pick (b := 0x2200) (s := 0x03) (i := l.val) (j := 0) pick_LEG_DT_MAX l.isLt Nat.zero_lt_one (by decide) (by decide)
theorem look_LEG_DT_MARGIN (l : Fin 192) : Od.lookup (0x2200 + l.val) 0x04 = .ok row_LEG_DT_MARGIN := by
  simpa only [Nat.add_zero] using lookup_of_pick (b := 0x2200) (s := 0x04) (i := l.val) (j := 0) pick_LEG_DT_MARGIN l.isLt Nat.zero_lt_one (by decide) (by decide)
theorem look_LEG_DT_FILT (l : Fin 192) : Od.lookup (0x2200 + l.val) 0x05 = .ok row_LEG_DT_FILT := by
  simpa only [Nat.add_zero] using lookup_of_pick (b := 0x2200) (s := 0x05) (i := l.val) (j := 0) pick_LEG_DT_FILT l.isLt Nat.zero_lt_one (by decide) (by decide)
theorem look_LEG_GG_CTRL (l : Fin 192) : Od.lookup (0x2200 + l.val) 0x06 = .ok row_LEG_GG_CTRL := by
  simpa only [Nat.add_zero] using lookup_of_pick (b := 0x2200) (s := 0x06) (i := l.val) (j := 0) pick_LEG_GG_CTRL l.isLt Nat.zero_lt_one (by decide) (by decide)
theorem look_DT (l : Fin 192) (which : Fin 6) : Od.lookup (0x2200 + l.val) (which.val + 1) = .ok (row_DT which.val) :=
  match which with
  | ⟨0, _⟩ => look_LEG_DT_MIN l
  | ⟨1, _⟩ => look_LEG_DT_INIT l
  | ⟨2, _⟩ => look_LEG_DT_MAX l
  | ⟨3, _⟩ => look_LEG_DT_MARGIN l
  | ⟨4, _⟩ => look_LEG_DT_FILT l
  | ⟨5, _⟩ => look_LEG_GG_CTRL l
theorem execGgDtWrite_served (q : Req) (l : Fin 192) (which : Fin 6) (v : BitVec 16) {s : State}
    (h : s.serves q (0x2200 + l.val) (which.val + 1) = true)
    (hv : (row_DT which.val).check (leBytes (if which.val = 4 then 1 else 2) v.toNat) = 0) :
    execGgDtWrite q l which v s = .next (State.finish
      ((s.upTo q.t).done ((s.upTo q.t).ownDt l.val (dtReg l.val which.val) (leNat (leBytes (if which.val = 4 then 1 else 2) v.toNat))))
      (q.msg 2 (0x2200 + l.val) (which.val + 1) []) (if which.val = 4 then 2 else 3)) := by
  have hr : (row_DT which.val).acc ≠ .ro ∧ (row_DT which.val).acc ≠ .const ∧ (row_DT which.val).acc ≠ .rws ∧
      (row_DT which.val).base ≠ 0x8000 := (show ∀ w : Fin 6, (row_DT w.val).acc ≠ .ro ∧ (row_DT w.val).acc ≠ .const ∧
      (row_DT w.val).acc ≠ .rws ∧ (row_DT w.val).base ≠ 0x8000 by decide) which
  have hd : ∀ x, (row_DT which.val).divides x = true := fun x => match which with
    | ⟨0, _⟩ => rfl
    | ⟨1, _⟩ => rfl
    | ⟨2, _⟩ => rfl
    | ⟨3, _⟩ => rfl
    | ⟨4, _⟩ => rfl
    | ⟨5, _⟩ => rfl
  have ht : (row_DT which.val).takes (s.upTo q.t) (0x2200 + l.val) (which.val + 1) (leBytes (if which.val = 4 then 1 else 2) v.toNat) = true :=
    takes_of ⟨hr.1, hr.2.1⟩ hv (.inl hr.2.2.1) (seg_upTo h _) (hd _)
  unfold execGgDtWrite
  rw [writeCmd_served h (look_DT l which) (by omega) (by omega) hr.2.2.2
    (by have := pathLimit_le q.path; simp only [leBytes_length]; split <;> omega) ht]
  match which with
  | ⟨0, _⟩ =>
    have e : ∀ (t : State) (d : List Byte), t.writeOwned row_LEG_DT_MIN (0x2200 + l.val) 0x01 d =
        t.done (t.ownDt l.val (Od.LEG_DT_MIN l.val) (leNat d)) := by
      intro t d
      rw [writeOwned_plain (r := row_LEG_DT_MIN) (by decide)]
      simp only [State.writeOwned0, row_LEG_DT_MIN, Nat.add_sub_cancel_left]
      rfl
    exact congrArg (fun x => Host.Outcome.next (State.finish x _ _)) (e _ _)
  | ⟨1, _⟩ =>
    have e : ∀ (t : State) (d : List Byte), t.writeOwned row_LEG_DT_INIT (0x2200 + l.val) 0x02 d =
        t.done (t.ownDt l.val (Od.LEG_DT_INIT l.val) (leNat d)) := by
      intro t d
      rw [writeOwned_plain (r := row_LEG_DT_INIT) (by decide)]
      simp only [State.writeOwned0, row_LEG_DT_INIT, Nat.add_sub_cancel_left]
      rfl
    exact congrArg (fun x => Host.Outcome.next (State.finish x _ _)) (e _ _)
  | ⟨2, _⟩ =>
    have e : ∀ (t : State) (d : List Byte), t.writeOwned row_LEG_DT_MAX (0x2200 + l.val) 0x03 d =
        t.done (t.ownDt l.val (Od.LEG_DT_MAX l.val) (leNat d)) := by
      intro t d
      rw [writeOwned_plain (r := row_LEG_DT_MAX) (by decide)]
      simp only [State.writeOwned0, row_LEG_DT_MAX, Nat.add_sub_cancel_left]
      rfl
    exact congrArg (fun x => Host.Outcome.next (State.finish x _ _)) (e _ _)
  | ⟨3, _⟩ =>
    have e : ∀ (t : State) (d : List Byte), t.writeOwned row_LEG_DT_MARGIN (0x2200 + l.val) 0x04 d =
        t.done (t.ownDt l.val (Od.LEG_DT_MARGIN l.val) (leNat d)) := by
      intro t d
      rw [writeOwned_plain (r := row_LEG_DT_MARGIN) (by decide)]
      simp only [State.writeOwned0, row_LEG_DT_MARGIN, Nat.add_sub_cancel_left]
      rfl
    exact congrArg (fun x => Host.Outcome.next (State.finish x _ _)) (e _ _)
  | ⟨4, _⟩ =>
    have e : ∀ (t : State) (d : List Byte), t.writeOwned row_LEG_DT_FILT (0x2200 + l.val) 0x05 d =
        t.done (t.ownDt l.val (Od.LEG_DT_FILT l.val) (leNat d)) := by
      intro t d
      rw [writeOwned_plain (r := row_LEG_DT_FILT) (by decide)]
      simp only [State.writeOwned0, row_LEG_DT_FILT, Nat.add_sub_cancel_left]
      rfl
    exact congrArg (fun x => Host.Outcome.next (State.finish x _ _)) (e _ _)
  | ⟨5, _⟩ =>
    have e : ∀ (t : State) (d : List Byte), t.writeOwned row_LEG_GG_CTRL (0x2200 + l.val) 0x06 d =
        t.done (t.ownDt l.val (Od.LEG_GG_CTRL l.val) (leNat d)) := by
      intro t d
      rw [writeOwned_plain (r := row_LEG_GG_CTRL) (by decide)]
      simp only [State.writeOwned0, row_LEG_GG_CTRL, Nat.add_sub_cancel_left]
      rfl
    exact congrArg (fun x => Host.Outcome.next (State.finish x _ _)) (e _ _)
def row_MD_CTRL : OdRow := ⟨0x2800, 96, 0x01, 1, "MD_CTRL", .u16, .rw, 0, .any, 0xFFF8, 0, 0, true, 2, false⟩
def row_MD_FAST_OSR : OdRow := ⟨0x2800, 96, 0x02, 1, "MD_FAST_OSR", .u16, .rw, 32, .int 16 64 1 none, 0, 0, 0, true, 2, false⟩
def row_MD_CTRL_OSR : OdRow := ⟨0x2800, 96, 0x03, 1, "MD_CTRL_OSR", .u16, .rw, 128, .int 64 256 1 none, 0, 0, 0, true, 2, false⟩
def row_MD_TRIP_ACT : OdRow := ⟨0x2800, 96, 0x0D, 1, "MD_TRIP_ACT", .u8, .rw, 0, .int 0 2 1 none, 0, 0, 0, true, 1, false⟩
theorem pick_MD_CTRL : Od.pick Od.rows 0x2800 96 0x01 1 = some row_MD_CTRL := by decide +kernel
theorem pick_MD_FAST_OSR : Od.pick Od.rows 0x2800 96 0x02 1 = some row_MD_FAST_OSR := by decide +kernel
theorem pick_MD_CTRL_OSR : Od.pick Od.rows 0x2800 96 0x03 1 = some row_MD_CTRL_OSR := by decide +kernel
theorem pick_MD_TRIP_ACT : Od.pick Od.rows 0x2800 96 0x0d 1 = some row_MD_TRIP_ACT := by decide +kernel
def row_MD (which : Nat) : OdRow := [row_MD_CTRL, row_MD_FAST_OSR, row_MD_CTRL_OSR, row_MD_TRIP_ACT].getD which row_MD_CTRL
theorem look_MD_CTRL (m : Fin 96) : Od.lookup (0x2800 + m.val) 0x01 = .ok row_MD_CTRL := by
  simpa only [Nat.add_zero] using lookup_of_pick (b := 0x2800) (s := 0x01) (i := m.val) (j := 0) pick_MD_CTRL m.isLt Nat.zero_lt_one (by decide) (by decide)
theorem look_MD_FAST_OSR (m : Fin 96) : Od.lookup (0x2800 + m.val) 0x02 = .ok row_MD_FAST_OSR := by
  simpa only [Nat.add_zero] using lookup_of_pick (b := 0x2800) (s := 0x02) (i := m.val) (j := 0) pick_MD_FAST_OSR m.isLt Nat.zero_lt_one (by decide) (by decide)
theorem look_MD_CTRL_OSR (m : Fin 96) : Od.lookup (0x2800 + m.val) 0x03 = .ok row_MD_CTRL_OSR := by
  simpa only [Nat.add_zero] using lookup_of_pick (b := 0x2800) (s := 0x03) (i := m.val) (j := 0) pick_MD_CTRL_OSR m.isLt Nat.zero_lt_one (by decide) (by decide)
theorem look_MD_TRIP_ACT (m : Fin 96) : Od.lookup (0x2800 + m.val) 0x0d = .ok row_MD_TRIP_ACT := by
  simpa only [Nat.add_zero] using lookup_of_pick (b := 0x2800) (s := 0x0d) (i := m.val) (j := 0) pick_MD_TRIP_ACT m.isLt Nat.zero_lt_one (by decide) (by decide)
theorem look_MD (m : Fin 96) (which : Fin 4) : Od.lookup (0x2800 + m.val) ([0x01, 0x02, 0x03, 0x0D].getD which.val 0) = .ok (row_MD which.val) :=
  match which with
  | ⟨0, _⟩ => look_MD_CTRL m
  | ⟨1, _⟩ => look_MD_FAST_OSR m
  | ⟨2, _⟩ => look_MD_CTRL_OSR m
  | ⟨3, _⟩ => look_MD_TRIP_ACT m
theorem execMdCtrlWrite_served (q : Req) (m : Fin 96) (which : Fin 4) (v : BitVec 16) {s : State}
    (h : s.serves q (0x2800 + m.val) ([0x01, 0x02, 0x03, 0x0D].getD which.val 0) = true)
    (hv : (row_MD which.val).check (leBytes (if which.val = 3 then 1 else 2) v.toNat) = 0) :
    execMdCtrlWrite q m which v s = .next (State.finish
      ((s.upTo q.t).done ((s.upTo q.t).ownMd m.val (mdReg m.val which.val) (leNat (leBytes (if which.val = 3 then 1 else 2) v.toNat))))
      (q.msg 2 (0x2800 + m.val) ([0x01, 0x02, 0x03, 0x0D].getD which.val 0) []) (if which.val = 3 then 2 else 3)) := by
  have hr : (row_MD which.val).acc ≠ .ro ∧ (row_MD which.val).acc ≠ .const ∧ (row_MD which.val).acc ≠ .rws ∧
      (row_MD which.val).base ≠ 0x8000 := (show ∀ w : Fin 4, (row_MD w.val).acc ≠ .ro ∧ (row_MD w.val).acc ≠ .const ∧
      (row_MD w.val).acc ≠ .rws ∧ (row_MD w.val).base ≠ 0x8000 by decide) which
  have hd : ∀ x, (row_MD which.val).divides x = true := fun x => match which with
    | ⟨0, _⟩ => rfl
    | ⟨1, _⟩ => rfl
    | ⟨2, _⟩ => rfl
    | ⟨3, _⟩ => rfl
  have ht : (row_MD which.val).takes (s.upTo q.t) (0x2800 + m.val) ([0x01, 0x02, 0x03, 0x0D].getD which.val 0) (leBytes (if which.val = 3 then 1 else 2) v.toNat) = true :=
    takes_of ⟨hr.1, hr.2.1⟩ hv (.inl hr.2.2.1) (seg_upTo h _) (hd _)
  unfold execMdCtrlWrite
  rw [writeCmd_served h (look_MD m which) (by omega) (by omega) hr.2.2.2
    (by have := pathLimit_le q.path; simp only [leBytes_length]; split <;> omega) ht]
  match which with
  | ⟨0, _⟩ =>
    have e : ∀ (t : State) (d : List Byte), t.writeOwned row_MD_CTRL (0x2800 + m.val) 0x01 d =
        t.done (t.ownMd m.val (Od.MD_CTRL m.val) (leNat d)) := by
      intro t d
      rw [writeOwned_plain (r := row_MD_CTRL) (by decide)]
      simp only [State.writeOwned0, row_MD_CTRL, Nat.add_sub_cancel_left]
      rfl
    exact congrArg (fun x => Host.Outcome.next (State.finish x _ _)) (e _ _)
  | ⟨1, _⟩ =>
    have e : ∀ (t : State) (d : List Byte), t.writeOwned row_MD_FAST_OSR (0x2800 + m.val) 0x02 d =
        t.done (t.ownMd m.val (Od.MD_FAST_OSR m.val) (leNat d)) := by
      intro t d
      rw [writeOwned_plain (r := row_MD_FAST_OSR) (by decide)]
      simp only [State.writeOwned0, row_MD_FAST_OSR, Nat.add_sub_cancel_left]
      rfl
    exact congrArg (fun x => Host.Outcome.next (State.finish x _ _)) (e _ _)
  | ⟨2, _⟩ =>
    have e : ∀ (t : State) (d : List Byte), t.writeOwned row_MD_CTRL_OSR (0x2800 + m.val) 0x03 d =
        t.done (t.ownMd m.val (Od.MD_CTRL_OSR m.val) (leNat d)) := by
      intro t d
      rw [writeOwned_plain (r := row_MD_CTRL_OSR) (by decide)]
      simp only [State.writeOwned0, row_MD_CTRL_OSR, Nat.add_sub_cancel_left]
      rfl
    exact congrArg (fun x => Host.Outcome.next (State.finish x _ _)) (e _ _)
  | ⟨3, _⟩ =>
    have e : ∀ (t : State) (d : List Byte), t.writeOwned row_MD_TRIP_ACT (0x2800 + m.val) 0x0d d =
        t.done (t.ownMd m.val (Od.MD_TRIP_ACT m.val) (leNat d)) := by
      intro t d
      rw [writeOwned_plain (r := row_MD_TRIP_ACT) (by decide)]
      simp only [State.writeOwned0, row_MD_TRIP_ACT, Nat.add_sub_cancel_left]
      rfl
    exact congrArg (fun x => Host.Outcome.next (State.finish x _ _)) (e _ _)

end Machine
end Sys2Proof
end

