-- ==== Sys2Proof/Laws/State.lean ====
section
/-! SUPPORT. What each update of the state leaves of each field: one lemma per field and update. -/

namespace Sys2Proof.Machine

set_option Elab.async false

variable (s : State)

/-! `State.at_` -/
@[simp] theorem State.at_now (t : Nat) : (s.at_ t).now = max s.now t := rfl
@[simp] theorem State.at_od (t : Nat) : (s.at_ t).od = s.od := rfl
@[simp] theorem State.at_legs (t : Nat) : (s.at_ t).legs = s.legs := rfl
@[simp] theorem State.at_gates (t : Nat) : (s.at_ t).gates = s.gates := rfl
@[simp] theorem State.at_cars (t : Nat) : (s.at_ t).cars = s.cars := rfl
@[simp] theorem State.at_soon (t : Nat) : (s.at_ t).soon = s.soon := rfl
@[simp] theorem State.at_slots (t : Nat) : (s.at_ t).slots = s.slots := rfl
@[simp] theorem State.at_records (t : Nat) : (s.at_ t).records = s.records := rfl
@[simp] theorem State.at_stringTrips (t : Nat) : (s.at_ t).stringTrips = s.stringTrips := rfl
@[simp] theorem State.at_strings (t : Nat) : (s.at_ t).strings = s.strings := rfl
@[simp] theorem State.at_glideSteps (t : Nat) : (s.at_ t).glideSteps = s.glideSteps := rfl
@[simp] theorem State.at_strRecords (t : Nat) : (s.at_ t).strRecords = s.strRecords := rfl
@[simp] theorem State.at_mdats (t : Nat) : (s.at_ t).mdats = s.mdats := rfl
@[simp] theorem State.at_meas (t : Nat) : (s.at_ t).meas = s.meas := rfl
@[simp] theorem State.at_le (t : Nat) : (s.at_ t).le = s.le := rfl
@[simp] theorem State.at_fb (t : Nat) : (s.at_ t).fb = s.fb := rfl
@[simp] theorem State.at_th (t : Nat) : (s.at_ t).th = s.th := rfl
@[simp] theorem State.at_lv (t : Nat) : (s.at_ t).lv = s.lv := rfl
@[simp] theorem State.at_flt (t : Nat) : (s.at_ t).flt = s.flt := rfl
@[simp] theorem State.at_sf (t : Nat) : (s.at_ t).sf = s.sf := rfl
@[simp] theorem State.at_acc (t : Nat) : (s.at_ t).acc = s.acc := rfl
@[simp] theorem State.at_clk (t : Nat) : (s.at_ t).clk = s.clk := rfl
@[simp] theorem State.at_pwr (t : Nat) : (s.at_ t).pwr = s.pwr := rfl
@[simp] theorem State.at_ret (t : Nat) : (s.at_ t).ret = s.ret := rfl
@[simp] theorem State.at_nor (t : Nat) : (s.at_ t).nor = s.nor := rfl
@[simp] theorem State.at_bist (t : Nat) : (s.at_ t).bist = s.bist := rfl
@[simp] theorem State.at_lanes (t : Nat) : (s.at_ t).lanes = s.lanes := rfl
@[simp] theorem State.at_tb (t : Nat) : (s.at_ t).tb = s.tb := rfl
@[simp] theorem State.at_ring (t : Nat) : (s.at_ t).ring = s.ring := rfl
@[simp] theorem State.at_mgr (t : Nat) : (s.at_ t).mgr = s.mgr := rfl
@[simp] theorem State.at_out (t : Nat) : (s.at_ t).out = s.out := rfl
@[simp] theorem State.at_free (t : Nat) : (s.at_ t).free = s.free := rfl
@[simp] theorem State.at_cellAt (t : Nat) : (s.at_ t).cellAt = s.cellAt := rfl
@[simp] theorem State.at_pending (t : Nat) : (s.at_ t).pending = s.pending := rfl
/-! `State.wr` -/
@[simp] theorem State.wr_now (r : Reg) (v : Nat) : (s.wr r v).now = s.now := rfl
@[simp] theorem State.wr_od (r : Reg) (v : Nat) : (s.wr r v).od = s.od.put r v := rfl
@[simp] theorem State.wr_legs (r : Reg) (v : Nat) : (s.wr r v).legs = s.legs := rfl
@[simp] theorem State.wr_gates (r : Reg) (v : Nat) : (s.wr r v).gates = s.gates := rfl
@[simp] theorem State.wr_cars (r : Reg) (v : Nat) : (s.wr r v).cars = s.cars := rfl
@[simp] theorem State.wr_soon (r : Reg) (v : Nat) : (s.wr r v).soon = s.soon := rfl
@[simp] theorem State.wr_slots (r : Reg) (v : Nat) : (s.wr r v).slots = s.slots := rfl
@[simp] theorem State.wr_records (r : Reg) (v : Nat) : (s.wr r v).records = s.records := rfl
@[simp] theorem State.wr_stringTrips (r : Reg) (v : Nat) : (s.wr r v).stringTrips = s.stringTrips := rfl
@[simp] theorem State.wr_strings (r : Reg) (v : Nat) : (s.wr r v).strings = s.strings := rfl
@[simp] theorem State.wr_glideSteps (r : Reg) (v : Nat) : (s.wr r v).glideSteps = s.glideSteps := rfl
@[simp] theorem State.wr_strRecords (r : Reg) (v : Nat) : (s.wr r v).strRecords = s.strRecords := rfl
@[simp] theorem State.wr_mdats (r : Reg) (v : Nat) : (s.wr r v).mdats = s.mdats := rfl
@[simp] theorem State.wr_meas (r : Reg) (v : Nat) : (s.wr r v).meas = s.meas := rfl
@[simp] theorem State.wr_le (r : Reg) (v : Nat) : (s.wr r v).le = s.le := rfl
@[simp] theorem State.wr_fb (r : Reg) (v : Nat) : (s.wr r v).fb = s.fb := rfl
@[simp] theorem State.wr_th (r : Reg) (v : Nat) : (s.wr r v).th = s.th := rfl
@[simp] theorem State.wr_lv (r : Reg) (v : Nat) : (s.wr r v).lv = s.lv := rfl
@[simp] theorem State.wr_flt (r : Reg) (v : Nat) : (s.wr r v).flt = s.flt := rfl
@[simp] theorem State.wr_sf (r : Reg) (v : Nat) : (s.wr r v).sf = s.sf := rfl
@[simp] theorem State.wr_acc (r : Reg) (v : Nat) : (s.wr r v).acc = s.acc := rfl
@[simp] theorem State.wr_clk (r : Reg) (v : Nat) : (s.wr r v).clk = s.clk := rfl
@[simp] theorem State.wr_pwr (r : Reg) (v : Nat) : (s.wr r v).pwr = s.pwr := rfl
@[simp] theorem State.wr_ret (r : Reg) (v : Nat) : (s.wr r v).ret = s.ret := rfl
@[simp] theorem State.wr_nor (r : Reg) (v : Nat) : (s.wr r v).nor = s.nor := rfl
@[simp] theorem State.wr_bist (r : Reg) (v : Nat) : (s.wr r v).bist = s.bist := rfl
@[simp] theorem State.wr_lanes (r : Reg) (v : Nat) : (s.wr r v).lanes = s.lanes := rfl
@[simp] theorem State.wr_tb (r : Reg) (v : Nat) : (s.wr r v).tb = s.tb := rfl
@[simp] theorem State.wr_ring (r : Reg) (v : Nat) : (s.wr r v).ring = s.ring := rfl
@[simp] theorem State.wr_mgr (r : Reg) (v : Nat) : (s.wr r v).mgr = s.mgr := rfl
@[simp] theorem State.wr_out (r : Reg) (v : Nat) : (s.wr r v).out = s.out := rfl
@[simp] theorem State.wr_free (r : Reg) (v : Nat) : (s.wr r v).free = s.free := rfl
@[simp] theorem State.wr_cellAt (r : Reg) (v : Nat) : (s.wr r v).cellAt = s.cellAt := rfl
@[simp] theorem State.wr_pending (r : Reg) (v : Nat) : (s.wr r v).pending = s.pending := rfl
/-! `State.emit` -/
@[simp] theorem State.emit_now (o : Out) : (s.emit o).now = s.now := rfl
@[simp] theorem State.emit_od (o : Out) : (s.emit o).od = s.od := rfl
@[simp] theorem State.emit_legs (o : Out) : (s.emit o).legs = s.legs := rfl
@[simp] theorem State.emit_gates (o : Out) : (s.emit o).gates = s.gates := rfl
@[simp] theorem State.emit_cars (o : Out) : (s.emit o).cars = s.cars := rfl
@[simp] theorem State.emit_soon (o : Out) : (s.emit o).soon = s.soon := rfl
@[simp] theorem State.emit_slots (o : Out) : (s.emit o).slots = s.slots := rfl
@[simp] theorem State.emit_records (o : Out) : (s.emit o).records = s.records := rfl
@[simp] theorem State.emit_stringTrips (o : Out) : (s.emit o).stringTrips = s.stringTrips := rfl
@[simp] theorem State.emit_strings (o : Out) : (s.emit o).strings = s.strings := rfl
@[simp] theorem State.emit_glideSteps (o : Out) : (s.emit o).glideSteps = s.glideSteps := rfl
@[simp] theorem State.emit_strRecords (o : Out) : (s.emit o).strRecords = s.strRecords := rfl
@[simp] theorem State.emit_mdats (o : Out) : (s.emit o).mdats = s.mdats := rfl
@[simp] theorem State.emit_meas (o : Out) : (s.emit o).meas = s.meas := rfl
@[simp] theorem State.emit_le (o : Out) : (s.emit o).le = s.le := rfl
@[simp] theorem State.emit_fb (o : Out) : (s.emit o).fb = s.fb := rfl
@[simp] theorem State.emit_th (o : Out) : (s.emit o).th = s.th := rfl
@[simp] theorem State.emit_lv (o : Out) : (s.emit o).lv = s.lv := rfl
@[simp] theorem State.emit_flt (o : Out) : (s.emit o).flt = s.flt := rfl
@[simp] theorem State.emit_sf (o : Out) : (s.emit o).sf = s.sf := rfl
@[simp] theorem State.emit_acc (o : Out) : (s.emit o).acc = s.acc := rfl
@[simp] theorem State.emit_clk (o : Out) : (s.emit o).clk = s.clk := rfl
@[simp] theorem State.emit_pwr (o : Out) : (s.emit o).pwr = s.pwr := rfl
@[simp] theorem State.emit_ret (o : Out) : (s.emit o).ret = s.ret := rfl
@[simp] theorem State.emit_nor (o : Out) : (s.emit o).nor = s.nor := rfl
@[simp] theorem State.emit_bist (o : Out) : (s.emit o).bist = s.bist := rfl
@[simp] theorem State.emit_lanes (o : Out) : (s.emit o).lanes = s.lanes := rfl
@[simp] theorem State.emit_tb (o : Out) : (s.emit o).tb = s.tb := rfl
@[simp] theorem State.emit_ring (o : Out) : (s.emit o).ring = s.ring := rfl
@[simp] theorem State.emit_mgr (o : Out) : (s.emit o).mgr = s.mgr := rfl
@[simp] theorem State.emit_out (o : Out) : (s.emit o).out = o :: s.out := rfl
@[simp] theorem State.emit_free (o : Out) : (s.emit o).free = s.free := rfl
@[simp] theorem State.emit_cellAt (o : Out) : (s.emit o).cellAt = s.cellAt := rfl
@[simp] theorem State.emit_pending (o : Out) : (s.emit o).pending = s.pending := rfl
/-! `State.raise` -/
@[simp] theorem State.raise_now (c i : Nat) : (s.raise c i).now = s.now := rfl
@[simp] theorem State.raise_od (c i : Nat) : (s.raise c i).od = s.od := rfl
@[simp] theorem State.raise_legs (c i : Nat) : (s.raise c i).legs = s.legs := rfl
@[simp] theorem State.raise_gates (c i : Nat) : (s.raise c i).gates = s.gates := rfl
@[simp] theorem State.raise_cars (c i : Nat) : (s.raise c i).cars = s.cars := rfl
@[simp] theorem State.raise_soon (c i : Nat) : (s.raise c i).soon = s.soon := rfl
@[simp] theorem State.raise_slots (c i : Nat) : (s.raise c i).slots = s.slots := rfl
@[simp] theorem State.raise_records (c i : Nat) : (s.raise c i).records = s.records := rfl
@[simp] theorem State.raise_stringTrips (c i : Nat) : (s.raise c i).stringTrips = s.stringTrips := rfl
@[simp] theorem State.raise_strings (c i : Nat) : (s.raise c i).strings = s.strings := rfl
@[simp] theorem State.raise_glideSteps (c i : Nat) : (s.raise c i).glideSteps = s.glideSteps := rfl
@[simp] theorem State.raise_strRecords (c i : Nat) : (s.raise c i).strRecords = s.strRecords := rfl
@[simp] theorem State.raise_mdats (c i : Nat) : (s.raise c i).mdats = s.mdats := rfl
@[simp] theorem State.raise_meas (c i : Nat) : (s.raise c i).meas = s.meas := rfl
@[simp] theorem State.raise_le (c i : Nat) : (s.raise c i).le = s.le := rfl
@[simp] theorem State.raise_fb (c i : Nat) : (s.raise c i).fb = s.fb := rfl
@[simp] theorem State.raise_th (c i : Nat) : (s.raise c i).th = s.th := rfl
@[simp] theorem State.raise_lv (c i : Nat) : (s.raise c i).lv = s.lv := rfl
@[simp] theorem State.raise_sf (c i : Nat) : (s.raise c i).sf = s.sf := rfl
@[simp] theorem State.raise_acc (c i : Nat) : (s.raise c i).acc = s.acc := rfl
@[simp] theorem State.raise_clk (c i : Nat) : (s.raise c i).clk = s.clk := rfl
@[simp] theorem State.raise_pwr (c i : Nat) : (s.raise c i).pwr = s.pwr := rfl
@[simp] theorem State.raise_ret (c i : Nat) : (s.raise c i).ret = s.ret := rfl
@[simp] theorem State.raise_nor (c i : Nat) : (s.raise c i).nor = s.nor := rfl
@[simp] theorem State.raise_bist (c i : Nat) : (s.raise c i).bist = s.bist := rfl
@[simp] theorem State.raise_lanes (c i : Nat) : (s.raise c i).lanes = s.lanes := rfl
@[simp] theorem State.raise_tb (c i : Nat) : (s.raise c i).tb = s.tb := rfl
@[simp] theorem State.raise_ring (c i : Nat) : (s.raise c i).ring = s.ring := rfl
@[simp] theorem State.raise_mgr (c i : Nat) : (s.raise c i).mgr = s.mgr := rfl
@[simp] theorem State.raise_out (c i : Nat) : (s.raise c i).out = s.out := rfl
@[simp] theorem State.raise_free (c i : Nat) : (s.raise c i).free = s.free := rfl
@[simp] theorem State.raise_cellAt (c i : Nat) : (s.raise c i).cellAt = s.cellAt := rfl
@[simp] theorem State.raise_pending (c i : Nat) : (s.raise c i).pending = s.pending := rfl
/-! `State.updLeg` -/
@[simp] theorem State.updLeg_now (l : Nat) (f : Leg → Leg) : (s.updLeg l f).now = s.now := rfl
@[simp] theorem State.updLeg_od (l : Nat) (f : Leg → Leg) : (s.updLeg l f).od = s.od := rfl
@[simp] theorem State.updLeg_legs (l : Nat) (f : Leg → Leg) : (s.updLeg l f).legs = s.legs.modify l f := rfl
@[simp] theorem State.updLeg_gates (l : Nat) (f : Leg → Leg) : (s.updLeg l f).gates = s.gates := rfl
@[simp] theorem State.updLeg_cars (l : Nat) (f : Leg → Leg) : (s.updLeg l f).cars = s.cars := rfl
@[simp] theorem State.updLeg_soon (l : Nat) (f : Leg → Leg) : (s.updLeg l f).soon = s.soon := rfl
@[simp] theorem State.updLeg_slots (l : Nat) (f : Leg → Leg) : (s.updLeg l f).slots = s.slots := rfl
@[simp] theorem State.updLeg_records (l : Nat) (f : Leg → Leg) : (s.updLeg l f).records = s.records := rfl
@[simp] theorem State.updLeg_stringTrips (l : Nat) (f : Leg → Leg) : (s.updLeg l f).stringTrips = s.stringTrips := rfl
@[simp] theorem State.updLeg_strings (l : Nat) (f : Leg → Leg) : (s.updLeg l f).strings = s.strings := rfl
@[simp] theorem State.updLeg_glideSteps (l : Nat) (f : Leg → Leg) : (s.updLeg l f).glideSteps = s.glideSteps := rfl
@[simp] theorem State.updLeg_strRecords (l : Nat) (f : Leg → Leg) : (s.updLeg l f).strRecords = s.strRecords := rfl
@[simp] theorem State.updLeg_mdats (l : Nat) (f : Leg → Leg) : (s.updLeg l f).mdats = s.mdats := rfl
@[simp] theorem State.updLeg_meas (l : Nat) (f : Leg → Leg) : (s.updLeg l f).meas = s.meas := rfl
@[simp] theorem State.updLeg_le (l : Nat) (f : Leg → Leg) : (s.updLeg l f).le = s.le := rfl
@[simp] theorem State.updLeg_fb (l : Nat) (f : Leg → Leg) : (s.updLeg l f).fb = s.fb := rfl
@[simp] theorem State.updLeg_th (l : Nat) (f : Leg → Leg) : (s.updLeg l f).th = s.th := rfl
@[simp] theorem State.updLeg_lv (l : Nat) (f : Leg → Leg) : (s.updLeg l f).lv = s.lv := rfl
@[simp] theorem State.updLeg_flt (l : Nat) (f : Leg → Leg) : (s.updLeg l f).flt = s.flt := rfl
@[simp] theorem State.updLeg_sf (l : Nat) (f : Leg → Leg) : (s.updLeg l f).sf = s.sf := rfl
@[simp] theorem State.updLeg_acc (l : Nat) (f : Leg → Leg) : (s.updLeg l f).acc = s.acc := rfl
@[simp] theorem State.updLeg_clk (l : Nat) (f : Leg → Leg) : (s.updLeg l f).clk = s.clk := rfl
@[simp] theorem State.updLeg_pwr (l : Nat) (f : Leg → Leg) : (s.updLeg l f).pwr = s.pwr := rfl
@[simp] theorem State.updLeg_ret (l : Nat) (f : Leg → Leg) : (s.updLeg l f).ret = s.ret := rfl
@[simp] theorem State.updLeg_nor (l : Nat) (f : Leg → Leg) : (s.updLeg l f).nor = s.nor := rfl
@[simp] theorem State.updLeg_bist (l : Nat) (f : Leg → Leg) : (s.updLeg l f).bist = s.bist := rfl
@[simp] theorem State.updLeg_lanes (l : Nat) (f : Leg → Leg) : (s.updLeg l f).lanes = s.lanes := rfl
@[simp] theorem State.updLeg_tb (l : Nat) (f : Leg → Leg) : (s.updLeg l f).tb = s.tb := rfl
@[simp] theorem State.updLeg_ring (l : Nat) (f : Leg → Leg) : (s.updLeg l f).ring = s.ring := rfl
@[simp] theorem State.updLeg_mgr (l : Nat) (f : Leg → Leg) : (s.updLeg l f).mgr = s.mgr := rfl
@[simp] theorem State.updLeg_out (l : Nat) (f : Leg → Leg) : (s.updLeg l f).out = s.out := rfl
@[simp] theorem State.updLeg_free (l : Nat) (f : Leg → Leg) : (s.updLeg l f).free = s.free := rfl
@[simp] theorem State.updLeg_cellAt (l : Nat) (f : Leg → Leg) : (s.updLeg l f).cellAt = s.cellAt := rfl
@[simp] theorem State.updLeg_pending (l : Nat) (f : Leg → Leg) : (s.updLeg l f).pending = s.pending := rfl
/-! `State.updGg` -/
@[simp] theorem State.updGg_now (l : Nat) (f : Guard → Guard) : (s.updGg l f).now = s.now := rfl
@[simp] theorem State.updGg_od (l : Nat) (f : Guard → Guard) : (s.updGg l f).od = s.od := rfl
@[simp] theorem State.updGg_legs (l : Nat) (f : Guard → Guard) : (s.updGg l f).legs = s.legs := rfl
@[simp] theorem State.updGg_gates (l : Nat) (f : Guard → Guard) : (s.updGg l f).gates = s.gates.modify l f := rfl
@[simp] theorem State.updGg_cars (l : Nat) (f : Guard → Guard) : (s.updGg l f).cars = s.cars := rfl
@[simp] theorem State.updGg_soon (l : Nat) (f : Guard → Guard) : (s.updGg l f).soon = s.soon := rfl
@[simp] theorem State.updGg_slots (l : Nat) (f : Guard → Guard) : (s.updGg l f).slots = s.slots := rfl
@[simp] theorem State.updGg_records (l : Nat) (f : Guard → Guard) : (s.updGg l f).records = s.records := rfl
@[simp] theorem State.updGg_stringTrips (l : Nat) (f : Guard → Guard) : (s.updGg l f).stringTrips = s.stringTrips := rfl
@[simp] theorem State.updGg_strings (l : Nat) (f : Guard → Guard) : (s.updGg l f).strings = s.strings := rfl
@[simp] theorem State.updGg_glideSteps (l : Nat) (f : Guard → Guard) : (s.updGg l f).glideSteps = s.glideSteps := rfl
@[simp] theorem State.updGg_strRecords (l : Nat) (f : Guard → Guard) : (s.updGg l f).strRecords = s.strRecords := rfl
@[simp] theorem State.updGg_mdats (l : Nat) (f : Guard → Guard) : (s.updGg l f).mdats = s.mdats := rfl
@[simp] theorem State.updGg_meas (l : Nat) (f : Guard → Guard) : (s.updGg l f).meas = s.meas := rfl
@[simp] theorem State.updGg_le (l : Nat) (f : Guard → Guard) : (s.updGg l f).le = s.le := rfl
@[simp] theorem State.updGg_fb (l : Nat) (f : Guard → Guard) : (s.updGg l f).fb = s.fb := rfl
@[simp] theorem State.updGg_th (l : Nat) (f : Guard → Guard) : (s.updGg l f).th = s.th := rfl
@[simp] theorem State.updGg_lv (l : Nat) (f : Guard → Guard) : (s.updGg l f).lv = s.lv := rfl
@[simp] theorem State.updGg_flt (l : Nat) (f : Guard → Guard) : (s.updGg l f).flt = s.flt := rfl
@[simp] theorem State.updGg_sf (l : Nat) (f : Guard → Guard) : (s.updGg l f).sf = s.sf := rfl
@[simp] theorem State.updGg_acc (l : Nat) (f : Guard → Guard) : (s.updGg l f).acc = s.acc := rfl
@[simp] theorem State.updGg_clk (l : Nat) (f : Guard → Guard) : (s.updGg l f).clk = s.clk := rfl
@[simp] theorem State.updGg_pwr (l : Nat) (f : Guard → Guard) : (s.updGg l f).pwr = s.pwr := rfl
@[simp] theorem State.updGg_ret (l : Nat) (f : Guard → Guard) : (s.updGg l f).ret = s.ret := rfl
@[simp] theorem State.updGg_nor (l : Nat) (f : Guard → Guard) : (s.updGg l f).nor = s.nor := rfl
@[simp] theorem State.updGg_bist (l : Nat) (f : Guard → Guard) : (s.updGg l f).bist = s.bist := rfl
@[simp] theorem State.updGg_lanes (l : Nat) (f : Guard → Guard) : (s.updGg l f).lanes = s.lanes := rfl
@[simp] theorem State.updGg_tb (l : Nat) (f : Guard → Guard) : (s.updGg l f).tb = s.tb := rfl
@[simp] theorem State.updGg_ring (l : Nat) (f : Guard → Guard) : (s.updGg l f).ring = s.ring := rfl
@[simp] theorem State.updGg_mgr (l : Nat) (f : Guard → Guard) : (s.updGg l f).mgr = s.mgr := rfl
@[simp] theorem State.updGg_out (l : Nat) (f : Guard → Guard) : (s.updGg l f).out = s.out := rfl
@[simp] theorem State.updGg_free (l : Nat) (f : Guard → Guard) : (s.updGg l f).free = s.free := rfl
@[simp] theorem State.updGg_cellAt (l : Nat) (f : Guard → Guard) : (s.updGg l f).cellAt = s.cellAt := rfl
@[simp] theorem State.updGg_pending (l : Nat) (f : Guard → Guard) : (s.updGg l f).pending = s.pending := rfl
/-! `State.updCar` -/
@[simp] theorem State.updCar_now (k : Nat) (f : Carrier → Carrier) : (s.updCar k f).now = s.now := rfl
@[simp] theorem State.updCar_od (k : Nat) (f : Carrier → Carrier) : (s.updCar k f).od = s.od := rfl
@[simp] theorem State.updCar_legs (k : Nat) (f : Carrier → Carrier) : (s.updCar k f).legs = s.legs := rfl
@[simp] theorem State.updCar_gates (k : Nat) (f : Carrier → Carrier) : (s.updCar k f).gates = s.gates := rfl
@[simp] theorem State.updCar_cars (k : Nat) (f : Carrier → Carrier) : (s.updCar k f).cars = s.cars.modify k f := rfl
@[simp] theorem State.updCar_soon (k : Nat) (f : Carrier → Carrier) : (s.updCar k f).soon = s.soon := rfl
@[simp] theorem State.updCar_slots (k : Nat) (f : Carrier → Carrier) : (s.updCar k f).slots = s.slots := rfl
@[simp] theorem State.updCar_records (k : Nat) (f : Carrier → Carrier) : (s.updCar k f).records = s.records := rfl
@[simp] theorem State.updCar_stringTrips (k : Nat) (f : Carrier → Carrier) : (s.updCar k f).stringTrips = s.stringTrips := rfl
@[simp] theorem State.updCar_strings (k : Nat) (f : Carrier → Carrier) : (s.updCar k f).strings = s.strings := rfl
@[simp] theorem State.updCar_glideSteps (k : Nat) (f : Carrier → Carrier) : (s.updCar k f).glideSteps = s.glideSteps := rfl
@[simp] theorem State.updCar_strRecords (k : Nat) (f : Carrier → Carrier) : (s.updCar k f).strRecords = s.strRecords := rfl
@[simp] theorem State.updCar_mdats (k : Nat) (f : Carrier → Carrier) : (s.updCar k f).mdats = s.mdats := rfl
@[simp] theorem State.updCar_meas (k : Nat) (f : Carrier → Carrier) : (s.updCar k f).meas = s.meas := rfl
@[simp] theorem State.updCar_le (k : Nat) (f : Carrier → Carrier) : (s.updCar k f).le = s.le := rfl
@[simp] theorem State.updCar_fb (k : Nat) (f : Carrier → Carrier) : (s.updCar k f).fb = s.fb := rfl
@[simp] theorem State.updCar_th (k : Nat) (f : Carrier → Carrier) : (s.updCar k f).th = s.th := rfl
@[simp] theorem State.updCar_lv (k : Nat) (f : Carrier → Carrier) : (s.updCar k f).lv = s.lv := rfl
@[simp] theorem State.updCar_flt (k : Nat) (f : Carrier → Carrier) : (s.updCar k f).flt = s.flt := rfl
@[simp] theorem State.updCar_sf (k : Nat) (f : Carrier → Carrier) : (s.updCar k f).sf = s.sf := rfl
@[simp] theorem State.updCar_acc (k : Nat) (f : Carrier → Carrier) : (s.updCar k f).acc = s.acc := rfl
@[simp] theorem State.updCar_clk (k : Nat) (f : Carrier → Carrier) : (s.updCar k f).clk = s.clk := rfl
@[simp] theorem State.updCar_pwr (k : Nat) (f : Carrier → Carrier) : (s.updCar k f).pwr = s.pwr := rfl
@[simp] theorem State.updCar_ret (k : Nat) (f : Carrier → Carrier) : (s.updCar k f).ret = s.ret := rfl
@[simp] theorem State.updCar_nor (k : Nat) (f : Carrier → Carrier) : (s.updCar k f).nor = s.nor := rfl
@[simp] theorem State.updCar_bist (k : Nat) (f : Carrier → Carrier) : (s.updCar k f).bist = s.bist := rfl
@[simp] theorem State.updCar_lanes (k : Nat) (f : Carrier → Carrier) : (s.updCar k f).lanes = s.lanes := rfl
@[simp] theorem State.updCar_tb (k : Nat) (f : Carrier → Carrier) : (s.updCar k f).tb = s.tb := rfl
@[simp] theorem State.updCar_ring (k : Nat) (f : Carrier → Carrier) : (s.updCar k f).ring = s.ring := rfl
@[simp] theorem State.updCar_mgr (k : Nat) (f : Carrier → Carrier) : (s.updCar k f).mgr = s.mgr := rfl
@[simp] theorem State.updCar_out (k : Nat) (f : Carrier → Carrier) : (s.updCar k f).out = s.out := rfl
@[simp] theorem State.updCar_free (k : Nat) (f : Carrier → Carrier) : (s.updCar k f).free = s.free := rfl
@[simp] theorem State.updCar_cellAt (k : Nat) (f : Carrier → Carrier) : (s.updCar k f).cellAt = s.cellAt := rfl
@[simp] theorem State.updCar_pending (k : Nat) (f : Carrier → Carrier) : (s.updCar k f).pending = s.pending := rfl
/-! `State.updSlot` -/
@[simp] theorem State.updSlot_now (c : Nat) (f : Slot → Slot) : (s.updSlot c f).now = s.now := rfl
@[simp] theorem State.updSlot_od (c : Nat) (f : Slot → Slot) : (s.updSlot c f).od = s.od := rfl
@[simp] theorem State.updSlot_legs (c : Nat) (f : Slot → Slot) : (s.updSlot c f).legs = s.legs := rfl
@[simp] theorem State.updSlot_gates (c : Nat) (f : Slot → Slot) : (s.updSlot c f).gates = s.gates := rfl
@[simp] theorem State.updSlot_cars (c : Nat) (f : Slot → Slot) : (s.updSlot c f).cars = s.cars := rfl
@[simp] theorem State.updSlot_soon (c : Nat) (f : Slot → Slot) : (s.updSlot c f).soon = s.soon := rfl
@[simp] theorem State.updSlot_slots (c : Nat) (f : Slot → Slot) : (s.updSlot c f).slots = s.slots.modify c f := rfl
@[simp] theorem State.updSlot_records (c : Nat) (f : Slot → Slot) : (s.updSlot c f).records = s.records := rfl
@[simp] theorem State.updSlot_stringTrips (c : Nat) (f : Slot → Slot) : (s.updSlot c f).stringTrips = s.stringTrips := rfl
@[simp] theorem State.updSlot_strings (c : Nat) (f : Slot → Slot) : (s.updSlot c f).strings = s.strings := rfl
@[simp] theorem State.updSlot_glideSteps (c : Nat) (f : Slot → Slot) : (s.updSlot c f).glideSteps = s.glideSteps := rfl
@[simp] theorem State.updSlot_strRecords (c : Nat) (f : Slot → Slot) : (s.updSlot c f).strRecords = s.strRecords := rfl
@[simp] theorem State.updSlot_mdats (c : Nat) (f : Slot → Slot) : (s.updSlot c f).mdats = s.mdats := rfl
@[simp] theorem State.updSlot_meas (c : Nat) (f : Slot → Slot) : (s.updSlot c f).meas = s.meas := rfl
@[simp] theorem State.updSlot_le (c : Nat) (f : Slot → Slot) : (s.updSlot c f).le = s.le := rfl
@[simp] theorem State.updSlot_fb (c : Nat) (f : Slot → Slot) : (s.updSlot c f).fb = s.fb := rfl
@[simp] theorem State.updSlot_th (c : Nat) (f : Slot → Slot) : (s.updSlot c f).th = s.th := rfl
@[simp] theorem State.updSlot_lv (c : Nat) (f : Slot → Slot) : (s.updSlot c f).lv = s.lv := rfl
@[simp] theorem State.updSlot_flt (c : Nat) (f : Slot → Slot) : (s.updSlot c f).flt = s.flt := rfl
@[simp] theorem State.updSlot_sf (c : Nat) (f : Slot → Slot) : (s.updSlot c f).sf = s.sf := rfl
@[simp] theorem State.updSlot_acc (c : Nat) (f : Slot → Slot) : (s.updSlot c f).acc = s.acc := rfl
@[simp] theorem State.updSlot_clk (c : Nat) (f : Slot → Slot) : (s.updSlot c f).clk = s.clk := rfl
@[simp] theorem State.updSlot_pwr (c : Nat) (f : Slot → Slot) : (s.updSlot c f).pwr = s.pwr := rfl
@[simp] theorem State.updSlot_ret (c : Nat) (f : Slot → Slot) : (s.updSlot c f).ret = s.ret := rfl
@[simp] theorem State.updSlot_nor (c : Nat) (f : Slot → Slot) : (s.updSlot c f).nor = s.nor := rfl
@[simp] theorem State.updSlot_bist (c : Nat) (f : Slot → Slot) : (s.updSlot c f).bist = s.bist := rfl
@[simp] theorem State.updSlot_lanes (c : Nat) (f : Slot → Slot) : (s.updSlot c f).lanes = s.lanes := rfl
@[simp] theorem State.updSlot_tb (c : Nat) (f : Slot → Slot) : (s.updSlot c f).tb = s.tb := rfl
@[simp] theorem State.updSlot_ring (c : Nat) (f : Slot → Slot) : (s.updSlot c f).ring = s.ring := rfl
@[simp] theorem State.updSlot_mgr (c : Nat) (f : Slot → Slot) : (s.updSlot c f).mgr = s.mgr := rfl
@[simp] theorem State.updSlot_out (c : Nat) (f : Slot → Slot) : (s.updSlot c f).out = s.out := rfl
@[simp] theorem State.updSlot_free (c : Nat) (f : Slot → Slot) : (s.updSlot c f).free = s.free := rfl
@[simp] theorem State.updSlot_cellAt (c : Nat) (f : Slot → Slot) : (s.updSlot c f).cellAt = s.cellAt := rfl
@[simp] theorem State.updSlot_pending (c : Nat) (f : Slot → Slot) : (s.updSlot c f).pending = s.pending := rfl
/-! `State.updStr` -/
@[simp] theorem State.updStr_now (i : Nat) (f : StringSt → StringSt) : (s.updStr i f).now = s.now := rfl
@[simp] theorem State.updStr_od (i : Nat) (f : StringSt → StringSt) : (s.updStr i f).od = s.od := rfl
@[simp] theorem State.updStr_legs (i : Nat) (f : StringSt → StringSt) : (s.updStr i f).legs = s.legs := rfl
@[simp] theorem State.updStr_gates (i : Nat) (f : StringSt → StringSt) : (s.updStr i f).gates = s.gates := rfl
@[simp] theorem State.updStr_cars (i : Nat) (f : StringSt → StringSt) : (s.updStr i f).cars = s.cars := rfl
@[simp] theorem State.updStr_soon (i : Nat) (f : StringSt → StringSt) : (s.updStr i f).soon = s.soon := rfl
@[simp] theorem State.updStr_slots (i : Nat) (f : StringSt → StringSt) : (s.updStr i f).slots = s.slots := rfl
@[simp] theorem State.updStr_records (i : Nat) (f : StringSt → StringSt) : (s.updStr i f).records = s.records := rfl
@[simp] theorem State.updStr_stringTrips (i : Nat) (f : StringSt → StringSt) : (s.updStr i f).stringTrips = s.stringTrips := rfl
@[simp] theorem State.updStr_strings (i : Nat) (f : StringSt → StringSt) : (s.updStr i f).strings = s.strings.modify i f := rfl
@[simp] theorem State.updStr_glideSteps (i : Nat) (f : StringSt → StringSt) : (s.updStr i f).glideSteps = s.glideSteps := rfl
@[simp] theorem State.updStr_strRecords (i : Nat) (f : StringSt → StringSt) : (s.updStr i f).strRecords = s.strRecords := rfl
@[simp] theorem State.updStr_mdats (i : Nat) (f : StringSt → StringSt) : (s.updStr i f).mdats = s.mdats := rfl
@[simp] theorem State.updStr_meas (i : Nat) (f : StringSt → StringSt) : (s.updStr i f).meas = s.meas := rfl
@[simp] theorem State.updStr_le (i : Nat) (f : StringSt → StringSt) : (s.updStr i f).le = s.le := rfl
@[simp] theorem State.updStr_fb (i : Nat) (f : StringSt → StringSt) : (s.updStr i f).fb = s.fb := rfl
@[simp] theorem State.updStr_th (i : Nat) (f : StringSt → StringSt) : (s.updStr i f).th = s.th := rfl
@[simp] theorem State.updStr_lv (i : Nat) (f : StringSt → StringSt) : (s.updStr i f).lv = s.lv := rfl
@[simp] theorem State.updStr_flt (i : Nat) (f : StringSt → StringSt) : (s.updStr i f).flt = s.flt := rfl
@[simp] theorem State.updStr_sf (i : Nat) (f : StringSt → StringSt) : (s.updStr i f).sf = s.sf := rfl
@[simp] theorem State.updStr_acc (i : Nat) (f : StringSt → StringSt) : (s.updStr i f).acc = s.acc := rfl
@[simp] theorem State.updStr_clk (i : Nat) (f : StringSt → StringSt) : (s.updStr i f).clk = s.clk := rfl
@[simp] theorem State.updStr_pwr (i : Nat) (f : StringSt → StringSt) : (s.updStr i f).pwr = s.pwr := rfl
@[simp] theorem State.updStr_ret (i : Nat) (f : StringSt → StringSt) : (s.updStr i f).ret = s.ret := rfl
@[simp] theorem State.updStr_nor (i : Nat) (f : StringSt → StringSt) : (s.updStr i f).nor = s.nor := rfl
@[simp] theorem State.updStr_bist (i : Nat) (f : StringSt → StringSt) : (s.updStr i f).bist = s.bist := rfl
@[simp] theorem State.updStr_lanes (i : Nat) (f : StringSt → StringSt) : (s.updStr i f).lanes = s.lanes := rfl
@[simp] theorem State.updStr_tb (i : Nat) (f : StringSt → StringSt) : (s.updStr i f).tb = s.tb := rfl
@[simp] theorem State.updStr_ring (i : Nat) (f : StringSt → StringSt) : (s.updStr i f).ring = s.ring := rfl
@[simp] theorem State.updStr_mgr (i : Nat) (f : StringSt → StringSt) : (s.updStr i f).mgr = s.mgr := rfl
@[simp] theorem State.updStr_out (i : Nat) (f : StringSt → StringSt) : (s.updStr i f).out = s.out := rfl
@[simp] theorem State.updStr_free (i : Nat) (f : StringSt → StringSt) : (s.updStr i f).free = s.free := rfl
@[simp] theorem State.updStr_cellAt (i : Nat) (f : StringSt → StringSt) : (s.updStr i f).cellAt = s.cellAt := rfl
@[simp] theorem State.updStr_pending (i : Nat) (f : StringSt → StringSt) : (s.updStr i f).pending = s.pending := rfl
/-! `State.updMd` -/
@[simp] theorem State.updMd_now (m : Nat) (f : Mdat → Mdat) : (s.updMd m f).now = s.now := rfl
@[simp] theorem State.updMd_od (m : Nat) (f : Mdat → Mdat) : (s.updMd m f).od = s.od := rfl
@[simp] theorem State.updMd_legs (m : Nat) (f : Mdat → Mdat) : (s.updMd m f).legs = s.legs := rfl
@[simp] theorem State.updMd_gates (m : Nat) (f : Mdat → Mdat) : (s.updMd m f).gates = s.gates := rfl
@[simp] theorem State.updMd_cars (m : Nat) (f : Mdat → Mdat) : (s.updMd m f).cars = s.cars := rfl
@[simp] theorem State.updMd_soon (m : Nat) (f : Mdat → Mdat) : (s.updMd m f).soon = s.soon := rfl
@[simp] theorem State.updMd_slots (m : Nat) (f : Mdat → Mdat) : (s.updMd m f).slots = s.slots := rfl
@[simp] theorem State.updMd_records (m : Nat) (f : Mdat → Mdat) : (s.updMd m f).records = s.records := rfl
@[simp] theorem State.updMd_stringTrips (m : Nat) (f : Mdat → Mdat) : (s.updMd m f).stringTrips = s.stringTrips := rfl
@[simp] theorem State.updMd_strings (m : Nat) (f : Mdat → Mdat) : (s.updMd m f).strings = s.strings := rfl
@[simp] theorem State.updMd_glideSteps (m : Nat) (f : Mdat → Mdat) : (s.updMd m f).glideSteps = s.glideSteps := rfl
@[simp] theorem State.updMd_strRecords (m : Nat) (f : Mdat → Mdat) : (s.updMd m f).strRecords = s.strRecords := rfl
@[simp] theorem State.updMd_mdats (m : Nat) (f : Mdat → Mdat) : (s.updMd m f).mdats = s.mdats.modify m f := rfl
@[simp] theorem State.updMd_meas (m : Nat) (f : Mdat → Mdat) : (s.updMd m f).meas = s.meas := rfl
@[simp] theorem State.updMd_le (m : Nat) (f : Mdat → Mdat) : (s.updMd m f).le = s.le := rfl
@[simp] theorem State.updMd_fb (m : Nat) (f : Mdat → Mdat) : (s.updMd m f).fb = s.fb := rfl
@[simp] theorem State.updMd_th (m : Nat) (f : Mdat → Mdat) : (s.updMd m f).th = s.th := rfl
@[simp] theorem State.updMd_lv (m : Nat) (f : Mdat → Mdat) : (s.updMd m f).lv = s.lv := rfl
@[simp] theorem State.updMd_flt (m : Nat) (f : Mdat → Mdat) : (s.updMd m f).flt = s.flt := rfl
@[simp] theorem State.updMd_sf (m : Nat) (f : Mdat → Mdat) : (s.updMd m f).sf = s.sf := rfl
@[simp] theorem State.updMd_acc (m : Nat) (f : Mdat → Mdat) : (s.updMd m f).acc = s.acc := rfl
@[simp] theorem State.updMd_clk (m : Nat) (f : Mdat → Mdat) : (s.updMd m f).clk = s.clk := rfl
@[simp] theorem State.updMd_pwr (m : Nat) (f : Mdat → Mdat) : (s.updMd m f).pwr = s.pwr := rfl
@[simp] theorem State.updMd_ret (m : Nat) (f : Mdat → Mdat) : (s.updMd m f).ret = s.ret := rfl
@[simp] theorem State.updMd_nor (m : Nat) (f : Mdat → Mdat) : (s.updMd m f).nor = s.nor := rfl
@[simp] theorem State.updMd_bist (m : Nat) (f : Mdat → Mdat) : (s.updMd m f).bist = s.bist := rfl
@[simp] theorem State.updMd_lanes (m : Nat) (f : Mdat → Mdat) : (s.updMd m f).lanes = s.lanes := rfl
@[simp] theorem State.updMd_tb (m : Nat) (f : Mdat → Mdat) : (s.updMd m f).tb = s.tb := rfl
@[simp] theorem State.updMd_ring (m : Nat) (f : Mdat → Mdat) : (s.updMd m f).ring = s.ring := rfl
@[simp] theorem State.updMd_mgr (m : Nat) (f : Mdat → Mdat) : (s.updMd m f).mgr = s.mgr := rfl
@[simp] theorem State.updMd_out (m : Nat) (f : Mdat → Mdat) : (s.updMd m f).out = s.out := rfl
@[simp] theorem State.updMd_free (m : Nat) (f : Mdat → Mdat) : (s.updMd m f).free = s.free := rfl
@[simp] theorem State.updMd_cellAt (m : Nat) (f : Mdat → Mdat) : (s.updMd m f).cellAt = s.cellAt := rfl
@[simp] theorem State.updMd_pending (m : Nat) (f : Mdat → Mdat) : (s.updMd m f).pending = s.pending := rfl
/-! `State.updLs` -/
@[simp] theorem State.updLs_now (n : Nat) (f : LoopSlot → LoopSlot) : (s.updLs n f).now = s.now := rfl
@[simp] theorem State.updLs_od (n : Nat) (f : LoopSlot → LoopSlot) : (s.updLs n f).od = s.od := rfl
@[simp] theorem State.updLs_legs (n : Nat) (f : LoopSlot → LoopSlot) : (s.updLs n f).legs = s.legs := rfl
@[simp] theorem State.updLs_gates (n : Nat) (f : LoopSlot → LoopSlot) : (s.updLs n f).gates = s.gates := rfl
@[simp] theorem State.updLs_cars (n : Nat) (f : LoopSlot → LoopSlot) : (s.updLs n f).cars = s.cars := rfl
@[simp] theorem State.updLs_soon (n : Nat) (f : LoopSlot → LoopSlot) : (s.updLs n f).soon = s.soon := rfl
@[simp] theorem State.updLs_slots (n : Nat) (f : LoopSlot → LoopSlot) : (s.updLs n f).slots = s.slots := rfl
@[simp] theorem State.updLs_records (n : Nat) (f : LoopSlot → LoopSlot) : (s.updLs n f).records = s.records := rfl
@[simp] theorem State.updLs_stringTrips (n : Nat) (f : LoopSlot → LoopSlot) : (s.updLs n f).stringTrips = s.stringTrips := rfl
@[simp] theorem State.updLs_strings (n : Nat) (f : LoopSlot → LoopSlot) : (s.updLs n f).strings = s.strings := rfl
@[simp] theorem State.updLs_glideSteps (n : Nat) (f : LoopSlot → LoopSlot) : (s.updLs n f).glideSteps = s.glideSteps := rfl
@[simp] theorem State.updLs_strRecords (n : Nat) (f : LoopSlot → LoopSlot) : (s.updLs n f).strRecords = s.strRecords := rfl
@[simp] theorem State.updLs_mdats (n : Nat) (f : LoopSlot → LoopSlot) : (s.updLs n f).mdats = s.mdats := rfl
@[simp] theorem State.updLs_meas (n : Nat) (f : LoopSlot → LoopSlot) : (s.updLs n f).meas = s.meas := rfl
@[simp] theorem State.updLs_le (n : Nat) (f : LoopSlot → LoopSlot) : (s.updLs n f).le = { s.le with slots := s.le.slots.modify n f } := rfl
@[simp] theorem State.updLs_fb (n : Nat) (f : LoopSlot → LoopSlot) : (s.updLs n f).fb = s.fb := rfl
@[simp] theorem State.updLs_th (n : Nat) (f : LoopSlot → LoopSlot) : (s.updLs n f).th = s.th := rfl
@[simp] theorem State.updLs_lv (n : Nat) (f : LoopSlot → LoopSlot) : (s.updLs n f).lv = s.lv := rfl
@[simp] theorem State.updLs_flt (n : Nat) (f : LoopSlot → LoopSlot) : (s.updLs n f).flt = s.flt := rfl
@[simp] theorem State.updLs_sf (n : Nat) (f : LoopSlot → LoopSlot) : (s.updLs n f).sf = s.sf := rfl
@[simp] theorem State.updLs_acc (n : Nat) (f : LoopSlot → LoopSlot) : (s.updLs n f).acc = s.acc := rfl
@[simp] theorem State.updLs_clk (n : Nat) (f : LoopSlot → LoopSlot) : (s.updLs n f).clk = s.clk := rfl
@[simp] theorem State.updLs_pwr (n : Nat) (f : LoopSlot → LoopSlot) : (s.updLs n f).pwr = s.pwr := rfl
@[simp] theorem State.updLs_ret (n : Nat) (f : LoopSlot → LoopSlot) : (s.updLs n f).ret = s.ret := rfl
@[simp] theorem State.updLs_nor (n : Nat) (f : LoopSlot → LoopSlot) : (s.updLs n f).nor = s.nor := rfl
@[simp] theorem State.updLs_bist (n : Nat) (f : LoopSlot → LoopSlot) : (s.updLs n f).bist = s.bist := rfl
@[simp] theorem State.updLs_lanes (n : Nat) (f : LoopSlot → LoopSlot) : (s.updLs n f).lanes = s.lanes := rfl
@[simp] theorem State.updLs_tb (n : Nat) (f : LoopSlot → LoopSlot) : (s.updLs n f).tb = s.tb := rfl
@[simp] theorem State.updLs_ring (n : Nat) (f : LoopSlot → LoopSlot) : (s.updLs n f).ring = s.ring := rfl
@[simp] theorem State.updLs_mgr (n : Nat) (f : LoopSlot → LoopSlot) : (s.updLs n f).mgr = s.mgr := rfl
@[simp] theorem State.updLs_out (n : Nat) (f : LoopSlot → LoopSlot) : (s.updLs n f).out = s.out := rfl
@[simp] theorem State.updLs_free (n : Nat) (f : LoopSlot → LoopSlot) : (s.updLs n f).free = s.free := rfl
@[simp] theorem State.updLs_cellAt (n : Nat) (f : LoopSlot → LoopSlot) : (s.updLs n f).cellAt = s.cellAt := rfl
@[simp] theorem State.updLs_pending (n : Nat) (f : LoopSlot → LoopSlot) : (s.updLs n f).pending = s.pending := rfl
/-! `State.updLane` -/
@[simp] theorem State.updLane_now (n : Nat) (f : Lane → Lane) : (s.updLane n f).now = s.now := rfl
@[simp] theorem State.updLane_od (n : Nat) (f : Lane → Lane) : (s.updLane n f).od = s.od := rfl
@[simp] theorem State.updLane_legs (n : Nat) (f : Lane → Lane) : (s.updLane n f).legs = s.legs := rfl
@[simp] theorem State.updLane_gates (n : Nat) (f : Lane → Lane) : (s.updLane n f).gates = s.gates := rfl
@[simp] theorem State.updLane_cars (n : Nat) (f : Lane → Lane) : (s.updLane n f).cars = s.cars := rfl
@[simp] theorem State.updLane_soon (n : Nat) (f : Lane → Lane) : (s.updLane n f).soon = s.soon := rfl
@[simp] theorem State.updLane_slots (n : Nat) (f : Lane → Lane) : (s.updLane n f).slots = s.slots := rfl
@[simp] theorem State.updLane_records (n : Nat) (f : Lane → Lane) : (s.updLane n f).records = s.records := rfl
@[simp] theorem State.updLane_stringTrips (n : Nat) (f : Lane → Lane) : (s.updLane n f).stringTrips = s.stringTrips := rfl
@[simp] theorem State.updLane_strings (n : Nat) (f : Lane → Lane) : (s.updLane n f).strings = s.strings := rfl
@[simp] theorem State.updLane_glideSteps (n : Nat) (f : Lane → Lane) : (s.updLane n f).glideSteps = s.glideSteps := rfl
@[simp] theorem State.updLane_strRecords (n : Nat) (f : Lane → Lane) : (s.updLane n f).strRecords = s.strRecords := rfl
@[simp] theorem State.updLane_mdats (n : Nat) (f : Lane → Lane) : (s.updLane n f).mdats = s.mdats := rfl
@[simp] theorem State.updLane_meas (n : Nat) (f : Lane → Lane) : (s.updLane n f).meas = s.meas := rfl
@[simp] theorem State.updLane_le (n : Nat) (f : Lane → Lane) : (s.updLane n f).le = s.le := rfl
@[simp] theorem State.updLane_fb (n : Nat) (f : Lane → Lane) : (s.updLane n f).fb = s.fb := rfl
@[simp] theorem State.updLane_th (n : Nat) (f : Lane → Lane) : (s.updLane n f).th = s.th := rfl
@[simp] theorem State.updLane_lv (n : Nat) (f : Lane → Lane) : (s.updLane n f).lv = s.lv := rfl
@[simp] theorem State.updLane_flt (n : Nat) (f : Lane → Lane) : (s.updLane n f).flt = s.flt := rfl
@[simp] theorem State.updLane_sf (n : Nat) (f : Lane → Lane) : (s.updLane n f).sf = s.sf := rfl
@[simp] theorem State.updLane_acc (n : Nat) (f : Lane → Lane) : (s.updLane n f).acc = s.acc := rfl
@[simp] theorem State.updLane_clk (n : Nat) (f : Lane → Lane) : (s.updLane n f).clk = s.clk := rfl
@[simp] theorem State.updLane_pwr (n : Nat) (f : Lane → Lane) : (s.updLane n f).pwr = s.pwr := rfl
@[simp] theorem State.updLane_ret (n : Nat) (f : Lane → Lane) : (s.updLane n f).ret = s.ret := rfl
@[simp] theorem State.updLane_nor (n : Nat) (f : Lane → Lane) : (s.updLane n f).nor = s.nor := rfl
@[simp] theorem State.updLane_bist (n : Nat) (f : Lane → Lane) : (s.updLane n f).bist = s.bist := rfl
@[simp] theorem State.updLane_lanes (n : Nat) (f : Lane → Lane) : (s.updLane n f).lanes = s.lanes.modify n f := rfl
@[simp] theorem State.updLane_tb (n : Nat) (f : Lane → Lane) : (s.updLane n f).tb = s.tb := rfl
@[simp] theorem State.updLane_ring (n : Nat) (f : Lane → Lane) : (s.updLane n f).ring = s.ring := rfl
@[simp] theorem State.updLane_mgr (n : Nat) (f : Lane → Lane) : (s.updLane n f).mgr = s.mgr := rfl
@[simp] theorem State.updLane_out (n : Nat) (f : Lane → Lane) : (s.updLane n f).out = s.out := rfl
@[simp] theorem State.updLane_free (n : Nat) (f : Lane → Lane) : (s.updLane n f).free = s.free := rfl
@[simp] theorem State.updLane_cellAt (n : Nat) (f : Lane → Lane) : (s.updLane n f).cellAt = s.cellAt := rfl
@[simp] theorem State.updLane_pending (n : Nat) (f : Lane → Lane) : (s.updLane n f).pending = s.pending := rfl
/-! `State.updSf` -/
@[simp] theorem State.updSf_now (f : Safety → Safety) : (s.updSf f).now = s.now := rfl
@[simp] theorem State.updSf_od (f : Safety → Safety) : (s.updSf f).od = s.od := rfl
@[simp] theorem State.updSf_legs (f : Safety → Safety) : (s.updSf f).legs = s.legs := rfl
@[simp] theorem State.updSf_gates (f : Safety → Safety) : (s.updSf f).gates = s.gates := rfl
@[simp] theorem State.updSf_cars (f : Safety → Safety) : (s.updSf f).cars = s.cars := rfl
@[simp] theorem State.updSf_soon (f : Safety → Safety) : (s.updSf f).soon = s.soon := rfl
@[simp] theorem State.updSf_slots (f : Safety → Safety) : (s.updSf f).slots = s.slots := rfl
@[simp] theorem State.updSf_records (f : Safety → Safety) : (s.updSf f).records = s.records := rfl
@[simp] theorem State.updSf_stringTrips (f : Safety → Safety) : (s.updSf f).stringTrips = s.stringTrips := rfl
@[simp] theorem State.updSf_strings (f : Safety → Safety) : (s.updSf f).strings = s.strings := rfl
@[simp] theorem State.updSf_glideSteps (f : Safety → Safety) : (s.updSf f).glideSteps = s.glideSteps := rfl
@[simp] theorem State.updSf_strRecords (f : Safety → Safety) : (s.updSf f).strRecords = s.strRecords := rfl
@[simp] theorem State.updSf_mdats (f : Safety → Safety) : (s.updSf f).mdats = s.mdats := rfl
@[simp] theorem State.updSf_meas (f : Safety → Safety) : (s.updSf f).meas = s.meas := rfl
@[simp] theorem State.updSf_le (f : Safety → Safety) : (s.updSf f).le = s.le := rfl
@[simp] theorem State.updSf_fb (f : Safety → Safety) : (s.updSf f).fb = s.fb := rfl
@[simp] theorem State.updSf_th (f : Safety → Safety) : (s.updSf f).th = s.th := rfl
@[simp] theorem State.updSf_lv (f : Safety → Safety) : (s.updSf f).lv = s.lv := rfl
@[simp] theorem State.updSf_flt (f : Safety → Safety) : (s.updSf f).flt = s.flt := rfl
@[simp] theorem State.updSf_sf (f : Safety → Safety) : (s.updSf f).sf = f s.sf := rfl
@[simp] theorem State.updSf_acc (f : Safety → Safety) : (s.updSf f).acc = s.acc := rfl
@[simp] theorem State.updSf_clk (f : Safety → Safety) : (s.updSf f).clk = s.clk := rfl
@[simp] theorem State.updSf_pwr (f : Safety → Safety) : (s.updSf f).pwr = s.pwr := rfl
@[simp] theorem State.updSf_ret (f : Safety → Safety) : (s.updSf f).ret = s.ret := rfl
@[simp] theorem State.updSf_nor (f : Safety → Safety) : (s.updSf f).nor = s.nor := rfl
@[simp] theorem State.updSf_bist (f : Safety → Safety) : (s.updSf f).bist = s.bist := rfl
@[simp] theorem State.updSf_lanes (f : Safety → Safety) : (s.updSf f).lanes = s.lanes := rfl
@[simp] theorem State.updSf_tb (f : Safety → Safety) : (s.updSf f).tb = s.tb := rfl
@[simp] theorem State.updSf_ring (f : Safety → Safety) : (s.updSf f).ring = s.ring := rfl
@[simp] theorem State.updSf_mgr (f : Safety → Safety) : (s.updSf f).mgr = s.mgr := rfl
@[simp] theorem State.updSf_out (f : Safety → Safety) : (s.updSf f).out = s.out := rfl
@[simp] theorem State.updSf_free (f : Safety → Safety) : (s.updSf f).free = s.free := rfl
@[simp] theorem State.updSf_cellAt (f : Safety → Safety) : (s.updSf f).cellAt = s.cellAt := rfl
@[simp] theorem State.updSf_pending (f : Safety → Safety) : (s.updSf f).pending = s.pending := rfl
/-! `State.updClk` -/
@[simp] theorem State.updClk_now (f : Clocks → Clocks) : (s.updClk f).now = s.now := rfl
@[simp] theorem State.updClk_od (f : Clocks → Clocks) : (s.updClk f).od = s.od := rfl
@[simp] theorem State.updClk_legs (f : Clocks → Clocks) : (s.updClk f).legs = s.legs := rfl
@[simp] theorem State.updClk_gates (f : Clocks → Clocks) : (s.updClk f).gates = s.gates := rfl
@[simp] theorem State.updClk_cars (f : Clocks → Clocks) : (s.updClk f).cars = s.cars := rfl
@[simp] theorem State.updClk_soon (f : Clocks → Clocks) : (s.updClk f).soon = s.soon := rfl
@[simp] theorem State.updClk_slots (f : Clocks → Clocks) : (s.updClk f).slots = s.slots := rfl
@[simp] theorem State.updClk_records (f : Clocks → Clocks) : (s.updClk f).records = s.records := rfl
@[simp] theorem State.updClk_stringTrips (f : Clocks → Clocks) : (s.updClk f).stringTrips = s.stringTrips := rfl
@[simp] theorem State.updClk_strings (f : Clocks → Clocks) : (s.updClk f).strings = s.strings := rfl
@[simp] theorem State.updClk_glideSteps (f : Clocks → Clocks) : (s.updClk f).glideSteps = s.glideSteps := rfl
@[simp] theorem State.updClk_strRecords (f : Clocks → Clocks) : (s.updClk f).strRecords = s.strRecords := rfl
@[simp] theorem State.updClk_mdats (f : Clocks → Clocks) : (s.updClk f).mdats = s.mdats := rfl
@[simp] theorem State.updClk_meas (f : Clocks → Clocks) : (s.updClk f).meas = s.meas := rfl
@[simp] theorem State.updClk_le (f : Clocks → Clocks) : (s.updClk f).le = s.le := rfl
@[simp] theorem State.updClk_fb (f : Clocks → Clocks) : (s.updClk f).fb = s.fb := rfl
@[simp] theorem State.updClk_th (f : Clocks → Clocks) : (s.updClk f).th = s.th := rfl
@[simp] theorem State.updClk_lv (f : Clocks → Clocks) : (s.updClk f).lv = s.lv := rfl
@[simp] theorem State.updClk_flt (f : Clocks → Clocks) : (s.updClk f).flt = s.flt := rfl
@[simp] theorem State.updClk_sf (f : Clocks → Clocks) : (s.updClk f).sf = s.sf := rfl
@[simp] theorem State.updClk_acc (f : Clocks → Clocks) : (s.updClk f).acc = s.acc := rfl
@[simp] theorem State.updClk_clk (f : Clocks → Clocks) : (s.updClk f).clk = f s.clk := rfl
@[simp] theorem State.updClk_pwr (f : Clocks → Clocks) : (s.updClk f).pwr = s.pwr := rfl
@[simp] theorem State.updClk_ret (f : Clocks → Clocks) : (s.updClk f).ret = s.ret := rfl
@[simp] theorem State.updClk_nor (f : Clocks → Clocks) : (s.updClk f).nor = s.nor := rfl
@[simp] theorem State.updClk_bist (f : Clocks → Clocks) : (s.updClk f).bist = s.bist := rfl
@[simp] theorem State.updClk_lanes (f : Clocks → Clocks) : (s.updClk f).lanes = s.lanes := rfl
@[simp] theorem State.updClk_tb (f : Clocks → Clocks) : (s.updClk f).tb = s.tb := rfl
@[simp] theorem State.updClk_ring (f : Clocks → Clocks) : (s.updClk f).ring = s.ring := rfl
@[simp] theorem State.updClk_mgr (f : Clocks → Clocks) : (s.updClk f).mgr = s.mgr := rfl
@[simp] theorem State.updClk_out (f : Clocks → Clocks) : (s.updClk f).out = s.out := rfl
@[simp] theorem State.updClk_free (f : Clocks → Clocks) : (s.updClk f).free = s.free := rfl
@[simp] theorem State.updClk_cellAt (f : Clocks → Clocks) : (s.updClk f).cellAt = s.cellAt := rfl
@[simp] theorem State.updClk_pending (f : Clocks → Clocks) : (s.updClk f).pending = s.pending := rfl
/-! `State.updPwr` -/
@[simp] theorem State.updPwr_now (f : Power → Power) : (s.updPwr f).now = s.now := rfl
@[simp] theorem State.updPwr_od (f : Power → Power) : (s.updPwr f).od = s.od := rfl
@[simp] theorem State.updPwr_legs (f : Power → Power) : (s.updPwr f).legs = s.legs := rfl
@[simp] theorem State.updPwr_gates (f : Power → Power) : (s.updPwr f).gates = s.gates := rfl
@[simp] theorem State.updPwr_cars (f : Power → Power) : (s.updPwr f).cars = s.cars := rfl
@[simp] theorem State.updPwr_soon (f : Power → Power) : (s.updPwr f).soon = s.soon := rfl
@[simp] theorem State.updPwr_slots (f : Power → Power) : (s.updPwr f).slots = s.slots := rfl
@[simp] theorem State.updPwr_records (f : Power → Power) : (s.updPwr f).records = s.records := rfl
@[simp] theorem State.updPwr_stringTrips (f : Power → Power) : (s.updPwr f).stringTrips = s.stringTrips := rfl
@[simp] theorem State.updPwr_strings (f : Power → Power) : (s.updPwr f).strings = s.strings := rfl
@[simp] theorem State.updPwr_glideSteps (f : Power → Power) : (s.updPwr f).glideSteps = s.glideSteps := rfl
@[simp] theorem State.updPwr_strRecords (f : Power → Power) : (s.updPwr f).strRecords = s.strRecords := rfl
@[simp] theorem State.updPwr_mdats (f : Power → Power) : (s.updPwr f).mdats = s.mdats := rfl
@[simp] theorem State.updPwr_meas (f : Power → Power) : (s.updPwr f).meas = s.meas := rfl
@[simp] theorem State.updPwr_le (f : Power → Power) : (s.updPwr f).le = s.le := rfl
@[simp] theorem State.updPwr_fb (f : Power → Power) : (s.updPwr f).fb = s.fb := rfl
@[simp] theorem State.updPwr_th (f : Power → Power) : (s.updPwr f).th = s.th := rfl
@[simp] theorem State.updPwr_lv (f : Power → Power) : (s.updPwr f).lv = s.lv := rfl
@[simp] theorem State.updPwr_flt (f : Power → Power) : (s.updPwr f).flt = s.flt := rfl
@[simp] theorem State.updPwr_sf (f : Power → Power) : (s.updPwr f).sf = s.sf := rfl
@[simp] theorem State.updPwr_acc (f : Power → Power) : (s.updPwr f).acc = s.acc := rfl
@[simp] theorem State.updPwr_clk (f : Power → Power) : (s.updPwr f).clk = s.clk := rfl
@[simp] theorem State.updPwr_pwr (f : Power → Power) : (s.updPwr f).pwr = f s.pwr := rfl
@[simp] theorem State.updPwr_ret (f : Power → Power) : (s.updPwr f).ret = s.ret := rfl
@[simp] theorem State.updPwr_nor (f : Power → Power) : (s.updPwr f).nor = s.nor := rfl
@[simp] theorem State.updPwr_bist (f : Power → Power) : (s.updPwr f).bist = s.bist := rfl
@[simp] theorem State.updPwr_lanes (f : Power → Power) : (s.updPwr f).lanes = s.lanes := rfl
@[simp] theorem State.updPwr_tb (f : Power → Power) : (s.updPwr f).tb = s.tb := rfl
@[simp] theorem State.updPwr_ring (f : Power → Power) : (s.updPwr f).ring = s.ring := rfl
@[simp] theorem State.updPwr_mgr (f : Power → Power) : (s.updPwr f).mgr = s.mgr := rfl
@[simp] theorem State.updPwr_out (f : Power → Power) : (s.updPwr f).out = s.out := rfl
@[simp] theorem State.updPwr_free (f : Power → Power) : (s.updPwr f).free = s.free := rfl
@[simp] theorem State.updPwr_cellAt (f : Power → Power) : (s.updPwr f).cellAt = s.cellAt := rfl
@[simp] theorem State.updPwr_pending (f : Power → Power) : (s.updPwr f).pending = s.pending := rfl
/-! `State.updNor` -/
@[simp] theorem State.updNor_now (f : Stores → Stores) : (s.updNor f).now = s.now := rfl
@[simp] theorem State.updNor_od (f : Stores → Stores) : (s.updNor f).od = s.od := rfl
@[simp] theorem State.updNor_legs (f : Stores → Stores) : (s.updNor f).legs = s.legs := rfl
@[simp] theorem State.updNor_gates (f : Stores → Stores) : (s.updNor f).gates = s.gates := rfl
@[simp] theorem State.updNor_cars (f : Stores → Stores) : (s.updNor f).cars = s.cars := rfl
@[simp] theorem State.updNor_soon (f : Stores → Stores) : (s.updNor f).soon = s.soon := rfl
@[simp] theorem State.updNor_slots (f : Stores → Stores) : (s.updNor f).slots = s.slots := rfl
@[simp] theorem State.updNor_records (f : Stores → Stores) : (s.updNor f).records = s.records := rfl
@[simp] theorem State.updNor_stringTrips (f : Stores → Stores) : (s.updNor f).stringTrips = s.stringTrips := rfl
@[simp] theorem State.updNor_strings (f : Stores → Stores) : (s.updNor f).strings = s.strings := rfl
@[simp] theorem State.updNor_glideSteps (f : Stores → Stores) : (s.updNor f).glideSteps = s.glideSteps := rfl
@[simp] theorem State.updNor_strRecords (f : Stores → Stores) : (s.updNor f).strRecords = s.strRecords := rfl
@[simp] theorem State.updNor_mdats (f : Stores → Stores) : (s.updNor f).mdats = s.mdats := rfl
@[simp] theorem State.updNor_meas (f : Stores → Stores) : (s.updNor f).meas = s.meas := rfl
@[simp] theorem State.updNor_le (f : Stores → Stores) : (s.updNor f).le = s.le := rfl
@[simp] theorem State.updNor_fb (f : Stores → Stores) : (s.updNor f).fb = s.fb := rfl
@[simp] theorem State.updNor_th (f : Stores → Stores) : (s.updNor f).th = s.th := rfl
@[simp] theorem State.updNor_lv (f : Stores → Stores) : (s.updNor f).lv = s.lv := rfl
@[simp] theorem State.updNor_flt (f : Stores → Stores) : (s.updNor f).flt = s.flt := rfl
@[simp] theorem State.updNor_sf (f : Stores → Stores) : (s.updNor f).sf = s.sf := rfl
@[simp] theorem State.updNor_acc (f : Stores → Stores) : (s.updNor f).acc = s.acc := rfl
@[simp] theorem State.updNor_clk (f : Stores → Stores) : (s.updNor f).clk = s.clk := rfl
@[simp] theorem State.updNor_pwr (f : Stores → Stores) : (s.updNor f).pwr = s.pwr := rfl
@[simp] theorem State.updNor_ret (f : Stores → Stores) : (s.updNor f).ret = s.ret := rfl
@[simp] theorem State.updNor_nor (f : Stores → Stores) : (s.updNor f).nor = f s.nor := rfl
@[simp] theorem State.updNor_bist (f : Stores → Stores) : (s.updNor f).bist = s.bist := rfl
@[simp] theorem State.updNor_lanes (f : Stores → Stores) : (s.updNor f).lanes = s.lanes := rfl
@[simp] theorem State.updNor_tb (f : Stores → Stores) : (s.updNor f).tb = s.tb := rfl
@[simp] theorem State.updNor_ring (f : Stores → Stores) : (s.updNor f).ring = s.ring := rfl
@[simp] theorem State.updNor_mgr (f : Stores → Stores) : (s.updNor f).mgr = s.mgr := rfl
@[simp] theorem State.updNor_out (f : Stores → Stores) : (s.updNor f).out = s.out := rfl
@[simp] theorem State.updNor_free (f : Stores → Stores) : (s.updNor f).free = s.free := rfl
@[simp] theorem State.updNor_cellAt (f : Stores → Stores) : (s.updNor f).cellAt = s.cellAt := rfl
@[simp] theorem State.updNor_pending (f : Stores → Stores) : (s.updNor f).pending = s.pending := rfl
/-! `State.updAcc` -/
@[simp] theorem State.updAcc_now (f : Access → Access) : (s.updAcc f).now = s.now := rfl
@[simp] theorem State.updAcc_od (f : Access → Access) : (s.updAcc f).od = s.od := rfl
@[simp] theorem State.updAcc_legs (f : Access → Access) : (s.updAcc f).legs = s.legs := rfl
@[simp] theorem State.updAcc_gates (f : Access → Access) : (s.updAcc f).gates = s.gates := rfl
@[simp] theorem State.updAcc_cars (f : Access → Access) : (s.updAcc f).cars = s.cars := rfl
@[simp] theorem State.updAcc_soon (f : Access → Access) : (s.updAcc f).soon = s.soon := rfl
@[simp] theorem State.updAcc_slots (f : Access → Access) : (s.updAcc f).slots = s.slots := rfl
@[simp] theorem State.updAcc_records (f : Access → Access) : (s.updAcc f).records = s.records := rfl
@[simp] theorem State.updAcc_stringTrips (f : Access → Access) : (s.updAcc f).stringTrips = s.stringTrips := rfl
@[simp] theorem State.updAcc_strings (f : Access → Access) : (s.updAcc f).strings = s.strings := rfl
@[simp] theorem State.updAcc_glideSteps (f : Access → Access) : (s.updAcc f).glideSteps = s.glideSteps := rfl
@[simp] theorem State.updAcc_strRecords (f : Access → Access) : (s.updAcc f).strRecords = s.strRecords := rfl
@[simp] theorem State.updAcc_mdats (f : Access → Access) : (s.updAcc f).mdats = s.mdats := rfl
@[simp] theorem State.updAcc_meas (f : Access → Access) : (s.updAcc f).meas = s.meas := rfl
@[simp] theorem State.updAcc_le (f : Access → Access) : (s.updAcc f).le = s.le := rfl
@[simp] theorem State.updAcc_fb (f : Access → Access) : (s.updAcc f).fb = s.fb := rfl
@[simp] theorem State.updAcc_th (f : Access → Access) : (s.updAcc f).th = s.th := rfl
@[simp] theorem State.updAcc_lv (f : Access → Access) : (s.updAcc f).lv = s.lv := rfl
@[simp] theorem State.updAcc_flt (f : Access → Access) : (s.updAcc f).flt = s.flt := rfl
@[simp] theorem State.updAcc_sf (f : Access → Access) : (s.updAcc f).sf = s.sf := rfl
@[simp] theorem State.updAcc_acc (f : Access → Access) : (s.updAcc f).acc = f s.acc := rfl
@[simp] theorem State.updAcc_clk (f : Access → Access) : (s.updAcc f).clk = s.clk := rfl
@[simp] theorem State.updAcc_pwr (f : Access → Access) : (s.updAcc f).pwr = s.pwr := rfl
@[simp] theorem State.updAcc_ret (f : Access → Access) : (s.updAcc f).ret = s.ret := rfl
@[simp] theorem State.updAcc_nor (f : Access → Access) : (s.updAcc f).nor = s.nor := rfl
@[simp] theorem State.updAcc_bist (f : Access → Access) : (s.updAcc f).bist = s.bist := rfl
@[simp] theorem State.updAcc_lanes (f : Access → Access) : (s.updAcc f).lanes = s.lanes := rfl
@[simp] theorem State.updAcc_tb (f : Access → Access) : (s.updAcc f).tb = s.tb := rfl
@[simp] theorem State.updAcc_ring (f : Access → Access) : (s.updAcc f).ring = s.ring := rfl
@[simp] theorem State.updAcc_mgr (f : Access → Access) : (s.updAcc f).mgr = s.mgr := rfl
@[simp] theorem State.updAcc_out (f : Access → Access) : (s.updAcc f).out = s.out := rfl
@[simp] theorem State.updAcc_free (f : Access → Access) : (s.updAcc f).free = s.free := rfl
@[simp] theorem State.updAcc_cellAt (f : Access → Access) : (s.updAcc f).cellAt = s.cellAt := rfl
@[simp] theorem State.updAcc_pending (f : Access → Access) : (s.updAcc f).pending = s.pending := rfl
/-! `State.updRing` -/
@[simp] theorem State.updRing_now (f : Ring → Ring) : (s.updRing f).now = s.now := rfl
@[simp] theorem State.updRing_od (f : Ring → Ring) : (s.updRing f).od = s.od := rfl
@[simp] theorem State.updRing_legs (f : Ring → Ring) : (s.updRing f).legs = s.legs := rfl
@[simp] theorem State.updRing_gates (f : Ring → Ring) : (s.updRing f).gates = s.gates := rfl
@[simp] theorem State.updRing_cars (f : Ring → Ring) : (s.updRing f).cars = s.cars := rfl
@[simp] theorem State.updRing_soon (f : Ring → Ring) : (s.updRing f).soon = s.soon := rfl
@[simp] theorem State.updRing_slots (f : Ring → Ring) : (s.updRing f).slots = s.slots := rfl
@[simp] theorem State.updRing_records (f : Ring → Ring) : (s.updRing f).records = s.records := rfl
@[simp] theorem State.updRing_stringTrips (f : Ring → Ring) : (s.updRing f).stringTrips = s.stringTrips := rfl
@[simp] theorem State.updRing_strings (f : Ring → Ring) : (s.updRing f).strings = s.strings := rfl
@[simp] theorem State.updRing_glideSteps (f : Ring → Ring) : (s.updRing f).glideSteps = s.glideSteps := rfl
@[simp] theorem State.updRing_strRecords (f : Ring → Ring) : (s.updRing f).strRecords = s.strRecords := rfl
@[simp] theorem State.updRing_mdats (f : Ring → Ring) : (s.updRing f).mdats = s.mdats := rfl
@[simp] theorem State.updRing_meas (f : Ring → Ring) : (s.updRing f).meas = s.meas := rfl
@[simp] theorem State.updRing_le (f : Ring → Ring) : (s.updRing f).le = s.le := rfl
@[simp] theorem State.updRing_fb (f : Ring → Ring) : (s.updRing f).fb = s.fb := rfl
@[simp] theorem State.updRing_th (f : Ring → Ring) : (s.updRing f).th = s.th := rfl
@[simp] theorem State.updRing_lv (f : Ring → Ring) : (s.updRing f).lv = s.lv := rfl
@[simp] theorem State.updRing_flt (f : Ring → Ring) : (s.updRing f).flt = s.flt := rfl
@[simp] theorem State.updRing_sf (f : Ring → Ring) : (s.updRing f).sf = s.sf := rfl
@[simp] theorem State.updRing_acc (f : Ring → Ring) : (s.updRing f).acc = s.acc := rfl
@[simp] theorem State.updRing_clk (f : Ring → Ring) : (s.updRing f).clk = s.clk := rfl
@[simp] theorem State.updRing_pwr (f : Ring → Ring) : (s.updRing f).pwr = s.pwr := rfl
@[simp] theorem State.updRing_ret (f : Ring → Ring) : (s.updRing f).ret = s.ret := rfl
@[simp] theorem State.updRing_nor (f : Ring → Ring) : (s.updRing f).nor = s.nor := rfl
@[simp] theorem State.updRing_bist (f : Ring → Ring) : (s.updRing f).bist = s.bist := rfl
@[simp] theorem State.updRing_lanes (f : Ring → Ring) : (s.updRing f).lanes = s.lanes := rfl
@[simp] theorem State.updRing_tb (f : Ring → Ring) : (s.updRing f).tb = s.tb := rfl
@[simp] theorem State.updRing_ring (f : Ring → Ring) : (s.updRing f).ring = f s.ring := rfl
@[simp] theorem State.updRing_mgr (f : Ring → Ring) : (s.updRing f).mgr = s.mgr := rfl
@[simp] theorem State.updRing_out (f : Ring → Ring) : (s.updRing f).out = s.out := rfl
@[simp] theorem State.updRing_free (f : Ring → Ring) : (s.updRing f).free = s.free := rfl
@[simp] theorem State.updRing_cellAt (f : Ring → Ring) : (s.updRing f).cellAt = s.cellAt := rfl
@[simp] theorem State.updRing_pending (f : Ring → Ring) : (s.updRing f).pending = s.pending := rfl
/-! `State.updMgr` -/
@[simp] theorem State.updMgr_now (f : Mgr → Mgr) : (s.updMgr f).now = s.now := rfl
@[simp] theorem State.updMgr_od (f : Mgr → Mgr) : (s.updMgr f).od = s.od := rfl
@[simp] theorem State.updMgr_legs (f : Mgr → Mgr) : (s.updMgr f).legs = s.legs := rfl
@[simp] theorem State.updMgr_gates (f : Mgr → Mgr) : (s.updMgr f).gates = s.gates := rfl
@[simp] theorem State.updMgr_cars (f : Mgr → Mgr) : (s.updMgr f).cars = s.cars := rfl
@[simp] theorem State.updMgr_soon (f : Mgr → Mgr) : (s.updMgr f).soon = s.soon := rfl
@[simp] theorem State.updMgr_slots (f : Mgr → Mgr) : (s.updMgr f).slots = s.slots := rfl
@[simp] theorem State.updMgr_records (f : Mgr → Mgr) : (s.updMgr f).records = s.records := rfl
@[simp] theorem State.updMgr_stringTrips (f : Mgr → Mgr) : (s.updMgr f).stringTrips = s.stringTrips := rfl
@[simp] theorem State.updMgr_strings (f : Mgr → Mgr) : (s.updMgr f).strings = s.strings := rfl
@[simp] theorem State.updMgr_glideSteps (f : Mgr → Mgr) : (s.updMgr f).glideSteps = s.glideSteps := rfl
@[simp] theorem State.updMgr_strRecords (f : Mgr → Mgr) : (s.updMgr f).strRecords = s.strRecords := rfl
@[simp] theorem State.updMgr_mdats (f : Mgr → Mgr) : (s.updMgr f).mdats = s.mdats := rfl
@[simp] theorem State.updMgr_meas (f : Mgr → Mgr) : (s.updMgr f).meas = s.meas := rfl
@[simp] theorem State.updMgr_le (f : Mgr → Mgr) : (s.updMgr f).le = s.le := rfl
@[simp] theorem State.updMgr_fb (f : Mgr → Mgr) : (s.updMgr f).fb = s.fb := rfl
@[simp] theorem State.updMgr_th (f : Mgr → Mgr) : (s.updMgr f).th = s.th := rfl
@[simp] theorem State.updMgr_lv (f : Mgr → Mgr) : (s.updMgr f).lv = s.lv := rfl
@[simp] theorem State.updMgr_flt (f : Mgr → Mgr) : (s.updMgr f).flt = s.flt := rfl
@[simp] theorem State.updMgr_sf (f : Mgr → Mgr) : (s.updMgr f).sf = s.sf := rfl
@[simp] theorem State.updMgr_acc (f : Mgr → Mgr) : (s.updMgr f).acc = s.acc := rfl
@[simp] theorem State.updMgr_clk (f : Mgr → Mgr) : (s.updMgr f).clk = s.clk := rfl
@[simp] theorem State.updMgr_pwr (f : Mgr → Mgr) : (s.updMgr f).pwr = s.pwr := rfl
@[simp] theorem State.updMgr_ret (f : Mgr → Mgr) : (s.updMgr f).ret = s.ret := rfl
@[simp] theorem State.updMgr_nor (f : Mgr → Mgr) : (s.updMgr f).nor = s.nor := rfl
@[simp] theorem State.updMgr_bist (f : Mgr → Mgr) : (s.updMgr f).bist = s.bist := rfl
@[simp] theorem State.updMgr_lanes (f : Mgr → Mgr) : (s.updMgr f).lanes = s.lanes := rfl
@[simp] theorem State.updMgr_tb (f : Mgr → Mgr) : (s.updMgr f).tb = s.tb := rfl
@[simp] theorem State.updMgr_ring (f : Mgr → Mgr) : (s.updMgr f).ring = s.ring := rfl
@[simp] theorem State.updMgr_mgr (f : Mgr → Mgr) : (s.updMgr f).mgr = f s.mgr := rfl
@[simp] theorem State.updMgr_out (f : Mgr → Mgr) : (s.updMgr f).out = s.out := rfl
@[simp] theorem State.updMgr_free (f : Mgr → Mgr) : (s.updMgr f).free = s.free := rfl
@[simp] theorem State.updMgr_cellAt (f : Mgr → Mgr) : (s.updMgr f).cellAt = s.cellAt := rfl
@[simp] theorem State.updMgr_pending (f : Mgr → Mgr) : (s.updMgr f).pending = s.pending := rfl
/-! `State.updTb` -/
@[simp] theorem State.updTb_now (f : TimeBase → TimeBase) : (s.updTb f).now = s.now := rfl
@[simp] theorem State.updTb_od (f : TimeBase → TimeBase) : (s.updTb f).od = s.od := rfl
@[simp] theorem State.updTb_legs (f : TimeBase → TimeBase) : (s.updTb f).legs = s.legs := rfl
@[simp] theorem State.updTb_gates (f : TimeBase → TimeBase) : (s.updTb f).gates = s.gates := rfl
@[simp] theorem State.updTb_cars (f : TimeBase → TimeBase) : (s.updTb f).cars = s.cars := rfl
@[simp] theorem State.updTb_soon (f : TimeBase → TimeBase) : (s.updTb f).soon = s.soon := rfl
@[simp] theorem State.updTb_slots (f : TimeBase → TimeBase) : (s.updTb f).slots = s.slots := rfl
@[simp] theorem State.updTb_records (f : TimeBase → TimeBase) : (s.updTb f).records = s.records := rfl
@[simp] theorem State.updTb_stringTrips (f : TimeBase → TimeBase) : (s.updTb f).stringTrips = s.stringTrips := rfl
@[simp] theorem State.updTb_strings (f : TimeBase → TimeBase) : (s.updTb f).strings = s.strings := rfl
@[simp] theorem State.updTb_glideSteps (f : TimeBase → TimeBase) : (s.updTb f).glideSteps = s.glideSteps := rfl
@[simp] theorem State.updTb_strRecords (f : TimeBase → TimeBase) : (s.updTb f).strRecords = s.strRecords := rfl
@[simp] theorem State.updTb_mdats (f : TimeBase → TimeBase) : (s.updTb f).mdats = s.mdats := rfl
@[simp] theorem State.updTb_meas (f : TimeBase → TimeBase) : (s.updTb f).meas = s.meas := rfl
@[simp] theorem State.updTb_le (f : TimeBase → TimeBase) : (s.updTb f).le = s.le := rfl
@[simp] theorem State.updTb_fb (f : TimeBase → TimeBase) : (s.updTb f).fb = s.fb := rfl
@[simp] theorem State.updTb_th (f : TimeBase → TimeBase) : (s.updTb f).th = s.th := rfl
@[simp] theorem State.updTb_lv (f : TimeBase → TimeBase) : (s.updTb f).lv = s.lv := rfl
@[simp] theorem State.updTb_flt (f : TimeBase → TimeBase) : (s.updTb f).flt = s.flt := rfl
@[simp] theorem State.updTb_sf (f : TimeBase → TimeBase) : (s.updTb f).sf = s.sf := rfl
@[simp] theorem State.updTb_acc (f : TimeBase → TimeBase) : (s.updTb f).acc = s.acc := rfl
@[simp] theorem State.updTb_clk (f : TimeBase → TimeBase) : (s.updTb f).clk = s.clk := rfl
@[simp] theorem State.updTb_pwr (f : TimeBase → TimeBase) : (s.updTb f).pwr = s.pwr := rfl
@[simp] theorem State.updTb_ret (f : TimeBase → TimeBase) : (s.updTb f).ret = s.ret := rfl
@[simp] theorem State.updTb_nor (f : TimeBase → TimeBase) : (s.updTb f).nor = s.nor := rfl
@[simp] theorem State.updTb_bist (f : TimeBase → TimeBase) : (s.updTb f).bist = s.bist := rfl
@[simp] theorem State.updTb_lanes (f : TimeBase → TimeBase) : (s.updTb f).lanes = s.lanes := rfl
@[simp] theorem State.updTb_tb (f : TimeBase → TimeBase) : (s.updTb f).tb = f s.tb := rfl
@[simp] theorem State.updTb_ring (f : TimeBase → TimeBase) : (s.updTb f).ring = s.ring := rfl
@[simp] theorem State.updTb_mgr (f : TimeBase → TimeBase) : (s.updTb f).mgr = s.mgr := rfl
@[simp] theorem State.updTb_out (f : TimeBase → TimeBase) : (s.updTb f).out = s.out := rfl
@[simp] theorem State.updTb_free (f : TimeBase → TimeBase) : (s.updTb f).free = s.free := rfl
@[simp] theorem State.updTb_cellAt (f : TimeBase → TimeBase) : (s.updTb f).cellAt = s.cellAt := rfl
@[simp] theorem State.updTb_pending (f : TimeBase → TimeBase) : (s.updTb f).pending = s.pending := rfl
/-! `State.updBist` -/
@[simp] theorem State.updBist_now (f : Bist → Bist) : (s.updBist f).now = s.now := rfl
@[simp] theorem State.updBist_od (f : Bist → Bist) : (s.updBist f).od = s.od := rfl
@[simp] theorem State.updBist_legs (f : Bist → Bist) : (s.updBist f).legs = s.legs := rfl
@[simp] theorem State.updBist_gates (f : Bist → Bist) : (s.updBist f).gates = s.gates := rfl
@[simp] theorem State.updBist_cars (f : Bist → Bist) : (s.updBist f).cars = s.cars := rfl
@[simp] theorem State.updBist_soon (f : Bist → Bist) : (s.updBist f).soon = s.soon := rfl
@[simp] theorem State.updBist_slots (f : Bist → Bist) : (s.updBist f).slots = s.slots := rfl
@[simp] theorem State.updBist_records (f : Bist → Bist) : (s.updBist f).records = s.records := rfl
@[simp] theorem State.updBist_stringTrips (f : Bist → Bist) : (s.updBist f).stringTrips = s.stringTrips := rfl
@[simp] theorem State.updBist_strings (f : Bist → Bist) : (s.updBist f).strings = s.strings := rfl
@[simp] theorem State.updBist_glideSteps (f : Bist → Bist) : (s.updBist f).glideSteps = s.glideSteps := rfl
@[simp] theorem State.updBist_strRecords (f : Bist → Bist) : (s.updBist f).strRecords = s.strRecords := rfl
@[simp] theorem State.updBist_mdats (f : Bist → Bist) : (s.updBist f).mdats = s.mdats := rfl
@[simp] theorem State.updBist_meas (f : Bist → Bist) : (s.updBist f).meas = s.meas := rfl
@[simp] theorem State.updBist_le (f : Bist → Bist) : (s.updBist f).le = s.le := rfl
@[simp] theorem State.updBist_fb (f : Bist → Bist) : (s.updBist f).fb = s.fb := rfl
@[simp] theorem State.updBist_th (f : Bist → Bist) : (s.updBist f).th = s.th := rfl
@[simp] theorem State.updBist_lv (f : Bist → Bist) : (s.updBist f).lv = s.lv := rfl
@[simp] theorem State.updBist_flt (f : Bist → Bist) : (s.updBist f).flt = s.flt := rfl
@[simp] theorem State.updBist_sf (f : Bist → Bist) : (s.updBist f).sf = s.sf := rfl
@[simp] theorem State.updBist_acc (f : Bist → Bist) : (s.updBist f).acc = s.acc := rfl
@[simp] theorem State.updBist_clk (f : Bist → Bist) : (s.updBist f).clk = s.clk := rfl
@[simp] theorem State.updBist_pwr (f : Bist → Bist) : (s.updBist f).pwr = s.pwr := rfl
@[simp] theorem State.updBist_ret (f : Bist → Bist) : (s.updBist f).ret = s.ret := rfl
@[simp] theorem State.updBist_nor (f : Bist → Bist) : (s.updBist f).nor = s.nor := rfl
@[simp] theorem State.updBist_bist (f : Bist → Bist) : (s.updBist f).bist = f s.bist := rfl
@[simp] theorem State.updBist_lanes (f : Bist → Bist) : (s.updBist f).lanes = s.lanes := rfl
@[simp] theorem State.updBist_tb (f : Bist → Bist) : (s.updBist f).tb = s.tb := rfl
@[simp] theorem State.updBist_ring (f : Bist → Bist) : (s.updBist f).ring = s.ring := rfl
@[simp] theorem State.updBist_mgr (f : Bist → Bist) : (s.updBist f).mgr = s.mgr := rfl
@[simp] theorem State.updBist_out (f : Bist → Bist) : (s.updBist f).out = s.out := rfl
@[simp] theorem State.updBist_free (f : Bist → Bist) : (s.updBist f).free = s.free := rfl
@[simp] theorem State.updBist_cellAt (f : Bist → Bist) : (s.updBist f).cellAt = s.cellAt := rfl
@[simp] theorem State.updBist_pending (f : Bist → Bist) : (s.updBist f).pending = s.pending := rfl
/-! `State.updFlt` -/
@[simp] theorem State.updFlt_now (f : Faults → Faults) : (s.updFlt f).now = s.now := rfl
@[simp] theorem State.updFlt_od (f : Faults → Faults) : (s.updFlt f).od = s.od := rfl
@[simp] theorem State.updFlt_legs (f : Faults → Faults) : (s.updFlt f).legs = s.legs := rfl
@[simp] theorem State.updFlt_gates (f : Faults → Faults) : (s.updFlt f).gates = s.gates := rfl
@[simp] theorem State.updFlt_cars (f : Faults → Faults) : (s.updFlt f).cars = s.cars := rfl
@[simp] theorem State.updFlt_soon (f : Faults → Faults) : (s.updFlt f).soon = s.soon := rfl
@[simp] theorem State.updFlt_slots (f : Faults → Faults) : (s.updFlt f).slots = s.slots := rfl
@[simp] theorem State.updFlt_records (f : Faults → Faults) : (s.updFlt f).records = s.records := rfl
@[simp] theorem State.updFlt_stringTrips (f : Faults → Faults) : (s.updFlt f).stringTrips = s.stringTrips := rfl
@[simp] theorem State.updFlt_strings (f : Faults → Faults) : (s.updFlt f).strings = s.strings := rfl
@[simp] theorem State.updFlt_glideSteps (f : Faults → Faults) : (s.updFlt f).glideSteps = s.glideSteps := rfl
@[simp] theorem State.updFlt_strRecords (f : Faults → Faults) : (s.updFlt f).strRecords = s.strRecords := rfl
@[simp] theorem State.updFlt_mdats (f : Faults → Faults) : (s.updFlt f).mdats = s.mdats := rfl
@[simp] theorem State.updFlt_meas (f : Faults → Faults) : (s.updFlt f).meas = s.meas := rfl
@[simp] theorem State.updFlt_le (f : Faults → Faults) : (s.updFlt f).le = s.le := rfl
@[simp] theorem State.updFlt_fb (f : Faults → Faults) : (s.updFlt f).fb = s.fb := rfl
@[simp] theorem State.updFlt_th (f : Faults → Faults) : (s.updFlt f).th = s.th := rfl
@[simp] theorem State.updFlt_lv (f : Faults → Faults) : (s.updFlt f).lv = s.lv := rfl
@[simp] theorem State.updFlt_flt (f : Faults → Faults) : (s.updFlt f).flt = f s.flt := rfl
@[simp] theorem State.updFlt_sf (f : Faults → Faults) : (s.updFlt f).sf = s.sf := rfl
@[simp] theorem State.updFlt_acc (f : Faults → Faults) : (s.updFlt f).acc = s.acc := rfl
@[simp] theorem State.updFlt_clk (f : Faults → Faults) : (s.updFlt f).clk = s.clk := rfl
@[simp] theorem State.updFlt_pwr (f : Faults → Faults) : (s.updFlt f).pwr = s.pwr := rfl
@[simp] theorem State.updFlt_ret (f : Faults → Faults) : (s.updFlt f).ret = s.ret := rfl
@[simp] theorem State.updFlt_nor (f : Faults → Faults) : (s.updFlt f).nor = s.nor := rfl
@[simp] theorem State.updFlt_bist (f : Faults → Faults) : (s.updFlt f).bist = s.bist := rfl
@[simp] theorem State.updFlt_lanes (f : Faults → Faults) : (s.updFlt f).lanes = s.lanes := rfl
@[simp] theorem State.updFlt_tb (f : Faults → Faults) : (s.updFlt f).tb = s.tb := rfl
@[simp] theorem State.updFlt_ring (f : Faults → Faults) : (s.updFlt f).ring = s.ring := rfl
@[simp] theorem State.updFlt_mgr (f : Faults → Faults) : (s.updFlt f).mgr = s.mgr := rfl
@[simp] theorem State.updFlt_out (f : Faults → Faults) : (s.updFlt f).out = s.out := rfl
@[simp] theorem State.updFlt_free (f : Faults → Faults) : (s.updFlt f).free = s.free := rfl
@[simp] theorem State.updFlt_cellAt (f : Faults → Faults) : (s.updFlt f).cellAt = s.cellAt := rfl
@[simp] theorem State.updFlt_pending (f : Faults → Faults) : (s.updFlt f).pending = s.pending := rfl

/-- A read after time has passed. -/
@[simp] theorem State.at_rd (t : Nat) (r : Reg) : (s.at_ t).rd r = s.rd r := rfl

end Sys2Proof.Machine
end

