-- ==== Sys2Proof/Tests/Slice0.lean ====
section
/-! SUPPORT. Checks of this model: what WellFormed refuses, a few steps on small states, and for every statement of
Certificates/Slice0/Obligations.lean states and operands that meet its hypotheses. -/

set_option Elab.async false

namespace Sys2Proof.Tests
open Sys2Proof.Machine

/-- A device after its boot: every domain is on. -/
def on : State :=
  { State.reset with pwr := { doms := List.replicate 10 .on, stage := .ready }, ring := { nodeId := 5 }
                     clk := { State.reset.clk with src := .pll, sysLock := true, pwmMissing := false, pwmGated := false } }

/-- A request of the host SPI port's master to this device. -/
def spi : Req := { t := 0, path := .spi, who := 0, tag := 7, node := 5, isLocal := true, proto := 1 }

/-- C3 as T3x2 with every unit in the given state and every carrier running. -/
def slot3 (u : UState) : State :=
  ({ on with slots := on.slots.set 3 { units := List.replicate 6 { st := u } }
             cars := on.cars.map fun k => { k with st := .running } } : State).wr (Od.SLOT_TEMPLATE 3) 3

/-- A loop program of one MUL block, with the trailer of an image that owner key 1 signs. -/
def mulImage : List Byte :=
  [1, 0, 1, 0, 0, 0, 0, 0, 1, 1, 0, 0, 12, 0, 0, 0, 2, 2, 0, 0, 0, 0, 0, 0, 0, 0x30, 0, 0x30, 0x47, 0x53, 2, 1] ++ List.replicate 128 0
def mulProg : LProg := { nIn := 1, nOut := 1, blocks := [⟨2, 0, 0, 0, [0x3000, 0x3000]⟩], coef := [], state := [], image := mulImage }

/-- Loop slot 5 in the given state with that program, released at each valley of K3. -/
def loop5 (t : LsState) (run : Option LRun) : State :=
  let s : State := { on with le := { on.le with slots := on.le.slots.set 5 { st := t, prog := some mulProg, pipe := some 0, run := run } }
                             cars := on.cars.set 3 { st := .running }
                             nor := { on.nor with fuses := { on.nor.fuses with ownerCtrl := 1 } } }
  ((s.wr (Od.LS_RELEASE 5) 0x10D).wr (Od.LS_DL_CAR 5) 3).wr (Od.LS_IN_TIMEOUT 5) 1000

end Sys2Proof.Tests

namespace Sys2Proof.Tests
open Sys2Proof.Machine

/-! ### What WellFormed refuses, one ill-formed command for each check -/

theorem test_wf_accepts : (Instr.hello spi 0).wf = true ∧ (Instr.odWrite spi 0x3800 1 [1]).wf = true := by decide
theorem test_wf_tag : (Instr.hello { spi with tag := 256 } 0).wf = false := by decide
theorem test_wf_node : (Instr.hello { spi with node := 1024 } 0).wf = false := by decide
theorem test_wf_proto : (Instr.hello { spi with proto := 16 } 0).wf = false := by decide
theorem test_wf_sender_spi : (Instr.hello { spi with who := 1 } 0).wf = false := by decide
theorem test_wf_sender_can : (Instr.hello { spi with path := .can, who := 2048 } 0).wf = false := by decide
theorem test_wf_sender_ring : (Instr.hello { spi with path := .ring, who := 1024 } 0).wf = false := by decide
theorem test_wf_sender_eth : (Instr.hello { spi with path := .eth, who := 2 ^ 48 } 0).wf = false := by decide
theorem test_wf_can_frame : (Instr.odWrite { spi with path := .can } 0x1000 1 (List.replicate 49 0)).wf = false := by decide
theorem test_wf_len (d : List Byte) (h : d.length = 65536) : spi.carries d = false := by simp [Req.carries, h]
theorem test_wf_image (img : List Byte) (h : img.length = 2 ^ 32) : (Instr.fwImageWrite spi img).wf = false := by
  simp [Instr.wf, imageOk, h]
theorem test_wf_payload (d : List Byte) (h : d.length = 2049) : (Instr.odResponseRx 0 1 d).wf = false := by
  simp [Instr.wf, payloadOk, h]
theorem test_wf_peak_source : (Instr.pklCut 0x61 [] 0 0).wf = false ∧ (Instr.pklCut 0 [] 0 0).wf = false ∧ (Instr.pklCut 0x90 [] 0 0).wf = false ∧
    (Instr.pklCut 0x8F [] 0 0).wf = true := by decide
theorem test_wf_parity : (Instr.pwmParityError 0 true 64).wf = false ∧ (Instr.pwmParityError 0 false 191).wf = true := by decide
theorem test_wf_streams : (Instr.mdTrip 0 0 []).wf = false ∧ (Instr.sarConversionDone []).wf = false := by decide
theorem test_wf_samples : (Instr.scAmpBad 0 []).wf = false ∧ (Instr.scAmpGood 0 []).wf = false := by decide
theorem test_wf_safe_index : (Instr.safeWrite spi 0x37FF 1 [1]).wf = false ∧ (Instr.safeWrite spi 0x3830 1 [1]).wf = false := by decide
theorem test_wf_telegram : (Instr.safeTelegramRx 3 0 (List.replicate 31 0)).wf = false := by decide
theorem test_wf_module : (Instr.sfpModuleDetect 0 0 (List.replicate 63 0)).wf = false ∧ (Instr.laneDdmRead 0 0 (List.replicate 9 0)).wf = false := by
  decide
theorem test_wf_blocks : (Instr.lanePpmMeasure 0 0 3 2 4 0).wf = false ∧ (Instr.prbsLock 0 0 4 5).wf = false := by decide
theorem test_wf_log_interval : (Instr.ptpSyncRx 0 0 0 0 128).wf = false ∧ (Instr.ptpSyncRx 0 0 0 0 (-129)).wf = false := by decide
theorem test_wf_porst_core : (Instr.porstN 0 ⟨5, 6⟩).wf = false ∧ (Instr.porstN 0 ⟨us 60, 0⟩).wf = true ∧
    (Instr.porstN 0 ⟨us 1060, us 60⟩).wf = true := by decide
theorem test_wf_records : (Found.mk 1 3 0 0 0).wf = false ∧ (Window.mk 0 0 0 5 5).wf = false ∧ (Member.mk 0 32 false 0).wf = false := by decide
theorem test_wf_report : (StrReport.mk 65536 0 [] 0 0 0 0 0 0 [] true).wf = false ∧ (StrReport.mk 1 0 [] 0 0 0 0 0 0 [] true).wf = true := by
  decide
theorem test_wf_roll : (Instr.rollCallCommit 0 ⟨false, [], 0, 0, 0, 0, 0, 0, [], [], [], [], 1024, []⟩).wf = false := by decide
theorem test_wf_spi_frame (d : List Byte) (h : d.length = 65554) : (Instr.writeReq 0 d true).wf = false := by simp [Instr.wf, h]

/-! ### No row gives bits -/

theorem test_no_word_decodes : decodeTableWord 8 1 = none ∧ State.reset.withFetchWord 8 1 = State.reset := by
  refine ⟨rfl, rfl⟩
theorem test_reset_queue : State.reset.pending = [] := rfl

end Sys2Proof.Tests

namespace Sys2Proof.Tests
open Sys2Proof.Machine

theorem test_StepRunsFrontCommand : ({ on with pending := [.faultIntake, .cellCycleBoundary] } : State).pending = .faultIntake :: [.cellCycleBoundary] := by decide +kernel

theorem test_IdleStepPassesTime : on.pending = [] := by decide +kernel

theorem test_StepKeepsStateSound : on.sound = true ∧ step on = .next { on with now := 500 } := ⟨by decide +kernel, rfl⟩

theorem test_StepKeepsGatesInterlocked : on.interlocked = true ∧ step on = .next { on with now := 500 } := ⟨by decide +kernel, rfl⟩

theorem test_OnlyGateReleaseRaisesAGate :
    ∃ t, exec .almSumPeriod { on with gates := on.gates.set 3 { gl := true, stoLow := false } } = .next t ∧
      t.gates[3]? = some { gl := true, stoLow := false } := by
  exact ⟨_, rfl, by decide +kernel⟩

theorem test_FusesAreOnlyProgrammedFurther : ∃ t, exec .almSumPeriod on = .next t := by exact ⟨_, rfl⟩

theorem test_SlotCommandActsOrWaits_stop : let s := slot3 .active
    s.serves spi 0x2103 3 = true ∧ (s.slot 3).cmd = none ∧ s.cmdOk 3 .stop (s.named 3 1) = true := by decide +kernel
theorem test_SlotCommandActsOrWaits_start : let s := slot3 .stopped
    s.serves spi 0x2103 3 = true ∧ (s.slot 3).cmd = none ∧ s.cmdOk 3 .start (s.named 3 1) = true ∧
      ∀ k ∈ s.cmdCars 3 ⟨.start, 1, 0⟩, (s.car k).st = .running := by decide +kernel
theorem test_SlotCommandActsOrWaits_clear : let s := slot3 .faulted
    s.serves spi 0x2103 3 = true ∧ (s.slot 3).cmd = none ∧ s.cmdOk 3 .clear (s.named 3 1) = true := by decide +kernel

theorem test_SlotCommandIsRefused : let s := slot3 .stopped
    s.serves spi 0x2103 3 = true ∧ (s.slot 3).cmd = none ∧ s.cmdOk 3 .stop (s.named 3 1) = false ∧ tmplUnits (s.tmpl 3) = 2 ∧
      ((s.updSlot 3 fun t => { t with cmd := some ⟨.start, 1, 0⟩ }).slot 3).cmd ≠ none := by decide +kernel

theorem test_TemplateBindingAndAllStop : let s := slot3 .stopped
    s.serves spi 0x2103 1 = true ∧ (s.slot 3).cmd = none ∧ (∀ u ∈ s.units 3, s.ust 3 u = .stopped ∧ ((s.slot 3).unit u).seq = none) ∧
      s.serves spi 0x2103 0x11 = true ∧ 1 < tmplUnits (s.tmpl 3) ∧ s.serves spi 0x2000 4 = true := by decide +kernel
theorem test_SafeOffStepTakesLegsLow : let s := slot3 .active
    s.runs = true ∧ s.seqSteps 3 0 ⟨.stop, 0, 0, 0⟩ = [0, 1, 2] :: [] ∧ s.seqSteps 3 0 ⟨.safeOff, 0, 1, 0⟩ = [0, 1, 2] :: [] ∧
      (s.wr (Od.SLOT_TEMPLATE 3) 1).seqSteps 3 0 ⟨.safeOff, 0, 1, 0⟩ = [2, 3] :: [[4, 5], [0, 1]] := by decide +kernel

theorem test_CarrierRunAndCommitWrites : let s := on.wr (Od.CAR_START_TIME 3) (2 ^ 48)
    s.serves spi 0x2303 8 = true ∧ s.carString 3 = none ∧ (s.car 3).st = .stopped ∧
      s.sysNow + sysUs 10 ≤ timeOf (s.rd (Od.CAR_START_TIME 3)) ∧ s.rd (Od.CAR_PERIOD 3) = 5000 ∧ s.pwmOff = false ∧
      (∀ l < 192, s.carOf l = 3 → (s.leg l).enabled = false) ∧ s.startPends 3 = false ∧ s.autoMode 3 = false ∧
      s.serves spi 0x2303 5 = true ∧ (s.noteLate 3).heldBack 3 = false := by decide +kernel

theorem test_CarrierStartsCountsAndHalts :
    let s (st : CarState) (n : Nat) : State := { on with cars := on.cars.set 3 { st := st, refN := n } }
    on.runs = true ∧ ((s .armed 0).car 3).st = .armed ∧ (s .armed 0).pwmOff = false ∧
      ((s .running 0).car 3).counts = true ∧ ((s .running 0).car 3).refN = 0 ∧
      ((s .stopping 5000).car 3).counts = true ∧ ((s .stopping 5000).car 3).refN ≠ 0 := by decide +kernel

theorem test_LegOwnPeakValleyAndEdge :
    let s : State := { on with cars := on.cars.set 3 { st := .running }, legs := on.legs.set 7 { cNow := 100 } }
    let s := s.wr (Od.LEG_CARRIER 7) 3
    s.runs = true ∧ (s.car (s.carOf 7)).counts = true ∧ 0 < (s.leg 7).cNow ∧ (s.leg 7).cNow < (s.car (s.carOf 7)).p := by
  decide +kernel

theorem test_CompareCommandIsCentredOnTheValley :
    let s : State := { on with cars := on.cars.set 3 { st := .running }, legs := on.legs.set 7 { cNow := 5000 } }
    let s := s.wr (Od.LEG_CARRIER 7) 3
    (s.car (s.carOf 7)).counts = true ∧ 0 < (s.car (s.carOf 7)).p ∧ (s.leg 7).phiNow ≤ 2 * (s.car (s.carOf 7)).p ∧
      (s.leg 7).cNow = (s.car (s.carOf 7)).p ∧ (s.leg 8).cNow = 0 := by decide +kernel

theorem test_ForceWritesTakeEffectOrWait : let s : State := { on with legs := on.legs.set 7 { enabled := true } }
    s.serves spi 0x2207 0x16 = true ∧ s.strForce 7 = false ∧ s.drvHolds 7 = false ∧ (s.leg 7).enabled = true ∧
      (s.leg 8).enabled = false := by decide +kernel

theorem test_CutsRefreshesParityAndClockLoss :
    let s : State := { on with legs := on.legs.set 7 { enabled := true, boot := some 5 } }
    let s := ((s.wr (Od.LEG_PKL_SRC 7) 3).wr (Od.MD_CTRL 2) 1).wr (Od.MD_PKL_HI 2) 1
    let r := (s.mdPublish 2 (List.replicate 64 true)).compareMd 2 (s.mdFast 2 (List.replicate 64 true))
    s.runs = true ∧ (s.leg 7).boot = some 5 ∧ ((List.range 192).filter fun l => (s.leg l).enabled) = [7] ∧ s.mdOn 2 = true ∧
      r.rd (Od.LEG_PKL_SRC 7) = 3 ∧ (r.leg 7).enabled = true ∧ r.pklLines 7 ≠ (false, false) := by decide +kernel

/-- Leg 7 with GH requested, both gates low, on a device whose safety configuration runs and holds nothing. -/
def free7 : State :=
  { on with gates := on.gates.set 7 { ghReq := true, stoLow := false }, sf := { on.sf with phold := 0, st := .run, pinA := { hw := false }, pinB := { hw := false } } }
theorem test_GateRisesAtItsRelease : let s := free7
    s.runs = true ∧ ((s.gg 7).ghReq && !(s.gg 7).gh) = true ∧ (s.gg 7).gl = false ∧ s.gateFree 7 = true ∧
      (s.gg 7).fkQuiet = true ∧ s.bootHold 7 = false := by decide +kernel

theorem test_NoGateRisesBeforeDtMin : let s := free7
    128 * s.dtMin 7 ≤ (s.gg 7).dR ∧ s.dtMin 7 ≤ s.dtMax 7 ∧ 0 < s.tclk ∧
      (match exec (.gateRelease 7 true) s with | .next t => (t.gg 7).gh | _ => false) = true := by decide +kernel

theorem test_NodeCaptureMissAndDeadTimeWrites :
    let s : State := { free7 with gates := free7.gates.set 8 { confirm := some (5, true) } }
    s.runs = true ∧ (s.gg 8).confirm = some (5, true) ∧ s.serves spi 0x2207 1 = true ∧ s.serves spi 0x2207 6 = true ∧
      admits 0x2207 1 (leBytes 2 10) = true ∧ admits 0x2207 6 (leBytes 2 1) = true ∧ (s.leg 7).enabled = false ∧
      (s.wr (Od.LEG_DT_MIN 7) 10).dtMin 7 ≤ s.rd (Od.LEG_DT_INIT 7) ∧ s.rd (Od.LEG_DT_INIT 7) ≤ s.dtMax 7 ∧
      (({ s with legs := s.legs.set 7 { enabled := true } } : State).leg 7).enabled = true := by decide +kernel

theorem test_ShortCircuitInputFilter :
    let s (g : Guard) : State := { slot3 .active with gates := on.gates.set 20 { g with stoLow := false }
                                                      sf := { on.sf with phold := 0, pinA := { hw := false }, pinB := { hw := false } } }
    (s {}).runs = true ∧ ((s {}).gg 20).fkPin = false ∧ (s {}).legUnit 20 = some 0 ∧ (s {}).legLive 20 = true ∧
      ((s { fk := .deglitch 3 }).gg 20).fk = .deglitch 3 ∧ ((s { fk := .idle }).gg 20).fk = .idle ∧
      ((s { fk := .held 3, blank := some 0 }).gg 20).fk = .held 3 ∧ ((s { blank := some 0 }).gg 20).blank.isSome = true ∧
      ((s { pumpWait := some 3 }).gg 20).pumpWait = some 3 ∧ ({ on with pwr := { on.pwr with sleep := true } } : State).runs = false ∧
      (slot3 .stopped).legLive 20 = false ∧ ((slot3 .stopped).gg 20).fk ≠ .idle := by decide +kernel

theorem test_SafeOffAndStringTripRecords :
    let s := on.wr (Od.STR_ID 3) 0x17
    s.runs = true ∧ s.strById 0x17 = [3] ∧ s.strById 0x18 = [] ∧
      ({ s with records := [⟨3, 1, 2, 0, false⟩] } : State).records = ⟨3, 1, 2, 0, false⟩ :: [] := by decide +kernel
theorem test_StoPinsActOnTheirGroup : on.runs = true ∧
    ({ on with pwr := { on.pwr with held := true } } : State).runs = false := by decide +kernel

theorem test_ModulatorInputsWriteAndWatch :
    let s : State := { on with mdats := on.mdats.set 4 { viol := [9], clkBad := true, fillFast := true, fillCtrl := true } }
    let s := (s.wr (Od.MD_CTRL 4) 1).wr Od.MEAS_MCLK_EN 1
    s.serves spi 0x2804 1 = true ∧ admits 0x2804 1 (leBytes 2 1) = true ∧ s.slotStopped 1 = true ∧ (slot3 .active).slotStopped 3 = false ∧
      (s.rd Od.MEAS_MCLK_EN).testBit (4 / 16) = true ∧ s.runs = true ∧ s.mdOn 4 = true ∧ (s.md 4).viol = 9 :: [] ∧
      (s.md 4).clkBad = true ∧ s.rd (Od.MD_RUN_MAX 4) < 60000 ∧ (s.md 4).runOn = false ∧ s.measFallback = false ∧
      (({ s with mdats := s.mdats.set 4 { runOn := true } } : State).md 4).runOn = true ∧ (s.md 4).fillFast = true ∧
      (s.md 4).fillCtrl = true ∧ s.serves spi 0x2804 0x0D = true ∧ admits 0x2804 0x0D (leBytes 1 1) = true := by decide +kernel

theorem test_ModulatorTripsAndControlOutputs :
    let f : Firing := { seq := 0, ts := 5, chan := 4, dst := 0, slice := 0xFF, avg := 1, quiet := 0, qpre := 0, qpost := 0, predict := 0, skipMax := 0 }
    let s : State := { on with mdats := on.mdats.set 5 { trip := true }
                               meas := { on.meas with trgs := on.meas.trgs.set 9 { pend := some f }, mdFir := [⟨9, f, 5, 9, true⟩] } }
    let s := ((s.wr (Od.MD_CTRL 4) 1).wr (Od.MD_TRIP_HI 4) 1).wr (Od.MD_TRIP_DGL 4) 2
    let ones := List.replicate 64 true
    s.runs = true ∧ s.mdOn 4 = true ∧ (s.md 4).trip = false ∧ (s.mdThr 4 (Od.MD_TRIP_DGL 4) false).toNat = 2 ∧
      s.mdBeyond 4 (s.mdFast 4 ones) = true ∧ s.mdBeyond 4 (s.mdFast 4 (ones.take 63)) = true ∧ (s.md 5).trip = true ∧
      s.mdBeyond 5 (s.mdFast 5 (List.replicate 64 false ++ ones)) = false ∧ s.nextFiring = some (9, f) ∧
      s.nextMd = some ⟨9, f, 5, 9, true⟩ := by decide +kernel

theorem test_ConverterResultsAndStreamEstimates :
    let f : Firing := { seq := 0, ts := 5, chan := 0x61, dst := 0, slice := 0xFF, avg := 1, quiet := 0, qpre := 0, qpost := 0, predict := 0, skipMax := 0 }
    let c : Conv := { te := 9, f := f, slice := 0, first := 5, hold := none, due := 300000 }
    let s : State := { on with meas := { on.meas with convs := [c], slices := on.meas.slices.set 2 { streamFrom := some 7, gated := 400000 } } }
    s.runs = true ∧ s.nextConv = some c ∧ (s.slice (3 / 2 * 2)).streamFrom = some 7 ∧ s.measFallback = false ∧
      20 * 2 ^ s.rd (Od.SLICE_MU 2) ≤ (s.slice 2).gated := by decide +kernel

theorem test_ResultQueue :
    let e : QEntry := { value := 0, raw := 0, chan := 0, src := 0, st := 0, time := 0, trig := 4, seq := 0, count := 1, dst := 0xFF }
    let s : State := { on with meas := { on.meas with flight := [(7, e)], queue := [(3, { e with dst := 0 }), (5, e)] } }
    s.runs = true ∧ s.nextResult = some (7, e) ∧
      takeFirst (fun e => e.dst = 0xFF) s.meas.queue = some ((5, e), [(3, { e with dst := 0 })]) ∧
      s.serves spi 0x2A00 4 = true ∧ s.serves spi 0x2A00 9 = true := by decide +kernel

/-- A signature can only be shown to verify under the assumption that it does: Config.ed448 is not open to evaluation. -/
theorem test_LoopSlotLoads (h : ∀ k pub m sig, Config.ed448 k pub m sig = true) : let s := loop5 .loaded none
    s.serves spi 0x3006 3 = true ∧ (s.ls 6).st = .empty ∧ s.sigOk mulImage kindLoop [] = true ∧ parseProg mulImage = some mulProg ∧
      progOk mulProg = true ∧ mulProg.room ≤ s.loopFree 6 := by
  refine ⟨by decide +kernel, by decide +kernel, ?_, by decide +kernel, by decide +kernel, by decide +kernel⟩
  unfold State.sigOk
  dsimp only
  rw [h]
  decide +kernel
theorem test_LoopSlotRunsAndUnloads : let s := loop5 .loaded none
    s.serves spi 0x3005 2 = true ∧ (s.ls 5).st = .loaded ∧ (s.ls 5).pendStop = false ∧ (s.ls 5).pendHold = false ∧
      s.pipeTest (s.rd (Od.LS_PIPE 5)) = false ∧ s.raOk 5 = true ∧ s.windowOk 5 = true ∧ s.pickPipe 5 = some 0 ∧
      (s.ls 5).prog = some mulProg ∧ ((loop5 .running none).ls 5).st = .running ∧ ((loop5 .holding none).ls 5).st = .holding ∧
      (loop5 .holding none).standing Flt.LOOP_INPUT 5 = false ∧ (loop5 .holding none).standing Flt.LOOP_MISS_RUN 5 = false ∧
      (loop5 .holding none).standing Flt.LOOP_ECC_U 5 = false := by decide +kernel

theorem test_LoopRunsAreReleasedRunAndEnd :
    let e : QEntry := { value := 0, raw := 0, chan := 0, src := 0, st := 0, time := 0, trig := 4, seq := 0, count := 1, dst := 5 }
    let r : LRun := { kind := .plain, release := 0, deadline := 9000000 }
    let d : Delivery := { ls := 5, due := 5, car := 3, vals := [] }
    let s := loop5 .running (some r)
    let w : State := { s with meas := { s.meas with queue := [(3, e)] }, le := { s.le with deliveries := [d] } }
    let on_ := loop5 .running (some { r with ready := true, start := some 0, onPipe := some 0, ins := [(0, 0)] })
    let bad_ := loop5 .running (some { r with ready := true, start := some 0, onPipe := some 0, ins := [(0x7FC00000, 0)] })
    w.runs = true ∧ w.domOn domLoop = true ∧ takeFirst (fun e => decide (e.dst < 128)) w.meas.queue = some ((3, e), []) ∧
      w.nextDelivery = some d ∧ (s.ls 5).run = some r ∧ s.allNew 5 = true ∧
      (loop5 .running (some { r with ready := true })).nextRun 0 = some 5 ∧ s.occupant 0 = none ∧
      (loop5 .running (some { r with ready := true, start := some 0 })).nextRun 0 = some 5 ∧
      (on_.runEnd 5).isSome = true ∧ (on_.runEnd 5).all (fun e => decide (e ≤ 9000000)) = true ∧
      (((on_.ls 5).exec mulProg 1 (on_.ls 5).cost { r with start := some 0, onPipe := some 0, ins := [(0, 0)] }).bad) = false ∧
      bad_.badAt 5 = some 90000 ∧ (bad_.runEnd 5).isSome = true ∧ s.badAt 5 = none ∧
      ((s.runEnd 5).any fun e => decide (e ≤ 9000000)) = false := by decide +kernel

theorem test_CoefficientBanksAndHostInputs :
    let s (st : LsState) : State := { on with le := { on.le with slots := on.le.slots.set 5 { st := st, bankA := [1, 2], bankB := [3, 4] } } }
    (s .running).serves spi 0x3005 0x21 = true ∧ ((s .running).ls 5).st = .running ∧ ((s .holding).ls 5).st = .holding ∧
      ((s .loaded).ls 5).st = .loaded ∧ ((s .loaded).ls 5).st ≠ .empty ∧ ((s .loaded).ls 5).swap = false ∧
      (s .loaded).serves spi 0x3005 0x23 = true ∧ (List.replicate 8 (0 : Byte)).length = 4 * ((s .loaded).ls 5).bank.length ∧
      (s .loaded).serves spi 0x3005 0x25 = true ∧ (s .loaded).rd (Od.LS_COEF_ADDR 5) < ((s .loaded).ls 5).bank.length ∧
      (s .loaded).serves spi 0x3005 0x26 = true ∧ 1 < ((s .loaded).ls 5).bank.length ∧ (s .loaded).serves spi 0x3005 0x53 = true ∧
      admits 0x3005 0x53 (leBytes 4 0x3F800000) = true ∧ F32.finite 0x3F800000 = true := by decide +kernel

theorem test_EccErrorsAndRunAheadCommitStages :
    let r : LRun := { kind := .stage, release := 0, deadline := 9000000, start := some 0, yhat := [0] }
    let w := loop5 .running (some r)
    let x (d : Nat) : State := ({ w with le := { w.le with slots := w.le.slots.modify 5 fun t =>
      { t with run := some { r with deadline := d }, inputs := t.inputs.set 0 { real := some ⟨0x40000000, 0, 0⟩ } } } } : State).wr (Od.RA_N_PRED 5) 1
    w.runs = true ∧ ((loop5 .running (some { r with kind := .parked })).ls 5).run = some { r with kind := .parked } ∧
      w.nextStage 0 = some 5 ∧ (w.ls 5).prog = some mulProg ∧ w.occupant 0 = none ∧
      (checkResiduals w 5 r (w.raPreds 5)).2 = false ∧ w.loopEdge 0 + (w.ls 5).raCost * w.tloop ≤ 9000000 ∧
      (x 9000000).nextStage 0 = some 5 ∧ (checkResiduals (x 9000000) 5 r ((x 9000000).raPreds 5)).2 = true ∧
      (x 9000000).loopEdge 0 + 3 * 20 * (x 9000000).tloop ≤ 9000000 ∧
      (x 0).nextStage 0 = some 5 ∧ 0 < (x 0).loopEdge 0 + 20 * (x 0).tloop := by decide +kernel

/-- String entry 2 in a state, with this node's C3 its only member and the command waiting. -/
def string2 (t : StrState) (cmd : Option (Nat × Nat)) (c : CmdSt) : State :=
  ({ on with strings := on.strings.set 2 { st := t, members := [⟨5, 3, false, 0⟩], configOk := true, cmd := cmd, cmdSt := c }
             tb := { on.tb with running := true } } : State).wr (Od.STR_ID 2) 7
theorem test_StringCommandsActAtTheirApplyTime :
    let a := string2 .running none .idle
    let b := string2 .stopped (some (1, 10)) .pending
    let c := string2 .pcPassive (some (2, 10)) .pending
    let d := string2 .running (some (3, 10)) .pending
    let e := string2 .running (some (4, 10)) .pending
    a.serves spi 0x3222 3 = true ∧ a.runs = true ∧ a.isHome 2 = true ∧ a.strAllowed 2 3 = true ∧ (a.str 2).cmdSt ≠ .pending ∧
      a.strAllowed 2 4 = false ∧ b.isHome 2 = true ∧ (b.str 2).cmdSt = .pending ∧ b.serves spi 0x3222 3 = true ∧
      (b.str 2).cmd = some (1, 10) ∧ (b.str 2).st = .stopped ∧ (∀ k ∈ b.membersHere 2, b.ust k 0 = .stopped) ∧
      (c.str 2).st = .pcPassive ∧ d.strAllowed 2 3 = true ∧ e.strAllowed 2 4 = false ∧ a.strById 7 = [2] ∧
      a.tb.running = true := by decide +kernel

theorem test_StringTimeOutsAndChecksStopTheString :
    let a := string2 .pcActive none .idle
    let b : State := { on with strings := on.strings.set 2 { bypChecks := [⟨3, 0, 10⟩] } }
    let c : State := { on with strings := on.strings.set 2 { members := [⟨6, 3, false, 0⟩], homeMiss := 3 } }
    let d : State := { on with strings := on.strings.set 2 { riding := some 10, st := .blocked } }
    a.runs = true ∧ (a.str 2).st = .pcActive ∧ (b.str 2).bypChecks = ⟨3, 0, 10⟩ :: [] ∧
      F32.gt (F32.sub (b.link 3) 0) (b.rd (Od.STR_BYP_DV 2)) = false ∧ (c.str 2).members ≠ [] ∧ c.isHome 2 = false ∧
      3 ≤ (c.str 2).homeMiss ∧ (c.str 2).homeLost = false ∧ (d.str 2).riding = some 10 ∧ (d.str 2).st = .blocked ∧
      F32.lt (d.str 2).mean (d.rd (Od.STR_RIDE_VMIN 2)) = true ∧
      F32.lt (d.str 2).mean ((d.wr (Od.STR_RIDE_VMIN 2) 0).rd (Od.STR_RIDE_VMIN 2)) = false ∧
      (let b := ({ slot3 .bypassed with strings := on.strings.set 2 { bypChecks := [⟨3, 0xC6000000, 10⟩] } } : State)
       (F32.gt (F32.sub (b.link 3) 0xC6000000) (b.rd (Od.STR_BYP_DV 2)) && b.ust 3 0 = .bypassed) = true) := by decide +kernel

theorem test_LvComparatorsAndDrivesAct :
    let s : State := { on with lv := { on.lv with comps := on.lv.comps.set 3 { trip := true }
                                                  entries := (on.lv.entries.set 0 { drv := .faulted, listen := some 10 }).set 8 { chopFault := true } } }
    let s := ((((s.wr (Od.LVC_CTRL 2) 1).wr (Od.LVP_KIND 0) 1).wr (Od.LVP_KIND 8) 2).wr (Od.SLOT_TEMPLATE 3) 3).wr (Od.UNIT_LV 3 0) 0
    s.runs = true ∧ s.cmpOn 2 = true ∧ (s.cmp 2).trip = false ∧ s.cmpThr 2 (Od.LVC_TRIP_HI 2) false ≤ 32767 ∧
      (s.cmp 3).trip = true ∧ s.cmpBeyond 3 0 = false ∧ s.serves spi 0x3440 4 = true ∧ s.serves spi 0x3448 4 = true ∧ s.lvKind 0 = 1 ∧
      s.lvUnits 0 = [(3, 0)] ∧ (s.lvE 0).drv = .faulted ∧ s.clearBlocked 3 [0] = false ∧ s.lvKind 8 = 2 ∧
      (∀ cu ∈ s.lvUnits 8, s.unitLoop cu.1 cu.2 = none) ∧ (s.lvE 0).listen = some 10 ∧
      ((s.runEnd ((s.unitLoop 3 0).getD 128)).any fun x => decide (x ≤ s.localOf (10 + sysUs 50000))) = false := by decide +kernel

/-- Every feedback source enabled, in quadrant 0 and sector 0. -/
def fb0 : State :=
  ({ on with fb := { on.fb with quad := some 0, sector := 0, hallBad := false
                                src := on.fb.src.map fun x => { x with steps := [(0, 0)] } } } : State).wr Od.FB_CTRL 0x0F
theorem test_FeedbackSamplesAndEdgesCount :
    let s := fb0
    let l := List.replicate (s.rd Od.FB_SC_QN) ((0 : Int), (0 : Int))
    let h : State := { s with fb := { s.fb with hallCode := 1, hallPins := pinsSet (pinsSet [⟨false, 0⟩, ⟨false, 0⟩, ⟨false, 0⟩] 1 0) 3 5 } }
    let p : State := { s with fb := { s.fb with plsPins := pinsSet [⟨false, 0⟩, ⟨false, 0⟩] 1 5 } }
    s.runs = true ∧ s.fbOn 0 = true ∧ s.fbOn 1 = true ∧ s.fbOn 2 = true ∧ s.scGood (scQ 500000 (-1)) = true ∧ s.fb.quad = some 0 ∧
      s.fb.ampBad = false ∧ s.fb.scAt = none ∧ scQuad 500000 (-1) false = 1 ∧ scQuad (-1) 500000 false = 3 ∧
      s.scGood (scQ (-1) 500000) = true ∧ scQuad (-1) (-500000) false = 2 ∧ s.scGood (scQ 0 0) = false ∧ 0 < l.length ∧
      hallSector 3 = some 1 ∧ hallSector 5 = some 5 ∧ hallSector 7 = none ∧ s.fb.sector = 0 ∧ (s.fbSrc 2).steps = [(0, 0)] ∧
      (s.fbSrc 2).last = 0 ∧ pinsDue h.fb.hallPins 1 (ns (h.rd Od.FB_HALL_FILT)) (us 100) = some (5 + ns (h.rd Od.FB_HALL_FILT)) ∧
      pinsDue h.fb.hallPins 1 (ns (h.rd Od.FB_HALL_FILT)) 5 = none ∧
      pinsCode h.fb.hallPins 1 (ns (h.rd Od.FB_HALL_FILT)) (us 100) = 3 ∧
      pinsDue p.fb.plsPins p.fb.plsCode (ns (p.rd Od.FB_PLS_FILT)) (us 100) = some (5 + ns (p.rd Od.FB_PLS_FILT)) ∧
      pinsCode p.fb.plsPins p.fb.plsCode (ns (p.rd Od.FB_PLS_FILT)) (us 100) = 1 ∧ p.fbWritten 2 = false := by decide +kernel

theorem test_FeedbackWritesTakeEffect :
    let s := (loop5 .running none).wr (Od.LS_IN 5 0) 6
    on.serves spi 0x3500 0x11 = true ∧ on.serves spi 0x3500 0x18 = true ∧ on.serves spi 0x3500 0x0E = true ∧
      on.serves spi 0x3500 0x01 = true ∧ s.serves spi 0x3500 0x01 = true ∧ s.fbInUse 0 = true ∧ on.fbInUse 0 = false ∧
      on.fbInUse 1 = false ∧ on.fbInUse 2 = false ∧ on.fb.undo.getD 0 none = none ∧
      (∃ u, ({ on with fb := { on.fb with undo := on.fb.undo.set 2 (some ⟨0, {}, 0⟩) } } : State).fb.undo.getD 2 none = some u ∧
        u.sample = on.now / 10000) := by
  refine ⟨by decide +kernel, by decide +kernel, by decide +kernel, by decide +kernel, by decide +kernel, by decide +kernel,
    by decide +kernel, by decide +kernel, by decide +kernel, by decide +kernel, ⟨_, rfl, by decide +kernel⟩⟩

theorem test_ThermalUnitIntervalsAndClears :
    let s : State := { on with tb := { on.tb with running := true }, th := { on.th with shut := 3, unwritten := [⟨3, 0, 0, 0, 0, false, 9⟩] } }
    let c : State := { s with th := { s.th with slots := s.th.slots.set 0 { tj := List.replicate 12 0x43480000, tref := 0x43480000 } } }
    let n := s.wr (Od.TH_XTIME 4) 60000
    let d := s.at_ (s.th.dieTry + ms 1)
    s.runs = true ∧ s.domOn 3 = true ∧ s.tb.running = true ∧ ({ d with th := { d.th with dieTry := d.now } } : State).dieSlice = some 0 ∧
      ({ d with th := { d.th with dieTry := d.now }, clk := { d.clk with src := .refclk } } : State).dieSlice = none ∧ s.th.unwritten ≠ [] ∧ s.serves spi 0x3600 7 = true ∧ s.serves spi 0x3624 0x1D = true ∧
      (n.ntcOff 4 || n.ntcAlone 4) = false ∧ (s.at_ (secs 100)).ntcOff 4 = true ∧ s.thCool 1 = true ∧ c.thCool 0 = false := by decide +kernel

theorem test_CollectorTakesEventsAndEndsSpans :
    let r : Raised := { code := 0x0101, inst := 4, count := 1, first := 9, last := 9, detail := 0, acc := {} }
    let s : State := { on with flt := { on.flt with raised := [r], resetPend := true, coal := [⟨0x0101, 4, 9, 1, 0, 9, 9⟩]
                                                    insts := [{ code := 0x0101, inst := 4, st := .transient, n := 1 }] } }
    s.runs = true ∧ (Flt.source 0x0101).isSome = true ∧ s.flt.raised = r :: [] ∧ (s.fltInst 0x0101 4).st = .transient ∧
      s.persists 0x0101 4 = false ∧ s.coalOf 0x0101 4 = some ⟨0x0101, 4, 9, 1, 0, 9, 9⟩ ∧ s.flt.resetPend = true ∧
      s.allStopped = true := by decide +kernel

theorem test_FaultClearsAndConfiguration :
    on.serves spi 0x1800 8 = true ∧ on.serves spi 0x1800 7 = true ∧ ((Flt.source 0x0101).any fun r => decide (r.cls ≠ .f) && r.hasInst 4) = true ∧
      Flt.source 0x7777 = none ∧ (Flt.sources.any fun r => decide (r.cls = .f)) = true ∧
      ((Flt.source 0x0101).any fun r => !r.hasInst 300) = true ∧ on.serves spi 0x1821 1 = true ∧
      ((Flt.source 0x0101).any fun r => r.dflt % 256 = 3 && (r.dflt / 2 ^ 48).testBit (bits r.dflt 39 32)) = true := by decide +kernel

theorem test_SafetyCoreHoldsAndRestarts :
    let s : State := { on with tb := { on.tb with running := true }
                               sf := { on.sf with st := .run, discSince := some 9, ackSeq := 7, pinA := { low := false, cause := true }, pinB := { low := false, cause := false } } }
    let n : State := { s with sf := { s.sf with pinA := { low := true, hw := true } } }
    let m : State := { s with sf := { s.sf with pinA := { low := false, cause := false, hw := false }, pinB := { low := false, cause := false, hw := false } } }
    let late := { spi with t := secs 4000 }
    s.runs = true ∧ s.sf.discSince = some 9 ∧ s.rd Od.SF_STO_PAIR = 1 ∧ s.sf.disc = false ∧ (s.pin 0).low = false ∧ (s.pin 0).cause = true ∧
      s.sf.st = .run ∧ s.testLast 0 + 3600 < sysS (s.at_ late.t).sysNow ∧ (s.leg 5).enabled = false ∧ s.sf.dueA = false ∧
      s.serves spi 0x3800 0x14 = true ∧ (0x70001 &&& 0xFFFC) = 0 ∧ 0x70001 / 65536 = s.sf.ackSeq ∧ m.groupMet 1 = true ∧ m.sf.ackSeq = 7 ∧
      n.groupMet 0 = false := by decide +kernel

theorem test_SafeOutputsAndSafeDataAct :
    let s : State := { on with sf := { on.sf with outs := (on.sf.outs.set 1 { drv := true, rb := true }).set 2 { pulse := some 9 }
                                                  cons := on.sf.cons.set 3 { st := .valid, win := some ([], 9) } }
                               ring := { on.ring with nodeId := 5 } }
    let s := (s.wr (Od.SDP_CONN 2) 5).wr (Od.SDC_CONN 3) 0x0105
    let w := s.wr (Od.SF_SO_SRC 2) 4
    let w : State := { w with sf := { w.sf with cons := w.sf.cons.set 0 { st := .valid, data := 1 :: List.replicate 15 0 } } }
    s.runs = true ∧ (s.so 1).drv = true ∧ (s.so 1).pulse = none ∧ s.sf.wdExpired = false ∧ (s.so 2).pulse = some 9 ∧
      s.soWant 2 = false ∧ w.soWant 2 = true ∧ s.rd (Od.SDP_CONN 2) ≠ 0xFFFF ∧ s.ring.nodeId < 1024 ∧ (s.con 3).st = .valid ∧ (s.con 3).win = some ([], 9) ∧
      ((List.range 16).filter fun c => decide ((s.con c).st ≠ .unused) && decide (s.rd (Od.SDC_CONN c) = leAt [5, 1] 0 2)) = [3] := by
  decide +kernel

theorem test_SignOffSessionChangesTheSafeSet :
    let a : State := { on with sf := { on.sf with session := .opened } }
    let b : State := { on with sf := { on.sf with session := .verified, pendCrc := 9 } }
    on.serves spi 0x3800 2 = true ∧ on.sf.session = .closed ∧ on.legsEnabled = 0 ∧ a.serves spi 0x3800 2 = true ∧ safeOk a.sf.pendSet = true ∧
      a.serves spi 0x3811 4 = true ∧ (safeRows.any fun r => r.has 0x3811 4 && r.check [50] = 0) = true ∧ a.serves spi 0x3800 9 = true ∧
      b.serves spi 0x3800 5 = true ∧ b.sf.session = .verified ∧ (match b.activateSafe.askCommit true with | .ok _ => true | .error _ => false) = true ∧
      on.runs = true := by decide +kernel
/-- A signed safety image of no record, where the signature verifies. -/
theorem test_SignedSafetyImage (h : ∀ k pub m sig, Config.ed448 k pub m sig = true) :
    let a : State := { on with sf := { on.sf with session := .opened }, nor := { on.nor with fuses := { on.nor.fuses with ownerCtrl := 1 } } }
    let img : List Byte := [0x47, 0x53, 4, 1] ++ List.replicate 128 0
    parseRecords (imgBody img).length (imgBody img) = some [] ∧ a.sigOk img kindSafe [] = true := by
  refine ⟨by decide +kernel, ?_⟩
  unfold State.sigOk
  dsimp only
  rw [h]
  decide +kernel

/-- Lane 1 in a state. -/
def lane1 (t : LaneState) : State :=
  { on with lanes := on.lanes.set 1 { st := t, blockLock := true, upAt := 0 } }
theorem test_LaneControlAndModules :
    let s := (lane1 .hold).wr (Od.LANE_CTRL 1) 0x23
    s.serves spi 0x1281 1 = true ∧ s.serves spi 0x1281 0x19 = true ∧ admits 0x1281 1 (leBytes 2 (withField (s.rd (Od.LANE_CTRL 1)) 5 3 4)) = true ∧
      s.usesLane 1 = true ∧ s.bist.held.testBit 15 = false ∧ (s.lane 1).st = .hold ∧ (lane1 .up).serves spi 0x1281 1 = true ∧
      admits 0x1281 1 (leBytes 2 (withField 1 2 3 2)) = true ∧ (lane1 .up).rd (Od.LANE_CTRL 1) = 1 ∧ s.runs = true ∧
      (s.lane 1).modAbs = false ∧ bits (s.rd (Od.LANE_CTRL 1)) 7 5 = 1 := by decide +kernel

theorem test_LaneReceiverMovesTheLane :
    let u := lane1 .up
    let s := lane1 .training
    let k : Nat := crc8 (leBytes 6 (bits (0x010101 * 2 ^ 16 + 0x0D00) 55 8)) * 2 ^ 56 + 0x010101 * 2 ^ 16 + 0x0D00
    u.runs = true ∧ (u.lane 1).st = .up ∧ (u.lane 1).blockLock = true ∧ (u.lane 1).hiBer = false ∧ (s.lane 1).st = .training ∧
      (s.lane 1).blockLock = true ∧ trainValid (descramble 5 (BitVec.ofNat 64 (scramble 5 k).1).toNat).1 = true ∧
      (descramble 5 (BitVec.ofNat 64 (scramble 5 k).1).toNat).1 = k ∧ (s.lane 1).trainRun + 1 < 8 ∧ commonVersion (bits k 23 16) (bits k 31 24) = some 1 ∧
      (((u.updLane 1 fun x => { x with los := true }).lane 1).st = .up) ∧
      (((u.errOut 1 0).updLane 1 fun x => { x with rxLock := false, blockLock := false }).lane 1).st = .up ∧
      ({ s.lane 1 with trainRun := 7 } : Lane).trainRun + 1 = 8 := by decide +kernel

theorem test_RingFramesAreJudgedSentAndShaped :
    let f : Frame := ⟨10, 0, 9, 5, 0, 3, 0, 2, false, [1, 2]⟩
    let w : Waiting := ⟨1, 5, ⟨10, 0, 5, 9, 0, 3, 0, 0, false, [1, 2]⟩, 0, false⟩
    let s : State := { lane1 .up with ring := { (lane1 .up).ring with waiting := [w], bucket3 := 10 ^ 18, st := .run, sysCycle := 1000000, role := 2 } }
    let s := s.wr (Od.TX_N 4) 2
    let r := s.alarmFrame.upNext
    let r := (r.at_ (r.ring.busy.getD 1 0)).refill
    s.runs = true ∧ (s.lane 1).st = .up ∧ parseFrame [] = none ∧ parseFrame (wireBytes f) = some (f, true) ∧ s.inserted f 0 = false ∧
      s.inserted w.frame 0 = true ∧ parseFrame ((wireBytes f).take 17) = some ({ f with payload := [1, 2] }, false) ∧ (s.route { f with dst := 77 } 0).on = true ∧
      (r.lane 1).st = .up ∧ r.nextTx 1 = some w ∧ s.ring.sysCycle ≠ 0 ∧ s.rd (Od.TX_N 4) ≠ 0 ∧ s.ring.nodeId < 1024 ∧ s.ring.st = .run ∧
      2 ≤ s.ring.role ∧ s.ring.waiting.find? (fun w => w.item = 5 && w.frame.typ = 0x0A && !w.paid) = some w := by decide +kernel

theorem test_RollCallAlarmsAndSystemCycle :
    let s : State := { on with ring := { on.ring with rolling := some 9, sysCycle := 1000000 }, tb := { on.tb with running := true } }
    let m : State := { s with ring := { s.ring with role := 0 }, mgr := { s.mgr with st := .active } }
    let b : State := { s with ring := { s.ring with role := 1 } }
    s.serves spi 0x1200 3 = true ∧ m.isSource = true ∧ m.serves spi 0x1200 3 = true ∧ s.isSource = false ∧ s.serves spi 0x1230 4 = true ∧
      s.serves spi 0x1230 5 = true ∧ spi.path ≠ .can ∧ s.runs = true ∧ s.ring.rolling = some 9 ∧ s.ring.sysCycle ≠ 0 ∧ s.tb.running = true ∧
      (let j : State := { m with ring := { m.ring with st := .run, rolling := none, joins := [34] } }
       j.isSource = true ∧ j.ring.joins ≠ [] ∧ windowsFit j.ring.windows [] = true ∧ 5 * 10000 ≤ 2 * j.ring.sysCycle) ∧
      b.isBridge = true ∧ sysCycleOf 50000 20000 5000 10000 = some 50000 ∧ sysCycleOf 50000 20000000 5000 10000 = none := by decide +kernel

theorem test_TimeBlocksServoAndSteps :
    let s : State := { on with lanes := on.lanes.set 0 { st := .up, stampAt := some 9, stampDep := some (3, 10), stampRx := some (4, 10) } }
    let m : State := { s with ring := { s.ring with role := 0 } }
    let p : Nat := 0x5A + 2 ^ 8 + 3 * 2 ^ 10
    s.runs = true ∧ (s.lane 0).st = .up ∧ (s.lane 0).timeTx % 16 ≠ 15 ∧ (s.lane 0).timeTx % 2 = 0 ∧ bits p 9 8 = 1 ∧ bits p 15 10 = 3 ∧
      (descramble 7 (BitVec.ofNat 64 (scramble 7 p).1).toNat).1 = p ∧
      bits (0x5A : Nat) 9 8 = 0 ∧ bits (0x5A + 2 * 2 ^ 8 : Nat) 9 8 = 2 ∧ (s.lane 0).stampDep = some (bits p 15 10, 10) ∧ s.isSource = false ∧
      (s.lane 0).stampAt = some 9 ∧ (s.lane 1).stampAt = none ∧ m.serves spi 0x1300 0x0F = true ∧
      admits 0x1300 0x0F (leBytes 14 5) = true ∧ (m.ring.role = 0 && m.tmSrcAct = 0 && m.legsEnabled = 0) = true ∧
      (s.ring.role = 0 && s.tmSrcAct = 0 && s.legsEnabled = 0) = false ∧ s.serves spi 0x1300 0x0F = true ∧
      ({ s.lane 0 with timeTx := 15 } : Lane).timeTx % 16 = 15 ∧ ({ s.lane 0 with timeTx := 1 } : Lane).timeTx % 2 = 1 := by decide +kernel

theorem test_ReferencesBellsAndPinsFollowTime :
    let s : State := { on with tb := { on.tb with running := true, ppsAt := some 9, ppsOut := some 99, bells := on.tb.bells.set 4 { st := .armed } } }
    let s := (((s.wr (Od.PTP_CTRL 1) 1).wr Od.TM_PPS_IN_CTRL 3).wr (Od.TRIG_MODE 2) 2).wr (Od.BELL_START 5) (timeCode (3 * sysSec))
    s.runs = true ∧ s.ptpOn 1 = true ∧ (s.ptp 1).lost = false ∧ (s.rd Od.TM_PPS_IN_CTRL).testBit 0 = true ∧ (s.rd Od.TM_PPS_IN_CTRL).testBit 1 = true ∧
      s.tb.ppsAt = some 9 ∧ s.serves spi 0x1345 3 = true ∧ (s.bell 5).st = .idle ∧ s.sysNow + sysUs 10 ≤ s.bellStart 5 ∧
      s.bellStart 6 < s.sysNow + sysUs 10 ∧ s.serves spi 0x1346 3 = true ∧ (s.bell 4).st ≠ .idle ∧ s.pwmOff = false ∧
      ({ s with clk := { s.clk with pwmMissing := true } } : State).pwmOff = true ∧ s.rd (Od.TRIG_MODE 2) = 2 ∧
      (s.tb.ppsOut.toList ++ s.tb.trigs.filterMap (·.pulse)).min? = some 99 := by decide +kernel

/-- A manager in a state. -/
def mgr0 (m : Mgr) : State := { on with ring := { on.ring with role := 0, nodeId := 0, sysCycle := 1000000 }, mgr := m }
theorem test_HallPassIsTakenHandedBackAndYielded :
    let hb : List Byte := [1, 3, 0, 0, 9, 0, 0, 0] ++ List.replicate 48 0
    let a := mgr0 { st := .active, peerSynced := true, peerCard := List.replicate 32 0, handback := some ⟨false, 9, 7⟩, overlapTo := some 9 }
    let b := mgr0 { st := .standby, missed := 60000, readySince := some 9, handback := some ⟨true, 9, 7⟩, synced := true }
    let l := mgr0 { st := .listening, holder := 1 }
    let q : Req := { spi with node := 0 }
    on.runs = true ∧ on.ring.role ≠ 0 ∧ on.mgr.st ≠ .active ∧ on.mgr.holder = 0xFFFF ∧ leNat ((hb.drop 1).take 1) % 16 = 3 ∧
      l.mgr.st = .listening ∧ l.mgr.holder ≠ 0xFFFF ∧ b.mgr.st = .standby ∧ b.rd Od.MGR_LOSS_CYCLES ≤ b.mgr.missed ∧ b.grade ≠ 2 ∧ b.myNode = 0 ∧
      (b.rd Od.MGR_RECLAIM).testBit 0 = true ∧ b.mgr.requested = false ∧ a.mgr.st = .active ∧ a.mgr.snap = none ∧ a.mgr.handback ≠ none ∧
      a.mgr.overlapTo = some 9 ∧ a.serves q 0x1400 0x0D = true ∧ (b.mgr.st = .standby && b.grade = 0 && b.mgr.synced) = true ∧
      b.serves q 0x1400 0x0D = true ∧ (let g := mgr0 { a.mgr with handback := none }
        g.mgr.st = .active && g.mgr.peerSynced && leNat (g.mgr.peerCard.take 1) = 0 && g.mgr.handback.isNone) = true := by decide +kernel

theorem test_TransfersFollowersAndReportCard :
    let x : Transfer := ⟨3, some 9, [(8, [1, 2])], 4⟩
    let b := mgr0 { st := .standby, transfer := some x }
    let q : Req := { spi with node := 0 }
    b.runs = true ∧ b.mgr.transfer = some x ∧ b.mgr.st = .standby ∧ b.serves q 0x1400 0x0D = true ∧ b.isSource = false ∧
      (mgr0 { st := .active }).mgr.st = .active ∧ (mgr0 { st := .standby, wk := .following }).mgr.wk = .following ∧
      (mgr0 { st := .active }).serves q 0x1400 0x0D = true ∧ b.ring.sysCycle ≠ 0 := by decide +kernel

theorem test_LockWindowsRelocksAndMonitors :
    let u : State := { on with clk := { on.clk with sysLock := false, windows := 1, linkLock := true, relock := some ⟨5, 5⟩ } }
    let b : State := { on with bist := { on.bist with run := some (1, 0) } }
    on.serves spi 0x1A00 0x0A = true ∧ on.bist.run = none ∧ on.legsEnabled = 0 ∧ on.clk.relock = none ∧ on.clk.refOk = true ∧
      on.clk.sysLock = true ∧ on.clk.linkLock = false ∧ u.serves spi 0x1A00 0x0A = true ∧ u.clk.windows ≠ 0 ∧ u.clk.relock = some ⟨5, 5⟩ ∧
      u.clk.sysLock = false ∧ (u.at_ 7).domOn domLink = true ∧ b.bist.run ≠ none ∧ b.serves spi 0x1A00 0x0A = true ∧ on.runs = true ∧ u.runs = true ∧
      1025 * 99 < 1024 * 100 ∧ on.clkSetting 2 = 500000000 ∧ on.clk.freqBad.contains 2 = false ∧
      ({ on with clk := { on.clk with refOk := false } } : State).clk.refOk = false := by decide +kernel

theorem test_DomainsAreSwitchedAndWakeOnAccess :
    let off : State := { on with pwr := { on.pwr with doms := on.pwr.doms.set 3 .off } }
    let wake : State := { on with pwr := { on.pwr with doms := on.pwr.doms.set 4 (.waking 0 2 1) } }
    let leg : State := { on with legs := on.legs.set 30 { enabled := true } }
    (2 : Fin 10) = 2 ∧ (4 : Fin 12) ≠ 2 ∧ on.runs = true ∧ on.serves spi 0x1900 2 = true ∧ ((on.at_ 0).pwrReq 0x3F8).2 = false ∧ off.runs = true ∧ (off.at_ 4).bist.held.testBit 3 = false ∧
      (off.at_ 4).pwr.doms.getD 3 .off = .off ∧ (on.at_ 4).pwr.doms.getD 3 .off ≠ .off ∧ wake.pwr.doms.getD 4 .off = .waking 0 2 1 ∧
      wake.runs = true ∧ (leg.at_ 9).legs.getD 30 {} = { enabled := true } ∧ leg.runs = true ∧
      ((List.range 24).any fun i => ((leg.at_ 9).leg (24 + i)).enabled) = true ∧ ((List.range 24).any fun i => ((on.at_ 9).leg i).enabled) = false ∧
      ({ on with pwr := { on.pwr with sleep := true } } : State).runs = false := by decide +kernel
theorem test_pwrReq_refuses :
    let leg : State := { on with legs := on.legs.set 30 { enabled := true } }
    leg.serves spi 0x1900 2 = true ∧ ((leg.at_ 0).pwrReq 0).2 = true := by decide +kernel

theorem test_ResetsSleepAndStartUpRun :
    let held : State := { on with pwr := { on.pwr with held := true }, ret := { on.ret with rstHeld := true } }
    let nap : State := ({ on with pwr := { on.pwr with sleep := true } } : State)
    let nap := (nap.wr Od.SLEEP_WAKE 3).wr Od.SLEEP_TIMER 5
    let up (g : Stage) : State := { on with pwr := { on.pwr with stage := g } }
    let bare : State := { on with pwr := { on.pwr with stage := .rom }, nor := { on.nor with slots := [{}, {}] } }
    us 50 ≤ us 60 ∧ us 60 ≤ secs 10 ∧ us 9 < us 10 ∧ on.pwr.held = false ∧ (((on.at_ 4).hwReset 2 false).at_ 9).ret.rstHeld = false ∧
      held.pwr.held = true ∧ held.ret.rstHeld = true ∧ on.runs = true ∧ on.domOn 1 = true ∧ on.serves spi 0x1900 0x0B = true ∧
      (on.at_ 0).legsEnabled = 0 ∧ (on.at_ 0).ring.st = .alone ∧ on.serves spi 0x1900 0x0A = true ∧ on.serves spi 0x1900 0x11 = true ∧
      nap.pwr.sleep = true ∧ (nap.rd Od.SLEEP_WAKE).testBit 0 = true ∧ (nap.rd Od.SLEEP_WAKE).testBit 1 = true ∧ nap.rd Od.SLEEP_TIMER ≠ 0 ∧
      (up .caretaker).runs = true ∧ (up .clocks).clk.sysLock = true ∧ (bare.nor.bootSlot = none ∧ bare.runs = true ∧ bare.pwr.stage = .rom) ∧ (up .firmware).runs = true ∧
      (up .domains).waking = false := by decide +kernel
theorem test_SLEEP_is_refused :
    let leg : State := { on with legs := on.legs.set 30 { enabled := true } }
    let busy : State := { on with pwr := { on.pwr with doms := on.pwr.doms.set 4 (.waking 0 2 1) } }
    leg.serves spi 0x1900 0x0B = true ∧ (leg.at_ 0).legsEnabled ≠ 0 ∧ busy.serves spi 0x1900 0x0B = true ∧
      ((busy.at_ 0).pwr.doms.any fun d => match d with
        | .waking _ 2 _ => true
        | _ => false) = true := by decide +kernel
theorem test_bootSlot :
    let rom : State := { on with pwr := { on.pwr with stage := .rom }
                                 nor := { on.nor with slots := [{ written := true, sound := true, confirmed := true }, {}] } }
    rom.runs = true ∧ rom.pwr.stage = .rom ∧ rom.nor.bootSlot = some 0 := by decide +kernel

/-- An image with the trailer of a key and a signature that fits wherever Ed448 finds every signature valid. -/
def signed (kind key : Nat) (body : List Byte) : List Byte := body ++ [0x47, 0x53, BitVec.ofNat 8 kind, BitVec.ofNat 8 key] ++ List.replicate 128 0
/-- A device whose owner key 1 is in use. -/
def owned : State := { on with nor := { on.nor with fuses := { on.nor.fuses with ownerCtrl := 1 } } }
def slots2 : State := { on with nor := { on.nor with slots := [{ tried := true }, { written := true, sound := true, seq := 7 }] } }
def legOn : State := { on with legs := on.legs.set 30 { enabled := true } }
theorem test_BanksAndFirmwareSlotsAreWritten :
    let busy : State := { on with nor := { on.nor with commit := some ⟨0, ⟨1, 1, [], [], true⟩, 0⟩ } }
    on.serves spi 0x1B00 3 = true ∧ (on.at_ 0).nor.commit = none ∧ (on.at_ 0).bankBody.length ≤ bodyMax ∧ (on.at_ 0).legsEnabled = 0 ∧
      busy.serves spi 0x1B00 3 = true ∧ (busy.at_ 0).nor.commit ≠ none ∧ busy.runs = true ∧ busy.nor.queue = [] ∧
      legOn.serves spi 0x1B00 3 = true ∧ (legOn.at_ 0).legsEnabled ≠ 0 ∧ on.serves spi 0x1B00 5 = true ∧ busy.serves spi 0x1B00 5 = true ∧
      on.serves spi 0x1B00 0x10 = true ∧ ([] : List Byte).length < 4096 + trailerLen ∧ slots2.serves spi 0x1B00 0x11 = true ∧
      (slots2.at_ 0).fwOpen = false ∧ (slots2.at_ 0).nor.fwValid 1 = true ∧ newer32 7 0 = true ∧ ((slots2.at_ 0).nor.slot 0).confirmed = false ∧
      ((on.at_ 0).nor.slot 1).tried = false ∧ (on.at_ 0).nor.fwValid 1 = false ∧ legOn.serves spi 0x1B00 0x11 = true ∧
      (on.at_ 0).sigOk [] kindCfg [] = false := by decide +kernel
theorem test_CFG_IMAGE_accepted (h : ∀ k pub m sig, Config.ed448 k pub m sig = true) :
    owned.serves spi 0x1B00 5 = true ∧ (owned.at_ 0).nor.commit = none ∧ (owned.at_ 0).legsEnabled = 0 ∧
      (owned.at_ 0).sigOk (signed kindCfg 1 []) kindCfg [] = true ∧
      parseRecords (imgBody (signed kindCfg 1 [])).length (imgBody (signed kindCfg 1 [])) = some [] ∧
      ((owned.at_ 0).bankBody.length ≤ bodyMax) := by
  refine ⟨by decide +kernel, by decide +kernel, by decide +kernel, ?_, by decide +kernel, by decide +kernel⟩
  unfold State.sigOk; dsimp only; rw [h]; decide +kernel
theorem test_FW_IMAGE_accepted (h : ∀ k pub m sig, Config.ed448 k pub m sig = true) :
    on.serves spi 0x1B00 0x10 = true ∧
      ((on.at_ 0).updNor fun n => n.updSlot (1 - n.running) fun _ => {}).sigOk (signed kindFw 0 []) kindFw [] = true := by
  refine ⟨by decide +kernel, ?_⟩
  unfold State.sigOk; dsimp only; rw [h]; decide +kernel

theorem test_FusesDebugAttestationAndSelfTest :
    let arg : State := { on with nor := { on.nor with fuseArg := List.replicate 57 7 } }
    let runs : State := { on with nor := { on.nor with fuseRun := some (1, [], 5) }, bist := { on.bist with run := some (0x13, 0) } }
    on.serves spi 0x1B40 4 = true ∧ (on.at_ 0).nor.fuseRun = none ∧ (on.at_ 0).legsEnabled = 0 ∧ (on.at_ 0).fuseCheck 1 = 0x010F ∧
      arg.serves spi 0x1B40 4 = true ∧ (arg.at_ 0).fuseCheck 1 = 0 ∧ (arg.at_ 0).nor.fuses.emptyKey = some 0 ∧ legOn.serves spi 0x1B40 4 = true ∧
      (legOn.at_ 0).legsEnabled ≠ 0 ∧ runs.serves spi 0x1B40 4 = true ∧ runs.runs = true ∧ on.serves spi 0x1B40 0x0B = true ∧
      (on.at_ 0).nor.nonce = none ∧ on.serves spi 0x1B40 7 = true ∧ (List.replicate 32 (5 : Byte)).length = 32 ∧ on.serves spi 0x1B40 8 = true := by
  decide +kernel
theorem test_DEBUG_UNLOCK_accepted (h : ∀ k pub m sig, Config.ed448 k pub m sig = true) (hs : Config.serial = 0x0706050403020100) :
    let s : State := { owned with nor := { owned.nor with nonce := some [9] } }
    let img : List Byte := [9, 0x47, 0x53, 6, 1, 0, 0, 0, 0, 0, 1, 2, 3, 4, 5, 6, 7] ++ List.replicate 116 0
    s.serves spi 0x1B40 0x0B = true ∧ (s.at_ 0).nor.fuses.killed = false ∧ imgBody img = [9] ∧ leAt (imgTrailer img) 8 8 = Config.serial.toNat ∧
      (s.at_ 0).sigOk img kindDbg [] = true := by
  refine ⟨by decide +kernel, by decide +kernel, by decide +kernel, ?_, ?_⟩
  · rw [hs]; decide +kernel
  · unfold State.sigOk; dsimp only; rw [h, hs]; decide +kernel
theorem test_attestation_fits (nonce : List Byte) (s : State) (h : s.nor.activeBank = none) (hm : (s.nor.slot s.nor.running).made = true) (m : List Byte) :
    (fitTo 32 nonce ++ (s.nor.slot s.nor.running).digest ++ s.cfgDigest ++ leBytes 8 1 ++ leBytes 8 2 ++ leBytes 14 3 ++ leBytes 2 0 ++
      fitTo 114 (Config.idSign m)).length ≤ pathLimit spi.path := by
  simp only [List.length_append, leBytes_length, fitTo, FwSlot.digest, hm, State.cfgDigest, h, if_true, List.length_take, List.length_replicate]
  simp only [spi, pathLimit]
  omega
theorem test_BIST (h : Config.golden 0x13 = some 5) :
    let s := on.wr Od.BIST_TARGET 0x13
    let w := on.wr Od.BIST_TARGET 0xFF04
    let r : State := { on with bist := { on.bist with run := some (0x13, 0) } }
    on.serves spi 0x1C00 1 = true ∧ bistDur ((on.at_ 0).rd Od.BIST_TARGET) = 0 ∧ s.serves spi 0x1C00 1 = true ∧ (s.at_ 0).bist.run = none ∧
      bistDur ((s.at_ 0).rd Od.BIST_TARGET) ≠ 0 ∧ (s.at_ 0).draw.2.bistMay 0x13 0 true = true ∧ (s.at_ 0).draw.2.bistMay 0x13 0 false = true ∧
      bistTakes 0x13 = false ∧ w.serves spi 0x1C00 1 = true ∧ bistDur 0xFF04 ≠ 0 ∧ (w.at_ 0).draw.2.bistMay 0xFF04 0 true = true ∧
      bistTakes 0xFF04 = true ∧ r.serves spi 0x1C00 1 = true ∧ (r.at_ 0).bist.run = some (0x13, 0) ∧ r.runs = true ∧ Config.golden 0x13 ≠ some 6 := by
  rw [h]; decide +kernel

theorem test_CellarCommandsAndDumps :
    let no : State := { on with nor := { on.nor with nand := false } }
    let s (d : Dump) : State := { on with nor := { on.nor with nand := true, dumps := [d], page := [[1]], frozen := some 4 } }
    let e : State := { on with nor := { on.nor with dumpAt := some 4 } }
    no.serves spi 0x1B20 2 = true ∧ (s ⟨0, 1, false, false, 0, 0, 0, 0, [], 0, none, false⟩).serves spi 0x1B20 2 = true ∧
      ((s ⟨0, 1, false, false, 0, 0, 0, 0, [], 0, none, false⟩).at_ 0).selDump = some ⟨0, 1, false, false, 0, 0, 0, 0, [], 0, none, false⟩ ∧
      ((s ⟨0, 3, false, true, 0, 0, 0, 0, [], 0, none, false⟩).at_ 0).nor.dumps.any (·.uploading) = true ∧
      ((s ⟨3, 1, false, false, 0, 0, 0, 0, [], 0, none, false⟩).at_ 0).selDump = none ∧ on.serves spi 0x1B20 0x0B = true ∧ (on.upTo 0).acc.snaps = [] ∧
      (s ⟨0, 1, false, true, 0, 0, 0, 0, [], 0, none, false⟩).runs = true ∧ (s ⟨0, 1, false, true, 0, 0, 0, 0, [], 0, none, false⟩).nor.page ≠ [] ∧
      (s ⟨0, 1, false, true, 0, 0, 0, 0, [], 0, none, false⟩).nor.frozen = some 4 ∧ e.runs = true ∧ e.nor.dumpAt = some 4 ∧
      ((s ⟨0, 1, false, true, 0, 0, 0, 0, [], 0, none, false⟩).nor.dumps.find? (·.uploading)).isSome = true ∧
      (on.ring.waiting.any fun w => w.frame.typ = 0x0B && w.item = 5) = false := by decide +kernel

theorem test_EntryWritesAreCheckedInOrder :
    on.serves spi 0x1900 1 = true ∧ on.serves spi 0x1900 2 = true ∧ on.serves spi 0x3500 1 = true ∧ legOn.serves spi 0x2101 1 = true ∧
      ((Od.lookup 0x1900 1).toOption.map (·.acc)) = some .ro ∧
      ((Od.lookup 0x1900 2).toOption.map fun r => (r.check [], r.check [0, 0xFC], r.check [0, 0], decide (r.acc ≠ .ro))) = some (0x0109, 0x0105, 0, true) ∧
      (Od.lookup 0x9 9).toOption.isNone = true ∧ on.serves spi 9 9 = true ∧ pathLimit spi.path < 1025 ∧
      (valueWrite (.pwrReqWrite spi 5)).isSome = true := by decide +kernel

theorem test_EntryReadsAndSegmentsAreServed :
    let u32 : OdRow := ((Od.lookup 0x1900 1).toOption).getD ⟨0, 0, 0, 0, "", .u8, .ro, 0, .any, 0, 0, 0, false, 0, false⟩
    let snapped : State := { on with acc := { on.acc with snaps := [⟨.spi, 0, 0x1900, 1, [1, 2], 0⟩] } }
    let four : State := { on with acc := { on.acc with snaps := List.replicate 4 ⟨.can, 0, 0x1900, 1, [1, 2], 0⟩ } }
    let seg : State := { on with acc := { on.acc with segs := [⟨.spi, 0, 0x1B00, 0x05, [1], 0⟩] } }
    on.serves spi 0x1900 1 = true ∧ ((on.readEntry u32 0x1900 1).toOption.map fun x => decide (x.1.length ≤ pathLimit spi.path)) = some true ∧
      on.serves spi 0x1B40 8 = true ∧ (on.attest.toOption).isNone = true ∧ (on.at_ 0).acc.snaps = [] ∧
      snapped.serves spi 0x1900 1 = true ∧ ((snapped.at_ 0).acc.snaps.find? fun x => x.path = spi.path && x.who = 0 && x.idx = 0x1900 && x.sub = 1).isSome = true ∧
      four.serves spi 0x1900 1 = true ∧ (four.at_ 0).acc.snaps.length = 4 ∧ on.serves spi 0 0 = true ∧
      (seg.updAcc fun a => { a with segs := [] }).serves spi 0x1B00 5 = true ∧ (seg.segOpen 0x1B00 5).isSome = true ∧
      ((Od.lookup 0x1B00 5).toOption.map fun r => decide (r.acc ≠ .ro ∧ r.acc ≠ .const)) = some true := by decide +kernel

theorem test_PathsForwardStallTimeOutAndReport :
    let far : Req := { spi with isLocal := false, node := 9 }
    let roll : State := { on with ring := { on.ring with nodes := [5, 9] } }
    let off (d : Nat) : State := { on with pwr := { on.pwr with doms := on.pwr.doms.set d .off } }
    let s : State := { on with acc := { on.acc with
      segs := [⟨.spi, 0, 0x1B00, 0x05, [1], 0⟩], snaps := [⟨.spi, 0, 0x1900, 1, [1, 2], 0⟩], fwd := [⟨7, far.msg 1 0x1900 1 [], 0⟩]
      spiReady := [[1]], canSt := 2, ethUp := true } }
    let can : State := on.wr Od.NET_CTRL 7
    let p : List Byte := [0x81, 7] ++ List.replicate 14 0
    on.pathOpen .spi = true ∧ on.queueFull far = false ∧ far.node ≠ on.ring.nodeId ∧ on.ring.nodes.contains far.node = false ∧
      roll.ring.nodes.contains far.node = true ∧ roll.acc.fwd.length < 64 ∧ (off 4).domOn (domainOf 0x2200 1) = false ∧
      domainOf 0x2200 1 ≠ domLink ∧ (Od.lookup 0x2200 1).toOption.isSome = true ∧ (off 6).domOn (domainOf 0x1280 1) = false ∧
      domainOf 0x1280 1 = domLink ∧ (Od.lookup 0x1280 1).toOption.isSome = true ∧ (s.segOpen 0x1B00 5).isSome = true ∧ s.runs = true ∧
      (s.acc.fwd.find? fun f => f.ownTag = leAt p 1 1 && f.msg.req.node = 9).isSome = true ∧ 16 + leAt p 12 2 ≤ p.length ∧
      s.acc.spiReady = [[1]] ∧ on.acc.spiReady = [] ∧ on.serves spi 0x1100 0x0F = true ∧ (Od.lookup 0x1100 0x0F).toOption.isSome = true ∧
      can.domOn domNet = true ∧ (can.rd Od.NET_CTRL).testBit 1 = true ∧ can.acc.canSt ≠ 2 ∧ s.acc.canSt = 2 ∧ s.acc.ethUp = true ∧
      can.pathOpen .eth = true ∧ can.rd Od.ETH_IPV4 < 2 ^ 32 := by decide +kernel
theorem test_SPI_frames :
    let req : List Byte := leBytes 1 1 ++ leBytes 1 7 ++ leBytes 2 0x8000 ++ leBytes 2 0x1900 ++ leBytes 1 1 ++ leBytes 1 0x10 ++ leBytes 8 0
    let l := req ++ crcBytes req
    l.drop (l.length - 2) = crcBytes (l.take (l.length - 2)) ∧ (parseMsg 0 .spi 0 (l.take (l.length - 2))).isSome = true ∧
      (req ++ [0, 0]).drop 16 ≠ crcBytes req := by decide +kernel
theorem test_trace_copies :
    let b := 2 ^ 28 + 0x1900 * 256 + 1
    let s : State := (on.wr (Od.TR_BIND 3) b)
    let s : State := { s with acc := { s.acc with traces := [⟨3, 0, 0⟩] } }
    bits b 31 28 = 1 ∧ s.rd (Od.TR_BIND 3) = b ∧ (s.trace 3).isSome = true ∧ (Od.lookup (bits b 23 8) (bits b 7 0)).toOption.isSome = true ∧
      s.domOn (domainOf 0x1900 1) = true := by decide +kernel

theorem test_ResetPulsesAreFilteredAndKeepTheRetention :
    on.pwr.held = false ∧ us 9 < us 10 ∧ us 50 ≤ us 60 ∧ us 60 ≤ secs 10 ∧ on.od.wf = true := by decide +kernel

theorem test_EntriesReadWhatWasWritten :
    on.od.wf = true ∧ on.od.find (Od.LS_RELEASE 5).key = none ∧ (Od.LS_RELEASE 6).key ≠ (Od.LS_RELEASE 5).key := by decide +kernel

end Sys2Proof.Tests
end

section
/-! PROOFS of the statements about the store of writable entries. Its keys rise strictly, so a search may end at the first
key above the one it looks for. -/

namespace Sys2Proof.Machine

/-! ### What a search finds after an insert and after an erase -/

theorem find_eq_none_of_lt {m : OdStore} {k : Nat} (h : ∀ b ∈ m, k < b.1) : m.find k = none := by
  cases m with
  | nil => rfl
  | cons a m =>
    have hk : k < a.1 := h a List.mem_cons_self
    simp [OdStore.find, hk, Nat.ne_of_gt hk]

theorem find_insert_same (m : OdStore) (k v : Nat) : (m.insert k v).find k = some v := by
  induction m with
  | nil => simp [OdStore.insert, OdStore.find]
  | cons a m ih =>
    unfold OdStore.insert
    split
    · simp [OdStore.find]
    · next hne =>
      split
      · simp [OdStore.find]
      · next hlt => simpa [OdStore.find, hne, hlt] using ih

theorem find_insert_of_ne (m : OdStore) {k k' : Nat} (v : Nat) (hk : k' ≠ k) : (m.insert k v).find k' = m.find k' := by
  induction m with
  | nil => simp [OdStore.insert, OdStore.find, hk.symm]
  | cons a m ih =>
    unfold OdStore.insert
    split
    · next he => simp [OdStore.find, he, hk.symm]
    · split
      · next hlt =>
        by_cases hb : k' < k
        · have ha : k' < a.1 := Nat.lt_trans hb hlt
          simp [OdStore.find, hk.symm, hb, ha, Nat.ne_of_gt ha]
        · simp [OdStore.find, hk.symm, hb]
      · simp [OdStore.find, ih]

theorem find_erase_same {m : OdStore} (k : Nat) (h : m.wf = true) : (m.erase k).find k = none := by
  induction m with
  | nil => rfl
  | cons a m ih =>
    obtain ⟨hbelow, hm⟩ := wf_cons.mp h
    unfold OdStore.erase
    split
    · next he => exact find_eq_none_of_lt fun b hb => he ▸ hbelow b hb
    · next hne =>
      split
      · next hlt => simp [OdStore.find, hne, hlt]
      · next hlt => simpa [OdStore.find, hne, hlt] using ih hm

theorem find_erase_of_ne {m : OdStore} {k k' : Nat} (h : m.wf = true) (hk : k' ≠ k) : (m.erase k).find k' = m.find k' := by
  induction m with
  | nil => rfl
  | cons a m ih =>
    obtain ⟨hbelow, hm⟩ := wf_cons.mp h
    unfold OdStore.erase
    split
    · next he =>
      by_cases hb : k' < a.1
      · have hnone : OdStore.find m k' = none := find_eq_none_of_lt fun b hmem => Nat.lt_trans hb (hbelow b hmem)
        simp [OdStore.find, he, hk.symm, he ▸ hb, hnone]
      · simp [OdStore.find, he, hk.symm, he ▸ hb]
    · split
      · rfl
      · simp [OdStore.find, ih hm]

/-! ### Reading a register after a write -/

theorem get_put_same {m : OdStore} (r : Reg) (v : Nat) (h : m.wf = true) : (m.put r v).get r = v := by
  unfold OdStore.put OdStore.get
  split
  · next hv => simp [find_erase_same r.key h, hv]
  · simp [find_insert_same]

theorem get_put_of_ne {m : OdStore} {r r' : Reg} (v : Nat) (h : m.wf = true) (hk : r'.key ≠ r.key) :
    (m.put r v).get r' = m.get r' := by
  unfold OdStore.put OdStore.get
  split
  · rw [find_erase_of_ne h hk]
  · rw [find_insert_of_ne m v hk]

theorem State.rd_wr_same {s : State} (r : Reg) (v : Nat) (h : s.od.wf = true) : (s.wr r v).rd r = v :=
  get_put_same r v h

theorem State.rd_wr_of_ne {s : State} {r r' : Reg} (v : Nat) (h : s.od.wf = true) (hk : r'.key ≠ r.key) :
    (s.wr r v).rd r' = s.rd r' :=
  get_put_of_ne v h hk

theorem State.wr_od_wf {s : State} (r : Reg) (v : Nat) (h : s.od.wf = true) : (s.wr r v).od.wf = true :=
  put_wf r v h

theorem State.rd_of_unlisted {s : State} {r : Reg} (h : s.od.find r.key = none) : s.rd r = r.dflt := by
  simp [State.rd, OdStore.get, h]

/-- Settles O60: a write replaces what is listed under its own key and nothing else. -/
theorem entriesReadWhatWasWritten : Obligations.EntriesReadWhatWasWritten := by
  unfold Obligations.EntriesReadWhatWasWritten
  refine ⟨fun s r v h => ?_, fun s r => State.rd_of_unlisted⟩
  exact ⟨State.rd_wr_same r v h, fun r' => State.rd_wr_of_ne v h, State.wr_od_wf r v h, rfl,
    State.rd_wr_same r (s.rd r) (State.wr_od_wf r v h)⟩

end Sys2Proof.Machine
end

section
/-! PROOFS of the statements about a WRITE of an entry: the checks of R448 and R462 in their order, and the commands that
are a WRITE of one entry. -/

namespace Sys2Proof.Machine

/-! ### The checks of a value (R447, R448) -/

theorem check_badLength {r : OdRow} {d : List Byte} (h : r.lenOk d = false) : r.check d = abLength := by
  simp [OdRow.check, h]

/-- The checks of a value that is a number, after that of its length. -/
theorem check_number {r : OdRow} {d : List Byte} (hl : r.lenOk d = true) (hv : r.ty.scalar = true ∨ r.var = false) :
    r.check d = if r.rsvOk (leNat d) && r.fieldsOk (leNat d) then if r.rangeOk (leNat d) then 0 else abRange
      else abReserved := by
  have hvar : (!r.ty.scalar && r.var) = false := by rcases hv with hv | hv <;> simp [hv]
  cases hrsv : r.rsvOk (leNat d) <;> cases hfields : r.fieldsOk (leNat d) <;> cases hrange : r.rangeOk (leNat d) <;>
    simp [OdRow.check, hl, hvar, hrsv, hfields, hrange]

theorem check_reserved {r : OdRow} {d : List Byte} (hl : r.lenOk d = true) (hv : r.ty.scalar = true ∨ r.var = false)
    (h : (r.rsvOk (leNat d) && r.fieldsOk (leNat d)) = false) : r.check d = abReserved := by
  simp [check_number hl hv, h]

theorem check_range {r : OdRow} {d : List Byte} (hl : r.lenOk d = true) (hv : r.ty.scalar = true ∨ r.var = false)
    (h : (r.rsvOk (leNat d) && r.fieldsOk (leNat d)) = true) :
    r.check d = if r.rangeOk (leNat d) then 0 else abRange := by
  simp [check_number hl hv, h]

/-! ### The orders 4 to 8 of R462: the first check that fails ends the write on the state as it was -/

/-- A WRITE may change the entry. -/
def OdRow.writable (r : OdRow) : Prop := r.acc ≠ .ro ∧ r.acc ≠ .const

section
variable {s : State} {r : OdRow} {idx sub : Nat} {d : List Byte}

theorem writeEntry_closed (h : ¬r.writable) : s.writeEntry r idx sub d = (s, abAccess) := by
  have h' : r.acc = .ro ∨ r.acc = .const := by
    by_cases hro : r.acc = .ro
    · exact .inl hro
    · exact .inr (Decidable.byContradiction fun hconst => h ⟨hro, hconst⟩)
  unfold State.writeEntry
  rcases h' with h' | h' <;> simp [h']

theorem writeEntry_badValue (ho : r.writable) (hc : r.check d ≠ 0) : s.writeEntry r idx sub d = (s, r.check d) := by
  obtain ⟨hro, hconst⟩ := ho
  unfold State.writeEntry
  rw [if_neg (by simp [hro, hconst])]
  split
  · contradiction
  · rfl

theorem writeEntry_legsOn (hc : r.check d = 0) (ha : r.acc = .rws) (hl : s.legsEnabled ≠ 0) :
    s.writeEntry r idx sub d = (s, abLegs) := by
  simp [State.writeEntry, hc, ha, hl]

theorem writeEntry_notDivisor (ho : r.writable) (hc : r.check d = 0) (hl : r.acc ≠ .rws ∨ s.legsEnabled = 0)
    (hs : s.segOpen idx sub = none) (hd : r.divides (leNat d) = false) : s.writeEntry r idx sub d = (s, abRange) := by
  obtain ⟨hro, hconst⟩ := ho
  have hl' : ¬(r.acc = .rws ∧ s.legsEnabled ≠ 0) := fun ⟨ha, hon⟩ => hl.elim (fun h => h ha) hon
  simp [State.writeEntry, hro, hconst, hc, hl', hs, hd]

/-! ### The answer -/

theorem finish_refused {q : Req} {op typ a : Nat} (h : a ≠ 0) :
    State.finish (s, a) (q.msg op idx sub d) typ = s.refusedWith q op idx sub a :=
  finish_error h

theorem doWrite_tooLong {q : Req} (ho : r.writable) (h : pathLimit q.path < d.length) :
    s.doWrite (q.msg 2 idx sub d) r = s.answer (q.msg 2 idx sub []) (.refuse abLength) := by
  obtain ⟨hro, hconst⟩ := ho
  have h' : (q.msg 2 idx sub d).data.length > pathLimit (q.msg 2 idx sub d).req.path := h
  simp only [State.doWrite, hro, hconst, h', ne_eq, not_false_eq_true, decide_true, Bool.and_self, if_true]
  rfl

theorem doWrite_fits {q : Req} (h : r.writable → d.length ≤ pathLimit q.path) :
    s.doWrite (q.msg 2 idx sub d) r =
      State.finish (s.writeEntry r idx sub d) (q.msg 2 idx sub []) (s.typeOf r idx sub) := by
  have h' : ¬((decide (r.acc ≠ .ro) && decide (r.acc ≠ .const) &&
      decide ((q.msg 2 idx sub d).data.length > pathLimit (q.msg 2 idx sub d).req.path)) = true) := by
    simp only [Bool.and_eq_true, decide_eq_true_eq]
    exact fun ⟨ho, hlen⟩ => absurd (h ho) (Nat.not_le.mpr hlen)
  rw [State.doWrite, if_neg h']
  rfl

theorem doWrite_refused {q : Req} {a : Nat} (h : r.writable → d.length ≤ pathLimit q.path)
    (he : s.writeEntry r idx sub d = (s, a)) (ha : a ≠ 0) :
    s.doWrite (q.msg 2 idx sub d) r = s.refusedWith q 2 idx sub a := by
  rw [doWrite_fits h, he]
  exact finish_refused ha

theorem doWrite_taken {q : Req} (h : d.length ≤ pathLimit q.path) (ht : r.takes s idx sub d = true) :
    s.doWrite (q.msg 2 idx sub d) r =
      State.finish (s.writeOwned r idx sub d) (q.msg 2 idx sub []) (s.typeOf r idx sub) := by
  rw [doWrite_fits fun _ => h, writeEntry_takes ht]

end

/-! ### OD_WRITE (R462) -/

/-- Orders 1 and 3 of R462 are what `serves` asks, so the request comes to its entry. -/
theorem takeReq_here {s : State} {m : Msg} (h : s.serves m.req m.idx m.sub = true) (ho : 0 < m.op) (ho' : m.op < 7) :
    (s.upTo m.req.t).takeReq m = (s.upTo m.req.t).serveHere m := by
  obtain ⟨-, hproto, hqueue, htimed, hnode, hstalled, -, -⟩ := serves_iff.mp h
  have hqueue' : (s.upTo m.req.t).queueFull m.req = false := (queueFull_upTo ..).trans hqueue
  have hfind : (s.acc.stalled.find? fun x => x.2.req.path = m.req.path && x.2.req.who = m.req.who) = none :=
    List.find?_eq_none.mpr fun x hx => List.any_eq_false.mp hstalled x hx
  have hop : ¬(m.op = 0 ∨ m.op > 7) := by omega
  unfold State.takeReq
  simp only [hproto, hqueue', htimed, hfind, State.upTo_acc, State.upTo_ring]
  rcases hnode with hnode | hnode <;> simp [hnode, hop]

/-- Only the entries of the clocks and of the self-test settle anything beside the request itself. -/
theorem exec_odWrite_takeReq {q : Req} {idx : BitVec 16} {sub : BitVec 8} (d : List Byte) {s : State}
    (h : s.serves q idx.toNat sub.toNat = true) (hi : idx.toNat ≠ 0x1C00) (hj : idx.toNat ≠ 0x1A00) :
    exec (.odWrite q idx sub d) s = .next ((s.upTo q.t).takeReq (q.msg 2 idx.toNat sub.toNat d)) := by
  have hpath : s.pathOpen q.path = true := (serves_iff.mp h).1
  show Host.Outcome.next (s.request _) = _
  simp [State.request, State.takeAll, Req.msg, hpath, hi, hj]

theorem exec_odWrite_served {q : Req} {idx : BitVec 16} {sub : BitVec 8} {d : List Byte} {r : OdRow} {s : State}
    (h : s.serves q idx.toNat sub.toNat = true) (hl : Od.lookup idx.toNat sub.toNat = .ok r)
    (hi : idx.toNat ≠ 0x1C00) (hj : idx.toNat ≠ 0x1A00) :
    exec (.odWrite q idx sub d) s = .next ((s.upTo q.t).doWrite (q.msg 2 idx.toNat sub.toNat d) r) :=
  (exec_odWrite_takeReq d h hi hj).trans <| congrArg Host.Outcome.next <|
    takeReq_served (m := q.msg 2 idx.toNat sub.toNat d) h Nat.two_pos (show 2 < 7 by decide) hl

/-- Order 2 of R462. -/
theorem exec_odWrite_noEntry {q : Req} {idx : BitVec 16} {sub : BitVec 8} {d : List Byte} {a : Nat} {s : State}
    (h : s.serves q idx.toNat sub.toNat = true) (hl : Od.lookup idx.toNat sub.toNat = .error a)
    (hi : idx.toNat ≠ 0x1C00) (hj : idx.toNat ≠ 0x1A00) :
    exec (.odWrite q idx sub d) s = .next ((s.upTo q.t).answer (q.msg 2 idx.toNat sub.toNat []) (.refuse a)) := by
  have hhere := takeReq_here (m := q.msg 2 idx.toNat sub.toNat d) h Nat.two_pos (show 2 < 7 by decide)
  have hnone : (s.upTo q.t).serveHere (q.msg 2 idx.toNat sub.toNat d) =
      (s.upTo q.t).answer (q.msg 2 idx.toNat sub.toNat d) (.refuse a) := by
    simp [State.serveHere, Req.msg, hl]
  exact (exec_odWrite_takeReq d h hi hj).trans (congrArg Host.Outcome.next (hhere.trans hnone))

/-! ### Commands that write a value of their own choice (R448) -/

theorem exec_of_valueWrite {c : Instr} {q : Req} {i u : Nat} {d : List Byte} (s : State)
    (h : valueWrite c = some (q, i, u, d)) : exec c s = .next (s.writeCmd q i u d) := by
  unfold valueWrite at h
  split at h <;> cases h <;> rfl

/-- Settles O55: each check of R462 in turn decides `writeEntry`, and `doWrite` answers what it decided. -/
theorem entryWritesAreCheckedInOrder : Obligations.EntryWritesAreCheckedInOrder := by
  unfold Obligations.EntryWritesAreCheckedInOrder
  refine ⟨fun q idx sub d row s hs hl hi hj => ?_,
    fun row d => ⟨check_badLength, check_reserved, check_range⟩,
    fun q idx sub d a s => exec_odWrite_noEntry, fun c q i u d idx sub s hc hi hu => ?_⟩
  · simp only [exec_odWrite_served hs hl hi hj, Host.Outcome.next.injEq]
    have hseg := seg_upTo hs q.t
    refine ⟨fun ho => ?_, fun ho hlen => ?_, fun ho hlen hc => ?_, fun ho hlen hc ha hlegs => ?_,
      fun ho hlen hc hlegs hd => ?_, fun ho hlen hc hlegs hd => ?_⟩
    · exact doWrite_refused (fun h => absurd h ho) (writeEntry_closed ho) (by decide)
    · exact doWrite_tooLong ho hlen
    · exact doWrite_refused (fun _ => hlen) (writeEntry_badValue ho hc) hc
    · exact doWrite_refused (fun _ => hlen) (writeEntry_legsOn hc ha hlegs) (by decide)
    · exact doWrite_refused (fun _ => hlen) (writeEntry_notDivisor ho hc hlegs hseg hd) (by decide)
    · exact doWrite_taken hlen (takes_of ho hc hlegs hseg hd)
  · subst hi hu
    exact exec_of_valueWrite s hc

end Sys2Proof.Machine
end

section
/-! PROOFS of the statements about the gates of a leg. Every operation keeps what `State.Good` says (Laws/Good.lean), so each
command does; what a command may raise is the one gate that GATE_RELEASE names. -/

namespace Sys2Proof.Machine

/-! ### What every command keeps -/

/-- Whatever the command, it answers a next state that meets the claim that the state before met. GATE_RELEASE asks that
the claim allow the gate it raises (R87). -/
theorem exec_good {Q : Claim} (c : Instr) (s : State) (ht : ∀ l gh, c = .gateRelease l gh → Q.top l.val gh = true)
    (h : s.Good Q) : ∃ t, exec c s = .next t ∧ t.Good Q := by
  cases c with
  | odRead q idx sub len => exact execOdRead_good q idx sub len s h
  | odWrite q idx sub data => exact execOdWrite_good q idx sub data s h
  | describe q idx sub offset len => exact execDescribe_good q idx sub offset len s h
  | readSeg q idx sub snap offset len => exact execReadSeg_good q idx sub snap offset len s h
  | writeSeg q idx sub first last offset data => exact execWriteSeg_good q idx sub first last offset data s h
  | abortSeg q idx sub => exact execAbortSeg_good q idx sub s h
  | hello q len => exact execHello_good q len s h
  | segmentTimeout idx sub => exact execSegmentTimeout_good idx sub s h
  | snapshotRelease => exact execSnapshotRelease_good s h
  | odResponseRx t src p => exact execOdResponseRx_good t src p s h
  | odRemoteTmo => exact execOdRemoteTmo_good s h
  | writeReq t l whole => exact execWriteReq_good t l whole s h
  | readResp t whole => exact execReadResp_good t whole s h
  | readStatus t => exact execReadStatus_good t s h
  | spiIrqPendRead q => exact execSpiIrqPendRead_good q s h
  | canBusOff t => exact execCanBusOff_good t s h
  | ethLinkDown t => exact execEthLinkDown_good t s h
  | trPeriodCopy sig => exact execTrPeriodCopy_good sig s h
  | slotTemplateWrite q c v => exact execSlotTemplateWrite_good q c v s h
  | start q c mask => exact execStart_good q c mask s h
  | stop q c mask => exact execStop_good q c mask s h
  | bypass q c mask => exact execBypass_good q c mask s h
  | insert q c mask => exact execInsert_good q c mask s h
  | clear q c mask => exact execClear_good q c mask s h
  | allStop q => exact execAllStop_good q s h
  | unitLoopBind q c u v => exact execUnitLoopBind_good q c u v s h
  | safeoffStep c u => exact execSafeoffStep_good c u s h
  | carRunStart q k => exact execCarRunStart_good q k s h
  | carRunStop q k => exact execCarRunStop_good q k s h
  | carrierStart k => exact execCarrierStart_good k s h
  | carrierValley k => exact execCarrierValley_good k s h
  | carrierPeak k => exact execCarrierPeak_good k s h
  | carCommit q k => exact execCarCommit_good q k s h
  | carCommitDiscard q k => exact execCarCommitDiscard_good q k s h
  | legOwnPeak l => exact execLegOwnPeak_good l s h
  | forceNone q l imm => exact execForceNone_good q l imm s h
  | forceOff q l imm => exact execForceOff_good q l imm s h
  | forceUpper q l imm => exact execForceUpper_good q l imm s h
  | forceLower q l imm => exact execForceLower_good q l imm s h
  | forceRaw q l imm gh gl => exact execForceRaw_good q l imm gh gl s h
  | bootRefreshEnd l => exact execBootRefreshEnd_good l s h
  | pklCut src stream v t => exact execPklCut_good src stream v t s h
  | pwmParityError t carrier k => exact execPwmParityError_good t carrier k s h
  | clkPwmMissing t => exact execClkPwmMissing_good t s h
  | gateRelease l gh => exact execGateRelease_good l gh s (ht l gh rfl) h
  | snTransition l t high => exact execSnTransition_good l t high s h
  | snConfirmExpiry l => exact execSnConfirmExpiry_good l s h
  | ggDtWrite q l which v => exact execGgDtWrite_good q l which v s h
  | fkAssert l t => exact execFkAssert_good l t s h
  | fkRelease l t => exact execFkRelease_good l t s h
  | fkDecision l => exact execFkDecision_good l s h
  | fkHard l => exact execFkHard_good l s h
  | blankingEnd l => exact execBlankingEnd_good l s h
  | supplyWakeExpiry l => exact execSupplyWakeExpiry_good l s h
  | ggParityError t w => exact execGgParityError_good t w s h
  | safeoffRecordRx t node id slot die t0 => exact execSafeoffRecordRx_good t node id slot die t0 s h
  | safeoffRecordExpiry => exact execSafeoffRecordExpiry_good s h
  | stringTripRecordRx t node id => exact execStringTripRecordRx_good t node id s h
  | stoAssert g t width => exact execStoAssert_good g t width s h
  | stoRelease g t => exact execStoRelease_good g t s h
  | mdCtrlWrite q m which v => exact execMdCtrlWrite_good q m which v s h
  | mdTimingViolation m t => exact execMdTimingViolation_good m t s h
  | mdClockRecover m => exact execMdClockRecover_good m s h
  | mdRunLimit m t run => exact execMdRunLimit_good m t run s h
  | mdFilterFilled m t ctrl => exact execMdFilterFilled_good m t ctrl s h
  | mdTrip m t stream => exact execMdTrip_good m t stream s h
  | mdCtrlOutput stream => exact execMdCtrlOutput_good stream s h
  | trgSample => exact execTrgSample_good s h
  | sarConversionDone codes => exact execSarConversionDone_good codes s h
  | sliceStreamUpdate k e o e2 => exact execSliceStreamUpdate_good k e o e2 s h
  | sliceConverged k skew => exact execSliceConverged_good k skew s h
  | queueEntry => exact execQueueEntry_good s h
  | qHostPop q => exact execQHostPop_good q s h
  | qHostAgeExpiry => exact execQHostAgeExpiry_good s h
  | qClr q => exact execQClr_good q s h
  | loopQueueIntake => exact execLoopQueueIntake_good s h
  | lsProgramWrite q n img => exact execLsProgramWrite_good q n img s h
  | lsRun q n => exact execLsRun_good q n s h
  | lsStop q n => exact execLsStop_good q n s h
  | lsHold q n => exact execLsHold_good q n s h
  | lsResume q n => exact execLsResume_good q n s h
  | lsUnload q n => exact execLsUnload_good q n s h
  | lsRunReady n => exact execLsRunReady_good n s h
  | lsInTimeout n => exact execLsInTimeout_good n s h
  | lsRunStart p => exact execLsRunStart_good p s h
  | lsRunEnd n => exact execLsRunEnd_good n s h
  | legDelivery => exact execLegDelivery_good s h
  | lsDeadline n => exact execLsDeadline_good n s h
  | lsBankSwap q n => exact execLsBankSwap_good q n s h
  | lsCoefImageWrite q n img => exact execLsCoefImageWrite_good q n img s h
  | lsCoefWordWrite q n v => exact execLsCoefWordWrite_good q n v s h
  | lsCoefDirect q n w v => exact execLsCoefDirect_good q n w v s h
  | lsInValWrite q n k v => exact execLsInValWrite_good q n k v s h
  | loopEccError t n corrected => exact execLoopEccError_good t n corrected s h
  | raCommitStage p => exact execRaCommitStage_good p s h
  | raTLate n => exact execRaTLate_good n s h
  | cellCycleBoundary => exact execCellCycleBoundary_good s h
  | precharge q k => exact execPrecharge_good q k s h
  | mainClosed q k => exact execMainClosed_good q k s h
  | strStop q k => exact execStrStop_good q k s h
  | strClear q k => exact execStrClear_good q k s h
  | strCmdApply k => exact execStrCmdApply_good k s h
  | stringRecordRx t node kind id cmd apply => exact execStringRecordRx_good t node kind id cmd apply s h
  | strPcTimeout k => exact execStrPcTimeout_good k s h
  | strBypCheck k => exact execStrBypCheck_good k s h
  | strHomeLost k => exact execStrHomeLost_good k s h
  | strRideOut k => exact execStrRideOut_good k s h
  | lvcTrip a v t => exact execLvcTrip_good a v t s h
  | lvpStart q e => exact execLvpStart_good q e s h
  | lvpStop q e => exact execLvpStop_good q e s h
  | lvpClear q e => exact execLvpClear_good q e s h
  | drvListenTimeout e => exact execDrvListenTimeout_good e s h
  | fbScQuadrantStep t sv cv => exact execFbScQuadrantStep_good t sv cv s h
  | scAmpBad t samples => exact execScAmpBad_good t samples s h
  | hallChange t code => exact execHallChange_good t code s h
  | plsStep t a b hold => exact execPlsStep_good t a b hold s h
  | fbSpdTimeout k => exact execFbSpdTimeout_good k s h
  | fbScCountWrite q v => exact execFbScCountWrite_good q v s h
  | fbPlsCountWrite q v => exact execFbPlsCountWrite_good q v s h
  | fbIrqClr q v => exact execFbIrqClr_good q v s h
  | fbCtrlWrite q v => exact execFbCtrlWrite_good q v s h
  | thIntervalTick ok => exact execThIntervalTick_good ok s h
  | thDieConversion d0 d1 d2 d3 ok => exact execThDieConversion_good d0 d1 d2 d3 ok s h
  | thRecRetry ok => exact execThRecRetry_good ok s h
  | thShutClr q v => exact execThShutClr_good q v s h
  | thSensorClr q c => exact execThSensorClr_good q c s h
  | faultIntake => exact execFaultIntake_good s h
  | faultTransientExpiry code k => exact execFaultTransientExpiry_good code k s h
  | almCoalesceEnd code k => exact execAlmCoalesceEnd_good code k s h
  | faultReset => exact execFaultReset_good s h
  | fltClr q code k => exact execFltClr_good q code k s h
  | fltFirstClr q v => exact execFltFirstClr_good q v s h
  | fltCfgWrite q code v => exact execFltCfgWrite_good q code v s h
  | sfWdExpiry t => exact execSfWdExpiry_good t s h
  | sfStoHwMismatch t g => exact execSfStoHwMismatch_good t g s h
  | safeWrite q idx sub data => exact execSafeWrite_good q idx sub data s h
  | sfStoDisc => exact execSfStoDisc_good s h
  | stoReleaseQualified g => exact execStoReleaseQualified_good g s h
  | sfStoAck q v => exact execSfStoAck_good q v s h
  | sfProofTest g pass => exact execSfProofTest_good g pass s h
  | sfStoTestDue g => exact execSfStoTestDue_good g s h
  | soTestPulse n low => exact execSoTestPulse_good n low s h
  | soReadbackFault t n rb => exact execSoReadbackFault_good t n rb s h
  | sdpSend p => exact execSdpSend_good p s h
  | safeTelegramRx src t tel => exact execSafeTelegramRx_good src t tel s h
  | sdcSkewExpiry k => exact execSdcSkewExpiry_good k s h
  | sdcWdExpiry k => exact execSdcWdExpiry_good k s h
  | sfOpen q => exact execSfOpen_good q s h
  | sfVerify q => exact execSfVerify_good q s h
  | sfAbort q => exact execSfAbort_good q s h
  | sfConfirm q v => exact execSfConfirm_good q v s h
  | sfImageWrite q img => exact execSfImageWrite_good q img s h
  | sfSignoffTimeout => exact execSfSignoffTimeout_good s h
  | laneEnable q n on => exact execLaneEnable_good q n on s h
  | laneHold q n on => exact execLaneHold_good q n on s h
  | laneTest q n v => exact execLaneTest_good q n v s h
  | laneLoop q n v => exact execLaneLoop_good q n v s h
  | laneCntClr q n => exact execLaneCntClr_good q n s h
  | sfpModuleDetect t n page => exact execSfpModuleDetect_good t n page s h
  | laneDdmRead t n bytes => exact execLaneDdmRead_good t n bytes s h
  | blockLock t n => exact execBlockLock_good t n s h
  | blockLockLoss t n passing => exact execBlockLockLoss_good t n passing s h
  | hiBer t n bad passing => exact execHiBer_good t n bad passing s h
  | elasticError t n passing => exact execElasticError_good t n passing s h
  | lanePpmMeasure t n ins del blocks fill => exact execLanePpmMeasure_good t n ins del blocks fill s h
  | trainBlockRx t n line passing => exact execTrainBlockRx_good t n line passing s h
  | holdBlockRx t n passing => exact execHoldBlockRx_good t n passing s h
  | errBlockRx t n kind passing => exact execErrBlockRx_good t n kind passing s h
  | sfpLos t n on passing => exact execSfpLos_good t n on passing s h
  | laneInputLost t n passing => exact execLaneInputLost_good t n passing s h
  | laneTrainTimeout n => exact execLaneTrainTimeout_good n s h
  | ringFrameRx t n l => exact execRingFrameRx_good t n l s h
  | ringTxStart n => exact execRingTxStart_good n s h
  | tc0Send k => exact execTc0Send_good k s h
  | systemCycle => exact execSystemCycle_good s h
  | rollCall q => exact execRollCall_good q s h
  | rollCallCommit apply roll => exact execRollCallCommit_good apply roll s h
  | rollCallTimeout => exact execRollCallTimeout_good s h
  | tc3WaitExpiry => exact execTc3WaitExpiry_good s h
  | almAck q seq => exact execAlmAck_good q seq s h
  | almRead q => exact execAlmRead_good q s h
  | almSumPeriod => exact execAlmSumPeriod_good s h
  | timeBlockTx n => exact execTimeBlockTx_good n s h
  | timeBlockRx n line t => exact execTimeBlockRx_good n line t s h
  | tmServoTick => exact execTmServoTick_good s h
  | tmRefLost => exact execTmRefLost_good s h
  | ptpSyncRx t d o delay logSync => exact execPtpSyncRx_good t d o delay logSync s h
  | ptpLost d => exact execPtpLost_good d s h
  | ppsInEdge t falling => exact execPpsInEdge_good t falling s h
  | ppsInLost => exact execPpsInLost_good s h
  | tmSet q v => exact execTmSet_good q v s h
  | bellArm q b => exact execBellArm_good q b s h
  | bellStop q b => exact execBellStop_good q b s h
  | bellRing b => exact execBellRing_good b s h
  | trigInputEdge n t rising held => exact execTrigInputEdge_good n t rising held s h
  | mgrHeartbeatRx t src p => exact execMgrHeartbeatRx_good t src p s h
  | mgrListenExpiry => exact execMgrListenExpiry_good s h
  | mgrTakePass => exact execMgrTakePass_good s h
  | transferReqRx t => exact execTransferReqRx_good t s h
  | stateRx t ks ofs total chunk => exact execStateRx_good t ks ofs total chunk s h
  | transferTimeout => exact execTransferTimeout_good s h
  | mgrTransfer q => exact execMgrTransfer_good q s h
  | mgrHandback q => exact execMgrHandback_good q s h
  | reclaimHoldExpiry => exact execReclaimHoldExpiry_good s h
  | handbackReqRx t => exact execHandbackReqRx_good t s h
  | handbackAcceptRx t kh => exact execHandbackAcceptRx_good t kh s h
  | handbackAbortRx t reason => exact execHandbackAbortRx_good t reason s h
  | handbackSwitch => exact execHandbackSwitch_good s h
  | overlapEnd => exact execOverlapEnd_good s h
  | wkHoldExpiry => exact execWkHoldExpiry_good s h
  | wkDroopExpiry => exact execWkDroopExpiry_good s h
  | rcPeriodTick t idle => exact execRcPeriodTick_good t idle s h
  | clkApply q => exact execClkApply_good q s h
  | clkDiscard q => exact execClkDiscard_good q s h
  | pllSysLock t count => exact execPllSysLock_good t count s h
  | pllSysUnlock t count => exact execPllSysUnlock_good t count s h
  | relockTimeout => exact execRelockTimeout_good s h
  | pllLinkLockChange t on err => exact execPllLinkLockChange_good t on err s h
  | refclkLost t => exact execRefclkLost_good t s h
  | refclkReturn t => exact execRefclkReturn_good t s h
  | linkclkLost t => exact execLinkclkLost_good t s h
  | clkFreqError t k hz => exact execClkFreqError_good t k hz s h
  | clkPeriodGuard t k => exact execClkPeriodGuard_good t k s h
  | pwrReqWrite q v => exact execPwrReqWrite_good q v s h
  | domainWakeAccess t d a => exact execDomainWakeAccess_good t d a s h
  | domainReady d t => exact execDomainReady_good d t s h
  | pwrWakeTmo d => exact execPwrWakeTmo_good d s h
  | pwrBank t b => exact execPwrBank_good t b s h
  | pwrAnalog t => exact execPwrAnalog_good t s h
  | pwrIo t k => exact execPwrIo_good t k s h
  | sleep q => exact execSleep_good q s h
  | wakeN t width => exact execWakeN_good t width s h
  | sleepTimerExpiry => exact execSleepTimerExpiry_good s h
  | porstN t low => exact execPorstN_good t low s h
  | rstN t width => exact execRstN_good t width s h
  | rstHeld t => exact execRstHeld_good t s h
  | rstCmd q => exact execRstCmd_good q s h
  | hostWdService q => exact execHostWdService_good q s h
  | hostWdExpiry => exact execHostWdExpiry_good s h
  | bootStageDone t bad => exact execBootStageDone_good t bad s h
  | cfgCommit q => exact execCfgCommit_good q s h
  | cfgDefaults q => exact execCfgDefaults_good q s h
  | cfgCommitDone t good => exact execCfgCommitDone_good t good s h
  | cfgImageWrite q img => exact execCfgImageWrite_good q img s h
  | fwImageWrite q img => exact execFwImageWrite_good q img s h
  | fwActivate q => exact execFwActivate_good q s h
  | fwConfirm q => exact execFwConfirm_good q s h
  | ownerKey q => exact execOwnerKey_good q s h
  | revokeKey0 q => exact execRevokeKey0_good q s h
  | ownRb q => exact execOwnRb_good q s h
  | debugKill q => exact execDebugKill_good q s h
  | secDebugUnlock q img => exact execSecDebugUnlock_good q img s h
  | secNonce q data => exact execSecNonce_good q data s h
  | secAttest q => exact execSecAttest_good q s h
  | celLogPageWrite => exact execCelLogPageWrite_good s h
  | trigger q => exact execTrigger_good q s h
  | protect q => exact execProtect_good q s h
  | unprotect q => exact execUnprotect_good q s h
  | upload q => exact execUpload_good q s h
  | celRead q offset len => exact execCelRead_good q offset len s h
  | celDumpEnd => exact execCelDumpEnd_good s h
  | bistRun q => exact execBistRun_good q s h
  | bistAbort q => exact execBistAbort_good q s h
  | bistRunEnd sig addr => exact execBistRunEnd_good sig addr s h
  | legCommandEdge l => exact execLegCommandEdge_good l s h
  | legOwnValley l => exact execLegOwnValley_good l s h
  | mdTripRelease m t stream => exact execMdTripRelease_good m t stream s h
  | lvcTripRelease a t v => exact execLvcTripRelease_good a t v s h
  | supplyInRange t k => exact execSupplyInRange_good t k s h
  | pwmPhaseError t e steps lasts => exact execPwmPhaseError_good t e steps lasts s h
  | prbsLock t n checked errs => exact execPrbsLock_good t n checked errs s h
  | moduleAbsent t n => exact execModuleAbsent_good t n s h
  | scAmpGood t samples => exact execScAmpGood_good t samples s h
  | uploadDone => exact execUploadDone_good s h
  | preWindowWritten => exact execPreWindowWritten_good s h
  | fuseCmdDone t good => exact execFuseCmdDone_good t good s h
  | sramEccError t safe corrected => exact execSramEccError_good t safe corrected s h
  | ppsOutSecond => exact execPpsOutSecond_good s h
  | pulseWidthEnd => exact execPulseWidthEnd_good s h
  | ethLinkUp t fast => exact execEthLinkUp_good t fast s h
  | canBusOffRecovery t => exact execCanBusOffRecovery_good t s h
  | soPulseEnd n high => exact execSoPulseEnd_good n high s h
  | arpIcmpRequest t icmp ip who => exact execArpIcmpRequest_good t icmp ip who s h
  | ptpAnnounceRx t d gm arb steps => exact execPtpAnnounceRx_good t d gm arb steps s h

/-- The gates that a command may raise: by leg, GH where the flag is set, GL where it is not. -/
def raisesGate : Instr → Nat → Bool → Bool
  | .gateRelease i gh => fun l high => decide (i.val = l) && gh == high
  | _ => fun _ _ => false

/-- What a command leaves of a state: the queue, soundness and the interlock where they held, the gates that were high or
that the command raises, the fuses. -/
def State.claimFor (s : State) (c : Instr) : Claim where
  queue := s.pending
  wasSound := s.sound = true
  wasLocked := s.interlocked = true
  top l high := (if high then (s.gg l).gh else (s.gg l).gl) || raisesGate c l high
  fuses := s.nor.fuses

theorem good_claimFor (s : State) (c : Instr) : s.Good (s.claimFor c) := by
  obtain ⟨hqueue, hsound, hlocked, hgates, hfuses⟩ := good_self s
  refine ⟨hqueue, hsound, hlocked, fun l g hg => ?_, hfuses⟩
  obtain ⟨hgh, hgl⟩ := hgates l g hg
  exact ⟨fun e => Bool.or_eq_true_iff.mpr (.inl (hgh e)), fun e => Bool.or_eq_true_iff.mpr (.inl (hgl e))⟩

theorem good_of_exec {c : Instr} {s t : State} (e : exec c s = .next t) : t.Good (s.claimFor c) := by
  have hraise : ∀ l gh, c = .gateRelease l gh → (s.claimFor c).top l.val gh = true := by
    rintro l gh rfl
    simp [State.claimFor, raisesGate]
  obtain ⟨u, hu, hgood⟩ := exec_good c s hraise (good_claimFor s c)
  cases e.symm.trans hu
  exact hgood

/-! ### The interlock of R15 -/

theorem exec_keeps_interlocked {c : Instr} {s t : State} (e : exec c s = .next t) (h : s.interlocked = true) :
    t.interlocked = true := by
  obtain ⟨-, -, hlocked, -, -⟩ := good_of_exec e
  exact hlocked h

/-- Settles O5: on an empty queue only time passes, and a command keeps the interlock whatever it is. -/
theorem stepKeepsGatesInterlocked : Obligations.StepKeepsGatesInterlocked := by
  unfold Obligations.StepKeepsGatesInterlocked
  intro s t hs e
  unfold step at e
  split at e
  · cases e
    exact hs
  · exact exec_keeps_interlocked e hs

/-! ### Who raises a gate -/

theorem raisesGate_iff {c : Instr} {l : Nat} {gh : Bool} :
    raisesGate c l gh = true ↔ ∃ i : Fin 192, i.val = l ∧ c = .gateRelease i gh := by
  constructor
  · intro h
    unfold raisesGate at h
    split at h
    · next i gh' =>
      simp only [Bool.and_eq_true, decide_eq_true_eq, beq_iff_eq] at h
      exact ⟨i, h.1, by rw [h.2]⟩
    · cases h
  · rintro ⟨i, rfl, rfl⟩
    simp [raisesGate]

/-- A leg without a guard has no gate that is high. -/
theorem gate_high_iff {s : State} {l : Nat} {high : Guard → Bool} (h : high {} = false) :
    high (s.gg l) = true ↔ ∃ a, s.gates[l]? = some a ∧ high a = true := by
  unfold State.gg
  rw [List.getD_eq_getElem?_getD]
  cases s.gates[l]? <;> simp [h]

/-- Settles O6: a gate that the claim of a command allows was high before or is the one it raises. -/
theorem onlyGateReleaseRaisesAGate : Obligations.OnlyGateReleaseRaisesAGate := by
  unfold Obligations.OnlyGateReleaseRaisesAGate
  intro c s t e l b hb
  obtain ⟨-, -, -, hgates, -⟩ := good_of_exec e
  obtain ⟨hgh, hgl⟩ := hgates l b hb
  exact ⟨fun h => (Bool.or_eq_true_iff.mp (hgh h)).imp (gate_high_iff (high := Guard.gh) rfl).mp raisesGate_iff.mp,
    fun h => (Bool.or_eq_true_iff.mp (hgl h)).imp (gate_high_iff (high := Guard.gl) rfl).mp raisesGate_iff.mp⟩

end Sys2Proof.Machine
end

section
/-! PROOFS of the statements about power domains and supplies: what each command of chapter 20 does to a device that runs,
and to one that is held in reset or asleep. -/

namespace Sys2Proof.Machine

/-! ### A device that runs sees its commands -/

theorem State.awake_runs {s : State} (f : State → State) (h : s.runs = true) : s.awake f = f s := if_pos h

/-! ### PWR_REQ (R497) -/

theorem exec_pwrReqWrite_accepted {q : Req} {v : BitVec 16} {s : State} (h : s.serves q 0x1900 0x02 = true)
    (hv : v.toNat &&& 0xFC00 = 0) (ha : ((s.upTo q.t).pwrReq v.toNat).2 = false) :
    exec (.pwrReqWrite q v) s = .next (((s.upTo q.t).pwrReq v.toNat).1.accepted q 2 0x1900 0x02 3) := by
  refine (execPwrReqWrite_served q v h hv).trans ?_
  rw [ha]
  rfl

theorem exec_pwrReqWrite_refused {q : Req} {v : BitVec 16} {s : State} (h : s.serves q 0x1900 0x02 = true)
    (hv : v.toNat &&& 0xFC00 = 0) (ha : ((s.upTo q.t).pwrReq v.toNat).2 = true) :
    exec (.pwrReqWrite q v) s = .next (((s.upTo q.t).pwrReq v.toNat).1.refusedWith q 2 0x1900 0x02 0x010A) := by
  refine (execPwrReqWrite_served q v h hv).trans ?_
  rw [ha]
  rfl

/-! ### Accesses over the interconnect (R14, R498) -/

/-- What an access wakes: LOOP, LEGS, MEAS, NET, STORE or FEED, off and not held by a self-test. -/
def State.mayWake (s : State) (d : Nat) : Prop :=
  3 ≤ d ∧ d ≠ 6 ∧ s.bist.held.testBit d = false ∧ s.pwr.doms.getD d .off = .off

theorem accessWake_mayWake {s : State} {d : Nat} (master : Nat) (hd : d < 10) (h : s.mayWake d) : s.accessWake d master =
    ((s.updPwr fun p => { p with doms := p.doms.set d (.waking s.now 2 master) }).reqBit d true).wakeRecord d 2 master := by
  obtain ⟨hmin, hlink, hheld, hoff⟩ := h
  unfold State.accessWake State.wake
  rw [if_neg hlink, if_pos (by simp only [hmin, hd, hheld, hoff, decide_true, Bool.not_false, Bool.and_self])]

theorem accessWake_not_mayWake {s : State} {d : Nat} (master : Nat) (h : ¬s.mayWake d) : s.accessWake d master = s := by
  unfold State.accessWake State.wake
  split
  · rfl
  · next hlink =>
    refine if_neg fun hw => h ?_
    simp only [Bool.and_eq_true, decide_eq_true_eq, Bool.not_eq_true'] at hw
    obtain ⟨⟨⟨hmin, -⟩, hheld⟩, hoff⟩ := hw
    exact ⟨hmin, hlink, hheld, hoff⟩

/-- Only the safety core writes into SAFE. -/
theorem busAccess_barred {s : State} {master : Nat} (h : master ≠ 2) : s.busAccess 2 master true =
    { s with free := s.free + 1 }.raiseBy Flt.BUS_ACCESS master 0 (busCapture master 2 (Config.freeValue s.free)) := by
  simp [State.busAccess, State.draw, h]

theorem busAccess_passes {s : State} {d master : Nat} {write : Bool} (h : ¬(write = true ∧ d = 2 ∧ master ≠ 2)) :
    s.busAccess d master write = s.accessWake d master := by
  refine if_neg fun hb => h ?_
  simpa only [Bool.and_eq_true, decide_eq_true_eq, and_assoc] using hb

theorem exec_domainWakeAccess {t : Nat} {d : Fin 10} {a : BusUse} {s : State} (h : s.runs = true) :
    exec (.domainWakeAccess t d a) s = .next ((s.at_ t).busAccess d.val a.master.val a.write) :=
  congrArg Host.Outcome.next (State.awake_runs _ h)

/-! ### The end of a wake (R498, R499) -/

section
variable {s : State} {d : Fin 10} {since source master : Nat} (hr : s.runs = true)
  (hd : s.pwr.doms.getD d.val .off = .waking since source master)
include hr hd

theorem exec_domainReady_waking (t : Nat) : exec (.domainReady d t) s = .next
    (((((s.at_ (min t (since + 4 * wakeTime d.val))).updPwr fun p =>
      { p with doms := p.doms.set d.val .on, wakes := up32 p.wakes }).domainUp d.val).wakeRecord d.val source master).serveStalled) := by
  refine congrArg Host.Outcome.next ((State.awake_runs _ hr).trans ?_)
  simp only [State.domainReady, hd]

theorem exec_pwrWakeTmo_waking :
    let a := (s.at_ (since + 4 * wakeTime d.val)).wakeAccess d.val source master
    exec (.pwrWakeTmo d) s = .next
      ((((a.2.domainOff d.val).reqBit d.val false).raiseBy Flt.PWR_WAKE_TMO d.val 0 a.1).refuseStalled d.val) := by
  refine congrArg Host.Outcome.next ((State.awake_runs _ hr).trans ?_)
  simp only [State.wakeTimeout, hd]

end

/-! ### Supplies (R494, R496) -/

theorem pwrBank_idle {s : State} {b : Nat} (h : ((List.range 24).any fun i => (s.leg (24 * b + i)).enabled) = false) :
    s.pwrBank b = s.supplySet b false := by
  simp only [State.pwrBank, h, Bool.not_false, if_true]

theorem pwrBank_enabled {s : State} {b : Nat} (h : ((List.range 24).any fun i => (s.leg (24 * b + i)).enabled) = true) :
    s.pwrBank b =
      let x := s.supplySet b false
      (x.each (x.allUnits.filter fun cu => (x.unitLegIds cu.1 cu.2).any fun l => bankOf l = b) fun x cu =>
        if (x.ust cu.1 cu.2).live then x.safeOffUnit cu.1 cu.2 Flt.PWR_BANK false else x).raise Flt.PWR_BANK b := by
  simp only [State.pwrBank, h, Bool.not_true, Bool.false_eq_true, if_false]

theorem exec_pwrBank_runs {t : Nat} {b : Fin 8} {s : State} (h : s.runs = true) :
    exec (.pwrBank t b) s = .next ((s.at_ t).pwrBank b.val).settleReset :=
  congrArg Host.Outcome.next (if_pos h)

theorem exec_pwrAnalog_runs {t : Nat} {s : State} (h : s.runs = true) :
    exec (.pwrAnalog t) s = .next (s.at_ t).pwrAnalog :=
  congrArg Host.Outcome.next (if_pos h)

theorem exec_pwrIo_runs {t : Nat} {k : Fin 3} {s : State} (h : s.runs = true) :
    exec (.pwrIo t k) s = .next ((s.at_ t).pwrIo (9 + k.val)) :=
  congrArg Host.Outcome.next (if_pos h)

/-- A device held in reset or asleep notes a lost supply and does no more. -/
theorem exec_supplyLost_rests {t : Nat} {s : State} (h : s.runs = false) :
    (∀ b : Fin 8, exec (.pwrBank t b) s = .next ((s.at_ t).supplySet b.val false)) ∧
    exec (.pwrAnalog t) s = .next ((s.at_ t).supplySet 8 false) ∧
    ∀ k : Fin 3, exec (.pwrIo t k) s = .next ((s.at_ t).supplySet (9 + k.val) false) := by
  have hn : ¬s.runs = true := by simp [h]
  exact ⟨fun _ => congrArg Host.Outcome.next (if_neg hn), congrArg Host.Outcome.next (if_neg hn),
    fun _ => congrArg Host.Outcome.next (if_neg hn)⟩

/-- Settles O50: each clause is what its command does, in a device that runs or in one that rests. -/
theorem domainsAreSwitchedAndWakeOnAccess : Obligations.DomainsAreSwitchedAndWakeOnAccess := by
  unfold Obligations.DomainsAreSwitchedAndWakeOnAccess
  refine ⟨fun q v s hs hv => ⟨exec_pwrReqWrite_accepted hs hv, exec_pwrReqWrite_refused hs hv⟩,
    fun t d m w s hr => ?wake, fun t d since source master s hr hd =>
      ⟨exec_domainReady_waking hr hd t, exec_pwrWakeTmo_waking hr hd⟩, fun t b s hr => ?bank,
    fun t k s hr => ⟨exec_pwrAnalog_runs hr, exec_pwrIo_runs hr⟩, fun t b k s hr => ?rests, fun t k s => rfl⟩
  case wake =>
    rw [exec_domainWakeAccess hr]
    refine ⟨?barred, ?goes, ?other⟩
    case barred =>
      rintro ⟨rfl, rfl, hm⟩
      have hm' : m.val ≠ 2 := fun e => hm (Fin.ext e)
      exact ⟨busCapture m.val 2 (Config.freeValue (s.at_ t).free), rfl, rfl, congrArg Host.Outcome.next (busAccess_barred hm')⟩
    case goes =>
      rintro ⟨hmin, hlink, hheld, hoff⟩
      have hpass : ¬(w = true ∧ d.val = 2 ∧ m.val ≠ 2) := by omega
      have hwake : (s.at_ t).mayWake d.val := ⟨hmin, fun e => hlink (Fin.ext e), hheld, hoff⟩
      rw [busAccess_passes hpass, accessWake_mayWake _ d.isLt hwake]
    case other =>
      intro hbarred hgoes
      have hpass : ¬(w = true ∧ d.val = 2 ∧ m.val ≠ 2) := fun ⟨hw, hd, hm⟩ =>
        hbarred ⟨hw, Fin.ext hd, fun e => hm (congrArg Fin.val e)⟩
      have hwake : ¬(s.at_ t).mayWake d.val := fun ⟨hmin, hlink, hheld, hoff⟩ =>
        hgoes ⟨hmin, fun e => hlink (congrArg Fin.val e), hheld, hoff⟩
      rw [busAccess_passes hpass, accessWake_not_mayWake _ hwake]
  case bank =>
    rw [exec_pwrBank_runs hr]
    exact ⟨fun h => by rw [pwrBank_idle h], fun h => by rw [pwrBank_enabled h]⟩
  case rests =>
    obtain ⟨hbank, hanalog, hio⟩ := exec_supplyLost_rests hr
    exact ⟨hbank b, hanalog, hio k⟩

end Sys2Proof.Machine
end

section
/-! PROOFS of the statements about cell slots: the slot commands with their refusals, the writes of a slot's own entries,
ALL_STOP and the steps of a safe-off, and the soundness of the state that every command keeps. -/

namespace Sys2Proof.Machine

/-! ### Soundness (R455) -/

theorem exec_keeps_sound {c : Instr} {s t : State} (e : exec c s = .next t) (h : s.sound = true) : t.sound = true := by
  obtain ⟨-, hsound, -, -, -⟩ := good_of_exec e
  exact hsound h

/-- Settles O4: on an empty queue only time passes, and a command keeps a sound state sound whatever it is. -/
theorem stepKeepsStateSound : Obligations.StepKeepsStateSound := by
  unfold Obligations.StepKeepsStateSound
  intro s t hs e
  unfold step at e
  split at e
  · cases e
    exact hs
  · exact exec_keeps_sound e hs

/-! ### SLOT_CMD (R36 to R39) -/

/-- The code of an operation in the low byte of SLOT_CMD (R38). -/
def SlotOp.code : SlotOp → Nat
  | .start => 1
  | .stop => 2
  | .bypass => 3
  | .insert => 4
  | .clear => 5

/-- The units a command acts on: BYPASS and INSERT take the cell whatever the mask (R38). -/
def SlotOp.unitMask (op : SlotOp) (mask : Nat) : Nat := if op = .bypass ∨ op = .insert then 1 else mask

/-- The mask names a unit that the template of the slot lacks (R39). -/
def State.namesLacking (s : State) (c m : Nat) : Bool :=
  (List.range 6).any fun u => m.testBit u && decide (u ≥ tmplUnits (s.tmpl c))

/-- The carriers of a command that run (R38). -/
def State.runningCars (s : State) (c : Nat) (m : SlotCmd) : List Nat :=
  (s.cmdCars c m).filter fun k => (s.car k).st = .running

theorem ownSlotCmd_code (s : State) (c : Nat) (op : SlotOp) (mask : BitVec 6) :
    s.ownSlotCmd c (op.code + mask.toNat * 256) = s.slotCmd c op mask.toNat := by
  have hmask := mask.isLt
  have hcode : op.code < 6 := by cases op <;> decide
  have hop : (op.code + mask.toNat * 256) % 256 = op.code := by omega
  have hbits : bits (op.code + mask.toNat * 256) 13 8 = mask.toNat := by simp only [bits]; omega
  unfold State.ownSlotCmd
  rw [hop, hbits]
  cases op <;> rfl

/-- Each of the five commands is a write of SLOT_CMD, answered as the operation says. -/
theorem exec_slotCommand {q : Req} {c : Fin 32} {s : State} (op : SlotOp) (mask : BitVec 6)
    (h : s.serves q (0x2100 + c.val) 0x03 = true) : exec (slotCommand op q c mask) s =
      .next (State.finish ((s.upTo q.t).slotCmd c.val op mask.toNat) (q.msg 2 (0x2100 + c.val) 0x03 []) 3) := by
  rw [← ownSlotCmd_code]
  cases op with
  | start => exact execStart_served q c mask h
  | stop => exact execStop_served q c mask h
  | bypass => exact execBypass_served q c mask h
  | insert => exact execInsert_served q c mask h
  | clear => exact execClear_served q c mask h

section
variable {s : State} {c mask : Nat} {op : SlotOp}

theorem slotCmd_busy (h : (s.slot c).cmd ≠ none) : s.slotCmd c op mask = (s, abBusy) := by
  unfold State.slotCmd
  exact if_pos (Option.isSome_iff_ne_none.mpr h)

theorem namesLacking_iff {m : Nat} :
    s.namesLacking c m = true ↔ ∃ u < 6, m.testBit u = true ∧ tmplUnits (s.tmpl c) ≤ u := by
  simp [State.namesLacking]

theorem not_namesLacking {m : Nat} (h : m < 2 ^ tmplUnits (s.tmpl c)) : ¬s.namesLacking c m = true := fun hlack => by
  obtain ⟨u, -, hu, hge⟩ := namesLacking_iff.mp hlack
  have hpow : 2 ^ tmplUnits (s.tmpl c) ≤ 2 ^ u := Nat.pow_le_pow_right Nat.two_pos hge
  have hbit : 2 ^ u ≤ m := Nat.ge_two_pow_of_testBit hu
  omega

/-- The effect of the acceptance itself, by the operation (R251, R300). -/
theorem slotBegin_eq (us : List Nat) : s.slotBegin op c us =
    let b := if op = .clear then s.clearTransient c us else s
    if op = .start then b.each us fun b u => b.drvBegin c u else b := by
  cases op <;> rfl

theorem runningCars_eq_nil_iff {m : SlotCmd} :
    s.runningCars c m = [] ↔ ¬∃ k ∈ s.cmdCars c m, (s.car k).st = .running := by
  simp [State.runningCars, List.filter_eq_nil_iff]

theorem runningCars_eq_self_iff {m : SlotCmd} :
    s.runningCars c m = s.cmdCars c m ↔ ∀ k ∈ s.cmdCars c m, (s.car k).st = .running := by
  simp [State.runningCars, List.filter_eq_self]

/-- What SLOT_CMD does in a slot where no command is pending: the two checks of R39, the one of START (R38), and then the
operation, at once or as the slot's pending command. -/
theorem slotCmd_idle (h : (s.slot c).cmd = none) :
    let refused := (s.updSlot c fun t => { t with cmdSt := .refused }, abState)
    let m : SlotCmd := { op := op, mask := op.unitMask mask, clk := s.pwmClk }
    let b := s.slotBegin op c (s.named c m.mask)
    s.slotCmd c op mask =
      if s.namesLacking c m.mask then refused
      else if s.cmdOk c op (s.named c m.mask) = false then refused
      else if op = .start ∧ s.runningCars c m ≠ s.cmdCars c m then refused
      else if s.runningCars c m = [] then (b.slotAct c m, 0)
      else (b.updSlot c fun t => { t with cmd := some m, cmdSt := .pending }, 0) := by
  have hmask : (if (decide (op = .bypass) || decide (op = .insert)) = true then 1 else mask) = op.unitMask mask := by
    simp [SlotOp.unitMask]
  unfold State.slotCmd
  simp only [hmask, h, slotBegin_eq, Option.isSome_none, Bool.false_eq_true, if_false, Bool.not_eq_true',
    Bool.and_eq_true, decide_eq_true_eq]
  rfl

theorem slotCmd_refused (h : (s.slot c).cmd = none)
    (hr : (∃ u < 6, (op.unitMask mask).testBit u = true ∧ tmplUnits (s.tmpl c) ≤ u) ∨
      s.cmdOk c op (s.named c (op.unitMask mask)) = false) :
    s.slotCmd c op mask = (s.updSlot c fun t => { t with cmdSt := .refused }, abState) := by
  rw [slotCmd_idle h]
  split
  · rfl
  · next hlack => exact if_pos (hr.resolve_left fun hu => hlack (namesLacking_iff.mpr hu))

theorem slotCmd_accepted (h : (s.slot c).cmd = none) (hm : op.unitMask mask < 2 ^ tmplUnits (s.tmpl c))
    (hok : s.cmdOk c op (s.named c (op.unitMask mask)) = true) :
    let m : SlotCmd := { op := op, mask := op.unitMask mask, clk := s.pwmClk }
    let b := s.slotBegin op c (s.named c m.mask)
    (op = .start → ∀ k ∈ s.cmdCars c m, (s.car k).st = .running) →
    s.slotCmd c op mask = (if ∃ k ∈ s.cmdCars c m, (s.car k).st = .running then
      b.updSlot c fun t => { t with cmd := some m, cmdSt := .pending } else b.slotAct c m, 0) := by
  intro m b hcars
  have hstart : ¬(op = .start ∧ s.runningCars c m ≠ s.cmdCars c m) := fun ⟨hop, hne⟩ =>
    hne (runningCars_eq_self_iff.mpr (hcars hop))
  rw [slotCmd_idle h, if_neg (not_namesLacking hm), if_neg (by simp [hok]), if_neg hstart]
  by_cases hrun : ∃ k ∈ s.cmdCars c m, (s.car k).st = .running
  · rw [if_pos hrun, if_neg (fun e => runningCars_eq_nil_iff.mp e hrun)]
  · rw [if_neg hrun, if_pos (runningCars_eq_nil_iff.mpr hrun)]

end

/-- Settles O8: without a pending command none of the checks of R39 holds the operation back, and what is left of
`slotCmd_idle` is the choice by the carriers that run. -/
theorem slotCommandActsOrWaitsForTheCommitPoint : Obligations.SlotCommandActsOrWaitsForTheCommitPoint := by
  unfold Obligations.SlotCommandActsOrWaitsForTheCommitPoint
  intro op q c mask s hs r m us hcmd hm hok hcars
  have e := slotCmd_accepted (mask := mask.toNat) hcmd hm hok hcars
  rw [exec_slotCommand op mask hs, e]
  rfl

/-- Settles O9: `slotCmd` refuses in each of the cases, and the write answers the abort code. -/
theorem slotCommandIsRefused : Obligations.SlotCommandIsRefused := by
  unfold Obligations.SlotCommandIsRefused
  intro op q c mask s hs r k
  rw [exec_slotCommand op mask hs]
  refine ⟨fun hbusy => ?_, fun hidle hr => ?_⟩
  · rw [slotCmd_busy hbusy]
    exact congrArg Host.Outcome.next (finish_refused (by decide))
  · rw [slotCmd_refused hidle hr]
    exact congrArg Host.Outcome.next (finish_refused (by decide))

/-! ### Writes of a slot's own entries, ALL_STOP and the steps of a sequence (R30, R31, R33, R43, R44, R46) -/

theorem finish_accepted (s : State) (q : Req) (op idx sub typ : Nat) :
    State.finish (s, 0) (q.msg op idx sub []) typ = s.accepted q op idx sub typ := rfl

/-- Every unit is at rest, so the template may change (R44). -/
theorem units_at_rest {s : State} {c : Nat} (h : ∀ u ∈ s.units c, s.ust c u = .stopped ∧ ((s.slot c).unit u).seq = none) :
    ((s.units c).all fun u => decide (s.ust c u = .stopped) && ((s.slot c).unit u).seq.isNone) = true := by
  simpa only [List.all_eq_true, Bool.and_eq_true, decide_eq_true_eq, Option.isNone_iff_eq_none] using h

theorem ownUnitLoop_hasUnit {s : State} {c u : Nat} (v : Nat) (h : u < tmplUnits (s.tmpl c)) :
    let w := s.wr (Od.UNIT_LOOP c u) v
    s.ownUnitLoop c u v = .ok (w.each (w.unitLegIds c u) fun r l =>
      if (r.car (r.carOf l)).st = .running then r else r.bindLeg l) := by
  simp [State.ownUnitLoop, State.hasUnit, h]

@[simp] theorem State.upTo_slot (s : State) (t c : Nat) : (s.upTo t).slot c = s.slot c := by simp [State.slot]

@[simp] theorem State.upTo_tmpl (s : State) (t c : Nat) : (s.upTo t).tmpl c = s.tmpl c := by simp [State.tmpl, State.rd]

theorem seqSteps_upTo (s : State) (t c u : Nat) (x : Seq) : (s.upTo t).seqSteps c u x = s.seqSteps c u x := by
  simp [State.seqSteps]

/-- The next step of a sequence acts on its legs, and the last one ends the sequence (R31, R33). -/
theorem seqStep_next {s : State} {c u : Nat} {x : Seq} {legs : List Nat} {rest : List (List Nat)}
    (hx : ((s.slot c).unit u).seq = some x) (hl : s.seqSteps c u x = legs :: rest) :
    let y := { x with next := x.next + 1 }
    let r := (s.each (legs.map (6 * c + ·)) fun r l => match x.kind with
      | .safeOff => r.latchLeg l
      | .stop => (r.lowerLeg l).disableLeg l).updUnit c u fun t => { t with seq := some y }
    s.seqStep c u = if rest = [] then r.endSeq c u y else r := by
  simp only [State.seqStep, hx, hl] <;> rfl

theorem exec_safeoffStep_running {s : State} {c : Fin 32} {u : Fin 6} {x : Seq} (hr : s.runs = true)
    (hx : ((s.slot c.val).unit u.val).seq = some x) : exec (.safeoffStep c u) s =
      .next ((s.upTo (x.t0 + x.next * s.soSpacing c.val)).seqStep c.val u.val).settleReset := by
  refine congrArg Host.Outcome.next ((State.awake_runs _ hr).trans ?_)
  simp only [State.seqStepDue, hx, State.stepAt]

/-- Settles O10: each write comes to the owner of its entry, and a safe-off step is the next step of its sequence. -/
theorem templateBindingAllStopAndSafeOffSteps : Obligations.TemplateBindingAllStopAndSafeOffSteps := by
  unfold Obligations.TemplateBindingAllStopAndSafeOffSteps
  refine ⟨⟨?template, ?binding, ?allStop⟩, ?step⟩
  case template =>
    intro q c v s hs hv r hcmd hrest
    rw [show exec (.slotTemplateWrite q c v) s = _ from execSlotTemplateWrite_served q c v hs hv]
    have hidle : ¬(r.slot c.val).cmd.isSome = true := by simp [hcmd]
    have hstopped := units_at_rest hrest
    unfold State.ownTemplate
    rw [if_neg hidle, if_neg (by rw [hstopped]; decide)]
    rfl
  case binding =>
    intro q c u v s hs hv r hu w
    rw [show exec (.unitLoopBind q c u v) s = _ from execUnitLoopBind_served q c u v hs hv, ownUnitLoop_hasUnit _ hu]
    rfl
  case allStop =>
    intro q s hs r
    rw [show exec (.allStop q) s = _ from execAllStop_served q hs, finish_accepted]
    rfl
  case step =>
    intro c u s x legs rest hr hx hl r
    have hx' : ((r.slot c.val).unit u.val).seq = some x := by rw [State.upTo_slot, hx]
    have hl' : r.seqSteps c.val u.val x = legs :: rest := by rw [seqSteps_upTo, hl]
    rw [exec_safeoffStep_running hr hx]
    exact congrArg (fun t => Host.Outcome.next (State.settleReset t)) (seqStep_next hx' hl')

end Sys2Proof.Machine
end

section
/-! PROOFS of the statement about the short-circuit input filter: where an assertion of FK goes from each of its states,
and what its decision does (R95 to R98, R103). -/

namespace Sys2Proof.Machine

/-- While a reset is held or the device sleeps only the level of the pin is kept. -/
theorem exec_fk_rests {l : Fin 192} {s : State} (t : Nat) (h : s.runs = false) :
    exec (.fkAssert l t) s = .next ((s.at_ t).updGg l.val fun g => { g with fkPin := true }) ∧
    exec (.fkRelease l t) s = .next ((s.at_ t).updGg l.val fun g => { g with fkPin := false }) :=
  have hn : ¬s.runs = true := by simp [h]
  ⟨congrArg Host.Outcome.next (if_neg hn), congrArg Host.Outcome.next (if_neg hn)⟩

section
variable {s : State} {l : Nat}

/-! ### What an event does to the assertion it finds (R95, R96, R103) -/

theorem fkAssert_begins {t : Nat} (hpin : ((s.upTo t).gg l).fkPin = false) (hu : ((s.upTo t).legUnit l).isSome = true) :
    let r := (s.upTo t).updGg l fun g => { g with fkPin := true }
    s.fkAssert l t = r.updGg l fun g => { g with fk := if r.blanking l then .held r.now else .deglitch r.now } := by
  intro r
  have hused : (r.legUnit l).isNone = false := Option.isNone_eq_false_iff.mpr hu
  exact if_neg (by rw [hpin, hused]; decide)

theorem fkDecision_deglitch {t : Nat} (h : (s.gg l).fk = .deglitch t) : s.fkDecision l = (s.upTo (t + ns 10)).fkJudge l := by
  simp only [State.fkDecision, h]

theorem fkDecision_idle (h : (s.gg l).fk = .idle) (hlive : s.legLive l = true) : s.fkDecision l = s.fkDecide l := by
  simp only [State.fkDecision, h, hlive, if_true]

theorem fkHard_held {t : Nat} (h : (s.gg l).fk = .held t) : s.fkHard l = (s.upTo (t + ns 150)).fkJudge l := by
  simp only [State.fkHard, h]

theorem blankingEnd_held {t : Nat} (h : (s.gg l).fk = .held t) (hb : (s.gg l).blank.isSome = true) :
    s.blankingEnd l = (s.upTo (s.blankEnd l)).fkJudge l := by
  obtain ⟨b, hb⟩ := Option.isSome_iff_exists.mp hb
  simp only [State.blankingEnd, h, hb]

theorem supplyExpiry_waiting {t : Nat} (h : (s.gg l).pumpWait = some t) :
    let r := (s.upTo (t + us (s.rd (Od.SLOT_SUPPLY_WAKE (legSlot l))))).updGg l fun g => { g with pumpWait := none }
    s.supplyExpiry l = if r.fkOn l then r.fkJudge l else r := by
  simp only [State.supplyExpiry, h]

/-! ### The decision (R97, R98) -/

theorem fkDecide_unit {u : Nat} (h : s.legUnit l = some u) :
    let r := s.updGg l fun g => { g with fk := .decided, fkSeen := true, fkCount := (g.fkCount + 1) % 2 ^ 32 }
    s.fkDecide l = (r.raise Flt.GG_FK l).safeOff (legSlot l) u [legJ l] Flt.GG_FK false := by
  simp only [State.fkDecide, h]

theorem fkJudge_decides (h : (s.legLive l || s.joins l) = true) : s.fkJudge l = s.fkDecide l := if_pos h

theorem fkJudge_idle (h : (s.legLive l || s.joins l) = false) (hfk : (s.gg l).fk ≠ .idle) :
    s.fkJudge l = (s.updGg l fun g => { g with fk := .idle }).raise Flt.GG_FK_IDLE l := by
  simp only [State.fkJudge, h, hfk, Bool.false_eq_true, if_false]

end

/-- Settles O20: each event of the pin does in a running device what the filter says of the assertion it finds. -/
theorem shortCircuitInputFilter : Obligations.ShortCircuitInputFilter := by
  unfold Obligations.ShortCircuitInputFilter
  refine fun l s => ⟨fun t hr => exec_fk_rests t hr, fun hr => ⟨?assert, ?release, ?decision, ?live, ?held, ?wake⟩,
    fun u hu => ⟨fun h => (fkJudge_decides h).trans (fkDecide_unit hu), fkJudge_idle⟩⟩
  case assert => exact fun t hpin hu => congrArg Host.Outcome.next ((if_pos hr).trans (fkAssert_begins hpin hu))
  case release => exact fun t => congrArg Host.Outcome.next (if_pos hr)
  case decision => exact fun t h => congrArg Host.Outcome.next ((State.awake_runs _ hr).trans (fkDecision_deglitch h))
  case live => exact fun h hlive => congrArg Host.Outcome.next ((State.awake_runs _ hr).trans (fkDecision_idle h hlive))
  case held =>
    exact fun t h => ⟨congrArg Host.Outcome.next ((State.awake_runs _ hr).trans (fkHard_held h)),
      fun hb => congrArg Host.Outcome.next ((State.awake_runs _ hr).trans (blankingEnd_held h hb))⟩
  case wake => exact fun t h => congrArg Host.Outcome.next ((State.awake_runs _ hr).trans (supplyExpiry_waiting h))

end Sys2Proof.Machine
end

section
/-! PROOFS of the statements about the command of a leg: what its compare command is at each position, and what its own
peak, its own valley and its compare edges do (R55, R57, R70, R76, R78). -/

namespace Sys2Proof.Machine

/-! ### The compare command (R55) -/

/-- Two updates that agree on the leg leave the same state. -/
theorem State.updLeg_congr {s : State} {l : Nat} {f g : Leg → Leg} (h : f (s.leg l) = g (s.leg l)) :
    s.updLeg l f = s.updLeg l g := by
  have hlegs : s.legs.modify l f = s.legs.modify l g := by
    refine List.ext_getElem (by simp) fun i hi _ => ?_
    simp only [List.getElem_modify]
    split
    · next e =>
      subst e
      have hl : l < s.legs.length := by simpa using hi
      simpa [State.leg, List.getD_eq_getElem?_getD, hl] using h
    · rfl
  unfold State.updLeg
  rw [hlegs]

/-- A phase of two periods is the same as none. -/
theorem legPos_of_le {n phi p : Nat} (h : phi ≤ 2 * p) : legPos n phi p = (n + 2 * p - phi) % (2 * p) := by
  unfold legPos
  rcases Nat.lt_or_eq_of_le h with hlt | heq
  · rw [Nat.mod_eq_of_lt hlt]
  · simp [heq]

theorem cmpHigh_eq_decide (nL c p : Nat) : cmpHigh nL c p = decide (nL < c ∨ 2 * p - c ≤ nL) := by
  simp [cmpHigh]

theorem cmpHigh_zero {nL p : Nat} (h : nL < 2 * p) : cmpHigh nL 0 p = false := by
  simp [cmpHigh, h]

theorem cmpHigh_period (nL p : Nat) : cmpHigh nL p p = true := by
  have hhalf : 2 * p - p = p := by omega
  simp [cmpHigh, hhalf, Nat.lt_or_ge]

theorem compareLeg_counting {s : State} {l : Nat} (h : (s.car (s.carOf l)).counts = true) :
    s.compareLeg l = s.updLeg l fun g => { g with cmp := cmpHigh (s.posL l s.now) (s.leg l).cNow (s.car (s.carOf l)).p } := by
  unfold State.compareLeg
  rw [if_pos h]
  exact State.updLeg_congr rfl

/-- Settles O14: up to two periods the phase needs no reduction, and a duty of 0 or P leaves no position inside or outside
the pulse. -/
theorem compareCommandIsCentredOnTheValley : Obligations.CompareCommandIsCentredOnTheValley := by
  unfold Obligations.CompareCommandIsCentredOnTheValley
  intro s l hcounts c g n hp hphi hc nL
  have hnL : s.posL l s.now = nL := legPos_of_le hphi
  have hlt : nL < 2 * c.p := Nat.mod_lt _ (Nat.mul_pos Nat.two_pos hp)
  rw [← cmpHigh_eq_decide]
  refine ⟨?command, fun h0 => ?low, fun hP => ?high⟩
  case command => rw [compareLeg_counting hcounts, hnL]
  case low => rw [h0, cmpHigh_zero hlt]
  case high => rw [hP, cmpHigh_period]

/-! ### The leg's own peak and valley, and its edges (R55, R70) -/

/-- What a running device does with a command of its own is the command's operation. -/
theorem next_awake {s t : State} {f : State → State} (h : s.runs = true) (e : f s = t) :
    (Host.Outcome.next (s.awake f) : Host.Outcome State Fault Refusal) = .next t :=
  congrArg Host.Outcome.next ((State.awake_runs f h).trans e)

/-- Settles O13: on a counting carrier each of the three commands takes the branch of its event. -/
theorem legOwnPeakValleyAndEdge : Obligations.LegOwnPeakValleyAndEdge := by
  unfold Obligations.LegOwnPeakValleyAndEdge
  refine fun l s hr hcounts => ⟨?valley, ?peak, fun h0 hp => ?edge⟩
  case valley => exact next_awake hr (if_pos hcounts)
  case peak => exact next_awake hr (if_pos hcounts)
  case edge =>
    have hpulse : ((s.car (s.carOf l.val)).counts && decide (0 < (s.leg l.val).cNow) &&
        decide ((s.leg l.val).cNow < (s.car (s.carOf l.val)).p)) = true := by simp [hcounts, h0, hp]
    exact next_awake hr (if_pos hpulse)

end Sys2Proof.Machine
end

section
/-! PROOFS of the statement about LEG_FORCE: the value that a mode writes, what the owner of the entry does with it, and
what waits for the next PWM clock (R73 to R75, R219, R252). -/

namespace Sys2Proof.Machine

/-! ### The value of an entry (R73) -/

theorem forceOf_forceCode (f : Force) (imm : Bool) : forceOf (forceCode f imm) = f := by
  cases f with
  | raw gh gl => cases imm <;> cases gh <;> cases gl <;> decide
  | none | off | upper | lower => cases imm <;> decide

theorem forceCode_now (f : Force) (imm : Bool) : (forceCode f imm).testBit 3 = imm := by
  cases f with
  | raw gh gl => cases imm <;> cases gh <;> cases gl <;> decide
  | none | off | upper | lower => cases imm <;> decide

/-- UPPER, LOWER and RAW are the modes from 2 on. -/
theorem forceCode_mode (f : Force) (imm : Bool) : 2 ≤ forceCode f imm % 8 ↔ f ≠ .none ∧ f ≠ .off := by
  cases f with
  | raw gh gl => cases imm <;> cases gh <;> cases gl <;> decide
  | none | off | upper | lower => cases imm <;> decide

/-- Each of the five commands is a write of LEG_FORCE, answered as its owner says. -/
theorem exec_forceCommand {q : Req} {l : Fin 192} {s : State} (f : Force) (imm : Bool)
    (h : s.serves q (0x2200 + l.val) 0x16 = true) : exec (forceCommand f q l imm) s =
      .next (State.finish ((s.upTo q.t).done ((s.upTo q.t).ownForce l.val (forceCode f imm)))
        (q.msg 2 (0x2200 + l.val) 0x16 []) 2) := by
  cases f with
  | none => exact execForceNone_served q l imm h
  | off => exact execForceOff_served q l imm h
  | upper => exact execForceUpper_served q l imm h
  | lower => exact execForceLower_served q l imm h
  | raw gh gl => exact execForceRaw_served q l imm gh gl h

/-! ### What the owner does with it (R74, R75) -/

section
variable {s : State} {l : Nat} {f : Force}

theorem ownForce_taken (imm : Bool) (hu : (s.legUnit l).isSome = true) (hstr : s.strForce l = false)
    (hdrv : s.drvHolds l = false) (hon : f = .none ∨ f = .off ∨ (s.leg l).enabled = true) :
    s.ownForce l (forceCode f imm) = .ok ((s.wr (Od.LEG_FORCE l) (forceCode f imm)).forceLeg l f imm) := by
  have hused : (s.legUnit l).isNone = false := Option.isNone_eq_false_iff.mpr hu
  have hmode : ¬(2 ≤ forceCode f imm % 8 ∧ (s.leg l).enabled = false) := by
    rw [forceCode_mode]
    rintro ⟨⟨hnone, hoff⟩, hdis⟩
    simp [hnone, hoff, hdis] at hon
  unfold State.ownForce
  rw [if_neg (by simpa [hused] using hmode), if_neg (by simp [hstr, hdrv]), forceOf_forceCode, forceCode_now]

theorem ownForce_refused (imm : Bool) (h : (s.legUnit l).isNone = true ∨ s.strForce l = true ∨ s.drvHolds l = true ∨
    (f ≠ .none ∧ f ≠ .off ∧ (s.leg l).enabled = false)) : s.ownForce l (forceCode f imm) = .error abState := by
  unfold State.ownForce
  split
  · rfl
  · next hmay =>
    refine if_pos ?_
    simp only [Bool.or_eq_true, Bool.and_eq_true, decide_eq_true_eq, Bool.not_eq_true', ge_iff_le, forceCode_mode,
      not_or] at hmay
    obtain ⟨hused, hmode⟩ := hmay
    rcases h with h | h | h | ⟨hnone, hoff, hdis⟩
    · exact absurd h hused
    · simp [h]
    · simp [h]
    · exact absurd ⟨⟨hnone, hoff⟩, hdis⟩ hmode

end

/-- What alone waits for a clock that the time passes takes effect in that clock. -/
theorem upTo_passes {s : State} {a t : Nat} {x : Soon} (h : s.soon = [(a, x)]) (ha : a ≤ t) :
    s.upTo t = State.at_ ((State.at_ { s with soon := [] } a).doSoon x) t := by
  unfold State.upTo
  simp [h, ha]

/-- Settles O15: a write that its owner takes is noted for the next clock or waits for the reload point, and one that it
does not take leaves the state as it was. -/
theorem forceWritesTakeEffectOrWait : Obligations.ForceWritesTakeEffectOrWait := by
  unfold Obligations.ForceWritesTakeEffectOrWait
  intro f q l imm s hs r w
  refine ⟨fun hu hstr hdrv hon => ?taken, fun v a t hsoon ha => upTo_passes hsoon ha, fun hno => ?refused⟩
  case taken =>
    rw [exec_forceCommand f imm hs, ownForce_taken imm hu hstr hdrv hon]
    rfl
  case refused =>
    rw [exec_forceCommand f imm hs, ownForce_refused imm hno]
    exact congrArg Host.Outcome.next (finish_refused (by decide))

end Sys2Proof.Machine
end

section
/-! PROOFS of the statements about carriers: the writes of CAR_RUN and CAR_COMMIT, and the start, the peaks and the valleys
of a counter (R49 to R53, R60, R61, R64, R66, R69). -/

namespace Sys2Proof.Machine

/-! ### CAR_RUN and CAR_COMMIT (R52, R53, R61, R64) -/

section
variable {s : State} {k : Nat}

theorem carRun_taken (hstr : s.carString k = none) (hst : (s.car k).st = .stopped)
    (hstart : s.sysNow + sysUs 10 ≤ timeOf (s.rd (Od.CAR_START_TIME k))) (hmin : 500 ≤ s.rd (Od.CAR_PERIOD k))
    (hmax : s.rd (Od.CAR_PERIOD k) ≤ 1048575) (hmissing : s.clk.pwmMissing = false) (hgated : s.clk.pwmGated = false) :
    s.carRun k = .ok (s.armCar k) :=
  if_neg (by simp [hstr, hst, hstart, hmin, hmax, State.pwmOff, hmissing, hgated])

theorem carStop_taken (hstr : s.carString k = none) (hlegs : ∀ l < 192, s.carOf l = k → (s.leg l).enabled = false)
    (hpend : s.startPends k = false) : s.carStop k = .ok (s.haltCar k) := by
  have hidle : (s.legsOn k).any (fun l => (s.leg l).enabled) = false := by
    simpa [State.legsOn, List.any_eq_false] using hlegs
  exact if_neg (by simp [hstr, hidle, hpend])

theorem ownCommit_request (h : s.autoMode k = false) :
    let w := s.noteLate k
    s.ownCommit k 1 = .ok (w.updCar k fun c => { c with pend := true, lateReq := c.lateReq || c.lateAt = some w.pwmClk }) :=
  congrArg Except.ok (if_neg (by simp [h]))

/-- Outside the clock of a commit point a discard copies at once (R66). -/
theorem ownCommit_discard (h : (s.noteLate k).heldBack k = false) :
    s.ownCommit k 2 = .ok ((s.noteLate k).discardStaged k) :=
  congrArg Except.ok (if_neg (by simp [h]))

end

/-- Settles O11: each write is one that its owner takes, so the response is that of an accepted one. -/
theorem carrierRunAndCommitWrites : Obligations.CarrierRunAndCommitWrites := by
  unfold Obligations.CarrierRunAndCommitWrites
  refine ⟨fun q k s hs => ?run, fun q k s hs => ?commit⟩
  case run =>
    intro r hstr
    refine ⟨fun hst hstart hmin hmax hmissing hgated => (execCarRunStart_served q k hs).trans ?_,
      fun hlegs hpend => (execCarRunStop_served q k hs).trans ?_⟩
    · have htaken : r.ownCarRun k.val 1 = .ok (r.armCar k.val) := carRun_taken hstr hst hstart hmin hmax hmissing hgated
      rw [htaken]
      rfl
    · have htaken : r.ownCarRun k.val 2 = .ok (r.haltCar k.val) := carStop_taken hstr hlegs hpend
      rw [htaken]
      rfl
  case commit =>
    refine ⟨fun hauto => (execCarCommit_served q k hs).trans ?_, fun hheld => (execCarCommitDiscard_served q k hs).trans ?_⟩
    · rw [ownCommit_request hauto]
      rfl
    · rw [ownCommit_discard hheld]
      rfl

/-! ### Starts, peaks and valleys (R51, R52, R53, R69) -/

/-- Settles O12: each command finds its carrier in the state that the event asks for. -/
theorem carrierStartsCountsAndHalts : Obligations.CarrierStartsCountsAndHalts := by
  unfold Obligations.CarrierStartsCountsAndHalts
  refine fun k s hr => ⟨fun harmed hclk => ?start, fun hcounts hn => ?peak, ?valley⟩
  case start =>
    have hgoes : (decide ((s.car k.val).st = .armed) && !s.pwmOff) = true := by simp [harmed, hclk]
    exact next_awake hr (congrArg State.settleReset (if_pos hgoes))
  case peak =>
    have hup : ((s.car k.val).counts && decide ((s.car k.val).refN = 0)) = true := by simp [hcounts, hn]
    exact next_awake hr (congrArg State.settleReset (if_pos hup))
  case valley =>
    intro hcounts hn r halts
    have hdown : ((s.car k.val).counts && decide ((s.car k.val).refN ≠ 0)) = true := by simp [hcounts, hn]
    refine next_awake hr (congrArg State.settleReset ((if_pos hdown).trans ?_))
    -- the operation decides the halt as a Boolean, the statement as a proposition
    simp only [Bool.and_eq_true, Bool.not_eq_true', decide_eq_true_eq, ← Bool.decide_and, decide_eq_false_iff_not]
    rfl

end Sys2Proof.Machine
end

section
/-! PROOFS of the statement about what acts on a leg's command besides the writes: the end of a refresh, a peak-limit line,
a parity error and the loss of CLK_PWM (R76 to R81, R107, R572). -/

namespace Sys2Proof.Machine

theorem bootEnd_refreshing {s : State} {l t : Nat} (h : (s.leg l).boot = some t) :
    s.bootEnd l = ((s.upTo t).updLeg l fun g => { g with boot := none }).settleLeg l := by
  simp only [State.bootEnd, h]

theorem pwmLost_enabled {s : State} (h : ((List.range 192).filter fun l => (s.leg l).enabled) ≠ []) :
    let legs := (List.range 192).filter fun l => (s.leg l).enabled
    let r : State := { s with clk := { s.clk with pwmMissing := true } }
    let r := r.each (List.range 192) fun r l => r.lowerLeg l
    let r := r.each legs fun r l => (r.latchLeg l).updGg l fun g => { g with clkClamp := true }
    s.pwmLost = (r.raise Flt.GG_CLK 0).carriersOff :=
  congrArg State.carriersOff (if_neg h)

/-- Settles O16: each event does what its operation says for the legs it concerns, and a cut that was noted starts in its
clock. -/
theorem cutsRefreshesParityAndClockLossActOnLegs : Obligations.CutsRefreshesParityAndClockLossActOnLegs := by
  unfold Obligations.CutsRefreshesParityAndClockLossActOnLegs
  refine ⟨fun l s t hr hboot => ?refresh, fun src stream v t s hr => ?source, fun l hi lo a t s hsoon ha => ?cut,
    fun t i s hr => ?leg, fun t i s hr hi => ?carrier, fun t s hr => ?clock⟩
  case refresh => exact next_awake hr (bootEnd_refreshing hboot)
  case source => exact next_awake hr rfl
  case cut => exact upTo_passes hsoon ha
  case leg => exact next_awake hr rfl
  case carrier =>
    have hk : i.val % 64 = i.val := Nat.mod_eq_of_lt hi
    exact next_awake hr (by rw [if_pos rfl, hk]; rfl)
  case clock =>
    intro r legs _ hlegs
    exact next_awake hr (congrArg State.settleReset (pwmLost_enabled hlegs))

end Sys2Proof.Machine
end

section
/-! PROOFS of the statements about the handshake of the gate guard: when an incoming gate rises, and what a release learns
and counts (R86 to R91, R94, R96, R102, R103, R106). -/

namespace Sys2Proof.Machine

/-! ### The times of a release (R87, R91) -/

/-- Rounding to the nearest multiple of 2 ns, ties up, does not fall below a whole number of ns. -/
theorem le_dtAdapt {m d : Nat} (h : 128 * m ≤ d) : m ≤ dtAdapt d := by
  unfold dtAdapt
  omega

theorem State.le_edge {s : State} (h : 0 < s.tclk) (t : Nat) : t ≤ s.edge t := by
  have hlt : t + s.tclk - 1 < s.edge t + s.tclk := Nat.lt_div_mul_add h
  omega

/-- When the request for the incoming gate began (R86). -/
def Guard.reqAt (g : Guard) (gh : Bool) : Nat := if gh then g.ghReqAt else g.glReqAt

section
variable {s : State} {l : Nat} {gh : Bool}

/-- Neither the adaptive release nor the backstop comes before DT_MIN has passed since the fall. -/
theorem State.tOff_add_dtMin_le_tRel (hd : 128 * s.dtMin l ≤ if gh then (s.gg l).dR else (s.gg l).dF)
    (hmax : s.dtMin l ≤ s.dtMax l) : (s.gg l).tOff gh + ns (s.dtMin l) ≤ s.tRel l gh := by
  have hback : ns (s.dtMin l) ≤ ns (s.dtMax l) := Nat.mul_le_mul_right 1000 hmax
  have hlearned : ns (s.dtMin l) ≤ ns (dtAdapt (if gh then (s.gg l).dR else (s.gg l).dF)) :=
    Nat.mul_le_mul_right 1000 (le_dtAdapt hd)
  simp only [State.tRel]
  split
  · omega
  · omega

/-- A gate held longer than t_rel rises in the present clock, which has then gone past t_rel. -/
theorem State.tRel_le_riseAt (h : 0 < s.tclk) : s.tRel l gh ≤ s.riseAt l gh := by
  let due := s.edge (max (s.tRel l gh) ((s.gg l).reqAt gh))
  have hdue : s.tRel l gh ≤ due := Nat.le_trans (Nat.le_max_left ..) (State.le_edge h _)
  show s.tRel l gh ≤ if s.pwmClk ≤ due / s.tclk then due else s.edge s.now
  split
  · exact hdue
  · next hpast =>
    have hnow : due < s.now := Nat.lt_of_not_le fun hle => hpast (Nat.div_le_div_right hle)
    exact Nat.le_trans hdue (Nat.le_trans (Nat.le_of_lt hnow) (State.le_edge h _))

end

/-! ### The release (R87, R94, R102, R103, R106) -/

/-- What a release asks of the clock it acts in: the gate requested, low and not barred, the other one low, nothing that
holds the leg, no FK assertion to be judged, and for GH the bootstrap supply. -/
def State.mayRise (s : State) (l : Nat) (gh : Bool) : Bool :=
  (if gh then (s.gg l).ghReq && !(s.gg l).gh && !(s.gg l).barH else (s.gg l).glReq && !(s.gg l).gl && !(s.gg l).barL) &&
    !(if gh then (s.gg l).gl else (s.gg l).gh) && s.gateFree l && (s.gg l).fkQuiet && !(gh && s.bootHold l)

section
variable {s : State} {l : Nat} {gh : Bool}

theorem gateRelease_waits (h : ¬(s.upTo (s.riseAt l gh)).mayRise l gh = true) :
    s.gateRelease l gh = s.upTo (s.riseAt l gh) :=
  if_neg h

/-- A release that acts takes the time to the clock of the rise. -/
theorem gateRelease_now (h : (s.upTo (s.riseAt l gh)).mayRise l gh = true) :
    (s.upTo (s.riseAt l gh)).riseAt l gh ≤ (s.gateRelease l gh).now := by
  rw [show s.gateRelease l gh = _ from if_pos h]
  exact Nat.le_max_right ..

end

/-- Settles O18: a gate that was low until the release has risen by it, in the clock of `riseAt`, which is not before
t_rel. -/
theorem noGateRisesBeforeDtMin : Obligations.NoGateRisesBeforeDtMin := by
  unfold Obligations.NoGateRisesBeforeDtMin
  intro l gh s₀ t e s hbefore hlow hhigh hd hmax hclk
  have ht : t = s₀.awake fun s => s.gateRelease l.val gh := (Host.Outcome.next.inj e).symm
  have hruns : s₀.runs = true := Decidable.byContradiction fun hrests => by
    rw [ht, show s₀.awake _ = s₀ from if_neg hrests, hbefore] at hhigh
    cases hhigh
  rw [State.awake_runs _ hruns] at ht
  have hmay : s.mayRise l.val gh = true := Decidable.byContradiction fun hwaits => by
    rw [ht, gateRelease_waits hwaits, hlow] at hhigh
    cases hhigh
  calc (s.gg l.val).tOff gh + ns (s.dtMin l.val)
      ≤ s.tRel l.val gh := State.tOff_add_dtMin_le_tRel hd hmax
    _ ≤ s.riseAt l.val gh := State.tRel_le_riseAt hclk
    _ ≤ t.now := ht ▸ gateRelease_now hmay

/-- Settles O17: what the release asks for is met, so it raises the gate. -/
theorem gateRisesAtItsRelease : Obligations.GateRisesAtItsRelease := by
  unfold Obligations.GateRisesAtItsRelease
  intro l gh s₀ hr s g hreq hother hfree hquiet hboot
  have hsupply : (gh && s.bootHold l.val) = false := by
    cases gh with
    | false => rfl
    | true => exact hboot rfl
  have hmay : s.mayRise l.val gh = true := by
    unfold State.mayRise
    rw [hreq, hother, hfree, hquiet, hsupply]
    rfl
  exact next_awake hr (if_pos hmay)

end Sys2Proof.Machine
end

section
/-! PROOF of the statement about a step on an empty queue (log entry 2). -/

namespace Sys2Proof.Machine

/-- Settles O2: with no command in front a step is an idle one, of 500 ps. -/
theorem idleStepPassesTime : Obligations.IdleStepPassesTime := by
  unfold Obligations.IdleStepPassesTime
  intro s h
  unfold step
  rw [h]
  rfl

end Sys2Proof.Machine
end

section
/-! PROOFS of the statement about captures of SN, confirms, parity of the guard and the dead-time entries (R86, R87, R89,
R91 to R94, R108). -/

namespace Sys2Proof.Machine

/-! ### A missed confirm (R89) -/

section
variable {s : State} {l : Nat}

theorem snExpiry_due {d : Nat} {lv : Bool} (h : (s.gg l).confirm = some (d, lv)) :
    s.snExpiry l = ((s.upTo d).updGg l fun g =>
      { g with confirm := none, snMiss := true, snMisses := min 0xFFFF (g.snMisses + 1) }).raise Flt.GG_SN l := by
  simp only [State.snExpiry, h]

/-! ### The dead-time entries (R92, R93, R111) -/

/-- The entry that GG_DT_WRITE names has the sub one above its number. -/
theorem dtReg_sub (l : Nat) (which : Fin 6) : (dtReg l which.val).key % 256 = which.val + 1 := by
  have hkey : ∀ sub < 256, key (0x2200 + l) sub % 256 = sub := fun sub h => by
    unfold key
    omega
  match which with
  | 0 => exact hkey 1 (by decide)
  | 1 => exact hkey 2 (by decide)
  | 2 => exact hkey 3 (by decide)
  | 3 => exact hkey 4 (by decide)
  | 4 => exact hkey 5 (by decide)
  | 5 => exact hkey 6 (by decide)

theorem check_of_admits {which : Fin 6} {d : List Byte} {l : Fin 192}
    (h : admits (0x2200 + l.val) (which.val + 1) d = true) : (row_DT which.val).check d = 0 := by
  rw [admits, look_DT] at h
  exact of_decide_eq_true h

theorem ownDt_enabled {r : Reg} {v : Nat} (h : (s.leg l).enabled = true) : s.ownDt l r v = .error abState := if_pos h

/-- On a disabled leg: by sub less 1 of the entry. -/
theorem ownDt_disabled {r : Reg} {x w : Nat} (h : (s.leg l).enabled = false) (hsub : r.key % 256 = w + 1) :
    let t := s.wr r x
    (w < 3 → t.dtMin l ≤ t.rd (Od.LEG_DT_INIT l) ∧ t.rd (Od.LEG_DT_INIT l) ≤ t.dtMax l) →
    let lo := 128 * t.dtMin l
    let hi := 128 * t.dtMax l
    let y := if x.testBit 0 then t else t.resetDt l
    let y := if (s.ggCtrl l).testBit 1 != x.testBit 1 then y.updGg l fun g => { g with sn := !g.sn } else y
    s.ownDt l r x = .ok (if w = 1 then t.resetDt l
      else if w = 0 || w = 2 then t.updGg l fun g => { g with dF := max lo (min g.dF hi), dR := max lo (min g.dR hi) }
      else if w = 5 then
        (if (s.ggCtrl l).testBit 2 != x.testBit 2 then
          (if (y.gg l).fkPin then y.fkRelease l y.now else y.fkAssert l y.now) else y)
      else t) := by
  intro t horder lo hi y₀ y
  have hordered : ¬((decide (w + 1 ≤ 3) &&
      !(decide (t.dtMin l ≤ t.rd (Od.LEG_DT_INIT l)) && decide (t.rd (Od.LEG_DT_INIT l) ≤ t.dtMax l))) = true) := by
    simp only [Bool.and_eq_true, Bool.not_eq_true', Bool.and_eq_false_iff, decide_eq_true_eq, decide_eq_false_iff_not]
    rintro ⟨hw, hout⟩
    obtain ⟨hmin, hmax⟩ := horder (Nat.lt_of_succ_le hw)
    exact hout.elim (fun h => h hmin) fun h => h hmax
  unfold State.ownDt
  rw [if_neg (ne_true_of_eq_false h)]
  simp only [hsub]
  rw [if_neg hordered]
  by_cases hinit : w = 1
  · subst hinit
    rfl
  by_cases hbound : w = 0 ∨ w = 2
  · rcases hbound with rfl | rfl <;> rfl
  by_cases hctrl : w = 5
  · subst hctrl
    rfl
  · have hrest := not_or.mp hbound
    simp only [Nat.reduceEqDiff, hinit, hrest, hctrl, decide_false, Bool.or_self, Bool.false_eq_true, if_false]
    rfl

end

/-- Settles O19: each event is one update of the guard, and a dead-time entry that its row admits comes to its owner. -/
theorem nodeCaptureMissAndDeadTimeWrites : Obligations.NodeCaptureMissAndDeadTimeWrites := by
  unfold Obligations.NodeCaptureMissAndDeadTimeWrites
  refine ⟨fun l t high s hr => ?transition, fun l s d lv hr hdue => ?confirm, fun t l s hr => ⟨?word, ?registers⟩,
    fun q l which v s hs => ?write⟩
  case transition => exact next_awake hr rfl
  case confirm => exact next_awake hr (snExpiry_due hdue)
  case word => exact next_awake hr rfl
  case registers => exact next_awake hr rfl
  case write =>
    intro bytes x hadmits r w typ
    have hserved := execGgDtWrite_served q l which v hs (check_of_admits hadmits)
    refine ⟨fun hon => hserved.trans ?refused, fun hoff horder => hserved.trans ?taken⟩
    case refused =>
      rw [ownDt_enabled hon]
      exact congrArg Host.Outcome.next (finish_refused (by decide))
    case taken =>
      rw [ownDt_disabled hoff (dtReg_sub l.val which) horder]
      rfl

end Sys2Proof.Machine
end

section
/-! PROOFS of the statement about string records and the safe torque off pins (R100, R101, R311 to R315, R504). -/

namespace Sys2Proof.Machine

/-! ### Records of a string (R100, R101) -/

/-- The device with one record of a string more counted. -/
def State.countRecord (s : State) : State := { s with strRecords := (s.strRecords + 1) % 2 ^ 32 }

theorem stringRecord_eq (s : State) (node kind id slot flag T : Nat) :
    s.stringRecord node kind id slot flag T = s.countRecord.each (s.countRecord.strById id) fun s i =>
      if kind = recSafeOff then s.safeOffRecord i node slot T (flag.testBit 0)
      else if kind = recTrip then s.tripString i false
      else if kind = recCommand then s.updStr i fun t => { t with cmd := some (flag, T) }
      else if kind = recStop then s.stopMembers i (s.str i).st.halted
      else if kind = recBlock then s.strBlock i
      else if kind = recRelease then s.strRelease i
      else s :=
  rfl

section
variable {s : State} {id : Nat}

/-- A record of a string that no entry of the device has only counts. -/
theorem stringRecord_unknown (node kind slot flag T : Nat) (h : s.countRecord.strById id = []) :
    s.stringRecord node kind id slot flag T = s.countRecord := by
  rw [stringRecord_eq, h]
  rfl

theorem stringRecord_safeOff {i : Nat} (node slot T : Nat) (die : Bool) (h : s.countRecord.strById id = [i]) :
    s.stringRecord node recSafeOff id slot (b2n die) T = s.countRecord.safeOffRecord i node slot T die := by
  have hdie : (b2n die).testBit 0 = die := by cases die <;> rfl
  rw [stringRecord_eq, h, hdie]
  rfl

theorem stringRecord_trip {i : Nat} (node : Nat) (h : s.countRecord.strById id = [i]) :
    s.stringRecord node recTrip id 0 0 0 = s.countRecord.tripString i false := by
  rw [stringRecord_eq, h]
  rfl

/-- The oldest records end 100 µs after their t0. -/
theorem recordExpiry_oldest {r : SoRecord} {rs : List SoRecord} (h : s.records = r :: rs) :
    let first := rs.foldl (fun a b => min a b.t0) r.t0
    s.recordExpiry = { s.at_ (s.localOf (first + sysUs 100)) with records := s.records.filter fun r => r.t0 ≠ first } := by
  simp only [State.recordExpiry, h, State.at_records]

end

/-! ### Who sees a low (R311) -/

section
variable {s : State} {width : Nat}

theorem stoSeen_short (h : width < 100) : s.stoSeen width = (0, s) := if_pos h

theorem stoSeen_long (h : 250 ≤ width) : s.stoSeen width = (3, s) :=
  (if_neg (by omega)).trans (if_pos h)

/-- Between 100 ns and 250 ns a value that the spec leaves open decides. -/
theorem stoSeen_between (hmin : 100 ≤ width) (hmax : width < 250) :
    s.stoSeen width = (s.draw.1 % 4, s.draw.2) :=
  (if_neg (by omega)).trans (if_neg (by omega))

end

/-! ### The effect on the pin's group (R311 to R315, R504) -/

theorem exec_stoAssert_runs {s : State} {g : Fin 2} {t width v : Nat} {r : State} (hr : s.runs = true)
    (hseen : (s.at_ t).stoSeen width = (v, r)) : exec (.stoAssert g t width) s = .next (if v = 0 then r else
      let y := ((r.updPin g.val fun p => p.fall t v).pairStep t).at_ (t + ns 600)
      (if v.testBit 0 then (y.updPin g.val fun p => { p with hw := true }).hwHold g.val else y).sfJudge) := by
  refine congrArg Host.Outcome.next ((if_pos hr).trans ?_)
  simp only [State.stoAssert, hseen]

theorem exec_stoAssert_rests {s : State} {g : Fin 2} {t width v : Nat} {r : State} (hr : s.runs = false)
    (hseen : (s.at_ t).stoSeen width = (v, r)) : exec (.stoAssert g t width) s =
      .next (if v = 0 then r else r.updPin g.val fun p => { p.fall t v with hw := p.hw || v.testBit 0 }) := by
  refine congrArg Host.Outcome.next ((if_neg (ne_true_of_eq_false hr)).trans ?_)
  simp only [State.stoPinLow, hseen]

/-- Settles O21: a record acts on the one string that has its id, and the width of a low says who sees it. -/
theorem tripRecordsAndStoPinsAct : Obligations.TripRecordsAndStoPinsAct := by
  unfold Obligations.TripRecordsAndStoPinsAct
  refine ⟨⟨fun t node id slot die t0 s i hr => ⟨?known, ?unknown⟩, fun s r rs hr h => ?expiry⟩,
    fun g t width s => ⟨fun hr => ?running, fun hr => ?resting⟩⟩
  case known =>
    exact fun h => ⟨next_awake hr (stringRecord_safeOff node.val slot.val _ die h), next_awake hr (stringRecord_trip node.val h)⟩
  case unknown =>
    exact fun h => ⟨next_awake hr (stringRecord_unknown _ _ _ _ _ h), next_awake hr (stringRecord_unknown _ _ _ _ _ h)⟩
  case expiry => exact next_awake hr (recordExpiry_oldest h)
  case running =>
    exact ⟨fun h => (exec_stoAssert_runs hr (stoSeen_long h)).trans (congrArg Host.Outcome.next (if_neg (by decide))),
      fun h => exec_stoAssert_runs hr (stoSeen_short h),
      fun hmin hmax => exec_stoAssert_runs hr (stoSeen_between hmin hmax), congrArg Host.Outcome.next (if_pos hr)⟩
  case resting =>
    exact ⟨fun h => exec_stoAssert_rests hr (stoSeen_long h), fun h => exec_stoAssert_rests hr (stoSeen_short h),
      fun hmin hmax => exec_stoAssert_rests hr (stoSeen_between hmin hmax),
      congrArg Host.Outcome.next (if_neg (ne_true_of_eq_false hr))⟩

end Sys2Proof.Machine
end

section
/-! PROOFS of the statement about the clocks: CLK_APPLY, the lock windows of PLL_SYS and the relock, and the monitors (R107,
R479 to R483, R485 to R487). -/

namespace Sys2Proof.Machine

section
variable {s : State}

/-! ### CLK_APPLY (R481) -/

theorem ownClkApply_relocks (hbist : s.bist.run = none) (hlegs : s.legsEnabled = 0) (hrelock : s.clk.relock = none) :
    s.ownClkApply 1 = .ok ((s.updClk fun c => { c with applySt := .pending }).relock s.staged) := by
  have hidle : ¬s.bist.run.isSome = true := by
    rw [hbist]
    decide
  have hfree : ¬(decide (s.legsEnabled ≠ 0) || s.clk.relock.isSome) = true := by
    rw [hlegs, hrelock]
    decide
  exact (if_pos rfl).trans ((if_neg hidle).trans (if_neg hfree))

theorem ownClkApply_refused (hbist : s.bist.run = none) (h : s.legsEnabled ≠ 0 ∨ s.clk.relock ≠ none) :
    s.ownClkApply 1 = .error abState := by
  have hidle : ¬s.bist.run.isSome = true := by
    rw [hbist]
    decide
  have hheld : (decide (s.legsEnabled ≠ 0) || s.clk.relock.isSome) = true := by
    rw [Bool.or_eq_true, decide_eq_true_eq, Option.isSome_iff_ne_none]
    exact h
  exact (if_pos rfl).trans ((if_neg hidle).trans (if_pos hheld))

theorem ownClkApply_busy (h : s.bist.run ≠ none) : s.ownClkApply 1 = .error abBusy :=
  (if_pos rfl).trans (if_pos (Option.isSome_iff_ne_none.mpr h))

/-! ### Lock windows (R479, R482) -/

/-- A count that takes the lock: off by 3 or more. -/
def windowOff (count : Nat) : Prop := count + 3 ≤ 1024 ∨ 1027 ≤ count

/-- A count in tolerance. -/
def windowGood (count : Nat) : Prop := 1023 ≤ count ∧ count ≤ 1025

/-- Whichever command reports a lock window, it is judged by its count. -/
theorem exec_lockWindow {c : Instr} {t : Nat} {count : BitVec 16} (hr : s.runs = true)
    (hc : c = .pllSysLock t count ∨ c = .pllSysUnlock t count) :
    exec c s = .next (s.lockWindow t count.toNat).clkSettle.serveStalled := by
  rcases hc with rfl | rfl
  · exact next_awake hr rfl
  · exact next_awake hr rfl

variable {t count : Nat}

theorem lockWindow_loses (hlock : s.clk.sysLock = true) (h : windowOff count) : s.lockWindow t count =
    (((s.at_ t).updClk fun c => { c with unlocksSys := up32 c.unlocksSys, unlockSeen := true }).raise
      Flt.CLK_SYS_UNLOCK 0).relock s.clk.active :=
  if_pos (by simpa only [State.at_clk, hlock, Bool.true_and, Bool.or_eq_true, decide_eq_true_eq, windowOff] using h)

theorem not_sysLock_and_windowOff (h : ¬windowOff count ∨ s.clk.sysLock = false) :
    ¬((s.at_ t).clk.sysLock && (decide (count + 3 ≤ 1024) || decide (count ≥ 1027))) = true := by
  simp only [State.at_clk, Bool.and_eq_true, Bool.or_eq_true, decide_eq_true_eq]
  rintro ⟨hlock, hoff⟩
  exact h.elim (fun hkept => hkept hoff) fun hunlocked => Bool.false_ne_true (hunlocked.symm.trans hlock)

/-- Without REFCLK no window ends. -/
theorem lockWindow_noRef (h : ¬windowOff count ∨ s.clk.sysLock = false) (href : s.clk.refOk = false) :
    s.lockWindow t count = s.at_ t :=
  (if_neg (not_sysLock_and_windowOff h)).trans (if_pos (by rw [State.at_clk, href]; decide))

/-- A window out of tolerance restarts the count. -/
theorem lockWindow_bad (h : ¬windowOff count ∨ s.clk.sysLock = false) (href : s.clk.refOk = true)
    (hbad : ¬windowGood count) : s.lockWindow t count = (s.at_ t).updClk fun c => { c with windows := 0 } := by
  have hcount : (decide (1023 ≤ count) && decide (count ≤ 1025)) = false := by
    rw [← Bool.decide_and]
    exact decide_eq_false hbad
  refine ((if_neg (not_sysLock_and_windowOff h)).trans (if_neg (by rw [State.at_clk, href]; decide))).trans ?_
  simp only [hcount]
  rfl

/-- A window in tolerance counts, and the second in a row on an unlocked PLL declares lock. -/
theorem lockWindow_good (href : s.clk.refOk = true) (hgood : windowGood count) :
    let r := (s.at_ t).updClk fun c => { c with windows := s.clk.windows + 1 }
    s.lockWindow t count = if s.clk.windows ≠ 0 ∧ s.clk.sysLock = false then
      (r.updClk fun c => { c with sysLock := true }).relocked else r := by
  obtain ⟨hmin, hmax⟩ := hgood
  have hkept : ¬windowOff count := by
    unfold windowOff
    omega
  refine ((if_neg (not_sysLock_and_windowOff (.inl hkept))).trans (if_neg (by rw [State.at_clk, href]; decide))).trans ?_
  simp only [hmin, hmax, decide_true, Bool.and_self, if_true]
  have hsecond : (decide (s.clk.windows + 1 ≥ 2) && !s.clk.sysLock) = true ↔
      s.clk.windows ≠ 0 ∧ s.clk.sysLock = false := by
    rw [Bool.and_eq_true, decide_eq_true_eq, Bool.not_eq_true']
    exact and_congr (by omega) Iff.rfl
  exact ite_congr (propext hsecond) (fun _ => rfl) fun _ => rfl

end

/-! ### PLL_LINK, REFCLK and the monitors (R480, R486, R487) -/

section
variable {s : State}

theorem linkLockChange_gains (err : Int) (h : s.clk.linkLock = false) : s.linkLockChange true err =
    (s.updClk fun c => { c with linkLock := true, phaseErr := err, linkclkOk := c.linkclkOk || true }).linkRestart :=
  (if_neg (by rw [h]; decide)).trans (if_pos rfl)

theorem linkLockChange_loses (err : Int) (h : s.clk.linkLock = true) (hlink : s.domOn domLink = true) :
    s.linkLockChange false err =
      (((s.updClk fun c => { c with linkLock := false, phaseErr := err, linkclkOk := c.linkclkOk || false }).updClk fun c =>
        { c with unlocksLink := up32 c.unlocksLink, unlockSeen := true }).raise Flt.CLK_LINK_UNLOCK 0).linkRestart :=
  ((if_neg (by rw [h]; decide)).trans (if_neg Bool.false_ne_true)).trans (congrArg State.linkRestart (if_pos hlink))

/-- Outside a relock the return of REFCLK starts one. -/
theorem refReturn_relocks (h : s.clk.relock = none) :
    let back := (s.updClk fun c => { c with refOk := true }).updTb fun b => { b.cutAt s.now with
      base := s.now, running := true, st := .freerun, rho := 0, rhoHold := 0, rhos := [], integ := 0, ref := .none
      okMs := 0, alarm := false }
    s.refReturn = back.relock back.clk.active := by
  intro back
  have hback : back.clk.relock = none := h
  simp only [State.refReturn, State.updTb_clk, State.updClk, h]
  rfl

theorem relockTimeout_runs {r : Relock} (h : s.clk.relock = some r) :
    let u := s.at_ (r.load + ms 1)
    s.relockTimeout =
      (u.updClk fun c => { c with relock := some { r with load := u.now }, windows := 0 }).raise Flt.CLK_RELOCK_TMO 0 := by
  simp only [State.relockTimeout, h]

/-- A domain clock off its setting by more than 1 %; the first two places of CLK_FREQ hold none (R486). -/
def State.freqOff (s : State) (i hz : Nat) : Bool :=
  decide (2 ≤ i) && (decide (hz * 100 > 101 * s.clkSetting i) || decide (hz * 100 < 99 * s.clkSetting i))

/-- The count of a clock as it is noted, with the clocks that are now off. -/
def State.noteFreq (s : State) (i hz : Nat) (bad : List Nat) : State :=
  s.updClk fun c => { c with freq := c.freq.set i (hz % 2 ^ 32), freqBad := bad }

section
variable {i hz : Nat}

theorem freqOff_iff : s.freqOff i hz = true ↔
    2 ≤ i ∧ (hz * 100 > 101 * s.clkSetting i ∨ hz * 100 < 99 * s.clkSetting i) := by
  simp only [State.freqOff, Bool.and_eq_true, Bool.or_eq_true, decide_eq_true_eq]

theorem clkFreq_eq : s.clkFreq i hz =
    let was := s.clk.freqBad.contains i
    let r := s.noteFreq i hz (if s.freqOff i hz then (if was then s.clk.freqBad else i :: s.clk.freqBad)
      else s.clk.freqBad.erase i)
    if s.freqOff i hz && !was then r.raise Flt.CLK_FREQ i else r :=
  rfl

/-- A clock that is off is raised when it was not before. -/
theorem clkFreq_off (h : s.freqOff i hz = true) : s.clkFreq i hz =
    if s.clk.freqBad.contains i = true then s.noteFreq i hz s.clk.freqBad
    else (s.noteFreq i hz (i :: s.clk.freqBad)).raise Flt.CLK_FREQ i := by
  rw [clkFreq_eq, h]
  cases s.clk.freqBad.contains i with
  | false => rfl
  | true => rfl

theorem clkFreq_ok (h : s.freqOff i hz = false) : s.clkFreq i hz = s.noteFreq i hz (s.clk.freqBad.erase i) := by
  rw [clkFreq_eq, h]
  rfl

end

end

/-- Settles O49: CLK_APPLY comes to its owner, a lock window is judged by its count, and each monitor notes what it has seen. -/
theorem lockWindowsRelocksAndMonitors : Obligations.LockWindowsRelocksAndMonitors := by
  unfold Obligations.LockWindowsRelocksAndMonitors
  refine ⟨fun q s hs => ?apply, fun t count c s hr hc => ?window, fun s r hr h => next_awake hr (relockTimeout_runs h),
    fun t err s hr => ?link, fun t s hr => ?reference, fun t k hz s hr => ?freq⟩
  case apply =>
    intro r go no
    have happly := execClkApply_served q hs
    refine ⟨fun hbist hlegs hrelock => happly.trans ?relocks, fun hbist h => happly.trans ?refused,
      fun hbist => happly.trans ?busy, execClkDiscard_served q hs⟩
    case relocks =>
      rw [ownClkApply_relocks hbist hlegs hrelock]
      rfl
    case refused =>
      rw [ownClkApply_refused hbist h]
      rfl
    case busy =>
      rw [ownClkApply_busy hbist]
      rfl
  case window =>
    intro r off inTol seen
    rw [exec_lockWindow hr hc]
    refine ⟨fun hlock hoff => ?lost, fun href hgood hfirst => ?counted, fun href hgood hnext hlock => ?locked,
      fun href hbad hkept => ?restarted, fun href hkept => ?noRef⟩
    case lost => rw [lockWindow_loses hlock hoff]
    case counted =>
      have hstays : ¬(s.clk.windows ≠ 0 ∧ s.clk.sysLock = false) := fun ⟨hnext, hlock⟩ =>
        hfirst.elim hnext (ne_true_of_eq_false hlock)
      rw [lockWindow_good href hgood, if_neg hstays]
    case locked => rw [lockWindow_good href hgood, if_pos ⟨hnext, hlock⟩]
    case restarted => rw [lockWindow_bad hkept href hbad]
    case noRef => rw [lockWindow_noRef hkept href]
  case link =>
    exact ⟨fun h => next_awake hr (linkLockChange_gains err h), fun h hlink => next_awake hr (linkLockChange_loses err h hlink)⟩
  case reference =>
    exact ⟨next_awake hr rfl, fun h => next_awake hr (refReturn_relocks h), next_awake hr rfl, fun k => next_awake hr rfl⟩
  case freq =>
    intro r f off seen
    refine ⟨fun hk hoff hnew => ?raised, fun hk hoff hold => ?noted, fun h => ?inRange⟩
    case raised => exact next_awake hr ((clkFreq_off (freqOff_iff.mpr ⟨hk, hoff⟩)).trans (if_neg (ne_true_of_eq_false hnew)))
    case noted => exact next_awake hr ((clkFreq_off (freqOff_iff.mpr ⟨hk, hoff⟩)).trans (if_pos hold))
    case inRange =>
      have hok : ¬r.freqOff k.val hz.toNat = true := fun hbad =>
        have ⟨hk, hoff⟩ := freqOff_iff.mp hbad
        h.elim (Nat.not_lt.mpr hk) fun hin => hin hoff
      exact next_awake hr (clkFreq_ok (eq_false_of_ne_true hok))

end Sys2Proof.Machine
end

section
/-! PROOF of the statement about the state after reset (R92, R418, R497, R503, R509). -/

namespace Sys2Proof.Machine

/-! ### Legs, carriers and slots after reset -/

/-- What is read from a list of equal members, or past its end, is one of them. -/
theorem getD_replicate_same {α : Type} (n i : Nat) (a : α) : (List.replicate n a).getD i a = a := by
  rw [List.getD_eq_getElem?_getD, List.getElem?_replicate]
  split
  · rfl
  · rfl

theorem reset_gg (l : Nat) : State.reset.gg l = {} := getD_replicate_same 192 l ({} : Guard)

theorem reset_leg (l : Nat) : State.reset.leg l = {} := getD_replicate_same 192 l ({} : Leg)

theorem reset_car (k : Nat) : State.reset.car k = {} := getD_replicate_same 64 k ({} : Carrier)

theorem reset_ls (n : Nat) : State.reset.ls n = {} := getD_replicate_same 128 n ({} : LoopSlot)

theorem reset_ust (c u : Nat) : State.reset.ust c u = .stopped := by
  have hslot : State.reset.slot c = {} := getD_replicate_same 32 c ({} : Slot)
  have hunit : ({} : Slot).unit u = {} := getD_replicate_same 6 u ({} : UnitSt)
  rw [State.ust, hslot, hunit]

theorem reset_sound : State.reset.sound = true := by
  simp only [State.sound, State.reset, soundParts, List.length_replicate]
  rfl

theorem reset_interlocked : State.reset.interlocked = true := by
  have hgates : ∀ g ∈ State.reset.gates, g = {} := fun g hg => List.eq_of_mem_replicate hg
  exact List.all_eq_true.mpr fun g hg => hgates g hg ▸ rfl

/-- Only AON, domain 0, is on. -/
theorem reset_domOn {d : Nat} (h : 0 < d) : State.reset.domOn d = false := by
  cases d with
  | zero => cases h
  | succ d =>
    have hoff : State.reset.pwr.doms.getD (d + 1) .off = .off := getD_replicate_same 9 d DomSt.off
    rw [State.domOn, hoff]
    rfl

/-- Settles O58: every group holds instances at their defaults, and the store of entries is empty. -/
theorem resetStateIsTheMachineAtRest : Obligations.ResetStateIsTheMachineAtRest := by
  unfold Obligations.ResetStateIsTheMachineAtRest
  exact ⟨reset_sound, reset_interlocked, fun l => by rw [reset_gg, reset_leg]; exact ⟨rfl, rfl, rfl⟩, reset_ust,
    fun k => by rw [reset_car], fun n => by rw [reset_ls], rfl, fun d => reset_domOn, rfl, rfl, rfl, rfl, rfl, rfl, rfl, rfl,
    fun r => State.rd_of_unlisted rfl⟩

end Sys2Proof.Machine
end

section
/-! PROOFS of the statements about modulator inputs: the writes of their entries, the violations, runs and fills that are
watched, their trips, and the results of the control path (R115 to R123, R133, R137). -/

namespace Sys2Proof.Machine

/-- The value of a write that an entry admits passes the checks of its row. -/
theorem check_of_admits_row {idx sub : Nat} {d : List Byte} {r : OdRow} (h : admits idx sub d = true)
    (hl : Od.lookup idx sub = .ok r) : r.check d = 0 := by
  rw [admits, hl] at h
  exact of_decide_eq_true h

section
variable {s : State} {m : Nat}

/-! ### Writes of MD_CTRL, an OSR or MD_TRIP_ACT (R115, R123) -/

/-- Of the four entries that MD_CTRL_WRITE names only the first is MD_CTRL. -/
theorem mdReg_key_eq_iff (which : Fin 4) : (mdReg m which.val).key = (Od.MD_CTRL m).key ↔ which.val = 0 := by
  match which with
  | ⟨0, _⟩ => exact ⟨fun _ => rfl, fun _ => rfl⟩
  | ⟨1, _⟩ => simp [mdReg, Od.MD_CTRL, Od.MD_FAST_OSR, key]
  | ⟨2, _⟩ => simp [mdReg, Od.MD_CTRL, Od.MD_CTRL_OSR, key]
  | ⟨3, _⟩ => simp [mdReg, Od.MD_CTRL, Od.MD_TRIP_ACT, key]

theorem ownMd_refused {r : Reg} {v : Nat} (h : s.slotStopped (m / 3) = false) : s.ownMd m r v = .error abState :=
  if_pos (by rw [h]; decide)

/-- On a stopped slot the write is stored, an input that it enables or disables changes its lines, and both filters
restart. -/
theorem ownMd_taken {x : Nat} (which : Fin 4) (hst : s.slotStopped (m / 3) = true)
    (hclk : which.val = 0 → x.testBit 0 = true → (s.rd Od.MEAS_MCLK_EN).testBit (m / 16) = true) :
    let w := s.wr (mdReg m which.val) x
    let was := (s.rd (Od.MD_CTRL m)).testBit 0
    s.ownMd m (mdReg m which.val) x = .ok (State.mdRestart
      (if which.val = 0 && (x.testBit 0 && !was) then
        w.updMd m fun y => { y with hi := false, lo := false, trip := false, offAt := none }
      else if which.val = 0 && (!x.testBit 0 && was) then w.mdDisable m else w) m) := by
  intro w was
  unfold State.ownMd
  rw [if_neg (by rw [hst]; decide)]
  by_cases hctrl : which.val = 0
  · have hclocked : ¬(x.testBit 0 && !(s.rd Od.MEAS_MCLK_EN).testBit (m / 16)) = true := by
      rw [Bool.and_eq_true, Bool.not_eq_true']
      rintro ⟨hon, hoff⟩
      exact Bool.false_ne_true (hoff.symm.trans (hclk hctrl hon))
    rw [if_pos ((mdReg_key_eq_iff which).mpr hctrl), if_neg hclocked]
    simp only [hctrl, decide_true, Bool.true_and, w, was]
  · rw [if_neg (mt (mdReg_key_eq_iff which).mp hctrl)]
    simp only [hctrl, decide_false, Bool.false_and, Bool.false_eq_true, if_false, w]

/-! ### What the watch of an enabled input counts and raises (R116 to R118) -/

theorem mdViolation_enabled (t : Nat) (h : s.mdOn m = true) :
    let r := (s.at_ t).updMd m fun x => { x with
      viol := (s.at_ t).now :: x.viol.filter fun v => (s.at_ t).now < v + ms 1, tv := (x.tv + 1) % 2 ^ 32 }
    s.mdViolation m t = if (r.md m).viol.length > 16 && !(r.md m).clkBad then
      (r.updMd m fun x => { x with clkBad := true, clockSeen := true }).raise Flt.MD_CLOCK m else r :=
  if_neg (by rw [h]; decide)

theorem mdRecover_violated {v : Nat} {vs : List Nat} (hv : (s.md m).viol = v :: vs) (hbad : (s.md m).clkBad = true) :
    s.mdRecover m = (s.at_ (v + ms 1)).updMd m fun x => { x with clkBad := false } := by
  simp only [State.mdRecover, hv, hbad, if_true]

/-- A run that exceeds MD_RUN_MAX where none stood. -/
theorem mdRun_starts {t run : Nat} (hon : s.mdOn m = true) (hlong : s.rd (Od.MD_RUN_MAX m) < run)
    (hrun : (s.md m).runOn = false) : s.mdRun m t run =
      ((s.at_ t).updMd m fun x => { x with runOn := true, runBad := true, stuckSeen := true }).raise Flt.MD_STUCK m := by
  have hbegins : (decide (run > s.rd (Od.MD_RUN_MAX m)) && !(s.md m).runOn) = true := by simp [hlong, hrun]
  exact (if_pos hon).trans (if_pos hbegins)

/-- A shorter run ends the one that stood. -/
theorem mdRun_ends {t run : Nat} (hon : s.mdOn m = true) (hshort : run ≤ s.rd (Od.MD_RUN_MAX m))
    (hrun : (s.md m).runOn = true) : s.mdRun m t run = (s.at_ t).updMd m fun x => { x with
      runOn := false, fillFrom := (s.at_ t).now - run * s.tmclk, fillFast := true, fillCtrl := true } := by
  have hgoes : ¬(decide (run > s.rd (Od.MD_RUN_MAX m)) && !(s.md m).runOn) = true := by simp [hrun]
  have hends : (!decide (run > s.rd (Od.MD_RUN_MAX m)) && (s.md m).runOn) = true := by simp [hrun, hshort]
  exact (if_pos hon).trans ((if_neg hgoes).trans (if_pos hends))

theorem mdFilled_filling {t : Nat} {ctrl : Bool} (hon : s.mdOn m = true) (hfall : s.measFallback = false)
    (hfill : (if ctrl then (s.md m).fillCtrl else (s.md m).fillFast) = true) :
    let r := s.at_ (max t ((s.md m).fillFrom + (if ctrl then s.mdFillCtrl m else s.mdFillFast m)))
    let r := r.updMd m fun x => if ctrl then { x with fillCtrl := false } else { x with fillFast := false }
    s.mdFilled m t ctrl = r.updMd m fun x => { x with
      runBad := x.runBad && (x.runOn || x.fillFast || x.fillCtrl), relBad := x.relBad && (x.fillFast || x.fillCtrl) } :=
  if_pos (by simp only [hon, hfall, hfill, Bool.not_false, Bool.and_self])

end

/-- Settles O22: a write comes to the owner of the entry, and each event finds the input in the state it asks for. -/
theorem modulatorInputsWriteAndWatch : Obligations.ModulatorInputsWriteAndWatch := by
  unfold Obligations.ModulatorInputsWriteAndWatch
  refine ⟨fun q m which v s => ?write, fun m t s hr hon => next_awake hr (mdViolation_enabled t hon),
    fun m s v vs hr hv hbad => next_awake hr (mdRecover_violated hv hbad),
    fun m t run s hr hon hlong hrun => next_awake hr (mdRun_starts hon hlong hrun),
    fun m t run s hr hon hshort hrun => next_awake hr (mdRun_ends hon hshort hrun),
    fun m t ctrl s hr hon hfall hfill => next_awake hr (mdFilled_filling hon hfall hfill)⟩
  case write =>
    intro sub bytes x typ hs hadmits r w was
    have hserved := execMdCtrlWrite_served q m which v hs (check_of_admits_row hadmits (look_MD m which))
    refine ⟨fun hlive => hserved.trans ?refused, fun hst hclk => hserved.trans ?taken⟩
    case refused =>
      rw [ownMd_refused hlive]
      exact congrArg Host.Outcome.next (finish_refused (by decide))
    case taken =>
      rw [ownMd_taken which hst hclk]
      rfl

/-! ### Trips (R121, R122) -/

section
variable {s : State} {m : Nat} {stream : List Bool}

/-- The last MD_TRIP_DGL fast values lie at or beyond a threshold (R121). -/
theorem mdTrip_asserts {t n : Nat} (hn : ((s.upTo t).mdThr m (Od.MD_TRIP_DGL m) false).toNat = n)
    (hon : (s.upTo t).mdOn m = true) (htrip : ((s.upTo t).md m).trip = false) (hpos : 0 < n) (hlen : n ≤ stream.length)
    (hbeyond : ∀ j < n, (s.upTo t).mdBeyond m ((s.upTo t).mdFast m (stream.take (stream.length - j))) = true) :
    let r := ((s.upTo t).mdPublish m stream).updMd m fun x => { x with
      v := (s.upTo t).mdFast m stream, trip := true, tripSeen := true, trips := (x.trips + 1) % 2 ^ 32 }
    let r := r.raise Flt.MD_TRIP m
    s.mdTrip m t stream = match r.rd (Od.MD_TRIP_ACT m) with
      | 1 => r.each (r.units (m / 3)) fun r u => r.safeOffUnit (m / 3) u Flt.MD_TRIP false
      | 2 => r.each (r.busesOn m) fun r b => r.ov3Cut b
      | _ => r := by
  have hall : ((List.range n).all fun j =>
      (s.upTo t).mdBeyond m ((s.upTo t).mdFast m (stream.take (stream.length - j)))) = true :=
    List.all_eq_true.mpr fun j hj => hbeyond j (List.mem_range.mp hj)
  subst hn
  exact if_pos (by simp only [hon, htrip, hlen, hall, hpos, decide_true, Bool.not_false, Bool.and_self])

theorem mdTripEnd_between {t : Nat} (htrip : ((s.upTo t).md m).trip = true)
    (hv : (s.upTo t).mdBeyond m ((s.upTo t).mdFast m stream) = false) : s.mdTripEnd m t stream =
      State.endTrip (((s.upTo t).mdPublish m stream).updMd m fun x => { x with v := (s.upTo t).mdFast m stream }) m :=
  if_pos (by rw [htrip, hv]; decide)

/-! ### Firings and their outputs (R119, R133, R137) -/

theorem trgSample_firing {te : Nat} {f : Firing} (h : s.nextFiring = some (te, f)) :
    let r := (s.at_ f.ts).updTrg te fun t => { t with pend := none }
    s.trgSample = if f.chan < 0x60 then r.sampleMd te f else r.sampleSar te f := by
  simp only [State.trgSample, h]

end

/-- Settles O23: a trip asserts or ends on the state of its moment, and each of the two others takes the firing that is
first. -/
theorem modulatorTripsAndControlOutputs : Obligations.ModulatorTripsAndControlOutputs := by
  unfold Obligations.ModulatorTripsAndControlOutputs
  refine ⟨fun m t stream s hr => ?trip, fun m t stream s hr => ?release,
    fun s te f hr h => next_awake hr (trgSample_firing h), fun stream s d hr h => ?output⟩
  case trip =>
    intro u hon htrip n hpos hlen hbeyond
    exact next_awake hr (mdTrip_asserts rfl hon htrip hpos hlen hbeyond)
  case release =>
    intro u htrip hv
    exact next_awake hr (mdTripEnd_between htrip hv)
  case output =>
    refine next_awake hr ?_
    rewrite [State.mdOutput, h]
    rfl

end Sys2Proof.Machine
end

section
/-! PROOFS of the statements about converter results, streaming pairs and the result queue (R124 to R129, R132, R139 to R141,
R146). -/

namespace Sys2Proof.Machine

section
variable {s : State}

/-! ### Streaming pairs (R129) -/

/-- Offset and gain are declared 5 tau after the stream began. -/
theorem streamConverged_og {i t : Nat} (h : (s.slice (i / 2 * 2)).streamFrom = some t) : s.streamConverged i false =
    (s.at_ (t + 5 * 2 ^ s.rd (Od.SLICE_MU (i / 2 * 2)) * ns 100)).updSlice (i / 2 * 2) fun x => { x with convOG := true } := by
  simp only [State.streamConverged, h, Bool.false_eq_true, if_false]

/-- The skew is declared once 20 tau of gated pairs have passed. -/
theorem streamConverged_skew {i t : Nat} (h : (s.slice (i / 2 * 2)).streamFrom = some t)
    (hgated : 20 * 2 ^ s.rd (Od.SLICE_MU (i / 2 * 2)) ≤ (s.slice (i / 2 * 2)).gated) :
    s.streamConverged i true = s.updSlice (i / 2 * 2) fun x => { x with convSk := true } := by
  simp only [State.streamConverged, h, ge_iff_le, hgated, if_true]

/-! ### What leaves the queue (R141) -/

theorem ageHost_host {x : Nat × QEntry} {rest : List (Nat × QEntry)}
    (h : takeFirst (fun e => e.dst = 0xFF) s.meas.queue = some (x, rest)) : s.ageHost =
      { s.at_ (x.1 + us (s.rd Od.Q_HOST_AGE) + 1) with
        meas := Meas.settle { s.meas with queue := rest, aged := (s.meas.aged + 1) % 2 ^ 32 } } := by
  simp only [State.ageHost, h, State.at_meas]

/-- An entry, and the zero bytes where none waits, are 16 bytes (R137, R146). -/
theorem popHost_length : s.popHost.1.length = 16 := by
  unfold State.popHost
  split
  · exact List.length_replicate
  · exact leBytes_length 16 _

/-! ### READ of one entry (R456, R462) -/

/-- A READ that the device serves answers the whole value, in the state that the read leaves. -/
theorem readCmd_served {q : Req} {idx sub : Nat} {r : OdRow} {read : List Byte × State}
    (h : s.serves q idx sub = true) (hl : Od.lookup idx sub = .ok r) (hi : idx ≠ 0x1C00) (hj : idx ≠ 0x1A00)
    (hb : r.base ≠ 0x8000) (hv : (s.upTo q.t).readEntry r idx sub = .ok read) (hfits : read.1.length ≤ pathLimit q.path) :
    s.readCmd q idx sub =
      read.2.answer (q.msg 1 idx sub []) { typ := r.ty.code, total := read.1.length, data := read.1 } := by
  have htaken := request_served (m := q.msg 1 idx sub []) h Nat.one_pos (show 1 < 7 by decide) hl
  have htype : (s.upTo q.t).typeOf r idx sub = r.ty.code := if_neg (by simp [hb])
  have hplain : ¬(idx = 0x1C00 ∨ idx = 0x1A00) := not_or.mpr ⟨hi, hj⟩
  refine (htaken.trans (if_neg hplain)).trans ?_
  show (s.upTo q.t).doRead (q.msg 1 idx sub []) r = _
  simp only [State.doRead, Req.msg, hv, htype, List.length_nil, if_true, gt_iff_lt, Nat.not_lt.mpr hfits, if_false]

def row_Q_HOST_POP : OdRow := ⟨0x2A00, 1, 0x04, 1, "Q_HOST_POP", .octets, .ro, 0, .any, 0, 0, 0, false, 16, false⟩

theorem pick_Q_HOST_POP : Od.pick Od.rows 0x2A00 1 0x04 1 = some row_Q_HOST_POP := by decide +kernel

theorem look_Q_HOST_POP : Od.lookup 0x2A00 0x04 = .ok row_Q_HOST_POP := by
  simpa only [Nat.add_zero] using lookup_of_pick (b := 0x2A00) (s := 0x04) (i := 0) (j := 0) pick_Q_HOST_POP
    Nat.zero_lt_one Nat.zero_lt_one (by decide) (by decide)

/-- A read of Q_HOST_POP takes the oldest host entry out (R141). -/
theorem exec_qHostPop {q : Req} (h : s.serves q 0x2A00 0x04 = true) : exec (.qHostPop q) s =
    .next ((s.upTo q.t).popHost.2.answer (q.msg 1 0x2A00 0x04 [])
      { typ := 13, total := 16, data := (s.upTo q.t).popHost.1 }) := by
  have hfits : (s.upTo q.t).popHost.1.length ≤ pathLimit q.path := by
    have hlimit := pathLimit_le q.path
    rw [popHost_length]
    omega
  have hentry : (s.upTo q.t).readEntry row_Q_HOST_POP 0x2A00 0x04 = .ok (s.upTo q.t).popHost := rfl
  have hread := readCmd_served h look_Q_HOST_POP (by decide) (by decide) (by decide) hentry hfits
  rw [popHost_length] at hread
  exact congrArg Host.Outcome.next hread

end

/-- Settles O24: the conversion that is due first forms the result, and a streaming pair is updated or declared converged. -/
theorem converterResultsAndStreamEstimates : Obligations.ConverterResultsAndStreamEstimates := by
  unfold Obligations.ConverterResultsAndStreamEstimates
  refine ⟨fun codes s c hr h => ?result, fun i e o e2 s hr => ?update, fun i s t hr => ?converged⟩
  case result =>
    refine next_awake hr ?_
    unfold State.sarDone
    split
    next hnone => cases hnone.symm.trans h
    next first hfirst =>
      cases hfirst.symm.trans h
      rfl
  case update =>
    intro k p hstream hfall
    have hgoes : ¬(p.streamFrom.isNone || s.measFallback) = true := by
      rw [hfall, Bool.or_false, Option.isNone_iff_eq_none]
      exact Option.isSome_iff_ne_none.mp hstream
    exact next_awake hr (if_neg hgoes)
  case converged =>
    intro k tau h
    exact ⟨next_awake hr (streamConverged_og h), fun hgated => next_awake hr (streamConverged_skew h hgated)⟩

/-- Settles O25: the result that is first enters as `enqueue` says, and what leaves is the oldest host entry. -/
theorem resultQueue : Obligations.ResultQueue := by
  unfold Obligations.ResultQueue
  refine ⟨fun s x hr h => ?enters, fun s x rest hr h => next_awake hr (ageHost_host h), fun q s hs => exec_qHostPop hs,
    fun q s hs => execQClr_served q hs⟩
  case enters =>
    refine next_awake hr ?_
    unfold State.queueEntry
    split
    next hnone => cases hnone.symm.trans h
    next first hfirst =>
      cases hfirst.symm.trans h
      rfl

end Sys2Proof.Machine
end

section
/-! PROOFS of the statements about loop slots: what LS_PROGRAM and LS_CMD do with a slot, and what reaches its coefficient
banks and its host inputs (R156, R158, R160, R171, R174 to R176, R179, R182). -/

namespace Sys2Proof.Machine

/-- A write whose owner takes it is answered as an accepted one, in the state that its owner makes. -/
theorem accepted_of_taken {o : Host.Outcome State Fault Refusal} {r w : State} {a : Own} {q : Req} {op idx sub typ : Nat}
    (h : o = .next (State.finish (r.done a) (q.msg op idx sub []) typ)) (ha : a = .ok w) :
    o = .next (w.accepted q op idx sub typ) := by
  subst ha
  exact h

section
variable {s : State} {n : Nat}

/-! ### LS_PROGRAM and LS_CMD (R156, R179) -/

theorem ownLsProgram_loads {img : List Byte} {p : LProg} (hst : (s.ls n).st = .empty ∨ (s.ls n).st = .loaded)
    (hsig : s.sigOk img kindLoop [] = true) (hparse : parseProg img = some p) (hok : progOk p = true)
    (hroom : p.room ≤ s.loopFree n) : s.ownLsProgram n img = .ok (s.loadProg n p) := by
  have hidle : ¬((s.ls n).st = .running ∨ (s.ls n).st = .holding) := by rcases hst with h | h <;>
    simp only [h, reduceCtorEq, or_self, not_false_eq_true]
  simp only [State.ownLsProgram, Bool.or_eq_true, decide_eq_true_eq, hidle, hsig, hparse, hok, Nat.not_lt.mpr hroom,
    Bool.not_true, Bool.false_eq_true, if_false]

/-- What RUN makes of a slot that a pipe takes. -/
theorem lsRun_taken {k : Nat} {p : LProg} (hst : (s.ls n).st = .loaded) (hstop : (s.ls n).pendStop = false)
    (htest : s.pipeTest (s.rd (Od.LS_PIPE n)) = false) (hra : s.raOk n = true) (hwindow : s.windowOk n = true)
    (hpipe : s.pickPipe n = some k) (hprog : (s.ls n).prog = some p) :
    s.lsRun n = .ok (s.updLs n fun t => { t with
      st := .running, pipe := some k, run := none, words := runWords p t.bank
      first := true, prev := [], fallbackNext := true, raCost := s.raCostOf n, resync := false, pendResume := false
      inputs := t.inputs.map fun x => { x with real := none } }) := by
  simp only [State.lsRun, hst, hstop, htest, hra, hwindow, hpipe, hprog, ne_eq, not_true_eq_false, decide_false,
    Bool.or_self, Bool.not_true, Bool.false_eq_true, if_false]

/-- STOP is for a slot that is RUNNING or HOLDING, HOLD for one that is RUNNING. -/
theorem lsLeave_taken {stop : Bool} (hstop : (s.ls n).pendStop = false)
    (hst : (s.ls n).st = .running ∨ stop = true ∧ (s.ls n).st = .holding) :
    let r := s.updLs n fun t => { t with pendStop := stop, pendHold := !stop }
    s.lsLeave n stop = .ok (State.settleCmd (if (s.ls n).run.any fun x =>
      x.kind = .parked || x.kind = .stage || (x.start.isNone && x.kind ≠ .recompute) then r.dropRun n else r) n) := by
  have hmay : ¬(!(decide ((s.ls n).st = .running) || (stop && decide ((s.ls n).st = .holding)))) = true := by
    rcases hst with hrunning | ⟨rfl, hholding⟩
    · rw [hrunning]
      exact Bool.false_ne_true
    · rw [hholding]
      exact Bool.false_ne_true
  unfold State.lsLeave
  rw [if_neg (by rw [hstop]; decide), if_neg hmay]

section
variable (hst : (s.ls n).st = .holding) (hstop : (s.ls n).pendStop = false)
  (hinput : s.standing Flt.LOOP_INPUT n = false) (hmiss : s.standing Flt.LOOP_MISS_RUN n = false)
  (hecc : s.standing Flt.LOOP_ECC_U n = false)
include hst hstop hinput hmiss hecc

theorem lsResume_onPipe (hpipe : (s.ls n).pipe.isSome = true) :
    s.lsResume n = .ok (s.updLs n fun t => { t with pendResume := true }) := by
  obtain ⟨k, hk⟩ := Option.isSome_iff_exists.mp hpipe
  simp only [State.lsResume, hst, hstop, hinput, hmiss, hecc, hk, ne_eq, not_true_eq_false, decide_false, Bool.or_self,
    Bool.false_eq_true, if_false]

/-- A slot without a pipe takes one as at RUN (log entry 178). -/
theorem lsResume_takesPipe {k : Nat} (hnone : (s.ls n).pipe = none) (hra : s.raOk n = true) (hwindow : s.windowOk n = true)
    (hpipe : s.pickPipe n = some k) : s.lsResume n = .ok (s.updLs n fun t => { t with
      pendResume := true, pipe := some k, raCost := s.raCostOf n }) := by
  simp only [State.lsResume, hst, hstop, hinput, hmiss, hecc, hnone, hra, hwindow, hpipe, ne_eq, not_true_eq_false,
    decide_false, Bool.or_self, Bool.not_true, Bool.false_eq_true, if_false]

end

theorem lsUnload_taken (hst : (s.ls n).st = .loaded) : s.lsUnload n = .ok (s.updLs n fun t => { t with
    st := .empty, prog := none, bankA := [], bankB := [], act := 0, swap := false, words := [], prev := [] }) :=
  if_neg (not_not_intro hst)

end

/-- Settles O26: each write is one that the slot takes, so the response is that of an accepted one. -/
theorem loopSlotLoadsRunsAndUnloads : Obligations.LoopSlotLoadsRunsAndUnloads := by
  unfold Obligations.LoopSlotLoadsRunsAndUnloads
  intro q n s r t
  refine ⟨fun img p hs hlen hst hsig hparse hok hroom => ?program, fun hs => ⟨?run, ?leave, ?resume, ?unload⟩⟩
  case program =>
    have hserved := execLsProgramWrite_served q n img hs hlen
    rw [ownLsProgram_loads hst hsig hparse hok hroom] at hserved
    exact hserved
  case run =>
    intro k p hst hstop htest hra hwindow hpipe hprog
    exact accepted_of_taken (execLsRun_served q n hs) (lsRun_taken hst hstop htest hra hwindow hpipe hprog)
  case leave =>
    intro leave hstop
    refine ⟨fun hst => accepted_of_taken (execLsStop_served q n hs) (lsLeave_taken hstop ?_),
      fun hst => accepted_of_taken (execLsHold_served q n hs) (lsLeave_taken hstop (.inl hst))⟩
    exact hst.imp_right fun hholding => ⟨rfl, hholding⟩
  case resume =>
    intro hst hstop hinput hmiss hecc
    exact ⟨fun hpipe => accepted_of_taken (execLsResume_served q n hs) (lsResume_onPipe hst hstop hinput hmiss hecc hpipe),
      fun k hnone hra hwindow hpipe => accepted_of_taken (execLsResume_served q n hs)
        (lsResume_takesPipe hst hstop hinput hmiss hecc hnone hra hwindow hpipe)⟩
  case unload =>
    intro hst
    exact accepted_of_taken (execLsUnload_served q n hs) (lsUnload_taken hst)

section
variable {s : State} {n : Nat}

/-! ### Coefficient banks and host inputs (R160, R174 to R176) -/

theorem ownSwap_running (h : (s.ls n).st = .running) : s.ownSwap n = .ok (s.updLs n fun t => { t with swap := true }) := by
  simp only [State.ownSwap, h, reduceCtorEq, if_true, if_false]

theorem ownSwap_resting (h : (s.ls n).st = .loaded ∨ (s.ls n).st = .holding) :
    s.ownSwap n = .ok (s.updLs n fun t => { t with act := 1 - t.act }) := by
  rcases h with h | h <;> simp only [State.ownSwap, h, reduceCtorEq, if_false]

theorem ownCoefImage_taken {img : List Byte} (hst : (s.ls n).st ≠ .empty) (hswap : (s.ls n).swap = false)
    (hlen : img.length = 4 * (s.ls n).bank.length) :
    s.ownCoefImage n img = .ok (s.updLs n fun t => t.setOther (leWords img 0 t.bank.length)) := by
  simp only [State.ownCoefImage, hst, hswap, hlen, ne_eq, not_true_eq_false, decide_false, Bool.and_false,
    Bool.false_eq_true, if_false]

theorem ownCoefWord_taken (v : Nat) (hst : (s.ls n).st ≠ .empty) (hswap : (s.ls n).swap = false)
    (haddr : s.rd (Od.LS_COEF_ADDR n) < (s.ls n).bank.length) : s.ownCoefWord n v = .ok ((s.updLs n fun t =>
      t.setOther (t.other.set (s.rd (Od.LS_COEF_ADDR n)) v)).bumpAddr n) := by
  simp only [State.ownCoefWord, hst, hswap, ge_iff_le, Nat.not_le.mpr haddr, decide_false, Bool.or_self,
    Bool.false_eq_true, if_false]

/-- The value of LS_COEF_DIRECT holds the place of a word in its low half and the word in its high half (R176). -/
theorem ownDirect_taken {w : BitVec 16} (v : BitVec 32) (hst : (s.ls n).st ≠ .empty)
    (hw : w.toNat < (s.ls n).bank.length) : s.ownDirect n (w.toNat + v.toNat * 2 ^ 32) = .ok ((s.advance n).updLs n fun t =>
      { t.setWord w.toNat v.toNat with directs := (t.directs + 1) % 2 ^ 32, directSeen := true }) := by
  have hplace : (w.toNat + v.toNat * 2 ^ 32) % 2 ^ 16 = w.toNat := by have := w.isLt; omega
  have hword : (w.toNat + v.toNat * 2 ^ 32) / 2 ^ 32 % 2 ^ 32 = v.toNat := by have := w.isLt; have := v.isLt; omega
  unfold State.ownDirect
  rw [hplace, hword, if_neg hst, if_neg (Nat.not_le.mpr hw)]

theorem ownInVal_finite (i : Nat) {v : Nat} (h : F32.finite v = true) : s.ownInVal n i v = .ok (s.hostIn n i v) := if_pos h

end

/-- Settles O28: each write is one that the slot takes, so the response is that of an accepted one. -/
theorem coefficientBanksAndHostInputs : Obligations.CoefficientBanksAndHostInputs := by
  unfold Obligations.CoefficientBanksAndHostInputs
  intro q n s r t
  refine ⟨fun hs => ⟨fun hst => ?later, fun hst => ?now⟩, fun hst hswap => ⟨fun img hs hlen hmax => ?image,
    fun v hs haddr => ?word⟩, fun w v hs hst hw => ?direct, fun i v hs hadmits hfinite => ?input⟩
  case later => exact accepted_of_taken (execLsBankSwap_served q n hs) (ownSwap_running hst)
  case now => exact accepted_of_taken (execLsBankSwap_served q n hs) (ownSwap_resting hst)
  case image => exact accepted_of_taken (execLsCoefImageWrite_served q n img hs hmax) (ownCoefImage_taken hst hswap hlen)
  case word => exact accepted_of_taken (execLsCoefWordWrite_served q n v hs) (ownCoefWord_taken v.toNat hst hswap haddr)
  case direct => exact accepted_of_taken (execLsCoefDirect_served q n w v hs) (ownDirect_taken v hst hw)
  case input =>
    have hcheck := check_of_admits_row hadmits (look_LS_IN_VAL n i)
    exact accepted_of_taken (execLsInValWrite_served q n i v hs hcheck) (ownInVal_finite i.val hfinite)

end Sys2Proof.Machine
end

section
/-! PROOFS of the statement about the runs of the loop engine: the intake of queue entries, how a run becomes ready, takes
its pipe, ends or is abandoned, and the delivery of its values (R151, R153, R160, R161, R163, R166, R170, R173). -/

namespace Sys2Proof.Machine

section
variable {s : State} {n : Nat} {r : LRun}

/-! ### Release to start (R160, R161, R170) -/

/-- The oldest entry for the engine goes to the inputs that select its trigger, one entry per LOOP clock (R141, R160). -/
theorem intake_entry {x : Nat × QEntry} {rest : List (Nat × QEntry)} (hon : s.domOn domLoop = true)
    (hfirst : takeFirst (fun e => decide (e.dst < 128)) s.meas.queue = some (x, rest)) :
    let r := match s.le.intakeClk with
      | some c => s.at_ ((c + 1) * s.tloop)
      | none => s
    let r : State := { r with
      meas := Meas.settle { r.meas with queue := rest }
      le := { r.le with intake := (r.le.intake + 1) % 2 ^ 64, intakeClk := some r.loopClk } }
    let n := x.2.dst
    s.intake = if (r.ls n).st ≠ .running then { r with meas := { r.meas with dstOff := (r.meas.dstOff + 1) % 2 ^ 32 } }
      else match (List.range 16).filter fun i => r.inKind n i = 1 && r.inSel n i = x.2.trig with
        | [] => r.updLs n fun t => { t with stray := (t.stray + 1) % 2 ^ 32 }
        | is => r.each is fun r i => r.placeEntry n i x.2 := by
  have hgoes : ¬(!s.domOn domLoop) = true := by rw [hon]; decide
  unfold State.intake
  rw [hfirst]
  exact if_neg hgoes

theorem inTimeout_unready (hrun : (s.ls n).run = some r) (hready : r.ready = false) : s.inTimeout n =
    (s.at_ (r.release + ns (s.rd (Od.LS_IN_TIMEOUT n)))).updRun n fun r => { r with ready := true } := by
  simp only [State.inTimeout, hrun, hready, Bool.false_eq_true, if_false]

/-- A run that a run of an earlier deadline had made yield goes on on its free pipe. -/
theorem takePipe_resumes {p : Nat} (hnext : s.nextRun p = some n) (hfree : s.occupant p = none)
    (hrun : (s.ls n).run = some r) (hstart : r.start.isSome = true) :
    let w := s.at_ (s.loopEdge (max s.now (s.pipeFree p)))
    s.takePipe p = w.updRun n fun r => { r with onPipe := some w.now } := by
  simp only [State.takePipe, hnext, hfree, hrun, hstart, if_true]

theorem takePipe_starts {p : Nat} (hnext : s.nextRun p = some n) (hfree : s.occupant p = none)
    (hrun : (s.ls n).run = some r) (hstart : r.start = none) :
    let t := s.loopEdge (max s.now (s.pipeFree p))
    let late := (List.range 16).any fun i => s.waits n i && r.kind ≠ .recompute &&
      ((s.ls n).inp i).cur.any fun v => decide (v.clk ≥ t / s.tloop) && ((s.ls n).inp i).was.isNone
    s.takePipe p = State.startRun
      (s.at_ (if late && s.now < r.release + ns (s.rd (Od.LS_IN_TIMEOUT n)) then t + s.tloop else t)) n := by
  simp only [State.takePipe, hnext, hfree, hrun, hstart, Option.isSome_none, Bool.false_eq_true, if_false]

/-! ### The end of a run (R151, R153, R173) -/

section
variable {p : LProg} {e : Nat} (hrun : (s.ls n).run = some r) (hprog : (s.ls n).prog = some p)
  (hend : s.runEnd n = some e) (hkind : r.kind = .plain)
include hrun hprog hend hkind

theorem endRun_commits (hbad : ((s.ls n).exec p p.blocks.length (s.ls n).cost r).bad = false) (htime : e ≤ r.deadline) :
    let r' := (s.ls n).exec p p.blocks.length (s.ls n).cost r
    s.endRun n = (s.at_ e).commitRun n p r' ((s.at_ e).runAbsent n r') := by
  simp only [State.endRun, hrun, hprog, hend, hkind, hbad, gt_iff_lt, Nat.not_lt.mpr htime, reduceCtorEq, decide_false,
    Bool.or_self, Bool.false_eq_true, if_false]

theorem endRun_abandons {b : Nat} (hbad : ((s.ls n).exec p p.blocks.length (s.ls n).cost r).bad = true)
    (hat : s.badAt n = some b) (htime : b ≤ r.deadline) : s.endRun n = (s.at_ b).nanRun n := by
  simp only [State.endRun, hrun, hprog, hend, hkind, hbad, hat, Option.getD_some, gt_iff_lt, Nat.not_lt.mpr htime,
    reduceCtorEq, decide_false, Bool.or_self, Bool.false_eq_true, if_true, if_false]

end

theorem deadline_misses (hrun : (s.ls n).run = some r) (hfinite : s.badAt n = none)
    (hlate : ((s.runEnd n).any fun e => decide (e ≤ r.deadline)) = false) :
    s.deadline n = (s.at_ r.deadline).missRun n := by
  simp only [State.deadline, hrun, hfinite, hlate, Bool.false_eq_true, if_false]

/-! ### Deliveries (R166) -/

theorem deliver_first {d : Delivery} (h : s.nextDelivery = some d) :
    let r : State := { s with le := { s.le with deliveries := s.le.deliveries.erase d } }
    s.deliver = ((r.at_ d.due).each d.vals fun r v =>
      if v.2.1 then r.stagePhase v.1 v.2.2 else r.stageDuty v.1 v.2.2).requestCommit d.car := by
  unfold State.deliver
  split
  next hnone => cases hnone.symm.trans h
  next first hfirst =>
    cases hfirst.symm.trans h
    rfl

end

/-- Settles O27: each command finds the engine in the state that its event asks for, and does what its operation says. -/
theorem loopRunsAreReleasedRunAndEnd : Obligations.LoopRunsAreReleasedRunAndEnd := by
  unfold Obligations.LoopRunsAreReleasedRunAndEnd
  refine ⟨fun s x rest hr hon hfirst => next_awake hr (intake_entry hon hfirst),
    fun n s hr hnew => next_awake hr (if_pos hnew),
    fun n s r hr hrun hready => next_awake hr (inTimeout_unready hrun hready),
    fun p s n r hr hnext hfree hrun => ⟨?resumes, ?starts⟩,
    fun n s r p e hr hrun hprog hend hkind htime => ⟨?commits, ?abandons⟩,
    fun s d hr hd => next_awake hr (deliver_first hd),
    fun n s r hr hrun hfinite hlate => next_awake hr (deadline_misses hrun hfinite hlate)⟩
  case resumes =>
    intro hstart
    exact next_awake hr (takePipe_resumes hnext hfree hrun hstart)
  case starts =>
    intro hstart
    exact next_awake hr (takePipe_starts hnext hfree hrun hstart)
  case commits =>
    intro hbad
    exact next_awake hr (congrArg (State.afterRuns s) (endRun_commits hrun hprog hend hkind hbad htime))
  case abandons =>
    intro b hbad hat hb
    exact next_awake hr (congrArg (State.afterRuns s) (endRun_abandons hrun hprog hend hkind hbad hat hb))

end Sys2Proof.Machine
end

section
/-! PROOFS of the statement about ECC errors of a loop slot and the commit stages of run-ahead: where a stage starts and
ends, and the three ways in which it may end (R182, R188, R191 to R194, R200, R436). -/

namespace Sys2Proof.Machine

/-! ### The parts of a commit stage (R192, R193, R200) -/

/-- The LOOP clock from which the stage of LS may run: one that a real sample made ready in a clock starts in the next. -/
def State.stageReady (s : State) (n : Nat) (r : LRun) : Nat :=
  if s.realsIn n && s.loopEdge r.readyAt = r.readyAt then r.readyAt + s.tloop else s.loopEdge r.readyAt

/-- The state in which the stage of LS starts on pipe p: after the stage before it, and after the block of the run that is
on the pipe, which a bad output of that block abandons. -/
def State.stageStart (s : State) (p n : Nat) (r : LRun) : State :=
  let free := max (s.stageReady n r) (s.pipeFree p)
  match s.occupant p with
  | some m =>
    match s.badAt m with
    | some b =>
      if b ≤ s.blockEnd m free && b ≤ s.dl m then ((s.at_ b).nanRun m).at_ free else s.at_ (s.blockEnd m free)
    | none => s.at_ (s.blockEnd m free)
  | none => s.at_ free

/-- What a stage that starts now sees of the residuals of LS, and whether it squashes. -/
def State.stageResiduals (w : State) (n : Nat) (r : LRun) : List (Nat × Nat) × Bool := checkResiduals w n r (w.raPreds n)

/-- The local time at which a stage that starts now has checked the residuals, and the one at which it ends. -/
def State.stageChecked (w : State) (n : Nat) : Nat := w.now + (16 + 4 * (w.raPreds n).length) * w.tloop
def State.stageEnd (w : State) (n : Nat) (r : LRun) : Nat :=
  if (w.stageResiduals n r).2 then w.stageChecked n else w.now + (w.ls n).raCost * w.tloop

/-- Pipe p belongs to the stage until local time t. -/
def State.stageHolds (w : State) (p t : Nat) : State :=
  let w := w.makeWay p t
  { w with le := { w.le with stageTill := w.le.stageTill.set p t } }

/-- What a stage that passes D leaves at D: the residuals it has checked by then. -/
def State.stageMisses (x : State) (n : Nat) (r : LRun) (res : List (Nat × Nat)) (checked : Nat) : State :=
  (if checked ≤ r.deadline then x.noteResiduals n res else x).missRun n

/-- A stage that ends by D notes its residuals and how long it took since it became ready. -/
def State.stageNotes (x : State) (n : Nat) (r : LRun) (res : List (Nat × Nat)) (e : Nat) : State :=
  let x := x.noteResiduals n res
  { x with le := { x.le with raStageMax := max x.le.raStageMax ((e - r.readyAt) / 1000) } }

/-- The run of LS with its real samples: MODEL and PLAUS blocks first, then the inputs of the output blocks (R192). -/
def State.stageRun (x : State) (n : Nat) (r : LRun) (res : List (Nat × Nat)) : LRun :=
  correctPorts x n ((x.raPlaus n).foldl (correctPlaus x n r) ((x.raPreds n).foldl (correctModel x n r) r)) res

/-- The corrected run commits, or ends where an output is not finite (R153, R180, R192). -/
def State.stageCommits (x : State) (n : Nat) (pr : LProg) (r : LRun) (res : List (Nat × Nat)) : State :=
  let r' := x.stageRun n r res
  if (x.ls n).outPorts.any fun q => !F32.finite ((r'.outs.getD q.1 []).getD q.2 0) then x.nanRun n
  else
    let y := x.updLs n fun t => { t with
      squashRun := 0, commits := (t.commits + 1) % 2 ^ 64
      inputs := t.inputs.mapIdx fun i z => match x.raOf n i, z.real with
        | some _, some v => if v.st = 4 || v.st = 1 then z else { z with used := v.v }
        | _, _ => z }
    y.commitRun n pr { r' with periods := y.cars.map (·.p) } (x.runAbsent n r)

section
variable {s : State} {p n : Nat} {r : LRun} {pr : LProg}

/-- What a commit stage does takes effect at its end, or at D where that comes first, and the clock stays at its start
(log entry 181). -/
theorem commitStage_eq (hnext : s.nextStage p = some n) (hrun : (s.ls n).run = some r) (hprog : (s.ls n).prog = some pr) :
    let w := s.stageStart p n r
    let res := (w.stageResiduals n r).1
    let e := w.stageEnd n r
    let held := w.stageHolds p (min e r.deadline)
    s.commitStage p = if e > r.deadline then
        held.asAt r.deadline fun x => x.stageMisses n r res (w.stageChecked n)
      else held.asAt e fun x =>
        if (w.stageResiduals n r).2 then (x.stageNotes n r res e).squash n pr r
        else (x.stageNotes n r res e).stageCommits n pr r res := by
  simp only [State.commitStage, hnext, hrun, hprog]
  rfl

/-! ### Runs before their stage (R191) -/

theorem late_parked (hrun : (s.ls n).run = some r) (hkind : r.kind = .parked) :
    s.late n = (s.at_ (s.tLate n r)).readyStage n := by
  simp only [State.late, hrun, hkind, if_true]

end

/-- Settles O29: an ECC error is what `loopEcc` makes of it, and a commit stage ends in one of the three ways of
`commitStage_eq`. -/
theorem eccErrorsAndRunAheadCommitStages : Obligations.EccErrorsAndRunAheadCommitStages := by
  unfold Obligations.EccErrorsAndRunAheadCommitStages
  refine ⟨fun t n s hr => ?ecc, fun n s r hr hrun hkind => next_awake hr (late_parked hrun hkind),
    fun p s n r pr hr hnext hrun hprog => ?stage⟩
  case ecc => exact ⟨next_awake hr rfl, next_awake hr rfl⟩
  case stage =>
    intro ready free w np res squashes checked e
    have hstage := commitStage_eq hnext hrun hprog
    refine ⟨fun hlate => next_awake hr (congrArg (State.afterRuns s) (hstage.trans (if_pos hlate))),
      fun htime => ?inTime⟩
    case inTime =>
      have hended := hstage.trans (if_neg (Nat.not_lt.mpr htime))
      refine ⟨fun hsquash => next_awake hr (congrArg (State.afterRuns s) (hended.trans ?squashes)),
        fun hfit => next_awake hr (congrArg (State.afterRuns s) (hended.trans ?commits))⟩
      case squashes => exact congrArg (State.asAt _ e) (funext fun x => if_pos hsquash)
      case commits => exact congrArg (State.asAt _ e) (funext fun x => if_neg (Bool.eq_false_iff.mp hfit))

end Sys2Proof.Machine
end

section
/-! PROOFS of the statement about the time-outs and checks of a string: the pre-charge time-out, the check of a bypass, the
home device that falls silent and the end of a ride-through (R218, R220, R227, R232). -/

namespace Sys2Proof.Machine

section
variable {s : State} {i : Nat}

/-! ### Pre-charge (R220) -/

theorem inPc_iff {t : StringSt} : t.inPc = true ↔ t.st = .pcPassive ∨ t.st = .pcActive := by
  simp only [StringSt.inPc, Bool.or_eq_true, decide_eq_true_eq]

theorem pcTimeout_inPc (h : (s.str i).st = .pcPassive ∨ (s.str i).st = .pcActive) :
    s.pcTimeout i = (s.at_ ((s.str i).pcAt + ms (s.rd (Od.STR_PC_TIMEOUT i)))).pcAbort i := if_pos (inPc_iff.mpr h)

/-! ### The check of a bypass (R227) -/

/-- The link of a cell in BYPASSED has gone on charging by more than STR_BYP_DV since the entry. -/
def State.bypassFailed (s : State) (i : Nat) (b : BypCheck) : Bool :=
  F32.gt (F32.sub (s.link b.slot) b.v) (s.rd (Od.STR_BYP_DV i)) && s.ust b.slot 0 = .bypassed

theorem bypCheck_due {b : BypCheck} {bs : List BypCheck} (h : (s.str i).bypChecks = b :: bs) :
    let r := (s.at_ b.due).updStr i fun t => { t with bypChecks := bs }
    s.bypCheck i = if r.bypassFailed i b then (r.raise Flt.CAS_BYPASS b.slot).stopString i else r := by
  simp only [State.bypCheck, h]
  rfl

/-! ### The home device (R218) -/

/-- Only CLEAR takes a string out of TRIPPED (R210). -/
theorem halted_eq (t : StrState) : t.halted = if t = .tripped then .tripped else .stopped := by
  cases t <;> rfl

theorem homeLost_silent (hmembers : (s.str i).members ≠ []) (haway : s.isHome i = false) (hmiss : 3 ≤ (s.str i).homeMiss)
    (hnew : (s.str i).homeLost = false) : s.homeLost i =
    ((s.stopMembers i (s.str i).st.halted).updStr i fun t => { t with homeLost := true }).raise Flt.CAS_HOME_LOST i := by
  simp only [State.homeLost, hmembers, haway, hmiss, hnew, ne_eq, not_false_eq_true, decide_true,
    Bool.not_false, Bool.and_self, if_true]

/-! ### The end of a ride-through (R232) -/

theorem rideOut_blocked {t0 : Nat} (hriding : (s.str i).riding = some t0) (hblocked : (s.str i).st = .blocked) :
    s.rideOut i = State.stopString (State.raise
      (if F32.lt (s.str i).mean (s.rd (Od.STR_RIDE_VMIN i)) then s else s.at_ (t0 + ms (s.rd (Od.STR_RIDE_TIME i))))
      Flt.CAS_RIDE_OUT i) i := by
  simp only [State.rideOut, hriding, hblocked, if_true]

end

/-- Settles O31: each command finds the string in the state that its event asks for, and stops it as the string's
operation says. -/
theorem stringTimeOutsAndChecksStopTheString : Obligations.StringTimeOutsAndChecksStopTheString := by
  unfold Obligations.StringTimeOutsAndChecksStopTheString
  refine ⟨fun i s hr hpc => next_awake hr (pcTimeout_inPc hpc),
    fun i s b bs hr hdue => ⟨fun hbad => ?fails, fun hgood => ?closes⟩,
    fun i s hr hmembers haway hmiss hnew => ?home,
    fun i s t0 hr hriding hblocked => ⟨fun hlow => ?falls, fun hheld => ?expires⟩⟩
  case fails => exact next_awake hr ((bypCheck_due hdue).trans (if_pos hbad))
  case closes => exact next_awake hr ((bypCheck_due hdue).trans (if_neg (Bool.eq_false_iff.mp hgood)))
  case home =>
    rw [← halted_eq]
    exact next_awake hr (homeLost_silent hmembers haway hmiss hnew)
  case falls => exact next_awake hr ((rideOut_blocked hriding hblocked).trans (by rw [if_pos hlow]))
  case expires =>
    have hnot := Bool.eq_false_iff.mp hheld
    exact next_awake hr ((rideOut_blocked hriding hblocked).trans (by rw [if_neg hnot]))

end Sys2Proof.Machine
end

section
/-! PROOFS of the statement about the LV port: a comparator's trip and its end, LVP_CMD on a drive and on a bus entry, and
the drive whose LISTEN lasts too long (R240, R248, R251, R252, R257). -/

namespace Sys2Proof.Machine

section
variable {s : State}

/-! ### Comparators (R240, R257) -/

theorem cmpBeyond_iff {a : Nat} {v : Int} : s.cmpBeyond a v = true ↔
    s.cmpThr a (Od.LVC_TRIP_HI a) false ≤ v ∨ v ≤ s.cmpThr a (Od.LVC_TRIP_LO a) false := by
  simp only [State.cmpBeyond, ge_iff_le, Bool.or_eq_true, decide_eq_true_eq]

/-- The deglitch and the 150 ns of the path pass before a trip asserts and is seen. -/
theorem cmpTrip_asserts {a : Nat} {v : Int} (t : Nat) (hon : s.cmpOn a = true) (hnew : (s.cmp a).trip = false)
    (hbeyond : s.cmpBeyond a v = true) :
    let r := ((s.upTo (t + ns (s.rd (Od.LVC_TRIP_DGL a)) + ns 150)).updCmp a fun x => { x with
      trip := true, tripSeen := true, trips := (x.trips + 1) % 2 ^ 32 }).raise Flt.LV_OC_TRIP a
    s.cmpTrip a v t = if (r.rd (Od.LVC_CTRL a)).testBit 1 then
      r.each (r.cmpUnits a) fun r cu => r.safeOffUnit cu.1 cu.2 Flt.LV_OC_TRIP false else r :=
  if_pos (by simp only [hon, hnew, hbeyond, Bool.not_false, Bool.and_self])

theorem cmpRelease_between {a : Nat} {v : Int} (htrip : (s.cmp a).trip = true) (hbetween : s.cmpBeyond a v = false) :
    s.cmpRelease a v = s.updCmp a fun x => { x with trip := false } :=
  if_pos (by simp only [htrip, hbetween, Bool.not_false, Bool.and_self])

/-! ### LVP_CMD (R248, R251) -/

/-- START and STOP of a drive are those of its unit, whose command status the entry then shows. -/
def State.lvViaSlot (s : State) (e : Nat) (op : SlotOp) (cu : Nat × Nat) : State × Nat :=
  let a := s.slotCmd cu.1 op (2 ^ cu.2)
  (a.1.updLv e fun x => { x with viaSlot := true }, a.2)

/-- A command that the entry carries out itself is done at once. -/
def State.lvDone (s : State) (e : Nat) : State := s.updLv e fun x => { x with cmdSt := .done, viaSlot := false }

/-- The CHOPPER block that a bus entry names shows a fault in the slot of a unit. -/
def State.chopperFaults (s : State) (e : Nat) (cu : Nat × Nat) : Bool :=
  match s.unitLoop cu.1 cu.2 with
  | some n => (((s.ls n).block (s.rd (Od.LVB_CH_BLOCK e))).typ = 0x1D : Bool) &&
      (portOf (s.ls n).prev (s.rd (Od.LVB_CH_BLOCK e)) 1 = F32.one : Bool)
  | none => false

/-- LVP_CMD has the codes of SLOT_CMD for START and STOP. -/
theorem exec_lvpUnit {q : Req} {e : Fin 64} {op : SlotOp} (hop : op = .start ∨ op = .stop)
    (h : s.serves q (0x3440 + e.val) 0x04 = true) : exec (if op = .start then .lvpStart q e else .lvpStop q e) s =
      .next (State.finish ((s.upTo q.t).ownLvCmd e.val op.code) (q.msg 2 (0x3440 + e.val) 0x04 []) 2) := by
  rcases hop with rfl | rfl
  · exact execLvpStart_served q e h
  · exact execLvpStop_served q e h

section
variable {e : Nat} {cu : Nat × Nat} {l : List (Nat × Nat)}

theorem ownLvCmd_unit {op : SlotOp} (hop : op = .start ∨ op = .stop) (hkind : s.lvKind e = 1)
    (hunits : s.lvUnits e = cu :: l) : s.ownLvCmd e op.code = s.lvViaSlot e op cu := by
  rcases hop with rfl | rfl <;>
  · simp only [State.ownLvCmd, SlotOp.code, hkind, hunits]
    rfl

theorem ownLvCmd_clearDrive (hkind : s.lvKind e = 1) (hfaulted : (s.lvE e).drv = .faulted)
    (hfree : ∀ cu ∈ s.lvUnits e, s.clearBlocked cu.1 [cu.2] = false) :
    s.ownLvCmd e 3 = ((s.updLv e fun x => { x with drv := .stopped }).lvDone e, 0) := by
  have hany : ((s.lvUnits e).any fun cu => s.clearBlocked cu.1 [cu.2]) = false :=
    List.any_eq_false.mpr fun cu hcu => Bool.eq_false_iff.mp (hfree cu hcu)
  simp only [State.ownLvCmd, hkind, hfaulted, hany, decide_true, Bool.not_false, Bool.and_self, if_true]
  rfl

theorem chopperFaults_eq_false (h : ∀ n, s.unitLoop cu.1 cu.2 = some n →
      ((s.ls n).block (s.rd (Od.LVB_CH_BLOCK e))).typ = 0x1D →
      portOf (s.ls n).prev (s.rd (Od.LVB_CH_BLOCK e)) 1 ≠ F32.one) : s.chopperFaults e cu = false := by
  unfold State.chopperFaults
  split
  next n hn => simpa only [Bool.and_eq_false_imp, decide_eq_true_eq, decide_eq_false_iff_not] using h n hn
  next => rfl

theorem ownLvCmd_bus (hkind : s.lvKind e = 2) :
    s.ownLvCmd e 3 = if !(s.lvUnits e).any (s.chopperFaults e) then
        ((s.updLv e fun x => { x with chopFault := false }).lvDone e, 0)
      else (s.updLv e fun x => { x with cmdSt := .refused, viaSlot := false }, abState) := by
  simp only [State.ownLvCmd, hkind]
  rfl

theorem ownLvCmd_clearBus (hkind : s.lvKind e = 2) (hquiet : ∀ cu ∈ s.lvUnits e, s.chopperFaults e cu = false) :
    s.ownLvCmd e 3 = ((s.updLv e fun x => { x with chopFault := false }).lvDone e, 0) := by
  have hany : (s.lvUnits e).any (s.chopperFaults e) = false :=
    List.any_eq_false.mpr fun cu hcu => Bool.eq_false_iff.mp (hquiet cu hcu)
  rw [ownLvCmd_bus hkind, hany]
  rfl

/-! ### LISTEN (R252) -/

/-- Where no run of the drive's slot ends first, 50 ms of LISTEN are a failure of the drive. -/
theorem listenOver_fails {T : Nat} (hlisten : (s.lvE e).listen = some T) (hunits : s.lvUnits e = cu :: l)
    (hrun : ((s.runEnd ((s.unitLoop cu.1 cu.2).getD 128)).any fun x =>
      decide (x ≤ s.localOf (T + sysUs 50000))) = false) :
    s.listenOver e = (s.at_ (s.localOf (T + sysUs 50000))).drvFail e cu := by
  simp only [State.listenOver, hlisten, hunits, hrun, Bool.false_eq_true, if_false, if_true]

end
end

/-- Settles O32: a comparator's event finds it in the state that it asks for, each command of LVP_CMD is what the owner of
the entry makes of it, and a drive that listens too long fails. -/
theorem lvComparatorsAndDrivesAct : Obligations.LvComparatorsAndDrivesAct := by
  unfold Obligations.LvComparatorsAndDrivesAct
  refine ⟨fun a v t s hr hon hnew hv => next_awake hr (cmpTrip_asserts t hon hnew (cmpBeyond_iff.mpr hv)),
    fun a v t s hr htrip hv => next_awake hr (cmpRelease_between htrip hv), fun q e s hs => ⟨?unit, ?drive, ?bus⟩,
    fun e s T cu l hr hlisten hunits hrun => next_awake hr (listenOver_fails hlisten hunits hrun)⟩
  case unit =>
    intro cu l op hkind hunits hop
    rw [exec_lvpUnit hop hs, ownLvCmd_unit hop hkind hunits]
    rfl
  case drive =>
    intro hkind hfaulted hfree
    exact (execLvpClear_served q e hs).trans (by rw [ownLvCmd_clearDrive hkind hfaulted hfree]; rfl)
  case bus =>
    intro hkind hquiet
    have hnone := fun cu hcu => chopperFaults_eq_false (hquiet cu hcu)
    exact (execLvpClear_served q e hs).trans (by rw [ownLvCmd_clearBus hkind hnone]; rfl)

end Sys2Proof.Machine
end

section
/-! PROOFS of the statement about what the feedback inputs make of a sample, of an accepted level and of silence (R261 to
R264, R266 to R268, R271, R272). -/

namespace Sys2Proof.Machine

section
variable {s : State}

/-! ### sin/cos (R262, R263) -/

/-- What a good sample in quadrant q, which `s` has noted, makes of it where the good sample before lay in p (R263, R271). -/
def State.scJudge (s : State) (q p : Nat) : State :=
  if (q + 4 - p) % 4 = 1 then s.scStep 1
  else if (p + 4 - q) % 4 = 1 then s.scStep (-1)
  else if q ≠ p && !s.fb.ampBad then { s with fb := { s.fb with posLost := true } }.raise Flt.FB_SC_QUAD 0
  else s

/-- A new sample is taken at its hold time, and a good one is judged by its quadrant. -/
theorem scSample_good_eq_scJudge {t p : Nat} {sv cv : Int} (hon : s.fbOn 0 = true)
    (hnew : (s.fb.scAt.any fun x => decide (scHold t ≤ x)) = false) :
    let r := (s.at_ (scHold t)).scTake sv cv
    let q := scQuad sv cv (s.fbCtrl.testBit 7)
    r.scGood (scQ sv cv) = true → r.fb.quad = some p →
    s.scSample t sv cv = State.scJudge { r with fb := { r.fb with quad := some q } } q p := by
  intro r q hgood hquad
  have htaken : ¬(!s.fbOn 0 || s.fb.scAt.any fun x => decide (scHold t ≤ x)) = true := by rw [hon, hnew]; decide
  have hkept : ¬(!r.scGood (scQ sv cv)) = true := by rw [hgood]; decide
  refine (if_neg htaken).trans ((if_neg hkept).trans ?_)
  rw [hquad]
  rfl

section
variable {q p : Nat}

theorem scJudge_next (h : (q + 4 - p) % 4 = 1) : s.scJudge q p = s.scStep 1 := if_pos h

theorem scJudge_previous (hnext : (q + 4 - p) % 4 ≠ 1) (h : (p + 4 - q) % 4 = 1) : s.scJudge q p = s.scStep (-1) :=
  (if_neg hnext).trans (if_pos h)

theorem scJudge_opposite (hnext : (q + 4 - p) % 4 ≠ 1) (hprevious : (p + 4 - q) % 4 ≠ 1) (h : q ≠ p) :
    s.scJudge q p = if s.fb.ampBad then s
      else State.raise { s with fb := { s.fb with posLost := true } } Flt.FB_SC_QUAD 0 := by
  refine (if_neg hnext).trans ((if_neg hprevious).trans ?_)
  rw [decide_eq_true h, Bool.true_and]
  cases s.fb.ampBad with
  | true => rfl
  | false => rfl

theorem scJudge_same (h : q = p) : s.scJudge q p = s := by
  have hturn : (p + 4 - p) % 4 ≠ 1 := by omega
  have hstays : ¬(decide (p ≠ p) && !s.fb.ampBad) = true := by
    rw [decide_eq_false (not_not_intro rfl), Bool.false_and]
    exact Bool.false_ne_true
  subst h
  exact (if_neg hturn).trans ((if_neg hturn).trans (if_neg hstays))

end

theorem scRun_iff {l : List (Int × Int)} {good : Bool} : s.scRun l good = true ↔
    s.rd Od.FB_SC_QN ≤ l.length ∧ ∀ y ∈ l.drop (l.length - s.rd Od.FB_SC_QN), s.scGood (scQ y.1 y.2) = good := by
  simp only [State.scRun, Bool.and_eq_true, decide_eq_true_eq, ge_iff_le, List.all_eq_true]

section
variable {t : Nat} {l : List (Int × Int)} (hon : s.fbOn 0 = true)
include hon

theorem scBad_sets (hamp : s.fb.ampBad = false) (hrun : s.scRun l false = true) :
    let r := s.scSamples t l
    s.scBad t l = State.raise { r with fb := { r.fb with
      ampBad := true, posLost := true, ampCount := (r.fb.ampCount + 1) % 2 ^ 32 } } Flt.FB_SC_AMP 0 :=
  if_pos (by rw [hon, hamp, hrun]; decide)

theorem scGoodAgain_clears (hamp : s.fb.ampBad = true) (hrun : s.scRun l true = true) :
    let r := s.scSamples t l
    s.scGoodAgain t l = { r with fb := { r.fb with ampBad := false } } :=
  if_pos (by rw [hon, hamp, hrun]; decide)

end

/-! ### Hall (R264) -/

section
variable {t : Nat} (hon : s.fbOn 1 = true)
include hon

theorem hallAccept_none (h : pinsDue s.fb.hallPins s.fb.hallCode (ns (s.rd Od.FB_HALL_FILT)) t = none) :
    s.hallAccept t = s := by
  simp only [State.hallAccept, hon, h, if_true]

theorem hallAccept_due {T : Nat} (h : pinsDue s.fb.hallPins s.fb.hallCode (ns (s.rd Od.FB_HALL_FILT)) t = some T) :
    s.hallAccept t = (s.at_ T).hallTake (pinsCode s.fb.hallPins s.fb.hallCode (ns (s.rd Od.FB_HALL_FILT)) T) := by
  simp only [State.hallAccept, hon, h, if_true]

end

/-- HALL_INV reverses the order of the sectors (R264). -/
def State.sectorOf (s : State) (k : Nat) : Nat := if (s.rd Od.FB_CTRL).testBit 5 then 5 - k else k

/-- A valid code is accepted in its sector. -/
def State.hallKnown (s : State) (code sec : Nat) : State :=
  { s with fb := { s.fb with hallCode := code, sector := sec, hallBad := false } }

section
variable {code : Nat} (hcode : code < 8)
include hcode

theorem hallTake_impossible (h : hallSector code = none) : s.hallTake code = State.raise { s with fb := { s.fb with
    hallCode := code, sector := 0xFF, hallBad := true, hallBadCount := (s.fb.hallBadCount + 1) % 2 ^ 32 } }
      Flt.FB_HALL_CODE 1 := by
  simp only [State.hallTake, Nat.mod_eq_of_lt hcode, h]

/-- From one valid code to another, in another sector: a step where the sectors are next to each other, and otherwise a
skip. -/
theorem hallTake_otherSector {k : Nat} (hk : hallSector code = some k) (hbad : s.fb.hallBad = false)
    (hold : s.fb.sector ≠ 0xFF) (hne : s.sectorOf k ≠ s.fb.sector) :
    let w := s.hallKnown code (s.sectorOf k)
    s.hallTake code =
      if (s.sectorOf k + 6 - s.fb.sector) % 6 = 1 then w.fbStep 1 1
      else if (s.fb.sector + 6 - s.sectorOf k) % 6 = 1 then w.fbStep 1 (-1)
      else State.raise { w with fb := { w.fb with hallBadCount := (w.fb.hallBadCount + 1) % 2 ^ 32 } } Flt.FB_HALL_SKIP 1 := by
  have hmoves : ¬(s.fb.hallBad || decide (s.fb.sector = 0xFF) || decide (s.sectorOf k = s.fb.sector)) = true := by
    simp only [hbad, hold, hne, decide_false, Bool.or_self, Bool.false_eq_true, not_false_eq_true]
  unfold State.hallTake
  rw [Nat.mod_eq_of_lt hcode, hk]
  exact if_neg hmoves

end

/-! ### Pulses (R266) -/

/-- What the accepted levels count (R266): PLS_MODE is bit 3 of FB_CTRL, PLS_DIR_INV bit 4. -/
def State.plsCounts (s : State) (code : Nat) : Int :=
  let up (j : Nat) : Bool := code.testBit j && !s.fb.plsCode.testBit j
  if (s.rd Od.FB_CTRL).testBit 3 then (if up 0 && !up 1 then 1 else if up 1 && !up 0 then -1 else 0)
  else if up 0 then (if code.testBit 1 = (s.rd Od.FB_CTRL).testBit 4 then -1 else 1) else 0

/-- A change of levels that counts d, in a sample in which FB_PLS_COUNT was not written (R266, R271). -/
theorem plsAccept_counts {t T : Nat} {d : Int} (hon : s.fbOn 2 = true)
    (hdue : pinsDue s.fb.plsPins s.fb.plsCode (ns (s.rd Od.FB_PLS_FILT)) t = some T) :
    let code := pinsCode s.fb.plsPins s.fb.plsCode (ns (s.rd Od.FB_PLS_FILT)) T
    let r : State := { s.at_ T with fb := { s.fb with plsCode := code } }
    s.plsCounts code = d → d ≠ 0 → r.fbWritten 2 = false →
    s.plsAccept t = State.fbStep { r with fb := { r.fb with pulses := r.fb.pulses + d } } 2 d := by
  intro code r hd hnz hwritten
  have hsteps : ¬(decide (d = 0) || r.fbWritten 2) = true := by
    simp only [hnz, hwritten, decide_false, Bool.or_self, Bool.false_eq_true, not_false_eq_true]
  subst hd
  simp only [State.plsAccept, hon, hdue, if_true]
  exact if_neg hsteps

section
variable {code : Nat}

theorem plsCounts_stepDir (hmode : (s.rd Od.FB_CTRL).testBit 3 = false)
    (hup : (code.testBit 0 && !s.fb.plsCode.testBit 0) = true) :
    s.plsCounts code = if code.testBit 1 = (s.rd Od.FB_CTRL).testBit 4 then -1 else 1 := by
  simp only [State.plsCounts, hmode, hup, Bool.false_eq_true, if_false, if_true]

theorem plsCounts_up (hmode : (s.rd Od.FB_CTRL).testBit 3 = true)
    (hA : (code.testBit 0 && !s.fb.plsCode.testBit 0) = true) (hB : (code.testBit 1 && !s.fb.plsCode.testBit 1) = false) :
    s.plsCounts code = 1 := by
  simp only [State.plsCounts, hmode, hA, hB, Bool.not_false, Bool.and_self, if_true]

theorem plsCounts_down (hmode : (s.rd Od.FB_CTRL).testBit 3 = true)
    (hA : (code.testBit 0 && !s.fb.plsCode.testBit 0) = false) (hB : (code.testBit 1 && !s.fb.plsCode.testBit 1) = true) :
    s.plsCounts code = -1 := by
  simp only [State.plsCounts, hmode, hA, hB, Bool.not_false, Bool.not_true, Bool.and_self, Bool.false_eq_true, if_false,
    if_true]

end

/-! ### Silence (R267) -/

/-- No step of the estimate set lies within FB_SPD_TMO of now. -/
theorem fbRate_silent {i : Nat} (h : ∀ e ∈ (s.fbSrc i).steps, e.2 + us (s.rd Od.FB_SPD_TMO) < s.now) : s.fbRate i = 0 := by
  unfold State.fbRate
  dsimp only
  split
  next a b ha hb =>
    have hmem : a ∈ (s.fbSrc i).steps := (List.mem_filter.mp (List.mem_of_head? ha)).1
    exact if_pos (by simp only [gt_iff_lt, h a hmem, decide_true, Bool.or_true, Bool.true_or])
  next => rfl

end

/-- Settles O33: a good sample is judged by its quadrant, runs of samples by their kind, accepted codes and levels by what
they replace, and a step that is older than FB_SPD_TMO gives no speed. -/
theorem feedbackSamplesAndEdgesCount : Obligations.FeedbackSamplesAndEdgesCount := by
  unfold Obligations.FeedbackSamplesAndEdgesCount
  refine ⟨fun t sv cv p s hr hon => ?sample, fun t l s hr hon hlen => ?amplitude, fun t code s hr => next_awake hr rfl,
    fun t s hon => ⟨hallAccept_none hon, fun T => hallAccept_due hon⟩, fun code r hcode => ?hall,
    fun t a b hold s hr => next_awake hr rfl, fun t s T hon hdue => ?pulse, fun i s hr hsteps hlast => ?silence⟩
  case sample =>
    intro at_ hnew r q r' stepped hgood hquad
    have hjudge : s.scSample t sv cv = r'.scJudge q p := scSample_good_eq_scJudge hon hnew hgood hquad
    exact ⟨fun h => next_awake hr (hjudge.trans (scJudge_next h)),
      fun hnext h => next_awake hr (hjudge.trans (scJudge_previous hnext h)),
      fun hnext hprevious h => next_awake hr (hjudge.trans (scJudge_opposite hnext hprevious h)),
      fun h => next_awake hr (hjudge.trans (scJudge_same h))⟩
  case amplitude =>
    exact ⟨fun hall hamp => next_awake hr (scBad_sets hon hamp (scRun_iff.mpr ⟨hlen, hall⟩)),
      fun hall hamp => next_awake hr (scGoodAgain_clears hon hamp (scRun_iff.mpr ⟨hlen, hall⟩))⟩
  case hall =>
    refine ⟨fun k hk hbad hold hne => ?_, hallTake_impossible hcode⟩
    have htake := hallTake_otherSector hcode hk hbad hold hne
    exact ⟨fun h => htake.trans (if_pos h), fun hnext h => htake.trans ((if_neg hnext).trans (if_pos h))⟩
  case pulse =>
    intro code r up r' hwritten stepped
    refine ⟨fun hmode hA => ?_, fun hmode hA hB => ?_, fun hmode hA hB => ?_⟩
    · exact plsAccept_counts hon hdue (plsCounts_stepDir hmode hA) (by split <;> decide) hwritten
    · exact plsAccept_counts hon hdue (plsCounts_up hmode hA hB) (by decide) hwritten
    · exact plsAccept_counts hon hdue (plsCounts_down hmode hA hB) (by decide) hwritten
  case silence =>
    intro r
    refine ⟨next_awake hr (if_neg hsteps), fbRate_silent fun e he => ?_⟩
    have hold : e.2 ≤ (s.fbSrc i.val).last := hlast e he
    have hnow : (s.fbSrc i.val).last + us (s.rd Od.FB_SPD_TMO) + 1 ≤ r.now := Nat.le_max_right ..
    exact Nat.lt_of_lt_of_le (Nat.lt_succ_of_le (Nat.add_le_add_right hold _)) hnow

end Sys2Proof.Machine
end

section
/-! PROOFS of the statement about the written entries of the feedback inputs: the counts, FB_IRQ_CLR and FB_CTRL (R263, R266,
R268, R270, R271). -/

namespace Sys2Proof.Machine

/-- A value below 2^n has none of the bits from n on: it meets a reserved mask of them. -/
theorem land_highMask_eq_zero {v n : Nat} (m : Nat) (h : v < 2 ^ n) : v &&& 2 ^ n * m = 0 := by
  apply Nat.eq_of_testBit_eq
  intro i
  rw [Nat.testBit_and, Nat.testBit_two_pow_mul, Nat.zero_testBit]
  by_cases hi : n ≤ i
  · have hhigh : v.testBit i = false :=
      Nat.testBit_lt_two_pow (Nat.lt_of_lt_of_le h (Nat.pow_le_pow_right Nat.two_pos hi))
    rw [hhigh, Bool.false_and]
  · rw [decide_eq_false hi, Bool.false_and, Bool.and_false]

/-- The model's signed reading of a stored number is the one of its bits. -/
theorem toSigned_toNat (v : BitVec 64) : toSigned 64 v.toNat = v.toInt := by
  have hlt : v.toNat < 2 ^ 64 := v.isLt
  rw [toSigned, BitVec.toInt_eq_toNat_cond, Nat.mod_eq_of_lt hlt]
  by_cases h : v.toNat < 2 ^ 63
  · rw [if_pos h, if_pos (by omega)]
  · rw [if_neg h, if_neg (by omega)]

section
variable {s : State}

/-! ### The counts (R263, R266, R271) -/

theorem ownScCount_eq (v : BitVec 64) : s.ownScCount v.toNat =
    .ok { s.fbWrote 0 with fb := { (s.fbWrote 0).fb with count := v.toInt, posLost := false } } := by
  rw [State.ownScCount, toSigned_toNat]

theorem ownPlsCount_eq (v : BitVec 64) : s.ownPlsCount v.toNat =
    .ok { s.fbWrote 2 with fb := { (s.fbWrote 2).fb with pulses := v.toInt } } := by
  rw [State.ownPlsCount, toSigned_toNat]

/-- The sample of the write is noted. -/
def State.fbNoted (s : State) (i : Nat) : State :=
  { s with fb := { s.fb with wrote := s.fb.wrote.set i (some (sampleNo i s.now)) } }

theorem fbWrote_alone {i : Nat} (h : ∀ u, s.fb.undo.getD i none = some u → u.sample ≠ sampleNo i s.now) :
    s.fbWrote i = s.fbNoted i := by
  unfold State.fbWrote
  dsimp only
  split
  next u hu => exact if_neg (h u hu)
  next => rfl

/-- A step of the sample of the write is taken back. -/
theorem fbWrote_undoes {i : Nat} {u : FbUndo} (hu : s.fb.undo.getD i none = some u) (hsame : u.sample = sampleNo i s.now) :
    let r := s.fbNoted i
    s.fbWrote i = { r with fb := { r.fb with
      src := r.fb.src.set i u.src, undo := r.fb.undo.set i none
      irqPend := if u.pend.testBit i then r.fb.irqPend else r.fb.irqPend &&& (255 - 2 ^ i) } } := by
  simp only [State.fbWrote, State.fbNoted, hu, hsame, if_true]

/-! ### FB_CTRL (R270) -/

/-- A write of v changes a source that a loop uses: SC_EN and SC_INV of source 0, HALL_EN and HALL_INV of 1, PLS_EN and
PLS_MODE of 2 (R270). -/
def State.fbCtrlBusy (s : State) (v : Nat) : Bool :=
  let d := s.rd Od.FB_CTRL ^^^ v
  (d.testBit 0 || d.testBit 7) && s.fbInUse 0 || (d.testBit 1 || d.testBit 5) && s.fbInUse 1 ||
    (d.testBit 2 || d.testBit 3) && s.fbInUse 2

/-- As the pulses are enabled, the levels found are no edges. -/
def State.plsEnabled (s : State) (v : Nat) : State :=
  if !(s.rd Od.FB_CTRL).testBit 2 && v.testBit 2 then
    { s with fb := { s.fb with plsCode := packBits (s.fb.plsPins.map (·.level)) } } else s

theorem ownFbCtrl_eq (v : Nat) : s.ownFbCtrl v =
    if s.fbCtrlBusy v then .error abState else .ok ((s.plsEnabled v).wr Od.FB_CTRL v) := by
  simp only [State.ownFbCtrl, State.fbCtrlBusy, List.any_cons, List.any_nil, Bool.or_false, Bool.or_assoc]
  rfl

theorem ownFbCtrl_free {v : Nat} (h : s.fbCtrlBusy v = false) :
    s.ownFbCtrl v = .ok ((s.plsEnabled v).wr Od.FB_CTRL v) :=
  (ownFbCtrl_eq v).trans (if_neg (Bool.eq_false_iff.mp h))

theorem ownFbCtrl_busy {v : Nat} (h : s.fbCtrlBusy v = true) : s.ownFbCtrl v = .error abState :=
  (ownFbCtrl_eq v).trans (if_pos h)

end

/-- Settles O34: each write is one that its owner takes, so the response is that of an accepted one; only FB_CTRL refuses,
where a loop uses a source that it changes. -/
theorem feedbackWritesTakeEffect : Obligations.FeedbackWritesTakeEffect := by
  unfold Obligations.FeedbackWritesTakeEffect
  refine ⟨fun q v s hs => accepted_of_taken (execFbScCountWrite_served q v hs) (ownScCount_eq v),
    fun q v s hs => accepted_of_taken (execFbPlsCountWrite_served q v hs) (ownPlsCount_eq v),
    fun i s => ⟨fbWrote_alone, fun u => fbWrote_undoes⟩, fun q v s hs hv => ?clear, fun q v s hs hv => ?control⟩
  case clear =>
    have hmask : v.toNat &&& 248 = 0 := land_highMask_eq_zero (n := 3) 31 hv
    exact accepted_of_taken (execFbIrqClr_served q v hs hmask) rfl
  case control =>
    have hmask : v.toNat &&& 65280 = 0 := land_highMask_eq_zero (n := 8) 255 hv
    have hserved := execFbCtrlWrite_served q v hs hmask
    refine ⟨fun hfree => accepted_of_taken hserved (ownFbCtrl_free hfree), fun hbusy => hserved.trans ?_⟩
    have hrefused : (s.upTo q.t).ownFbCtrl v.toNat = .error abState := ownFbCtrl_busy hbusy
    rw [hrefused]
    exact congrArg Host.Outcome.next (finish_refused (by decide))

end Sys2Proof.Machine
end

section
/-! PROOFS of the statement about the thermal unit: an interval, a conversion of the die sensors, the retry of shutdown
records, TH_SHUT_CLR and TH_SENSOR_CLR (R275, R277, R278, R280 to R283). -/

namespace Sys2Proof.Machine

section
variable {s : State} {ok : Bool}

/-! ### The interval (R275) -/

/-- The next interval of the grid of system time has come. -/
def State.thCellBegun (s : State) : State :=
  let r := s.at_ (s.localOf (s.gridNext s.th.cell (sysUs (s.rd Od.TH_INTERVAL))))
  { r with th := { r.th with cell := r.now } }

/-- The networks of all enabled slots are evaluated before the first of them is judged. -/
theorem thInterval_runs (hon : s.domOn domLoop = true) (htb : s.tb.running = true) :
    let r := s.thCellBegun
    let slots := (List.range 32).filter r.thOn
    s.thInterval ok = (r.each slots State.thNetwork).each slots fun r c => r.thSlotTick c ok :=
  if_neg (by rw [hon, htb]; decide)

/-! ### The die sensors (R280, R281) -/

/-- The die sensors are to be converted 1 ms after the last attempt. -/
def State.dieTried (s : State) : State :=
  let r := s.at_ (s.th.dieTry + ms 1)
  { r with th := { r.th with dieTry := r.now } }

/-- Slice k is busy with four conversions of 100 ns. -/
def State.dieTakes (s : State) (k : Nat) : State :=
  s.updSlice k fun x => { x with busyUntil := s.now + ns 400, convs := (x.convs + 4) % 2 ^ 64 }

/-- Which of the temperatures lie more than 10 degrees from their median. -/
def dieOff (ts : List Nat) : List Bool := ts.map fun t => F32.gt (F32.abs (F32.sub t (fMedian ts))) 0x41200000

/-- The highest temperature that is not ignored; where all are, the die temperature stays. -/
def State.dieHighest (s : State) (ts : List Nat) : Nat :=
  let used := (ts.zip (dieOff ts)).filter fun p => !p.2
  if used = [] then s.th.dieTemp else (used.map (·.1)).foldl F32.max 0xFF800000

/-- The four temperatures are noted, with the sensors ignored, the die temperature and its throttle factor. -/
def State.dieNoted (s : State) (ts : List Nat) : State :=
  let die := s.dieHighest ts
  { s with th := { s.th with
    die := ts, ignored := dieOff ts, dieTemp := die, dieAt := s.now, noConv := false
    dieHot := F32.ge die (s.rd Od.TH_DIE_SHUT), dieSensor := s.th.dieSensor || (dieOff ts).any id
    kDie := F32.min F32.one (F32.sub F32.one (F32.div (F32.sub die (s.rd Od.TH_DIE_THR))
      (F32.sub (s.rd Od.TH_DIE_SHUT) (s.rd Od.TH_DIE_THR)))) } }

/-- Each sensor that is ignored and was not before raises TH_DIE_SENSOR; the die shuts down as it comes to lie at or
above TH_DIE_SHUT. -/
def State.dieJudged (s : State) (ts : List Nat) (ok : Bool) : State :=
  let r := (s.dieNoted ts).each (List.range 4) fun r i =>
    if (dieOff ts).getD i false && !s.th.ignored.getD i false then r.raise Flt.TH_DIE_SENSOR (0x70 + i) else r
  if F32.ge (s.dieHighest ts) (s.rd Od.TH_DIE_SHUT) && !s.th.dieHot then r.dieShut ok else r

/-- DIE_NOCONV is noted once 10 ms have passed since the last conversion. -/
def State.dieMissed (s : State) : State :=
  if s.th.dieAt + ms 10 ≤ s.now then { s with th := { s.th with noConv := true } } else s

/-- An attempt to convert, with the slice that is free for it. -/
def State.dieOn (s : State) (ts : List Nat) (ok : Bool) : Option Nat → State
  | none => s.dieMissed
  | some k => (s.dieTakes k).dieJudged ts ok

/-- Four words are the temperatures that the conversions of the model read from them. -/
theorem dieWords_eq (d0 d1 d2 d3 : BitVec 32) :
    (List.range 4).map (fun i => [d0.toNat, d1.toNat, d2.toNat, d3.toNat].getD i 0 % 2 ^ 32) =
      [d0.toNat, d1.toNat, d2.toNat, d3.toNat] := by
  change [d0.toNat % 2 ^ 32, d1.toNat % 2 ^ 32, d2.toNat % 2 ^ 32, d3.toNat % 2 ^ 32] = _
  rw [Nat.mod_eq_of_lt d0.isLt, Nat.mod_eq_of_lt d1.isLt, Nat.mod_eq_of_lt d2.isLt, Nat.mod_eq_of_lt d3.isLt]

theorem dieConvert_tries (temps : List Nat) (hon : s.domOn domLoop = true) : s.dieConvert temps ok =
    s.dieTried.dieOn ((List.range 4).map fun i => temps.getD i 0 % 2 ^ 32) ok s.dieTried.dieSlice :=
  if_neg (by rw [hon]; decide)

section
variable (d0 d1 d2 d3 : BitVec 32) (hon : s.domOn domLoop = true)
include hon

theorem dieConvert_free {k : Nat} (hk : s.dieTried.dieSlice = some k) :
    s.dieConvert [d0.toNat, d1.toNat, d2.toNat, d3.toNat] ok =
      (s.dieTried.dieTakes k).dieJudged [d0.toNat, d1.toNat, d2.toNat, d3.toNat] ok := by
  rw [dieConvert_tries _ hon, dieWords_eq, hk]
  rfl

theorem dieConvert_busy (hk : s.dieTried.dieSlice = none) :
    s.dieConvert [d0.toNat, d1.toNat, d2.toNat, d3.toNat] ok = s.dieTried.dieMissed := by
  rw [dieConvert_tries _ hon, hk]
  rfl

end

/-! ### Records (R282) -/

theorem thRetry_waiting (h : s.th.unwritten ≠ []) :
    let r := s.at_ (s.th.failAt + secs 1)
    s.thRetry ok = if ok then { r with
        th := { r.th with unwritten := [] }, nor := { r.nor with events := r.nor.events ++ s.th.unwritten.map fun x => (false, x) } }
      else State.each { r with th := { r.th with failAt := r.now, recFail := true } }
        s.th.unwritten fun r x => r.raise Flt.TH_REC_FAIL x.slot := by
  unfold State.thRetry
  split
  next hnone => exact absurd hnone h
  next x xs hsome => rw [hsome]

/-! ### TH_SHUT_CLR (R283) -/

/-- The standing shutdowns that a write of v names. -/
def State.shutNamed (s : State) (v : Nat) : List Nat := (List.range 32).filter fun c => v.testBit c && s.th.shut.testBit c

/-- The shutdown of Cc stands no more, and the clearance is recorded. -/
def State.shutCleared (s : State) (c : Nat) : State :=
  { s with
    th := { s.th with shut := s.th.shut - 2 ^ c
                      shutDie := if s.th.shutDie.testBit c then s.th.shutDie - 2 ^ c else s.th.shutDie }
    ret := { s.ret with shut := if s.ret.shut.testBit c then s.ret.shut - 2 ^ c else s.ret.shut
                        shutDie := if s.ret.shutDie.testBit c then s.ret.shutDie - 2 ^ c else s.ret.shutDie }
    nor := { s.nor with events := s.nor.events ++
      [(true, ⟨c, 0, (s.tslot c).tmax, (s.tslot c).tref, (s.tslot c).sensor, s.th.shutDie.testBit c, s.sysNow⟩)] } }

theorem ownShutClr_cool {v : Nat} (h : ∀ c ∈ s.shutNamed v, s.thCool c = true) :
    s.ownShutClr v = .ok (s.each (s.shutNamed v) State.shutCleared) := by
  have hnone : ¬((s.shutNamed v).any fun c => !s.thCool c) = true := by
    simpa only [List.any_eq_true, Bool.not_eq_true', not_exists, not_and, Bool.not_eq_false] using h
  exact if_neg hnone

theorem ownShutClr_hot {v : Nat} (h : ∃ c ∈ s.shutNamed v, s.thCool c = false) : s.ownShutClr v = .error abState := by
  have hsome : ((s.shutNamed v).any fun c => !s.thCool c) = true := by
    simpa only [List.any_eq_true, Bool.not_eq_true'] using h
  exact if_pos hsome

/-! ### TH_SENSOR_CLR (R278) -/

theorem ownSensorClr_quiet {c : Nat} (h : (s.ntcOff c || s.ntcAlone c) = false) : s.ownSensorClr c =
    .ok (s.updTh c fun x => { x with sensor := if x.sensor = 2 then 0 else x.sensor, ntcBroken := false }) :=
  if_neg (Bool.eq_false_iff.mp h)

theorem ownSensorClr_holds {c : Nat} (h : (s.ntcOff c || s.ntcAlone c) = true) : s.ownSensorClr c = .error abState :=
  if_pos h

end

/-- A write whose owner refuses it is answered with the owner's abort code. -/
theorem refused_of_own {o : Host.Outcome State Fault Refusal} {r : State} {a : Own} {q : Req} {op idx sub typ abort : Nat}
    (h : o = .next (State.finish (r.done a) (q.msg op idx sub []) typ)) (ha : a = .error abort) (hne : abort ≠ 0) :
    o = .next (r.refusedWith q op idx sub abort) := by
  rw [h, ha]
  exact congrArg Host.Outcome.next (finish_refused hne)

/-- Settles O35: an interval and a retry take the branch of a unit that runs and of records that wait, a conversion is
what the free slice makes of it, and each clear is accepted or refused as its owner judges it. -/
theorem thermalUnitIntervalsAndClears : Obligations.ThermalUnitIntervalsAndClears := by
  unfold Obligations.ThermalUnitIntervalsAndClears
  refine ⟨fun ok s hr hon htb => next_awake hr (thInterval_runs hon htb), fun d0 d1 d2 d3 ok k s hr hon => ?free,
    fun d0 d1 d2 d3 ok s hr hon => ?busy, fun s hr hwait => ?retry, fun q v s hs => ?shut, fun q c s hs => ?sensor⟩
  case free => exact fun hk => next_awake hr (dieConvert_free d0 d1 d2 d3 hon hk)
  case busy => exact fun hk => next_awake hr (dieConvert_busy d0 d1 d2 d3 hon hk)
  case retry => exact ⟨next_awake hr (thRetry_waiting hwait), next_awake hr (thRetry_waiting hwait)⟩
  case shut =>
    have hserved := execThShutClr_served q v hs
    exact ⟨fun hcool => accepted_of_taken hserved (ownShutClr_cool hcool),
      fun hhot => refused_of_own hserved (ownShutClr_hot hhot) (by decide)⟩
  case sensor =>
    have hserved := execThSensorClr_served q c hs
    exact ⟨fun hquiet => accepted_of_taken hserved (ownSensorClr_quiet hquiet),
      fun hholds => refused_of_own hserved (ownSensorClr_holds hholds) (by decide)⟩

end Sys2Proof.Machine
end

section
/-! PROOFS of the statements about every command at once: a step runs the command at the front of the queue, no command ends
in a fault or a refusal of the machine or touches the queue, and fuses are only programmed further. All three are parts of
what `exec_good` and `good_of_exec` say. -/

namespace Sys2Proof.Machine

/-- Settles O1: the queue decides the branch of `step`. -/
theorem stepRunsFrontCommand : Obligations.StepRunsFrontCommand := by
  unfold Obligations.StepRunsFrontCommand
  intro c rest s hqueue
  unfold step
  rw [hqueue]

/-- Settles O3: the state that a command answers meets the claim made of the state before, of which the queue is a part. -/
theorem everyCommandAnswersAndLeavesTheQueue : Obligations.EveryCommandAnswersAndLeavesTheQueue := by
  unfold Obligations.EveryCommandAnswersAndLeavesTheQueue
  intro c s
  have hraise : ∀ l gh, c = .gateRelease l gh → (s.claimFor c).top l.val gh = true := fun l gh hc =>
    Bool.or_eq_true_iff.mpr (.inr (raisesGate_iff.mpr ⟨l, rfl, hc⟩))
  obtain ⟨t, hexec, hqueue, -, -, -, -⟩ := exec_good c s hraise (good_claimFor s c)
  exact ⟨t, hexec, hqueue⟩

/-- Settles O7: the fuses are a part of the claim too. -/
theorem fusesAreOnlyProgrammedFurther : Obligations.FusesAreOnlyProgrammedFurther := by
  unfold Obligations.FusesAreOnlyProgrammedFurther
  intro c s t e
  obtain ⟨-, -, -, -, hfuses⟩ := good_of_exec e
  exact hfuses

end Sys2Proof.Machine
end

section
/-! PROOFS of the statements about the fault collector: what it takes in and when its spans end, and what the writes of
FLT_CLR, FLT_FIRST_CLR and FLT_CFG do (R292 to R307, R436). -/

namespace Sys2Proof.Machine

section
variable {s : State}

/-! ### Intake, the end of W and of an alarm's span, RESET and ECC (R292, R293, R295, R297, R303, R436) -/

theorem takeRaised_listed {r : Raised} {src : FltSrc} (hsrc : Flt.source r.code = some src) : s.takeRaised r =
    (List.range r.count).foldl (fun b i => b.takeEvent src r (if i = 0 then r.first else r.last)) s := by
  simp only [State.takeRaised, hsrc]

theorem fltIntake_oldest {r : Raised} {rest : List Raised} (hraised : s.flt.raised = r :: rest) :
    s.fltIntake = ((s.updFlt fun f => { f with raised := rest }).takeRaised r).settleReset := by
  simp only [State.fltIntake, hraised]

theorem fltExpiry_ended {code i : Nat} {src : FltSrc} (hsrc : Flt.source code = some src)
    (hst : (s.fltInst code i).st = .transient) (hcause : s.persists code i = false) :
    let x := s.fltInst code i
    s.fltExpiry code i = ((s.at_ (x.tw + s.fltW src)).setInst { x with st := .clear, n := 0 }).sfJudge := by
  simp [State.fltExpiry, hsrc, hst, hcause]

theorem coalEnd_open {code i : Nat} {src : FltSrc} {c : Coalesce} (hsrc : Flt.source code = some src)
    (hopen : s.coalOf code i = some c) :
    let r := (s.at_ (c.opened + ms (s.rd Od.ALM_COALESCE))).updFlt fun f => { f with coal := f.coal.erase c }
    s.coalEnd code i = if 0 < c.count then r.emitAlarm src i c.detail c.count c.first c.last false false else r := by
  simp only [State.coalEnd, hopen, hsrc]

theorem settleReset_due (hpend : s.flt.resetPend = true) (hrest : s.allStopped = true) :
    s.settleReset = s.hwReset (4 * b2n s.pwr.rstPend + 8) false := by
  have hdue : ((s.pwr.rstPend || s.flt.resetPend) && s.allStopped) = true := by rw [hpend, hrest, Bool.or_true]; rfl
  rw [State.settleReset, if_pos hdue, hpend]
  rfl

/-- Settles O36: each command takes the branch of an event, a span or a reset that is due. -/
theorem collectorTakesEventsAndEndsSpans : Obligations.CollectorTakesEventsAndEndsSpans := by
  unfold Obligations.CollectorTakesEventsAndEndsSpans
  refine ⟨fun s r rest src hr hraised hsrc => ?intake, fun code i s src hr hsrc hst hcause => ?expiry,
    fun code i s src c hr hsrc hopen => ?coalesce, fun s hr hpend hrest => ?reset, fun t safe corrected s hr => ?ecc⟩
  case intake => exact next_awake hr ((fltIntake_oldest hraised).trans (by rw [takeRaised_listed hsrc]))
  case expiry => exact next_awake hr (fltExpiry_ended hsrc hst hcause)
  case coalesce => exact next_awake hr (coalEnd_open hsrc hopen)
  case reset => exact next_awake hr (settleReset_due hpend hrest)
  case ecc =>
    refine next_awake hr ?_
    cases safe <;> cases corrected <;> rfl

/-! ### FLT_CLR (R299) -/

/-- The two halves of the value written to FLT_CLR. -/
theorem fltClr_fields (code i : BitVec 16) : bits (code.toNat + i.toNat * 2 ^ 16) 15 0 = code.toNat ∧
    bits (code.toNat + i.toNat * 2 ^ 16) 31 16 = i.toNat := by
  have hcode := code.isLt
  have hi := i.isLt
  simp only [bits]
  omega

/-- FLT_CLR of what the catalogue has: the waiting events that it names are taken in, and the causes that it names return
to CLEAR unless they stay. -/
theorem fltClr_listed {code i : BitVec 16} {src : FltSrc} (hsrc : Flt.source code.toNat = some src)
    (hinst : i.toNat = 0xFFFF ∨ src.hasInst i.toNat = true) :
    let r := s.takeWaiting fun y => y.code = code.toNat && (i.toNat = 0xFFFF || y.inst = i.toNat)
    let named := fun (y : FltInst) => y.code = code.toNat && (i.toNat = 0xFFFF || y.inst = i.toNat) && y.st ≠ .clear
    let stays := fun (y : FltInst) => src.cls = .f || r.persists y.code y.inst
    s.fltClr (code.toNat + i.toNat * 2 ^ 16) = ((r.clearInsts fun y => named y && !stays y).updFlt fun f => { f with
      clrSt := if ∃ y ∈ r.flt.insts, (named y && stays y) = true then .refused else .done }, 0) := by
  obtain ⟨hlow, hhigh⟩ := fltClr_fields code i
  have hhas : (decide (i.toNat ≠ 0xFFFF) && !src.hasInst i.toNat) = false := by
    rcases hinst with h | h <;> simp [h]
  intro r named stays
  have hall : ∀ a b : CmdSt, (if (!r.flt.insts.any fun y => named y && stays y) = true then a else b) =
      if ∃ y ∈ r.flt.insts, (named y && stays y) = true then b else a := fun a b => by
    by_cases h : ∃ y ∈ r.flt.insts, (named y && stays y) = true
    · rw [if_pos h, if_neg (by rw [List.any_eq_true.mpr h]; decide)]
    · rw [if_neg h, if_pos (by rw [Bool.eq_false_iff.mpr (fun e => h (List.any_eq_true.mp e))]; rfl)]
  unfold State.fltClr
  simp only [hlow, hhigh, hsrc, hhas, Bool.false_eq_true, if_false, ← hall]
  rfl

theorem fltClr_unlisted {code i : BitVec 16} (h : Flt.source code.toNat = none ∨
      ∃ src, Flt.source code.toNat = some src ∧ i.toNat ≠ 0xFFFF ∧ src.hasInst i.toNat = false) :
    s.fltClr (code.toNat + i.toNat * 2 ^ 16) = (s.updFlt fun f => { f with clrSt := .refused }, abRange) := by
  obtain ⟨hlow, hhigh⟩ := fltClr_fields code i
  unfold State.fltClr
  rcases h with hnone | ⟨src, hsrc, hone, hlacks⟩
  · simp only [hlow, hnone]
  · have hbad : (decide (i.toNat ≠ 0xFFFF) && !src.hasInst i.toNat) = true := by simp [hone, hlacks]
    simp only [hlow, hhigh, hsrc, hbad, if_true]

/-! ### FLT_CFG (R307) -/

theorem source_code {code : Nat} {src : FltSrc} (h : Flt.source code = some src) : src.code = code := by
  simpa using List.find?_some h

/-- The subsystems of the catalogue are 0x01 to 0x13, and none of their sources has the number 0. -/
theorem source_subsystem {code : Nat} {src : FltSrc} (h : Flt.source code = some src) :
    1 ≤ code / 256 ∧ code / 256 ≤ 0x13 ∧ code % 256 ≠ 0 := by
  have hall : ∀ x ∈ Flt.sources, 1 ≤ x.code / 256 ∧ x.code / 256 ≤ 0x13 ∧ x.code % 256 ≠ 0 := by decide +kernel
  rw [← source_code h]
  exact hall src (List.mem_of_find?_eq_some h)

theorem look_FLT_CFG {code : Nat} {src : FltSrc} (h : Flt.source code = some src) :
    Od.lookup (0x1820 + code / 256) (code % 256) = .ok (Flt.row src) := by
  obtain ⟨hlow, hhigh, hsub⟩ := source_subsystem h
  have hcode : (0x1820 + code / 256 - 0x1820) * 256 + code % 256 = code := by omega
  have hrange : (decide (0x1821 ≤ 0x1820 + code / 256) && decide (0x1820 + code / 256 ≤ 0x1833)) = true := by
    simp only [Bool.and_eq_true, decide_eq_true_eq]; omega
  refine lookup_of_find ?_ hsub
  rw [Od.find, if_pos hrange, hcode, h]
  rfl

/-- Every value of eight bytes passes the checks of R448 on a FLT_CFG entry. -/
theorem check_FLT_CFG {code : Nat} {src : FltSrc} (h : Flt.source code = some src) {d : List Byte} (hd : d.length = 8) :
    (Flt.row src).check d = 0 := by
  obtain ⟨hlow, hhigh, -⟩ := source_subsystem h
  refine check_any hd ⟨rfl, nofun, nofun, rfl, rfl⟩ ?_ (Nat.and_zero _)
  rw [← source_code h] at hlow hhigh
  unfold OdRow.fieldsOk
  generalize hk : src.code / 256 = k at hlow hhigh
  simp only [Flt.row, hk]
  interval_cases k <;> rfl

/-- The owner of a FLT_CFG entry is its source's. -/
theorem writeOwned_FLT_CFG {code : Nat} {src : FltSrc} (h : Flt.source code = some src) (d : List Byte) :
    s.writeOwned (Flt.row src) (0x1820 + code / 256) (code % 256) d = s.done (s.ownFltCfg src (leNat d)) := by
  obtain ⟨hlow, hhigh, -⟩ := source_subsystem h
  have hcode : (0x1820 + code / 256 - 0x1820) * 256 + code % 256 = code := by omega
  have hbase : (Flt.row src).base = 0x1820 + code / 256 := by rw [← source_code h]; rfl
  have hcfg : (Flt.row src).isFltCfg = true := by
    simp only [OdRow.isFltCfg, hbase, Bool.and_eq_true, decide_eq_true_eq]; omega
  rw [writeOwned_plain (by omega)]
  unfold State.writeOwned0
  simp only [hcfg, if_true, hcode, h, hbase]
  generalize code / 256 = k at hlow hhigh
  interval_cases k <;> rfl

/-- A WRITE that the device serves is judged by the row of its entry. -/
theorem writeCmd_doWrite {q : Req} {idx sub : Nat} {row : OdRow} {d : List Byte} (hs : s.serves q idx sub = true)
    (hl : Od.lookup idx sub = .ok row) (hi : idx ≠ 0x1C00) (hj : idx ≠ 0x1A00) :
    s.writeCmd q idx sub d = (s.upTo q.t).doWrite (q.msg 2 idx sub d) row :=
  (request_served (m := q.msg 2 idx sub d) hs Nat.two_pos (show 2 < 7 by decide) hl).trans (if_neg (not_or.mpr ⟨hi, hj⟩))

/-- What a FLT_CFG value must meet: K and W in range, and both reactions in the mask of the source. -/
def FltSrc.cfgOk (src : FltSrc) (v : Nat) : Prop :=
  1 ≤ bits v 7 0 ∧ 1 ≤ bits v 31 8 ∧ bits v 31 8 ≤ 600000 ∧
    (bits v 39 32 < 16 ∧ (src.dflt / 2 ^ 48).testBit (bits v 39 32) = true) ∧
    (bits v 47 40 < 16 ∧ (src.dflt / 2 ^ 48).testBit (bits v 47 40) = true)

theorem ownFltCfg_iff (src : FltSrc) (v : Nat) :
    (1 ≤ bits v 7 0 && 1 ≤ bits v 31 8 && bits v 31 8 ≤ 600000 &&
      (decide (bits v 39 32 < 16) && (src.dflt / 2 ^ 48).testBit (bits v 39 32)) &&
      (decide (bits v 47 40 < 16) && (src.dflt / 2 ^ 48).testBit (bits v 47 40))) = true ↔ src.cfgOk v := by
  simp only [FltSrc.cfgOk, Bool.and_eq_true, decide_eq_true_eq, and_assoc]

theorem ownFltCfg_ok {src : FltSrc} {v : Nat} (h : src.cfgOk v) : s.ownFltCfg src v =
    .ok (s.wr ⟨key (0x1820 + src.code / 256) (src.code % 256), src.dflt % 2 ^ 48⟩ (v % 2 ^ 48)) :=
  if_pos ((ownFltCfg_iff src v).mpr h)

theorem ownFltCfg_bad {src : FltSrc} {v : Nat} (h : ¬src.cfgOk v) : s.ownFltCfg src v = .error abRange :=
  if_neg fun e => h ((ownFltCfg_iff src v).mp e)

section
variable {q : Req} {code : BitVec 16} {v : BitVec 64} {src : FltSrc} (hsrc : Flt.source code.toNat = some src)
  (hs : s.serves q (0x1820 + code.toNat / 256) (code.toNat % 256) = true)
include hsrc hs

theorem exec_fltCfgWrite_doWrite : exec (.fltCfgWrite q code v) s =
    .next ((s.upTo q.t).doWrite (q.msg 2 (0x1820 + code.toNat / 256) (code.toNat % 256) (leBytes 8 v.toNat)) (Flt.row src)) := by
  obtain ⟨hlow, hhigh, -⟩ := source_subsystem hsrc
  exact congrArg Host.Outcome.next (writeCmd_doWrite hs (look_FLT_CFG hsrc) (by omega) (by omega))

/-- The FLT_CFG entry of a class F source is constant. -/
theorem exec_fltCfgWrite_const (hcls : src.cls = .f) : exec (.fltCfgWrite q code v) s =
    .next ((s.upTo q.t).refusedWith q 2 (0x1820 + code.toNat / 256) (code.toNat % 256) 0x0103) := by
  have hclosed : ¬(Flt.row src).writable := fun h => h.2 (if_pos hcls)
  rw [exec_fltCfgWrite_doWrite hsrc hs]
  exact congrArg Host.Outcome.next (doWrite_refused (fun h => absurd h hclosed) (writeEntry_closed hclosed) (by decide))

/-- That of another source comes to its owner. -/
theorem exec_fltCfgWrite_owned (hcls : src.cls ≠ .f) : exec (.fltCfgWrite q code v) s = .next (State.finish
    ((s.upTo q.t).done ((s.upTo q.t).ownFltCfg src v.toNat)) (q.msg 2 (0x1820 + code.toNat / 256) (code.toNat % 256) []) 5) := by
  obtain ⟨hlow, hhigh, -⟩ := source_subsystem hsrc
  have hacc : (Flt.row src).acc = .rw := if_neg hcls
  have htakes : (Flt.row src).takes (s.upTo q.t) (0x1820 + code.toNat / 256) (code.toNat % 256) (leBytes 8 v.toNat) = true :=
    takes_of (by rw [hacc]; decide) (check_FLT_CFG hsrc (leBytes_length 8 _)) (.inl (by rw [hacc]; decide)) (seg_upTo hs _) rfl
  have hlen : (leBytes 8 v.toNat).length ≤ pathLimit q.path := by
    rw [leBytes_length]; exact Nat.le_trans (by decide) (pathLimit_le q.path)
  have hbase : (Flt.row src).base ≠ 0x8000 := by
    have : (Flt.row src).base = 0x1820 + src.code / 256 := rfl
    rw [source_code hsrc] at this
    omega
  have htyp : (s.upTo q.t).typeOf (Flt.row src) (0x1820 + code.toNat / 256) (code.toNat % 256) = 5 := by
    simp only [State.typeOf, hbase, decide_false, Bool.false_and, Bool.false_eq_true, if_false]
    rfl
  rw [exec_fltCfgWrite_doWrite hsrc hs, doWrite_taken hlen htakes, htyp, writeOwned_FLT_CFG hsrc,
    leNat_leBytes (n := 8) v.isLt]

end

end

/-- Settles O37: FLT_CLR is listed or not, FLT_FIRST_CLR takes any three bits, and FLT_CFG of a source is constant or comes
to its owner. -/
theorem faultClearsAndConfiguration : Obligations.FaultClearsAndConfiguration := by
  unfold Obligations.FaultClearsAndConfiguration
  refine ⟨fun q code i s hs => ⟨fun src hsrc hinst => ?listed, fun h => ?unlisted⟩, fun q v s hs hv => ?first,
    fun q code v src s hsrc => ?cfg⟩
  case listed =>
    rw [show exec (.fltClr q code i) s = _ from execFltClr_served q code i hs, fltClr_listed hsrc hinst, finish_accepted]
    rfl
  case unlisted =>
    rw [show exec (.fltClr q code i) s = _ from execFltClr_served q code i hs, fltClr_unlisted h,
      finish_refused (by decide)]
    rfl
  case first =>
    exact accepted_of_taken (execFltFirstClr_served q v hs (land_highMask_eq_zero (n := 3) 31 hv)) rfl
  case cfg =>
    intro idx sub hs
    refine ⟨fun hcls hok => ?taken, fun hcls hbad => ?refused, exec_fltCfgWrite_const hsrc hs⟩
    case taken =>
      have hown := ownFltCfg_ok (s := s.upTo q.t) hok
      rw [source_code hsrc] at hown
      exact accepted_of_taken (exec_fltCfgWrite_owned hsrc hs hcls) hown
    case refused => exact refused_of_own (exec_fltCfgWrite_owned hsrc hs hcls) (ownFltCfg_bad hbad) (by decide)

end Sys2Proof.Machine
end

section
/-! PROOFS of the statements about the safety functions: the causes that hold every slot and their ends, the proof test and
the acknowledgement, the safe outputs and the safe data, and the sign-off session (R308 to R329). -/

namespace Sys2Proof.Machine

section
variable {s : State}

/-! ### The hard-wired channel and its checks (R313, R315, R318) -/

theorem stoDisc_differs {t : Nat} (hsince : s.sf.discSince = some t) (hpair : s.rd Od.SF_STO_PAIR = 1)
    (hdisc : s.sf.disc = false) : s.stoDisc =
      (((s.at_ (t + ms (s.rd Od.SF_STO_DISC_TIME))).updSf fun x => { x with disc := true }).raise Flt.SF_STO_DISC 0).sfJudge := by
  simp [State.stoDisc, hsince, hpair, hdisc]

theorem stoQualified_high {g : Nat} (hlow : (s.pin g).low = false) (hcause : (s.pin g).cause = true) : s.stoQualified g =
    ((s.at_ ((s.pin g).since + ms 10)).updPin g fun p => { p with cause := false }).sfJudge := by
  simp [State.stoQualified, hlow, hcause]

/-- What a passed proof test of group g notes. -/
def State.testPassed (s : State) (g : Nat) : State := s.updSf fun x =>
  if g = 0 then { x with testLastA := sysS s.sysNow, dueA := false } else { x with testLastB := sysS s.sysNow, dueB := false }

theorem proofTest_idle {g : Nat} (pass : Bool) (hst : s.sf.st = .run) (hlast : s.testLast g + 3600 < sysS s.sysNow)
    (hidle : ∀ c ∈ s.groupSlots g, ∀ j < 6, (s.leg (6 * c + j)).enabled = false) :
    let r := s.updSf fun x => { x with test := some (g, s.now + us 2) }
    s.proofTest g pass = if pass then r.testPassed g else r.sfMismatch g := by
  have hall : ((s.groupSlots g).all fun c => (List.range 6).all fun j => !(s.leg (6 * c + j)).enabled) = true := by
    simpa only [List.all_eq_true, List.mem_range, Bool.not_eq_true'] using hidle
  have hmay : (((s.groupSlots g).all fun c => (List.range 6).all fun j => !(s.leg (6 * c + j)).enabled) &&
      decide (s.sf.st = .run) && decide (sysS s.sysNow > s.testLast g + 3600)) = true := by
    simp only [hall, hst, hlast, decide_true, Bool.and_self]
  exact if_pos hmay

theorem testDue_new {g : Nat} (hdue : (if g = 0 then s.sf.dueA else s.sf.dueB) = false) :
    let T := (s.testLast g + 3600 * s.rd Od.SF_STO_PROOF) * sysSec
    s.testDue g = ((s.at_ (if T < s.sysNow then s.now else s.localOf T)).updSf fun x =>
      if g = 0 then { x with dueA := true } else { x with dueB := true }).raise Flt.SF_STO_TEST_DUE g :=
  if_neg (Bool.eq_false_iff.mp hdue)

/-! ### SF_STO_ACK (R316, R317) -/

/-- Every group that the value names meets R316. -/
def State.ackMet (s : State) (v : Nat) : Prop := ∀ g ∈ [0, 1], v.testBit g = true → s.groupMet g = true

theorem ackMet_iff {v : Nat} : ([0, 1].any fun g => v.testBit g && !s.groupMet g) = false ↔ s.ackMet v := by
  simp only [State.ackMet, List.any_eq_false, Bool.and_eq_true, Bool.not_eq_true', not_and, Bool.not_eq_false]

/-- Bits 2 to 15 of the value are reserved. -/
theorem bits_15_2_eq_zero {v : Nat} (h : v &&& 0xFFFC = 0) : bits v 15 2 = 0 := by
  show v / 2 ^ 2 % 2 ^ 14 = 0
  rw [← Nat.and_two_pow_sub_one_eq_mod, ← Nat.zero_div (2 ^ 2), ← h, Nat.and_div_two_pow]

theorem ownStoAck_noGroup {v : Nat} (hrsv : bits v 15 2 = 0) (hmask : v % 4 = 0) : s.ownStoAck v = .error abRange := by
  simp [State.ownStoAck, hrsv, hmask]

theorem ownStoAck_taken {v : Nat} (hrsv : bits v 15 2 = 0) (hmask : v % 4 ≠ 0) (hseq : v / 65536 = s.sf.ackSeq)
    (hmet : s.ackMet v) : s.ownStoAck v = .ok ((s.updSf fun x => { x with
      ackSeq := (x.ackSeq + 1) % 65536, ackA := x.ackA || v.testBit 0, ackB := x.ackB || v.testBit 1
      ackAB := x.ackAB || (v.testBit 0 && v.testBit 1) }).sfJudge) := by
  simp only [State.ownStoAck, hrsv, hmask, hseq, ackMet_iff.mpr hmet, ne_eq, not_true_eq_false, if_false, decide_false,
    Bool.or_self, Bool.false_eq_true]

theorem ownStoAck_refused {v : Nat} (hrsv : bits v 15 2 = 0) (hmask : v % 4 ≠ 0)
    (h : v / 65536 ≠ s.sf.ackSeq ∨ ¬s.ackMet v) : s.ownStoAck v = .error abSafety := by
  have hbad : (decide (v / 65536 ≠ s.sf.ackSeq) || [0, 1].any fun g => v.testBit g && !s.groupMet g) = true := by
    rcases h with h | h
    · simp [h]
    · rw [Bool.eq_true_of_not_eq_false fun e => h (ackMet_iff.mp e), Bool.or_true]
  simp only [State.ownStoAck, hrsv, hmask, hbad, ne_eq, not_true_eq_false, if_false, if_true]

end

/-- Settles O38: the causes act on a running device as their operations say, and an acknowledgement is taken or refused by
its mask, its sequence and the conditions of its groups. -/
theorem safetyCoreHoldsAndRestarts : Obligations.SafetyCoreHoldsAndRestarts := by
  unfold Obligations.SafetyCoreHoldsAndRestarts
  refine ⟨fun t s hr => next_awake hr rfl, fun t g s hr => next_awake hr rfl,
    fun s t hr hsince hpair hdisc => next_awake hr (stoDisc_differs hsince hpair hdisc),
    fun g s hr hlow hcause => next_awake hr (stoQualified_high hlow hcause), fun g s hr hst hlast hidle => ?test,
    fun g s hr hdue => next_awake hr (testDue_new hdue), fun q v s hs hv => ?ack⟩
  case test =>
    exact ⟨next_awake hr (proofTest_idle true hst hlast hidle), next_awake hr (proofTest_idle false hst hlast hidle)⟩
  case ack =>
    have hserved := execSfStoAck_served q v hs hv
    have hrsv := bits_15_2_eq_zero hv
    exact ⟨fun hmask => refused_of_own hserved (ownStoAck_noGroup hrsv hmask) (by decide),
      fun hmask hseq hmet => accepted_of_taken hserved (ownStoAck_taken hrsv hmask hseq hmet),
      fun hmask hbad => refused_of_own hserved (ownStoAck_refused hrsv hmask hbad) (by decide)⟩

/-! ### Safe outputs and safe data (R320 to R325) -/

section
variable {s : State}

theorem soPulse_high {n : Nat} (low : Bool) (hdrv : (s.so n).drv = true) (hpulse : (s.so n).pulse = none)
    (hwd : s.sf.wdExpired = false) :
    let r := s.at_ ((s.so n).since + secs (s.rd (Od.SF_SO_PERIOD n)))
    let r := r.updSo n fun o => { o with drv := false, rb := !low, pulse := some r.now }
    s.soPulse n low = if low then r else r.soFault n true := by
  simp [State.soPulse, hdrv, hpulse, hwd]

theorem soPulseEnd_permitted {n t : Nat} (high : Bool) (hpulse : (s.so n).pulse = some t) :
    let r := s.at_ (t + us (s.rd (Od.SF_SO_PULSE n)))
    let r' := r.updSo n fun o => { o with drv := true, rb := high, since := r.now, pulse := none }
    r.soWant n = true → s.soPulseEnd n high = if high then r' else r'.soFault n false := by
  intro r r' hwant
  simp only [State.soPulseEnd, hpulse]
  exact if_pos hwant

theorem soPulseEnd_barred {n t : Nat} (high : Bool) (hpulse : (s.so n).pulse = some t) :
    let r := s.at_ (t + us (s.rd (Od.SF_SO_PULSE n)))
    r.soWant n = false → s.soPulseEnd n high = r.updSo n fun o => { o with pulse := none } := by
  intro r hwant
  simp only [State.soPulseEnd, hpulse]
  exact if_neg (Bool.eq_false_iff.mp hwant)

theorem sdpSend_used {p : Nat} (hconn : s.rd (Od.SDP_CONN p) ≠ 0xFFFF) (hnode : s.ring.nodeId < 1024) :
    let x := s.sf.prods.getD p {}
    let r := s.at_ (x.lastAt + us (s.rd (Od.SDP_CYCLE p)))
    let body := leBytes 2 (r.rd (Od.SDP_CONN p)) ++ leBytes 2 x.seq ++ leBytes 8 (shortTime r.sysNow) ++ r.sdData
    let r := r.send 2 0 2 0 (body ++ leBytes 4 (crc32c (r.rd (Od.SDP_SEED p)) body))
    s.sdpSend p = r.updSf fun f => { f with prods := f.prods.modify p fun x => { x with
      seq := (x.seq + 1) % 65536, sent := (x.sent + 1) % 2 ^ 32, lastAt := r.now } } :=
  if_neg (by simp [hconn, hnode])

theorem telegram_known {src t : Nat} {tel : List Byte} :
    let r := s.at_ t
    let byId := (List.range 16).filter fun c => decide ((r.con c).st ≠ .unused) && decide (r.rd (Od.SDC_CONN c) = leAt tel 0 2)
    byId ≠ [] → s.telegram src t tel = r.each byId fun r c => if r.sdOk c tel then r.sdCopy c tel else r.sdReject c := by
  intro r byId hne
  have hfilter : (((List.range 16).filter fun c => decide ((r.con c).st ≠ .unused)).filter fun c =>
      decide (r.rd (Od.SDC_CONN c) = leAt tel 0 2)) = byId := by
    rw [List.filter_filter]
    exact List.filter_congr fun c _ => Bool.and_comm _ _
  unfold State.telegram
  simp only [r, hfilter] at *
  rw [if_neg hne]

theorem skewExpiry_open {k t : Nat} {tel : List Byte} (hwin : (s.con k).win = some (tel, t)) :
    let r := s.at_ (t + us (s.rd (Od.SDC_SKEW k)))
    let r := r.updCon k fun x => { x with win := none, single := (x.single + 1) % 65536 }
    s.skewExpiry k = if r.rd (Od.SDC_BOTH k) = 1 then r else (r.raise Flt.SF_SD_SINGLE k).sdAccept k tel := by
  have hwin' : ((s.at_ (t + us (s.rd (Od.SDC_SKEW k)))).con k).win = some (tel, t) := hwin
  simp only [State.skewExpiry, hwin, State.sdSingle, hwin']

theorem sdcExpiry_valid {k : Nat} (hst : (s.con k).st = .valid) : s.sdcExpiry k =
    (((s.at_ ((s.con k).acceptedAt + ms (s.rd (Od.SDC_WD k)))).updCon k fun x => { x with
      st := .failsafe, data := List.replicate 16 0, failsafes := (x.failsafes + 1) % 65536 }).raise Flt.SF_SD_WD k).sfJudge :=
  if_pos hst

end

/-- Settles O39: each command takes the branch of an output, a producer or a connection that waits for it. -/
theorem safeOutputsAndSafeDataAct : Obligations.SafeOutputsAndSafeDataAct := by
  unfold Obligations.SafeOutputsAndSafeDataAct
  refine ⟨fun n low s hr hdrv hpulse hwd => next_awake hr (soPulse_high low hdrv hpulse hwd),
    fun n high s t hr hpulse => ⟨fun hwant => next_awake hr (soPulseEnd_permitted high hpulse hwant),
      fun hwant => next_awake hr (soPulseEnd_barred high hpulse hwant)⟩,
    fun t n rb s hr => next_awake hr rfl, fun p s hr hconn hnode => next_awake hr (sdpSend_used hconn hnode),
    fun src t tel s hr => ?telegram, fun k s tel t hr hwin => next_awake hr (skewExpiry_open hwin),
    fun k s hr hst => next_awake hr (sdcExpiry_valid hst)⟩
  case telegram => exact fun hne => next_awake hr (telegram_known hne)

end Sys2Proof.Machine
end

section
/-! PROOFS of the statement about the sign-off session: the commands that open, verify, confirm and abort it, and the writes
of SAFE parameters that change its pending set (R310, R328, R329). -/

namespace Sys2Proof.Machine

section
variable {s : State}

/-! ### SF_SIGNOFF_CMD and SF_CONFIRM (R328) -/

theorem sfOpen_closed (hst : s.sf.session = .closed) (hlegs : s.legsEnabled = 0) : s.sfOpen = .ok { s with sf := { s.sf with
    session := .opened, pendSet := s.od.filter fun e => isSafeKey e.1, sessionAt := s.now } } :=
  if_neg (by simp [hst, hlegs])

theorem sfVerify_consistent (hst : s.sf.session = .opened) (hok : safeOk s.sf.pendSet = true) : s.sfVerify =
    .ok { s with sf := { s.sf with session := .verified, pendCrc := safeCrc s.sf.pendSet, sessionAt := s.now } } :=
  if_neg (by simp [hst, hok])

theorem ownSfConfirm_verified {v : Nat} (hst : s.sf.session = .verified) (hcrc : v = s.sf.pendCrc) :
    s.ownSfConfirm v = s.activateSafe.askCommit true :=
  if_neg (by simp [hst, hcrc])

theorem ownSfConfirm_refused {v : Nat} (h : s.sf.session ≠ .verified ∨ v ≠ s.sf.pendCrc) :
    s.ownSfConfirm v = .error abSafety :=
  if_pos (by simpa using h)

/-! ### SAFE parameters (R310) -/

/-- What every row of a SAFE parameter is: a number in a group of the safety core, apart from the commands 0x02, 0x05, 0x09
and 0x14 of group 0x3800. -/
def OdRow.isSafeParam (r : OdRow) : Bool :=
  decide (r.acc = .safe) && decide (r.ty ≠ .string) && decide (r.count ≤ 16) &&
    (decide (r.base = 0x3810) || decide (r.base = 0x3820) ||
      decide (r.base = 0x3800) && decide (0x10 ≤ r.sub) && (decide (r.sub + r.nsub ≤ 0x14) || decide (0x15 ≤ r.sub))) &&
    match r.rng with
    | .div _ _ _ => false
    | _ => true

theorem safeRows_isSafeParam {r : OdRow} (h : r ∈ safeRows) : r.isSafeParam = true := by
  have hall : ∀ x ∈ safeRows, x.isSafeParam = true := by decide +kernel
  exact hall r h

/-- The row that a lookup of a SAFE entry finds holds the entry. -/
theorem has_of_lookup_safe {idx sub : Nat} {r : OdRow} (hl : Od.lookup idx sub = .ok r) (hacc : r.acc = .safe) :
    r.has idx sub = true := by
  unfold Od.lookup at hl
  split at hl
  · split at hl
    · cases hl
      cases hacc
    · cases hl
  · unfold Od.find at hl
    split at hl
    · next row hrow =>
      split at hrow
      · obtain ⟨src, -, rfl⟩ := Option.map_eq_some_iff.mp hrow
        cases hl
        simp only [Flt.row] at hacc
        split at hacc <;> cases hacc
      · cases hl
        exact List.find?_some (p := fun r : OdRow => r.has idx sub) hrow
    · cases hl

/-- The group that writes of a SAFE parameter reach hands it to the owner of the pending set. -/
theorem writeSafe_param {base sub : Nat} (hsub : base = 0x3800 → 0x10 ≤ sub ∧ sub ≠ 0x14) (g : Reg) (v : Nat)
    (d : List Byte) : s.writeSafe base sub g v d = s.done (s.ownSafeParam g v) := by
  unfold State.writeSafe
  split
  case h_5 => rfl
  all_goals exact absurd (hsub rfl) (by decide)

section
variable {q : Req} {idx sub : Nat} {row : OdRow} {d : List Byte} (hl : Od.lookup idx sub = .ok row) (hrow : row ∈ safeRows)
include hl hrow

theorem writeOwned_safeParam : s.writeOwned row idx sub d = s.done (s.ownSafeParam (row.reg idx sub) (leNat d)) := by
  have hparam := safeRows_isSafeParam hrow
  simp only [OdRow.isSafeParam, Bool.and_eq_true, Bool.or_eq_true, decide_eq_true_eq] at hparam
  obtain ⟨⟨⟨⟨hacc, hty⟩, -⟩, hbase⟩, -⟩ := hparam
  have hhas := has_of_lookup_safe hl hacc
  simp only [OdRow.has, Bool.and_eq_true, decide_eq_true_eq] at hhas
  have hsub : row.base = 0x3800 → 0x10 ≤ sub ∧ sub ≠ 0x14 := by omega
  rw [writeOwned_plain (by omega), ← writeSafe_param hsub _ _ d]
  unfold State.writeOwned0
  rw [if_neg hty]
  rcases hbase with (h | h) | ⟨⟨h, -⟩, -⟩ <;> rw [h] <;> rfl

/-- A write of a SAFE parameter whose value its row admits comes to the owner of the pending set. -/
theorem writeCmd_safeParam (hs : s.serves q idx sub = true) (hcheck : row.check d = 0) (hlen : d.length ≤ 16) :
    s.writeCmd q idx sub d = State.finish ((s.upTo q.t).done ((s.upTo q.t).ownSafeParam (row.reg idx sub) (leNat d)))
      (q.msg 2 idx sub []) row.ty.code := by
  have hparam := safeRows_isSafeParam hrow
  simp only [OdRow.isSafeParam, Bool.and_eq_true, Bool.or_eq_true, decide_eq_true_eq] at hparam
  obtain ⟨⟨⟨⟨hacc, hty⟩, hcount⟩, hbase⟩, hrng⟩ := hparam
  have hhas := has_of_lookup_safe hl hacc
  simp only [OdRow.has, Bool.and_eq_true, decide_eq_true_eq] at hhas
  have hdiv : row.divides (leNat d) = true := by
    unfold OdRow.divides
    split
    · next h => rw [h] at hrng; cases hrng
    · rfl
  have htakes : row.takes (s.upTo q.t) idx sub d = true :=
    takes_of (by rw [hacc]; decide) hcheck (.inl (by rw [hacc]; decide)) (seg_upTo hs _) hdiv
  rw [writeCmd_served hs hl (by omega) (by omega) (by omega) (by have := pathLimit_le q.path; omega) htakes,
    writeOwned_safeParam hl hrow]

end

theorem ownSafeParam_opened (g : Reg) (v : Nat) (hst : s.sf.session = .opened) : s.ownSafeParam g v =
    .ok { s with sf := { s.sf with pendSet := s.sf.pendSet.put g v, sessionAt := s.now } } :=
  if_neg (by simp [hst])

theorem ownSafeParam_refused (g : Reg) (v : Nat) (hst : s.sf.session ≠ .opened) : s.ownSafeParam g v = .error abSafety :=
  if_pos hst

/-! ### SF_IMAGE (R328) -/

/-- The pending set with a record of the image taken in. -/
def putRecord (m : OdStore) (x : Nat × Nat × Nat × List Byte) : OdStore :=
  match Od.find x.1 x.2.1 with
  | some row => m.put (row.reg x.1 x.2.1) (leNat x.2.2.2)
  | none => m

theorem ownSfImage_good {img : List Byte} {rs : List (Nat × Nat × Nat × List Byte)} (hst : s.sf.session = .opened)
    (hsig : s.sigOk img kindSafe [] = true) (hparse : parseRecords (imgBody img).length (imgBody img) = some rs)
    (hgood : ∀ x ∈ rs, isSafeKey (key x.1 x.2.1) = true ∧ recordOk true x.1 x.2.1 x.2.2.1 x.2.2.2 = true) :
    s.ownSfImage img = .ok { s with sf := { s.sf with pendSet := rs.foldl putRecord s.sf.pendSet, sessionAt := s.now } } := by
  have hall : (rs.all fun x => isSafeKey (key x.1 x.2.1) && recordOk true x.1 x.2.1 x.2.2.1 x.2.2.2) = true := by
    simpa only [List.all_eq_true, Bool.and_eq_true] using hgood
  rw [State.ownSfImage, if_neg (not_not.mpr hst), if_neg (by simp [hsig])]
  simp only [hparse, hall, Bool.not_true, Bool.false_eq_true, if_false]
  rfl

/-- A write of an image whose owner takes it is answered as an accepted one; no signature is counted. -/
theorem accepted_of_signed {o : Host.Outcome State Fault Refusal} {r w : State} {a : Own} {q : Req} {op idx sub typ : Nat}
    (h : o = .next (State.finish (countSig (r.done a)) (q.msg op idx sub []) typ)) (ha : a = .ok w) :
    o = .next (w.accepted q op idx sub typ) := by
  subst ha
  exact h

theorem sessionTimeout_open (hst : s.sf.session ≠ .closed) :
    s.sessionTimeout = (s.at_ (s.sf.sessionAt + secs 600)).sessionAbort := if_neg hst

end

/-- Settles O40: each command of the session is taken in the state that its owner asks for, and a SAFE parameter changes the
pending set of an open session alone. -/
theorem signOffSessionChangesTheSafeSet : Obligations.SignOffSessionChangesTheSafeSet := by
  unfold Obligations.SignOffSessionChangesTheSafeSet
  refine ⟨fun q s hs => ⟨fun hst hlegs => ?opens, fun hst hok => ?verifies, fun hst => ?aborts⟩,
    fun q idx sub d row s hl hrow hcheck hlen hs => ?param, fun q img rs s hs hlen => ?image, fun q v s hs => ?confirm,
    fun s hr hst => next_awake hr (sessionTimeout_open hst)⟩
  case opens => exact accepted_of_taken (execSfOpen_served q hs) (sfOpen_closed hst hlegs)
  case verifies => exact accepted_of_taken (execSfVerify_served q hs) (sfVerify_consistent hst hok)
  case aborts => exact accepted_of_taken (execSfAbort_served q hs) (if_neg hst)
  case param =>
    have hserved : exec (.safeWrite q idx sub d) s = _ := congrArg Host.Outcome.next (writeCmd_safeParam hl hrow hs hcheck hlen)
    exact ⟨fun hst => accepted_of_taken hserved (ownSafeParam_opened _ _ hst),
      fun hst => refused_of_own hserved (ownSafeParam_refused _ _ hst) (by decide)⟩
  case image =>
    intro r hst hsig hparse hgood
    exact accepted_of_signed (execSfImageWrite_served q img hs hlen) (ownSfImage_good hst hsig hparse hgood)
  case confirm =>
    have hserved := execSfConfirm_served q v hs
    exact ⟨fun hst hcrc t ht => accepted_of_taken hserved ((ownSfConfirm_verified hst hcrc).trans ht),
      fun h => refused_of_own hserved (ownSfConfirm_refused h) (by decide)⟩

end Sys2Proof.Machine
end

section
/-! PROOFS of the statements about the lanes: LANE_CTRL with one field replaced, modules and test patterns, and what moves a
lane that receives (R337 to R356). -/

namespace Sys2Proof.Machine

section
variable {s : State} {n : Nat}

/-! ### LANE_CTRL (R339, R348, R353) -/

/-- What LANE_CTRL may not do: enable a lane that the node does not use or that self-test holds, or set TEST or LOOP outside
HOLD. -/
def State.laneCtrlBad (s : State) (n v : Nat) : Bool :=
  v.testBit 0 && (!s.usesLane n || s.bist.held.testBit (14 + n)) ||
    (bits v 4 2 ≠ 0 || bits v 7 5 ≠ 0) && (s.lane n).st ≠ .hold

/-- The value that LANE_CTRL stores: TEST and LOOP end where HOLD is clear. -/
def laneCtrlKept (v : Nat) : Nat := if v.testBit 1 then v else v - bits v 7 5 * 32 - bits v 4 2 * 4

/-- The stored value, with the pattern counts clear where TEST is or was set. -/
def State.laneCtrlStored (s : State) (n w : Nat) : State :=
  let r := s.wr (Od.LANE_CTRL n) w
  if bits w 7 5 ≠ 0 || bits (s.rd (Od.LANE_CTRL n)) 7 5 ≠ 0 then
    r.updLane n fun x => { x with prbsErr := 0, prbsBits := 0, prbsLock := false } else r

/-- Where a stored LANE_CTRL takes a lane that was in state `st`. -/
def State.laneFollows (s : State) (n w : Nat) (st : LaneState) : State :=
  if !s.laneOn n then s.laneOff n
  else if st = .off then s.laneStart n
  else if w.testBit 1 then (if st = .hold then s else s.laneTo n .hold)
  else if st = .hold then s.toLocking n else s

theorem ownLaneCtrl_bad {v : Nat} (h : s.laneCtrlBad n v = true) : s.ownLaneCtrl n v = .error abState := by
  unfold State.ownLaneCtrl
  rcases Bool.or_eq_true_iff.mp h with henable | htest
  · exact if_pos henable
  · dsimp only
    split
    · rfl
    · exact if_pos htest

theorem ownLaneCtrl_taken {v : Nat} (h : s.laneCtrlBad n v = false) :
    s.ownLaneCtrl n v = .ok ((s.laneCtrlStored n (laneCtrlKept v)).laneFollows n (laneCtrlKept v) (s.lane n).st) := by
  obtain ⟨henable, htest⟩ := Bool.or_eq_false_iff.mp h
  unfold State.ownLaneCtrl
  exact (if_neg (Bool.eq_false_iff.mp henable)).trans (if_neg (Bool.eq_false_iff.mp htest))

/-- Each of the four commands writes LANE_CTRL with its field replaced. -/
theorem exec_laneField {q : Req} {n : Fin 4} {c : Instr} {v : Nat} (hs : s.serves q (0x1280 + n.val) 0x01 = true)
    (hc : (∃ on, c = .laneEnable q n on ∧ v = withField (s.rd (Od.LANE_CTRL n.val)) 0 1 (b2n on)) ∨
      (∃ on, c = .laneHold q n on ∧ v = withField (s.rd (Od.LANE_CTRL n.val)) 1 1 (b2n on)) ∨
      (∃ f : BitVec 3, c = .laneTest q n f ∧ v = withField (s.rd (Od.LANE_CTRL n.val)) 5 3 f.toNat) ∨
      (∃ f : BitVec 3, c = .laneLoop q n f ∧ v = withField (s.rd (Od.LANE_CTRL n.val)) 2 3 f.toNat))
    (hv : admits (0x1280 + n.val) 0x01 (leBytes 2 v) = true) : exec c s = .next (State.finish
      ((s.upTo q.t).done ((s.upTo q.t).ownLaneCtrl n.val (leNat (leBytes 2 v)))) (q.msg 2 (0x1280 + n.val) 0x01 []) 3) := by
  have hcheck := check_of_admits_row hv (look_LANE_CTRL n)
  rcases hc with ⟨on, rfl, rfl⟩ | ⟨on, rfl, rfl⟩ | ⟨f, rfl, rfl⟩ | ⟨f, rfl, rfl⟩
  · exact execLaneEnable_served q n on hs hcheck
  · exact execLaneHold_served q n on hs hcheck
  · exact execLaneTest_served q n f hs hcheck
  · exact execLaneLoop_served q n f hs hcheck

/-! ### Modules, rates and patterns (R338, R346, R353) -/

theorem ddmRead_present {bytes : List Byte} (habs : (s.lane n).modAbs = false) (hlen : bytes.length = 10) :
    s.ddmRead n bytes = s.updLane n fun x => { x with ddm := bytes } := by
  have hfit : fitTo 10 bytes = bytes := List.take_left' hlen
  rw [State.ddmRead, if_neg (Bool.eq_false_iff.mp habs), hfit]

theorem ppmMeasure_measured {ins del blocks fill : Nat} (hblocks : blocks ≠ 0) :
    let diff : Int := (del : Int) - ins
    let high := decide (diff.natAbs * 1000000 > 250 * blocks)
    let r := s.updLane n fun x => { x with
      ins := (x.ins + ins) % 2 ^ 32, del := (x.del + del) % 2 ^ 32, fill := fill
      ppm := (diff * 100000000).tdiv blocks, ppmHigh := high }
    s.ppmMeasure n ins del blocks fill = if high && !(s.lane n).ppmHigh then r.raise Flt.LANE_PPM n else r := by
  simp only [State.ppmMeasure, if_neg hblocks]
  rfl

theorem prbsSeen_testing {checked errs : Nat} (hst : (s.lane n).st = .hold)
    (htest : bits (s.rd (Od.LANE_CTRL n)) 7 5 ≠ 0) : s.prbsSeen n checked errs = s.updLane n fun x => { x with
      prbsLock := true, prbsErr := min (2 ^ 64 - 1) (x.prbsErr + errs), prbsBits := (x.prbsBits + checked) % 2 ^ 64 } :=
  if_pos (Bool.and_eq_true_iff.mpr ⟨decide_eq_true hst, decide_eq_true htest⟩)

end

/-- Settles O41: the four commands come to the owner of LANE_CTRL, which refuses or stores and follows, and each event of a
module, a rate or a pattern is one update of its lane. -/
theorem laneControlAndModules : Obligations.LaneControlAndModules := by
  unfold Obligations.LaneControlAndModules
  refine ⟨fun q n s c v hs hc hv => ?field, fun q n s hs => execLaneCntClr_served q n hs,
    fun t n page s hr => next_awake hr rfl, fun t n s hr => next_awake hr rfl,
    fun t n bytes s hr habs hlen => next_awake hr (ddmRead_present habs hlen),
    fun t n ins del blocks fill s hr hblocks => next_awake hr (ppmMeasure_measured hblocks),
    fun t n checked errs s hr hst htest => next_awake hr (prbsSeen_testing hst htest)⟩
  case field =>
    have hserved := exec_laneField hs hc hv
    exact ⟨fun hbad => refused_of_own hserved (ownLaneCtrl_bad hbad) (by decide),
      fun hgood => accepted_of_taken hserved (ownLaneCtrl_taken hgood)⟩

/-! ### The descrambler of a lane undoes the scrambler (R341) -/

/-- The first k bits of a payload through the scrambler, and of a line through the descrambler. -/
def scrambleBits (st p k : Nat) : Nat × Nat :=
  (List.range k).foldl (fun a i =>
    let y := scrSum a.2 (p.testBit i)
    (a.1 + b2n y * 2 ^ i, scrPush a.2 y)) (0, st)
def descrambleBits (st line k : Nat) : Nat × Nat :=
  (List.range k).foldl (fun a i =>
    (a.1 + b2n (scrSum a.2 (line.testBit i)) * 2 ^ i, scrPush a.2 (line.testBit i))) (0, st)

theorem scrambleBits_succ (st p k : Nat) :
    let a := scrambleBits st p k
    let y := scrSum a.2 (p.testBit k)
    scrambleBits st p (k + 1) = (a.1 + b2n y * 2 ^ k, scrPush a.2 y) := by
  simp only [scrambleBits, List.range_succ, List.foldl_append, List.foldl_cons, List.foldl_nil]

theorem descrambleBits_succ (st line k : Nat) :
    let a := descrambleBits st line k
    descrambleBits st line (k + 1) = (a.1 + b2n (scrSum a.2 (line.testBit k)) * 2 ^ k, scrPush a.2 (line.testBit k)) := by
  simp only [descrambleBits, List.range_succ, List.foldl_append, List.foldl_cons, List.foldl_nil]

theorem scrSum_scrSum (st : Nat) (b : Bool) : scrSum st (scrSum st b) = b := by
  unfold scrSum
  cases st.testBit 38 <;> cases st.testBit 57 <;> cases b <;> rfl

theorem scrambleBits_lt (st p k : Nat) : (scrambleBits st p k).1 < 2 ^ k := by
  induction k with
  | zero => exact Nat.one_pos
  | succ k ih =>
    rw [scrambleBits_succ, Nat.pow_succ]
    cases scrSum (scrambleBits st p k).2 (p.testBit k) <;> simp only [b2n, Bool.false_eq_true, if_false, if_true] <;> omega

/-- The low k + 1 bits of a number are its low k bits and bit k. -/
theorem mod_two_pow_succ_eq (x k : Nat) : x % 2 ^ (k + 1) = x % 2 ^ k + b2n (x.testBit k) * 2 ^ k := by
  rw [Nat.mod_pow_succ, ← Nat.toNat_testBit, Nat.mul_comm]
  cases x.testBit k <;> rfl

/-- A line whose low k bits are those that the scrambler made gives back the low k bits of the payload. -/
theorem descrambleBits_scrambleBits (st p line k : Nat) (h : line % 2 ^ k = (scrambleBits st p k).1) :
    descrambleBits st line k = (p % 2 ^ k, (scrambleBits st p k).2) := by
  induction k with
  | zero => rw [Nat.pow_zero, Nat.mod_one]; rfl
  | succ k ih =>
    have hlt := scrambleBits_lt st p k
    rw [scrambleBits_succ, mod_two_pow_succ_eq] at h
    have hmod : line % 2 ^ k < 2 ^ k := Nat.mod_lt _ (Nat.two_pow_pos k)
    have hparts : line % 2 ^ k = (scrambleBits st p k).1 ∧
        line.testBit k = scrSum (scrambleBits st p k).2 (p.testBit k) := by
      revert h
      cases line.testBit k <;> cases scrSum (scrambleBits st p k).2 (p.testBit k) <;>
        simp only [b2n, Bool.false_eq_true, Bool.true_eq_false, if_false, if_true, and_true, and_false] <;> omega
    obtain ⟨hlow, hbit⟩ := hparts
    rw [descrambleBits_succ, scrambleBits_succ, ih hlow, hbit, scrSum_scrSum, ← mod_two_pow_succ_eq]

theorem descramble_scramble (st p : Nat) (hp : p < 2 ^ 64) :
    descramble st (scramble st p).1 = (p, (scramble st p).2) := by
  have hline : (scramble st p).1 % 2 ^ 64 = (scrambleBits st p 64).1 := Nat.mod_eq_of_lt (scrambleBits_lt st p 64)
  have h := descrambleBits_scrambleBits st p _ 64 hline
  rw [Nat.mod_eq_of_lt hp] at h
  exact h

/-! ### What moves a lane that receives (R345 to R352) -/

section
variable {s : State} {n : Nat}

/-- A lane that is not OFF is one of the four. -/
theorem lane_lt_of_not_off (h : (s.lane n).st ≠ .off) : n < s.lanes.length := by
  by_contra hge
  exact h (by rw [State.lane, List.getD_eq_default _ _ (Nat.not_lt.mp hge)])

theorem lane_updLane {f : Lane → Lane} (h : n < s.lanes.length) : (s.updLane n f).lane n = f (s.lane n) := by
  simp [State.updLane, State.lane, List.getD_eq_getElem?_getD, h]

theorem blockLock_receives (h : (s.lane n).st ≠ .off) :
    let r := s.updLane n fun x => { x with rxLock := true, blockLock := true }
    s.blockLock n = if (r.lane n).st = .locking then r.updLane n fun x => { x with st := .training } else r :=
  if_neg h

section
variable (m : Nat) (hup : (s.lane n).st = .up)
include hup

theorem blockLockLoss_up (hlock : (s.lane n).blockLock = true) : s.blockLockLoss n m =
    ((s.updLane n fun x => { x with
      blockLock := false, lockLoss := (x.lockLoss + 1) % 2 ^ 32, badHdr := (x.badHdr + 16) % 2 ^ 32 }).errOut 1 m).toLocking n := by
  rw [State.blockLockLoss, if_neg (by rw [hlock]; decide), if_pos hup]
  rfl

theorem hiBerSpan_rises {bad : Nat} (hbad : 16 ≤ bad) (hnew : (s.lane n).hiBer = false) :
    let r := s.updLane n fun x => { x with badHdr := (x.badHdr + bad) % 2 ^ 32, hiBer := true }
    let r := (r.updLane n fun x => { x with hiBers := (x.hiBers + 1) % 2 ^ 32 }).raise Flt.LANE_HI_BER n
    s.hiBerSpan n bad m = (r.errOut 1 m).toLocking n := by
  have hrise : (decide (bad ≥ 16) && !(s.lane n).hiBer) = true := by simp [hbad, hnew]
  have hhigh : decide (bad ≥ 16) = true := decide_eq_true hbad
  rw [State.hiBerSpan, if_pos hrise, if_pos hup, hhigh]
  rfl

theorem holdBlock_up : s.holdBlock n m = (s.errOut 1 m).toLocking n := if_pos hup

end

theorem hiBerSpan_below {bad : Nat} (m : Nat) (hbad : bad < 16) : s.hiBerSpan n bad m =
    s.updLane n fun x => { x with badHdr := (x.badHdr + bad) % 2 ^ 32, hiBer := false } := by
  have hhigh : decide (bad ≥ 16) = false := decide_eq_false (Nat.not_le.mpr hbad)
  rw [State.hiBerSpan, hhigh]
  rfl

theorem sfpLos_up (m : Nat) :
    let r := s.updLane n fun x => { x with los := true }
    (r.lane n).st = .up → s.sfpLos n true m = (r.errOut 1 m).toLocking n := by
  intro r hup
  exact if_pos (by rw [hup]; rfl)

theorem inputLost_up (m : Nat) :
    let r := (s.errOut 1 m).updLane n fun x => { x with rxLock := false, blockLock := false }
    (r.lane n).st = .up → s.inputLost n m = r.toLocking n := by
  intro r hup
  exact if_pos hup

theorem trainTimeout_due (hst : (s.lane n).st = .locking ∨ (s.lane n).st = .training) :
    let r := (s.at_ ((s.lane n).lockingAt + ms 100)).updLane n fun x => { x with trains := (x.trains + 1) % 2 ^ 32, trainEp := true }
    s.trainTimeout n = (if (s.lane n).trainEp then r else r.raise Flt.LANE_TRAIN n).toLocking n :=
  if_pos (by simpa using hst)

/-! ### TRAIN blocks (R341, R347, R349) -/

theorem rxLine_receives {before line : Nat} (h : (s.lane n).st ≠ .off) :
    s.rxLine n before line = s.updLane n fun x => { x with descr := (descramble before line).2 } := if_neg h

/-- The runs of a TRAINING lane after a valid block with payload p. -/
def Lane.upRunAfter (x : Lane) (p : Nat) : Nat :=
  if x.peerOk && p.testBit 11 && commonVersion (bits p 23 16) (bits p 31 24) = some (bits p 39 32) then x.upRun + 1 else 0

/-- A TRAINING lane notes the fields of a valid block and counts it. -/
def State.trainNoted (s : State) (n p : Nat) : State :=
  (s.updLane n fun x => { x with peer := p, peerRxOk := p.testBit 10 }).updLane n fun y => { y with
    trainRun := (s.lane n).trainRun + 1, upRun := (s.lane n).upRunAfter p }

section
variable {p : Nat} (m : Nat) (hst : (s.lane n).st = .training) (hlock : (s.lane n).blockLock = true)
  (hvalid : trainValid p = true)
include hst hlock hvalid

theorem trainBlock_short (hrun : (s.lane n).trainRun + 1 < 8) : s.trainBlock n p m = s.trainNoted n p := by
  unfold State.trainBlock
  simp only [hst, hlock, hvalid, hrun, decide_false, Bool.not_true, Bool.or_self, Bool.false_eq_true, if_false,
    if_true, reduceCtorEq]
  rfl

theorem trainBlock_long {k : Nat} (hrun : 8 ≤ (s.lane n).trainRun + 1)
    (hver : commonVersion (bits p 23 16) (bits p 31 24) = some k) :
    let r := (s.trainNoted n p).updLane n fun x => { x with peerOk := true, verMismatch := false }
    s.trainBlock n p m = if 8 ≤ (s.lane n).upRunAfter p then r.laneUp n k else r := by
  unfold State.trainBlock
  simp only [hst, hlock, hvalid, Nat.not_lt.mpr hrun, hver, decide_false, Bool.not_true, Bool.or_self,
    Bool.false_eq_true, if_false, if_true, reduceCtorEq]
  simp only [State.trainNoted, Lane.upRunAfter, hver]

end

end

/-- Settles O42: each event takes the branch of the state that its lane is in, and the descrambler is that of
`descramble_scramble`. -/
theorem laneReceiverMovesTheLane : Obligations.LaneReceiverMovesTheLane := by
  unfold Obligations.LaneReceiverMovesTheLane
  refine ⟨fun t n s hr hst => next_awake hr (blockLock_receives hst),
    fun t n m s hr hup => ⟨fun hlock => next_awake hr (blockLockLoss_up m.toNat hup hlock),
      fun bad hbad hnew => next_awake hr (hiBerSpan_rises (s := s.at_ t) m.toNat hup hbad hnew),
      next_awake hr (holdBlock_up m.toNat hup)⟩,
    fun t n bad m s hr hbad => next_awake hr (hiBerSpan_below m.toNat hbad), fun t n m s hr => ?events,
    descramble_scramble, fun t n b l m s hr hst => ?train, fun n s hr hst => next_awake hr (trainTimeout_due hst)⟩
  case events =>
    exact ⟨next_awake hr rfl, next_awake hr rfl, next_awake hr rfl, next_awake hr rfl, next_awake hr rfl,
      fun hup => next_awake hr (sfpLos_up m.toNat hup), fun hup => next_awake hr (inputLost_up m.toNat hup)⟩
  case train =>
    intro p hlock hvalid x v upRun r
    have hoff : ((s.at_ t).lane n.val).st ≠ .off := by
      rw [show ((s.at_ t).lane n.val).st = .training from hst]
      decide
    have hline := rxLine_receives (before := b.toNat) (line := l.toNat) hoff
    have hlane := lane_updLane (f := fun x => { x with descr := (descramble b.toNat l.toNat).2 }) (lane_lt_of_not_off hoff)
    generalize hw : ((s.at_ t).updLane n.val fun x => { x with descr := (descramble b.toNat l.toNat).2 }) = w at hline hlane
    have hst' : (w.lane n.val).st = .training := by rw [hlane]; exact hst
    have hlock' : (w.lane n.val).blockLock = true := by rw [hlane]; exact hlock
    have hrun' : (w.lane n.val).trainRun = x.trainRun := by rw [hlane]; rfl
    have hup' : (w.lane n.val).upRunAfter p = upRun := by rw [hlane]; rfl
    have hnoted : w.trainNoted n.val p = r := by
      rw [State.trainNoted, hrun', hup', ← hw]
    refine ⟨fun hshort => next_awake hr ?short, fun k hlong hver => next_awake hr ?long⟩
    case short =>
      rw [hline, trainBlock_short m.toNat hst' hlock' hvalid (hrun' ▸ hshort), hnoted]
    case long =>
      rw [hline, trainBlock_long m.toNat hst' hlock' hvalid (hrun' ▸ hlong) hver, hnoted, hup']

end Sys2Proof.Machine
end

section
/-! PROOFS of the statement about the frames of the ring: what becomes of received bytes by the checks of R366, what a lane
starts next, and where TC0 frames and waiting trace data go (R366 to R380). -/

namespace Sys2Proof.Machine

section
variable {s : State}

/-! ### RING_FRAME_RX (R366, R369 to R371, R375) -/

/-- The lanes that a frame of a lane goes on to by its route. -/
def Route.dest (w : Route) (lane : Nat) : List Nat :=
  (if w.on then [outLane lane] else []) ++ (if w.copy then [otherRing (outLane lane)] else [])

/-- What a device does with a good frame that it did not insert: it notes a TC0 frame and one outside its window, passes the
frame on, folds it where its route says so, and takes it. -/
def State.frameHeard (s : State) (f : Frame) (lane : Nat) : State := if f.typ = 1 then s.hearTc0 f.src lane else s
def State.frameLate (s : State) (f : Frame) (w : Route) (lane : Nat) : State :=
  if f.typ = 1 && w.on && !s.ownWindow (outLane lane) f.src f.num then
    (s.updRing fun x => { x with ttViol := (x.ttViol + 1) % 2 ^ 32 }).raise Flt.RING_TT_VIOL lane else s
def State.framePassed (s : State) (f : Frame) (dest : List Nat) : State :=
  s.each dest fun s k => s.pass { f with hops := f.hops + 1 } k
def State.frameFolded (s : State) (f : Frame) (w : Route) : State :=
  if w.fold then match takeSeq s.ring.maps f.src 2 f.seq with
    | some maps => (s.updRing fun x => { x with maps := maps }).each (alarmsOf f.payload) State.foldAlarm
    | none => s.dup
  else s
def State.frameTaken (s : State) (f : Frame) (w : Route) : State := if w.take then (s.take f).seeRequest f else s

/-- A frame that no lane takes on, or that has hops left. -/
theorem hops_left {dest : List Nat} {hops : Nat} (h : dest = [] ∨ hops + 1 < 128) :
    ¬(decide (dest ≠ []) && decide (hops + 1 ≥ 128)) = true := by
  simp only [Bool.and_eq_true, decide_eq_true_eq]
  rintro ⟨hdest, hhops⟩
  rcases h with h | h
  · exact hdest h
  · omega

section
variable {t lane : Nat} {l : List Byte} (hup : (s.lane lane).st = .up)
include hup

theorem frameRx_noHeader (hparse : parseFrame l = none) :
    s.frameRx t lane l = (s.at_ t).updRing fun x => { x with hcrc := (x.hcrc + 1) % 2 ^ 32 } := by
  rw [State.frameRx, if_neg (not_not.mpr hup)]
  simp only [hparse]
  rfl

variable {f : Frame} {good : Bool} (hparse : parseFrame l = some (f, good))
include hparse

theorem frameRx_inserted (hown : (s.at_ t).inserted f (lane / 2) = true) : s.frameRx t lane l = s.at_ t := by
  rw [State.frameRx, if_neg (not_not.mpr hup)]
  simp only [hparse]
  exact if_pos hown

variable (hother : (s.at_ t).inserted f (lane / 2) = false)
include hother

theorem frameRx_lastHop :
    let dest := ((s.at_ t).route f (lane / 2)).dest lane
    dest ≠ [] → 128 ≤ f.hops + 1 → s.frameRx t lane l =
      ((s.at_ t).updRing fun x => { x with hopsExp := (x.hopsExp + 1) % 2 ^ 32 }).raise Flt.RING_HOPS 0 := by
  intro dest hdest hhops
  rw [State.frameRx, if_neg (not_not.mpr hup)]
  simp only [hparse, hother, Bool.false_eq_true, if_false]
  exact if_pos (Bool.and_eq_true_iff.mpr ⟨decide_eq_true hdest, decide_eq_true hhops⟩)

theorem frameRx_badCheck (hbad : good = false) :
    let dest := ((s.at_ t).route f (lane / 2)).dest lane
    dest = [] ∨ f.hops + 1 < 128 → s.frameRx t lane l =
      ((s.at_ t).errOut 3 (dest.map (2 ^ ·)).sum).updRing fun x => { x with crc := (x.crc + 1) % 2 ^ 32 } := by
  intro dest hleft
  subst hbad
  rw [State.frameRx, if_neg (not_not.mpr hup)]
  simp only [hparse, hother, Bool.false_eq_true, if_false]
  exact (if_neg (hops_left hleft)).trans rfl

theorem frameRx_good (hgood : good = true) :
    let r := s.at_ t
    let w := r.route f (lane / 2)
    w.dest lane = [] ∨ f.hops + 1 < 128 → s.frameRx t lane l =
      ((((r.frameHeard f lane).frameLate f w lane).framePassed f (w.dest lane)).frameFolded f w).frameTaken f w := by
  intro r w hleft
  subst hgood
  rw [State.frameRx, if_neg (not_not.mpr hup)]
  simp only [hparse, hother, Bool.false_eq_true, if_false, Bool.not_true]
  exact (if_neg (hops_left hleft)).trans rfl

end

/-! ### What a lane starts (R374, R379, R380) -/

/-- The state in which a lane starts its next frame: the lane is free and the buckets are filled. -/
def State.txReady (s : State) (lane : Nat) : State := (s.at_ (s.ring.busy.getD lane 0)).refill

theorem txStart_starts {lane : Nat} {w : Waiting} (hup : ((s.txReady lane).lane lane).st = .up)
    (hnext : (s.txReady lane).nextTx lane = some w) :
    let size := w.frame.octets
    let cls := typeClass w.frame.typ
    let pays := !w.paid && decide (4 ≤ w.item)
    s.txStart lane = ((s.txReady lane).updRing fun x => { x with
      waiting := (x.waiting.erase w).map fun y => if pays && sibling w y then { y with paid := true } else y
      busy := x.busy.set lane ((s.txReady lane).now + w.frame.blocks * blockPs)
      txBytes := x.txBytes.modify cls fun b => (b + size) % 2 ^ 64
      tc1Blocks := if cls = 1 then x.tc1Blocks.modify lane fun b => b + w.frame.blocks else x.tc1Blocks
      bucket2 := if pays && w.item = 4 then x.bucket2 - size * 1000000000000 else x.bucket2
      bucket3 := if pays && w.item = 5 then x.bucket3 - size * 1000000000000 else x.bucket3 }).emit (.frame lane w.frame) := by
  have hready : (s.at_ (s.ring.busy.getD lane 0)).refill = s.txReady lane := rfl
  unfold State.txStart
  simp only [hready, hup, hnext, ne_eq, not_true_eq_false, if_false]

theorem tc3Expiry_waiting {w : Waiting}
    (hw : s.ring.waiting.find? (fun w => w.item = 5 && w.frame.typ = 0x0A && !w.paid) = some w) :
    s.tc3Expiry = ((s.at_ (w.since + ms (s.rd Od.RING_TC3_WAIT))).updRing fun r => { r with
      waiting := (r.waiting.erase w).filter fun x => !sibling w x
      spill := (r.spill + w.frame.payload.length) % 2 ^ 64 }).spillDump w.frame.payload := by
  simp only [State.tc3Expiry, hw]

/-! ### TC0_SEND (R375) -/

theorem tc0Send_worker {k : Nat} (hcycle : s.ring.sysCycle ≠ 0) (hused : s.rd (Od.TX_N k) ≠ 0) (hnode : s.ring.nodeId < 1024)
    (hst : s.ring.st = .run) (hrole : 2 ≤ s.ring.role) :
    let base := s.sysNow / s.sysCycleU * s.sysCycleU + sysNsU (s.ring.offsets.getD k 0)
    let T := if s.sysNow ≤ base then base else base + s.sysCycleU
    let r := s.at_ (s.localOf T)
    let dst := r.rd (Od.TX_DST k)
    s.tc0Send k = ((r.updRing fun x => { x with
        sent := x.sent.modify k fun n => (n + 1) % 2 ^ 64, seqs := x.seqs.modify 0 fun q => (q + 1) % 65536 }).bothWays
      ⟨1, k, r.ring.nodeId, if bits dst 11 10 = 0 then bits dst 9 0 else 0, bits dst 11 10, r.ring.seqs.getD 0 0, 0, 0, false,
        r.tc0Payload k T⟩ |>.ownFields k (r.tc0Payload k T)) := by
  have hgoes : ¬(decide (s.ring.sysCycle = 0) || decide (s.rd (Od.TX_N k) = 0) || decide (s.ring.nodeId ≥ 1024) ||
      decide (s.ring.st ≠ .run)) = true := by
    simp [hcycle, hused, hst, hnode]
  have hzero : ∀ t, ¬(s.at_ t).ring.role = 0 := fun t h => by
    have : s.ring.role = 0 := h
    omega
  rw [State.tc0Send, if_neg hgoes]
  simp only [hzero, decide_false, Bool.false_and, Bool.false_eq_true, if_false]

end

/-- Settles O43: the header and the route of a frame choose among the `frameRx` lemmas, and each of the other commands acts on
what stands ready for it. -/
theorem ringFramesAreJudgedSentAndShaped : Obligations.RingFramesAreJudgedSentAndShaped := by
  unfold Obligations.RingFramesAreJudgedSentAndShaped
  refine ⟨fun t n l s hr hup => ⟨fun hparse => next_awake hr (frameRx_noHeader hup hparse),
      fun f good hparse hown => next_awake hr (frameRx_inserted hup hparse hown), fun f good hparse hother => ?frame⟩,
    fun n s w hr => ?starts, fun k s hr hcycle hused hnode hst hrole => next_awake hr (tc0Send_worker hcycle hused hnode hst hrole),
    fun s w hr hw => next_awake hr (tc3Expiry_waiting hw)⟩
  case frame =>
    exact ⟨fun hdest hhops => next_awake hr (frameRx_lastHop hup hparse hother hdest hhops),
      fun hleft hbad => next_awake hr (frameRx_badCheck hup hparse hother hbad hleft),
      fun hleft hgood => next_awake hr (frameRx_good hup hparse hother hgood hleft)⟩
  case starts => exact fun hup hnext => next_awake hr (congrArg State.upNext (txStart_starts hup hnext))

end Sys2Proof.Machine
end

section
/-! PROOFS of the statement about roll call, alarm records and the system cycle (R359 to R364, R386 to R388, R426). -/

namespace Sys2Proof.Machine

/-! ### ALM_READ (R388) -/

def row_ALM_READ : OdRow := ⟨0x1230, 1, 0x04, 1, "ALM_READ", .octets, .ro, 0, .any, 0, 0, 0, false, 1024, true⟩

theorem pick_ALM_READ : Od.pick Od.rows 0x1230 1 0x04 1 = some row_ALM_READ := by decide +kernel

theorem look_ALM_READ : Od.lookup 0x1230 0x04 = .ok row_ALM_READ := by
  simpa only [Nat.add_zero] using lookup_of_pick (b := 0x1230) (s := 0x04) (i := 0) (j := 0) pick_ALM_READ
    Nat.zero_lt_one Nat.zero_lt_one (by decide) (by decide)

theorem alarmBytes_length (a : Alarm) : a.bytes.length = 32 := by
  simp only [Alarm.bytes, List.length_append, leBytes_length]

theorem flatMap_alarmBytes_length {α : Type} (alarm : α → Alarm) (l : List α) :
    (l.flatMap fun e => (alarm e).bytes).length = 32 * l.length := by
  simp only [List.length_flatMap, alarmBytes_length, List.map_const', List.sum_replicate, smul_eq_mul]
  exact Nat.mul_comm _ _

theorem almRead_length_le (s : State) : s.almRead.length ≤ 1024 := by
  have hrecords := flatMap_alarmBytes_length (fun e => e.alarm) (s.ring.alms.take 32)
  have htake := List.length_take_le 32 s.ring.alms
  unfold State.almRead
  omega

theorem exec_almRead {q : Req} {s : State} (h : s.serves q 0x1230 0x04 = true) (hpath : q.path ≠ .can) :
    exec (.almRead q) s = .next ((s.upTo q.t).answer (q.msg 1 0x1230 0x04 [])
      { typ := 13, total := (s.upTo q.t).almRead.length, data := (s.upTo q.t).almRead }) := by
  have hlimit : pathLimit q.path = 1024 := by
    cases hp : q.path with
    | can => exact absurd hp hpath
    | _ => rfl
  have hfits : (s.upTo q.t).almRead.length ≤ pathLimit q.path := hlimit ▸ almRead_length_le _
  have hentry : (s.upTo q.t).readEntry row_ALM_READ 0x1230 0x04 = .ok ((s.upTo q.t).almRead, s.upTo q.t) := rfl
  exact congrArg Host.Outcome.next
    (readCmd_served h look_ALM_READ (by decide) (by decide) (by decide) hentry hfits)

/-! ### Roll call (R362 to R364) -/

section
variable {s : State}

section
variable {T : Nat} {roll : Roll}

theorem rollCommit_join (hpart : roll.part = true) (hrun : s.ring.st = .run) :
    s.rollCommit T roll = s.joinCommit T roll := by
  rw [State.rollCommit, if_pos (by rw [hpart, hrun]; decide)]

/-- A join is judged at a manager that waits for one, and at every other device. -/
theorem joinCommit_open (hwaits : s.isSource = false ∨ s.ring.rolling = none ∧ s.ring.joins ≠ []) :
    ¬(s.isSource && (s.ring.rolling.isSome || s.ring.joins = [])) = true := by
  rcases hwaits with hother | ⟨hroll, hjoin⟩
  · simp [hother]
  · simp [hroll, hjoin]

theorem joinCommit_tight (hwaits : s.isSource = false ∨ s.ring.rolling = none ∧ s.ring.joins ≠ [])
    (hfits : let r := s.at_ (s.localOf T)
      (decide (5 * roll.tc0 ≤ 2 * r.ring.sysCycle) && windowsFit r.ring.windows roll.windows) = false) :
    let r := s.at_ (s.localOf T)
    let new := roll.found.filter fun d => !r.ring.serials.contains d.serial
    s.joinCommit T roll = if r.isSource then
      r.updRing fun x => { x with noId := (x.noId + new.length) % 2 ^ 32, joins := [] } else r := by
  intro r new
  rw [State.joinCommit, if_neg (joinCommit_open hwaits)]
  exact if_pos (by rw [hfits]; rfl)

theorem joinCommit_fits (hwaits : s.isSource = false ∨ s.ring.rolling = none ∧ s.ring.joins ≠ [])
    (hfits : let r := s.at_ (s.localOf T)
      (decide (5 * roll.tc0 ≤ 2 * r.ring.sysCycle) && windowsFit r.ring.windows roll.windows) = true) :
    let r := s.at_ (s.localOf T)
    let new := roll.found.filter fun d => !r.ring.serials.contains d.serial
    let ids := joinIds (idRecords (r.rd Od.RING_ID_TABLE)) r.ring.nodes new
    let missing := (new.filter fun d => d.role ≠ 0).length - ids.length
    let known := if r.isSource then ((new.filter fun d => d.role = 0).map (·.id)) ++ ids.map (·.2) else new.map (·.id)
    let r := if r.isSource then r.recordIds ids ((r.ring.noId + missing) % 2 ^ 32) missing else r
    let r' := (r.setRates roll.found.length).updRing fun x => { x with
      windows := x.windows ++ roll.windows, nodes := x.nodes ++ known, serials := x.serials ++ new.map (·.serial)
      upper := roll.upper, lower := roll.lower, branchIds := r.branchWords roll.lower, joins := [], maps := [], firsts := []
      rollCalls := (x.rollCalls + 1) % 2 ^ 32, ttVersion := (x.ttVersion + 1) % 2 ^ 32 }
    s.joinCommit T roll = r'.updRing fun x => { x with commitCycle := r'.cycleNo } := by
  intro r new ids missing known r₁ r'
  rw [State.joinCommit, if_neg (joinCommit_open hwaits)]
  exact if_neg (by rw [hfits]; decide)

theorem rollCommit_noCycle (hfull : roll.part = false ∨ s.ring.st ≠ .run)
    (hnone : let r := s.at_ (s.localOf T)
      sysCycleOf (r.rd Od.RING_SYS_CYCLE_MIN) (roll.dTrunk + roll.dBranchMax) (r.rd Od.RING_MGR_COMPUTE) roll.tc0 = none) :
    let r := s.at_ (s.localOf T)
    s.rollCommit T roll = if r.isSource then
      (r.updRing fun x => { x with rolling := some r.now }).raise Flt.RING_ROLL 0 else r := by
  have hwhole : ¬(roll.part && s.ring.st = .run) = true := by
    rcases hfull with hpart | hrun
    · simp [hpart]
    · simp [hrun]
  intro r
  rw [State.rollCommit, if_neg hwhole]
  simp only [hnone]
  rfl

end

theorem rollTimeout_begun {t : Nat} (h : s.ring.rolling = some t) :
    let r := s.at_ (t + secs 1)
    s.rollTimeout = ((r.updRing fun x => { x with rolling := some r.now }).raise Flt.RING_ROLL 0).send 9 0 2 0 [] := by
  unfold State.rollTimeout
  rw [h]
  rfl

/-! ### Cycles (R387, R426) -/

theorem systemCycle_runs (hcycle : s.ring.sysCycle ≠ 0) (hbase : s.tb.running = true) :
    let k := max (s.ring.cycle + 1) s.cycleNo
    let r := (s.at_ (s.localOf (k * s.sysCycleU))).updRing fun x => { x with cycle := k }
    let r := (r.noteTc1.ageFields.judgeHealth).mgrCycle k
    let r := if r.isSource then r else r.wkCycle
    s.systemCycle = (r.each (if r.domOn domLegs then List.range 32 else []) State.stringCycle).almAcks :=
  if_neg (by simp [hcycle, hbase])

theorem sumPeriod_bridge (h : s.isBridge = true) :
    let r := s.at_ (s.ring.sumAt + ms (s.rd Od.ALM_SUM_PERIOD))
    s.sumPeriod = (r.updRing fun x => { x with
      sumAt := r.now, sums := x.sums.map fun y => { y with changed := false } }).sendSums (r.ring.sums.filter (·.changed)) :=
  if_neg (by rw [h]; decide)

theorem ownRingCmd_source (h : s.isSource = true) :
    s.ownRingCmd = .ok ((s.updRing fun x => { x with rolling := some s.now }).send 9 0 2 0 []) := if_pos h

theorem ownRingCmd_other (h : s.isSource = false) : s.ownRingCmd = .error 0x010A := if_neg (by rw [h]; decide)

end

/-- Settles O44: each request comes to its owner, a roll call takes one of the four outcomes of `rollCommit`, and each cycle
is its defining equation. -/
theorem rollCallAlarmsAndSystemCycle : Obligations.RollCallAlarmsAndSystemCycle := by
  unfold Obligations.RollCallAlarmsAndSystemCycle
  refine ⟨fun q s hs => ?rollCall, fun q seq s hs => accepted_of_taken (execAlmAck_served q seq hs) rfl,
    fun q s hs hpath => exec_almRead hs hpath, fun apply roll s hr hpart hrun hwaits => ?join,
    fun apply roll s hr hfull => ?full, fun s t hr hroll => next_awake hr (rollTimeout_begun hroll),
    fun s hr hcycle hbase => next_awake hr (systemCycle_runs hcycle hbase),
    fun s hr hbridge => next_awake hr (sumPeriod_bridge hbridge)⟩
  case rollCall =>
    have hserved : exec (.rollCall q) s = _ := execRollCall_served q hs
    exact ⟨fun h => accepted_of_taken hserved (ownRingCmd_source h),
      fun h => refused_of_own hserved (ownRingCmd_other h) (by decide)⟩
  case join =>
    have hjoin := rollCommit_join (T := timeOf apply.toNat) hpart hrun
    exact ⟨fun htight => next_awake hr (congrArg (State.abortHandback · 2) (hjoin.trans (joinCommit_tight hwaits htight))),
      fun hfits => next_awake hr (congrArg (State.abortHandback · 2) (hjoin.trans (joinCommit_fits hwaits hfits)))⟩
  case full =>
    exact ⟨fun hnone => next_awake hr (congrArg (State.abortHandback · 2) (rollCommit_noCycle hfull hnone)),
      fun _ => next_awake hr rfl⟩

end Sys2Proof.Machine
end

section
/-! PROOFS of the statements about system time: TIME blocks, the servo, steps and the phase detector (R396 to R403, R409,
R411), and PTP, PPS, bells and TRIG pins (R405 to R408, R412 to R416). -/

namespace Sys2Proof.Machine

section
variable {s : State}

/-! ### TIME_BLOCK_TX (R399) -/

section
variable {n : Nat}

/-- What the next TIME block of an UP lane says, and what the lane keeps of it. -/
def State.timeTxAt (s : State) (n : Nat) : State := s.at_ ((s.lane n).upAt + ((s.lane n).timeTx + 1) * 13107200)
def State.timeTxCounted (s : State) (n : Nat) : State := (s.timeTxAt n).updLane n fun y => { y with timeTx := (s.lane n).timeTx + 1 }
def State.timeDeparture (s : State) (n : Nat) : Nat := (s.timeTxAt n).sysNow + (psQ (Config.txLat n)).toNat

/-- A block leaves through a scrambler in a free state (log entry 203). -/
def State.timeSent (r : State) (n p : Nat) : State :=
  let w := scramble (r.draw.1 % 2 ^ 58) p
  (r.draw.2.updLane n fun y => { y with scr := w.2 }).emit (.timeBlock n p w.1)

variable (hup : (s.lane n).st = .up)
include hup

theorem timeBlockTx_seconds (hturn : (s.lane n).timeTx % 16 = 15) : s.timeBlockTx n =
    (s.timeTxCounted n).timeSent n (0x5A + 2 * 2 ^ 8 + sysS (s.timeDeparture n) % 2 ^ 48 * 2 ^ 16) := by
  rw [State.timeBlockTx, if_neg (not_not.mpr hup)]
  exact if_pos hturn

theorem timeBlockTx_echo {seq arr : Nat} (hturn : (s.lane n).timeTx % 16 ≠ 15) (hodd : (s.lane n).timeTx % 2 = 1)
    (hstamp : (s.lane n).stampRx = some (seq, arr)) : s.timeBlockTx n =
    ((s.timeTxCounted n).updLane n fun y => { y with stampRx := none }).timeSent n
      (0x5A + 2 ^ 8 + seq * 2 ^ 10 + (s.timeDeparture n - arr) % 65536 * 2 ^ 18 +
        (s.timeDeparture n - arr) / 65536 % 2 ^ 30 * 2 ^ 34) := by
  rw [State.timeBlockTx, if_neg (not_not.mpr hup)]
  simp only [if_neg hturn, if_pos hodd, hstamp]
  rfl

theorem timeBlockTx_stamp (hturn : (s.lane n).timeTx % 16 ≠ 15)
    (hnone : (s.lane n).timeTx % 2 = 0 ∨ (s.lane n).stampRx = none) : s.timeBlockTx n =
    ((s.timeTxCounted n).updLane n fun y => { y with
      stampSeq := (y.stampSeq + 1) % 64, stampDep := some (y.stampSeq, s.timeDeparture n) }).timeSent n
      (stampWord (s.lane n).stampSeq (s.timeDeparture n)) := by
  have hecho : (if (s.lane n).timeTx % 2 = 1 then (s.lane n).stampRx else none) = none := by
    rcases hnone with heven | hempty
    · exact if_neg (by omega)
    · rw [hempty, ite_self]
  rw [State.timeBlockTx, if_neg (not_not.mpr hup)]
  simp only [if_neg hturn, hecho]
  rfl

end

/-! ### TIME blocks received (R400, R401) -/

section
variable {n p t : Nat} (hup : ((s.at_ t).lane n).st = .up)
include hup

theorem timeBlockRx_stamp (hmsg : bits p 9 8 = 0) :
    let r := s.at_ t
    let arr : Int := (r.sysAt t : Int) - psQ (Config.rxLat n)
    let dep : Int := (r.stampSeconds n (bits p 17 16) arr.toNat * sysSec + bits p 63 34 * 65536 + bits p 33 18 : Nat)
    let r := r.updLane n fun x => { x with
      stampRx := some (bits p 15 10, arr.toNat), stampAt := some r.now
      oSum := match x.d with | some d => x.oSum + (dep + d - arr) | none => x.oSum
      oN := if x.d.isSome then x.oN + 1 else x.oN }
    s.timeBlockRx n p t = r.updTb fun b => { b with ref := r.reference } := by
  intro r arr dep r'
  rw [State.timeBlockRx, if_neg (not_not.mpr hup)]
  exact if_pos hmsg

theorem timeBlockRx_echo {dep : Nat} (hmsg : bits p 9 8 = 1)
    (hlast : ((s.at_ t).lane n).stampDep = some (bits p 15 10, dep)) :
    let r := s.at_ t
    let arr : Int := (r.sysAt t : Int) - psQ (Config.rxLat n)
    let turn : Int := (bits p 63 34 * 65536 + bits p 33 18 : Nat)
    let d := ((arr - dep) - turn) / 2 + psQ (toSigned 32 (r.rd (Od.TM_ASYM n))) / 2
    s.timeBlockRx n p t = r.updLane n fun x => { x with d := some d, dSum := x.dSum + d, dN := x.dN + 1 } := by
  intro r arr turn d
  rw [State.timeBlockRx, if_neg (not_not.mpr hup)]
  simp only [hmsg, hlast, one_ne_zero, if_false, if_true]
  rfl

theorem timeBlockRx_seconds (hmsg : bits p 9 8 = 2) :
    s.timeBlockRx n p t = (s.at_ t).updLane n fun x => { x with secRx := some (bits p 63 16, (s.at_ t).now) } := by
  rw [State.timeBlockRx, if_neg (not_not.mpr hup)]
  simp only [hmsg, OfNat.ofNat_ne_zero, OfNat.ofNat_ne_one, if_false, if_true]

end

/-! ### The reference, the phase detector and TM_SET (R403, R409, R411) -/

theorem refLost_lane0 {t : Nat} (hsource : s.isSource = false) (h0 : (s.lane 0).stampAt = some t)
    (h1 : (s.lane 1).stampAt = none) : s.refLost = (s.at_ (t + ms 1 + 1)).seeSource := by
  simp only [State.refLost, List.foldl_cons, List.foldl_nil, h0, h1, hsource, Nat.zero_max, Nat.succ_ne_zero,
    decide_false, Bool.or_self, Bool.false_eq_true, if_false]

theorem ownTmSet_alone {v : Nat} (h : (s.ring.role = 0 && s.tmSrcAct = 0 && s.legsEnabled = 0) = true) :
    s.ownTmSet v = .ok (s.stepTo (timeOf v)) := if_pos h

theorem ownTmSet_bound {v : Nat} (h : (s.ring.role = 0 && s.tmSrcAct = 0 && s.legsEnabled = 0) = false) :
    s.ownTmSet v = .error 0x010A := if_neg (by rw [h]; decide)

end

/-- Settles O45: a TIME block takes the branch of its turn or of its MSG, and the servo, the phase detector and TM_SET are
their defining equations. -/
theorem timeBlocksServoAndSteps : Obligations.TimeBlocksServoAndSteps := by
  unfold Obligations.TimeBlocksServoAndSteps
  refine ⟨fun n s hr hup => ?tx, fun n b l t s hr hup => ?rx, fun s hr => next_awake hr rfl,
    fun s t hr hsource h0 h1 => next_awake hr (refLost_lane0 hsource h0 h1),
    fun t e steps lasts s hr => next_awake hr rfl, fun q v s hs hv => ?set⟩
  case tx =>
    exact ⟨fun hturn => next_awake hr (timeBlockTx_seconds hup hturn),
      fun seq arr hturn hodd hstamp => next_awake hr (timeBlockTx_echo hup hturn hodd hstamp),
      fun hturn hnone => next_awake hr (timeBlockTx_stamp hup hturn hnone)⟩
  case rx =>
    have hoff : (s.lane n.val).st ≠ .off := by
      rw [hup]
      decide
    have hline := rxLine_receives (before := b.toNat) (line := l.toNat) hoff
    have hup' := congrArg Lane.st
      (lane_updLane (f := fun x => { x with descr := (descramble b.toNat l.toNat).2 }) (lane_lt_of_not_off hoff))
    have hrun := congrArg (State.timeBlockRx · n.val (descramble b.toNat l.toNat).1 t) hline
    exact ⟨fun hmsg => next_awake hr (hrun.trans (timeBlockRx_stamp (hup'.trans hup) hmsg)),
      fun dep hmsg hlast => next_awake hr (hrun.trans
        (timeBlockRx_echo (s := s.updLane n.val _) (t := t) (hup'.trans hup) hmsg hlast)),
      fun hmsg => next_awake hr (hrun.trans (timeBlockRx_seconds (hup'.trans hup) hmsg))⟩
  case set =>
    have hserved : exec (.tmSet q v) s = _ := execTmSet_served q v hs (check_of_admits_row hv look_TM_SET)
    exact ⟨fun h => accepted_of_taken hserved (ownTmSet_alone h),
      fun h => refused_of_own hserved (ownTmSet_bound h) (by decide)⟩

/-! ### PTP and PPS_IN (R405 to R408) -/

section
variable {s : State}

section
variable {d : Nat} (hon : s.ptpOn d = true)
include hon

theorem ptpSync_on (o : Int) (delay : Nat) (logSync : Int) :
    let x := s.ptp d
    let lo := if x.agree = 0 then o else min x.lo o
    let hi := if x.agree = 0 then o else max x.hi o
    let agrees := decide (hi - lo ≤ nsQ (s.rd Od.TM_LOCK_TOL + 16))
    let k := if agrees then x.agree + 1 else 1
    s.ptpSync d o delay logSync = (s.updPtp d fun x => { x with
      heard := true, offset := o, delay := delay, logSync := logSync, lastSync := s.now
      agree := k, lo := if agrees then lo else o, hi := if agrees then hi else o
      usable := !x.arb && (x.usable || decide (16 ≤ k)), lost := x.lost && (x.arb || decide (k < 16)) }).seeSource :=
  if_neg (by rw [hon]; decide)

theorem ptpAnnounce_on (gm : List Byte) (arb : Bool) (steps : Nat) :
    let changed := (s.ptp d).heard && (s.ptp d).gm ≠ gm
    let r := s.updPtp d fun x => { x with heard := true, gm := gm, arb := arb, steps := steps }
    s.ptpAnnounce d gm arb steps = if arb || changed then r.ptpLose d else r := if_neg (by rw [hon]; decide)

theorem ptpLost_heard (hlost : (s.ptp d).lost = false) : s.ptpLost d =
    (((s.at_ ((s.ptp d).lastSync + ms (s.rd (Od.PTP_TMO d)))).updPtp d fun x => { x with
      lost := true, usable := false, agree := 0 }).raise Flt.TIME_PTP_LOST d).seeSource := by
  have hwas : ¬((s.at_ ((s.ptp d).lastSync + ms (s.rd (Od.PTP_TMO d)))).ptp d).lost = true := by
    rw [show ((s.at_ ((s.ptp d).lastSync + ms (s.rd (Od.PTP_TMO d)))).ptp d).lost = false from hlost]
    decide
  rw [State.ptpLost, if_pos (by rw [hon, hlost]; rfl)]
  exact congrArg State.seeSource (if_neg hwas)

end

theorem ppsEdge_accepted {t : Nat} {falling : Bool} (hon : (s.rd Od.TM_PPS_IN_CTRL).testBit 0 = true)
    (hedge : (s.rd Od.TM_PPS_IN_CTRL).testBit 1 = falling) :
    let r := s.at_ t
    let T := r.sysAt t
    s.ppsEdge t falling = (r.updTb fun x => { x with
      ppsLast := T, ppsAt := some t, ppsOff := ((T + sysSec / 2) / sysSec * sysSec : Nat) - (T : Int), ppsUsable := true }).seeSource :=
  if_pos (by simp [hon, hedge])

theorem ppsLost_seen {t : Nat} (h : s.tb.ppsAt = some t) :
    s.ppsLost = ((s.at_ (t + ms 1500)).updTb fun x => { x with ppsUsable := false, ppsAt := none }).seeSource := by
  unfold State.ppsLost
  rw [h]

/-! ### Bells (R412, R413, R416) -/

section
variable {b : Nat}

theorem ownBellCmd_arm (hidle : (s.bell b).st = .idle) (hahead : s.sysNow + sysUs 10 ≤ s.bellStart b) :
    s.ownBellCmd b 1 = .ok (s.updBell b fun _ => { st := .armed }) := by
  have hbad : ¬((s.bell b).st ≠ .idle || s.bellTooLate b) = true := by
    simp [State.bellTooLate, hidle, Nat.not_lt.mpr hahead]
  exact (if_pos rfl).trans (if_neg hbad)

theorem ownBellCmd_unarmed (hbad : (s.bell b).st ≠ .idle ∨ s.bellStart b < s.sysNow + sysUs 10) :
    s.ownBellCmd b 1 = .error 0x010A := by
  have hrefused : ((s.bell b).st ≠ .idle || s.bellTooLate b) = true := by
    by_cases hidle : (s.bell b).st = .idle
    · simp [State.bellTooLate, hidle, hbad.resolve_left (not_not.mpr hidle)]
    · simp [hidle]
  exact (if_pos rfl).trans (if_pos hrefused)

theorem ownBellCmd_stop : s.ownBellCmd b 2 =
    .ok ((if s.bellDueNow b then s.bellRing b else s).updBell b fun x => { x with st := .idle }) := if_neg (by decide)

section
variable (hst : (s.bell b).st ≠ .idle)
include hst

theorem bellRing_skips (hoff : s.pwmOff = true) : s.bellRing b =
    ((s.at_ (s.localOf (s.bellAt b (s.bell b).next))).updBell b fun x => { x with next := x.next + 1 }).updTb
      fun t => { t with bellSkips := (t.bellSkips + 1) % 2 ^ 32 } := (if_neg hst).trans (if_pos hoff)

theorem bellRing_rings (hon : s.pwmOff = false) :
    let r := (s.at_ (s.edge (s.localOf (s.bellAt b (s.bell b).next)))).updBell b fun x => { x with
      st := .ringing, rings := (x.rings + 1) % 2 ^ 64, next := x.next + 1 }
    s.bellRing b = ((r.bellTriggers b r.now).bellReleases b (s.bell b).rings).trigPulse b :=
  (if_neg hst).trans (if_neg (by rw [hon]; decide))

end

end

/-! ### TRIG pins (R414, R415) -/

theorem trigEdge_accepted {n t held : Nat} {rising : Bool} (hheld : 10 ≤ held)
    (hmode : s.rd (Od.TRIG_MODE n) = 3 ∨ s.rd (Od.TRIG_MODE n) = (if rising then 1 else 2)) :
    s.trigEdge n t rising held = (s.at_ t).updTrig n fun x => { x with
      last := (s.at_ t).sysAt t, count := (x.count + 1) % 2 ^ 32 } := by
  refine if_pos ?_
  have hmode' : (s.at_ t).rd (Od.TRIG_MODE n) = 3 ∨ (s.at_ t).rd (Od.TRIG_MODE n) = (if rising then 1 else 2) := hmode
  rcases hmode' with h | h <;> cases rising <;> simp_all

theorem pulseEnd_first {e : Nat} (h : (s.tb.ppsOut.toList ++ s.tb.trigs.filterMap (·.pulse)).min? = some e) :
    s.pulseEnd = (s.at_ e).updTb fun t => { t with
      ppsOut := if t.ppsOut = some e then none else t.ppsOut
      trigs := t.trigs.map fun x => { x with pulse := if x.pulse = some e then none else x.pulse } } := by
  unfold State.pulseEnd
  rw [h]

end

/-- Settles O46: each event takes the branch of the state that its source is in, and BELL_CMD comes to its owner. -/
theorem referencesBellsAndPinsFollowTime : Obligations.ReferencesBellsAndPinsFollowTime := by
  unfold Obligations.ReferencesBellsAndPinsFollowTime
  refine ⟨fun t d o delay logSync s hr hon => next_awake hr (ptpSync_on (s := s.at_ t) hon o delay.toNat logSync),
    fun t d gm arb steps s hr hon => next_awake hr (ptpAnnounce_on (s := s.at_ t) hon (leBytes 8 gm.toNat) arb steps.toNat),
    fun d s hr hon hlost => next_awake hr (ptpLost_heard hon hlost),
    fun t falling s hr hon hedge => next_awake hr (ppsEdge_accepted hon hedge),
    fun t s hr h => next_awake hr (ppsLost_seen h), fun q b s hs => ?bell, fun b s hr hst => ?ring,
    fun n t rising held s hr hheld hmode => next_awake hr (trigEdge_accepted hheld hmode),
    fun s hr => next_awake hr rfl, fun s e hr h => next_awake hr (pulseEnd_first h)⟩
  case bell =>
    have harm : exec (.bellArm q b) s = _ := execBellArm_served q b hs
    have hstop : exec (.bellStop q b) s = _ := execBellStop_served q b hs
    exact ⟨fun hidle hahead => accepted_of_taken harm (ownBellCmd_arm hidle hahead),
      fun hbad => refused_of_own harm (ownBellCmd_unarmed hbad) (by decide), accepted_of_taken hstop ownBellCmd_stop⟩
  case ring =>
    exact ⟨fun hoff => next_awake hr (bellRing_skips hst hoff), fun hon => next_awake hr (bellRing_rings hst hon)⟩

end Sys2Proof.Machine
end

section
/-! PROOFS of the statements about the managers: the hall pass and its handback (R425 to R429, R437 to R442), state
transfers, followers and the report card (R430 to R444). -/

namespace Sys2Proof.Machine

/-! ### Requests to a command entry that shows its status -/

section
variable {o : Host.Outcome State Fault Refusal} {r w : State} {a : Own} {refuse : State → State} {q : Req}
  {op idx sub typ abort : Nat}
  (h : o = .next (State.finish (r.doneCmd a refuse) (q.msg op idx sub []) typ))
include h

theorem accepted_of_cmd (ha : a = .ok w) : o = .next (w.accepted q op idx sub typ) := by
  subst ha
  exact h

/-- A refusal that is not one as busy shows in the status. -/
theorem refused_of_cmd (ha : a = .error abort) (hne : abort ≠ 0) (hbusy : abort ≠ abBusy) :
    o = .next ((refuse r).refusedWith q op idx sub abort) := by
  subst ha
  rw [h, show r.doneCmd (.error abort) refuse = (refuse r, abort) from congrArg (·, abort) (if_neg hbusy)]
  exact congrArg Host.Outcome.next (finish_refused hne)

theorem refused_of_busy (ha : a = .error abBusy) : o = .next (r.refusedWith q op idx sub 0x010B) := by
  subst ha
  exact h.trans (congrArg Host.Outcome.next (finish_refused (by decide)))

end

section
variable {s : State}

/-! ### Heartbeats (R425, R427) -/

/-- A heartbeat of the holder prevails: the same or a higher epoch, or none known. -/
def Mgr.yields (m : Mgr) (mst epoch src : Nat) : Prop :=
  mst % 16 = 3 ∧ (m.holder = 0xFFFF ∨ epochAbove epoch m.epoch = true ∨ (epoch = m.epoch ∧ src ≤ m.holder))

/-- What every heartbeat leaves: the top epoch and whether its sender is SYNCED. -/
def State.hears (s : State) (mst epoch src : Nat) : State :=
  s.updMgr fun m => { m with
    top := if s.mgr.top = 0 || epochAbove epoch s.mgr.top then epoch else s.mgr.top
    syncedNodes := if bit mst 5 then (if m.syncedNodes.contains src then m.syncedNodes else src :: m.syncedNodes)
      else m.syncedNodes.erase src }

/-- The model's test of a heartbeat is `Mgr.yields`. -/
theorem yields_iff (m : Mgr) (mst epoch src : Nat) :
    (decide (mst % 16 = 3) && (m.holder = 0xFFFF || epochAbove epoch m.epoch || (epoch = m.epoch && decide (src ≤ m.holder)))) = true ↔
      m.yields mst epoch src := by
  simp only [Mgr.yields, Bool.and_eq_true, Bool.or_eq_true, decide_eq_true_eq, or_assoc]

@[simp] theorem State.seeSource_ring : s.seeSource.ring = s.ring := by
  unfold State.seeSource
  dsimp only
  split
  · split <;> rfl
  · rfl

section
variable {src : Nat} {p : List Byte} (hrole : s.ring.role ≠ 0) (hst : s.mgr.st ≠ .active)
include hrole hst

theorem heartbeatRx_follower : s.heartbeatRx src p =
    let mst := leNat ((p.drop 1).take 1)
    let epoch := leNat ((p.drop 4).take 4)
    if (decide (mst % 16 = 3) && (s.mgr.holder = 0xFFFF || epochAbove epoch s.mgr.epoch || (epoch = s.mgr.epoch && decide (src ≤ s.mgr.holder))))
    then ((s.hears mst epoch src).updMgr fun m => { m with holder := src, epoch := epoch }).seeSource
    else s.hears mst epoch src := by
  unfold State.heartbeatRx
  extract_lets mst epoch cycle active m prevails top r kept r'
  have hkept : kept = r := if_neg (by simp [show r.mgr.st = s.mgr.st from rfl, hst])
  have hrole' : r'.ring.role ≠ 0 := by
    have hring : r'.ring = s.ring := by
      simp only [r', hkept]
      split
      · exact State.seeSource_ring
      · rfl
    rwa [hring]
  refine (if_neg (by simp [hrole'])).trans ?_
  simp only [r', hkept]
  rfl

end

/-! ### LISTENING and the pass (R428, R429, R439) -/

theorem listenExpiry_heard (hst : s.mgr.st = .listening) (hheard : s.mgr.holder ≠ 0xFFFF) :
    let r := (s.at_ (s.mgr.listenAt + ms (s.rd Od.MGR_LISTEN))).updMgr fun m => { m with st := .standby, synced := false, missed := 0 }
    s.listenExpiry = ((if r.mgr.unfit ≠ 0 then r.raise Flt.MGR_STANDBY_UNFIT 0 else r).startTransfer.seeGrade).seeSource := by
  intro r
  rw [State.listenExpiry, if_neg (not_not.mpr hst)]
  simp only [hheard, decide_false, Bool.false_and, Bool.false_eq_true, if_false, ne_eq, not_false_eq_true, if_true]
  rfl

theorem listenExpiry_silent (hst : s.mgr.st = .listening) (hsilent : s.mgr.holder = 0xFFFF) :
    let span := ms (s.rd Od.MGR_LISTEN)
    let r := s.at_ (s.mgr.listenAt + if s.myNode = 1 then 2 * span else span)
    let r := r.takePass (r.mgr.top + 1)
    s.listenExpiry = (r.updRing fun x => { x with rolling := some r.now }).send 9 0 2 0 [] := by
  intro span r r'
  rw [State.listenExpiry, if_neg (not_not.mpr hst)]
  simp only [hsilent, decide_true, Bool.true_and, decide_eq_true_eq, ne_eq, not_true_eq_false, if_false]
  rfl

theorem mgrTake_missed (hst : s.mgr.st = .standby) (hmissed : s.rd Od.MGR_LOSS_CYCLES ≤ s.mgr.missed) (hgrade : s.grade ≠ 2) :
    let r := (s.takePass (s.mgr.epoch + 1)).updMgr fun m => { m with switchovers := (m.switchovers + 1) % 2 ^ 32 }
    let r := (r.raise Flt.MGR_SWITCHOVER r.myNode).heartbeat
    s.mgrTake = if r.ring.committed then r else (r.updRing fun x => { x with rolling := some r.now }).send 9 0 2 0 [] :=
  if_pos (by simp [hst, hmissed, hgrade])

theorem reclaim_ready {t : Nat} (hready : s.mgr.readySince = some t) (hst : s.mgr.st = .standby) (hnode : s.myNode = 0)
    (hon : (s.rd Od.MGR_RECLAIM).testBit 0 = true) (hnew : s.mgr.requested = false) :
    s.reclaim = ((s.at_ (t + ms (s.rd Od.MGR_RECLAIM_HOLD))).updMgr fun m => { m with requested := true }).tellPeer 4 [] := by
  unfold State.reclaim
  rw [hready]
  exact if_pos (by simp [hst, hnode, hon, hnew])

/-! ### Handback (R439 to R442) -/

theorem handbackReq_synced (hst : s.mgr.st = .active) (hpeer : s.mgr.peerSynced = true) (hsnap : s.mgr.snap = none)
    (hnone : s.mgr.handback = none) :
    s.handbackReq = (s.updMgr fun m => { m with handback := some ⟨false, s.cycleNo + s.rd Od.MGR_OVERLAP, s.cycleNo⟩ }).tellPeer 5
      (leBytes 8 (s.cycleNo + s.rd Od.MGR_OVERLAP)) := if_pos (by simp [hst, hpeer, hsnap, hnone])

theorem handbackAccept_standby {kh : Nat} (hst : s.mgr.st = .standby) :
    s.handbackAccept kh = s.updMgr fun m => { m with handback := some ⟨true, kh, s.cycleNo⟩, sending := true } := if_pos hst

theorem handbackAbort_begun {reason : Nat} (hbegun : s.mgr.handback ≠ none) :
    s.handbackAbort reason = (s.updMgr fun m => { m with
      handback := none, sending := false, requested := false, readySince := m.readySince.map fun _ => s.now
      cmdSt := if m.cmdSt = .pending then .refused else m.cmdSt }).raise Flt.MGR_HANDBACK_ABORT reason :=
  if_pos (Option.isSome_iff_ne_none.mpr hbegun)

section
variable {kh began : Nat}

theorem handbackSwitch_receiver (h : s.mgr.handback = some ⟨true, kh, began⟩) :
    let r := s.at_ (s.localOf (kh * s.sysCycleU))
    s.handbackSwitch = (r.takePass (r.mgr.epoch + 1)).updMgr fun m => { m with
      handbacks := (m.handbacks + 1) % 2 ^ 32, cmdSt := if m.cmdSt = .pending then .done else m.cmdSt } := by
  unfold State.handbackSwitch
  rw [h]
  rfl

theorem handbackSwitch_holder (h : s.mgr.handback = some ⟨false, kh, began⟩) :
    let r := s.at_ (s.localOf (kh * s.sysCycleU))
    s.handbackSwitch = (State.toStandby (r.updMgr fun m => { m with
      holder := r.otherNode, epoch := (m.epoch + 1) % 2 ^ 32, handback := none, sending := true
      overlapTo := some (kh + r.rd Od.MGR_OVERLAP - 1)
      handbacks := (m.handbacks + 1) % 2 ^ 32, cmdSt := if m.cmdSt = .pending then .done else m.cmdSt })).seeSource := by
  unfold State.handbackSwitch
  rw [h]
  rfl

end

theorem overlapEnd_sending {k : Nat} (h : s.mgr.overlapTo = some k) :
    s.overlapEnd = (s.at_ (s.localOf ((k + 1) * s.sysCycleU))).updMgr fun m => { m with overlapTo := none, sending := false } := by
  unfold State.overlapEnd
  rw [h]

/-- A standby that may ask for the pass, and a holder that may give it. -/
def State.asks (s : State) : Bool := s.mgr.st = .standby && s.grade = 0 && s.mgr.synced
def State.gives (s : State) : Bool :=
  s.mgr.st = .active && s.mgr.peerSynced && leNat (s.mgr.peerCard.take 1) = 0 && s.mgr.handback.isNone

theorem ownMgrCmd_asks (h : s.asks = true) : s.ownMgrCmd 1 =
    .ok ((s.updMgr fun m => { m with requested := true, cmdSt := .pending }).tellPeer 4 []) := (if_pos rfl).trans (if_pos h)

theorem ownMgrCmd_gives (hasks : s.asks = false) (h : s.gives = true) : s.ownMgrCmd 1 =
    .ok ((s.updMgr fun m => { m with cmdSt := .pending }).acceptHandback) :=
  (if_pos rfl).trans ((if_neg (Bool.not_eq_true _ ▸ hasks)).trans (if_pos h))

theorem ownMgrCmd_neither (hasks : s.asks = false) (h : s.gives = false) : s.ownMgrCmd 1 = .error 0x010A :=
  (if_pos rfl).trans ((if_neg (Bool.not_eq_true _ ▸ hasks)).trans (if_neg (Bool.not_eq_true _ ▸ h)))

end

/-- Settles O47: a heartbeat is judged by `yields_iff`, each event of the pass takes the branch of the manager's state, and
HANDBACK comes to the owner of MGR_CMD. -/
theorem hallPassIsTakenHandedBackAndYielded : Obligations.HallPassIsTakenHandedBackAndYielded := by
  unfold Obligations.HallPassIsTakenHandedBackAndYielded
  refine ⟨fun t src p s hr hrole hst => ?heartbeat, fun s hr hst => ?listen,
    fun s hr hst hmissed hgrade => next_awake hr (mgrTake_missed hst hmissed hgrade),
    fun s t hr hready hst hnode hon hnew => next_awake hr (reclaim_ready hready hst hnode hon hnew),
    fun t kh reason s hr => ?handback, fun s kh began hr => ?switch, fun s k hr h => next_awake hr (overlapEnd_sending h),
    fun q s hs => ?command⟩
  case heartbeat =>
    intro r mst epoch prevails r'
    have hrx := heartbeatRx_follower (s := s.at_ t) (src := src.val) (p := p) hrole hst
    have hiff := yields_iff r.mgr mst epoch src.val
    exact ⟨fun h => next_awake hr (hrx.trans (if_pos (hiff.mpr h))),
      fun h => next_awake hr (hrx.trans (if_neg (mt hiff.mp h)))⟩
  case listen =>
    exact ⟨fun hheard => next_awake hr (listenExpiry_heard hst hheard), fun h => next_awake hr (listenExpiry_silent hst h)⟩
  case handback =>
    exact ⟨fun hst hpeer hsnap hnone => next_awake hr (handbackReq_synced (s := s.at_ t) hst hpeer hsnap hnone),
      fun hst => next_awake hr (handbackAccept_standby (s := s.at_ t) hst),
      fun hbegun => next_awake hr (handbackAbort_begun (s := s.at_ t) hbegun)⟩
  case switch =>
    exact ⟨fun h => next_awake hr (handbackSwitch_receiver h), fun h => next_awake hr (handbackSwitch_holder h)⟩
  case command =>
    have hserved : exec (.mgrHandback q) s = _ := execMgrHandback_served q hs
    exact ⟨fun hasks => accepted_of_cmd hserved (ownMgrCmd_asks hasks),
      fun hasks hgives => accepted_of_cmd hserved (ownMgrCmd_gives hasks hgives),
      fun hasks hgives => refused_of_cmd hserved (ownMgrCmd_neither hasks hgives) (by decide) (by decide)⟩

/-! ### State transfers (R433, R444) -/

section
variable {s : State}

theorem transferReq_active (hst : s.mgr.st = .active) : s.transferReq = s.updMgr fun m => { m with snapReq := true } := if_pos hst

section
variable {ks ofs total : Nat} {chunk : List Byte} {x : Transfer} (hx : s.mgr.transfer = some x)
include hx

/-- The chunks held once another has come. -/
def Transfer.join (x : Transfer) (ks ofs : Nat) (chunk : List Byte) : List (Nat × List Byte) :=
  (ofs, chunk) :: (if x.ks = some ks then x.data.filter fun d => d.1 ≠ ofs else [])

theorem stateRx_part (h : ((x.join ks ofs chunk).map fun d => d.2.length).sum < total) :
    s.stateRx ks ofs total chunk =
      s.updMgr fun m => { m with transfer := some { x with ks := some ks, data := x.join ks ofs chunk, total := total } } := by
  unfold State.stateRx
  rw [hx]
  exact if_pos h

theorem stateRx_whole (h : total ≤ ((x.join ks ofs chunk).map fun d => d.2.length).sum) :
    let r := s.loadSnap ((sortBy (·.1) (x.join ks ofs chunk)).flatMap (·.2))
    let r := r.each (r.mgr.log.filter fun e => decide (ks ≤ e.1)) fun r e => r.each e.2 fun r y => r.catchUp y.1 y.2
    s.stateRx ks ofs total chunk = r.updMgr fun m => { m with
      transfer := none, log := [], loaded := true, cmdSt := if m.cmdSt = .pending then .done else m.cmdSt } := by
  intro r r'
  unfold State.stateRx
  rw [hx]
  exact if_neg (Nat.not_lt.mpr h)

theorem transferTimeout_begun :
    let r := s.at_ (s.localOf ((x.start + 8) * s.sysCycleU))
    s.transferTimeout = (r.updMgr fun m => { m with
      transfer := some ⟨r.cycleNo, none, [], 0⟩, loaded := false, log := [] }).tellPeer 2 [] := by
  unfold State.transferTimeout
  rw [hx]
  rfl

end

theorem ownMgrCmd_transfer (hst : s.mgr.st = .standby) :
    s.ownMgrCmd 2 = .ok (s.updMgr fun m => { m with cmdSt := .pending }).startTransfer := (if_neg (by decide)).trans (if_pos hst)

theorem ownMgrCmd_noTransfer (hst : s.mgr.st ≠ .standby) : s.ownMgrCmd 2 = .error 0x010A :=
  (if_neg (by decide)).trans (if_neg hst)

/-! ### Followers and the report card (R434, R436) -/

theorem wkHold_following (hsource : s.isSource = false) (hwk : s.mgr.wk = .following) (hcycle : s.ring.sysCycle ≠ 0) :
    s.wkHold = ((s.at_ (s.mgr.wkAt + 2 * ns s.ring.sysCycle)).updMgr fun m => { m with wk := .holding }).raise Flt.WK_HOLD 0 :=
  if_neg (by simp [hsource, hwk, hcycle])

theorem wkDroop_due (hsource : s.isSource = false) (hwk : s.mgr.wk ≠ .droop) :
    s.wkDroop = ((s.at_ (s.mgr.wkAt + ms (s.rd Od.WK_T_HOLD))).updMgr fun m => { m with
      wk := .droop, droops := (m.droops + 1) % 2 ^ 32 }).raise Flt.WK_DROOP 0 := if_neg (by simp [hsource, hwk])

/-- The model's test of a round under way. -/
theorem rcRound_under_way_iff (m : Mgr) : (m.rcLeft ≠ [] || m.rcRun) = true ↔ ¬(m.rcLeft = [] ∧ m.rcRun = false) := by
  simp only [Bool.or_eq_true, decide_eq_true_eq, not_and, ne_eq, Bool.not_eq_false, or_iff_not_imp_left, not_not]

theorem rcTick_standby {idle : Nat} (hst : s.mgr.st = .standby) :
    let r := State.seeGrade (if s.mgr.scrubAt + secs 60 ≤ s.now then
      s.updMgr fun m => { m with scrubAt := s.now, scrubLast := sysS s.sysNow % 2 ^ 32 } else s)
    s.rcTick idle = if r.mgr.rcLeft = [] ∧ r.mgr.rcRun = false then
      (r.updMgr fun m => { m with rcLeft := [1, 2, 3, 6] }).rcStart (some idle) else r := by
  intro r
  refine (if_neg (not_not.mpr hst)).trans ?_
  by_cases hfree : r.mgr.rcLeft = [] ∧ r.mgr.rcRun = false
  · exact (if_neg (mt (rcRound_under_way_iff _).mp (not_not.mpr hfree))).trans (if_pos hfree).symm
  · exact (if_pos ((rcRound_under_way_iff _).mpr hfree)).trans (if_neg hfree).symm

end

/-- Settles O48: a chunk joins the transfer or completes it, TRANSFER comes to the owner of MGR_CMD, and each timer takes
the branch of the device's state. -/
theorem transfersFollowersAndReportCard : Obligations.TransfersFollowersAndReportCard := by
  unfold Obligations.TransfersFollowersAndReportCard
  refine ⟨fun t s hr hst => next_awake hr (transferReq_active (s := s.at_ t) hst),
    fun t ks ofs total chunk x s hr hx => ⟨fun h => next_awake hr (stateRx_part (s := s.at_ t) hx h),
      fun h => next_awake hr (stateRx_whole (s := s.at_ t) hx h)⟩,
    fun s x hr hx => next_awake hr (transferTimeout_begun hx), fun q s hs => ?command,
    fun s hr hsource => ⟨fun hwk hcycle => next_awake hr (wkHold_following hsource hwk hcycle),
      fun hwk => next_awake hr (wkDroop_due hsource hwk)⟩,
    fun t idle s hr hst => next_awake hr (rcTick_standby (s := s.at_ t) hst)⟩
  case command =>
    have hserved : exec (.mgrTransfer q) s = _ := execMgrTransfer_served q hs
    exact ⟨fun hst => accepted_of_cmd hserved (ownMgrCmd_transfer hst),
      fun hst => refused_of_cmd hserved (ownMgrCmd_noTransfer hst) (by decide) (by decide)⟩

end Sys2Proof.Machine
end

section
/-! PROOFS of the statements about the access paths: entries read and written in segments (R456 to R460), and requests
forwarded, stalled and timed out, the SPI port, CAN FD, Ethernet and trace signals (R463 to R473, R498). -/

namespace Sys2Proof.Machine

/-- The message of a READ_SEG. -/
def readSegMsg (q : Req) (idx : BitVec 16) (sub : BitVec 8) (snap : Bool) (offset : BitVec 32) (len : BitVec 16) : Msg :=
  ⟨q, 4, idx.toNat, sub.toNat, false, false, snap, offset.toNat, len.toNat, []⟩

/-! ### READ, DESCRIBE and READ_SEG (R456, R458, R459) -/

section
variable {s y : State} {m : Msg} {row : OdRow} {v : List Byte}

section
variable (hentry : s.readEntry row m.idx m.sub = .ok (v, y))
include hentry

theorem doRead_fits (hfits : (if m.len = 0 then v else v.take m.len).length ≤ pathLimit m.req.path) :
    s.doRead m row = y.answer m
      { typ := s.typeOf row m.idx m.sub, total := v.length, data := if m.len = 0 then v else v.take m.len } := by
  unfold State.doRead
  rw [hentry]
  exact if_neg (Nat.not_lt.mpr hfits)

theorem doRead_tooLong (hlong : pathLimit m.req.path < (if m.len = 0 then v else v.take m.len).length) :
    s.doRead m row = s.answer m (.refuse 0x0109) := by
  unfold State.doRead
  rw [hentry]
  exact if_pos hlong

theorem doReadSeg_direct (hsnap : m.snap = false)
    (hnone : s.acc.snaps.find? (fun x => m.owns x.path x.who x.idx x.sub) = none) :
    s.doReadSeg m row = y.answer m
      { typ := s.typeOf row m.idx m.sub, total := v.length, data := cut v m.offset m.len (pathLimit m.req.path) } := by
  rw [State.doReadSeg, if_neg (by simp [hsnap]), hnone, hentry]

section
variable (hsnap : m.snap = true) (hofs : m.offset = 0)
include hsnap hofs

theorem doReadSeg_huge (hlong : 65536 < v.length) : s.doReadSeg m row = s.answer m (.refuse 0x0109) := by
  rw [State.doReadSeg, if_pos (by simp [hsnap, hofs]), hentry]
  exact if_pos hlong

variable (hfits : v.length ≤ 65536)
include hfits

theorem doReadSeg_noBuffer (hfull : 4 ≤ (s.acc.snaps.filter fun x => !m.owns x.path x.who x.idx x.sub).length) :
    s.doReadSeg m row = s.answer m (.refuse 0x010B) := by
  rw [State.doReadSeg, if_pos (by simp [hsnap, hofs]), hentry]
  exact (if_neg (Nat.not_lt.mpr hfits)).trans (if_pos hfull)

theorem doReadSeg_snaps (hroom : (s.acc.snaps.filter fun x => !m.owns x.path x.who x.idx x.sub).length < 4) :
    let rest := s.acc.snaps.filter fun x => !m.owns x.path x.who x.idx x.sub
    let buf := y.updAcc fun a => { a with snaps := ⟨m.req.path, m.req.who, m.idx, m.sub, v, y.now⟩ :: rest }
    s.doReadSeg m row = buf.serveSnap m (buf.typeOf row m.idx m.sub) v := by
  rw [State.doReadSeg, if_pos (by simp [hsnap, hofs]), hentry]
  exact (if_neg (Nat.not_lt.mpr hfits)).trans (if_neg (Nat.not_le.mpr hroom))

end

end

theorem doRead_error {a : Nat} (hentry : s.readEntry row m.idx m.sub = .error a) :
    s.doRead m row = s.answer m (.refuse a) := by
  unfold State.doRead
  rw [hentry]

theorem doReadSeg_held {x : Snapshot} (hsnap : m.snap = false)
    (hfound : s.acc.snaps.find? (fun x => m.owns x.path x.who x.idx x.sub) = some x) :
    s.doReadSeg m row = s.serveSnap m (s.typeOf row m.idx m.sub) x.data := by
  rw [State.doReadSeg, if_neg (by simp [hsnap]), hfound]

/-- The segment that reaches the end of a value releases its buffer; one before it keeps the buffer for another second. -/
theorem serveSnap_ends {typ : Nat} (hend : v.length ≤ m.offset + (cut v m.offset m.len (pathLimit m.req.path)).length) :
    s.serveSnap m typ v = (s.updAcc fun a => { a with
      snaps := a.snaps.filter fun x => !m.owns x.path x.who x.idx x.sub }).answer m
        { typ := typ, total := v.length, data := cut v m.offset m.len (pathLimit m.req.path) } := by
  rw [State.serveSnap, decide_eq_true hend]
  rfl

theorem serveSnap_continues {typ : Nat} (hmore : m.offset + (cut v m.offset m.len (pathLimit m.req.path)).length < v.length) :
    s.serveSnap m typ v = (s.updAcc fun a => { a with
      snaps := a.snaps.map fun x => if m.owns x.path x.who x.idx x.sub then { x with at_ := s.now } else x }).answer m
        { typ := typ, total := v.length, data := cut v m.offset m.len (pathLimit m.req.path) } := by
  rw [State.serveSnap, decide_eq_false (Nat.not_le.mpr hmore)]
  rfl

end

/-! ### WRITE_SEG and ABORT_SEG (R457) -/

section
variable {s : State} {m : Msg} {row : OdRow}

/-- The bytes of a transfer so far are held, or the whole value is written. -/
def State.segHold (s : State) (m : Msg) (data : List Byte) (typ : Nat) : State :=
  ((s.endSeg m.idx m.sub).updAcc fun a => { a with
    segs := ⟨m.req.path, m.req.who, m.idx, m.sub, data, (s.endSeg m.idx m.sub).now⟩ :: a.segs }).answer m { typ := typ }
def State.segWrite (s : State) (m : Msg) (row : OdRow) (data : List Byte) (typ : Nat) : State :=
  State.finish ((s.endSeg m.idx m.sub).writeEntry row m.idx m.sub data) m typ

/-- FW_IMAGE erases its slot at the first segment (R525). -/
def State.segOpened (s : State) (m : Msg) (row : OdRow) : State :=
  if row.base = 0x1B00 ∧ m.sub = 0x10 then s.fwErase else s

theorem doWriteSeg_readOnly (h : row.acc = .ro ∨ row.acc = .const) :
    s.doWriteSeg m row = s.answer m (.refuse 0x0103) := if_pos (by simpa using h)

section
variable (hro : row.acc ≠ .ro) (hconst : row.acc ≠ .const)
include hro hconst

theorem doWriteSeg_tooLong (hlong : pathLimit m.req.path < m.data.length) :
    s.doWriteSeg m row = s.answer m (.refuse 0x0109) := by
  rw [State.doWriteSeg, if_neg (by simp [hro, hconst])]
  exact if_pos hlong

variable (hfits : m.data.length ≤ pathLimit m.req.path)
include hfits

section
variable (hnone : s.segOpen m.idx m.sub = none)
include hnone

theorem doWriteSeg_outOfOrder (h : m.first = false ∨ m.offset ≠ 0) :
    s.doWriteSeg m row = s.answer m (.refuse 0x010C) := by
  rw [State.doWriteSeg, if_neg (by simp [hro, hconst]), if_neg (Nat.not_lt.mpr hfits), hnone]
  exact if_pos (by simpa using h)

theorem doWriteSeg_opens (hfirst : m.first = true) (hofs : m.offset = 0) : s.doWriteSeg m row =
    if m.last then (s.segOpened m row).segWrite m row m.data (s.typeOf row m.idx m.sub)
    else (s.segOpened m row).segHold m m.data (s.typeOf row m.idx m.sub) := by
  have herase : (if (row.base = 0x1B00 && m.sub = 0x10) = true then s.fwErase else s) = s.segOpened m row := by
    simp only [State.segOpened, Bool.and_eq_true, decide_eq_true_eq]
  rw [State.doWriteSeg, if_neg (by simp [hro, hconst]), if_neg (Nat.not_lt.mpr hfits), hnone]
  refine (if_neg (by simp [hfirst, hofs])).trans ?_
  rw [herase]
  rfl

end

section
variable {x : SegXfer} (hopen : s.segOpen m.idx m.sub = some x)
include hopen

theorem doWriteSeg_other (hmine : m.owns x.path x.who x.idx x.sub = false) :
    s.doWriteSeg m row = s.answer m (.refuse (if m.first then 0x010B else 0x010C)) := by
  rw [State.doWriteSeg, if_neg (by simp [hro, hconst]), if_neg (Nat.not_lt.mpr hfits), hopen]
  exact if_pos (by simp [hmine])

variable (hmine : m.owns x.path x.who x.idx x.sub = true) (hfirst : m.first = false)
include hmine hfirst

theorem doWriteSeg_continues (hofs : m.offset = x.data.length) : s.doWriteSeg m row =
    if m.last then s.segWrite m row (x.data ++ m.data) (s.typeOf row m.idx m.sub)
    else s.segHold m (x.data ++ m.data) (s.typeOf row m.idx m.sub) := by
  rw [State.doWriteSeg, if_neg (by simp [hro, hconst]), if_neg (Nat.not_lt.mpr hfits), hopen]
  exact (if_neg (by simp [hmine])).trans ((if_neg (by simp [hfirst])).trans (if_neg (by simp [hfirst, hofs])))

theorem doWriteSeg_misplaced (hofs : m.offset ≠ x.data.length) :
    s.doWriteSeg m row = (s.endSeg m.idx m.sub).answer m (.refuse 0x010C) := by
  rw [State.doWriteSeg, if_neg (by simp [hro, hconst]), if_neg (Nat.not_lt.mpr hfits), hopen]
  exact (if_neg (by simp [hmine])).trans ((if_neg (by simp [hfirst])).trans (if_pos (by simp [hofs])))

end

end

theorem doAbort_closed (hnone : s.segOpen m.idx m.sub = none) : s.doAbort m = s.answer m (.refuse 0x010A) := by
  unfold State.doAbort
  rw [hnone]
  rfl

section
variable {x : SegXfer} (hopen : s.segOpen m.idx m.sub = some x)
include hopen

theorem doAbort_own (hmine : m.owns x.path x.who x.idx x.sub = true) :
    s.doAbort m = (s.endSeg m.idx m.sub).answer m {} := by
  unfold State.doAbort
  rw [hopen]
  exact if_pos hmine

theorem doAbort_other (hmine : m.owns x.path x.who x.idx x.sub = false) : s.doAbort m = s.answer m (.refuse 0x010A) := by
  unfold State.doAbort
  rw [hopen]
  exact if_neg (by rw [hmine]; decide)

end

end

/-! ### What brings a request to its entry (R462) -/

section
variable {s : State} {m : Msg} {row : OdRow}

/-- A request that the device would serve but for the transfers that are open reaches its entry all the same. -/
theorem takeReq_open (h : (s.updAcc fun a => { a with segs := [] }).serves m.req m.idx m.sub = true) (hop : 0 < m.op)
    (hop' : m.op ≤ 7) : (s.upTo m.req.t).takeReq m = (s.upTo m.req.t).serveHere m := by
  obtain ⟨-, hproto, hqueue, htimed, hnode, hstalled, -, -⟩ := serves_iff.mp h
  have hqueue' : (s.upTo m.req.t).queueFull m.req = false := (queueFull_upTo ..).trans hqueue
  have htimed' : (s.upTo m.req.t).acc.timedOut.contains (m.req.path, m.req.who) = false := by rw [State.upTo_acc]; exact htimed
  have hfind : ((s.upTo m.req.t).acc.stalled.find? fun x => x.2.req.path = m.req.path && x.2.req.who = m.req.who) = none := by
    rw [State.upTo_acc]
    exact List.find?_eq_none.mpr fun x hx => List.any_eq_false.mp hstalled x hx
  have hhere : m.req.isLocal = true ∨ m.req.node = (s.upTo m.req.t).ring.nodeId := by rw [State.upTo_ring]; exact hnode
  have hknown : ¬(m.op = 0 ∨ m.op > 7) := by omega
  unfold State.takeReq
  simp only [hproto, hqueue', htimed', hfind]
  rcases hhere with hhere | hhere <;> simp [hhere, hknown]

theorem serveHere_on (hop : m.op ≠ 7) (hl : Od.lookup m.idx m.sub = .ok row) (hon : s.domOn (domainOf m.idx m.sub) = true) :
    s.serveHere m = s.serveAt m row := by
  unfold State.serveHere
  simp only [if_neg hop, hl, hon, if_true]

theorem request_takeReq (hpath : s.pathOpen m.req.path = true) (hi : m.idx ≠ 0x1C00) (hj : m.idx ≠ 0x1A00) :
    s.request m = (s.upTo m.req.t).takeReq m := by
  rw [State.request, if_neg (by rw [hpath]; decide), State.takeAll]
  exact if_neg (by simp [hi, hj])

theorem request_open (h : (s.updAcc fun a => { a with segs := [] }).serves m.req m.idx m.sub = true) (hop : 0 < m.op)
    (hop' : m.op < 7) (hl : Od.lookup m.idx m.sub = .ok row) (hi : m.idx ≠ 0x1C00) (hj : m.idx ≠ 0x1A00) :
    s.request m = (s.upTo m.req.t).serveAt m row := by
  obtain ⟨hpath, -, -, -, -, -, hon, -⟩ := serves_iff.mp h
  have hon' : (s.upTo m.req.t).domOn (domainOf m.idx m.sub) = true := (domOn_upTo ..).trans hon
  rw [request_takeReq (s := s) hpath hi hj, takeReq_open h hop (Nat.le_of_lt hop'), serveHere_on (by omega) hl hon']

/-- A request that is served is served with the open transfers left out of account, as none is on its entry. -/
theorem serves_shut {q : Req} {idx sub : Nat} (h : s.serves q idx sub = true) :
    (s.updAcc fun a => { a with segs := [] }).serves q idx sub = true := by
  obtain ⟨hpath, hproto, hqueue, htimed, hnode, hstalled, hon, -⟩ := serves_iff.mp h
  exact serves_iff.mpr ⟨hpath, hproto, hqueue, htimed, hnode, hstalled, hon, rfl⟩

end

/-- Settles O56: a served request reaches `serveAt` with its message, and each operation takes the branch of what is open on
its entry. -/
theorem entryReadsAndSegmentsAreServed : Obligations.EntryReadsAndSegmentsAreServed := by
  unfold Obligations.EntryReadsAndSegmentsAreServed
  refine ⟨fun q idx sub offset len row s hs hl hi hj => ?whole, fun q idx sub offset d row s x => ?opened,
    fun q len s hs => ?hello⟩
  case whole =>
    have hseg := seg_upTo hs q.t
    have run : ∀ m : Msg, m.req = q → m.idx = idx.toNat → m.sub = sub.toNat → 0 < m.op → m.op < 7 →
        Host.Outcome.next (s.request m) = (.next ((s.upTo q.t).serveAt m row) : Host.Outcome State Fault Refusal) := by
      rintro m rfl hidx hsub hop hop'
      rw [request_open (row := row) (by rw [hidx, hsub]; exact serves_shut hs) hop hop' (by rw [hidx, hsub]; exact hl)
        (by rw [hidx]; exact hi) (by rw [hidx]; exact hj)]
    have hread : exec (.odRead q idx sub len) s = _ := run _ rfl rfl rfl Nat.one_pos (show 1 < 7 by decide)
    have hdescribe : exec (.describe q idx sub offset len) s = _ :=
      run _ rfl rfl rfl (show 0 < 3 by decide) (show 3 < 7 by decide)
    have hreadSeg (snap : Bool) : exec (.readSeg q idx sub snap offset len) s = _ :=
      run _ rfl rfl rfl (show 0 < 4 by decide) (show 4 < 7 by decide)
    have habort : exec (.abortSeg q idx sub) s = _ := run _ rfl rfl rfl (show 0 < 6 by decide) (show 6 < 7 by decide)
    have hwriteSeg (first last : Bool) (d : List Byte) : exec (.writeSeg q idx sub first last offset d) s = _ :=
      run _ rfl rfl rfl (show 0 < 5 by decide) (show 5 < 7 by decide)
    refine ⟨fun v y hentry => ⟨fun hfits => ?_, fun hlong => ?_⟩, fun a hentry => ?_, ?_, fun v y hnone hentry => ?_,
      fun v y hofs hentry => ⟨fun hlong => ?_, fun hfits hfull => ?_, fun hfits hroom => ?_⟩,
      fun x hfound => ⟨fun hend => ?_, fun hmore => ?_⟩, ?_, fun first last d => ?write⟩
    · exact hread.trans (congrArg _ (doRead_fits hentry hfits))
    · exact hread.trans (congrArg _ (doRead_tooLong hentry hlong))
    · exact hread.trans (congrArg _ (doRead_error hentry))
    · exact hdescribe
    · exact (hreadSeg false).trans (congrArg _
        (doReadSeg_direct (m := readSegMsg q idx sub false offset len) hentry rfl hnone))
    · exact (hreadSeg true).trans (congrArg _
        (doReadSeg_huge (m := readSegMsg q idx sub true offset len) hentry rfl hofs hlong))
    · exact (hreadSeg true).trans (congrArg _
        (doReadSeg_noBuffer (m := readSegMsg q idx sub true offset len) hentry rfl hofs hfits hfull))
    · exact (hreadSeg true).trans (congrArg _
        (doReadSeg_snaps (m := readSegMsg q idx sub true offset len) hentry rfl hofs hfits hroom))
    · exact (hreadSeg false).trans (congrArg _
        ((doReadSeg_held (m := readSegMsg q idx sub false offset len) rfl hfound).trans
          (serveSnap_ends (m := readSegMsg q idx sub false offset len) hend)))
    · exact (hreadSeg false).trans (congrArg _
        ((doReadSeg_held (m := readSegMsg q idx sub false offset len) rfl hfound).trans
          (serveSnap_continues (m := readSegMsg q idx sub false offset len) hmore)))
    · exact habort.trans (congrArg _ (doAbort_closed hseg))
    case write =>
      have hrun := hwriteSeg first last d
      refine ⟨fun hro => hrun.trans (congrArg _ (doWriteSeg_readOnly hro)), fun hro hconst =>
        ⟨fun hlong => hrun.trans (congrArg _ (doWriteSeg_tooLong hro hconst hlong)),
        fun hfits hplace => hrun.trans (congrArg _ (doWriteSeg_outOfOrder hro hconst hfits hseg hplace)),
        fun hfits hfirst hofs hlast => hrun.trans (congrArg _ ((doWriteSeg_opens hro hconst hfits hseg hfirst hofs).trans
          (if_neg (Bool.not_eq_true _ ▸ hlast)))),
        fun hfits hfirst hofs hlast => hrun.trans (congrArg _ ((doWriteSeg_opens hro hconst hfits hseg hfirst hofs).trans
          (if_pos hlast)))⟩⟩
  case opened =>
    intro i u r shut mine hs hopen hl hi hj hro hconst hfits
    have hopen' : r.segOpen i u = some x := (segOpen_upTo ..).trans hopen
    have habort : exec (.abortSeg q idx sub) s = _ := congrArg Host.Outcome.next
      (request_open (m := q.msg 6 i u []) (row := row) hs (show 0 < 6 by decide) (show 6 < 7 by decide) hl hi hj)
    have hwrite (first last : Bool) : exec (.writeSeg q idx sub first last offset d) s = _ := congrArg Host.Outcome.next
      (request_open (m := ⟨q, 5, i, u, first, last, false, offset.toNat, d.length, d⟩) (row := row) hs (show 0 < 5 by decide)
        (show 5 < 7 by decide) hl hi hj)
    refine ⟨fun hmine => ⟨?_, fun hofs => ?_, fun hofs => ?_, fun last hofs => ?_⟩, fun hmine last => ⟨?_, ?_, ?_⟩⟩
    · exact habort.trans (congrArg _ (doAbort_own hopen' hmine))
    · exact (hwrite false false).trans (congrArg _ (doWriteSeg_continues hro hconst hfits hopen' hmine rfl hofs))
    · exact (hwrite false true).trans (congrArg _ (doWriteSeg_continues hro hconst hfits hopen' hmine rfl hofs))
    · exact (hwrite false last).trans (congrArg _ (doWriteSeg_misplaced hro hconst hfits hopen' hmine rfl hofs))
    · exact (hwrite true last).trans (congrArg _ (doWriteSeg_other hro hconst hfits hopen' hmine))
    · exact (hwrite false last).trans (congrArg _ (doWriteSeg_other hro hconst hfits hopen' hmine))
    · exact habort.trans (congrArg _ (doAbort_other hopen' hmine))
  case hello =>
    obtain ⟨hpath, -⟩ := serves_iff.mp hs
    have hrun := request_takeReq (m := ⟨q, 7, 0, 0, false, false, false, 0, len.toNat, []⟩) hpath
      (show 0 ≠ 0x1C00 by decide)
      (show 0 ≠ 0x1A00 by decide)
    have htaken := takeReq_open (m := ⟨q, 7, 0, 0, false, false, false, 0, len.toNat, []⟩) (serves_shut hs)
      (show 0 < 7 by decide) (le_refl 7)
    exact congrArg Host.Outcome.next (hrun.trans htaken)

/-! ### Requests that go on or wait (R467, R469, R498) -/

section
variable {s : State} {m : Msg}

section
variable (hproto : m.req.proto = 1) (hop : 0 < m.op) (hop' : m.op < 7) (hqueue : s.queueFull m.req = false)
  (htimed : s.acc.timedOut.contains (m.req.path, m.req.who) = false)
include hproto hop hop' hqueue htimed

theorem takeReq_remote (hremote : m.req.isLocal = false) (hnode : m.req.node ≠ s.ring.nodeId) :
    s.takeReq m = s.forward m := by
  have hknown : ¬(m.op = 0 ∨ m.op > 7) := by omega
  unfold State.takeReq
  simp only [hproto, hqueue, htimed]
  simp [hremote, hnode, hknown, Nat.ne_of_lt hop']

theorem takeReq_local (hlocal : m.req.isLocal = true)
    (hstalled : (s.acc.stalled.any fun x => x.2.req.path = m.req.path && x.2.req.who = m.req.who) = false) :
    s.takeReq m = s.serveHere m := by
  have hknown : ¬(m.op = 0 ∨ m.op > 7) := by omega
  have hfind : (s.acc.stalled.find? fun x => x.2.req.path = m.req.path && x.2.req.who = m.req.who) = none :=
    List.find?_eq_none.mpr fun x hx => List.any_eq_false.mp hstalled x hx
  unfold State.takeReq
  simp only [hproto, hqueue, htimed, hfind]
  simp [hlocal, hknown]

end

theorem forward_unknown (h : s.ring.nodes.contains m.req.node = false) : s.forward m = s.answer m (.refuse 0x0111) :=
  if_pos (by rw [h]; rfl)

theorem forward_read (h : s.ring.nodes.contains m.req.node = true) (hop : m.op = 1) (hdata : m.data = [])
    (hroom : s.acc.fwd.length < 64) :
    let tag := freeTag (s.acc.fwd.map (·.ownTag)) s.acc.nextTag
    s.forward m = (s.updAcc fun a => { a with
      fwd := a.fwd ++ [⟨tag, m, s.now⟩], nextTag := (tag + 1) % 256 }).send 5 0 0 m.req.node (m.bytesAs tag m.len) := by
  have hshort : ¬m.data.length > pathLimit m.req.path := by simp [hdata]
  rw [State.forward, if_neg (by rw [h]; decide), if_neg hshort, if_neg (Nat.not_le.mpr hroom)]
  simp only [hop]
  rfl

section
variable {row : OdRow} (hop : m.op ≠ 7) (hl : Od.lookup m.idx m.sub = .ok row) (hoff : s.domOn (domainOf m.idx m.sub) = false)
include hop hl hoff

theorem serveHere_wakes (hlink : domainOf m.idx m.sub ≠ domLink) (hheld : s.bist.held.testBit (domainOf m.idx m.sub) = false) :
    s.serveHere m = (s.accessWake (domainOf m.idx m.sub) (pathMaster m.req.path)).updAcc fun a => { a with
      stalled := a.stalled ++ [(domainOf m.idx m.sub, m)] } := by
  unfold State.serveHere
  simp only [if_neg hop, hl, hoff, hlink, hheld, decide_false, Bool.or_self, Bool.false_eq_true, if_false]

theorem serveHere_link (hlink : domainOf m.idx m.sub = domLink) : s.serveHere m = s.answer m (.refuse 0x0110) := by
  rw [hlink] at hoff
  unfold State.serveHere
  simp only [if_neg hop, hl, hlink, hoff, decide_true, Bool.true_or, Bool.false_eq_true, if_false, if_true]
  rfl

end

/-! ### Timers and answers from other nodes (R457, R458, R467) -/

theorem segTimeout_open {idx sub : Nat} {x : SegXfer} (h : s.segOpen idx sub = some x) : s.segTimeout idx sub =
    ((s.at_ (x.at_ + secs 10)).updAcc fun a => { a with
      segs := a.segs.filter fun x => !(x.idx = idx && x.sub = sub) }).updAcc fun a => { a with
        timedOut := (x.path, x.who) :: a.timedOut.erase (x.path, x.who) } := by
  unfold State.segTimeout
  rw [h]
  rfl

theorem snapRelease_one {x : Snapshot} (h : s.acc.snaps = [x]) :
    s.snapRelease = (s.at_ (x.at_ + secs 1)).updAcc fun a => { a with snaps := a.snaps.erase x } := by
  unfold State.snapRelease
  rw [h]
  rfl

section
variable {src : Nat} {p : List Byte} {f : Forward}
  (hfound : (s.acc.fwd.find? fun f => f.ownTag = leAt p 1 1 && f.msg.req.node = src) = some f)
  (hwhole : 16 + leAt p 12 2 ≤ p.length)
include hfound hwhole

theorem responseRx_fits (hfits : leAt p 12 2 ≤ pathLimit f.msg.req.path) :
    s.responseRx src p = (s.updAcc fun a => { a with fwd := a.fwd.erase f }).answerFrom f.msg src
      { typ := leAt p 7 1, total := leAt p 8 4, abort := leAt p 14 2, data := seg p 16 (leAt p 12 2) } := by
  unfold State.responseRx
  simp only [hfound, Nat.not_lt.mpr hwhole, Nat.not_lt.mpr hfits, if_false]

theorem responseRx_tooLong (hlong : pathLimit f.msg.req.path < leAt p 12 2) :
    s.responseRx src p = (s.updAcc fun a => { a with fwd := a.fwd.erase f }).answerFrom f.msg src (.refuse 0x0109) := by
  unfold State.responseRx
  simp only [hfound, Nat.not_lt.mpr hwhole, hlong, if_false, if_true]
  rfl

end

theorem remoteTmo_oldest {f : Forward} {rest : List Forward} (h : s.acc.fwd = f :: rest) :
    s.remoteTmo = (((s.at_ (f.sentAt + ms (s.rd Od.OD_REMOTE_TMO))).updAcc fun a => { a with fwd := rest }).answer
      f.msg (.refuse 0x0112)).raiseBy Flt.OD_REMOTE_TMO f.msg.req.node 0 (Msg.access f.msg) := by
  unfold State.remoteTmo
  rw [h]
  rfl

/-! ### Host SPI port (R465, R466) -/

section
variable {t : Nat} {l : List Byte} (hopen : s.pathOpen .spi = true)
include hopen

theorem spiWrite_good (hcrc : l.drop (l.length - 2) = crcBytes (l.take (l.length - 2)))
    (hparse : parseMsg t .spi 0 (l.take (l.length - 2)) = some m) : s.spiWrite t l true = (s.upTo t).takeAll m := by
  unfold State.spiWrite
  simp only [hopen, hcrc, hparse, Bool.not_true, Bool.false_eq_true, ne_eq, not_true_eq_false, decide_false,
    Bool.or_self, if_false]

theorem spiWrite_bad {whole : Bool} (hbad : whole = false ∨ l.drop (l.length - 2) ≠ crcBytes (l.take (l.length - 2))) :
    s.spiWrite t l whole = ((s.upTo t).updAcc fun a => { a with drops := up32 a.drops }).raise Flt.OD_FRAME_BAD 2 := by
  refine (if_neg (by rw [hopen]; decide)).trans (if_pos ?_)
  rcases hbad with h | h <;> simp [h]

theorem spiRead_none (w : Bool) (hnone : s.acc.spiReady = []) :
    s.spiRead t w = (s.upTo t).emit (.spi (List.replicate 16 0)) := by
  unfold State.spiRead
  simp only [hopen, State.upTo_acc, hnone, Bool.not_true, Bool.false_eq_true, if_false]

theorem spiRead_oldest (w : Bool) {x : List Byte} {rest : List (List Byte)} (hready : s.acc.spiReady = x :: rest) :
    s.spiRead t w = if w then ((s.upTo t).updAcc fun a => { a with spiReady := rest }).emit (.spi (x ++ crcBytes x))
      else s.upTo t := by
  unfold State.spiRead
  simp only [hopen, State.upTo_acc, hready, Bool.not_true, Bool.false_eq_true, if_false]

theorem spiStatus_open : s.spiStatus t = (s.upTo t).emit (.spi (leBytes 4 (packBits [(s.upTo t).acc.spiReady != [],
    (s.upTo t).hostIrq, decide ((s.upTo t).outstanding .spi ≥ 16)] + ((s.upTo t).acc.spiReady.headD []).length % 65536 * 65536))) :=
  if_neg (by rw [hopen]; decide)

end

def row_SPI_IRQ_PEND : OdRow := ⟨0x1100, 1, 0x0F, 1, "SPI_IRQ_PEND", .u8, .ro, 0, .any, 0, 0, 0, false, 1, false⟩

theorem pick_SPI_IRQ_PEND : Od.pick Od.rows 0x1100 1 0x0F 1 = some row_SPI_IRQ_PEND := by decide +kernel

theorem look_SPI_IRQ_PEND : Od.lookup 0x1100 0x0F = .ok row_SPI_IRQ_PEND := by
  simpa only [Nat.add_zero] using lookup_of_pick (b := 0x1100) (s := 0x0F) (i := 0) (j := 0) pick_SPI_IRQ_PEND
    Nat.zero_lt_one Nat.zero_lt_one (by decide) (by decide)

/-! ### CAN FD, Ethernet and trace signals (R463, R464, R470, R473) -/

section
variable {t : Nat} (hnet : s.domOn domNet = true)
include hnet

theorem canBusOff_on (hcan : (s.rd Od.NET_CTRL).testBit 1 = true) (hst : s.acc.canSt ≠ 2) :
    s.canBusOff t = ((s.at_ t).updAcc fun a => { a with canSt := 2 }).raise Flt.CAN_BUS_OFF 0 :=
  if_pos (by simp [hnet, hcan, hst])

theorem ethDown_up (hup : s.acc.ethUp = true) :
    let y := (s.at_ t).updAcc fun a => { a with ethUp := false, ethLink := 0 }
    s.ethDown t = if (s.rd Od.NET_CTRL).testBit 0 then y.raise Flt.ETH_LINK_DOWN 0 else y :=
  if_neg (by simp [hnet, hup])

theorem ethComesUp_on (fast : Bool) : s.ethComesUp t (if fast then 2 else 1) =
    (s.at_ t).updAcc fun a => { a with ethUp := true, ethLink := if fast then 11 else 7 } := by
  cases fast <;> exact if_pos hnet

end

theorem canRecover_off {t : Nat} (h : s.acc.canSt = 2) :
    s.canRecover t = (s.at_ t).updAcc fun a => { a with canSt := 0 } := if_pos h

theorem arpIcmp_own {t who : Nat} {icmp : Bool} {ip : BitVec 32} (hopen : s.pathOpen .eth = true)
    (hip : ip.toNat = s.rd Od.ETH_IPV4) : s.arpIcmp t icmp ip who = (s.at_ t).emit (.net icmp who) :=
  if_pos (by simp [hopen, hip])

theorem arpIcmp_other {t who : Nat} {icmp : Bool} {ip : BitVec 32}
    (h : s.pathOpen .eth = false ∨ ip.toNat ≠ s.rd Od.ETH_IPV4) : s.arpIcmp t icmp ip who = s :=
  if_neg (by rcases h with h | h <;> simp [h])

theorem trCopy_bound {g : Nat} {x : Trace} {row : OdRow} (hbound : bits (s.rd (Od.TR_BIND g)) 31 28 = 1)
    (hlast : s.trace g = some x)
    (hl : Od.lookup (bits (s.rd (Od.TR_BIND g)) 23 8) (bits (s.rd (Od.TR_BIND g)) 7 0) = .ok row)
    (hon : s.domOn (domainOf (bits (s.rd (Od.TR_BIND g)) 23 8) (bits (s.rd (Od.TR_BIND g)) 7 0)) = true) :
    let r := s.upTo (s.localOf (x.time + sysUs (s.rd (Od.TR_PERIOD g))))
    s.trCopy g = r.traceSet g row.ty.code
      (leNat (r.entryValue row (bits (s.rd (Od.TR_BIND g)) 23 8) (bits (s.rd (Od.TR_BIND g)) 7 0))) r.sysNow := by
  intro r
  rw [State.trCopy, if_neg (not_not.mpr hbound)]
  simp only [hlast, hl, domOn_upTo, hon, if_true]
  rfl

end

/-- Settles O57: a request of another node or of a domain that is off takes its branch of `takeReq`, and each timer, link and
port the branch of the state that it stands in. -/
theorem pathsForwardStallTimeOutAndReport : Obligations.PathsForwardStallTimeOutAndReport := by
  unfold Obligations.PathsForwardStallTimeOutAndReport
  refine ⟨fun q idx sub len s hpath hproto hqueue htimed hremote hnode hi hj => ?remote, fun q idx sub len row s => ?stalls,
    fun idx sub x s hr h => next_awake hr (segTimeout_open h), fun x s hr h => next_awake hr (snapRelease_one h),
    fun t src p f s hr hfound hwhole => ⟨fun hfits => next_awake hr (responseRx_fits (s := s.at_ t) hfound hwhole hfits),
      fun hlong => next_awake hr (responseRx_tooLong (s := s.at_ t) hfound hwhole hlong)⟩,
    fun f rest s hr h => next_awake hr (remoteTmo_oldest h), fun t l s hopen => ?spi, fun q row s hs hl => ?pend,
    fun t fast s hr hnet => ⟨fun hcan hst => next_awake hr (canBusOff_on hnet hcan hst),
      fun hst => next_awake hr (canRecover_off hst), fun hup => next_awake hr (ethDown_up hnet hup),
      next_awake hr (ethComesUp_on hnet fast)⟩,
    fun t icmp ip who s => ⟨fun hopen hip => congrArg _ (arpIcmp_own hopen hip), fun h => congrArg _ (arpIcmp_other h)⟩,
    fun g x row s hr hbound hlast hl hon => next_awake hr (trCopy_bound hbound hlast hl hon)⟩
  case remote =>
    intro r m tag
    have hring : r.ring = s.ring := State.upTo_ring ..
    have hacc : r.acc = s.acc := State.upTo_acc ..
    have hforward : exec (.odRead q idx sub len) s = .next (r.forward m) := congrArg _ ((request_takeReq hpath hi hj).trans
      (takeReq_remote (m := m) hproto Nat.one_pos (show 1 < 7 by decide) ((queueFull_upTo ..).trans hqueue)
        (by rw [hacc]; exact htimed) hremote (by rw [hring]; exact hnode)))
    exact ⟨fun h => hforward.trans (congrArg _ (forward_unknown h)),
      fun h hroom => hforward.trans (congrArg _ (forward_read h rfl rfl hroom))⟩
  case stalls =>
    intro d hpath hproto hqueue htimed hlocal hstalled hl hoff hi hj r m
    have hacc : r.acc = s.acc := State.upTo_acc ..
    have hoff' : r.domOn d = false := (domOn_upTo ..).trans hoff
    have hhere : exec (.odRead q idx sub len) s = .next (r.serveHere m) := congrArg _ ((request_takeReq hpath hi hj).trans
      (takeReq_local (m := m) hproto Nat.one_pos (show 1 < 7 by decide) ((queueFull_upTo ..).trans hqueue)
        (by rw [hacc]; exact htimed) hlocal (by rw [hacc]; exact hstalled)))
    exact ⟨fun hlink hheld => hhere.trans (congrArg _ (serveHere_wakes (m := m) (show 1 ≠ 7 by decide) hl hoff' hlink hheld)),
      fun hlink => hhere.trans (congrArg _ (serveHere_link (m := m) (show 1 ≠ 7 by decide) hl hoff' hlink))⟩
  case spi =>
    exact ⟨fun m hcrc hparse => congrArg _ (spiWrite_good hopen hcrc hparse),
      congrArg _ (spiWrite_bad hopen (.inl rfl)), fun hbad => congrArg _ (spiWrite_bad hopen (.inr hbad)),
      fun w hnone => congrArg _ (spiRead_none hopen w hnone),
      fun x rest hready => ⟨congrArg _ (spiRead_oldest hopen true hready), congrArg _ (spiRead_oldest hopen false hready)⟩,
      congrArg _ (spiStatus_open hopen)⟩
  case pend =>
    intro r v hfits
    obtain rfl : row_SPI_IRQ_PEND = row := Except.ok.inj (look_SPI_IRQ_PEND.symm.trans hl)
    exact congrArg _ (readCmd_served hs hl (by decide) (by decide) (by decide) rfl hfits)

end Sys2Proof.Machine
end

section
/-! PROOFS of the statements about the stores: configuration banks, images and firmware slots (R517 to R525, R536 to R539),
and the cellar's log and dumps (R530 to R535). -/

namespace Sys2Proof.Machine

/-! ### Images whose signature is counted where it fails (R522) -/

section
variable {o : Host.Outcome State Fault Refusal} {r : State} {a : Own} {q : Req} {op idx sub typ : Nat}
  (h : o = .next (State.finish (countSig (r.done a)) (q.msg op idx sub []) typ))
include h

theorem refused_of_image {abort : Nat} (ha : a = .error abort) (hne : abort ≠ 0) (hsig : abort ≠ abSignature) :
    o = .next (r.refusedWith q op idx sub abort) := by
  subst ha
  rw [h, show countSig (r.done (.error abort)) = (r, abort) from if_neg hsig]
  exact congrArg Host.Outcome.next (finish_refused hne)

theorem refused_of_badSignature (ha : a = .error abSignature) :
    o = .next (r.sigFail.refusedWith q op idx sub abSignature) := by
  subst ha
  exact h.trans (congrArg Host.Outcome.next (finish_refused (a := abSignature) (by decide)))

end

section
variable {s : State}

/-! ### Configuration banks (R517, R539) -/

theorem cfgCommit_fits (hfree : s.nor.commit = none) (hfits : s.bankBody.length ≤ bodyMax) :
    s.cfgCommit = .ok (s.beginCommit.updNor fun n => { n with cfgSt := .pending }) := by
  simp only [State.cfgCommit, State.askCommit, hfree, Nat.not_lt.mpr hfits, Option.isSome_none,
    Bool.false_eq_true, if_false]

theorem cfgCommit_tooLong (hfree : s.nor.commit = none) (hlong : bodyMax < s.bankBody.length) :
    s.cfgCommit = .error abSpace := by
  simp only [State.cfgCommit, State.askCommit, hfree, hlong, Option.isSome_none, Bool.false_eq_true, if_false, if_true]

theorem cfgCommit_busy (hruns : s.nor.commit ≠ none) : s.cfgCommit = .error abBusy :=
  if_pos (Option.isSome_iff_ne_none.mpr hruns)

theorem cfgDefaults_stopped (h : s.legsEnabled = 0) :
    s.cfgDefaults = .ok (s.loadDefaults.updNor fun n => { n with cfgSt := .done }) := if_neg (not_not.mpr h)

theorem cfgDefaults_legs (h : s.legsEnabled ≠ 0) : s.cfgDefaults = .error abLegs := if_pos h

/-- A bank write that waits begins. -/
def State.nextCommit (s : State) : State :=
  match s.nor.queue with
  | [] => s
  | _ :: q => (s.updNor fun n => { n with queue := q }).beginCommit

section
variable {t : Nat} {c : Commit} (hc : s.nor.commit = some c)
include hc

theorem commitDone_good :
    let r := (s.at_ (min t (c.since + secs 3))).updNor fun n => { n with commit := none }
    s.commitDone t true = State.nextCommit ((r.updNor fun n => { n.setBank c.target (some c.bank) with
      active := c.target + 1, commits := up32 n.commits, cfgSt := if n.cfgSt = .pending then .done else n.cfgSt }).logEvent
        logCommit c.target) := by
  unfold State.commitDone
  rw [hc]
  rfl

theorem commitDone_bad :
    let r := (s.at_ (min t (c.since + secs 3))).updNor fun n => { n with commit := none }
    s.commitDone t false = State.nextCommit ((r.updNor fun n => { n with
      norErrors := up32 n.norErrors, cfgSt := if n.cfgSt = .pending then .refused else n.cfgSt }).raise Flt.STORE_NOR_ERR 0) := by
  unfold State.commitDone
  rw [hc]
  rfl

end

/-! ### CFG_IMAGE (R520) -/

section
variable {img : List Byte}

/-- A record of CFG_IMAGE is acceptable: a loop program that its slot takes, or an entry with a value that its row admits. -/
def State.imageRecordOk (s : State) (x : Nat × Nat × Nat × List Byte) : Bool :=
  if decide (0x3000 ≤ x.1) && decide (x.1 < 0x3080) && x.2.1 = 3 then
    match s.ownLsProgram (x.1 - 0x3000) x.2.2.2 with
    | .ok _ => true
    | .error _ => false
  else recordOk false x.1 x.2.1 x.2.2.1 x.2.2.2

theorem ownCfgImage_busy (h : s.nor.commit ≠ none) : s.ownCfgImage img = .error abBusy :=
  if_pos (Option.isSome_iff_ne_none.mpr h)

variable (hfree : s.nor.commit = none)
include hfree

theorem ownCfgImage_legs (hlegs : s.legsEnabled ≠ 0) : s.ownCfgImage img = .error abState :=
  (if_neg (by simp [hfree])).trans (if_pos hlegs)

variable (hlegs : s.legsEnabled = 0)
include hlegs

theorem ownCfgImage_unsigned (hsig : s.sigOk img kindCfg [] = false) : s.ownCfgImage img = .error abSignature :=
  (if_neg (by simp [hfree])).trans ((if_neg (not_not.mpr hlegs)).trans (if_pos (by simp [hsig])))

theorem ownCfgImage_parsed {rs : List (Nat × Nat × Nat × List Byte)} (hsig : s.sigOk img kindCfg [] = true)
    (hparse : parseRecords (imgBody img).length (imgBody img) = some rs) : s.ownCfgImage img =
      if rs.all s.imageRecordOk then State.askCommit (rs.foldl (fun s x => (s.restoreRec false x).1) s) false
      else .error abImage := by
  rw [State.ownCfgImage, if_neg (by simp [hfree]), if_neg (not_not.mpr hlegs), if_neg (by simp [hsig]), hparse]
  rfl

end

/-! ### Firmware (R523 to R525) -/

theorem ownFwImage_signed {img : List Byte} (hlen : 4096 + trailerLen ≤ img.length)
    (hkey : shake256 (seg img 20 57) = Config.vendorKeyHash)
    (hsig : s.sigOk (img.drop 4096) kindFw (seg img 20 57) = true) :
    s.ownFwImage img = .ok (s.updNor fun n => n.updSlot (1 - n.running) fun _ =>
      { seq := leAt img 4 4, version := leAt img 12 4, safeVersion := leAt img 16 4
        rollback := leAt (imgTrailer (img.drop 4096)) 4 4, written := true, sound := true, image := img }) :=
  (if_neg (Nat.not_lt.mpr hlen)).trans ((if_neg (not_not.mpr hkey)).trans (if_neg (by simp [hsig])))

theorem ownFwImage_short {img : List Byte} (hlen : img.length < 4096 + trailerLen) : s.ownFwImage img = .error abImage :=
  if_pos hlen

/-- The slot that does not run holds a newer valid image that has not been tried. -/
def State.canActivate (s : State) : Prop :=
  s.nor.fwValid (1 - s.nor.running) = true ∧ (s.nor.slot (1 - s.nor.running)).tried = false ∧
    newer32 (s.nor.slot (1 - s.nor.running)).seq (s.nor.slot s.nor.running).seq = true

theorem canActivate_iff : s.canActivate ↔
    ¬(!s.nor.fwValid (1 - s.nor.running) || (s.nor.slot (1 - s.nor.running)).tried ||
      !newer32 (s.nor.slot (1 - s.nor.running)).seq (s.nor.slot s.nor.running).seq) = true := by
  simp only [State.canActivate, Bool.or_eq_true, Bool.not_eq_true', not_or, Bool.not_eq_false, Bool.not_eq_true, and_assoc]

section
variable (hclosed : s.fwOpen = false)
include hclosed

theorem fwActivate_legs (hlegs : s.legsEnabled ≠ 0) : s.fwActivate = .error abState :=
  (if_neg (by simp [hclosed])).trans (if_pos hlegs)

variable (hlegs : s.legsEnabled = 0)
include hlegs

theorem fwActivate_newer (hfit : s.canActivate) :
    let x := ((s.updNor fun n => { n with fwSt := .done }).logEvent logFw 1).allStop
    s.fwActivate = .ok { x with pwr := { x.pwr with rstPend := true } } :=
  (if_neg (by simp [hclosed])).trans ((if_neg (not_not.mpr hlegs)).trans (if_neg (canActivate_iff.mp hfit)))

theorem fwActivate_unfit (hunfit : ¬s.canActivate) : s.fwActivate = .error abImage :=
  (if_neg (by simp [hclosed])).trans ((if_neg (not_not.mpr hlegs)).trans (if_pos (not_not.mp (mt canActivate_iff.mpr hunfit))))

end

theorem fwConfirm_tried (h : (s.nor.slot s.nor.running).tried = true ∧ (s.nor.slot s.nor.running).confirmed = false) :
    s.fwConfirm = .ok ((s.updNor fun n => { n.updSlot n.running (fun x => { x with confirmed := true }) with
      fuses := { n.fuses with fwRb := max n.fuses.fwRb (min 128 (s.nor.slot s.nor.running).rollback) }
      fwSt := .done, journal := n.journal + 1 }).logEvent logFw 2) := by
  obtain ⟨htried, hnew⟩ := h
  exact if_neg (by simp [htried, hnew])

theorem fwConfirm_not (h : ¬((s.nor.slot s.nor.running).tried = true ∧ (s.nor.slot s.nor.running).confirmed = false)) :
    s.fwConfirm = .error abState := if_pos (by simpa [or_iff_not_imp_left] using h)

end

/-- Settles O52: each command comes to its owner, which accepts or refuses by the state of the banks and slots, and the end
of a bank write is its defining equation. -/
theorem banksAndFirmwareSlotsAreWritten : Obligations.BanksAndFirmwareSlotsAreWritten := by
  unfold Obligations.BanksAndFirmwareSlotsAreWritten
  refine ⟨fun q s hs => ?cfg, fun t s c hr hc => ?done, fun q img s hs hlen => ?image, fun q img s hs hlen => ?fwImage,
    fun q s hs => ?fw⟩
  case cfg =>
    have hcommit : exec (.cfgCommit q) s = _ := execCfgCommit_served q hs
    have hdefaults : exec (.cfgDefaults q) s = _ := execCfgDefaults_served q hs
    exact ⟨fun hfree hfits => accepted_of_cmd hcommit (cfgCommit_fits hfree hfits),
      fun hfree hlong => refused_of_cmd hcommit (cfgCommit_tooLong hfree hlong) (by decide) (by decide),
      fun hruns => refused_of_busy hcommit (cfgCommit_busy hruns),
      fun h => accepted_of_cmd hdefaults (cfgDefaults_stopped h),
      fun h => refused_of_cmd hdefaults (cfgDefaults_legs h) (by decide) (by decide)⟩
  case done => exact ⟨next_awake hr (commitDone_good hc), next_awake hr (commitDone_bad hc)⟩
  case image =>
    have hserved : exec (.cfgImageWrite q img) s = _ := execCfgImageWrite_served q img hs hlen
    refine ⟨fun rs hfree hlegs hsig hparse => ⟨fun hpass w hw => ?taken, fun hpass => ?bad⟩,
      fun h => refused_of_image hserved (ownCfgImage_busy h) (by decide) (by decide),
      fun hfree hlegs => refused_of_image hserved (ownCfgImage_legs hfree hlegs) (by decide) (by decide),
      fun hfree hlegs hsig => refused_of_badSignature hserved (ownCfgImage_unsigned hfree hlegs hsig)⟩
    case taken =>
      exact accepted_of_signed hserved ((ownCfgImage_parsed hfree hlegs hsig hparse).trans ((if_pos hpass).trans hw))
    case bad =>
      exact refused_of_image hserved ((ownCfgImage_parsed hfree hlegs hsig hparse).trans
        (if_neg (Bool.not_eq_true _ ▸ hpass))) (by decide) (by decide)
  case fwImage =>
    have hserved : exec (.fwImageWrite q img) s = _ := execFwImageWrite_served q img hs hlen
    exact ⟨fun hlong hkey hsig => accepted_of_signed hserved (ownFwImage_signed hlong hkey hsig),
      fun hshort => refused_of_image hserved (ownFwImage_short hshort) (by decide) (by decide)⟩
  case fw =>
    have hactivate : exec (.fwActivate q) s = _ := execFwActivate_served q hs
    have hconfirm : exec (.fwConfirm q) s = _ := execFwConfirm_served q hs
    exact ⟨fun hclosed hlegs hfit => accepted_of_cmd hactivate (fwActivate_newer hclosed hlegs hfit),
      fun hclosed hlegs => refused_of_cmd hactivate (fwActivate_legs hclosed hlegs) (by decide) (by decide),
      fun hclosed hlegs hunfit => refused_of_cmd hactivate (fwActivate_unfit hclosed hlegs hunfit) (by decide) (by decide),
      fun h => accepted_of_cmd hconfirm (fwConfirm_tried h),
      fun h => refused_of_cmd hconfirm (fwConfirm_not h) (by decide) (by decide)⟩

/-! ### CEL_CMD (R531, R533, R535) -/

section
variable {s : State}

theorem ownCelCmd_noNand {v : Nat} (h : s.nor.nand = false) : s.ownCelCmd v = .error 0x010A := if_pos (by simp [h])

section
variable (hnand : s.nor.nand = true)
include hnand

theorem ownCelCmd_trigger : s.ownCelCmd 1 =
    .ok ((s.dumpTrigger 4 0).updNor fun n => { n with celSt := if n.full then .refused else .done }) :=
  (if_neg (by simp [hnand])).trans (if_pos rfl)

theorem ownCelCmd_noDump {v : Nat} (hv : v ≠ 1) (hnone : s.selDump = none) : s.ownCelCmd v = .error 0x010A := by
  rw [State.ownCelCmd, if_neg (by simp [hnand]), if_neg hv, hnone]
  rfl

variable {d : Dump} (hd : s.selDump = some d)
include hd

theorem ownCelCmd_protect : s.ownCelCmd 2 =
    .ok ((s.updDump d.number fun d => { d with isProtected := true }).updNor fun n => { n with celSt := .done }) := by
  rw [State.ownCelCmd, if_neg (by simp [hnand]), if_neg (by decide), hd]
  rfl

theorem ownCelCmd_unprotect : s.ownCelCmd 3 =
    .ok (((s.updDump d.number fun d => { d with isProtected := false }).updNor Stores.seeFull).updNor fun n => { n with
      celSt := .done }) := by
  rw [State.ownCelCmd, if_neg (by simp [hnand]), if_neg (by decide), hd]
  rfl

theorem ownCelCmd_upload : s.ownCelCmd 4 =
    if s.nor.dumps.any (·.uploading) then .error abBusy
    else if d.state = 3 then .error abState
    else .ok ((s.updDump d.number fun d => { d with uploading := true }).updNor fun n => { n with
      celSt := .pending, upDone := 0 }) := by
  rw [State.ownCelCmd, if_neg (by simp [hnand]), if_neg (by decide), hd]
  rfl

end

/-! ### CEL_READ, pages, windows and uploads (R530 to R535) -/

def row_CEL_READ : OdRow := ⟨0x1B20, 1, 0x0B, 1, "CEL_READ", .domain, .ro, 0, .any, 0, 0, 0, false, 33554432, true⟩

theorem pick_CEL_READ : Od.pick Od.rows 0x1B20 1 0x0B 1 = some row_CEL_READ := by decide +kernel

theorem look_CEL_READ : Od.lookup 0x1B20 0x0B = .ok row_CEL_READ := by
  simpa only [Nat.add_zero] using lookup_of_pick (b := 0x1B20) (s := 0x0B) (i := 0) (j := 0) pick_CEL_READ
    Nat.zero_lt_one Nat.zero_lt_one (by decide) (by decide)

theorem exec_celRead {q : Req} (offset : BitVec 32) (len : BitVec 16) (hs : s.serves q 0x1B20 0x0B = true)
    (hsnaps : (s.upTo q.t).acc.snaps = []) : exec (.celRead q offset len) s = .next ((s.upTo q.t).answer
      ⟨q, 4, 0x1B20, 0x0B, false, false, false, offset.toNat, len.toNat, []⟩
      { typ := 15, total := (s.upTo q.t).celRead.length
        data := cut (s.upTo q.t).celRead offset.toNat len.toNat (pathLimit q.path) }) := by
  have hrun := request_open (m := ⟨q, 4, 0x1B20, 0x0B, false, false, false, offset.toNat, len.toNat, []⟩)
    (row := row_CEL_READ) (serves_shut hs) (show 0 < 4 by decide) (show 4 < 7 by decide) look_CEL_READ
    (show 0x1B20 ≠ 0x1C00 by decide) (show 0x1B20 ≠ 0x1A00 by decide)
  have hentry : (s.upTo q.t).readEntry row_CEL_READ 0x1B20 0x0B = .ok ((s.upTo q.t).celRead, s.upTo q.t) := rfl
  have hread := doReadSeg_direct (m := ⟨q, 4, 0x1B20, 0x0B, false, false, false, offset.toNat, len.toNat, []⟩) hentry rfl
    (by rw [hsnaps]; rfl)
  exact congrArg Host.Outcome.next (hrun.trans hread)

theorem logPage_open (h : s.nor.page ≠ []) :
    s.logPage = (s.at_ (s.nor.pageAt + ms 100)).updNor fun n => { n with
      pages := (n.page :: n.pages).take logRoom, page := [], written := n.written + 4096 } :=
  (if_neg h).trans (if_neg h)

theorem preWritten_frozen {t : Nat} (h : s.nor.frozen = some t) (pre : Dump → List Byte)
    (hpre : ∀ d, (s.at_ (t + ms 100)).nor.preData d.preWin = pre d) :
    s.preWritten = (s.at_ (t + ms 100)).updNor fun n => { n with
      frozen := none
      written := n.written + (n.dumps.map fun d => (pre d).length).sum
      dumps := n.dumps.map fun d => { d with data := pre d ++ d.data, preWin := none } } := by
  simp only [← hpre]
  unfold State.preWritten
  rw [h]
  rfl

theorem dumpEnd_running {t : Nat} (h : s.nor.dumpAt = some t) :
    let r := (s.at_ (t + ms (s.rd Od.CEL_POST))).updNor fun n => { n with
      dumpAt := none, dumps := n.dumps.map fun d => if d.state = 3 then { d with state := 1 } else d }
    s.dumpEnd = s.seeWear (r.logEvent logDump (r.nor.nextDump - 1)) := by
  unfold State.dumpEnd
  rw [h]

theorem uploadDone_sent {d : Dump} (hd : s.nor.dumps.find? (·.uploading) = some d) (hlast : d.readable.length ≤ s.nor.upDone)
    (hsent : (s.ring.waiting.any fun w => w.frame.typ = 0x0B && w.item = 5) = false) :
    s.uploadDone = ((s.updDump d.number fun d => { d with uploading := false }).updNor Stores.seeFull).updNor fun n => { n with
      celSt := if n.celSt = .pending then .done else n.celSt } := by
  unfold State.uploadDone
  rw [hd]
  exact if_neg (by simp only [hsent, Nat.not_lt.mpr hlast]; decide)

end

/-- Settles O54: each form of CEL_CMD comes to its owner, a segment of CEL_READ to `doReadSeg_direct`, and each end is its
defining equation. -/
theorem cellarCommandsAndDumps : Obligations.CellarCommandsAndDumps := by
  unfold Obligations.CellarCommandsAndDumps
  refine ⟨fun q s hs => ?command, fun q offset len s hs => ?read,
    fun s hr h => next_awake hr (congrArg s.seeWear (logPage_open h)),
    fun s t hr h => ?window, fun s t hr h => next_awake hr (dumpEnd_running h),
    fun s d hr hd hlast hsent => next_awake hr (uploadDone_sent hd hlast hsent)⟩
  case command =>
    have htrigger : exec (.trigger q) s = _ := execTrigger_served q hs
    have hprotect : exec (.protect q) s = _ := execProtect_served q hs
    have hunprotect : exec (.unprotect q) s = _ := execUnprotect_served q hs
    have hupload : exec (.upload q) s = _ := execUpload_served q hs
    refine ⟨fun hnand => accepted_of_cmd htrigger (ownCelCmd_trigger hnand), fun d hnand hd =>
      ⟨accepted_of_cmd hprotect (ownCelCmd_protect hnand hd), accepted_of_cmd hunprotect (ownCelCmd_unprotect hnand hd),
        fun hidle hst => accepted_of_cmd hupload ?begun, fun hidle hst => refused_of_cmd hupload ?runs (by decide) (by decide),
        fun hbusy => refused_of_busy hupload ((ownCelCmd_upload hnand hd).trans (if_pos hbusy))⟩,
      fun hnand => refused_of_cmd htrigger (ownCelCmd_noNand hnand) (by decide) (by decide), fun hnone => ?none⟩
    case begun => exact (ownCelCmd_upload hnand hd).trans ((if_neg (Bool.not_eq_true _ ▸ hidle)).trans (if_neg hst))
    case runs => exact (ownCelCmd_upload hnand hd).trans ((if_neg (Bool.not_eq_true _ ▸ hidle)).trans (if_pos hst))
    case none =>
      have howner (v : Nat) (hv : v ≠ 1) : (s.upTo q.t).ownCelCmd v = .error 0x010A := by
        cases hnand : (s.upTo q.t).nor.nand with
        | false => exact ownCelCmd_noNand hnand
        | true => exact ownCelCmd_noDump hnand hv (hnone.resolve_left fun hoff => Bool.noConfusion (hnand.symm.trans hoff))
      exact ⟨refused_of_cmd hprotect (howner 2 (by decide)) (by decide) (by decide),
        refused_of_cmd hunprotect (howner 3 (by decide)) (by decide) (by decide),
        refused_of_cmd hupload (howner 4 (by decide)) (by decide) (by decide)⟩
  case window =>
    intro r pre
    have hpre (d : Dump) : r.nor.preData d.preWin = pre d := by
      simp only [Stores.preData, pre]
      cases d.preWin <;> rfl
    exact next_awake hr (preWritten_frozen h pre hpre)
  case read =>
    intro r hsnaps v
    exact exec_celRead offset len hs hsnaps

end Sys2Proof.Machine
end

section
/-! PROOFS of the statement about fuses, debug unlock and attestation (R526 to R529) and about self-test (R546 to R549). -/

namespace Sys2Proof.Machine

/-! ### Fuse commands (R526, R527) -/

section
variable {o : Host.Outcome State Fault Refusal} {r w : State} {a : Own} {refuse : State → State} {q : Req}
  {op idx sub typ abort : Nat}
  (h : o = .next (State.finish (countSig (r.doneCmd a refuse)) (q.msg op idx sub []) typ))
include h

theorem accepted_of_signedCmd (ha : a = .ok w) : o = .next (w.accepted q op idx sub typ) := by
  subst ha
  exact h

section
variable (ha : a = .error abort) (hne : abort ≠ 0) (hbusy : abort ≠ 0x010B)
include ha hne hbusy

/-- A refusal that is not one as busy shows in the status, and a signature that fails is counted. -/
theorem refused_of_signedCmd :
    o = .next ((if abort = abSignature then (refuse r).sigFail else refuse r).refusedWith q op idx sub abort) := by
  subst ha
  rw [h, show r.doneCmd (.error abort) refuse = (refuse r, abort) from congrArg (·, abort) (if_neg hbusy)]
  by_cases hsig : abort = abSignature
  · rw [if_pos hsig, show countSig (refuse r, abort) = ((refuse r).sigFail, abort) from if_pos hsig]
    exact congrArg Host.Outcome.next (finish_refused hne)
  · rw [if_neg hsig, show countSig (refuse r, abort) = (refuse r, abort) from if_neg hsig]
    exact congrArg Host.Outcome.next (finish_refused hne)

theorem refused_of_unsignedCmd (hsig : abort ≠ abSignature) : o = .next ((refuse r).refusedWith q op idx sub abort) := by
  have hrefused := refused_of_signedCmd h ha hne hbusy
  rwa [if_neg hsig] at hrefused

end

theorem refused_of_signedBusy (ha : a = .error abBusy) : o = .next (r.refusedWith q op idx sub 0x010B) := by
  subst ha
  exact h.trans (congrArg Host.Outcome.next (finish_refused (by decide)))

end

theorem exec_fuseCmd {q : Req} {c : Instr} {v : Nat} {s : State} 
    (h : (c, v) ∈ [(Instr.ownerKey q, 1), (.revokeKey0 q, 2), (.ownRb q, 3), (.debugKill q, 4)])
    (hs : s.serves q 0x1B40 0x04 = true) : exec c s = .next (State.finish (countSig ((s.upTo q.t).doneCmd
      ((s.upTo q.t).fuseCmd v) fun s => s.updNor fun n => { n with fuseSt := .refused })) (q.msg 2 0x1B40 0x04 []) 2) := by
  simp only [List.mem_cons, Prod.mk.injEq, List.not_mem_nil, or_false] at h
  rcases h with ⟨rfl, rfl⟩ | ⟨rfl, rfl⟩ | ⟨rfl, rfl⟩ | ⟨rfl, rfl⟩
  · exact execOwnerKey_served q hs
  · exact execRevokeKey0_served q hs
  · exact execOwnRb_served q hs
  · exact execDebugKill_served q hs

section
variable {s : State}

section
variable {v : Nat}

theorem fuseCmd_busy (h : s.nor.fuseRun ≠ none) : s.fuseCmd v = .error abBusy :=
  if_pos (Option.isSome_iff_ne_none.mpr h)

variable (hfree : s.nor.fuseRun = none)
include hfree

theorem fuseCmd_legs (hlegs : s.legsEnabled ≠ 0) : s.fuseCmd v = .error abState :=
  (if_neg (by simp [hfree])).trans (if_pos hlegs)

variable (hlegs : s.legsEnabled = 0)
include hlegs

theorem fuseCmd_unfit (hcheck : s.fuseCheck v ≠ 0) : s.fuseCmd v = .error (s.fuseCheck v) :=
  (if_neg (by simp [hfree])).trans ((if_neg (not_not.mpr hlegs)).trans (if_pos hcheck))

theorem fuseCmd_begins (hcheck : s.fuseCheck v = 0) : s.fuseCmd v = .ok ((s.updNor fun n => { n with
    fuseRun := some (v, n.fuseArg, s.now), fuseSt := .pending }).logEvent logFuse v) :=
  (if_neg (by simp [hfree])).trans ((if_neg (not_not.mpr hlegs)).trans (if_neg (not_not.mpr hcheck)))

end

/-- The first owner key is its 57 bytes, without a signature. -/
theorem fuseCheck_firstKey (hkey : s.nor.fuses.emptyKey = some 0) (hlen : s.nor.fuseArg.length = 57) : s.fuseCheck 1 = 0 := by
  unfold State.fuseCheck
  simp only [hkey]
  exact if_pos hlen

theorem fuseDone_runs {t t0 cmd : Nat} {good : Bool} {a : List Byte} (h : s.nor.fuseRun = some (cmd, a, t0)) :
    s.fuseDone t good = (s.at_ (min t (t0 + ms 20))).updNor fun n => { n with
      fuseRun := none, fuseSt := if good then .done else .refused, journal := n.journal + 1
      fuses := if good then n.fuses.program cmd a else n.fuses } := by
  unfold State.fuseDone
  rw [h]

/-! ### SEC_DEBUG_UNLOCK and SEC_ATTEST (R528, R529) -/

theorem ownDebug_signed {img nonce : List Byte} (hlive : s.nor.fuses.killed = false) (hnonce : s.nor.nonce = some nonce)
    (hsig : s.sigOk img kindDbg [] = true) (hbody : imgBody img = nonce)
    (hserial : leAt (imgTrailer img) 8 8 = Config.serial.toNat) :
    s.ownDebug img = .ok (s.updNor fun n => { n with debugOpen := true }) := by
  rw [State.ownDebug, if_neg (by simp [hlive]), hnonce]
  exact (if_neg (by simp [hsig])).trans (if_neg (by simp [hbody, hserial]))

theorem ownDebug_closed {img : List Byte} (h : s.nor.fuses.killed = true ∨ s.nor.nonce = none) :
    s.ownDebug img = .error abState := by
  by_cases hkilled : s.nor.fuses.killed = true
  · exact if_pos hkilled
  · rw [State.ownDebug, if_neg hkilled, h.resolve_left hkilled]

theorem attest_unarmed (h : s.nor.nonce = none) : s.attest = .error 0x010A := by
  unfold State.attest
  rw [h]
  rfl

/-- The record of R529 over an armed nonce. -/
def State.attestBody (s : State) (nonce : List Byte) : List Byte :=
  let n := s.nor
  let fuses := n.fuses.ownerCtrl % 256 + n.fuses.fwRb % 256 * 2 ^ 8 + n.fuses.ownRb % 256 * 2 ^ 16 +
    b2n n.fuses.killed * 2 ^ 24 + b2n n.debugOpen * 2 ^ 25
  fitTo 32 nonce ++ (n.slot n.running).digest ++ s.cfgDigest ++ leBytes 8 Config.serial.toNat ++ leBytes 8 fuses ++
    leBytes 14 (timeCode s.sysNow) ++ leBytes 2 0

theorem attest_armed {nonce : List Byte} (h : s.nor.nonce = some nonce) :
    s.attest = .ok (s.attestBody nonce ++ fitTo 114 (Config.idSign (s.attestBody nonce)),
      s.updNor fun n => { n with nonce := none }) := by
  unfold State.attest
  rw [h]
  rfl

def row_SEC_ATTEST : OdRow := ⟨0x1B40, 1, 0x08, 1, "SEC_ATTEST", .octets, .ro, 0, .any, 0, 0, 0, false, 242, false⟩

theorem pick_SEC_ATTEST : Od.pick Od.rows 0x1B40 1 0x08 1 = some row_SEC_ATTEST := by decide +kernel

theorem look_SEC_ATTEST : Od.lookup 0x1B40 0x08 = .ok row_SEC_ATTEST := by
  simpa only [Nat.add_zero] using lookup_of_pick (b := 0x1B40) (s := 0x08) (i := 0) (j := 0) pick_SEC_ATTEST
    Nat.zero_lt_one Nat.zero_lt_one (by decide) (by decide)

theorem exec_secAttest {q : Req} (hs : s.serves q 0x1B40 0x08 = true) :
    exec (.secAttest q) s = .next ((s.upTo q.t).doRead (q.msg 1 0x1B40 0x08 []) row_SEC_ATTEST) :=
  congrArg Host.Outcome.next (request_open (m := q.msg 1 0x1B40 0x08 []) (row := row_SEC_ATTEST) (serves_shut hs)
    Nat.one_pos (show 1 < 7 by decide) look_SEC_ATTEST (show 0x1B40 ≠ 0x1C00 by decide) (show 0x1B40 ≠ 0x1A00 by decide))

/-! ### BIST_RUN and BIST_ABORT (R546, R547, R549) -/

section
variable {o : Host.Outcome State Fault Refusal} {r w : State} {a : Own} {q : Req} {op idx sub typ : Nat}
  (h : o = .next (State.finish (r.done a) (q.msg op idx sub []) typ).clkSettle.serveStalled)
include h

theorem settled_of_taken (ha : a = .ok w) : o = .next (w.accepted q op idx sub typ).clkSettle.serveStalled := by
  subst ha
  exact h

theorem settled_of_refused {abort : Nat} (ha : a = .error abort) (hne : abort ≠ 0) :
    o = .next (r.refusedWith q op idx sub abort).clkSettle.serveStalled := by
  subst ha
  exact h.trans (congrArg (fun x : State => Host.Outcome.next x.clkSettle.serveStalled) (finish_refused hne))

end

/-- The run that BIST_TARGET names is one that R543 offers and its conditions are met; the slice of a loop slot is a free
value. -/
def State.bistFit (s : State) : Prop :=
  bistDur (s.rd Od.BIST_TARGET) ≠ 0 ∧
    s.draw.2.bistMay (s.rd Od.BIST_TARGET) s.draw.2.bist.idle (s.draw.1 % 2 = 1) = true

theorem bistFit_iff : s.bistFit ↔ ¬(bistDur (s.rd Od.BIST_TARGET) = 0 ||
    !s.draw.2.bistMay (s.rd Od.BIST_TARGET) s.draw.2.bist.idle (s.draw.1 % 2 = 1)) = true := by
  simp only [State.bistFit, Bool.or_eq_true, decide_eq_true_eq, Bool.not_eq_true', not_or, Bool.not_eq_false, ne_eq]

theorem bistRun_busy (h : s.bist.run ≠ none) : s.bistRun = .error 0x010B := if_pos (Option.isSome_iff_ne_none.mpr h)

section
variable (hfree : s.bist.run = none)
include hfree

theorem bistRun_free : s.bistRun = if bistDur (s.rd Od.BIST_TARGET) = 0 ||
      !s.draw.2.bistMay (s.rd Od.BIST_TARGET) s.draw.2.bist.idle (s.draw.1 % 2 = 1) then .error abState
    else
      let x := s.rd Od.BIST_TARGET
      let r := s.draw.2.bistStart x
      if bistTakes x then
        let r := if bistDom x = 6 then r.linkDown else if bistDom x = 5 then r.measStop else r
        .ok (r.updPwr fun p => { p with doms := p.doms.set (bistDom x) .test })
      else .ok r :=
  if_neg (show ¬s.bist.run.isSome = true by simp [hfree])

theorem bistRun_unfit (h : ¬s.bistFit) : s.bistRun = .error 0x010A :=
  (bistRun_free hfree).trans (if_pos (not_not.mp (mt bistFit_iff.mpr h)))

theorem bistRun_slice (h : s.bistFit) (htakes : bistTakes (s.rd Od.BIST_TARGET) = false) :
    s.bistRun = .ok (s.draw.2.bistStart (s.rd Od.BIST_TARGET)) :=
  (bistRun_free hfree).trans ((if_neg (bistFit_iff.mp h)).trans (if_neg (by simp [htakes])))

theorem bistRun_domain (h : s.bistFit) (htakes : bistTakes (s.rd Od.BIST_TARGET) = true) :
    let x := s.rd Od.BIST_TARGET
    let r := s.draw.2.bistStart x
    let r := if bistDom x = 6 then r.linkDown else if bistDom x = 5 then r.measStop else r
    s.bistRun = .ok (r.updPwr fun p => { p with doms := p.doms.set (bistDom x) .test }) :=
  (bistRun_free hfree).trans ((if_neg (bistFit_iff.mp h)).trans (if_pos htakes))

theorem bistAbort_idle : s.bistAbort = s := by
  unfold State.bistAbort
  rw [hfree]

end

section
variable {x t0 : Nat} (hrun : s.bist.run = some (x, t0))
include hrun

theorem bistAbort_runs :
    let dur := (s.now - t0) / 1000000 % 2 ^ 32
    let z := (s.updBist fun b => { b with run := none, st := .aborted, time := dur }).updMgr fun m => { m with
      rcLeft := [], rcRun := false }
    s.bistAbort = ((z.bistLog x .aborted 0 dur).bistBack x false).raise Flt.BIST_ABORT x := by
  unfold State.bistAbort
  rw [hrun]

/-! ### BIST_RUN_END (R548, R549) -/

theorem bistDone_runs (sig : BitVec 64) (addr : Nat) : s.bistDone sig addr = (s.bistEnd sig addr).rcNote :=
  if_pos (by simp [hrun])

theorem bistEnd_pass {sig : BitVec 64} (addr : Nat) (hgolden : Config.golden x = some sig) :
    let r := s.at_ (t0 + s.bistTime x)
    let dur := (r.now - t0) / 1000000 % 2 ^ 32
    let y := r.updBist fun b => { b with
      run := none, st := .pass, sig := sig.toNat, time := dur, fails := b.fails, held := b.held ||| 0, failAddr := 0xFFFFFFFF }
    s.bistEnd sig addr = (y.bistLog x .pass sig.toNat dur).bistBack x false := by
  unfold State.bistEnd
  rw [hrun]
  simp only [hgolden, if_true]
  rfl

theorem bistEnd_fail {sig : BitVec 64} (addr : Nat) (hgolden : Config.golden x ≠ some sig) :
    let r := s.at_ (t0 + s.bistTime x)
    let dur := (r.now - t0) / 1000000 % 2 ^ 32
    let y := r.updBist fun b => { b with
      run := none, st := .fail, sig := sig.toNat, time := dur, fails := up32 b.fails, held := b.held ||| bistWithdraws x
      failAddr := if bistMem x then addr % 2 ^ 32 else 0xFFFFFFFF }
    let z := (y.bistLog x .fail sig.toNat dur).bistBack x (bistWithdraws x ≠ 0 && bistWhole x)
    let z := if bistWithdraws x ≠ 0 && bistDom x = 6 && !bistWhole x then z.laneOff (bistSlice x) else z
    let z := if bistWithdraws x ≠ 0 && bistWhole x then z.reqBit (bistDom x) false else z
    s.bistEnd sig addr = z.raise Flt.BIST_FAIL x := by
  unfold State.bistEnd
  rw [hrun]
  simp only [hgolden, if_false]
  rfl

end

end

/-- Settles O53: each command of the fuses, of debug and of self-test comes to its owner, a read of SEC_ATTEST to `doRead`,
and each end is its defining equation. -/
theorem fusesDebugAttestationAndSelfTest : Obligations.FusesDebugAttestationAndSelfTest := by
  unfold Obligations.FusesDebugAttestationAndSelfTest
  refine ⟨fun q c v s hmem hs => ?fuse, fun t good s cmd a t0 hr h => next_awake hr (fuseDone_runs h),
    fun q img nonce s hs hlen => ?debug,
    fun q data s hs hlen => accepted_of_taken (execSecNonce_served q data hs hlen) rfl, fun q s hs => ?attest,
    fun q s hs => ?bist, fun sig addr s x t0 hr hrun => ?ends⟩
  case fuse =>
    have hserved := exec_fuseCmd hmem hs
    exact ⟨fun hfree hlegs hcheck => accepted_of_signedCmd hserved (fuseCmd_begins hfree hlegs hcheck),
      fun hfree hlegs hcheck hbusy => refused_of_signedCmd hserved (fuseCmd_unfit hfree hlegs hcheck) hcheck hbusy,
      fun hfree hlegs => refused_of_unsignedCmd hserved (fuseCmd_legs hfree hlegs) (by decide) (by decide) (by decide),
      fun hbusy => refused_of_signedBusy hserved (fuseCmd_busy hbusy), fun hkey hlen => fuseCheck_firstKey hkey hlen⟩
  case debug =>
    have hserved : exec (.secDebugUnlock q img) s = _ := execSecDebugUnlock_served q img hs hlen
    exact ⟨fun hlive hnonce hsig hbody hserial =>
        accepted_of_signed hserved (ownDebug_signed hlive hnonce hsig hbody hserial),
      fun h => refused_of_image hserved (ownDebug_closed h) (by decide) (by decide)⟩
  case attest =>
    have hread := exec_secAttest hs
    refine ⟨fun hnone => hread.trans (congrArg _ (doRead_error (attest_unarmed hnone))), fun nonce hnonce =>
      ⟨fun hfits => hread.trans (congrArg _ (doRead_fits (attest_armed hnonce) hfits)),
        fun hlong => hread.trans (congrArg _ (doRead_tooLong (attest_armed hnonce) hlong))⟩⟩
  case bist =>
    have hrun : exec (.bistRun q) s = _ := execBistRun_served q hs
    have habort : exec (.bistAbort q) s =
        .next ((s.upTo q.t).bistAbort.accepted q 2 0x1C00 0x01 2).clkSettle.serveStalled := execBistAbort_served q hs
    exact ⟨fun hfree hfit htakes => settled_of_taken hrun (bistRun_slice hfree hfit htakes),
      fun hfree hfit htakes => settled_of_taken hrun (bistRun_domain hfree hfit htakes),
      fun hfree hunfit => settled_of_refused hrun (bistRun_unfit hfree hunfit) (by decide),
      fun hbusy => settled_of_refused hrun (bistRun_busy hbusy) (by decide),
      fun hfree => habort.trans (by rw [bistAbort_idle hfree]), fun x t0 hruns => habort.trans (by rw [bistAbort_runs hruns])⟩
  case ends =>
    exact ⟨fun hgolden => next_awake hr (congrArg State.serveStalled
        ((bistDone_runs hrun sig addr.toNat).trans (congrArg State.rcNote (bistEnd_pass hrun addr.toNat hgolden)))),
      fun hgolden => next_awake hr (congrArg State.serveStalled
        ((bistDone_runs hrun sig addr.toNat).trans (congrArg State.rcNote (bistEnd_fail hrun addr.toNat hgolden))))⟩

end Sys2Proof.Machine
end

section
/-! PROOFS of the statements about reset, SLEEP and start-up (R495 to R510, R518, R519). -/

namespace Sys2Proof.Machine

/-! ### What a reset leaves (R503, R504) -/

/-- What raising a fault leaves alone stays through any number of raises. -/
theorem iter_raise_eq {α : Type} (part : State → α) {c i : Nat} (hpart : ∀ s : State, part (s.raise c i) = part s) (n : Nat)
    (s : State) : part (iter (fun r => r.raise c i) n s) = part s := by
  induction n generalizing s with
  | zero => rfl
  | succ n ih => exact (ih (s.raise c i)).trans (hpart s)

section
variable (s : State) (cause : Nat) (cold : Bool)

/-- The units are as after a cold reset. -/
theorem hwReset_units : let r := s.hwReset cause cold
    (r.legs, r.cars, r.slots, r.strings, r.mdats, r.le) = (State.reset.legs, State.reset.cars, State.reset.slots,
      State.reset.strings, State.reset.mdats, State.reset.le) :=
  iter_raise_eq (fun r => (r.legs, r.cars, r.slots, r.strings, r.mdats, r.le)) (fun _ => rfl) _ _

/-- Start-up begins at CARETAKER with the nominal clocks, and the queue has not moved. -/
theorem hwReset_startUp : let r := s.hwReset cause cold
    (r.clk.active, r.clk.relock, r.pwr.stage, r.pwr.doms, r.pending) =
      ({}, none, .caretaker, State.reset.pwr.doms, s.pending) :=
  iter_raise_eq (fun r => (r.clk.active, r.clk.relock, r.pwr.stage, r.pwr.doms, r.pending)) (fun _ => rfl) _ _

theorem hwReset_now : (s.hwReset cause cold).now = s.now := iter_raise_eq (·.now) (fun _ => rfl) _ _

theorem hwReset_gates : (s.hwReset cause cold).gates = s.gates.map fun g => { fkPin := g.fkPin, sn := g.sn } :=
  iter_raise_eq (·.gates) (fun _ => rfl) _ _

theorem hwReset_od : (s.hwReset cause cold).od =
    if cold then [] else s.od.filter fun e => e.1 = Od.SLEEP_WAKE.key || e.1 = Od.SLEEP_TIMER.key :=
  iter_raise_eq (·.od) (fun _ => rfl) _ _

theorem hwReset_ret : (s.hwReset cause cold).ret = if cold then { rstCause := cause } else { s.ret with
    rstCause := cause, rstCounts := s.ret.rstCounts.mapIdx fun i n => if cause.testBit i then up32 n else n } :=
  iter_raise_eq (·.ret) (fun _ => rfl) _ _

end

/-- A filter by keys keeps what a kept key finds, and hides the rest. -/
theorem find_filter_keys {m : OdStore} (keep : Nat → Bool) (k : Nat) (h : m.wf = true) :
    OdStore.find (m.filter fun e => keep e.1) k = if keep k then m.find k else none := by
  induction m with
  | nil => exact (ite_self _).symm
  | cons a m ih =>
    obtain ⟨hbelow, hm⟩ := wf_cons.mp h
    by_cases ha : keep a.1 = true
    · rw [List.filter_cons_of_pos (by exact ha)]
      simp only [OdStore.find, ih hm]
      by_cases hk : a.1 = k
      · simp [hk, hk ▸ ha]
      · simp only [hk, if_false]
        split
        · exact (ite_self _).symm
        · rfl
    · rw [List.filter_cons_of_neg (by exact ha), ih hm]
      by_cases hkeep : keep k = true
      · have hk : a.1 ≠ k := fun heq => ha (heq ▸ hkeep)
        simp only [hkeep, OdStore.find, hk, if_true, if_false]
        split
        · rename_i hlt
          exact find_eq_none_of_lt fun b hb => Nat.lt_trans hlt (hbelow b hb)
        · rfl
      · simp only [hkeep, if_false, Bool.false_eq_true]

/-! ### Resets by their pins (R495, R501, R503 to R505) -/

section
variable {s : State} {t w : Nat}

theorem pulseActs_short (h : w < us 10) : s.pulseActs w = (false, s) := if_pos h

theorem pulseActs_long (h : us 50 ≤ w) : s.pulseActs w = (true, s) :=
  (if_neg (Nat.not_lt.mpr (le_trans (by decide) h))).trans (if_pos h)

/-- The device 100 µs after the rise of a reset input, with what the caretaker notes of it. -/
def State.risen (s : State) (t w cause : Nat) (cold : Bool) (note : Power → Power) : State :=
  let r := ((s.at_ t).hwReset cause cold).at_ (t + w)
  (r.updPwr note).at_ (r.now + us 100)

def coldNote (start rise core : Nat) (p : Power) : Power := { p with
  resetAt := rise, coldAt := rise, sleep := false, lowFrom := start, heldTo := rise + us 100, coreTo := start + core }
def warmNote (start rise : Nat) (p : Power) : Power := { p with
  resetAt := rise, sleep := false, lowFrom := start, heldTo := rise + us 100 }

theorem porstN_long (core : Nat) (hw : us 50 ≤ w) : s.porstN t w core =
    let r := ((s.at_ t).hwReset 1 true).at_ (t + w)
    s.risen t w 1 true (coldNote (s.at_ t).now r.now core) := by
  unfold State.porstN
  simp only [pulseActs_long hw]
  rfl

theorem porstN_short (core : Nat) (hw : w < us 10) : s.porstN t w core = s.at_ t := by
  unfold State.porstN
  simp only [pulseActs_short hw]
  rfl

section
variable (hfree : s.pwr.held = false)
include hfree

theorem rstN_long (hw : us 50 ≤ w) (hshort : w ≤ secs 10) : s.rstN t w =
    let r := ((s.at_ t).hwReset 2 false).at_ (t + w)
    s.risen t w 2 false (warmNote (s.at_ t).now r.now) := by
  have hlong : decide (w > secs 10) = false := decide_eq_false (Nat.not_lt.mpr hshort)
  unfold State.rstN
  simp only [hfree, pulseActs_long hw, hlong, Bool.or_false]
  rfl

theorem rstN_short (hw : w < us 10) : s.rstN t w = s.at_ t := by
  unfold State.rstN
  simp only [hfree, pulseActs_short hw]
  rfl

theorem rstHeldLow_free :
    let r := ((s.at_ t).hwReset 2 false).at_ (t + secs 10)
    s.rstHeldLow t = { r with
      pwr := { r.pwr with held := true, alert := true, rstLow := some t, sleep := false }
      ret := { r.ret with rstHeld := true } } := if_neg (by simp [hfree])

end

theorem rstN_held (hheld : s.pwr.held = true) (hnoted : s.ret.rstHeld = true) :
    let r := s.at_ (t + w)
    let r := (r.updPwr fun p => { p with
      held := false, alert := false, rstLow := none, resetAt := r.now, lowFrom := p.rstLow.getD t
      heldTo := r.now + us 100 }).raise Flt.RST_HELD 0
    s.rstN t w = r.at_ (r.now + us 100) := by
  intro r r'
  refine (if_pos hheld).trans ?_
  exact congrArg (fun x : State => x.at_ (x.now + us 100)) (if_pos hnoted)

/-! ### The pins while a reset is held (R495, R501) -/

theorem pinAt_coreLow {x : Nat} (p : OutPin) (hfrom : s.pwr.lowFrom ≤ x) (hto : x < s.pwr.coreTo) :
    s.pinAt x p = if p = .alertN ∨ p = .hostIrqN then .released else .float := by
  rw [State.pinAt, if_pos (by simp [hfrom, hto])]
  cases p <;> rfl

theorem pinAt_held {x : Nat} (p : OutPin) (hfrom : s.pwr.lowFrom ≤ x) (hcore : s.pwr.coreTo ≤ x) (hto : x < s.pwr.heldTo) :
    s.pinAt x p = s.pinReset p := by
  rw [State.pinAt, if_neg (by simp [Nat.not_lt.mpr hcore]), if_pos (by simp [hfrom, hto])]

/-! ### The watchdog and SLEEP (R502, R503) -/

theorem hostWdExpiry_on (h : s.domOn 1 = true) :
    s.hostWdExpiry = (s.at_ (s.pwr.hostWdAt + ms 100)).hwReset 16 false := if_pos h

/-- An access wakes a domain. -/
def State.accessWaits (s : State) : Bool :=
  s.pwr.doms.any fun d => match d with
    | .waking _ 2 _ => true
    | _ => false

theorem sleepCmd_waits (h : s.accessWaits = true) : s.sleepCmd = .error 0x010B := if_pos h

section
variable (hnone : s.accessWaits = false)
include hnone

theorem sleepCmd_refused (h : s.legsEnabled ≠ 0 ∨ s.ring.st ≠ .alone) : s.sleepCmd = .error 0x010A :=
  (if_neg (Bool.not_eq_true _ ▸ hnone)).trans (if_pos (by simpa using h))

theorem sleepCmd_idle (hlegs : s.legsEnabled = 0) (hring : s.ring.st = .alone) :
    let x := s.linkDown.measStop
    s.sleepCmd = .ok (x.updPwr fun p => { p with
      sleep := true, sleepAt := x.now, doms := p.doms.mapIdx fun i d => if i = 0 then d else .off }) :=
  (if_neg (Bool.not_eq_true _ ▸ hnone)).trans (if_neg (by simp [hlegs, hring]))

end

theorem wakeN_asleep (hsleep : s.pwr.sleep = true) (hon : (s.rd Od.SLEEP_WAKE).testBit 0 = true) (hw : ms 1 ≤ w) :
    s.wakeN t w = (s.at_ (t + ms 1)).sleepEnds 3 := if_pos (by simp [hsleep, hon, hw])

theorem wakeN_ignored (h : s.pwr.sleep = false ∨ (s.rd Od.SLEEP_WAKE).testBit 0 = false ∨ w < ms 1) : s.wakeN t w = s :=
  if_neg (by rcases h with h | h | h <;> simp [h])

theorem sleepTimer_asleep (hsleep : s.pwr.sleep = true) (hon : (s.rd Od.SLEEP_WAKE).testBit 1 = true)
    (hset : s.rd Od.SLEEP_TIMER ≠ 0) :
    s.sleepTimer = (s.at_ (s.pwr.sleepAt + secs (s.rd Od.SLEEP_TIMER))).sleepEnds 4 := if_pos (by simp [hsleep, hon, hset])

/-! ### Start-up (R509, R518, R519) -/

/-- The stage that begins. -/
def State.goTo (s : State) (g : Stage) : State := s.updPwr fun p => { p with stage := g }

/-- FIRMWARE begins with what the ROM has found. -/
def State.romBoots (s : State) (i : Nat) : State :=
  let x := (s.bootRom i).updNor fun n => { n with nand := Config.nandFitted }
  let x := if Config.nandFitted then x else x.raise Flt.CEL_ABSENT 0
  ((x.logEvent logReset x.ret.rstCause).updPwr fun p => { p with
    hostWdAt := x.now, doms := (p.doms.set 1 .on).set 2 .on }).goTo .firmware

section
variable (t : Nat) (bad : Nat)

theorem bootStage_caretaker (h : s.pwr.stage = .caretaker) : s.bootStage t bad = ((s.at_ t).retLost bad).goTo .clocks := by
  unfold State.bootStage
  simp only [h]
  rfl

theorem bootStage_clocks (h : s.pwr.stage = .clocks) (hlock : s.clk.sysLock = true) :
    s.bootStage t bad = (s.at_ t).goTo .rom := by
  unfold State.bootStage
  simp only [h, hlock, if_true]
  rfl

/-- A NOR of a size that R536 lists. -/
theorem norSize_iff : (Config.norSize ≠ 33554432 && Config.norSize ≠ 67108864) = true ↔
    ¬(Config.norSize = 33554432 ∨ Config.norSize = 67108864) := by
  simp only [Bool.and_eq_true, decide_eq_true_eq, not_or, ne_eq]

theorem bootStage_rom (h : s.pwr.stage = .rom) : s.bootStage t bad =
    if Config.norSize = 33554432 ∨ Config.norSize = 67108864 then
      match s.nor.bootSlot with
      | none => (s.at_ t).goTo .failed
      | some i => (s.at_ t).romBoots i
    else (s.at_ t).goTo .failed := by
  unfold State.bootStage
  simp only [h]
  by_cases hsize : Config.norSize = 33554432 ∨ Config.norSize = 67108864
  · rw [if_pos hsize, if_neg (mt norSize_iff.mp (not_not.mpr hsize))]
    rfl
  · rw [if_neg hsize, if_pos (norSize_iff.mpr hsize)]
    rfl

theorem bootStage_firmware (h : s.pwr.stage = .firmware) : s.bootStage t bad = (s.at_ t).rebuildShut.goTo .config := by
  unfold State.bootStage
  simp only [h]
  rfl

theorem bootStage_config (h : s.pwr.stage = .config) :
    s.bootStage t bad = ((s.at_ t).endConfig.goTo .domains).bootDomains := by
  unfold State.bootStage
  simp only [h]
  rfl

theorem bootStage_domains (h : s.pwr.stage = .domains) (hready : s.waking = false) :
    let x := (s.at_ t).goTo .ready
    let x := x.updPwr fun p => { p with bootTime := (x.now - p.resetAt) / 1000000 % 2 ^ 32 }
    s.bootStage t bad = if s.ring.role = 0 then x.mgrListen else x := by
  unfold State.bootStage
  simp only [h, hready]
  rfl

end

end

/-- Settles O51: a pulse acts by its width, SLEEP and its wakes by what is enabled, and a stage ends by its own rule. -/
theorem resetsSleepAndStartUpRun : Obligations.ResetsSleepAndStartUpRun := by
  unfold Obligations.ResetsSleepAndStartUpRun
  refine ⟨fun t w c s hw => ⟨?porst, fun hfree hshort hnoted => congrArg _ (rstN_long hfree hw hshort)⟩,
    fun t w c s hw => ⟨congrArg _ (porstN_short c hw), fun hfree => congrArg _ (rstN_short hfree hw)⟩,
    fun t w s => ⟨fun hfree => congrArg _ (rstHeldLow_free hfree), fun hheld hnoted => congrArg _ (rstN_held hheld hnoted)⟩,
    fun s hr hon => next_awake hr (hostWdExpiry_on hon), fun q s hs => ?sleep,
    fun q s hs => accepted_of_taken (execRstCmd_served q hs) rfl,
    fun q s hs => accepted_of_taken (execHostWdService_served q hs) rfl,
    fun t w s hsleep => ⟨fun hon hw => congrArg _ (wakeN_asleep hsleep hon hw),
      fun hon hset => congrArg _ (sleepTimer_asleep hsleep hon hset)⟩,
    fun t w s h => congrArg _ (wakeN_ignored h), fun t bad s hr => ?boot⟩
  case porst =>
    intro b r u
    exact ⟨congrArg _ (porstN_long c hw), fun x p hfrom hto => pinAt_coreLow p hfrom hto,
      fun x p hcore hto hfrom => pinAt_held p hfrom hcore hto⟩
  case sleep =>
    have hserved : exec (.sleep q) s = _ := execSleep_served q hs
    exact ⟨fun hnone hlegs hring => accepted_of_taken hserved (sleepCmd_idle hnone hlegs hring),
      fun hnone h => refused_of_own hserved (sleepCmd_refused hnone h) (by decide),
      fun h => refused_of_own hserved (sleepCmd_waits h) (by decide)⟩
  case boot =>
    refine ⟨fun h => next_awake hr (bootStage_caretaker t bad h), fun h hlock => next_awake hr (bootStage_clocks t bad h hlock),
      fun h hnone => next_awake hr ?none, fun i h hslot => ?slot, fun h => next_awake hr (bootStage_firmware t bad h),
      fun h => next_awake hr (bootStage_config t bad h), fun h hready => next_awake hr (bootStage_domains t bad h hready)⟩
    case none =>
      refine (bootStage_rom t bad h).trans ?_
      rw [hnone]
      exact ite_self _
    case slot =>
      refine (next_awake hr (bootStage_rom t bad h)).trans ?_
      rw [hslot]
      split <;> rfl

/-! ### The state that a long pulse leaves (R504) -/

section
variable (s : State) (t w cause : Nat) (cold : Bool) (note : Power → Power)

theorem risen_now : (s.risen t w cause cold note).now = max (max s.now t) (t + w) + us 100 := by
  have hnow : ((s.at_ t).hwReset cause cold).now = max s.now t := hwReset_now ..
  show max (max ((s.at_ t).hwReset cause cold).now (t + w)) (max ((s.at_ t).hwReset cause cold).now (t + w) + us 100) = _
  rw [hnow]
  exact Nat.max_eq_right (Nat.le_add_right _ _)

theorem risen_gates : ∀ g ∈ (s.risen t w cause cold note).gates, g.gh = false ∧ g.gl = false := by
  have hgates : (s.risen t w cause cold note).gates = _ := hwReset_gates (s.at_ t) cause cold
  rw [hgates]
  intro g hg
  obtain ⟨g', -, rfl⟩ := List.mem_map.mp hg
  exact ⟨rfl, rfl⟩

theorem risen_rd_cold (r : Reg) : (s.risen t w cause true note).rd r = r.dflt :=
  State.rd_of_unlisted (by
    show OdStore.find ((s.at_ t).hwReset cause true).od r.key = none
    rw [hwReset_od]
    rfl)

variable (hwf : s.od.wf = true)
include hwf

theorem risen_find (k : Nat) : (s.risen t w cause false note).od.find k =
    if k = Od.SLEEP_WAKE.key || k = Od.SLEEP_TIMER.key then s.od.find k else none := by
  have hod : (s.risen t w cause false note).od = _ := hwReset_od (s.at_ t) cause false
  rw [hod]
  exact find_filter_keys (fun i => i = Od.SLEEP_WAKE.key || i = Od.SLEEP_TIMER.key) k hwf

theorem risen_rd_sleep {r : Reg} (h : r.key = Od.SLEEP_WAKE.key ∨ r.key = Od.SLEEP_TIMER.key) :
    (s.risen t w cause false note).rd r = s.rd r := by
  simp only [State.rd, OdStore.get, risen_find s t w cause note hwf]
  rw [if_pos (by simpa using h)]

theorem risen_rd_other {r : Reg} (hwake : r.key ≠ Od.SLEEP_WAKE.key) (htimer : r.key ≠ Od.SLEEP_TIMER.key) :
    (s.risen t w cause false note).rd r = r.dflt :=
  State.rd_of_unlisted ((risen_find s t w cause note hwf r.key).trans (if_neg (by simp [hwake, htimer])))

end

/-- What the caretaker notes at the rise of a reset input. -/
def State.riseNote (s : State) (t w core : Nat) (cold : Bool) : Power → Power :=
  let rise := (((s.at_ t).hwReset (if cold then 1 else 2) cold).at_ (t + w)).now
  if cold then coldNote (s.at_ t).now rise core else warmNote (s.at_ t).now rise

theorem riseNote_eq (s : State) (t w core : Nat) (cold : Bool) (p : Power) : let r := s.riseNote t w core cold p
    (r.resetAt, r.sleep, r.stage, r.doms) = (max (max s.now t) (t + w), false, p.stage, p.doms) := by
  have hrise : (((s.at_ t).hwReset (if cold then 1 else 2) cold).at_ (t + w)).now = max (max s.now t) (t + w) :=
    congrArg (max · (t + w)) (hwReset_now ..)
  simp only [State.riseNote, hrise]
  cases cold <;> rfl

theorem exec_resetPin {s : State} {t w core : Nat} (cold : Bool) (hfree : s.pwr.held = false) (hw : us 50 ≤ w)
    (hshort : w ≤ secs 10) : exec (if cold then .porstN t ⟨w, core⟩ else .rstN t w) s =
      .next (s.risen t w (if cold then 1 else 2) cold (s.riseNote t w core cold)) := by
  cases cold
  · exact congrArg _ (rstN_long hfree hw hshort)
  · exact congrArg _ (porstN_long core hw)

/-- Settles O59: a short pulse only lets time pass; a long one leaves what `hwReset` leaves, at the rise of the input. -/
theorem resetPulsesAreFilteredAndKeepTheRetention : Obligations.ResetPulsesAreFilteredAndKeepTheRetention := by
  unfold Obligations.ResetPulsesAreFilteredAndKeepTheRetention
  refine ⟨fun t w c s hfree hw => ⟨congrArg _ (rstN_short hfree hw), congrArg _ (porstN_short c hw)⟩,
    fun t w c s cold hfree hw hshort hwf => ⟨_, exec_resetPin cold hfree hw hshort, ?_⟩⟩
  obtain ⟨hlegs, hcars, hslots, hstrings, hmdats, hle⟩ : _ ∧ _ ∧ _ ∧ _ ∧ _ ∧ _ := by
    simpa only [Prod.mk.injEq] using hwReset_units (s.at_ t) (if cold then 1 else 2) cold
  obtain ⟨hactive, hrelock, hstage, hdoms, hpending⟩ : _ ∧ _ ∧ _ ∧ _ ∧ _ := by
    simpa only [Prod.mk.injEq] using hwReset_startUp (s.at_ t) (if cold then 1 else 2) cold
  obtain ⟨hreset, hsleep, hkept, hoff⟩ : _ ∧ _ ∧ _ ∧ _ := by
    simpa only [Prod.mk.injEq] using
      riseNote_eq s t w c cold (((s.at_ t).hwReset (if cold then 1 else 2) cold).at_ (t + w)).pwr
  have hret := hwReset_ret (s.at_ t) (if cold then 1 else 2) cold
  refine ⟨risen_now .., hreset, hlegs, hcars, hslots, hstrings, hmdats, hle, risen_gates s t w _ cold _, hactive, hrelock,
    hkept.trans hstage, hsleep, hoff.trans hdoms, hpending, ?cold, ?warm⟩
  case cold =>
    rintro rfl
    exact ⟨risen_rd_cold s t w _ _, hret⟩
  case warm =>
    rintro rfl
    exact ⟨hret, risen_rd_sleep s t w _ _ hwf (.inl rfl), risen_rd_sleep s t w _ _ hwf (.inr rfl),
      fun r hwake htimer => risen_rd_other s t w _ _ hwf hwake htimer⟩

end Sys2Proof.Machine
end
